-- ==== Sys2Proof/Word.lean ====
section
/-! DEFINITION. The word types of the EW6416: a register of the map is 32 bits (Chapter 21), an LU position is 40
bits (R5), bytes are 8 bits. Bit 0 is the least significant bit (R9). -/

namespace Sys2Proof

/-- A 32-bit register or register write value. -/
abbrev Word := BitVec 32

/-- One byte of a frame, a datagram, a section or memory. -/
abbrev Byte := BitVec 8

end Sys2Proof
end

