-- ==== Sys2Proof/Types.lean ====
section
/-! DEFINITION. The names that commands take as operands: fixed sets of the manual given as inductive types. -/

namespace Sys2Proof

/-- A 64-bit stitch of a lace stream (R100). -/
abbrev Stitch := BitVec 64

/-- Outcome of the device's reads of host memory for one burst (R471, R472). -/
inductive HostReply where
  | ok
  | poisoned
  | failed
deriving DecidableEq, Repr

/-- The PCIe configuration registers the manual gives contents of: Vendor and Device ID, Revision ID and Class Code, the
subsystem IDs, Link Control (ASPM, R501) and the MSI enable of functions 1 to 4 (R563). -/
inductive CfgReg where
  | vendorDevice
  | classRevision
  | subsystem
  | linkControl
  | msiControl
deriving DecidableEq, Repr

/-- An Ethernet frame that arrives at a MAC with a correct FCS, given without it (R399). -/
structure RxFrame where
  mac : Fin 8
  bytes : List Byte
deriving DecidableEq, Repr

/-- The space a host write goes to (Table 21-1): BAR0 or BAR2 of function 0, or the window of function j + 1. -/
inductive Space where
  | bar0
  | bar2
  | window (j : Fin 4)
deriving DecidableEq, Repr

end Sys2Proof
end

