-- ==== Sys2Proof/Syntax.lean ====
section
/-! DEFINITION. The commands and events of the EW6416: one constructor per row of spec/opcode_table.json, in its order. The
operands are what the row's event brings from outside the device: an address, a value, the bytes of a frame, an instant. -/

namespace Sys2Proof

/-- A command or event. -/
inductive Instr where
  /-- ARM (R35): ARM written to PLAN_STRIPE_CMD checks the stripe configuration, binds the lace scope and copies
  staged maps, moving IDLE to ARMED or refusing. -/
  | arm
  /-- DISARM (R35): DISARM written to PLAN_STRIPE_CMD returns an ARMED stripe to IDLE and stops its jobs. -/
  | disarm
  /-- START (R42): START written on the lead or solo device sends a verification frame round the cadence chain; a
  member ignores it and raises PLN_ROLE_COMMAND. -/
  | start
  /-- ABORT (R23): ABORT written to PLAN_STRIPE_CMD acts as DISARM in ARMED, aborts a running column on the lead,
  and is handled per role and state elsewhere. -/
  | abort
  /-- RELEASE (R35): RELEASE written to PLAN_STRIPE_CMD moves DONE or ABORTED to IDLE and clears the damp LATCH
  when no local damp source persists. -/
  | release
  /-- VERIFY_RETURN (R371): A VERIFY frame returning to the lead is judged, updating COLUMN_COMMITTED and, for a
  START verification, accepting the START or refusing it with PLN_COMMIT_REFUSED. -/
  | verifyReturn (l : List Byte)
  /-- VERIFY_TIMEOUT (R42): A START verification frame that has not returned within 10 us fails, and the START is
  refused. -/
  | verifyTimeout
  /-- PLN_UNDERRUN_DAMP (R45): A deferred underrun damp takes effect at its instant: damp peals on the device's
  own lanes, DAMP_OUT_N asserted and the abort cause recorded. -/
  | plnUnderrunDamp
  /-- AXES_SETTLED (R352): Once both axes have settled, the lead issues STRIPE_START or PASS_START, or issues DONE
  for the last pass no sooner than R316 allows. -/
  | axesSettled
  /-- CADENCE_SLOT (R362): Every 64 ns frame slot, the lead sends the highest-priority due frame, predicting and
  issuing beats and sending VERIFY or TICK frames. -/
  | cadenceSlot
  /-- BEAT_FRAME (R366): A received BEAT frame places beat k at its issue instant plus DT and is forwarded cut-
  through. -/
  | beatFrame (l : List Byte)
  /-- TICK_FRAME (R370): A TICK frame passing a device has the device's level, headroom and commitment merged into
  it. -/
  | tickFrame (l : List Byte)
  /-- VERIFY_FRAME (R369): A VERIFY frame passing a member has MISMATCH, NOT_COMMITTED, ORDER_BAD and FIRST_FAIL
  merged into it. -/
  | verifyFrame (l : List Byte)
  /-- CADENCE_FRAME_RETURN (R368): The lead compares each returning cadence frame with the frame it issued, and
  raises STG_RING_FAIL on a mismatch. -/
  | cadenceFrameReturn (l : List Byte)
  /-- STG_CADENCE_LOST (R367): A member detects a code, disparity, comma, SOF, CRC, SEQ or HOP error; it damps and
  aborts when running, and otherwise counts the chain as unverified. -/
  | stgCadenceLost (kind : Fin 3)
  /-- STRIPE_START (R366): The cadence STRIPE_START command executes at issue + H, moving every device from ARMED
  to RUN_IN of pass 0. -/
  | stripeStart (l : List Byte)
  /-- PASS_START (R366): The cadence PASS_START command executes at issue + H, moving RUN_OUT to RUN_IN of the
  named pass. -/
  | passStart (l : List Byte)
  /-- DONE (R366): The cadence DONE command executes at issue + H, moving RUN_OUT of the last pass to DONE. -/
  | done (l : List Byte)
  /-- SHIFT (R266): The cadence SHIFT command changes h by plus or minus 1 at its beat, or damps with
  PLN_SHIFT_RANGE when the change would exceed T. -/
  | shift (l : List Byte)
  /-- DAMP (R366): The cadence DAMP command acts as a cadence damp source at issue + H, carrying the cause. -/
  | damp (l : List Byte)
  /-- CAD_ABORT (R366): The cadence ABORT command damps and moves RUN_IN to RUN_OUT into ABORTED at issue + H. -/
  | cadAbort (l : List Byte)
  /-- CAD_RIMSHOT (R539): The cadence RIMSHOT command makes every device of the column capture a snapshot at issue
  + H. -/
  | cadRimshot (l : List Byte)
  /-- BEAM_CHECK (R285): The cadence BEAM_CHECK command opens the named beams at CODE for DWELL internal beats
  during a gate scan. -/
  | beamCheck (l : List Byte)
  /-- BEAT (R33): At a beat instant, beat k executes: the codes of its peals expose, and completion of the pass's
  last beat moves EXPOSING to RUN_OUT. -/
  | beat
  /-- PEAL_START (R295): At a beat peal's START time, the carillon sends one peal per lane, or no peal with
  CAR_LATE_PEAL or CAR_POISON when the codes are incomplete or poisoned. -/
  | pealStart
  /-- KEEP_ALIVE (R296): A keep-alive peal is sent when 700 ns or IDLE_NS would otherwise pass without a peal,
  carrying the trims and MEASURE commands. -/
  | keepAlive (n : Fin 16)
  /-- TL40_FRAME_START (R328): In TL-40 mode, the frame of beat k starts on each of the personality's lanes after
  external edge k - 1. -/
  | tl40FrameStart (j : Fin 4)
  /-- DAMP_SOURCE (R303): A damp source reaching the damp generators ends the frames in transmission with ABORT
  blocks and sends hard damp peals; a local source sets LATCH. -/
  | dampSource (loc : Bool) (code : BitVec 16) (node : BitVec 14)
  /-- DAMP_N_ASSERTED (R532): An external assertion of DAMP_N drives the damp generators and raises
  SAF_DAMP_EXTERNAL when LATCH is clear. -/
  | dampNAsserted
  /-- DAMP_N_DEASSERTED (R303): DAMP_N rising hands the lanes back to the carillon when no damp source is active
  and LATCH is clear. -/
  | dampNDeasserted
  /-- LATCH_CLEAR (R304): A write of 1 to CARIL_DAMP_STATUS.LATCH clears LATCH unless a local damp source
  persists. -/
  | latchClear
  /-- STATUS_ECHO (R314): A STATUS echo frame updates ECHO_OK, the temperature level, the EPOCH and counts, and
  may raise CAR_BEAT_LOST as a damp source. -/
  | statusEcho (n : Fin 18) (complete : Bool) (l : List Byte)
  /-- MEASURE_ECHO (R312): A MEASURE echo frame delivers the electrode measurements of an electrical scan. -/
  | measureEcho (n : Fin 18) (complete : Bool) (l : List Byte)
  /-- TRAIN_ECHO (R319): A TRAIN echo frame applies a tap request and advances training; in DATA it causes a
  retrain with CAR_RETRAIN_REQUEST. -/
  | trainEcho (n : Fin 18) (complete : Bool) (l : List Byte)
  /-- ECHO_TIMEOUT (R313): When no valid echo frame arrives for ECHO_US, the device raises CAR_ECHO_LOST and
  clears ECHO_OK, damping when running. -/
  | echoTimeout (n : Fin 18)
  /-- TRAIN_FRAME (R317): In TRAINING the device sends a train frame at least once per microsecond. -/
  | trainFrame (n : Fin 18) (adapted : Bool)
  /-- TRAIN_TIMEOUT (R320): A lane not in DATA TRAIN_MS after entering TRAINING goes to FAILED and raises
  CAR_TRAIN_FAIL. -/
  | trainTimeout (n : Fin 18)
  /-- RETRAIN (R317): LANE_CMD RETRAIN puts the selected lane into TRAINING, or is refused in ARMED to RUN_OUT. -/
  | retrain
  /-- EYE_CAL (R325): LANE_CMD EYE_CAL starts a phase sweep on the lane's auxiliary sampler, or is refused in
  ARMED to RUN_OUT. -/
  | eyeCal
  /-- EYE_CAL_DONE (R325): The end of an eye sweep stages a plausible centre, or discards an implausible one with
  CAR_EYE_IMPLAUSIBLE. -/
  | eyeCalDone (n : Fin 18) (clear : BitVec 64)
  /-- TX_SLEEP (R323): LANE_CMD TX_SLEEP puts the lane's TX into electrical idle, unless the lane is busy. -/
  | txSleep
  /-- TX_WAKE (R324): LANE_CMD TX_WAKE wakes the lane's TX, which sends IDLE blocks and then resumes without
  training. -/
  | txWake
  /-- RX_SLEEP (R323): LANE_CMD RX_SLEEP puts the lane's RX to sleep, keeping its equaliser state. -/
  | rxSleep
  /-- RX_WAKE (R324): LANE_CMD RX_WAKE wakes the lane's RX. -/
  | rxWake
  /-- LANE_WAKE_DONE (R324): A woken TX or RX reaches DATA after its wake interval. -/
  | laneWakeDone (n : Fin 18) (tx : Bool)
  /-- MET_SAMPLE (R338): A complete metrology word is judged good or discarded, then feeds speed, direction,
  compare, settling, lost detection and yaw. -/
  | metSample (c : Fin 4) (w : BitVec 64) (tref : BitVec 64)
  /-- RECENTRE_BLOCK (R386): At tb(k) - ADV_NS an extra DEFL block is sent on TX[16] with h_dfl changed and SHIFT
  = 1. -/
  | recentreBlock
  /-- MET_CAL (R342): STAGE_MET_CMD CAL starts a sampling-phase calibration of the selected channel, or raises
  STG_BUSY. -/
  | metCal
  /-- MET_CAL_DONE (R342): The end of a phase calibration stages a plausible phase, or raises
  STG_MET_CAL_IMPLAUSIBLE. -/
  | metCalDone (c : Fin 4) (clear : BitVec 64) (good : BitVec 9)
  /-- CMP_ARM (R346): STAGE_CMP_CMD ARM arms the compare when the target lies ahead, and otherwise raises
  STG_COMPARE_BEHIND. -/
  | cmpArm
  /-- CMP_DISARM (R347): STAGE_CMP_CMD DISARM disarms the position compare. -/
  | cmpDisarm
  /-- PROFILE_UPDATE (R349): Every 100 ns the profile generator advances each axis's jerk-limited trajectory
  state. -/
  | profileUpdate
  /-- MOVE (R351): STAGE_MOVE_CMD MOVE plans a move of both axes to their targets, replacing any move in progress. -/
  | move
  /-- STOP (R351): STAGE_MOVE_CMD STOP stops both axes within the limits. -/
  | stop
  /-- SETPOINT_FRAME (R354): Every 1 / SP_FRAME_HZ the set-point port sends a 128-bit frame with the planned
  state. -/
  | setpointFrame
  /-- BEAT_EXT_EDGE (R360): A rising edge on BEAT_EXT_P/N is counted and timestamped, becoming a beat with SRC = 1
  or in TL-40 mode; saturation raises STG_BEAT_BURST. -/
  | beatExtEdge
  /-- BEAT_STALL_TIMEOUT (R359): A beat not issued within STALL_US raises STG_BEAT_STALL as a local damp source
  and aborts the stripe. -/
  | beatStallTimeout
  /-- TEMP_PROJECTION (R374): Every 100 us at column level 2 in EXPOSING, the lead projects the headroom and
  raises STG_TEMP_HARD when it is too low. -/
  | tempProjection
  /-- TEMP_HOLD_TIMEOUT (R374): After HOLD_MS held in RUN_OUT at level 2, the lead raises STG_TEMP_HOLD and
  aborts. -/
  | tempHoldTimeout
  /-- SWAP (R390): TRACK_BANK_CMD SWAP makes the shadow coefficient bank active, at once or from the next cycle. -/
  | swap
  /-- CLEAR (R384): TRACK_REP_CMD CLEAR zeroes the axis's learning table, FILL and READY. -/
  | clear
  /-- TRACK_MAP_DATA_WRITE (R395): A write to TRACK_MAP_DATA stores an entry, advances TRACK_MAP_INDEX, and sets
  READY for a learning table. -/
  | trackMapDataWrite (v : BitVec 32)
  /-- TRACK_REP_CFG_WRITE (R384): A write to TRACK_REP_CFG sets the period and clears the learning table as CLEAR
  does. -/
  | trackRepCfgWrite (v : BitVec 32)
  /-- TILE_ISSUE (R164): A tile is issued to a free bobbin once its lines are ready and the store has room. -/
  | tileIssue (b : Fin 32)
  /-- TILE_COMPLETE (R166): A bobbin finishes a tile and holds the result, with dual comparison and a third run
  where configured. -/
  | tileComplete (b : Fin 32) (wrong : List (Nat × Nat)) (refetch : Bool)
  /-- TILE_DELIVER (R166): Tile results are delivered to the correction engines in ascending tile index once every
  lower tile has been delivered. -/
  | tileDeliver
  /-- LIVE_JOB_COMPLETE (R254): A live job's result is checked against EXPECT_CRC32 and CHECK and written to the
  live buffer, or raises STO_LIVE_MISMATCH. -/
  | liveJobComplete (b : Fin 32) (wrong : List (Nat × Nat)) (refetch : Bool)
  /-- BOB_WATCHDOG (R187): A job running longer than BOB_WATCHDOG_US is abandoned and reissued, and its bobbin
  takes a strike. -/
  | bobWatchdog (b : Fin 32)
  /-- BOB_SRAM_UNCORR (R188): An uncorrectable error in a bobbin's SRAM abandons and reissues its job, with a
  strike. -/
  | bobSramUncorr (b : Fin 32)
  /-- BOB_DISABLE_WRITE (R182): A write to BOB_DISABLE takes bobbins out of service after their current jobs, or
  returns them at once, and re-forms the reserve. -/
  | bobDisableWrite (v : BitVec 32)
  /-- BOB_FAIL_MASK_CLEAR (R189): A W1C write to BOB_FAIL_MASK clears failed bobbins, only while every pipeline is
  IDLE. -/
  | bobFailMaskClear (v : BitVec 32)
  /-- CORR_ROW_FINAL (R207): When cell rows become final, correction delivers target dose of the 32-line block
  rows that use only final rows to the store. -/
  | corrRowFinal
  /-- EDGING_RECORD (R212): A received edging record is checked, stored or compared, and answered ACK, NOT_READY
  or MISMATCH. -/
  | edgingRecord (l : List Byte)
  /-- EDGING_REPLY (R645): A received reply settles the matching kept edging or seam record. -/
  | edgingReply (l : List Byte)
  /-- EDGING_RETRY (R210): Every CORR_EDGING_RETRY us, unacknowledged edging and seam records are sent again. -/
  | edgingRetry
  /-- COR_EDGING_LOST (R214): Correction waiting CORR_EDGING_TIMEOUT on a partner marks it late in CORR_LOST_MASK. -/
  | corEdgingLost (d : Fin 64)
  /-- STORE_ROW_VERIFY (R246): A coded block row is read back and verified, with live rewrite on failure, live-
  cost update and feasibility re-evaluation. -/
  | storeRowVerify
  /-- STORE_LINE_DELIVER (R248): The store delivers line n to the planner at pass-relative beat n - 96, or as soon
  as it is verified. -/
  | storeLineDeliver
  /-- SEAM_RECORD (R278): A received seam record is checked, stored and answered ACK or NOT_READY, and its
  EDGE_CRC and PLAN_CRC are compared. -/
  | seamRecord (l : List Byte)
  /-- PLN_SEAM_LOST (R278): A neighbour's awaited seam record CORR_EDGING_TIMEOUT late marks that side lost. -/
  | plnSeamLost (d : Fin 2)
  /-- ELECTRICAL (R284): PLAN_SCAN_CMD ELECTRICAL starts the electrical beam scan through MEASURE requests. -/
  | electrical
  /-- GATE (R285): PLAN_SCAN_CMD GATE starts the detector-gate beam scan of device TARGET. -/
  | gate
  /-- SCAN_ABORT (R287): PLAN_SCAN_CMD ABORT ends a scan within 10 us and fills its result slot with
  PLN_SCAN_IMPLAUSIBLE. -/
  | scanAbort
  /-- SCAN_DONE (R287): A scan ends by writing PLAN_SCAN_TABLE, applying plausible results to the staged maps, and
  filling its result slot. -/
  | scanDone
  /-- LACE_OPEN (R142): LACE_CMD OPEN opens the selected scope with its stream ID, source and buffer, and sets the
  expected SEQ to 0. -/
  | laceOpen
  /-- LACE_CLOSE (R144): LACE_CMD CLOSE discards the scope's chunks, unless the scope is bound to a running
  stripe. -/
  | laceClose
  /-- CHUNK_OPEN_ARRIVES (R151): A UDP flow's CHUNK_OPEN head is judged against the buffer's free space, rejecting
  the chunk with LAC_BUFFER when it does not fit. -/
  | chunkOpenArrives (i : Fin 2) (w : Stitch)
  /-- CHUNK (R147): A whole chunk is checked in phase order and accepted or rejected, updating LACE_LINES_READY or
  the reject registers. -/
  | chunk (i : Fin 2) (l : List Stitch)
  /-- REGISTER (R137): LACE_LIB_CMD REGISTER checks a library's CRC and format in CHECK_PRIV[1]. -/
  | register
  /-- REGISTER_DONE (R138): The end of a registration makes the slot VALID or records the failure, and raises the
  LACE completion interrupt. -/
  | registerDone
  /-- UNREGISTER (R139): LACE_LIB_CMD UNREGISTER invalidates a library slot and its cached lines. -/
  | unregister
  /-- LOAD (R80): PRICK_CMD LOAD starts fetching, verifying and applying a host-loaded pricking image, or raises
  PRK_BUSY. -/
  | load
  /-- VERIFY (R80): PRICK_CMD VERIFY starts checking a host image without applying it. -/
  | verify
  /-- IMAGE_SECTION_ARRIVES (R80): Each fetched part of an image is staged and checked for order, format and CRC
  as it arrives. -/
  | imageSectionArrives (bytes : List Byte) (reply : HostReply)
  /-- LOAD_END (R99): A load or verify ends by applying the image or recording the rejection, and raises the PRICK
  completion interrupt. -/
  | loadEnd
  /-- DATA_DATAGRAM (R404): A DATA transport datagram is accepted into lace intake or discarded as other-stream,
  over-credit, ahead or duplicate, with a NAK where due. -/
  | dataDatagram (l : RxFrame)
  /-- EDGE_DATAGRAM (R407): An EDGE transport datagram passes its record to the edging or seam record checks. -/
  | edgeDatagram (l : RxFrame)
  /-- CTRL_DATAGRAM (R403): A received CTRL datagram is discarded without fault. -/
  | ctrlDatagram (l : RxFrame)
  /-- CTRL_PERIODIC (R405): Every CTRL_US, a CTRL datagram is sent for each flow named by an open scope. -/
  | ctrlPeriodic
  /-- PTP_FRAME_RX (R470): An accepted PTP frame is timestamped and given to a waiting PTP_RECV, or dropped and
  counted. -/
  | ptpFrameRx (mac : Fin 8) (l : List Byte)
  /-- NET_LINK_DOWN (R407): A MAC losing link holds its traffic and discards any frame in reception. -/
  | netLinkDown (mac : Fin 8)
  /-- LINK_UP (R397): A port regains link and resumes sending held traffic. -/
  | linkUp (mac : Fin 8)
  /-- CLOCK_STEP (R411): Every 2 ns the local clock adds INC = 2^41 + ADJ to its value and carries into SEC. -/
  | clockStep
  /-- TRIGGER_FIRE (R417): An armed trigger whose target device time is reached fires its action and disarms. -/
  | triggerFire (t : Fin 4)
  /-- PPS_OUT_RISE (R418): With OUT_EN set and time valid, PPS_OUT rises when NS reaches TIME_PPS_OFFSET. -/
  | ppsOutRise
  /-- PPS_OUT_FALL (R418): PPS_OUT falls WIDTH_US after it rose. -/
  | ppsOutFall
  /-- PPS_IN_EDGE (R419): A PPS_IN rising edge captures device time and increments TIME_PPS_IN_SEQ. -/
  | ppsInEdge
  /-- APPLY (R414): TIME_SERVO_CMD APPLY steps or slews the local clock by the written offset, or refuses it. -/
  | apply
  /-- FORCE (R414): TIME_SERVO_CMD FORCE with APPLY applies the offset as a step. -/
  | force
  /-- RESTART (R413): TIME_SERVO_CMD RESTART makes time invalid, sets FIRST, zeroes FI and ADJ, and disarms
  triggers. -/
  | restart
  /-- SET (R415): TIME_CMD SET loads device time from TIME_SET as a step. -/
  | set
  /-- LATCH (R420): TIME_CMD LATCH captures device time and the stage time base at one instant. -/
  | latch
  /-- TRIG_ARM (R417): TIME_TRIG_CMD ARM arms the selected trigger, or refuses it as past or invalid. -/
  | trigArm
  /-- TRIG_DISARM (R417): TIME_TRIG_CMD DISARM disarms the selected trigger. -/
  | trigDisarm
  /-- DRAM_READ (R438): A DRAM read is decoded and classified clean, corrected, address fault or uncorrectable,
  delivering data or poison. -/
  | dramRead (src : BitVec 8) (a : BitVec 36) (act : Bool) (at_ : BitVec 36) (flipData : BitVec 128) (flipCheck : BitVec 16) (sram : Bool)
  /-- DRAM_WRITE (R435): A DRAM write stores data with its address-folded check bits in source order. -/
  | dramWrite (src : BitVec 8) (a : BitVec 36) (act : Bool) (data : List Byte)
  /-- RH_WINDOW (R432): Every WINDOW_MS all row-disturbance trackers are cleared. -/
  | rhWindow
  /-- RH_HOLD_EXPIRE (R433): A source's throttle hold ends after HOLD_US. -/
  | rhHoldExpire
  /-- REFRESH (R430): A per-bank refresh falls due at the stack's current refresh interval. -/
  | refresh (_stack : Fin 2) (_bank : Fin 1024)
  /-- STACK_TEMP_READ (R430): Every 1 ms each stack's temperature is read, setting its refresh rate and the stack-
  hot condition. -/
  | stackTempRead (t0 t1 : BitVec 8)
  /-- REMAP (R429): HBM_CMD REMAP copies the staged hash masks to the active ones and refills all DRAM, or is
  refused. -/
  | remap
  /-- FILL_DONE (R445): The end of a DRAM fill reads back every pseudo-channel, marking failing ones, and releases
  held requests. -/
  | fillDone (bad : BitVec 64)
  /-- SCRUB_START (R446): HBM_SCRUB_CMD START begins scrubbing the configured range, or is refused. -/
  | scrubStart
  /-- SCRUB_ABORT (R448): HBM_SCRUB_CMD ABORT ends the scrub within 10 us and fills its slot. -/
  | scrubAbort
  /-- SCRUB_DONE (R448): A scrub reaching the end of its range fills its result slot. -/
  | scrubDone
  /-- INJECT (R449): HBM_INJECT_CMD with MODE 1 to 3 arms an error injection on the next write of the codeword. -/
  | inject (mode : BitVec 2)
  /-- INJECT_DISARM (R449): HBM_INJECT_CMD with MODE 0 disarms the injection. -/
  | injectDisarm
  /-- RING_ENABLE (R460): RING_CMD ENABLE moves a DISABLED or STOPPED ring to RUNNING. -/
  | ringEnable (page : Option (Fin 64))
  /-- RING_DISABLE (R460): RING_CMD DISABLE stops fetching, and the ring becomes DISABLED when DONE equals HEAD. -/
  | ringDisable (page : Option (Fin 64))
  /-- RING_ABORT (R473): RING_CMD ABORT stops fetching and ends every in-flight operation with ABORTED. -/
  | ringAbort (page : Option (Fin 64))
  /-- RING_RESET (R460): RING_CMD RESET sets TAIL, HEAD and DONE to 0 in DISABLED. -/
  | ringReset (page : Option (Fin 64))
  /-- RING_TAIL_WRITE (R459): A write to RING_TAIL posts descriptors, and raises HST_RING_OVERRUN when it overruns
  the ring. -/
  | ringTailWrite (page : Option (Fin 64)) (v : BitVec 16)
  /-- DESC_FETCH (R461): A RUNNING ring fetches the descriptor at HEAD when its conditions hold, claiming its
  result slot. -/
  | descFetch (n : Fin 64) (host : List (List Byte))
  /-- COPY (R465): A COPY operation starts on a DMA channel and copies each chain element. -/
  | copy (n : Fin 64)
  /-- FILL (R465): A FILL operation starts and writes PARAM to every word of each element. -/
  | fill (n : Fin 64)
  /-- COMPARE (R465): A COMPARE operation starts and compares words of SRC with DST or PARAM. -/
  | compare (n : Fin 64)
  /-- FENCE (R468): A FENCE operation waits for the ring's earlier operations and their writes to reach their
  ordering points. -/
  | fence (n : Fin 64)
  /-- NOTIFY (R465): A NOTIFY operation writes PARAM to DST. -/
  | notify (n : Fin 64)
  /-- LACE_PUSH (R469): A LACE_PUSH operation passes stitches to the named scope's intake, waiting for buffer
  room. -/
  | lacePush (n : Fin 64)
  /-- PTP_SEND (R470): A PTP_SEND operation transmits a PTP frame and returns its timestamp. -/
  | ptpSend (n : Fin 64) (host : List Byte) (reply : HostReply)
  /-- PTP_RECV (R470): A PTP_RECV operation waits for the next PTP frame of its MAC. -/
  | ptpRecv (n : Fin 64)
  /-- DMA_BURST (R467): A data burst of up to 512 bytes is checked for range and protection and then performed. -/
  | dmaBurst (n : Fin 64) (c : BitVec 16) (src dst : List Byte) (reply : HostReply)
  /-- OP_COMPLETE (R475): An operation completes, filling its result slot, advancing DONE, raising its vector and
  stopping the ring on failure. -/
  | opComplete (n : Fin 64) (c : BitVec 16)
  /-- SLOT_RELEASE (R477): A write to a slot's RELEASE frees a READY slot whose SEQ matches, and is otherwise
  ignored with HST_SLOT_RELEASE. -/
  | slotRelease (page : Option (Fin 64)) (k : Fin 32) (v : BitVec 32)
  /-- RING_GRANT_WRITE (R458): A write to RING_GRANT grants a ring group, or revokes it by aborting its rings and
  freeing its slots. -/
  | ringGrantWrite (v : BitVec 32)
  /-- MSIX_UNMASK (R478): Unmasking an MSI-X vector delivers its pending raising. -/
  | msixUnmask (v : Fin 128)
  /-- FLR_FUNCTION_0 (R559): A function-level reset of function 0 aborts rings, revokes grants, frees slots and
  aborts or disarms stripes. -/
  | flrFunction0
  /-- FLR_TL40 (R585): A function-level reset of a TL-40 function acts as FIFO_RESET and resets that personality's
  window. -/
  | flrTl40 (j : Fin 4)
  /-- CONFIG_REQUEST (R555): A PCIe configuration request is answered with CRS until the function set is fixed,
  and normally afterwards. -/
  | configRequest (f : Fin 8) (r : CfgReg) (wr : Option Word)
  /-- REG_WRITE (R606): A BAR0 write to a register without a row of its own sets its fields, subject to access
  codes, locks, partial-write and unmapped rules. -/
  | regWrite (sp : Space) (off : BitVec 32) (v : BitVec 32) (whole : Bool)
  /-- PLL_UNLOCK (R486): A PLL losing lock holds its islands in reset and raises CLK_PLL_UNLOCK, a damp source
  when running. -/
  | pllUnlock (p : Fin 6)
  /-- FREQ_CHECK (R486): Every 10 us each island's clock is counted, and an island more than 1 % off is held in
  reset with CLK_FREQ_ERROR. -/
  | freqCheck (i : Fin 24) (khz : BitVec 21)
  /-- CLOCK_RECOVERED (R486): A clock correct again for 100 us releases its islands from reset. -/
  | clockRecovered (isPll : Bool) (n : Fin 24)
  /-- XING_REOPEN (R495): After a side's reset release, a crossing reopens once each side has seen the other's
  READY. -/
  | xingReopen (x : Fin 96)
  /-- ENTER_HUSH (R500): POWER_CMD ENTER_HUSH requests HUSH entry, judged by the entry conditions. -/
  | enterHush
  /-- ENTER_DORMANT (R500): POWER_CMD ENTER_DORMANT requests HUSH and then DORMANT entry. -/
  | enterDormant (smb : Bool)
  /-- WAKE (R505): POWER_CMD WAKE is a CMD wake event that starts exit from HUSH or DORMANT. -/
  | wake
  /-- HUSH_IDLE_TIMER (R500): Expiry of the HUSH idle timer raises an automatic HUSH entry request. -/
  | hushIdleTimer
  /-- DORMANT_IDLE_TIMER (R500): Expiry of the DORMANT idle timer raises an automatic DORMANT entry request. -/
  | dormantIdleTimer (smb : Bool)
  /-- HUSH_ENTRY_DONE (R502): HUSH entry reaches its PNR and completes, activating staged values and retaining
  pillows and CORR. -/
  | hushEntryDone (smb : Bool)
  /-- DORMANT_ENTRY_DONE (R502): DORMANT entry passes its PNR and completes, powering down and retaining islands. -/
  | dormantEntryDone
  /-- WAKE_EVENT (R504): A wake source event is latched, aborting an entry before its PNR or starting exit. -/
  | wakeEvent (src : Fin 8)
  /-- EXIT_DONE (R505): Exit from HUSH or DORMANT reaches RUN and performs held writes and accesses. -/
  | exitDone
  /-- PWR_AON_BROWNOUT (R508): An always-on regulator brown-out of 1 us puts the device into power-on reset and
  records the cause. -/
  | pwrAonBrownout
  /-- ARBITER_WINDOW (R514): Every 100 ns window the arbiter estimates fixed power and demands and sets the next
  window's grants. -/
  | arbiterWindow (fixed d0 d1 d2 d3 : BitVec 16)
  /-- PMBUS_READBACK (R512): SETTLE_US after a VOUT_COMMAND, READ_VOUT confirms the rail, or PWR_PMBUS_FAIL is
  raised. -/
  | pmbusReadback (mode : Option (BitVec 8)) (vout : Option (BitVec 16))
  /-- PMBUS_FAIL_CLEAR (R512): A write of 1 to POWER_STATE.PMBUS_FAIL clears the PMBus failure condition. -/
  | pmbusFailClear
  /-- COMPUTE (R520): CHECK_CMD COMPUTE computes a check value over the range into CHECK_RESULT. -/
  | compute
  /-- APPEND (R520): CHECK_CMD APPEND writes the range's check value after the range. -/
  | append
  /-- STRIP (R520): CHECK_CMD STRIP compares the trailing check value with the value over the rest of the range. -/
  | strip
  /-- CHECK_COMPARE (R520): CHECK_CMD COMPARE compares the range's check value with CHECK_EXPECT. -/
  | checkCompare
  /-- CHECK_ABORT (R524): CHECK_CMD ABORT ends a running check command with outcome ABORTED. -/
  | checkAbort
  /-- CHECK_DONE (R522): A check command ends with its outcome, raising CHK_MISMATCH or CHK_PRIV_MISMATCH where
  due. -/
  | checkDone (u : Fin 10)
  /-- FAULT_HANDLE (R528): AON handles a fault raising: counts, FAULT_FIRST, the log entry and the selected
  actions. -/
  | faultHandle
  /-- SAF_ISLAND_STALL (R534): An island that makes no crossing progress for LIMIT_US is marked stalled, and damps
  when running. -/
  | safIslandStall (i : Fin 24)
  /-- SAF_ISLAND_RESET (R535): An island still stalled LIMIT_US later is reset when RESET_EN = 1. -/
  | safIslandReset (i : Fin 24)
  /-- JUNCTION_TEMP_CROSS (R536): The junction temperature rising through 100 C or 110 C raises SAF_JUNCTION_SOFT
  or SAF_JUNCTION_HARD. -/
  | junctionTempCross (tj : BitVec 12)
  /-- SAF_THERMAL_TRIP (R537): The junction reaching 115 C trips: damp, THERMTRIP_N low, and every island other
  than AON OFF. -/
  | safThermalTrip
  /-- SNAP_RIMSHOT (R538): SNAP_CMD RIMSHOT raises a rimshot from source 0. -/
  | snapRimshot
  /-- RIMSHOT_IN_EDGE (R538): A rising edge on RIMSHOT_IN raises a rimshot from source 1. -/
  | rimshotInEdge
  /-- SNAP_CAPTURE_DONE (R538): Captured words from every running island reach AON, completing the snapshot. -/
  | snapCaptureDone
  /-- SNAP_RELEASE (R540): SNAP_CMD RELEASE clears HELD and leaves the snapshot words readable. -/
  | snapRelease
  /-- SMB_STATUS_READ (R542): SMBus command 0x01 returns six status words. -/
  | smbStatusRead
  /-- SMB_FAULT_CODE_SET (R542): SMBus command 0x02 sets the fault code for command 0x03. -/
  | smbFaultCodeSet (code : BitVec 16) (pec : Option (BitVec 8))
  /-- SMB_FAULT_CODE_READ (R542): SMBus command 0x03 returns the status and action of that fault code. -/
  | smbFaultCodeRead
  /-- SMB_LOG_INDEX_SET (R542): SMBus command 0x04 sets the log entry index. -/
  | smbLogIndexSet (idx : BitVec 8) (pec : Option (BitVec 8))
  /-- SMB_LOG_READ (R542): SMBus command 0x05 returns the indexed log entry. -/
  | smbLogRead
  /-- SMB_SNAP_GROUP_SET (R542): SMBus command 0x06 sets the snapshot word group. -/
  | smbSnapGroupSet (g : BitVec 8) (pec : Option (BitVec 8))
  /-- SMB_SNAP_READ (R542): SMBus command 0x07 returns eight snapshot words. -/
  | smbSnapRead
  /-- SMB_CAUSE_READ (R542): SMBus command 0x08 returns the brown-out, trip and wake causes. -/
  | smbCauseRead
  /-- SMB_WAKE (R542): SMBus command 0x10 is a wake event from source 2. -/
  | smbWake (pec : Option (BitVec 8))
  /-- SMB_RIMSHOT (R542): SMBus command 0x11 raises a rimshot from source 0. -/
  | smbRimshot (pec : Option (BitVec 8))
  /-- POWER_ON_RESET (R549): Release of the internal power-on reset starts the cold boot: fuses, reset cause,
  flash load and the boot phases. -/
  | powerOnReset (smb : BitVec 2) (ta tb : Bool)
  /-- SYS_RST (R546): SYS_RST_N held low for at least 1 us causes a cold reset. -/
  | sysRst (ta tb : Bool)
  /-- PERST_ASSERT (R558): PERST_N asserted causes a warm reset, keeping DRAM in self-refresh. -/
  | perstAssert
  /-- PERST_DEASSERT (R554): PERST_N deasserted starts PCIe link training. -/
  | perstDeassert
  /-- WARM (R547): GLOBAL_RESET_CMD WARM with KEY 0xA5 causes a warm reset, and any other write raises
  RST_BAD_REQUEST. -/
  | warm (key : BitVec 8)
  /-- COLD (R547): GLOBAL_RESET_CMD COLD with KEY 0xA5 causes a cold reset. -/
  | cold (key : BitVec 8) (ta tb : Bool)
  /-- RST_BOOT_HALT (R552): A PLL not locked within 1 ms, or stacks not initialised in time, halt the boot. -/
  | rstBootHalt (ph : Fin 3)
  /-- BOOT_READY (R551): The boot or warm reset completes, releasing engines and setting READY. -/
  | bootReady
  /-- TL_FIFO_WRITE (R569): A word written to TL_FIFO is appended to the command FIFO, with overflow handling. -/
  | tlFifoWrite (j : Fin 4) (v : BitVec 32)
  /-- TL_RECT (R572): A RECT entry is consumed and rasterized into the line ring. -/
  | tlRect (j : Fin 4)
  /-- TL_TRAP (R572): A TRAP entry is consumed and rasterized. -/
  | tlTrap (j : Fin 4)
  /-- TL_ARRAY (R572): An ARRAY entry is consumed and replicates the following shape. -/
  | tlArray (j : Fin 4)
  /-- TL_STRIPE (R576): A STRIPE entry is consumed, taking L, PIXEL_SEL and the dose levels and arming the stripe. -/
  | tlStripe (j : Fin 4)
  /-- TL_START (R576): A START entry is consumed and sets START_PENDING. -/
  | tlStart (j : Fin 4)
  /-- TL_END (R576): An END entry is consumed and makes all lines ready. -/
  | tlEnd (j : Fin 4)
  /-- TL_COMMIT_RUN_IN (R577): With START_PENDING set and the personality committed, the stripe enters RUN_IN. -/
  | tlCommitRunIn (j : Fin 4)
  /-- TL_DONE (R578): 2 us after RUN_OUT the personality's stripe goes to DONE. -/
  | tlDone (j : Fin 4)
  /-- TL_ABORT (R584): TL_CMD ABORT aborts or disarms the personality's stripe and damps its own lanes. -/
  | tlAbort (j : Fin 4)
  /-- FIFO_RESET (R584): TL_CMD FIFO_RESET aborts or disarms the stripe, empties the FIFO and clears the halt. -/
  | fifoReset (j : Fin 4)
  /-- TL_STATUS_READ (R565): A read of TL_STATUS returns its value and clears its RC bits. -/
  | tlStatusRead (j : Fin 4)
  /-- TL_FLOW_WRITE (R570): A write to TL_FLOW.OPEN opens or closes lace scope 0 as the FIFO's source. -/
  | tlFlowWrite (j : Fin 4) (v : BitVec 32)
  /-- READ (R618): GLOBAL_FLASH_CMD READ reads 256 flash bytes into the page buffer. -/
  | read
  /-- PROGRAM (R618): GLOBAL_FLASH_CMD PROGRAM programs the page buffer and verifies it. -/
  | program
  /-- ERASE_4K (R618): GLOBAL_FLASH_CMD ERASE_4K erases a 4 KiB sector. -/
  | erase4k
  /-- ERASE_64K (R618): GLOBAL_FLASH_CMD ERASE_64K erases a 64 KiB block. -/
  | erase64k
  /-- FLASH_DONE (R619): A flash command completes with its RESULT, raising GLB_FLASH_FAIL where due. -/
  | flashDone (timeout differs : Bool)
  /-- CADENCE_LOCK (R362): A device gains comma alignment on CAD_IN within 10 us after its upstream neighbour
  starts sending, sets STAGE_CAD_STATUS.LOCKED, and a member begins forwarding frames. -/
  | cadenceLock
  /-- BLOCK_LOCK_LOST (R291): A lane RX loses 64b/66b block lock, goes to RX_STATE LOST and discards the frame in
  reception. -/
  | blockLockLost (n : Fin 18)
  /-- BLOCK_LOCK_REGAINED (R291): A lane RX that had lost block lock regains it and returns to RX_STATE DATA. -/
  | blockLockRegained (n : Fin 18)
  /-- NET_FRAME_DISCARD (R399): A received Ethernet frame that fails MAC acceptance is discarded and counted in
  NET_RX_DISCARD. -/
  | netFrameDiscard (mac : Fin 8)
  /-- RIMSHOT_OUT_FALL (R541): RIMSHOT_OUT falls 100 ns after the pulse for an accepted rimshot began. -/
  | rimshotOutFall
  /-- TRIP_RECOVERY (R537): After a thermal trip, a cold reset deferred by the device starts once the junction
  falls below 100 C. -/
  | tripRecovery (tj : BitVec 12) (ta tb : Bool)
  /-- JUNCTION_LEVEL_FALL (R372): The junction temperature falls 2 C below a soft or hard limit, lowering the
  device level and rearming its fault. -/
  | junctionLevelFall (tj : BitVec 12)
deriving DecidableEq, Repr

end Sys2Proof
end

