-- ==== Sys2Proof/Config.lean ====
section
/-! DEFINITION. What an implementation fixes and the manual leaves open, and the source of free values. None of these constants
has a body, so no proof can rest on a value of one. -/

namespace Sys2Proof

/-- FREE VALUES: `freeValue c` is what the device produces at the c-th place where the manual gives no value. The state's
counter `freeCount` advances at each use (assumption log 6). -/
opaque Config.freeValue : Nat → Nat

/-- Depth of the fault FIFO as a power of two, 8 to 256 (R488 leaves which): 2 ^ (3 + k). -/
opaque Config.faultFifoLog : Fin 6

/-- The lead's own issue-to-pin latency of a cadence frame and a member's pin-to-pin forwarding latency, in 100 ps (R365
has each device measure its own). -/
opaque Config.leadLatency : Nat
opaque Config.forwardLatency : Nat

/-- Source island, destination island and kind of crossing x, 0 to 95: CLOCK_XING_INFO is "fixed" and the manual lists no
values (Table 14-4). -/
opaque Config.xingSrc : Nat → Fin 24
opaque Config.xingDst : Nat → Fin 24
opaque Config.xingKind : Nat → Fin 3

/-- Which of the 96 crossings carries the register words of island i, and which the external beat edges: the manual numbers neither
(assumption log 72). -/
opaque Config.wordXing : Nat → Fin 96
opaque Config.edgeXing : Fin 96

/-- The IDCODE register of the JTAG port, of 4 bits (R638): the manual gives no value. -/
opaque Config.idcode : BitVec 4

/-- The power of a piece of work of unit u of class c in window w, less 0.1 W, after what the unit has spent in it, and the demand of one
unit in a window: the manual gives no figure for either (R514, R515, assumption log 81). -/
opaque Config.workPower : Nat → Nat → Nat → Nat → Nat
opaque Config.unitDemand : Nat → Nat → Nat → Nat

/-- Swieg Instruments' PCIe vendor ID, "held in the device's ROM" (Table 19-1). -/
opaque Config.swiegVendor : BitVec 16

end Sys2Proof
end

