-- ==== Sys2Proof/Machine/Arith.lean ====
section
/-! DEFINITION. Exact integer arithmetic of the manual's pseudocode (R14 to R17), bit fields (R9) and byte orders (R8).
Every helper the other files of the model use to take a field, widen a value or join bytes stands here. -/

namespace Sys2Proof.Machine

/-! ## The helpers of Chapter 0 -/

/-- `sat` of Chapter 0: x clamped to lo to hi. -/
def sat (x lo hi : Int) : Int := if x < lo then lo else if x > hi then hi else x

/-- The condition under which a sticky saturation flag is set (R16): clamping took place. -/
def satHit (x lo hi : Int) : Bool := decide (x < lo) || decide (x > hi)

/-- `rshift_round` of Chapter 0: shift right by s, rounding half toward plus infinity. -/
def rshiftRound (x : Int) (s : Nat) : Int := if s = 0 then x else (x + 2 ^ (s - 1)) / 2 ^ s

/-- `>>` on a signed operand (R15): toward minus infinity. -/
def sar (x : Int) (s : Nat) : Int := x / 2 ^ s

/-- `/` of the pseudocode (R15): truncates toward zero. -/
def tdiv (x y : Int) : Int := Int.tdiv x y

/-- `round_hd` of Chapter 4: the nearest integer to num / den, halves toward minus infinity, for den > 0. -/
def roundHd (num den : Int) : Int := (2 * num + den - 1) / (2 * den)

/-- `clz` of Chapter 0: leading zeros of x taken as w bits; clz(0, w) = w. -/
def clz (x w : Nat) : Nat :=
  match w with
  | 0 => 0
  | w + 1 => if x.testBit w then 0 else clz x w + 1

/-- Saturating count: the counters of the manual that "saturate" hold at 2^bits − 1. -/
def satInc (bits n by_ : Nat) : Nat := min (2 ^ bits - 1) (n + by_)

/-! ## Bit fields -/

/-- Bits [hi:lo] of a natural number (R9). -/
def bits (x hi lo : Nat) : Nat := (x / 2 ^ lo) % 2 ^ (hi + 1 - lo)

/-- Bit i of a natural number, as 0 or 1. -/
def bit (x i : Nat) : Nat := (x / 2 ^ i) % 2

/-- Bits [hi:lo] of a word, as a natural number. -/
def fld (w : Word) (hi lo : Nat) : Nat := bits w.toNat hi lo

/-- Bit i of a word. -/
def wbit (w : Word) (i : Nat) : Bool := w.getLsbD i

/-- The word whose field [hi:lo] is v, its other bits those of w. -/
def setFld (w : Word) (hi lo v : Nat) : Word :=
  (w &&& ~~~ (BitVec.ofNat 32 ((2 ^ (hi + 1 - lo) - 1) * 2 ^ lo))) |||
    BitVec.ofNat 32 ((v % 2 ^ (hi + 1 - lo)) * 2 ^ lo)

/-- The mask of bits [hi:lo] of a word. -/
def maskOf (hi lo : Nat) : Word := BitVec.ofNat 32 ((2 ^ (hi + 1 - lo) - 1) * 2 ^ lo)

/-- 0 or 1. -/
def b2n (b : Bool) : Nat := if b then 1 else 0

/-- A w-bit pattern read as two's complement. -/
def sext (w x : Nat) : Int := if x % 2 ^ w ≥ 2 ^ (w - 1) then (x % 2 ^ w : Nat) - (2 ^ w : Nat) else (x % 2 ^ w : Nat)

/-- The w-bit two's-complement pattern of an integer. -/
def wrapU (w : Nat) (x : Int) : Nat := (x % (2 ^ w : Nat)).toNat

/-- Absolute value as a natural number. -/
def absN (x : Int) : Nat := x.natAbs

/-- Sum of a list of naturals. -/
def sumN (l : List Nat) : Nat := l.foldl (· + ·) 0

/-- Sum of a list of integers. -/
def sumI (l : List Int) : Int := l.foldl (· + ·) 0

/-- The largest of a list of naturals, 0 for the empty list. -/
def maxN (l : List Nat) : Nat := l.foldl max 0

/-! ## Bytes (R8: little-endian unless a chapter says otherwise) -/

/-- Value of a list of bytes, the first least significant. -/
def leVal (l : List Byte) : Nat :=
  match l with
  | [] => 0
  | b :: t => b.toNat + 256 * leVal t

/-- Value of a list of bytes, the first most significant. -/
def beVal (l : List Byte) : Nat := leVal l.reverse

/-- The n bytes of v, least significant first. -/
def leBytes (n v : Nat) : List Byte :=
  match n with
  | 0 => []
  | n + 1 => BitVec.ofNat 8 v :: leBytes n (v / 256)

/-- The n bytes of v, most significant first. -/
def beBytes (n v : Nat) : List Byte := (leBytes n v).reverse

/-- n bytes of l from offset o, missing bytes absent. -/
def slice (l : List α) (o n : Nat) : List α := (l.drop o).take n

/-- The little-endian value of n bytes at offset o. -/
def leAt (l : List Byte) (o n : Nat) : Nat := leVal (slice l o n)

/-- The big-endian value of n bytes at offset o. -/
def beAt (l : List Byte) (o n : Nat) : Nat := beVal (slice l o n)

/-- The byte at offset o as a number, 0 past the end. -/
def byteAt (l : List Byte) (o : Nat) : Nat := ((l[o]?).getD 0).toNat

/-- Cut a list into pieces of n (n > 0), at most `fuel` pieces. -/
def chunksOf (n fuel : Nat) (l : List α) : List (List α) :=
  match fuel with
  | 0 => []
  | fuel + 1 => match l with
    | [] => []
    | _ => l.take n :: chunksOf n fuel (l.drop n)

/-- Largest prefix check helper: all elements of l satisfy p. -/
def allB (l : List α) (p : α → Bool) : Bool := l.all p

/-- `a` divides into `b` exactly. -/
def multOf (b a : Nat) : Bool := decide (b % a = 0)

/-- Index of the first element that satisfies p. -/
def findIdx? (p : α → Bool) (l : List α) : Option Nat :=
  match l with
  | [] => none
  | x :: t => if p x then some 0 else (findIdx? p t).map (· + 1)

/-- Replace element i of a list. -/
def setAt (l : List α) (i : Nat) (x : α) : List α := l.set i x

/-- The smallest power of two that is at least n (n ≤ 2^64). -/
def clog2 (n : Nat) : Nat := Nat.log2 (2 * n - 1)

end Sys2Proof.Machine
end

