-- ==== Sys2Proof/Machine/Crc.lean ====
section
/-! DEFINITION. The CRC model of every check value (R517) and the five parameter sets of the fixed checks (R518). -/

namespace Sys2Proof.Machine

/-- `reflect` of R517: bit i of the n-bit value v moves to bit n − 1 − i. -/
def reflectBits (v n : Nat) : Nat :=
  (List.range n).foldl (fun r i => if v.testBit i then r + 2 ^ (n - 1 - i) else r) 0

/-- The parameters of one CRC. -/
structure CrcParams where
  width : Nat
  poly : Nat
  init : Nat
  refin : Bool
  refout : Bool
  xorout : Nat
deriving DecidableEq, Repr

/-- One shift of the register of `crc` (R517). -/
def crcBit (w poly r : Nat) : Nat :=
  if r.testBit (w - 1) then Nat.xor (r * 2 % 2 ^ w) (poly % 2 ^ w) else r * 2 % 2 ^ w

/-- One byte of `crc` (R517). -/
def crcByte (p : CrcParams) (r : Nat) (d : Byte) : Nat :=
  let b := if p.refin then reflectBits d.toNat 8 else d.toNat
  let r0 := Nat.xor r (b * 2 ^ (p.width - 8))
  (List.range 8).foldl (fun r _ => crcBit p.width p.poly r) r0

/-- The register after the bytes of l, from register value r. -/
def crcRun (p : CrcParams) (r : Nat) (l : List Byte) : Nat := l.foldl (crcByte p) r

/-- `crc` of R517. -/
def crc (p : CrcParams) (l : List Byte) : Nat :=
  let r := crcRun p (p.init % 2 ^ p.width) l
  let r := if p.refout then reflectBits r p.width else r
  Nat.xor r p.xorout % 2 ^ p.width

/-- Set C32C of Table 16-1 (PRESET 1); also R52. -/
def crcC32C : CrcParams := ⟨32, 0x1EDC6F41, 0xFFFFFFFF, true, true, 0xFFFFFFFF⟩
/-- Set C32 of Table 16-1 (PRESET 2). -/
def crcC32 : CrcParams := ⟨32, 0x04C11DB7, 0xFFFFFFFF, true, true, 0xFFFFFFFF⟩
/-- Set C16 of Table 16-1 (PRESET 3). -/
def crcC16 : CrcParams := ⟨16, 0x1021, 0xFFFF, false, false, 0⟩
/-- Set C8A of Table 16-1 (PRESET 4). -/
def crcC8A : CrcParams := ⟨8, 0x07, 0xFF, false, false, 0⟩
/-- PRESUMED: the packet error code of SMBus 3.1 and PMBus, which R512 and R542 name without its parameters. -/
def crcPec : CrcParams := ⟨8, 0x07, 0, false, false, 0⟩
/-- Set C8B of Table 16-1 (PRESET 5). -/
def crcC8B : CrcParams := ⟨8, 0x2F, 0xFF, false, false, 0xFF⟩

end Sys2Proof.Machine
end

