-- ==== Sys2Proof/Machine/FaultCode.lean ====
section
/-! DEFINITION. The fault catalogue (R545, Tables 17-7 and 17-8 and the chapters' own fault tables). These are the faults the
DEVICE raises and logs; none of them stops the model. -/

namespace Sys2Proof.Machine

/-- A fault mnemonic. PLN_CONFIG_BUSY stands twice in block 0x07 (R545): under 0x0704 for R47 and, here with the suffix
_PASS, under 0x0711 for R289. -/
inductive FaultCode where
  /-- 0x0101: R614. -/
  | GLB_LOCKED_WRITE
  /-- 0x0102: R605. -/
  | GLB_UNMAPPED
  /-- 0x0103: R619, R620. -/
  | GLB_FLASH_BUSY
  /-- 0x0104: R619. -/
  | GLB_FLASH_PROTECT
  /-- 0x0105: R619. -/
  | GLB_FLASH_FAIL
  /-- 0x0201: A step 1 header check fails. -/
  | PRK_HEADER_BAD
  /-- 0x0202: A section CRC mismatches. -/
  | PRK_SECTION_CRC
  /-- 0x0203: R53 or R81. -/
  | PRK_SECTION_FORMAT
  /-- 0x0204: A range check of R55 to R71 fails, R75 or R83. -/
  | PRK_SECTION_VALUE
  /-- 0x0205: R83. -/
  | PRK_SECTION_MISSING
  /-- 0x0206: R72 or R73. -/
  | PRK_SIGNATURE
  /-- 0x0207: R65. -/
  | PRK_PACKAGE_MISMATCH
  /-- 0x0208: R87 or R88. -/
  | PRK_BUSY
  /-- 0x0209: R85 or R86. -/
  | PRK_SAFE_STRUCTURE
  /-- 0x020A: R82 or R89. -/
  | PRK_FETCH
  /-- 0x020B: R74. -/
  | PRK_ROLLBACK
  /-- 0x0301: R146. -/
  | LAC_NO_SCOPE
  /-- 0x0302: Table 3-5 phase 1. -/
  | LAC_FRAMING
  /-- 0x0303: R151. -/
  | LAC_BUFFER
  /-- 0x0304: Table 3-5 phase 2. -/
  | LAC_SEQUENCE
  /-- 0x0305: R150. -/
  | LAC_CHUNK_CRC
  /-- 0x0306: R100, R101, R104. -/
  | LAC_OPCODE
  /-- 0x0307: R105 to R110, R126. -/
  | LAC_SCOPE_ORDER
  /-- 0x0308: R107, R108, R152 ranges. -/
  | LAC_WINDOW
  /-- 0x0309: R111. -/
  | LAC_STRIPE_MISMATCH
  /-- 0x030A: R112. -/
  | LAC_CLASS
  /-- 0x030B: R113 to R116. -/
  | LAC_DENSITY
  /-- 0x030C: R122 to R125, R128. -/
  | LAC_PRIMITIVE
  /-- 0x030D: R120 counts. -/
  | LAC_ARRAY
  /-- 0x030E: R132. -/
  | LAC_MOTIF_REF
  /-- 0x030F: R133. -/
  | LAC_MOTIF_DEPTH
  /-- 0x0310: R131. -/
  | LAC_MOTIF_BOX
  /-- 0x0311: R152. -/
  | LAC_HOME
  /-- 0x0312: R153. -/
  | LAC_OUTSIDE
  /-- 0x0313: R137. -/
  | LAC_LIB_CRC
  /-- 0x0314: R135, R136. -/
  | LAC_LIB_FORMAT
  /-- 0x0315: R139. -/
  | LAC_LIB_BUSY
  /-- 0x0316: R140. -/
  | LAC_LIB_PROTECT
  /-- 0x0317: R142, R144, Table 3-6. -/
  | LAC_SCOPE_BUSY
  /-- 0x0401: R187. -/
  | BOB_WATCHDOG
  /-- 0x0402: R189. -/
  | BOB_UNIT_FAILED
  /-- 0x0403: R188. -/
  | BOB_SRAM_UNCORR
  /-- 0x0404: R173. -/
  | BOB_CACHE_REFETCH
  /-- 0x0405: R190. -/
  | BOB_POISON
  /-- 0x0406: R186. -/
  | BOB_DUAL_MISMATCH
  /-- 0x0407: R186. -/
  | BOB_DUAL_UNRESOLVED
  /-- 0x0408: R191. -/
  | BOB_RESERVE_SHORT
  /-- 0x0501: R200, R202 or R218. -/
  | COR_CONFIG_INVALID
  /-- 0x0502: R223. -/
  | COR_CONFIG_BUSY
  /-- 0x0503: R204. -/
  | COR_DENSITY_MISSING
  /-- 0x0504: R214. -/
  | COR_EDGING_LOST
  /-- 0x0505: R211. -/
  | COR_EDGING_BAD
  /-- 0x0506: R212. -/
  | COR_EDGING_CONFLICT
  /-- 0x0507: R212. -/
  | COR_PARAM_MISMATCH
  /-- 0x0508: First setting of a CORR_SAT_STATUS bit since it was last clear. -/
  | COR_SATURATION
  /-- 0x0509: R219. -/
  | COR_FMAP_INVALID
  /-- 0x050A: R221. -/
  | COR_DATA_LOST
  /-- 0x0601: R232. -/
  | STO_CONFIG_INVALID
  /-- 0x0602: R236. -/
  | STO_CONFIG_BUSY
  /-- 0x0603: R233. -/
  | STO_HEADER_INVALID
  /-- 0x0604: R233. -/
  | STO_LIVE_SOURCE_MISSING
  /-- 0x0605: R234. -/
  | STO_PROTECT
  /-- 0x0606: R247. -/
  | STO_VERIFY_FAIL
  /-- 0x0607: R247. -/
  | STO_ROW_LOST
  /-- 0x0608: R251. -/
  | STO_DECODE_FAIL
  /-- 0x0609: R254. -/
  | STO_LIVE_MISMATCH
  /-- 0x060A: R260. -/
  | STO_LIVE_LATE
  /-- 0x060B: R259. -/
  | STO_LIVE_INFEASIBLE
  /-- 0x0701: START not accepted (R43). -/
  | PLN_COMMIT_REFUSED
  /-- 0x0702: R45. -/
  | PLN_UNDERRUN_DAMP
  /-- 0x0703: R32, R34 or R46. -/
  | PLN_CONFIG_INVALID
  /-- 0x0704: R47. -/
  | PLN_CONFIG_BUSY
  /-- 0x0705: R23. -/
  | PLN_ROLE_COMMAND
  /-- 0x0706: R264. -/
  | PLN_PASS_INVALID
  /-- 0x0707: R274. -/
  | PLN_HOT_BEAM
  /-- 0x0708: R273. -/
  | PLN_COMP_OVERFLOW
  /-- 0x0709: R267. -/
  | PLN_SHIFT_RANGE
  /-- 0x070A: R278. -/
  | PLN_SEAM_LOST
  /-- 0x070B: R278. -/
  | PLN_SEAM_BAD
  /-- 0x070C: R277. -/
  | PLN_SEAM_MISMATCH
  /-- 0x070D: R282. -/
  | PLN_DEFECT_INVALID
  /-- 0x070E: R283, PLAN_SCAN_REF. -/
  | PLN_SCAN_BUSY
  /-- 0x070F: R286, R287. -/
  | PLN_SCAN_IMPLAUSIBLE
  /-- 0x0710: R285. -/
  | PLN_SCAN_HOT
  /-- 0x0711: R289. -/
  | PLN_CONFIG_BUSY_PASS
  /-- 0x0801: R322. -/
  | CAR_LANE_NOT_READY
  /-- 0x0802: R320. -/
  | CAR_TRAIN_FAIL
  /-- 0x0803: R320. -/
  | CAR_LANE_MISMATCH
  /-- 0x0804: R313. -/
  | CAR_ECHO_LOST
  /-- 0x0805: R312. -/
  | CAR_ECHO_BAD
  /-- 0x0806: R314. -/
  | CAR_BEAT_LOST
  /-- 0x0807: R301. -/
  | CAR_EPOCH_MISMATCH
  /-- 0x0808: R298. -/
  | CAR_LATE_PEAL
  /-- 0x0809: R298. -/
  | CAR_POISON
  /-- 0x080A: R326. -/
  | CAR_DRIVER_TEMP
  /-- 0x080B: R326. -/
  | CAR_DRIVER_TRIP
  /-- 0x080C: R325. -/
  | CAR_EYE_IMPLAUSIBLE
  /-- 0x080D: R330. -/
  | CAR_CONFIG_BUSY
  /-- 0x080E: R323, R325, LANE_CMD. -/
  | CAR_LANE_BUSY
  /-- 0x080F: R317. -/
  | CAR_RETRAIN_REQUEST
  /-- 0x0810: R307. -/
  | CAR_DAMPED
  /-- 0x0901: R346, R348. -/
  | STG_COMPARE_BEHIND
  /-- 0x0902: R338. -/
  | STG_METRO_BAD
  /-- 0x0903: R339. -/
  | STG_METRO_LOST
  /-- 0x0904: R341. -/
  | STG_METRO_NOT_READY
  /-- 0x0905: R340. -/
  | STG_YAW
  /-- 0x0906: R342. -/
  | STG_MET_CAL_IMPLAUSIBLE
  /-- 0x0907: R353, R358, R360. -/
  | STG_CONFIG_INVALID
  /-- 0x0908: R342, R353, R377. -/
  | STG_BUSY
  /-- 0x0909: R359. -/
  | STG_OVERSPEED
  /-- 0x090A: R348, R359. -/
  | STG_BEAT_STALL
  /-- 0x090B: R361. -/
  | STG_BEAT_BURST
  /-- 0x090C: R367. -/
  | STG_CADENCE_LOST
  /-- 0x090D: R368. -/
  | STG_RING_FAIL
  /-- 0x090E: R371. -/
  | STG_CHAIN_FAIL
  /-- 0x090F: R373. -/
  | STG_TEMP_DERATE
  /-- 0x0910: R374. -/
  | STG_TEMP_HARD
  /-- 0x0911: R374, R375. -/
  | STG_TEMP_HOLD
  /-- 0x0912: R375. -/
  | STG_TEMP_TRIP
  /-- 0x0A01: R387, R390, R396. -/
  | TRK_CONFIG_INVALID
  /-- 0x0A02: R395. -/
  | TRK_BUSY
  /-- 0x0A03: R390. -/
  | TRK_SWAP_BUSY
  /-- 0x0A04: First setting of a TRACK_SAT_STATUS bit since it was last clear. -/
  | TRK_SATURATION
  /-- 0x0A05: R389. -/
  | TRK_OUTPUT_LIMIT
  /-- 0x0A06: R393. -/
  | TRK_CYCLE_LATE
  /-- 0x0B01: A MAC loses link. -/
  | NET_LINK_DOWN
  /-- 0x0B02: R403. -/
  | NET_TRANSPORT_BAD
  /-- 0x0B03: R404, ahead. -/
  | NET_FLOW_ORDER
  /-- 0x0B04: R404, over credit. -/
  | NET_CREDIT_VIOLATION
  /-- 0x0B05: R407. -/
  | NET_PEER_MISSING
  /-- 0x0B06: R422. -/
  | NET_CONFIG_BUSY
  /-- 0x0C01: R414. -/
  | TIM_STEP_REFUSED
  /-- 0x0C02: R417. -/
  | TIM_TRIGGER_PAST
  /-- 0x0C03: R413, R416. -/
  | TIM_TRIGGER_STEPPED
  /-- 0x0C04: R417. -/
  | TIM_TRIGGER_INVALID
  /-- 0x0C05: Table 11-5. -/
  | TIM_ALIGN_SKIPPED
  /-- 0x0D01: R426. -/
  | MEM_ADDR_RANGE
  /-- 0x0D02: R439. -/
  | MEM_CE_THRESHOLD
  /-- 0x0D03: R438. -/
  | MEM_UNCORRECTABLE
  /-- 0x0D04: R438. -/
  | MEM_ADDRESS_FAULT
  /-- 0x0D05: R440. -/
  | MEM_SRAM_UNCORR
  /-- 0x0D06: R433. -/
  | MEM_ROW_HAMMER
  /-- 0x0D07: R431. -/
  | MEM_STACK_HOT
  /-- 0x0D08: R445. -/
  | MEM_PC_FAILED
  /-- 0x0D09: R429, R446. -/
  | MEM_CONFIG_INVALID
  /-- 0x0D0A: R429, R449. -/
  | MEM_CONFIG_BUSY
  /-- 0x0D0B: R446. -/
  | MEM_SCRUB_BUSY
  /-- 0x0E01: R455. -/
  | HST_ACCESS
  /-- 0x0E02: R456. -/
  | HST_UNGRANTED
  /-- 0x0E03: R458, R460. -/
  | HST_RING_BUSY
  /-- 0x0E04: R462. -/
  | HST_RING_OVERRUN
  /-- 0x0E05: R466. -/
  | HST_DESC_INVALID
  /-- 0x0E06: R466, R469. -/
  | HST_NOT_PERMITTED
  /-- 0x0E07: R467. -/
  | HST_RANGE
  /-- 0x0E08: R472. -/
  | HST_HOST_ERROR
  /-- 0x0E09: R475. -/
  | HST_SLOT_BUSY
  /-- 0x0E0A: R477. -/
  | HST_SLOT_RELEASE
  /-- 0x0F01: R486. -/
  | CLK_PLL_UNLOCK
  /-- 0x0F02: R486. -/
  | CLK_FREQ_ERROR
  /-- 0x0F03: R492. -/
  | CLK_PULSE_SAT
  /-- 0x0F04: R494. -/
  | CLK_PEER_RESET
  /-- 0x1001: R508. -/
  | PWR_AON_BROWNOUT
  /-- 0x1002: R512. -/
  | PWR_PMBUS_FAIL
  /-- 0x1003: R514. -/
  | PWR_CAP_EXCEEDED
  /-- 0x1004: Table 15-11. -/
  | PWR_BUSY
  /-- 0x1101: R521. -/
  | CHK_CONFIG_INVALID
  /-- 0x1102: R521. -/
  | CHK_BUSY
  /-- 0x1103: R522, general unit. -/
  | CHK_MISMATCH
  /-- 0x1104: R522, privileged unit. -/
  | CHK_PRIV_MISMATCH
  /-- 0x1201: R534. -/
  | SAF_ISLAND_STALL
  /-- 0x1202: R535. -/
  | SAF_ISLAND_RESET
  /-- 0x1203: R536. -/
  | SAF_JUNCTION_SOFT
  /-- 0x1204: R536. -/
  | SAF_JUNCTION_HARD
  /-- 0x1205: R537. -/
  | SAF_THERMAL_TRIP
  /-- 0x1206: R540. -/
  | SAF_SNAP_MISSED
  /-- 0x1207: R532. -/
  | SAF_DAMP_EXTERNAL
  /-- 0x1208: R542. -/
  | SAF_SMBUS_PEC
  /-- 0x1301: R556. -/
  | RST_NOT_READY
  /-- 0x1302: R552. -/
  | RST_BOOT_HALT
  /-- 0x1303: R559. -/
  | RST_FLR_ABORT
  /-- 0x1304: R547. -/
  | RST_BAD_REQUEST
  /-- 0x1401: R579. -/
  | TLM_RECORD_BAD
  /-- 0x1402: R580. -/
  | TLM_FIFO_OVERFLOW
  /-- 0x1403: R570, R576. -/
  | TLM_CMD_INVALID
  /-- 0x1404: R581. -/
  | TLM_START_LATE
  /-- 0x1405: R582. -/
  | TLM_BEAT_OVERSPEED
deriving DecidableEq, Repr

/-- The 16-bit code 0xBBNN of a fault (R545). -/
def FaultCode.num (c : FaultCode) : Nat :=
  match c with
  | .GLB_LOCKED_WRITE => 0x0101
  | .GLB_UNMAPPED => 0x0102
  | .GLB_FLASH_BUSY => 0x0103
  | .GLB_FLASH_PROTECT => 0x0104
  | .GLB_FLASH_FAIL => 0x0105
  | .PRK_HEADER_BAD => 0x0201
  | .PRK_SECTION_CRC => 0x0202
  | .PRK_SECTION_FORMAT => 0x0203
  | .PRK_SECTION_VALUE => 0x0204
  | .PRK_SECTION_MISSING => 0x0205
  | .PRK_SIGNATURE => 0x0206
  | .PRK_PACKAGE_MISMATCH => 0x0207
  | .PRK_BUSY => 0x0208
  | .PRK_SAFE_STRUCTURE => 0x0209
  | .PRK_FETCH => 0x020A
  | .PRK_ROLLBACK => 0x020B
  | .LAC_NO_SCOPE => 0x0301
  | .LAC_FRAMING => 0x0302
  | .LAC_BUFFER => 0x0303
  | .LAC_SEQUENCE => 0x0304
  | .LAC_CHUNK_CRC => 0x0305
  | .LAC_OPCODE => 0x0306
  | .LAC_SCOPE_ORDER => 0x0307
  | .LAC_WINDOW => 0x0308
  | .LAC_STRIPE_MISMATCH => 0x0309
  | .LAC_CLASS => 0x030A
  | .LAC_DENSITY => 0x030B
  | .LAC_PRIMITIVE => 0x030C
  | .LAC_ARRAY => 0x030D
  | .LAC_MOTIF_REF => 0x030E
  | .LAC_MOTIF_DEPTH => 0x030F
  | .LAC_MOTIF_BOX => 0x0310
  | .LAC_HOME => 0x0311
  | .LAC_OUTSIDE => 0x0312
  | .LAC_LIB_CRC => 0x0313
  | .LAC_LIB_FORMAT => 0x0314
  | .LAC_LIB_BUSY => 0x0315
  | .LAC_LIB_PROTECT => 0x0316
  | .LAC_SCOPE_BUSY => 0x0317
  | .BOB_WATCHDOG => 0x0401
  | .BOB_UNIT_FAILED => 0x0402
  | .BOB_SRAM_UNCORR => 0x0403
  | .BOB_CACHE_REFETCH => 0x0404
  | .BOB_POISON => 0x0405
  | .BOB_DUAL_MISMATCH => 0x0406
  | .BOB_DUAL_UNRESOLVED => 0x0407
  | .BOB_RESERVE_SHORT => 0x0408
  | .COR_CONFIG_INVALID => 0x0501
  | .COR_CONFIG_BUSY => 0x0502
  | .COR_DENSITY_MISSING => 0x0503
  | .COR_EDGING_LOST => 0x0504
  | .COR_EDGING_BAD => 0x0505
  | .COR_EDGING_CONFLICT => 0x0506
  | .COR_PARAM_MISMATCH => 0x0507
  | .COR_SATURATION => 0x0508
  | .COR_FMAP_INVALID => 0x0509
  | .COR_DATA_LOST => 0x050A
  | .STO_CONFIG_INVALID => 0x0601
  | .STO_CONFIG_BUSY => 0x0602
  | .STO_HEADER_INVALID => 0x0603
  | .STO_LIVE_SOURCE_MISSING => 0x0604
  | .STO_PROTECT => 0x0605
  | .STO_VERIFY_FAIL => 0x0606
  | .STO_ROW_LOST => 0x0607
  | .STO_DECODE_FAIL => 0x0608
  | .STO_LIVE_MISMATCH => 0x0609
  | .STO_LIVE_LATE => 0x060A
  | .STO_LIVE_INFEASIBLE => 0x060B
  | .PLN_COMMIT_REFUSED => 0x0701
  | .PLN_UNDERRUN_DAMP => 0x0702
  | .PLN_CONFIG_INVALID => 0x0703
  | .PLN_CONFIG_BUSY => 0x0704
  | .PLN_ROLE_COMMAND => 0x0705
  | .PLN_PASS_INVALID => 0x0706
  | .PLN_HOT_BEAM => 0x0707
  | .PLN_COMP_OVERFLOW => 0x0708
  | .PLN_SHIFT_RANGE => 0x0709
  | .PLN_SEAM_LOST => 0x070A
  | .PLN_SEAM_BAD => 0x070B
  | .PLN_SEAM_MISMATCH => 0x070C
  | .PLN_DEFECT_INVALID => 0x070D
  | .PLN_SCAN_BUSY => 0x070E
  | .PLN_SCAN_IMPLAUSIBLE => 0x070F
  | .PLN_SCAN_HOT => 0x0710
  | .PLN_CONFIG_BUSY_PASS => 0x0711
  | .CAR_LANE_NOT_READY => 0x0801
  | .CAR_TRAIN_FAIL => 0x0802
  | .CAR_LANE_MISMATCH => 0x0803
  | .CAR_ECHO_LOST => 0x0804
  | .CAR_ECHO_BAD => 0x0805
  | .CAR_BEAT_LOST => 0x0806
  | .CAR_EPOCH_MISMATCH => 0x0807
  | .CAR_LATE_PEAL => 0x0808
  | .CAR_POISON => 0x0809
  | .CAR_DRIVER_TEMP => 0x080A
  | .CAR_DRIVER_TRIP => 0x080B
  | .CAR_EYE_IMPLAUSIBLE => 0x080C
  | .CAR_CONFIG_BUSY => 0x080D
  | .CAR_LANE_BUSY => 0x080E
  | .CAR_RETRAIN_REQUEST => 0x080F
  | .CAR_DAMPED => 0x0810
  | .STG_COMPARE_BEHIND => 0x0901
  | .STG_METRO_BAD => 0x0902
  | .STG_METRO_LOST => 0x0903
  | .STG_METRO_NOT_READY => 0x0904
  | .STG_YAW => 0x0905
  | .STG_MET_CAL_IMPLAUSIBLE => 0x0906
  | .STG_CONFIG_INVALID => 0x0907
  | .STG_BUSY => 0x0908
  | .STG_OVERSPEED => 0x0909
  | .STG_BEAT_STALL => 0x090A
  | .STG_BEAT_BURST => 0x090B
  | .STG_CADENCE_LOST => 0x090C
  | .STG_RING_FAIL => 0x090D
  | .STG_CHAIN_FAIL => 0x090E
  | .STG_TEMP_DERATE => 0x090F
  | .STG_TEMP_HARD => 0x0910
  | .STG_TEMP_HOLD => 0x0911
  | .STG_TEMP_TRIP => 0x0912
  | .TRK_CONFIG_INVALID => 0x0A01
  | .TRK_BUSY => 0x0A02
  | .TRK_SWAP_BUSY => 0x0A03
  | .TRK_SATURATION => 0x0A04
  | .TRK_OUTPUT_LIMIT => 0x0A05
  | .TRK_CYCLE_LATE => 0x0A06
  | .NET_LINK_DOWN => 0x0B01
  | .NET_TRANSPORT_BAD => 0x0B02
  | .NET_FLOW_ORDER => 0x0B03
  | .NET_CREDIT_VIOLATION => 0x0B04
  | .NET_PEER_MISSING => 0x0B05
  | .NET_CONFIG_BUSY => 0x0B06
  | .TIM_STEP_REFUSED => 0x0C01
  | .TIM_TRIGGER_PAST => 0x0C02
  | .TIM_TRIGGER_STEPPED => 0x0C03
  | .TIM_TRIGGER_INVALID => 0x0C04
  | .TIM_ALIGN_SKIPPED => 0x0C05
  | .MEM_ADDR_RANGE => 0x0D01
  | .MEM_CE_THRESHOLD => 0x0D02
  | .MEM_UNCORRECTABLE => 0x0D03
  | .MEM_ADDRESS_FAULT => 0x0D04
  | .MEM_SRAM_UNCORR => 0x0D05
  | .MEM_ROW_HAMMER => 0x0D06
  | .MEM_STACK_HOT => 0x0D07
  | .MEM_PC_FAILED => 0x0D08
  | .MEM_CONFIG_INVALID => 0x0D09
  | .MEM_CONFIG_BUSY => 0x0D0A
  | .MEM_SCRUB_BUSY => 0x0D0B
  | .HST_ACCESS => 0x0E01
  | .HST_UNGRANTED => 0x0E02
  | .HST_RING_BUSY => 0x0E03
  | .HST_RING_OVERRUN => 0x0E04
  | .HST_DESC_INVALID => 0x0E05
  | .HST_NOT_PERMITTED => 0x0E06
  | .HST_RANGE => 0x0E07
  | .HST_HOST_ERROR => 0x0E08
  | .HST_SLOT_BUSY => 0x0E09
  | .HST_SLOT_RELEASE => 0x0E0A
  | .CLK_PLL_UNLOCK => 0x0F01
  | .CLK_FREQ_ERROR => 0x0F02
  | .CLK_PULSE_SAT => 0x0F03
  | .CLK_PEER_RESET => 0x0F04
  | .PWR_AON_BROWNOUT => 0x1001
  | .PWR_PMBUS_FAIL => 0x1002
  | .PWR_CAP_EXCEEDED => 0x1003
  | .PWR_BUSY => 0x1004
  | .CHK_CONFIG_INVALID => 0x1101
  | .CHK_BUSY => 0x1102
  | .CHK_MISMATCH => 0x1103
  | .CHK_PRIV_MISMATCH => 0x1104
  | .SAF_ISLAND_STALL => 0x1201
  | .SAF_ISLAND_RESET => 0x1202
  | .SAF_JUNCTION_SOFT => 0x1203
  | .SAF_JUNCTION_HARD => 0x1204
  | .SAF_THERMAL_TRIP => 0x1205
  | .SAF_SNAP_MISSED => 0x1206
  | .SAF_DAMP_EXTERNAL => 0x1207
  | .SAF_SMBUS_PEC => 0x1208
  | .RST_NOT_READY => 0x1301
  | .RST_BOOT_HALT => 0x1302
  | .RST_FLR_ABORT => 0x1303
  | .RST_BAD_REQUEST => 0x1304
  | .TLM_RECORD_BAD => 0x1401
  | .TLM_FIFO_OVERFLOW => 0x1402
  | .TLM_CMD_INVALID => 0x1403
  | .TLM_START_LATE => 0x1404
  | .TLM_BEAT_OVERSPEED => 0x1405

end Sys2Proof.Machine
end

