-- ==== Sys2Proof/Machine/Sparse.lean ====
section
/-! DEFINITION. Large tables held as plain data in ONE canonical form: a list of (index, value) pairs with strictly
rising indexes and no pair that holds the table's default. Equal tables are equal lists. -/

namespace Sys2Proof.Machine

/-- A table from index to value, listing only what differs from the default. -/
abbrev Sparse (α : Type) := List (Nat × α)

variable {α : Type}

/-- The value listed at index k. -/
def Sparse.find? (t : Sparse α) (k : Nat) : Option α :=
  match t with
  | [] => none
  | (i, v) :: r => if k = i then some v else Sparse.find? r k

/-- List v at index k. -/
def Sparse.put (t : Sparse α) (k : Nat) (v : α) : Sparse α :=
  match t with
  | [] => [(k, v)]
  | (i, w) :: r =>
    if k < i then (k, v) :: (i, w) :: r
    else if k = i then (k, v) :: r
    else (i, w) :: Sparse.put r k v

/-- List nothing at index k. -/
def Sparse.erase (t : Sparse α) (k : Nat) : Sparse α := t.filter (fun p => decide (p.1 ≠ k))

/-- The value at index k, d where none is listed. -/
def Sparse.get (d : α) (t : Sparse α) (k : Nat) : α := (Sparse.find? t k).getD d

/-- The table with value v at index k, still canonical. -/
def Sparse.set [DecidableEq α] (d : α) (t : Sparse α) (k : Nat) (v : α) : Sparse α :=
  if v = d then Sparse.erase t k else Sparse.put t k v

/-- Every index listed is at least n. -/
def Sparse.above (n : Nat) (t : Sparse α) : Bool := t.all (fun p => decide (n ≤ p.1))

/-- Indexes strictly rising. -/
def Sparse.sorted (t : Sparse α) : Bool :=
  match t with
  | [] => true
  | (i, _) :: r => Sparse.above (i + 1) r && Sparse.sorted r

/-- The canonical form over a constant default: indexes strictly rising, no listed default. -/
def Sparse.wf [DecidableEq α] (d : α) (t : Sparse α) : Bool :=
  Sparse.sorted t && t.all (fun p => decide (p.2 ≠ d))

/-- n consecutive values from index k. -/
def Sparse.range (d : α) (t : Sparse α) (k n : Nat) : List α :=
  (List.range n).map (fun j => Sparse.get d t (k + j))

/-- n consecutive values from index k in one walk over the table. -/
def Sparse.span (d : α) (t : Sparse α) (k n : Nat) : List α :=
  let go := List.range n |>.foldl (fun (r : List α × Sparse α) j =>
    match r.2.dropWhile (fun p => decide (p.1 < k + j)) with
    | (i, v) :: l => if i = k + j then (v :: r.1, l) else (d :: r.1, (i, v) :: l)
    | [] => (d :: r.1, [])) ([], t)
  go.1.reverse

/-- The table without its entries in n consecutive indexes from k. -/
def Sparse.clear (t : Sparse α) (k n : Nat) : Sparse α := t.filter (fun p => decide (p.1 < k ∨ k + n ≤ p.1))

/-- The pairs that list the values of l from index k on. -/
def Sparse.listed [DecidableEq α] (d : α) (k : Nat) (l : List α) : Sparse α :=
  match l with
  | [] => []
  | v :: r => if v = d then Sparse.listed d (k + 1) r else (k, v) :: Sparse.listed d (k + 1) r

/-- Store a list of values at consecutive indexes from k. -/
def Sparse.setRange [DecidableEq α] (d : α) (t : Sparse α) (k : Nat) (l : List α) : Sparse α :=
  t.filter (fun p => decide (p.1 < k)) ++ (Sparse.listed d k l ++ t.filter (fun p => decide (k + l.length ≤ p.1)))

end Sys2Proof.Machine
end

