-- ==== Sys2Proof/Machine/BlockState/Stage.lean ====
section
/-! DEFINITION. State of stage metrology, motion, beats and the cadence link (Chapter 9). Instants are in units of 100 ps of
the stage time base (R337) unless a field says otherwise. -/

namespace Sys2Proof.Machine

/-- One metrology channel (R338 to R345). `n` and `hist` are those of R343 (newest first, at most 63); `settle` counts the
last consecutive good samples within tolerance (R352); `cal` is a running phase calibration. -/
structure MetCh where
  pos : Int
  status : Nat
  valid : Bool
  lost : Bool
  stale : Bool
  hasPrev : Bool
  badRun : Nat
  phase : Nat
  n : Nat
  hist : List (Int × Int)
  pa : Int
  ta : Int
  v : Int
  diff : Bool
  estValid : Bool
  dir : Int
  dirFirst : Bool
  pmin : Int
  pmax : Int
  goodAt : Option Int
  settle : Nat
  calActive : Bool
deriving DecidableEq, Repr

/-- A channel at first use. -/
def MetCh.first : MetCh :=
  { pos := 0, status := 0, valid := false, lost := false, stale := false, hasPrev := false, badRun := 0, phase := 0,
    n := 0, hist := [], pa := 0, ta := 0, v := 0, diff := false, estValid := false, dir := 0, dirFirst := true,
    pmin := 0, pmax := 0, goodAt := none, settle := 0, calActive := false }

/-- One stretch of constant jerk of a planned move (Table 9-4): its phase number, the jerk and how many updates it lasts. -/
structure MoveSeg where
  phase : Nat
  jerk : Rat
  updates : Nat
deriving DecidableEq, Repr

/-- What an axis is to do next: a move to rest, a velocity to hold, or a stop (R350 to R352). -/
inductive AxisGoal where
  | to (pt : Int)
  | vel (w : Rat)
  | stop
deriving DecidableEq, Repr

/-- One axis of the profile generator (R349): the state at the start of the present segment, updates done in it, the
segments left, and where the plan ends (`target`, LU) when it ends at rest; `scan` after run-in, when the axis holds
its velocity; `goal` the new target that the next update plans for (R351). -/
structure Axis where
  p : Rat
  v : Rat
  a : Rat
  done : Nat
  segs : List MoveSeg
  target : Option Int
  scan : Bool
  goal : Option AxisGoal
deriving DecidableEq, Repr

/-- An axis at rest at 0. -/
def Axis.rest : Axis := ⟨0, 0, 0, 0, [], none, false, none⟩

/-- A beat that has been issued and not yet executed: its number, its pass, its instant, and which lanes have started its
peal (as a mask). -/
structure IssuedBeat where
  k : Nat
  pass : Nat
  tb : Int
  peals : Bool
deriving DecidableEq, Repr

/-- What the stage logic of a lead or solo device waits for (R352). -/
inductive StageWait where
  | none
  | startSettle
  | passSettle (p : Nat)
  | doneSettle
deriving DecidableEq, Repr

/-- Metrology, motion and beats. `epoch` is the model's time in ps at which the stage time base was 0; `yawX1` and `yawX2` the
last good samples of channels 0 and 1 with their reference edges (R340); `cmpArmed` the compare of R346, `inner` the internal compare of R348; `edges`
the instants of the external edges not yet issued as beats, oldest first; `nextBeat` the next beat of the pass to issue; `beats` the last
beats issued in the pass with their instants, newest first; `planHist` the planned positions of the last updates with
the instant each began, newest first; `gridAt` the reference edge on which metrology
transactions restarted last (Table 11-5); `spPhase` the fraction of an update, in units of 1 / SP_FRAME_HZ of one, by which the
set-point frames lie past an update (R354); `yInAt` when the planned Y of the run-in reached Y(0) (R359). -/
structure StageSt where
  met : Vector MetCh 4
  epoch : Nat
  yawX1 : Option (Int × Int)
  yawX2 : Option (Int × Int)
  cmpArmed : Bool
  inner : Option Int
  axes : Vector Axis 2
  wait : StageWait
  derated : Bool
  spSeq : Nat
  spPhase : Nat
  gridAt : Int
  spStop : Bool
  issued : List IssuedBeat
  beats : List (Nat × Int)
  nextBeat : Nat
  extLast : Option Int
  extEdges : List Int
  yInAt : Option Int
  planHist : List (Int × Int × Int)
  headHist : List (Int × Nat)
  holdFrom : Option Int
deriving DecidableEq, Repr

/-- The stage block after a reset: every history at first use (Table 18-4). -/
def StageSt.reset : StageSt :=
  { met := Vector.replicate 4 MetCh.first, epoch := 0, yawX1 := none, yawX2 := none, cmpArmed := false, inner := none,
    axes := Vector.replicate 2 Axis.rest, wait := .none, derated := false, spSeq := 0, spPhase := 0, gridAt := 0, spStop := false, issued := [],
    beats := [], nextBeat := 0, extLast := none, extEdges := [], yInAt := none, planHist := [], headHist := [],
    holdFrom := none }

/-- A cadence command (Table 9-9) as its CODE, ARG and BEAT fields. -/
structure CadCmd where
  code : Nat
  arg : Nat
  beat : Nat
deriving DecidableEq, Repr

/-- A cadence frame the lead has issued and that has not yet returned (R368): TYPE, SEQ, payload bytes, issue instant, whether it is
a START verification, and whether it was issued before the last ARM (R370). -/
structure SentFrame where
  typ : Nat
  seq : Nat
  payload : List Byte
  issuedAt : Int
  start : Bool
  old : Bool
deriving DecidableEq, Repr

/-- A beam check that runs on its TARGET (R285, Table 9-9): the lane and the first slot of the named beams, one or sixteen of them,
their code, the internal beats executed and all of them, and when the next one falls, in the stage time base. -/
structure BeamOpen where
  lane : Nat
  slot : Nat
  group : Bool
  code : Nat
  done : Nat
  beats : Nat
  nextAt : Int
deriving DecidableEq, Repr

/-- The cadence link. `due` are commands waiting for a slot on the lead, `scheduled` commands that wait for issue + H on
this device, `flight` the frames on the chain; `lastSeq` and `lastSof` are a member's view of the incoming frames;
`struck` says that the frame now on CAD_IN holds an error that has been raised (R367); `unverified` is R367's chain mark; `verifyAt` when the last VERIFY was issued. -/
structure CadSt where
  seq : Nat
  due : List CadCmd
  scheduled : List (Int × CadCmd)
  flight : List SentFrame
  lastSeq : Option Nat
  lastSof : Option Int
  locked : Bool
  struck : Bool
  unverified : Bool
  verifyAt : Option Int
  startVerify : Bool
  beamCheck : Option BeamOpen
deriving DecidableEq, Repr

/-- The cadence link after a reset: unverified (Table 18-4). -/
def CadSt.reset : CadSt :=
  { seq := 0, due := [], scheduled := [], flight := [], lastSeq := none, lastSof := none,
    locked := false, struck := false, unverified := true, verifyAt := none, startVerify := false,
    beamCheck := none }

end Sys2Proof.Machine
end

