-- ==== Sys2Proof/Machine/Profile.lean ====
section
/-! DEFINITION. The profile generator (R349, R350, R647): jerk-limited moves in whole updates of 0.1 µs, exact over the
rationals. Speeds are in LU/µs, accelerations in LU/µs², jerks in LU/µs³, positions in LU. -/

namespace Sys2Proof.Machine

/-- Motion limits: VMAX, AMAX, JMAX (Table 9-3). -/
structure Limits where
  v : Rat
  a : Rat
  j : Rat
deriving DecidableEq, Repr

/-- One update, in µs. -/
def tick : Rat := 1 / 10

/-- Integer square root, `fuel` bits of result: the largest r with r² ≤ n. -/
def isqrt (fuel n : Nat) (r : Nat := 0) : Nat :=
  match fuel with
  | 0 => r
  | f + 1 =>
    let c := r + 2 ^ f
    isqrt f n (if c * c ≤ n then c else r)

/-- The smallest natural n with n² ≥ q. -/
def ceilSqrt (q : Rat) : Nat :=
  let c := q.ceil.toNat
  let r := isqrt 96 c
  if r * r < c then r + 1 else r

/-- Absolute value. -/
def rabs (x : Rat) : Rat := if x < 0 then -x else x

/-- ⌈q⌉ as a natural, 0 below 0. -/
def ceilN (q : Rat) : Nat := q.ceil.toNat

/-- n1 and n2 of a velocity change of size dv (R647). -/
def changeUpdates (l : Limits) (dv : Rat) : Nat × Nat :=
  if dv = 0 then (0, 0)
  else if dv ≤ l.a * l.a / l.j then (ceilSqrt (dv / (l.j * tick * tick)), 0)
  else (ceilN (l.a / (l.j * tick)), ceilN ((dv / l.a - l.a / l.j) / tick))

/-- N(u, w) in µs (R647). -/
def changeTime (l : Limits) (u w : Rat) : Rat :=
  let n := changeUpdates l (rabs (w - u))
  ((2 * n.1 + n.2 : Nat) : Rat) * tick

/-- S(u, w) in LU (R647). -/
def changeDist (l : Limits) (u w : Rat) : Rat := (u + w) / 2 * changeTime l u w

/-- The three segments of a change from u to w over n1, n2, n1 updates, numbered from phase ph. -/
def changeSegs (n1 n2 : Nat) (u w : Rat) (ph : Nat) : List MoveSeg :=
  if n1 + n2 = 0 then []
  else
    let ap := (w - u) / (((n1 + n2 : Nat) : Rat) * tick)
    let j := if n1 = 0 then 0 else ap / ((n1 : Rat) * tick)
    [⟨ph, j, n1⟩, ⟨ph + 1, 0, n2⟩, ⟨ph + 2, -j, n1⟩]

/-- The state (p, v, a) after n updates of jerk j (the phase's closed form, R647). -/
def afterJerk (p v a j : Rat) (n : Nat) : Rat × Rat × Rat :=
  let t : Rat := (n : Rat) * tick
  (p + v * t + a * t * t / 2 + j * t * t * t / 6, v + a * t + j * t * t / 2, a + j * t)

/-- A position held to 2^−64 LU, rounded half up (R647). -/
def hold64 (p : Rat) : Rat := ((p * 2 ^ 64 + 1 / 2).floor : Rat) / 2 ^ 64

/-- The axis state at its present update. -/
def Axis.now (x : Axis) : Rat × Rat × Rat :=
  match x.segs with
  | [] => (hold64 (x.p + x.v * ((x.done : Rat) * tick)), x.v, x.a)
  | g :: _ => let r := afterJerk x.p x.v x.a g.jerk x.done; (hold64 r.1, r.2.1, r.2.2)

/-- Drop finished segments, carrying the state at their end. -/
def Axis.settleSegs (x : Axis) : List MoveSeg → Axis
  | [] => { x with segs := [] }
  | g :: t =>
    if x.done < g.updates then { x with segs := g :: t }
    else
      let r := afterJerk x.p x.v x.a g.jerk g.updates
      Axis.settleSegs { x with p := hold64 r.1, v := r.2.1, a := r.2.2, done := x.done - g.updates } t

/-- The end of a plan that ends at rest: the axis stands at its target (Table 9-4: the final set-point equals p_t). -/
def Axis.finish (x : Axis) : Axis :=
  match x.segs, x.target with
  | [], some t => { x with p := (t : Rat), v := 0, a := 0, done := 0, target := none }
  | _, _ => x

/-- One update of an axis (R349). -/
def Axis.step (x : Axis) : Axis :=
  if x.segs = [] ∧ x.v = 0 then x
  else
    let y := { x with done := x.done + 1 }
    (y.settleSegs y.segs).finish

/-- The axis is at rest, with no move to plan. -/
def Axis.atRest (x : Axis) : Bool := x.segs.isEmpty && decide (x.v = 0) && decide (x.a = 0) && x.goal.isNone

/-- A set-point: the state position rounded to the nearest LU, halves up (R349). -/
def Axis.setPoint (x : Axis) : Int := (x.now.1 + 1 / 2).floor

/-- Phase 0: acceleration back to 0 (R350). -/
def phaseZero (l : Limits) (a : Rat) : List MoveSeg :=
  if a = 0 then []
  else
    let n := ceilN (rabs a / (l.j * tick))
    if n = 0 then [] else [⟨8, -a / ((n : Rat) * tick), n⟩]

/-- The state after a list of segments. -/
def afterSegs (p v a : Rat) : List MoveSeg → Rat × Rat × Rat
  | [] => (p, v, a)
  | g :: t => let r := afterJerk p v a g.jerk g.updates; afterSegs r.1 r.2.1 r.2.2 t

/-- Speed k × 2^−16 LU/µs. -/
def speedOf (k : Nat) : Rat := (k : Rat) / 65536

/-- σ × (S(v0, σV) + S(σV, 0)). -/
def outAndBack (l : Limits) (sg v0 v : Rat) : Rat := sg * (changeDist l v0 (sg * v) + changeDist l (sg * v) 0)

/-- The largest k in lo to hi with outAndBack ≤ d, found by halving; k = lo satisfies it, and it is monotone there. -/
def bisect (l : Limits) (sg v0 d : Rat) (fuel lo hi : Nat) : Nat :=
  match fuel with
  | 0 => lo
  | f + 1 =>
    if hi ≤ lo then lo
    else
      let m := (lo + hi + 1) / 2
      if outAndBack l sg v0 (speedOf m) ≤ d then bisect l sg v0 d f m hi else bisect l sg v0 d f lo (m - 1)

/-- The largest k from `k` downward with outAndBack ≤ d; 1 when none exists (R350 step 1). -/
def scanDown (l : Limits) (sg v0 d : Rat) (k : Nat) : Nat :=
  match k with
  | 0 => 1
  | k + 1 => if k + 1 = 1 ∨ outAndBack l sg v0 (speedOf (k + 1)) ≤ d then k + 1 else scanDown l sg v0 d k

/-- The cruise speed of R350 step 1, as a multiple of 2^−16 LU/µs. At speeds not below |v0| the distance rises with the
speed, so halving finds the largest; below |v0| every multiple is tried. -/
def cruiseK (l : Limits) (vmaxK : Nat) (sg v0 d : Rat) : Nat :=
  if outAndBack l sg v0 (speedOf vmaxK) ≤ d then vmaxK
  else
    let lo := max 1 (ceilN (rabs v0 * 65536))
    if lo < vmaxK ∧ outAndBack l sg v0 (speedOf lo) ≤ d then bisect l sg v0 d 40 lo (vmaxK - 1)
    else scanDown l sg v0 d (min lo vmaxK - 1)

/-- A change of size dv over n1, n2 updates keeps within AMAX and JMAX. -/
def changeFits (l : Limits) (n : Nat × Nat) (dv : Rat) : Bool :=
  if n.1 + n.2 = 0 then decide (dv = 0)
  else
    let ap := dv / (((n.1 + n.2 : Nat) : Rat) * tick)
    decide (ap ≤ l.a) && (decide (n.1 = 0) || decide (ap / ((n.1 : Rat) * tick) ≤ l.j))

/-- Steps 2 to 4 of R350 for cruise speed k × 2^−16, lowering it until both changes keep within the limits. -/
def movePlan (l : Limits) (sg p0 v0 pt d : Rat) (k : Nat) : List MoveSeg :=
  match k with
  | 0 => []
  | k + 1 =>
    let v := speedOf (k + 1)
    let n := changeUpdates l (rabs (sg * v - v0))
    let m := changeUpdates l v
    let n4 := ceilN ((d - outAndBack l sg v0 v) / (v * tick))
    let up : Rat := ((2 * n.1 + n.2 : Nat) : Rat) * tick / 2
    let down : Rat := ((2 * m.1 + m.2 : Nat) : Rat) * tick / 2
    let w := ((pt - p0) - v0 * up) / (up + (n4 : Rat) * tick + down)
    if changeFits l n (rabs (w - v0)) && changeFits l m (rabs w) then
      changeSegs n.1 n.2 v0 w 1 ++ [⟨4, 0, n4⟩] ++ changeSegs m.1 m.2 w 0 5
    else movePlan l sg p0 v0 pt d k

/-- Limits under which a plan exists. -/
def Limits.usable (l : Limits) : Bool := decide (0 < l.a) && decide (0 < l.j) && decide (0 < l.v)

/-- A move to rest at pt, planned from the axis's present state (R350, R351). Without usable limits the axis keeps its
plan. -/
def Axis.moveTo (l : Limits) (vmaxK : Nat) (x : Axis) (pt : Int) : Axis :=
  if !l.usable then x
  else
    let s := x.now
    let z := phaseZero l s.2.2
    let e := afterSegs s.1 s.2.1 s.2.2 z
    let ps := e.1 + changeDist l e.2.1 0
    let t : Rat := (pt : Rat)
    let body :=
      if t = ps then
        let n := changeUpdates l (rabs e.2.1)
        changeSegs n.1 n.2 e.2.1 0 1
      else
        let sg : Rat := if t > ps then 1 else -1
        let d := sg * (t - e.1)
        movePlan l sg e.1 e.2.1 t d (cruiseK l vmaxK sg e.2.1 d)
    let y : Axis := { p := s.1, v := s.2.1, a := s.2.2, done := 0, segs := z ++ body, target := some pt, scan := false,
                      goal := none }
    (y.settleSegs y.segs).finish

/-- A velocity change to w from the present state, held afterwards (R352 run-in, R373). -/
def Axis.changeTo (l : Limits) (x : Axis) (w : Rat) : Axis :=
  if !l.usable then x
  else
    let s := x.now
    let z := phaseZero l s.2.2
    let e := afterSegs s.1 s.2.1 s.2.2 z
    let n := changeUpdates l (rabs (w - e.2.1))
    let y : Axis := { p := s.1, v := s.2.1, a := s.2.2, done := 0, segs := z ++ changeSegs n.1 n.2 e.2.1 w 1,
                      target := none, scan := decide (w ≠ 0), goal := none }
    y.settleSegs y.segs

/-- A stop within the limits where the axis is (R350 with p_t = p_s, R352); the stop point is rounded to the nearest LU. -/
def Axis.stopHere (l : Limits) (x : Axis) : Axis := { x.changeTo l 0 with scan := false }

/-- The plan for a goal from the axis's present state. -/
def Axis.planFor (l : Limits) (vmaxK : Nat) (x : Axis) (g : AxisGoal) : Axis :=
  match g with
  | .to pt => { x.moveTo l vmaxK pt with goal := none }
  | .vel w => { x.changeTo l w with goal := none }
  | .stop => { x.stopHere l with goal := none }

/-- One update of an axis, from whose state a new target is planned (R349, R351). -/
def Axis.update (l : Limits) (vmaxK : Nat) (x : Axis) : Axis :=
  match x.goal with
  | none => x.step
  | some g => x.step.planFor l vmaxK g

/-- n updates of an axis. -/
def Axis.updates (l : Limits) (vmaxK n : Nat) (x : Axis) : Axis := (List.range n).foldl (fun x _ => x.update l vmaxK) x

end Sys2Proof.Machine
end

