-- ==== Sys2Proof/Machine/BlockState/Caril.lean ====
section
/-! DEFINITION. State of the carillon and of the 18 lanes (Chapter 8). -/

namespace Sys2Proof.Machine

/-- LANE_STATUS.TX_STATE (Table 8-16). -/
inductive TxState where
  | sleep | waking | training | data | failed
deriving DecidableEq, Repr

/-- LANE_STATUS.RX_STATE (Table 8-16). -/
inductive RxState where
  | sleep | acquire | data | lost
deriving DecidableEq, Repr

/-- What the device keeps of a sent peal (R314): SEQ, BEAT and its pass, whether FIRE = 1 and DAMP = 0, whether it was
aborted, and when its last block left the pins. -/
structure PealRec where
  seq : Nat
  beat : Nat
  pass : Nat
  live : Bool
  aborted : Bool
  endAt : Nat
deriving DecidableEq, Repr

/-- Lane training (R317 to R320): when TRAINING was entered, the consecutive RX_READY echoes seen, the statuses being
reported, whether a request awaits its all-HOLD echo, and the DONE frames sent. -/
structure TrainSt where
  enteredAt : Nat
  rxReady : Nat
  statPre : Nat
  statMain : Nat
  statPost : Nat
  pendingHold : Bool
  doneFrames : Nat
  rxAdapted : Bool
deriving DecidableEq, Repr

/-- No training history. -/
def TrainSt.fresh : TrainSt := ⟨0, 0, 0, 0, 0, false, 0, false⟩

/-- One lane. `seq` is the next counted SEQ; `tslot` the next TSLOT (R300); `echoOn` that DATA has been entered since
TRAINING, so that the echo timeout exists; `echoFrom` when it started or restarted; `echoDead` that it has run out; `statusAt` the last valid STATUS echo; `echoSeen` whether a STATUS echo came since DATA (R301); `ffe` a write to LANE_FFE that waits for IDLE (R330); `wire` when the last block of the
frame on the wire starts: until then a damp can cut it (R303). -/
structure Lane where
  tx : TxState
  rx : RxState
  txWakeAt : Nat
  train : TrainSt
  echoOk : Bool
  echoSeen : Bool
  echoOn : Bool
  echoFrom : Nat
  echoDead : Bool
  statusAt : Nat
  mismatch : Bool
  level : Nat
  tempLevel : Nat
  lost : Nat
  drvEpoch : Nat
  epoch : Nat
  skewActive : Int
  eyeActive : Int
  eyeStaged : Int
  eyeSweep : Bool
  seq : Nat
  tslot : Nat
  wire : Option Nat
  peals : List PealRec
  ffe : Option Word
deriving DecidableEq, Repr

/-- A sleeping lane, as after a reset. -/
def Lane.asleep : Lane :=
  { tx := .sleep, rx := .sleep, txWakeAt := 0, train := TrainSt.fresh, echoOk := false, echoSeen := false, echoOn := false,
    echoFrom := 0, echoDead := false, statusAt := 0, mismatch := false, level := 0, tempLevel := 0, lost := 0, drvEpoch := 0, epoch := 0,
    skewActive := 0, eyeActive := 0, eyeStaged := 0, eyeSweep := false, seq := 0, tslot := 0,
    wire := none, peals := [], ffe := none }

/-- The carillon: the lanes, the damp path (R303, R304), the per-beam trim tables by beam, the beats whose peals are due
and the deflection sample count. `dampN` is the level of the DAMP_N pin (true = asserted, low). -/
structure CarilSt where
  lanes : Vector Lane 18
  dampN : Bool
  latch : Bool
  cause : Nat
  trimActive : Sparse Nat
  trimStaged : Sparse Nat
  deflSeq : Nat
  measureReq : Nat
  measureAbort : Nat
deriving DecidableEq, Repr

/-- The carillon after a reset. -/
def CarilSt.reset : CarilSt :=
  { lanes := Vector.replicate 18 Lane.asleep, dampN := false, latch := false, cause := 0, trimActive := [],
    trimStaged := [], deflSeq := 0, measureReq := 0, measureAbort := 0 }

end Sys2Proof.Machine
end

