-- ==== Sys2Proof/Machine/BlockState/DataPath.lean ====
section
/-! DEFINITION. State of the data path: bobbins (Chapter 4), dose correction (Chapter 5), dose store (Chapter 6) and planner
(Chapters 1 and 7). -/

namespace Sys2Proof.Machine

/-- Stripe states (Table 1-4). -/
inductive StripeState where
  | idle | armed | runIn | exposing | runOut | done | aborted
deriving DecidableEq, Repr

/-- What a bobbin runs (Table 4-7): nothing, a tile with its run number, or a live job of block (row, column). -/
inductive BobJob where
  | idle
  | tile (t run : Nat)
  | live (br bc : Nat)
deriving DecidableEq, Repr

/-- One bobbin. `startedAt` is when its job started, moved on by any suspension (R187); `suspended` is the tile a reserved
bobbin has put aside (R182), with its run number and the time it had run; `held` is a finished, undelivered tile (R166). -/
structure BobUnit where
  job : BobJob
  startedAt : Nat
  suspended : Option (Nat × Nat × Nat)
  held : Option Nat
  strikes : Nat
  reserved : Bool
deriving DecidableEq, Repr

/-- A bobbin with nothing to do. -/
def BobUnit.empty : BobUnit := ⟨.idle, 0, none, none, 0, false⟩

/-- One finished run of a tile: who ran it and the coverage words it found, by pixel of the tile (Table 4-2). -/
structure TileRun where
  tile : Nat
  unit : Nat
  words : Sparse Nat
deriving DecidableEq, Repr

/-- A live job that waits: its block, and the bobbin it was taken from (R187, R188). -/
structure LiveWait where
  br : Nat
  bc : Nat
  not_ : Option Nat
deriving DecidableEq, Repr

/-- The tiles of one pipeline's stripe (R164, R166): how many have been issued and delivered, whether they run twice (R186). `results`
are tiles ready for delivery, `runs` finished dual runs that wait for their partner, `again` tiles to be issued again with the units
they may not use, `stuck` tiles that never complete (R186, R190). -/
structure TileQueue where
  issued : Nat
  delivered : Nat
  dual : Bool
  again : List (Nat × List Nat)
  runs : List TileRun
  results : List TileRun
  stuck : List Nat
deriving DecidableEq, Repr

/-- No tile of a stripe has been issued. -/
def TileQueue.empty : TileQueue := ⟨0, 0, false, [], [], [], []⟩

/-- The bobbins. `queues` holds the tiles of each pipeline, the native one's at 0; `reserve` is the RESERVE of the native stripe, `live`
the live jobs that wait, `cache` the motif cache tags by set, most recent first. -/
structure BobSt where
  units : Vector BobUnit 32
  queues : Vector TileQueue 4
  reserve : Nat
  live : List LiveWait
  cache : Sparse (List Nat)
deriving DecidableEq, Repr

/-- Bobbins after a reset. -/
def BobSt.reset : BobSt :=
  { units := Vector.replicate 32 BobUnit.empty, queues := Vector.replicate 4 TileQueue.empty, reserve := 0, live := [], cache := [] }

/-- A record kept until it is acknowledged (R210, R275): its destination device, its type, row and count fields, its
bytes and when it is next sent again. -/
structure KeptRecord where
  dst : Nat
  typ : Nat
  stripe : Nat
  row : Nat
  count : Nat
  bytes : List Byte
  dueAt : Nat
deriving DecidableEq, Repr

/-- Dose correction. `cov` holds the coverage words of delivered tiles by line × 4,096 + column; `near` the D0 values taken
from near records by row × 65,536 + cell column; `fog` the fog sums by (row × 64 + device) × 4,096 + cell; `nearHave` and
`fogHave` which records are held; `nearSent` and `fogSent` count the near groups and fog rows sent; `lost` the devices lost
for the stripe; `waitUntil` when each device's wait runs out and `waitRaised` the waits that have raised COR_EDGING_LOST. -/
structure CorrSt where
  cov : Sparse Nat
  near : Sparse Nat
  nearHave : List (Nat × Nat)
  fog : Sparse Nat
  fogHave : List (Nat × Nat)
  kept : List KeptRecord
  nearSent : Nat
  fogSent : Nat
  lost : Nat
  waitUntil : Sparse Nat
  waitRaised : Nat
  rowsFinal : Nat
  stopped : Bool
  densityMissing : Bool
deriving DecidableEq, Repr

/-- Correction after a reset or an ARM (R213). -/
def CorrSt.reset : CorrSt :=
  { cov := [], near := [], nearHave := [], fog := [], fogHave := [], kept := [], nearSent := 0, fogSent := 0, lost := 0,
    waitUntil := [], waitRaised := 0, rowsFinal := 0, stopped := false, densityMissing := false }

/-- What a live descriptor names (Table 6-6). -/
structure LiveDesc where
  seqFirst : Nat
  seqCount : Nat
  cost : Nat
  expect : Nat
  stream : Nat
  check : Nat
deriving DecidableEq, Repr

/-- The dose store. `coded` rows stand in DRAM, `verified` of them have been read back; `pixels` are the target doses coded
by line × 4,096 + column, which verification compares with; `live` holds the live descriptors by linear block index and
`liveEntry` the live-buffer entry of each regenerated block; `mismatched` the blocks of R254; `released` is the first block
row whose live jobs are not yet released; `feasDampAt` the delivery point at which R259 damps; `failed` that a slot has
failed in this pass (R251). -/
structure StoreSt where
  coded : Nat
  verified : Nat
  lostRow : Option Nat
  pixels : Sparse Nat
  live : Sparse LiveDesc
  liveEntry : List (Nat × Nat)
  mismatched : List Nat
  delivered : Nat
  released : Nat
  feasOk : Bool
  feasSlack : Int
  feasDampAt : Option Nat
  failed : Bool
deriving DecidableEq, Repr

/-- The store after a reset or an ARM. -/
def StoreSt.reset : StoreSt :=
  { coded := 0, verified := 0, lostRow := none, pixels := [], live := [], liveEntry := [], mismatched := [],
    delivered := 0, released := 0, feasOk := false, feasSlack := 0, feasDampAt := none, failed := false }

/-- A cause under R45 that waits for its instant: the pass and line that cannot be guaranteed; `fromBeat` when the rule
that names the cause damps from a beat of its own. -/
structure Underrun where
  pass : Nat
  line : Nat
  fromBeat : Option Nat
deriving DecidableEq, Repr

/-- The verification of a START on its way round the chain (R42): the frame's SEQ and when it was issued. -/
structure StartCheck where
  issuedAt : Nat
  seq : Option Nat
deriving DecidableEq, Repr

/-- Which scan runs (R284, R285). -/
inductive ScanKind where
  | electrical | gate
deriving DecidableEq, Repr

/-- A running beam scan: when it started (model's time) and its result slot; its results so far by beam (new entry, trim,
flags, two measurements); the lanes that have returned every report (electrical). For a gate scan: the baseline, the beam
or group being measured and its step (0 the group or code 255, then the codes of single beams), D1 of the beam, for groups
measured alone `failing` holds those out of tolerance (R285 step 3); the end of the open window in the stage time base, its sum, and whether the last measurement is done; `fault` ends a scan early. -/
structure ScanSt where
  kind : ScanKind
  startedAt : Nat
  slot : Nat
  entries : Sparse (Nat × Nat × Nat × Nat × Nat)
  lanesDone : Nat
  baseline : Option Nat
  item : Nat
  sub : Nat
  failing : List Nat
  d1 : Nat
  window : Option Int
  sum : Nat
  finished : Bool
  fault : Nat
deriving DecidableEq, Repr

/-- The planner: the stripe life cycle of Chapter 1, the shift count, the maps of Chapter 7 and the capacity check.
`doses` are delivered target doses of the current pass by line × 4,096 + column; `beat` is the next beat to execute;
`shifts` the executed shift commands that wait for their beats (R266: beat, step, refused by R267);
`outAt` is the model's time at entry to RUN_OUT (R316); `finishWait` holds the DONE a late damp waits for (R37); the `abort` fields
say when, by which node and by what kind the stripe was last aborted (R39). `edgeOk` and `edgeGot` say by side (0 device
i − 1, 1 device i + 1) whether the edge record matches and whether it came; `seamHave` the rows held as (SIDE, row);
`seamWait` by side when the wait for a record runs out and whether it has raised PLN_SEAM_LOST; `compRows` the block rows whose capacity
check has run and `compBad` the first failing line of each that failed (R272, R273). -/
structure PlanSt where
  state : StripeState
  pass : Nat
  h : Int
  beat : Nat
  started : Option StartCheck
  accepted : Bool
  failChain : Bool
  failMatch : Bool
  columnCommitted : Bool
  underruns : List Underrun
  finishWait : Bool
  abortAt : Nat
  abortNode : Nat
  abortWritten : Bool
  shifts : List (Nat × Int × Bool)
  outAt : Nat
  doses : Sparse Nat
  defActive : Sparse Nat
  defStaged : Sparse Nat
  seamActive : Sparse Nat
  seamStaged : Sparse Nat
  remap : Sparse Nat
  compRows : List Nat
  compBad : List Nat
  edgeOk : Vector Bool 2
  edgeGot : Vector Bool 2
  seamHave : List (Nat × Nat)
  seamWait : Vector (Option (Nat × Bool)) 2
  scan : Option ScanSt
deriving DecidableEq, Repr

/-- The defect entry of a GOOD beam: STATE 0, FACTOR 256 (R67). -/
def goodEntry : Nat := 0x0100

/-- The planner after a reset. -/
def PlanSt.reset : PlanSt :=
  { state := .idle, pass := 0, h := 0, beat := 0, started := none, accepted := false, failChain := false,
    failMatch := false, columnCommitted := false, underruns := [], finishWait := false,
    abortAt := 0, abortNode := 0, abortWritten := false, shifts := [], outAt := 0, doses := [],
    defActive := [], defStaged := [], seamActive := [], seamStaged := [], remap := [], compRows := [], compBad := [],
    edgeOk := Vector.replicate 2 false, edgeGot := Vector.replicate 2 false, seamHave := [], seamWait := Vector.replicate 2 none,
    scan := none }

end Sys2Proof.Machine
end

