-- ==== Sys2Proof/Machine/BlockState/Engine.lean ====
section
/-! DEFINITION. State of the tracking engine (Chapter 10), the network ports and the local clock (Chapter 11), the DRAM
controller (Chapter 12) and the check units (Chapter 16). -/

namespace Sys2Proof.Machine

/-! ## Tracking engine -/

/-- A data shift issued and not yet executed (R385): its beat and its step. -/
structure PendShift where
  beat : Nat
  step : Int
deriving DecidableEq, Repr

/-- What one channel gave at a reference edge: the edge, the sample instant, and the position where the sample was good. -/
structure EdgeSample where
  tref : Int
  time : Int
  pos : Option Int
deriving DecidableEq, Repr

/-- The tracking engine. `tables` holds maps and learning tables by table × 65,536 + index (0 X map, 1 Y map, 2 and 3
learning tables); `words` the last words sent; `base` the last X word without its grid term; `x0` and `y2` the
samples of channels 0 and 2 whose cycle has not run; `heldDue` says that the loss of a channel at the edge ended the stripe before its
cycle ran, which is then held (Table 10-3a); `recentre` the shifts whose extra DEFL block is due. -/
structure TrackSt where
  tables : Sparse Int
  ready : Vector Bool 2
  fill : Vector Nat 2
  integ : Vector Int 2
  n : Nat
  hPend : Int
  hDfl : Int
  shifts : List PendShift
  recentre : List PendShift
  bank : Nat
  swapPending : Bool
  words : Vector Int 2
  base : Int
  x0 : Option EdgeSample
  y2 : Option EdgeSample
  heldDue : Bool
deriving DecidableEq, Repr

/-- The engine at first use (Table 10-1). -/
def TrackSt.reset : TrackSt :=
  { tables := [], ready := Vector.replicate 2 false, fill := Vector.replicate 2 0, integ := Vector.replicate 2 0, n := 0,
    hPend := 0, hDfl := 0, shifts := [], recentre := [], bank := 0, swapPending := false, words := Vector.replicate 2 0,
    base := 0, x0 := none, y2 := none, heldDue := false }

/-! ## Network -/

/-- One lace flow (R404, R405): counts, the LIMIT last sent, when a NAK and a CTRL were last sent, whether a discard awaits
a NAK and whether OPEN is still to be signalled. -/
structure Flow where
  next : Nat
  received : Nat
  limitSent : Nat
  nakAt : Option Nat
  ctrlAt : Nat
  nakDue : Bool
  opened : Bool
deriving DecidableEq, Repr

/-- A flow that has carried nothing. -/
def Flow.fresh : Flow := ⟨0, 0, 0, none, 0, false, false⟩

/-- The network ports: flows, and the MACs with link. -/
structure NetSt where
  flows : Vector Flow 64
  link : Nat
deriving DecidableEq, Repr

/-- Network state after a reset: no flow, no link. -/
def NetSt.reset : NetSt := { flows := Vector.replicate 64 Flow.fresh, link := 0 }

/-! ## Local clock -/

/-- The local clock (R411): SEC, NS, FR, and SEC and NS before its last 2 ns step; PPS_OUT and when it falls; the previous PPS_IN
edge. -/
structure TimeSt where
  sec : Nat
  ns : Nat
  fr : Nat
  prevSec : Nat
  prevNs : Nat
  ppsOut : Bool
  ppsFallAt : Nat
  ppsInAt : Option Nat
deriving DecidableEq, Repr

/-- The local clock after a reset: 0, invalid by TIME_STATUS. -/
def TimeSt.reset : TimeSt := { sec := 0, ns := 0, fr := 0, prevSec := 0, prevNs := 0, ppsOut := false, ppsFallAt := 0, ppsInAt := none }

/-! ## DRAM controller -/

/-- A running scrub (R446 to R448). -/
structure Scrub where
  addr : Nat
  stop : Nat
  slot : Nat
  repair : Bool
  ce : Nat
  ue : Nat
  af : Nat
  first : Option Nat
  last : Nat
  count : Nat
deriving DecidableEq, Repr

/-- A crossing whose next activations are being counted by source (R433): the row, the address of the crossing activation,
the activations still to count and the sources seen. -/
structure Hammer where
  bank : Nat
  row : Nat
  addr : Nat
  left : Nat
  seen : List Nat
deriving DecidableEq, Repr

/-- A throttled source (R433): until when, and when it was last admitted. -/
structure Hold where
  src : Nat
  until_ : Nat
  lastAt : Nat
deriving DecidableEq, Repr

/-- A DRAM request that waits: a write or a read of a source of Table 12-4 as its command gives it, or a write, of bytes or of
poison, that an engine makes. -/
inductive DramReq where
  | write (src a : Nat) (act : Bool) (l : List Byte)
  | read (src a : Nat) (act : Bool) (at_ flipData flipCheck : Nat) (sram : Bool)
  | engine (a : Nat) (l : List Byte)
  | poison (a n : Nat)
deriving DecidableEq, Repr

/-- The DRAM controller. `trackers` holds up to 64 (row, count) entries by bank index (R432), all cleared at `windowAt`; `held` the
requests held during a fill (R444), and `waiting` those whose source is throttled (R433), in order of arrival; `selfRefresh`
whether the stacks refresh themselves. -/
structure HbmSt where
  filling : Bool
  scrub : Option Scrub
  inject : Option (Nat × Nat)
  trackers : Sparse (List (Nat × Nat))
  hammers : List Hammer
  holds : List Hold
  logNext : Nat
  windowAt : Nat
  held : List DramReq
  waiting : List DramReq
  hot : Vector Bool 2
  tempSeen : Vector Bool 2
  selfRefresh : Bool
  accessible : Bool
deriving DecidableEq, Repr

/-- The controller after a reset: the fill is running (Table 12-10). -/
def HbmSt.reset : HbmSt :=
  { filling := true, scrub := none, inject := none, trackers := [], hammers := [], holds := [], logNext := 0, windowAt := 0, held := [], waiting := [],
    hot := Vector.replicate 2 false, tempSeen := Vector.replicate 2 false, selfRefresh := false, accessible := true }

/-! ## Check units -/

/-- The ten check units: the host command each runs (Table 16-3), and whether its owner claims it (R523). -/
structure CheckSt where
  run : Vector (Option Nat) 10
  claimed : Vector Bool 10
deriving DecidableEq, Repr

/-- Check units after a reset: idle. -/
def CheckSt.reset : CheckSt := { run := Vector.replicate 10 none, claimed := Vector.replicate 10 false }

end Sys2Proof.Machine
end

