-- ==== Sys2Proof/Machine/BlockState/Global.lean ====
section
/-! DEFINITION. The applied structure (what a pricking image fixes, Chapter 2), the boot and reset state (Chapter 18), the
flash and the locks (Chapter 21), and the fault, snapshot and sideband state of the always-on island (Chapter 17). -/

namespace Sys2Proof.Machine

/-- The roles of Table 1-1. -/
inductive Role where
  | solo | lead | member
deriving DecidableEq, Repr

/-- A pipeline entry of R59. -/
structure PipeCfg where
  pillows : Nat
  corr : Nat
  lanes : Nat
  partition : Nat
deriving DecidableEq, Repr

/-- A PLL entry of R62. -/
structure PllCfg where
  refsel : Nat
  mult : Nat
  div : Nat
deriving DecidableEq, Repr

/-- An island entry of R62. -/
structure IslandCfg where
  pll : Nat
  postDiv : Nat
deriving DecidableEq, Repr

/-- A metrology port entry of Table 2-12. -/
structure MetPort where
  enable : Bool
  func : Nat
  rateMbps : Nat
  latchPs : Nat
  sampleKhz : Nat
deriving DecidableEq, Repr

/-- What the applied image fixes (R54 to R70), as fields. `safe` is the safe structure of R85. -/
structure Structure where
  safe : Bool
  mode : Nat
  tlIdentity : Nat
  role : Role
  devIndex : Nat
  columnSize : Nat
  columnId : Nat
  rowsSel : Nat
  pitchSel : Nat
  slant : Bool
  pipes : List PipeCfg
  parts : List (Nat × Nat)
  plls : List PllCfg
  islands : List IslandCfg
  cap : Nat
  prio : List Nat
  ops : List (Nat × Nat)
  dataRate : Nat
  delays : List Byte
  macs : List Nat
  met : List MetPort
  spFrameHz : Nat
  checkMethods : Nat
  locks : List (Nat × Word)
deriving DecidableEq, Repr

/-- The four metrology ports at the defaults of Table 2-12. -/
def MetPort.defaults : List MetPort :=
  [⟨true, 0, 800, 0, 5000⟩, ⟨true, 0, 800, 0, 5000⟩, ⟨true, 0, 800, 0, 5000⟩, ⟨false, 0, 800, 0, 5000⟩]

/-- The safe structure (R85, Table 2-15). -/
def Structure.safeStructure : Structure :=
  { safe := true, mode := 0, tlIdentity := 0, role := .solo, devIndex := 0, columnSize := 1, columnId := 0,
    rowsSel := 1, pitchSel := 1, slant := false, pipes := [], parts := [], plls := [], islands := [], cap := 600,
    prio := [0, 0, 0, 0], ops := [], dataRate := 6400, delays := [], macs := [], met := MetPort.defaults,
    spFrameHz := 100000, checkMethods := 3, locks := [] }

/-- Why a cold or warm reset runs (R546); the order is that of the bits of GLOBAL_RESET_CAUSE. -/
inductive ResetCause where
  | powerOn | sysRst | brownout | thermal | coldCmd | perst | warmCmd
deriving DecidableEq, Repr

/-- A flash command that runs (R618). -/
inductive FlashOp where
  | read | program | erase4k | erase64k
deriving DecidableEq, Repr

/-- What a valid SFDP table (JESD216) says of the flash: its density, and the opcodes, with four-byte addresses, of the 1-4-4 and
1-1-4 reads (R76), of the read, the page program and the erase types (R618). -/
structure Sfdp where
  sizeKib : Nat
  read144 : Option Nat
  read114 : Option Nat
  program : Nat
  erase4k : Nat
  erase64k : Option Nat
deriving DecidableEq, Repr

/-- The QSPI flash: contents (0xFF where nothing is listed), its SFDP table, none where it has no valid one, the spans an
abandoned command left undefined (R620), and the running command with its address. -/
structure FlashSt where
  bytes : Sparse Byte
  sfdp : Option Sfdp
  undef : List (Nat × Nat)
  running : Option (FlashOp × Nat)
deriving DecidableEq, Repr

/-- Instructions of the JTAG port (R638); `provision` stands for the private ones that program fuses (R74). -/
inductive JtagInstr where
  | idcode | bypass | sample | extest | clamp | extestPulse | extestTrain | provision
deriving DecidableEq, Repr

/-- The JTAG port (R638): the loaded instruction, and the boundary cells that drive DAMP_OUT_N (1 where they assert it) and the 18 lanes'
outputs. -/
structure JtagSt where
  instr : JtagInstr
  dampCell : Bool
  laneCells : Vector Bool 18
deriving DecidableEq, Repr

/-- The port after its reset: IDCODE is loaded (IEEE 1149.1, PRESUMED), its cells at 0 (assumption log 82). -/
def JtagSt.reset : JtagSt := ⟨.idcode, false, Vector.replicate 18 false⟩

/-- A boundary-scan instruction other than BYPASS or IDCODE is loaded: the cells drive the damp net and the lanes (R638). -/
def JtagSt.drives (j : JtagSt) : Bool :=
  match j.instr with
  | .idcode | .bypass | .provision => false
  | .sample | .extest | .clamp | .extestPulse | .extestTrain => true

/-- Boot and global state (Chapters 18 and 21). `booting` is some while a cold or warm reset has not reached READY;
`aspm` that host software has enabled ASPM L1 (R501);
`brownout` that this boot follows an always-on brown-out (R508); `aonReset` that AON is in power-on reset after one. -/
structure GlobalSt where
  phase : Nat
  ready : Bool
  safeBoot : Bool
  halted : Bool
  failCode : Nat
  booting : Option Bool
  crs : Bool
  perstAsserted : Bool
  linkUp : Bool
  aspm : Bool
  brownout : Bool
  aonReset : Bool
  fuseSerial : Nat
  fuseKeyDigest : Option Nat
  fuseSigRequired : Bool
  fuseEpochMin : Nat
  flash : FlashSt
  jtag : JtagSt
deriving DecidableEq, Repr

/-- A fault log entry (R528, Table 17-6). `at` is the model's time of the entry, for the 1 µs rule. -/
structure LogEntry where
  valid : Bool
  code : Nat
  count : Nat
  n : Nat
  stage : Nat
  stamp : Nat
deriving DecidableEq, Repr

/-- An unwritten log entry. -/
def LogEntry.empty : LogEntry := ⟨false, 0, 0, 0, 0, 0⟩

/-- The fault logic of AON: raisings on their way (R527), what waits behind a full FIFO, the log, the damp output of
selected faults and thermal trip (R530), the external damp line (R532). -/
structure FaultSt where
  fifo : List (Nat × Nat)
  waiting : List (Nat × Nat)
  log : Sparse LogEntry
  logNext : Nat
  logTotal : Nat
  aonDamp : Bool
  tripped : Bool
  thermtripN : Bool
  stallTimers : Sparse Nat
  junctionLevel : Nat
  softArmed : Bool
  hardArmed : Bool
deriving DecidableEq, Repr

/-- Where a rimshot comes from (R538). -/
inductive RimSource where
  | cmd | pin | trigger | cadence | fault
deriving DecidableEq, Repr

/-- The snapshot store (R538 to R541). `capturing` holds the source of a capture in progress. -/
structure SnapSt where
  words : Vector Word 64
  held : Bool
  capturing : Option Nat
  seq : Nat
  outHigh : Bool
  outUntil : Nat
deriving DecidableEq, Repr

/-- The sideband: SMB_ADDR[1:0] as sampled (R636) and its private pointers (R542). -/
structure SmbusSt where
  addr : Nat
  codePtr : Nat
  logPtr : Nat
  snapPtr : Nat
deriving DecidableEq, Repr

/-- Pricking-image load phases of PRICK_STATUS.PHASE (Table 2-20). -/
inductive LoadPhase where
  | none | fetch | verify | apply
deriving DecidableEq, Repr

/-- The load engine (R80, Table 2-20). `staged` is the staging area of R78; `avail` is PRICK_SRC_SIZE as taken; `verdict`
the failed check of a load that has not ended yet: its section index and fault; `thenFlr` and `thenWarm` an FLR of function 0 and
a warm reset that wait for the end of an APPLY (R89, Table 18-5); `applied` the sections of the applied image, `imageId` its
IMAGE_ID. -/
structure PrickSt where
  phase : LoadPhase
  isLoad : Bool
  staged : List Byte
  avail : Nat
  verdict : Option (Nat × FaultCode)
  thenFlr : Bool
  thenWarm : Bool
  lastOk : Bool
  fromHost : Bool
  slot : Nat
  failSection : Nat
  failCode : Nat
  imageId : Nat
  applied : List (Nat × List Byte)
deriving DecidableEq, Repr

end Sys2Proof.Machine
end

