-- ==== Sys2Proof/Machine/BlockState/Host.lean ====
section
/-! DEFINITION. State of the host interface (Chapter 13): rings, operations, result slots and MSI-X vectors. -/

namespace Sys2Proof.Machine

/-- Ring states (R460). -/
inductive RingState where
  | disabled | running | stopping | stopped
deriving DecidableEq, Repr

/-- One ring (R459, R462). `disableReq` marks a DISABLE that waits for DONE = HEAD. -/
structure Ring where
  st : RingState
  tail : Nat
  head : Nat
  done : Nat
  waitSlot : Bool
  stopCode : Nat
  disableReq : Bool
deriving DecidableEq, Repr

/-- A ring after a reset. -/
def Ring.fresh : Ring := ⟨.disabled, 0, 0, 0, false, 0, false⟩

/-- An operation in flight (R461): its ring and count there, its head descriptor's 64 bytes, the chain elements not yet
finished (the current one first, each 64 bytes), the RESULT and FAULT that a break of its chain behind them gives, whether it has
started and its DMA channel, the bytes done of the current element, the elements finished, the COMPARE and PTP results so far,
whether poison was met, its RESULT and FAULT once it has ended, and whether its completion has been taken. -/
structure DmaOp where
  ring : Nat
  count : Nat
  head : List Byte
  elems : List (List Byte)
  brk : Option (Nat × FaultCode)
  started : Bool
  chan : Nat
  off : Nat
  nDone : Nat
  mism : Nat
  firstMism : Option Nat
  poison : Bool
  stamp : Nat × Nat × Nat
  frame : Nat
  event : Bool
  slot : Option Nat
  result : Option (Nat × Nat)
  completed : Bool
deriving DecidableEq, Repr

/-- Result slot states (R475). -/
inductive SlotState where
  | free | busy | ready
deriving DecidableEq, Repr

/-- A result slot (Table 13-8). -/
structure Slot where
  st : SlotState
  seq : Nat
  source : Nat
  tag : Nat
  data : List Word
deriving DecidableEq, Repr

/-- A free slot that has never been used. -/
def Slot.fresh : Slot := ⟨.free, 0, 0, 0, []⟩

/-- The host interface. `ops` are in flight, oldest first; `turn` is the ring that took a channel last (R463); `masked` and `pend`
the MSI-X mask and pending bits. -/
structure DmaSt where
  rings : Vector Ring 64
  ops : List DmaOp
  turn : Nat
  slots : Vector Slot 256
  masked : Vector Bool 128
  pend : Vector Bool 128
  msixAddr : Sparse Nat
  msixData : Sparse Nat
  bytes : Nat
deriving DecidableEq, Repr

/-- The host interface after a reset: rings disabled, slots free, every vector masked. -/
def DmaSt.reset : DmaSt :=
  { rings := Vector.replicate 64 Ring.fresh, ops := [], turn := 63, slots := Vector.replicate 256 Slot.fresh,
    masked := Vector.replicate 128 true, pend := Vector.replicate 128 false, msixAddr := [], msixData := [], bytes := 0 }

end Sys2Proof.Machine
end

