-- ==== Sys2Proof/Machine/BlockState/Out.lean ====
section
/-! DEFINITION. What the device sends. -/

namespace Sys2Proof.Machine

/-- What the headers of a transport datagram say, as far as the manual fixes them (R398, R400, Tables 11-7, 11-8): the MAC addresses,
the VLAN tag as VID and PCP, IPv4 or IPv6, DF, TTL or hop limit, DSCP, the IP addresses, the UDP ports and the UDP checksum. -/
structure NetHeader where
  dstMac : Nat
  srcMac : Nat
  vlan : Option (Nat × Nat)
  v6 : Bool
  df : Bool
  ttl : Nat
  dscp : Nat
  srcIp : Nat
  dstIp : Nat
  srcPort : Nat
  dstPort : Nat
  checksum : Nat
deriving DecidableEq, Repr

/-- Something the device sends. -/
inductive Out where
  | peal (lane startAt : Nat) (bytes : List Byte)
  | hardDamp (lane : Nat)
  | abortBlock (lane : Nat)
  | trainFrame (lane : Nat) (bytes : List Byte)
  | defl (lane : Nat) (bytes : List Byte)
  | tlFrame (lane : Nat) (bytes : List Byte)
  | setPoint (bytes : List Byte)
  | cadence (bytes : List Byte)
  | datagram (mac : Nat) (head : NetHeader) (bytes : List Byte)
  | msix (func vec : Nat)
  | hostWrite (addr : Nat) (bytes : List Byte)
  | hostPoison (addr len : Nat)
  | ptpFrame (mac : Nat) (bytes : List Byte)
  | smbus (bytes : List Byte)
  | config (func : Nat) (crs : Bool) (value : Word)
  | pmbus (bytes : List Byte)
  | qspi (opcode addr len : Nat)
  | windowRead (pers : Nat) (value : Word)
deriving DecidableEq, Repr

/-- What is sent on a carillon or TL-40 lane. -/
def Out.onLane : Out → Bool
  | .peal .. | .hardDamp .. | .abortBlock .. | .trainFrame .. | .defl .. | .tlFrame .. => true
  | _ => false

end Sys2Proof.Machine
end

