-- ==== Sys2Proof/Machine/BlockState/Power.lean ====
section
/-! DEFINITION. State of clocks, islands and crossings (Chapter 14) and of power (Chapter 15). -/

namespace Sys2Proof.Machine

/-- One island's clock (R486): held in reset by a lost PLL, by a wrong frequency or by a reset of its own; the frequency
bad flag; since when its clock has been correct. -/
structure Island where
  pllReset : Bool
  freqReset : Bool
  ownReset : Bool
  freqBad : Bool
  okFrom : Nat
deriving DecidableEq, Repr

/-- A held-value crossing that carries the register words of an island's blocks from FABRIC (R489, R490): the words the source
holds, its request flag, the destination's acknowledge flag, the acknowledge as the source has synchronised it, the words the
destination took last, the pending stage, and whether both sides are READY (R495). -/
structure HeldXing where
  value : Sparse Word
  req : Bool
  ack : Bool
  seen : Bool
  taken : Sparse Word
  pend : Option (Sparse Word)
  isOpen : Bool
deriving DecidableEq, Repr

/-- A held-value crossing with its flags at zero. -/
def HeldXing.fresh (isOpen : Bool) : HeldXing := ⟨[], false, false, false, [], none, isOpen⟩

/-- A pulse crossing (R491, R492): the pending count, the count a transfer carries, the request flag, the destination's acknowledge
flag, the acknowledge as the source has synchronised it, the events the destination has counted, and whether it is open. -/
structure PulseXing where
  pend : Nat
  carried : Nat
  req : Bool
  ack : Bool
  seen : Bool
  taken : Nat
  isOpen : Bool
deriving DecidableEq, Repr

/-- A pulse crossing with its flags and counts at zero. -/
def PulseXing.fresh (isOpen : Bool) : PulseXing := ⟨0, 0, false, false, false, 0, isOpen⟩

/-- Clocks and crossings: `xOpen` which crossings are open (R495), `words` the crossing that carries each island's register words,
`edges` the one that carries external beat edges from STAGE to CARIL (R361). -/
structure ClockSt where
  locked : Vector Bool 6
  islands : Vector Island 24
  xOpen : Vector Bool 96
  words : Vector HeldXing 24
  edges : PulseXing
deriving DecidableEq, Repr

/-- Clocks at the release of power-on reset: no PLL locked, every island but AON in reset (Table 14-4). -/
def ClockSt.reset : ClockSt :=
  { locked := Vector.replicate 6 false,
    islands := (Vector.replicate 24 ⟨false, false, true, false, 0⟩).set 0 ⟨false, false, false, false, 0⟩,
    xOpen := Vector.replicate 96 false
    words := Vector.replicate 24 (HeldXing.fresh false)
    edges := PulseXing.fresh false }

/-- Device states (R499). -/
inductive DevState where
  | run | hush | dormant
deriving DecidableEq, Repr

/-- POWER_STATE.TRANSIT with its target (Table 15-12). -/
inductive Transit where
  | none | enterHush | enterDormant | exitHush | exitDormant
deriving DecidableEq, Repr

/-- A rail change in progress (R511, R512): its target in mV, the pillow whose divider waits for it, the readings taken and
the model's time of the last one. -/
structure RailSet where
  mv : Nat
  pillow : Option Nat
  tries : Nat
  since : Nat
deriving DecidableEq, Repr

/-- Power. `held` are the writes the device holds (R504); `hushNs` and `dormNs` the idle timers; `txData` the TX lanes that
were in DATA before HUSH, `rxAwake` the RX lanes awake before DORMANT; `points` the pillows' operating points, `short` and
`met` the window counts of R513; `railSet` the rail change in progress; `railMv` the last confirmed rail; `voutMode` the
regulator's VOUT_MODE once it has been read; `grants` those of the present window, judged on the demands `demand`; `windows` how many
windows have been judged and `spent` what each unit of a class has issued in the present one (R515). -/
structure PowerSt where
  state : DevState
  transit : Transit
  thenDormant : Bool
  held : List (Nat × Word)
  hushNs : Nat
  dormNs : Nat
  txData : Nat
  rxAwake : Nat
  points : Vector Nat 4
  short : Vector Nat 4
  met : Vector Nat 4
  railMv : Nat
  railSet : Option RailSet
  voutMode : Option Nat
  grants : Vector Nat 4
  demand : Vector Nat 4
  windows : Nat
  spent : Sparse Nat
deriving DecidableEq, Repr

/-- Power at start: RUN, every pillow at point 0 (Table 18-4). -/
def PowerSt.reset : PowerSt :=
  { state := .run, transit := .none, thenDormant := false, held := [], hushNs := 0, dormNs := 0, txData := 0, rxAwake := 0,
    points := Vector.replicate 4 0, short := Vector.replicate 4 0, met := Vector.replicate 4 0, railMv := 0,
    railSet := none, voutMode := none, grants := Vector.replicate 4 0,
    demand := Vector.replicate 4 0, windows := 0, spent := [] }

end Sys2Proof.Machine
end

