-- ==== Sys2Proof/Machine/RegName.lean ====
section
/-! DEFINITION. The names of the registers of the BAR0 index (R621, Table 21-6), in the order of their offsets. The two
word arrays GLOBAL_FLASH_DATA and RING_SLOT_DATA are one name each; the word number is the instance. -/

namespace Sys2Proof.Machine

/-- A register of Table 21-6. -/
inductive Reg where
  | GLOBAL_IDENT
  | GLOBAL_VERSION
  | GLOBAL_TOPOLOGY
  | GLOBAL_BOOT_STATUS
  | GLOBAL_RESET_CAUSE
  | GLOBAL_RESET_CMD
  | GLOBAL_SCRATCH
  | GLOBAL_ACCESS_LOG
  | GLOBAL_ACCESS_COUNT
  | GLOBAL_LOCK_SEL
  | GLOBAL_LOCK_MASK
  | GLOBAL_LOCK_COUNT
  | GLOBAL_FLASH_CFG
  | GLOBAL_FLASH_ADDR
  | GLOBAL_FLASH_CMD
  | GLOBAL_FLASH_STATUS
  | GLOBAL_FLASH_DATA
  | PRICK_CMD
  | PRICK_STATUS
  | PRICK_SRC_ADDR_LO
  | PRICK_SRC_ADDR_HI
  | PRICK_SRC_SIZE
  | PRICK_IMAGE_ID_LO
  | PRICK_IMAGE_ID_HI
  | PRICK_FUSE
  | PRICK_PACKAGE_SERIAL
  | LACE_SCOPE_SEL
  | LACE_CMD
  | LACE_STREAM_ID
  | LACE_SOURCE
  | LACE_BUF_BASE
  | LACE_BUF_SIZE
  | LACE_STATUS
  | LACE_NEXT_SEQ
  | LACE_LINES_READY
  | LACE_REJECT_SEQ
  | LACE_REJECT_CODE
  | LACE_REJECT_STITCH
  | LACE_DROP_COUNT
  | LACE_LIB_SEL
  | LACE_LIB_SIZE
  | LACE_LIB_BASE_LO
  | LACE_LIB_BASE_HI
  | LACE_LIB_CRC
  | LACE_LIB_CMD
  | LACE_LIB_STATUS
  | LACE_LIB_FAIL_OFFSET
  | LACE_LIB_ID_LO
  | LACE_LIB_ID_HI
  | BOB_PIPE_SEL
  | BOB_CFG
  | BOB_WATCHDOG
  | BOB_DISABLE
  | BOB_FAIL_MASK
  | BOB_IN_SERVICE
  | BOB_BUSY
  | BOB_UNIT_SEL
  | BOB_UNIT_STATUS
  | BOB_LIVE_CFG
  | BOB_LIVE_CAPACITY
  | BOB_LIVE_PENDING
  | BOB_TILE_ISSUED
  | BOB_TILE_DELIVERED
  | BOB_CACHE_HITS
  | BOB_CACHE_MISSES
  | BOB_CROSSINGS_LO
  | BOB_CROSSINGS_HI
  | CORR_CFG
  | CORR_NUM
  | CORR_DEN
  | CORR_PEND_BASE
  | CORR_PEND_SIZE
  | CORR_FMAP_BASE
  | CORR_FMAP_SIZE
  | CORR_EDGING_TIMEOUT
  | CORR_EDGING_RETRY
  | CORR_TERM_SEL
  | CORR_TERM_GEOM
  | CORR_TERM_COEF
  | CORR_KERNEL_SEL
  | CORR_KERNEL_DATA
  | CORR_PARAM_CRC
  | CORR_REACH
  | CORR_PARTNERS
  | CORR_ROWS_FINAL
  | CORR_WAIT_MASK_LO
  | CORR_WAIT_MASK_HI
  | CORR_LOST_MASK_LO
  | CORR_LOST_MASK_HI
  | CORR_SAT_STATUS
  | CORR_DOSE_CLAMP_COUNT
  | CORR_EDGING_BAD_COUNT
  | CORR_EDGING_UNKNOWN_COUNT
  | STORE_PIPE_SEL
  | STORE_CFG
  | STORE_BASE
  | STORE_SIZE
  | STORE_LIVE_LEAD
  | STORE_AHEAD_LIMIT
  | STORE_MODE_SEL
  | STORE_STATUS
  | STORE_ROWS_VERIFIED
  | STORE_DELIVERED
  | STORE_LIVE_COUNT
  | STORE_LIVE_COST_MAX
  | STORE_FEAS_SLACK
  | STORE_FEAS_FAIL_ROW
  | STORE_MODE_COUNT
  | STORE_VERIFY_FAIL_COUNT
  | STORE_STALL_CYCLES
  | PLAN_STRIPE_CMD
  | PLAN_STRIPE_ID
  | PLAN_STRIPE_LINES
  | PLAN_STRIPE_CFG
  | PLAN_LOOKAHEAD
  | PLAN_STRIPE_STATUS
  | PLAN_ABORT_STRIPE
  | PLAN_ABORT_WHERE
  | PLAN_ABORT_CAUSE
  | PLAN_PASS_SEL
  | PLAN_PASS_X
  | PLAN_PASS_Y
  | PLAN_PASS_FEED
  | PLAN_PASS_SHARE
  | PLAN_DOSE_GAIN
  | PLAN_SEAM_CFG
  | PLAN_SEAM_BASE
  | PLAN_EXPOSE
  | PLAN_DEFECT_SEL
  | PLAN_DEFECT_DATA
  | PLAN_SEAM_DEFECT_SEL
  | PLAN_SEAM_DEFECT_DATA
  | PLAN_REMAP_SEL
  | PLAN_REMAP_DATA
  | PLAN_SCAN_CMD
  | PLAN_SCAN_CFG
  | PLAN_SCAN_RES
  | PLAN_SCAN_LEAK
  | PLAN_SCAN_REF
  | PLAN_SCAN_HOT
  | PLAN_SCAN_TABLE_LO
  | PLAN_SCAN_TABLE_HI
  | PLAN_SCAN_SLOT
  | PLAN_SCAN_STATUS
  | PLAN_SHIFT
  | PLAN_COMP_STATUS
  | PLAN_COMP_FAIL_WHERE
  | PLAN_COMP_FAIL_LINE
  | PLAN_SEAM_LOST
  | PLAN_SEAM_BAD_COUNT
  | CARIL_CFG
  | CARIL_WINDOW
  | CARIL_TRIM_SEL
  | CARIL_TRIM_DATA
  | CARIL_DAMP_STATUS
  | CARIL_TEMP_LEVEL
  | CARIL_BEAT_PEALS
  | CARIL_ABORTS
  | LANE_SEL
  | LANE_CMD
  | LANE_FFE
  | LANE_RX_EQ
  | LANE_RX_DFE
  | LANE_SKEW
  | LANE_TEMP_LIMIT
  | LANE_TIMEOUT
  | LANE_STATUS
  | LANE_EYE
  | LANE_DRV_TEMP
  | LANE_DRV_CRC_BAD
  | LANE_DRV_LOST
  | LANE_ECHO_BAD
  | STAGE_MET_SEL
  | STAGE_MET_CFG
  | STAGE_MET_PHASE
  | STAGE_MET_CMD
  | STAGE_POS_LO
  | STAGE_POS_HI
  | STAGE_SPEED
  | STAGE_EST_STATUS
  | STAGE_SPEED_CFG
  | STAGE_SPEED_THR
  | STAGE_DIR_CFG
  | STAGE_YAW
  | STAGE_MET_BAD_COUNT
  | STAGE_CMP_TARGET_LO
  | STAGE_CMP_TARGET_HI
  | STAGE_CMP_CFG
  | STAGE_CMP_CMD
  | STAGE_CMP_STATUS
  | STAGE_VMAX
  | STAGE_AMAX
  | STAGE_JMAX
  | STAGE_SCAN_VEL
  | STAGE_SCAN_CFG
  | STAGE_SETTLE
  | STAGE_X0_LO
  | STAGE_X0_HI
  | STAGE_Y0_LO
  | STAGE_Y0_HI
  | STAGE_MOVE_X_LO
  | STAGE_MOVE_X_HI
  | STAGE_MOVE_Y_LO
  | STAGE_MOVE_Y_HI
  | STAGE_MOVE_CMD
  | STAGE_PROFILE_STATUS
  | STAGE_BEAT_CFG
  | STAGE_BEAT_STATUS
  | STAGE_BEAT_PERIOD
  | STAGE_EXT_COUNT
  | STAGE_TEMP_CFG
  | STAGE_TEMP_STATUS
  | STAGE_CAD_HORIZON
  | STAGE_CAD_LINK_DELAY
  | STAGE_CAD_TOL
  | STAGE_CAD_STATUS
  | STAGE_CAD_RING
  | STAGE_CAD_ERR_COUNT
  | TRACK_CFG
  | TRACK_AXIS_SEL
  | TRACK_KP
  | TRACK_KI
  | TRACK_KR
  | TRACK_REP_Q
  | TRACK_SHIFTS
  | TRACK_ILIM
  | TRACK_ULIM
  | TRACK_BANK_CMD
  | TRACK_BANK_STATUS
  | TRACK_RECENTRE
  | TRACK_PARK
  | TRACK_MAP_SEL
  | TRACK_MAP_INDEX
  | TRACK_MAP_BASE_LO
  | TRACK_MAP_BASE_HI
  | TRACK_MAP_DATA
  | TRACK_REP_CFG
  | TRACK_REP_CMD
  | TRACK_REP_STATUS
  | TRACK_RESID
  | TRACK_WORD
  | TRACK_INTEG
  | TRACK_SHIFT_STATUS
  | TRACK_SAT_STATUS
  | TRACK_HOLD_COUNT
  | TRACK_LATENCY
  | NET_PORT_SEL
  | NET_PORT_CFG
  | NET_PORT_STATUS
  | NET_VLAN
  | NET_IP4_ADDR
  | NET_IP6_ADDR0
  | NET_IP6_ADDR1
  | NET_IP6_ADDR2
  | NET_IP6_ADDR3
  | NET_IP_CFG
  | NET_UDP_PORT
  | NET_MTU
  | NET_PTP_CFG
  | NET_PTP_TX_LAT
  | NET_PTP_RX_LAT
  | NET_ADDR_SEL
  | NET_ADDR_CFG
  | NET_ADDR_MAC_LO
  | NET_ADDR_MAC_HI
  | NET_ADDR_IP0
  | NET_ADDR_IP1
  | NET_ADDR_IP2
  | NET_ADDR_IP3
  | NET_XPORT_CFG
  | NET_FLOW_SEL
  | NET_FLOW_NEXT
  | NET_FLOW_RECEIVED
  | NET_RX_DISCARD
  | NET_XPORT_BAD
  | NET_FLOW_ORDER_COUNT
  | TIME_CMD
  | TIME_LATCH_SEC_LO
  | TIME_LATCH_SEC_HI
  | TIME_LATCH_STAGE_LO
  | TIME_LATCH_STAGE_HI
  | TIME_LATCH_NS
  | TIME_SET_SEC_LO
  | TIME_SET_SEC_HI
  | TIME_SET_NS
  | TIME_SERVO_OFFSET_LO
  | TIME_SERVO_OFFSET_HI
  | TIME_SERVO_CMD
  | TIME_SERVO_KP
  | TIME_SERVO_KI
  | TIME_SERVO_SHIFT
  | TIME_ADJ_LIM
  | TIME_STEP_NS
  | TIME_ADJ
  | TIME_FI
  | TIME_STATUS
  | TIME_TRIG_SEL
  | TIME_TRIG_CFG
  | TIME_TRIG_SEC_LO
  | TIME_TRIG_SEC_HI
  | TIME_TRIG_NS
  | TIME_TRIG_CMD
  | TIME_TRIG_STATUS
  | TIME_PPS_CFG
  | TIME_PPS_OFFSET
  | TIME_PPS_IN_SEC_LO
  | TIME_PPS_IN_SEC_HI
  | TIME_PPS_IN_NS
  | TIME_PPS_IN_SEQ
  | HBM_HASH_SEL
  | HBM_CMD
  | HBM_HASH_MASK_LO
  | HBM_HASH_MASK_HI
  | HBM_RH_CFG
  | HBM_RH_HOLD
  | HBM_CE_THRESH
  | HBM_PC_SEL
  | HBM_SCRUB_BASE_LO
  | HBM_SCRUB_BASE_HI
  | HBM_SCRUB_SIZE_LO
  | HBM_SCRUB_SIZE_HI
  | HBM_SCRUB_CFG
  | HBM_SCRUB_CMD
  | HBM_INJECT_LO
  | HBM_INJECT_HI
  | HBM_INJECT_CMD
  | HBM_STATUS
  | HBM_TEMP
  | HBM_PC_STATUS
  | HBM_PC_CE_COUNT
  | HBM_PC_DELAY0
  | HBM_PC_DELAY1
  | HBM_PC_DELAY2
  | HBM_PC_DELAY3
  | HBM_CE_COUNT
  | HBM_UE_COUNT
  | HBM_AF_COUNT
  | HBM_SRAM_CE_COUNT
  | HBM_SRAM_UE_COUNT
  | HBM_ERR_LOG_ADDR_LO
  | HBM_ERR_LOG_ADDR_HI
  | HBM_ERR_LOG_INFO
  | HBM_RH_LOG_SEL
  | HBM_RH_LOG_ADDR_LO
  | HBM_RH_LOG_ADDR_HI
  | HBM_RH_LOG_INFO
  | HBM_RH_EVENTS
  | HBM_RH_LOG_TIME_LO
  | HBM_RH_LOG_TIME_HI
  | DMA_ACTIVE
  | DMA_IN_FLIGHT
  | DMA_BYTES_LO
  | DMA_BYTES_HI
  | DMA_PTP_DROP
  | RING_SEL
  | RING_SLOT_SEL
  | RING_GRANT_SEL
  | RING_GRANT
  | RING_GRANT_BASE
  | RING_GRANT_SIZE
  | RING_BASE_LO
  | RING_BASE_HI
  | RING_CFG
  | RING_TAIL
  | RING_HEAD
  | RING_STATUS
  | RING_CMD
  | RING_SLOT_STATUS
  | RING_SLOT_TAG
  | RING_SLOT_RELEASE
  | RING_SLOT_DATA
  | CHECK_SEL
  | CHECK_CFG
  | CHECK_POLY
  | CHECK_INIT
  | CHECK_XOROUT
  | CHECK_SEQ
  | CHECK_BASE_LO
  | CHECK_BASE_HI
  | CHECK_SIZE_LO
  | CHECK_SIZE_HI
  | CHECK_EXPECT
  | CHECK_CMD
  | CHECK_RESULT
  | CHECK_STATUS
  | CHECK_LEN_LO
  | CHECK_LEN_HI
  | CLOCK_PLL_SEL
  | CLOCK_PLL_STATUS
  | CLOCK_ISLAND_SEL
  | CLOCK_ISLAND_FREQ
  | CLOCK_ISLAND_STATUS
  | CLOCK_XING_SEL
  | CLOCK_XING_INFO
  | CLOCK_XING_STATUS
  | CLOCK_XING_DISCARD
  | POWER_CFG
  | POWER_DORMANT_IDLE
  | POWER_CMD
  | POWER_WAKE_EN
  | POWER_CAP
  | POWER_OP_MAX
  | POWER_PMBUS_CFG
  | POWER_STATE
  | POWER_WAKE_STATUS
  | POWER_REFUSE_COUNT
  | POWER_ABORT_COUNT
  | POWER_LAST_REFUSAL
  | POWER_ISLAND_SEL
  | POWER_ISLAND_STATE
  | POWER_OP_STATUS
  | POWER_AON_LOAD
  | POWER_AON_CAUSE
  | POWER_EST
  | POWER_THROTTLE_SEL
  | POWER_THROTTLE_COUNT
  | SNAP_CMD
  | SNAP_CFG
  | SNAP_STATUS
  | SNAP_MISSED
  | SNAP_SEL
  | SNAP_DATA
  | FAULT_CODE_SEL
  | FAULT_CODE_STATUS
  | FAULT_CODE_ACTION
  | FAULT_FIRST
  | FAULT_LOG_SEL
  | FAULT_LOG_HEAD
  | FAULT_LOG_TIME_LO
  | FAULT_LOG_TIME_HI
  | FAULT_LOG_CODE
  | FAULT_LOG_STAGE
  | FAULT_STALL_CFG
  | FAULT_STALL_STATUS
  | FAULT_TEMP
  | FAULT_TRIP_CAUSE
  | TL_SEL
  | TL_PEEK
deriving DecidableEq, Repr

end Sys2Proof.Machine
end

