-- ==== Sys2Proof/Machine/BlockState/Cycle.lean ====
section
/-! DEFINITION. What the device remembers of its present cycle, for the tables of coinciding events. -/

namespace Sys2Proof.Machine

/-- The staged tables that ARM copies (R282, R299, R646). -/
inductive StagedTable where
  | defects | seams | trims
deriving DecidableEq, Repr

/-- A write to DRAM: its address, the bytes there before and after, and the check bits of its codewords before and after. -/
structure SpanWrite where
  at_ : Nat
  old : List Byte
  new : List Byte
  oldMarks : List (Nat × Nat)
  newMarks : List (Nat × Nat)
deriving DecidableEq, Repr

/-- What has happened since the clock last moved: the device's present cycle, for the tables of coinciding events. -/
inductive CycleEvent where
  /-- The last beat of a pass executed (R36). -/
  | lastBeat
  /-- A local damp source arose (Table 8-13). -/
  | localSource
  /-- A fault code was raised (Table 17-10). -/
  | raised (code : Nat)
  /-- Instance i of a register that ARM locks or copies was written: its words before and after (Tables 5-5, 6-8, 8-13). -/
  | stored (r : Reg) (i : Nat) (old new : Word)
  /-- Instance i of a register was written, with its word before (Table 21-7). -/
  | hostWrote (r : Reg) (i : Nat) (asked before : Word)
  /-- A write was refused: its offset and kind (Table 21-7). -/
  | refusedWrite (off kind : Nat)
  /-- A flash command met one that runs (Table 21-7). -/
  | flashAsked (op : FlashOp)
  /-- A host command of check unit u was taken, or ended ABORTED by ABORT or by a claim (Table 16-4). -/
  | checkStarted (u : Nat)
  | checkStopped (u cmd : Nat)
  /-- An entry of a staged table was written: its values before and after (Tables 7-4, 8-13). -/
  | staged (t : StagedTable) (key old new : Nat)
  /-- The device set bits of instance i of a register (R11). -/
  | bitsSet (r : Reg) (i : Nat) (mask : Word)
  /-- The profile generator's update (Table 9-10). -/
  | profileTick
  /-- A good sample p of a channel, with the good sample before it (Table 9-10). -/
  | goodSample (channel : Nat) (prev : Option Int) (p : Int)
  /-- SWAP became pending (Table 10-3a). -/
  | swap
  /-- APPLY was processed: the local clock and the registers it writes, before it (Table 11-6). -/
  | servo (time : TimeSt) (words : List (Reg × Nat × Word))
  /-- SET was written (Table 11-6). -/
  | timeSet
  /-- A CTRL of a flow was sent (Table 11-6). -/
  | ctrl (flow : Nat) (sent : Out)
  /-- A DATA datagram from a node was accepted: its stitches, and the flow before it (Table 11-6). -/
  | dataIn (flow : Nat) (stitches node : Nat) (old : Flow)
  /-- A DATA datagram met no open scope and was counted by a scope (Table 11-6). -/
  | dataLost (flow : Nat) (payload : List Byte) (scope : Nat)
  /-- CAL started a calibration of a channel (Table 9-10). -/
  | metCal (channel : Nat)
  /-- A wake event was latched (Table 15-9). -/
  | woke (src : Nat)
  /-- HUSH was requested and the request accepted (Table 15-9). -/
  | hushAsked
  /-- A wake event aborted an entry: the entry, whether DORMANT was to follow, the sources, and the words of the registers it wrote before
  it (Table 15-9). -/
  | entryAborted (transit : Transit) (thenDormant : Bool) (sources : List Nat) (words : List (Reg × Word))
  /-- A descriptor of ring n was fetched: the ring and the slot it claimed, before it (Table 13-11). -/
  | fetched (n : Nat) (old : Ring) (slot : Option (Nat × Slot))
  /-- A PTP frame found no PTP_RECV of its MAC: the frame, and DMA_PTP_DROP before it (Table 13-11). -/
  | ptpDropped (mac : Nat) (frame : List Byte) (count : Word)
  /-- A rimshot was captured, or missed with its source, code and stage time, SNAP_MISSED standing as before it (Table 17-5). -/
  | captured
  | missed (src code : Nat) (t : Int) (count : Word)
  /-- A sleep or EYE_CAL command, CMD of LANE_CMD, acted on lane n, which stood as `old` (Table 8-13). -/
  | laneCmd (cmd n : Nat) (old : Lane)
  /-- LACE_LINES_READY of scope `source`, or the ready lines of that personality, moved from `old` (Table 4-4). -/
  | linesReady (source old : Nat)
  /-- RC bit b of personality j was set by an event; `was` says that it stood at 1 before (Table 19-7). -/
  | rcSet (j b : Nat) (was : Bool)
  /-- Personality j entered RUN_IN, executed its last beat, or took a FIFO_RESET that discarded three words of an entry (Table 19-7). -/
  | persRunIn (j : Nat)
  | persLastBeat (j : Nat)
  | fifoReset (j : Nat)
  /-- TL_DOSE of personality j was written; it held `old` (Table 19-7). -/
  | doseWas (j old : Nat)
  /-- START was judged in ARMED: the plan, the stage and whether a verification was due, before it (Table 20-6). -/
  | started (plan : PlanSt) (stage : StageSt) (verify : Bool)
  /-- ARM found a beam scan running (Table 20-6). -/
  | armInScan
  /-- ARM was accepted (Table 12-8). -/
  | armed
  /-- A block producer claimed a result slot, which stood as `old`; the lanes' measure requests before it (Tables 12-8, 13-11). -/
  | produced (source slot : Nat) (old : Slot) (req abort : Nat)
  /-- While the stripe was IDLE, a burst of an operation, which stood as `op`, wrote to DRAM (Table 13-11), or unit u's APPEND, with
  CHECK_SEQ before it (Table 16-4). -/
  | burstWrote (op : DmaOp) (w : SpanWrite)
  | appended (u : Nat) (seq : Word) (w : SpanWrite)
  /-- Tile t of pipeline j was delivered; a personality's ring held `ring` lines before it (Table 4-4). -/
  | tileDelivered (j t ring : Nat)
deriving DecidableEq, Repr

end Sys2Proof.Machine
end

