-- ==== Sys2Proof/Machine/BlockState/Lace.lean ====
section
/-! DEFINITION. State of lace intake and the motif libraries (Chapter 3). -/

namespace Sys2Proof.Machine

/-- A record as the walk of R643 finds it: the stitch offset of its head, its opcode, its head and its body stitches. -/
structure LaceRec where
  off : Nat
  op : Nat
  head : Nat
  body : List Nat
deriving DecidableEq, Repr

/-- An accepted chunk a scope holds (R147): where it lies in DRAM, its window, and whether its buffer space has been freed (R156). -/
structure LaceChunk where
  at_ : Nat
  seq : Nat
  winStart : Nat
  winBlocks : Nat
  reachBlocks : Nat
  length : Nat
  recs : List LaceRec
  pinned : Bool
  freed : Bool
deriving DecidableEq, Repr

/-- A chunk that is arriving: its DRAM address, its stitches so far (newest last), its LENGTH field, and how many stitches of a
chunk rejected at its head are still to be discarded (R151). -/
structure LaceIntake where
  at_ : Nat
  stitches : List Stitch
  length : Nat
  discard : Nat
deriving DecidableEq, Repr

/-- One lace scope (R142 to R157). `whole` holds chunks that have arrived complete and await judgement, with their DRAM
addresses. -/
structure LaceScope where
  isOpen : Bool
  stripeClosed : Bool
  headerOk : Bool
  bound : Bool
  streamId : Nat
  dma : Bool
  flow : Nat
  bufBaseMb : Nat
  bufSizeMb : Nat
  nextSeq : Nat
  linesReady : Nat
  chunks : List LaceChunk
  intake : LaceIntake
  whole : List (Nat × List Stitch)
  boundRing : Option Nat
deriving DecidableEq, Repr

/-- A motif known to the device: index, declared box, level (R131, R133) and the records of its definition. -/
structure LaceMotif where
  index : Nat
  xmin : Int
  ymin : Int
  xmax : Int
  ymax : Int
  level : Nat
  recs : List LaceRec
deriving DecidableEq, Repr

/-- A library slot (R135 to R141). -/
structure LibSlot where
  valid : Bool
  base : Nat
  size : Nat
  libId : Nat
  motifs : List LaceMotif
deriving DecidableEq, Repr

/-- A registration in progress: what REGISTER took (R137). -/
structure LibReg where
  slot : Nat
  base : Nat
  size : Nat
  crc : Nat
deriving DecidableEq, Repr

/-- Lace intake: the two scopes, the fifteen library slots and the registration in progress. -/
structure LaceSt where
  scopes : Vector LaceScope 2
  libs : Vector LibSlot 15
  reg : Option LibReg
deriving DecidableEq, Repr

/-- A closed scope. -/
def LaceScope.closed : LaceScope :=
  { isOpen := false, stripeClosed := false, headerOk := false, bound := false, streamId := 0, dma := false, flow := 0,
    bufBaseMb := 0, bufSizeMb := 0, nextSeq := 0, linesReady := 0, chunks := [],
    intake := { at_ := 0, stitches := [], length := 0, discard := 0 }, whole := [], boundRing := none }

/-- An invalid library slot. -/
def LibSlot.empty : LibSlot := { valid := false, base := 0, size := 0, libId := 0, motifs := [] }

/-- Lace state after a reset: both scopes closed, no library. -/
def LaceSt.reset : LaceSt :=
  { scopes := Vector.replicate 2 LaceScope.closed, libs := Vector.replicate 15 LibSlot.empty, reg := none }

end Sys2Proof.Machine
end

