-- ==== Sys2Proof/Machine/BlockState/Tl.lean ====
section
/-! DEFINITION. State of the TL-40 personalities (Chapter 19). -/

namespace Sys2Proof.Machine

/-- A rasterized shape of a stripe (R572): dose index, sides and origin, extents in 1/8 pixel, and its array. -/
structure TlShape where
  dose : Nat
  sl : Nat
  sr : Nat
  x : Int
  y : Nat
  w : Nat
  h : Nat
  dx : Nat
  dy : Nat
  nx : Nat
  ny : Nat
deriving DecidableEq, Repr

/-- The open lace scope 0 of a personality (R570): what OPEN took (R142), and the ring its pushes are bound to (R469). -/
structure TlSource where
  flow : Nat
  dma : Bool
  streamId : Nat
  boundRing : Option Nat
deriving DecidableEq, Repr

/-- One personality. `fifo` holds whole entries as 128-bit numbers (those beyond 1,024 wait in the scope's buffer, R570),
`part` the words of a partial entry; `haltAfter` is an overflow's halt that waits for the held entries (R580); `array` an
ARRAY entry that awaits its shape; `lastY` the Y0 of the latest RECT or TRAP; `ready` the ready lines (R573); `ring` how
many lines the ring has been given (R575); `used` the entries consumed since STRIPE; `rc` the RC bits [7:0] of TL_STATUS;
`beat` the next beat to execute; `sent` the next beat whose frame is to be sent; `lastEdge` the previous edge counted in
RUN_IN to RUN_OUT; `runOutAt` the model's time of entry to RUN_OUT; `damping` that a command has given the lanes to the damp
generators (R584); `half` a stitch that awaits its partner (R570); `src` the open scope 0. -/
structure Pers where
  fifo : List Nat
  part : List Word
  halted : Bool
  haltAfter : Bool
  state : StripeState
  lines : Nat
  pixelSel : Nat
  doses : List Nat
  startPending : Bool
  started : Bool
  ended : Bool
  array : Option Nat
  shapes : List TlShape
  lastY : Nat
  ready : Nat
  ring : Nat
  beat : Nat
  sent : Nat
  lastEdge : Option Int
  runOutAt : Nat
  rc : Nat
  damping : Bool
  half : Option Stitch
  irqMask : Nat
  dose : Nat
  flow : Nat
  dma : Bool
  flowId : Nat
  beat24 : Nat
  errInfo : Word
  abortLine : Nat
  msiOn : Bool
  src : Option TlSource
  used : Nat
deriving DecidableEq, Repr

/-- A personality after a reset. -/
def Pers.reset : Pers :=
  { fifo := [], part := [], halted := false, haltAfter := false, state := .idle, lines := 0, pixelSel := 0, doses := [],
    startPending := false, started := false, ended := false, array := none, shapes := [], lastY := 0, ready := 0,
    ring := 0, beat := 0, sent := 0, lastEdge := none, runOutAt := 0, rc := 0, damping := false, half := none,
    irqMask := 0, dose := 0, flow := 0, dma := false, flowId := 0, beat24 := 0, errInfo := 0#32, abortLine := 0,
    msiOn := false, src := none, used := 0 }

end Sys2Proof.Machine
end

