-- ==== Sys2Proof/Machine/RegFields.lean ====
section
/-! DEFINITION. The fields of the registers, as the Bits and Field columns of the chapters' register tables give them. -/

namespace Sys2Proof.Machine

/-- A field: bits [hi:lo] of a register. -/
structure RegField where
  reg : Reg
  hi : Nat
  lo : Nat
deriving DecidableEq, Repr

/-- GLOBAL_IDENT [15:0] VENDOR. -/
def F.GLOBAL_IDENT_VENDOR : RegField := ⟨.GLOBAL_IDENT, 15, 0⟩
/-- GLOBAL_IDENT [31:16] DEVICE. -/
def F.GLOBAL_IDENT_DEVICE : RegField := ⟨.GLOBAL_IDENT, 31, 16⟩
/-- GLOBAL_VERSION [7:0] REVISION. -/
def F.GLOBAL_VERSION_REVISION : RegField := ⟨.GLOBAL_VERSION, 7, 0⟩
/-- GLOBAL_VERSION [15:8] IMAGE_FORMAT. -/
def F.GLOBAL_VERSION_IMAGE_FORMAT : RegField := ⟨.GLOBAL_VERSION, 15, 8⟩
/-- GLOBAL_VERSION [23:16] LIB_FORMAT. -/
def F.GLOBAL_VERSION_LIB_FORMAT : RegField := ⟨.GLOBAL_VERSION, 23, 16⟩
/-- GLOBAL_TOPOLOGY [5:0] DEV_INDEX. -/
def F.GLOBAL_TOPOLOGY_DEV_INDEX : RegField := ⟨.GLOBAL_TOPOLOGY, 5, 0⟩
/-- GLOBAL_TOPOLOGY [13:6] COLUMN_ID. -/
def F.GLOBAL_TOPOLOGY_COLUMN_ID : RegField := ⟨.GLOBAL_TOPOLOGY, 13, 6⟩
/-- GLOBAL_TOPOLOGY [15:14] ROLE. -/
def F.GLOBAL_TOPOLOGY_ROLE : RegField := ⟨.GLOBAL_TOPOLOGY, 15, 14⟩
/-- GLOBAL_TOPOLOGY [22:16] COLUMN_SIZE. -/
def F.GLOBAL_TOPOLOGY_COLUMN_SIZE : RegField := ⟨.GLOBAL_TOPOLOGY, 22, 16⟩
/-- GLOBAL_TOPOLOGY [24:23] ROWS_SEL. -/
def F.GLOBAL_TOPOLOGY_ROWS_SEL : RegField := ⟨.GLOBAL_TOPOLOGY, 24, 23⟩
/-- GLOBAL_TOPOLOGY [26:25] PITCH_SEL. -/
def F.GLOBAL_TOPOLOGY_PITCH_SEL : RegField := ⟨.GLOBAL_TOPOLOGY, 26, 25⟩
/-- GLOBAL_TOPOLOGY [27] SLANT. -/
def F.GLOBAL_TOPOLOGY_SLANT : RegField := ⟨.GLOBAL_TOPOLOGY, 27, 27⟩
/-- GLOBAL_TOPOLOGY [30:28] PERSONALITY. -/
def F.GLOBAL_TOPOLOGY_PERSONALITY : RegField := ⟨.GLOBAL_TOPOLOGY, 30, 28⟩
/-- GLOBAL_BOOT_STATUS [3:0] PHASE. -/
def F.GLOBAL_BOOT_STATUS_PHASE : RegField := ⟨.GLOBAL_BOOT_STATUS, 3, 0⟩
/-- GLOBAL_BOOT_STATUS [4] READY. -/
def F.GLOBAL_BOOT_STATUS_READY : RegField := ⟨.GLOBAL_BOOT_STATUS, 4, 4⟩
/-- GLOBAL_BOOT_STATUS [5] SAFE. -/
def F.GLOBAL_BOOT_STATUS_SAFE : RegField := ⟨.GLOBAL_BOOT_STATUS, 5, 5⟩
/-- GLOBAL_BOOT_STATUS [6] HALTED. -/
def F.GLOBAL_BOOT_STATUS_HALTED : RegField := ⟨.GLOBAL_BOOT_STATUS, 6, 6⟩
/-- GLOBAL_BOOT_STATUS [31:16] FAIL_CODE. -/
def F.GLOBAL_BOOT_STATUS_FAIL_CODE : RegField := ⟨.GLOBAL_BOOT_STATUS, 31, 16⟩
/-- GLOBAL_RESET_CAUSE [0] POWER_ON. -/
def F.GLOBAL_RESET_CAUSE_POWER_ON : RegField := ⟨.GLOBAL_RESET_CAUSE, 0, 0⟩
/-- GLOBAL_RESET_CAUSE [1] SYS_RST. -/
def F.GLOBAL_RESET_CAUSE_SYS_RST : RegField := ⟨.GLOBAL_RESET_CAUSE, 1, 1⟩
/-- GLOBAL_RESET_CAUSE [2] BROWNOUT. -/
def F.GLOBAL_RESET_CAUSE_BROWNOUT : RegField := ⟨.GLOBAL_RESET_CAUSE, 2, 2⟩
/-- GLOBAL_RESET_CAUSE [3] THERMAL. -/
def F.GLOBAL_RESET_CAUSE_THERMAL : RegField := ⟨.GLOBAL_RESET_CAUSE, 3, 3⟩
/-- GLOBAL_RESET_CAUSE [4] COLD_CMD. -/
def F.GLOBAL_RESET_CAUSE_COLD_CMD : RegField := ⟨.GLOBAL_RESET_CAUSE, 4, 4⟩
/-- GLOBAL_RESET_CAUSE [5] PERST. -/
def F.GLOBAL_RESET_CAUSE_PERST : RegField := ⟨.GLOBAL_RESET_CAUSE, 5, 5⟩
/-- GLOBAL_RESET_CAUSE [6] WARM_CMD. -/
def F.GLOBAL_RESET_CAUSE_WARM_CMD : RegField := ⟨.GLOBAL_RESET_CAUSE, 6, 6⟩
/-- GLOBAL_RESET_CMD [1:0] CMD. -/
def F.GLOBAL_RESET_CMD_CMD : RegField := ⟨.GLOBAL_RESET_CMD, 1, 0⟩
/-- GLOBAL_RESET_CMD [15:8] KEY. -/
def F.GLOBAL_RESET_CMD_KEY : RegField := ⟨.GLOBAL_RESET_CMD, 15, 8⟩
/-- GLOBAL_SCRATCH [31:0] VALUE. -/
def F.GLOBAL_SCRATCH_VALUE : RegField := ⟨.GLOBAL_SCRATCH, 31, 0⟩
/-- GLOBAL_ACCESS_LOG [24:0] OFFSET. -/
def F.GLOBAL_ACCESS_LOG_OFFSET : RegField := ⟨.GLOBAL_ACCESS_LOG, 24, 0⟩
/-- GLOBAL_ACCESS_LOG [28:25] KIND. -/
def F.GLOBAL_ACCESS_LOG_KIND : RegField := ⟨.GLOBAL_ACCESS_LOG, 28, 25⟩
/-- GLOBAL_ACCESS_LOG [31] VALID. -/
def F.GLOBAL_ACCESS_LOG_VALID : RegField := ⟨.GLOBAL_ACCESS_LOG, 31, 31⟩
/-- GLOBAL_ACCESS_COUNT [31:0] COUNT. -/
def F.GLOBAL_ACCESS_COUNT_COUNT : RegField := ⟨.GLOBAL_ACCESS_COUNT, 31, 0⟩
/-- GLOBAL_LOCK_SEL [24:0] OFFSET. -/
def F.GLOBAL_LOCK_SEL_OFFSET : RegField := ⟨.GLOBAL_LOCK_SEL, 24, 0⟩
/-- GLOBAL_LOCK_MASK [31:0] MASK. -/
def F.GLOBAL_LOCK_MASK_MASK : RegField := ⟨.GLOBAL_LOCK_MASK, 31, 0⟩
/-- GLOBAL_LOCK_COUNT [12:0] COUNT. -/
def F.GLOBAL_LOCK_COUNT_COUNT : RegField := ⟨.GLOBAL_LOCK_COUNT, 12, 0⟩
/-- GLOBAL_FLASH_CFG [0] WRITE_EN. -/
def F.GLOBAL_FLASH_CFG_WRITE_EN : RegField := ⟨.GLOBAL_FLASH_CFG, 0, 0⟩
/-- GLOBAL_FLASH_ADDR [24:0] ADDR. -/
def F.GLOBAL_FLASH_ADDR_ADDR : RegField := ⟨.GLOBAL_FLASH_ADDR, 24, 0⟩
/-- GLOBAL_FLASH_CMD [2:0] CMD. -/
def F.GLOBAL_FLASH_CMD_CMD : RegField := ⟨.GLOBAL_FLASH_CMD, 2, 0⟩
/-- GLOBAL_FLASH_STATUS [0] BUSY. -/
def F.GLOBAL_FLASH_STATUS_BUSY : RegField := ⟨.GLOBAL_FLASH_STATUS, 0, 0⟩
/-- GLOBAL_FLASH_STATUS [3:1] RESULT. -/
def F.GLOBAL_FLASH_STATUS_RESULT : RegField := ⟨.GLOBAL_FLASH_STATUS, 3, 1⟩
/-- GLOBAL_FLASH_STATUS [31:8] SIZE_KIB. -/
def F.GLOBAL_FLASH_STATUS_SIZE_KIB : RegField := ⟨.GLOBAL_FLASH_STATUS, 31, 8⟩
/-- GLOBAL_FLASH_DATA [31:0] BYTES. -/
def F.GLOBAL_FLASH_DATA_BYTES : RegField := ⟨.GLOBAL_FLASH_DATA, 31, 0⟩
/-- PRICK_CMD [1:0] CMD. -/
def F.PRICK_CMD_CMD : RegField := ⟨.PRICK_CMD, 1, 0⟩
/-- PRICK_STATUS [1:0] PHASE. -/
def F.PRICK_STATUS_PHASE : RegField := ⟨.PRICK_STATUS, 1, 0⟩
/-- PRICK_STATUS [2] LAST_OK. -/
def F.PRICK_STATUS_LAST_OK : RegField := ⟨.PRICK_STATUS, 2, 2⟩
/-- PRICK_STATUS [3] SAFE. -/
def F.PRICK_STATUS_SAFE : RegField := ⟨.PRICK_STATUS, 3, 3⟩
/-- PRICK_STATUS [4] SOURCE. -/
def F.PRICK_STATUS_SOURCE : RegField := ⟨.PRICK_STATUS, 4, 4⟩
/-- PRICK_STATUS [6:5] SLOT. -/
def F.PRICK_STATUS_SLOT : RegField := ⟨.PRICK_STATUS, 6, 5⟩
/-- PRICK_STATUS [15:8] FAIL_SECTION. -/
def F.PRICK_STATUS_FAIL_SECTION : RegField := ⟨.PRICK_STATUS, 15, 8⟩
/-- PRICK_STATUS [31:16] FAIL_CODE. -/
def F.PRICK_STATUS_FAIL_CODE : RegField := ⟨.PRICK_STATUS, 31, 16⟩
/-- PRICK_SRC_ADDR_LO [31:0] ADDR. -/
def F.PRICK_SRC_ADDR_LO_ADDR : RegField := ⟨.PRICK_SRC_ADDR_LO, 31, 0⟩
/-- PRICK_SRC_ADDR_HI [31:0] ADDR. -/
def F.PRICK_SRC_ADDR_HI_ADDR : RegField := ⟨.PRICK_SRC_ADDR_HI, 31, 0⟩
/-- PRICK_SRC_SIZE [24:0] SIZE. -/
def F.PRICK_SRC_SIZE_SIZE : RegField := ⟨.PRICK_SRC_SIZE, 24, 0⟩
/-- PRICK_IMAGE_ID_LO [31:0] ID. -/
def F.PRICK_IMAGE_ID_LO_ID : RegField := ⟨.PRICK_IMAGE_ID_LO, 31, 0⟩
/-- PRICK_IMAGE_ID_HI [31:0] ID. -/
def F.PRICK_IMAGE_ID_HI_ID : RegField := ⟨.PRICK_IMAGE_ID_HI, 31, 0⟩
/-- PRICK_FUSE [0] KEY_SET. -/
def F.PRICK_FUSE_KEY_SET : RegField := ⟨.PRICK_FUSE, 0, 0⟩
/-- PRICK_FUSE [1] SIG_REQUIRED. -/
def F.PRICK_FUSE_SIG_REQUIRED : RegField := ⟨.PRICK_FUSE, 1, 1⟩
/-- PRICK_FUSE [8:2] EPOCH_MIN. -/
def F.PRICK_FUSE_EPOCH_MIN : RegField := ⟨.PRICK_FUSE, 8, 2⟩
/-- PRICK_PACKAGE_SERIAL [31:0] SERIAL. -/
def F.PRICK_PACKAGE_SERIAL_SERIAL : RegField := ⟨.PRICK_PACKAGE_SERIAL, 31, 0⟩
/-- LACE_SCOPE_SEL [0] SCOPE. -/
def F.LACE_SCOPE_SEL_SCOPE : RegField := ⟨.LACE_SCOPE_SEL, 0, 0⟩
/-- LACE_CMD [1:0] CMD. -/
def F.LACE_CMD_CMD : RegField := ⟨.LACE_CMD, 1, 0⟩
/-- LACE_STREAM_ID [31:0] ID. -/
def F.LACE_STREAM_ID_ID : RegField := ⟨.LACE_STREAM_ID, 31, 0⟩
/-- LACE_SOURCE [5:0] FLOW. -/
def F.LACE_SOURCE_FLOW : RegField := ⟨.LACE_SOURCE, 5, 0⟩
/-- LACE_SOURCE [6] DMA. -/
def F.LACE_SOURCE_DMA : RegField := ⟨.LACE_SOURCE, 6, 6⟩
/-- LACE_BUF_BASE [15:0] BASE_MB. -/
def F.LACE_BUF_BASE_BASE_MB : RegField := ⟨.LACE_BUF_BASE, 15, 0⟩
/-- LACE_BUF_SIZE [13:0] SIZE_MB. -/
def F.LACE_BUF_SIZE_SIZE_MB : RegField := ⟨.LACE_BUF_SIZE, 13, 0⟩
/-- LACE_STATUS [1:0] STATE. -/
def F.LACE_STATUS_STATE : RegField := ⟨.LACE_STATUS, 1, 0⟩
/-- LACE_STATUS [2] HEADER_OK. -/
def F.LACE_STATUS_HEADER_OK : RegField := ⟨.LACE_STATUS, 2, 2⟩
/-- LACE_STATUS [3] BOUND. -/
def F.LACE_STATUS_BOUND : RegField := ⟨.LACE_STATUS, 3, 3⟩
/-- LACE_NEXT_SEQ [31:0] SEQ. -/
def F.LACE_NEXT_SEQ_SEQ : RegField := ⟨.LACE_NEXT_SEQ, 31, 0⟩
/-- LACE_LINES_READY [26:0] LINES. -/
def F.LACE_LINES_READY_LINES : RegField := ⟨.LACE_LINES_READY, 26, 0⟩
/-- LACE_REJECT_SEQ [31:0] SEQ. -/
def F.LACE_REJECT_SEQ_SEQ : RegField := ⟨.LACE_REJECT_SEQ, 31, 0⟩
/-- LACE_REJECT_CODE [15:0] FAULT. -/
def F.LACE_REJECT_CODE_FAULT : RegField := ⟨.LACE_REJECT_CODE, 15, 0⟩
/-- LACE_REJECT_CODE [31:16] COUNT. -/
def F.LACE_REJECT_CODE_COUNT : RegField := ⟨.LACE_REJECT_CODE, 31, 16⟩
/-- LACE_REJECT_STITCH [16:0] OFFSET. -/
def F.LACE_REJECT_STITCH_OFFSET : RegField := ⟨.LACE_REJECT_STITCH, 16, 0⟩
/-- LACE_DROP_COUNT [31:0] COUNT. -/
def F.LACE_DROP_COUNT_COUNT : RegField := ⟨.LACE_DROP_COUNT, 31, 0⟩
/-- LACE_LIB_SEL [3:0] SLOT. -/
def F.LACE_LIB_SEL_SLOT : RegField := ⟨.LACE_LIB_SEL, 3, 0⟩
/-- LACE_LIB_SIZE [31:0] SIZE. -/
def F.LACE_LIB_SIZE_SIZE : RegField := ⟨.LACE_LIB_SIZE, 31, 0⟩
/-- LACE_LIB_BASE_LO [31:0] ADDR. -/
def F.LACE_LIB_BASE_LO_ADDR : RegField := ⟨.LACE_LIB_BASE_LO, 31, 0⟩
/-- LACE_LIB_BASE_HI [3:0] ADDR. -/
def F.LACE_LIB_BASE_HI_ADDR : RegField := ⟨.LACE_LIB_BASE_HI, 3, 0⟩
/-- LACE_LIB_CRC [31:0] CRC. -/
def F.LACE_LIB_CRC_CRC : RegField := ⟨.LACE_LIB_CRC, 31, 0⟩
/-- LACE_LIB_CMD [1:0] CMD. -/
def F.LACE_LIB_CMD_CMD : RegField := ⟨.LACE_LIB_CMD, 1, 0⟩
/-- LACE_LIB_STATUS [14:0] VALID. -/
def F.LACE_LIB_STATUS_VALID : RegField := ⟨.LACE_LIB_STATUS, 14, 0⟩
/-- LACE_LIB_STATUS [15] BUSY. -/
def F.LACE_LIB_STATUS_BUSY : RegField := ⟨.LACE_LIB_STATUS, 15, 15⟩
/-- LACE_LIB_STATUS [31:16] FAIL_CODE. -/
def F.LACE_LIB_STATUS_FAIL_CODE : RegField := ⟨.LACE_LIB_STATUS, 31, 16⟩
/-- LACE_LIB_FAIL_OFFSET [31:0] OFFSET. -/
def F.LACE_LIB_FAIL_OFFSET_OFFSET : RegField := ⟨.LACE_LIB_FAIL_OFFSET, 31, 0⟩
/-- LACE_LIB_ID_LO [31:0] ID. -/
def F.LACE_LIB_ID_LO_ID : RegField := ⟨.LACE_LIB_ID_LO, 31, 0⟩
/-- LACE_LIB_ID_HI [31:0] ID. -/
def F.LACE_LIB_ID_HI_ID : RegField := ⟨.LACE_LIB_ID_HI, 31, 0⟩
/-- BOB_PIPE_SEL [1:0] PIPE. -/
def F.BOB_PIPE_SEL_PIPE : RegField := ⟨.BOB_PIPE_SEL, 1, 0⟩
/-- BOB_CFG [0] DUAL. -/
def F.BOB_CFG_DUAL : RegField := ⟨.BOB_CFG, 0, 0⟩
/-- BOB_WATCHDOG [15:0] LIMIT_US. -/
def F.BOB_WATCHDOG_LIMIT_US : RegField := ⟨.BOB_WATCHDOG, 15, 0⟩
/-- BOB_DISABLE [31:0] MASK. -/
def F.BOB_DISABLE_MASK : RegField := ⟨.BOB_DISABLE, 31, 0⟩
/-- BOB_FAIL_MASK [31:0] FAILED. -/
def F.BOB_FAIL_MASK_FAILED : RegField := ⟨.BOB_FAIL_MASK, 31, 0⟩
/-- BOB_IN_SERVICE [31:0] MASK. -/
def F.BOB_IN_SERVICE_MASK : RegField := ⟨.BOB_IN_SERVICE, 31, 0⟩
/-- BOB_BUSY [31:0] MASK. -/
def F.BOB_BUSY_MASK : RegField := ⟨.BOB_BUSY, 31, 0⟩
/-- BOB_UNIT_SEL [4:0] UNIT. -/
def F.BOB_UNIT_SEL_UNIT : RegField := ⟨.BOB_UNIT_SEL, 4, 0⟩
/-- BOB_UNIT_STATUS [1:0] STATE. -/
def F.BOB_UNIT_STATUS_STATE : RegField := ⟨.BOB_UNIT_STATUS, 1, 0⟩
/-- BOB_UNIT_STATUS [3:2] STRIKES. -/
def F.BOB_UNIT_STATUS_STRIKES : RegField := ⟨.BOB_UNIT_STATUS, 3, 2⟩
/-- BOB_UNIT_STATUS [4] RESERVED_ROLE. -/
def F.BOB_UNIT_STATUS_RESERVED_ROLE : RegField := ⟨.BOB_UNIT_STATUS, 4, 4⟩
/-- BOB_UNIT_STATUS [29:5] JOB. -/
def F.BOB_UNIT_STATUS_JOB : RegField := ⟨.BOB_UNIT_STATUS, 29, 5⟩
/-- BOB_UNIT_STATUS [31:30] PIPE. -/
def F.BOB_UNIT_STATUS_PIPE : RegField := ⟨.BOB_UNIT_STATUS, 31, 30⟩
/-- BOB_LIVE_CFG [4:0] RESERVE. -/
def F.BOB_LIVE_CFG_RESERVE : RegField := ⟨.BOB_LIVE_CFG, 4, 0⟩
/-- BOB_LIVE_CFG [7:5] FLOOR_OP. -/
def F.BOB_LIVE_CFG_FLOOR_OP : RegField := ⟨.BOB_LIVE_CFG, 7, 5⟩
/-- BOB_LIVE_CAPACITY [23:0] K. -/
def F.BOB_LIVE_CAPACITY_K : RegField := ⟨.BOB_LIVE_CAPACITY, 23, 0⟩
/-- BOB_LIVE_PENDING [15:0] COUNT. -/
def F.BOB_LIVE_PENDING_COUNT : RegField := ⟨.BOB_LIVE_PENDING, 15, 0⟩
/-- BOB_TILE_ISSUED [24:0] TILE. -/
def F.BOB_TILE_ISSUED_TILE : RegField := ⟨.BOB_TILE_ISSUED, 24, 0⟩
/-- BOB_TILE_DELIVERED [24:0] TILE. -/
def F.BOB_TILE_DELIVERED_TILE : RegField := ⟨.BOB_TILE_DELIVERED, 24, 0⟩
/-- BOB_CACHE_HITS [31:0] COUNT. -/
def F.BOB_CACHE_HITS_COUNT : RegField := ⟨.BOB_CACHE_HITS, 31, 0⟩
/-- BOB_CACHE_MISSES [31:0] COUNT. -/
def F.BOB_CACHE_MISSES_COUNT : RegField := ⟨.BOB_CACHE_MISSES, 31, 0⟩
/-- BOB_CROSSINGS_LO [31:0] COUNT. -/
def F.BOB_CROSSINGS_LO_COUNT : RegField := ⟨.BOB_CROSSINGS_LO, 31, 0⟩
/-- BOB_CROSSINGS_HI [15:0] COUNT. -/
def F.BOB_CROSSINGS_HI_COUNT : RegField := ⟨.BOB_CROSSINGS_HI, 15, 0⟩
/-- CORR_CFG [0] ENABLE. -/
def F.CORR_CFG_ENABLE : RegField := ⟨.CORR_CFG, 0, 0⟩
/-- CORR_CFG [4:1] TERM_EN. -/
def F.CORR_CFG_TERM_EN : RegField := ⟨.CORR_CFG, 4, 1⟩
/-- CORR_CFG [5] FOG_EN. -/
def F.CORR_CFG_FOG_EN : RegField := ⟨.CORR_CFG, 5, 5⟩
/-- CORR_NUM [31:0] NUM. -/
def F.CORR_NUM_NUM : RegField := ⟨.CORR_NUM, 31, 0⟩
/-- CORR_DEN [31:0] DEN. -/
def F.CORR_DEN_DEN : RegField := ⟨.CORR_DEN, 31, 0⟩
/-- CORR_PEND_BASE [15:0] BASE_MB. -/
def F.CORR_PEND_BASE_BASE_MB : RegField := ⟨.CORR_PEND_BASE, 15, 0⟩
/-- CORR_PEND_SIZE [13:0] SIZE_MB. -/
def F.CORR_PEND_SIZE_SIZE_MB : RegField := ⟨.CORR_PEND_SIZE, 13, 0⟩
/-- CORR_FMAP_BASE [15:0] BASE_MB. -/
def F.CORR_FMAP_BASE_BASE_MB : RegField := ⟨.CORR_FMAP_BASE, 15, 0⟩
/-- CORR_FMAP_SIZE [13:0] SIZE_MB. -/
def F.CORR_FMAP_SIZE_SIZE_MB : RegField := ⟨.CORR_FMAP_SIZE, 13, 0⟩
/-- CORR_EDGING_TIMEOUT [15:0] LIMIT_US. -/
def F.CORR_EDGING_TIMEOUT_LIMIT_US : RegField := ⟨.CORR_EDGING_TIMEOUT, 15, 0⟩
/-- CORR_EDGING_RETRY [11:0] PERIOD_US. -/
def F.CORR_EDGING_RETRY_PERIOD_US : RegField := ⟨.CORR_EDGING_RETRY, 11, 0⟩
/-- CORR_TERM_SEL [2:0] TERM. -/
def F.CORR_TERM_SEL_TERM : RegField := ⟨.CORR_TERM_SEL, 2, 0⟩
/-- CORR_TERM_GEOM [2:0] LEVEL. -/
def F.CORR_TERM_GEOM_LEVEL : RegField := ⟨.CORR_TERM_GEOM, 2, 0⟩
/-- CORR_TERM_GEOM [7:3] RADIUS. -/
def F.CORR_TERM_GEOM_RADIUS : RegField := ⟨.CORR_TERM_GEOM, 7, 3⟩
/-- CORR_TERM_GEOM [12:8] SHIFT. -/
def F.CORR_TERM_GEOM_SHIFT : RegField := ⟨.CORR_TERM_GEOM, 12, 8⟩
/-- CORR_TERM_COEF [31:0] COEF. -/
def F.CORR_TERM_COEF_COEF : RegField := ⟨.CORR_TERM_COEF, 31, 0⟩
/-- CORR_KERNEL_SEL [4:0] ENTRY. -/
def F.CORR_KERNEL_SEL_ENTRY : RegField := ⟨.CORR_KERNEL_SEL, 4, 0⟩
/-- CORR_KERNEL_DATA [16:0] KW. -/
def F.CORR_KERNEL_DATA_KW : RegField := ⟨.CORR_KERNEL_DATA, 16, 0⟩
/-- CORR_PARAM_CRC [31:0] CRC. -/
def F.CORR_PARAM_CRC_CRC : RegField := ⟨.CORR_PARAM_CRC, 31, 0⟩
/-- CORR_REACH [6:0] G. -/
def F.CORR_REACH_G : RegField := ⟨.CORR_REACH, 6, 0⟩
/-- CORR_REACH [18:7] F. -/
def F.CORR_REACH_F : RegField := ⟨.CORR_REACH, 18, 7⟩
/-- CORR_REACH [30:19] Q. -/
def F.CORR_REACH_Q : RegField := ⟨.CORR_REACH, 30, 19⟩
/-- CORR_PARTNERS [5:0] P. -/
def F.CORR_PARTNERS_P : RegField := ⟨.CORR_PARTNERS, 5, 0⟩
/-- CORR_ROWS_FINAL [21:0] ROWS. -/
def F.CORR_ROWS_FINAL_ROWS : RegField := ⟨.CORR_ROWS_FINAL, 21, 0⟩
/-- CORR_WAIT_MASK_LO [31:0] MASK. -/
def F.CORR_WAIT_MASK_LO_MASK : RegField := ⟨.CORR_WAIT_MASK_LO, 31, 0⟩
/-- CORR_WAIT_MASK_HI [31:0] MASK. -/
def F.CORR_WAIT_MASK_HI_MASK : RegField := ⟨.CORR_WAIT_MASK_HI, 31, 0⟩
/-- CORR_LOST_MASK_LO [31:0] MASK. -/
def F.CORR_LOST_MASK_LO_MASK : RegField := ⟨.CORR_LOST_MASK_LO, 31, 0⟩
/-- CORR_LOST_MASK_HI [31:0] MASK. -/
def F.CORR_LOST_MASK_HI_MASK : RegField := ⟨.CORR_LOST_MASK_HI, 31, 0⟩
/-- CORR_SAT_STATUS [0] B_SAT. -/
def F.CORR_SAT_STATUS_B_SAT : RegField := ⟨.CORR_SAT_STATUS, 0, 0⟩
/-- CORR_SAT_STATUS [1] PHI_SAT. -/
def F.CORR_SAT_STATUS_PHI_SAT : RegField := ⟨.CORR_SAT_STATUS, 1, 1⟩
/-- CORR_SAT_STATUS [2] D2_SAT. -/
def F.CORR_SAT_STATUS_D2_SAT : RegField := ⟨.CORR_SAT_STATUS, 2, 2⟩
/-- CORR_SAT_STATUS [3] DOSE_SAT. -/
def F.CORR_SAT_STATUS_DOSE_SAT : RegField := ⟨.CORR_SAT_STATUS, 3, 3⟩
/-- CORR_DOSE_CLAMP_COUNT [31:0] COUNT. -/
def F.CORR_DOSE_CLAMP_COUNT_COUNT : RegField := ⟨.CORR_DOSE_CLAMP_COUNT, 31, 0⟩
/-- CORR_EDGING_BAD_COUNT [31:0] COUNT. -/
def F.CORR_EDGING_BAD_COUNT_COUNT : RegField := ⟨.CORR_EDGING_BAD_COUNT, 31, 0⟩
/-- CORR_EDGING_UNKNOWN_COUNT [31:0] COUNT. -/
def F.CORR_EDGING_UNKNOWN_COUNT_COUNT : RegField := ⟨.CORR_EDGING_UNKNOWN_COUNT, 31, 0⟩
/-- STORE_PIPE_SEL [1:0] PIPE. -/
def F.STORE_PIPE_SEL_PIPE : RegField := ⟨.STORE_PIPE_SEL, 1, 0⟩
/-- STORE_CFG [1:0] RATIO. -/
def F.STORE_CFG_RATIO : RegField := ⟨.STORE_CFG, 1, 0⟩
/-- STORE_CFG [4:2] EFFORT. -/
def F.STORE_CFG_EFFORT : RegField := ⟨.STORE_CFG, 4, 2⟩
/-- STORE_BASE [15:0] BASE_MB. -/
def F.STORE_BASE_BASE_MB : RegField := ⟨.STORE_BASE, 15, 0⟩
/-- STORE_SIZE [15:0] SIZE_MB. -/
def F.STORE_SIZE_SIZE_MB : RegField := ⟨.STORE_SIZE, 15, 0⟩
/-- STORE_LIVE_LEAD [3:0] LEAD. -/
def F.STORE_LIVE_LEAD_LEAD : RegField := ⟨.STORE_LIVE_LEAD, 3, 0⟩
/-- STORE_AHEAD_LIMIT [26:0] LINES. -/
def F.STORE_AHEAD_LIMIT_LINES : RegField := ⟨.STORE_AHEAD_LIMIT, 26, 0⟩
/-- STORE_MODE_SEL [2:0] MODE. -/
def F.STORE_MODE_SEL_MODE : RegField := ⟨.STORE_MODE_SEL, 2, 0⟩
/-- STORE_STATUS [0] HEAD_READY. -/
def F.STORE_STATUS_HEAD_READY : RegField := ⟨.STORE_STATUS, 0, 0⟩
/-- STORE_STATUS [1] FEAS_OK. -/
def F.STORE_STATUS_FEAS_OK : RegField := ⟨.STORE_STATUS, 1, 1⟩
/-- STORE_STATUS [2] ROW_LOST. -/
def F.STORE_STATUS_ROW_LOST : RegField := ⟨.STORE_STATUS, 2, 2⟩
/-- STORE_ROWS_VERIFIED [22:0] ROWS. -/
def F.STORE_ROWS_VERIFIED_ROWS : RegField := ⟨.STORE_ROWS_VERIFIED, 22, 0⟩
/-- STORE_DELIVERED [26:0] LINE. -/
def F.STORE_DELIVERED_LINE : RegField := ⟨.STORE_DELIVERED, 26, 0⟩
/-- STORE_LIVE_COUNT [31:0] COUNT. -/
def F.STORE_LIVE_COUNT_COUNT : RegField := ⟨.STORE_LIVE_COUNT, 31, 0⟩
/-- STORE_LIVE_COST_MAX [31:0] CMAX. -/
def F.STORE_LIVE_COST_MAX_CMAX : RegField := ⟨.STORE_LIVE_COST_MAX, 31, 0⟩
/-- STORE_FEAS_SLACK [31:0] SLACK. -/
def F.STORE_FEAS_SLACK_SLACK : RegField := ⟨.STORE_FEAS_SLACK, 31, 0⟩
/-- STORE_FEAS_FAIL_ROW [22:0] ROW. -/
def F.STORE_FEAS_FAIL_ROW_ROW : RegField := ⟨.STORE_FEAS_FAIL_ROW, 22, 0⟩
/-- STORE_FEAS_FAIL_ROW [31] VALID. -/
def F.STORE_FEAS_FAIL_ROW_VALID : RegField := ⟨.STORE_FEAS_FAIL_ROW, 31, 31⟩
/-- STORE_MODE_COUNT [31:0] COUNT. -/
def F.STORE_MODE_COUNT_COUNT : RegField := ⟨.STORE_MODE_COUNT, 31, 0⟩
/-- STORE_VERIFY_FAIL_COUNT [31:0] COUNT. -/
def F.STORE_VERIFY_FAIL_COUNT_COUNT : RegField := ⟨.STORE_VERIFY_FAIL_COUNT, 31, 0⟩
/-- STORE_STALL_CYCLES [31:0] COUNT. -/
def F.STORE_STALL_CYCLES_COUNT : RegField := ⟨.STORE_STALL_CYCLES, 31, 0⟩
/-- PLAN_STRIPE_CMD [2:0] CMD. -/
def F.PLAN_STRIPE_CMD_CMD : RegField := ⟨.PLAN_STRIPE_CMD, 2, 0⟩
/-- PLAN_STRIPE_ID [31:0] ID. -/
def F.PLAN_STRIPE_ID_ID : RegField := ⟨.PLAN_STRIPE_ID, 31, 0⟩
/-- PLAN_STRIPE_LINES [26:0] LINES. -/
def F.PLAN_STRIPE_LINES_LINES : RegField := ⟨.PLAN_STRIPE_LINES, 26, 0⟩
/-- PLAN_STRIPE_CFG [1:0] PIXEL_SEL. -/
def F.PLAN_STRIPE_CFG_PIXEL_SEL : RegField := ⟨.PLAN_STRIPE_CFG, 1, 0⟩
/-- PLAN_STRIPE_CFG [4:2] PASSES_M1. -/
def F.PLAN_STRIPE_CFG_PASSES_M1 : RegField := ⟨.PLAN_STRIPE_CFG, 4, 2⟩
/-- PLAN_STRIPE_CFG [5] SOURCE. -/
def F.PLAN_STRIPE_CFG_SOURCE : RegField := ⟨.PLAN_STRIPE_CFG, 5, 5⟩
/-- PLAN_LOOKAHEAD [23:0] LINES. -/
def F.PLAN_LOOKAHEAD_LINES : RegField := ⟨.PLAN_LOOKAHEAD, 23, 0⟩
/-- PLAN_STRIPE_STATUS [2:0] STATE. -/
def F.PLAN_STRIPE_STATUS_STATE : RegField := ⟨.PLAN_STRIPE_STATUS, 2, 0⟩
/-- PLAN_STRIPE_STATUS [3] COMMITTED. -/
def F.PLAN_STRIPE_STATUS_COMMITTED : RegField := ⟨.PLAN_STRIPE_STATUS, 3, 3⟩
/-- PLAN_STRIPE_STATUS [4] COLUMN_COMMITTED. -/
def F.PLAN_STRIPE_STATUS_COLUMN_COMMITTED : RegField := ⟨.PLAN_STRIPE_STATUS, 4, 4⟩
/-- PLAN_STRIPE_STATUS [5] FAIL_LOOKAHEAD. -/
def F.PLAN_STRIPE_STATUS_FAIL_LOOKAHEAD : RegField := ⟨.PLAN_STRIPE_STATUS, 5, 5⟩
/-- PLAN_STRIPE_STATUS [6] FAIL_LIVE. -/
def F.PLAN_STRIPE_STATUS_FAIL_LIVE : RegField := ⟨.PLAN_STRIPE_STATUS, 6, 6⟩
/-- PLAN_STRIPE_STATUS [7] FAIL_COMPENSATION. -/
def F.PLAN_STRIPE_STATUS_FAIL_COMPENSATION : RegField := ⟨.PLAN_STRIPE_STATUS, 7, 7⟩
/-- PLAN_STRIPE_STATUS [8] FAIL_CHAIN. -/
def F.PLAN_STRIPE_STATUS_FAIL_CHAIN : RegField := ⟨.PLAN_STRIPE_STATUS, 8, 8⟩
/-- PLAN_STRIPE_STATUS [9] FAIL_MATCH. -/
def F.PLAN_STRIPE_STATUS_FAIL_MATCH : RegField := ⟨.PLAN_STRIPE_STATUS, 9, 9⟩
/-- PLAN_STRIPE_STATUS [12:10] PASS. -/
def F.PLAN_STRIPE_STATUS_PASS : RegField := ⟨.PLAN_STRIPE_STATUS, 12, 10⟩
/-- PLAN_ABORT_STRIPE [31:0] ID. -/
def F.PLAN_ABORT_STRIPE_ID : RegField := ⟨.PLAN_ABORT_STRIPE, 31, 0⟩
/-- PLAN_ABORT_WHERE [26:0] LINE. -/
def F.PLAN_ABORT_WHERE_LINE : RegField := ⟨.PLAN_ABORT_WHERE, 26, 0⟩
/-- PLAN_ABORT_WHERE [29:27] PASS. -/
def F.PLAN_ABORT_WHERE_PASS : RegField := ⟨.PLAN_ABORT_WHERE, 29, 27⟩
/-- PLAN_ABORT_CAUSE [15:0] FAULT. -/
def F.PLAN_ABORT_CAUSE_FAULT : RegField := ⟨.PLAN_ABORT_CAUSE, 15, 0⟩
/-- PLAN_ABORT_CAUSE [29:16] NODE. -/
def F.PLAN_ABORT_CAUSE_NODE : RegField := ⟨.PLAN_ABORT_CAUSE, 29, 16⟩
/-- PLAN_PASS_SEL [2:0] PASS. -/
def F.PLAN_PASS_SEL_PASS : RegField := ⟨.PLAN_PASS_SEL, 2, 0⟩
/-- PLAN_PASS_X [4:0] XI. -/
def F.PLAN_PASS_X_XI : RegField := ⟨.PLAN_PASS_X, 4, 0⟩
/-- PLAN_PASS_X [15:8] XF. -/
def F.PLAN_PASS_X_XF : RegField := ⟨.PLAN_PASS_X, 15, 8⟩
/-- PLAN_PASS_Y [7:0] YF. -/
def F.PLAN_PASS_Y_YF : RegField := ⟨.PLAN_PASS_Y, 7, 0⟩
/-- PLAN_PASS_FEED [19:0] LINES. -/
def F.PLAN_PASS_FEED_LINES : RegField := ⟨.PLAN_PASS_FEED, 19, 0⟩
/-- PLAN_PASS_SHARE [16:0] SHARE. -/
def F.PLAN_PASS_SHARE_SHARE : RegField := ⟨.PLAN_PASS_SHARE, 16, 0⟩
/-- PLAN_DOSE_GAIN [15:0] GAIN. -/
def F.PLAN_DOSE_GAIN_GAIN : RegField := ⟨.PLAN_DOSE_GAIN, 15, 0⟩
/-- PLAN_SEAM_CFG [4:0] COLS. -/
def F.PLAN_SEAM_CFG_COLS : RegField := ⟨.PLAN_SEAM_CFG, 4, 0⟩
/-- PLAN_SEAM_CFG [12:8] T. -/
def F.PLAN_SEAM_CFG_T : RegField := ⟨.PLAN_SEAM_CFG, 12, 8⟩
/-- PLAN_SEAM_BASE [15:0] BASE_MB. -/
def F.PLAN_SEAM_BASE_BASE_MB : RegField := ⟨.PLAN_SEAM_BASE, 15, 0⟩
/-- PLAN_EXPOSE [1:0] MODE. -/
def F.PLAN_EXPOSE_MODE : RegField := ⟨.PLAN_EXPOSE, 1, 0⟩
/-- PLAN_DEFECT_SEL [13:0] BEAM. -/
def F.PLAN_DEFECT_SEL_BEAM : RegField := ⟨.PLAN_DEFECT_SEL, 13, 0⟩
/-- PLAN_DEFECT_DATA [15:0] STAGED. -/
def F.PLAN_DEFECT_DATA_STAGED : RegField := ⟨.PLAN_DEFECT_DATA, 15, 0⟩
/-- PLAN_DEFECT_DATA [31:16] ACTIVE. -/
def F.PLAN_DEFECT_DATA_ACTIVE : RegField := ⟨.PLAN_DEFECT_DATA, 31, 16⟩
/-- PLAN_SEAM_DEFECT_SEL [0] SIDE. -/
def F.PLAN_SEAM_DEFECT_SEL_SIDE : RegField := ⟨.PLAN_SEAM_DEFECT_SEL, 0, 0⟩
/-- PLAN_SEAM_DEFECT_SEL [11:1] ENTRY. -/
def F.PLAN_SEAM_DEFECT_SEL_ENTRY : RegField := ⟨.PLAN_SEAM_DEFECT_SEL, 11, 1⟩
/-- PLAN_SEAM_DEFECT_DATA [15:0] ENTRY. -/
def F.PLAN_SEAM_DEFECT_DATA_ENTRY : RegField := ⟨.PLAN_SEAM_DEFECT_DATA, 15, 0⟩
/-- PLAN_REMAP_SEL [13:0] BEAM. -/
def F.PLAN_REMAP_SEL_BEAM : RegField := ⟨.PLAN_REMAP_SEL, 13, 0⟩
/-- PLAN_REMAP_DATA [13:0] ENTRY. -/
def F.PLAN_REMAP_DATA_ENTRY : RegField := ⟨.PLAN_REMAP_DATA, 13, 0⟩
/-- PLAN_SCAN_CMD [1:0] CMD. -/
def F.PLAN_SCAN_CMD_CMD : RegField := ⟨.PLAN_SCAN_CMD, 1, 0⟩
/-- PLAN_SCAN_CFG [0] APPLY. -/
def F.PLAN_SCAN_CFG_APPLY : RegField := ⟨.PLAN_SCAN_CFG, 0, 0⟩
/-- PLAN_SCAN_CFG [1] GROUP. -/
def F.PLAN_SCAN_CFG_GROUP : RegField := ⟨.PLAN_SCAN_CFG, 1, 1⟩
/-- PLAN_SCAN_CFG [7:2] TARGET. -/
def F.PLAN_SCAN_CFG_TARGET : RegField := ⟨.PLAN_SCAN_CFG, 7, 2⟩
/-- PLAN_SCAN_CFG [15:8] TOL. -/
def F.PLAN_SCAN_CFG_TOL : RegField := ⟨.PLAN_SCAN_CFG, 15, 8⟩
/-- PLAN_SCAN_CFG [31:16] DWELL. -/
def F.PLAN_SCAN_CFG_DWELL : RegField := ⟨.PLAN_SCAN_CFG, 31, 16⟩
/-- PLAN_SCAN_RES [15:0] RES_MIN. -/
def F.PLAN_SCAN_RES_RES_MIN : RegField := ⟨.PLAN_SCAN_RES, 15, 0⟩
/-- PLAN_SCAN_RES [31:16] RES_MAX. -/
def F.PLAN_SCAN_RES_RES_MAX : RegField := ⟨.PLAN_SCAN_RES, 31, 16⟩
/-- PLAN_SCAN_LEAK [15:0] LEAK_MAX. -/
def F.PLAN_SCAN_LEAK_LEAK_MAX : RegField := ⟨.PLAN_SCAN_LEAK, 15, 0⟩
/-- PLAN_SCAN_LEAK [31:16] MAX_CHANGE. -/
def F.PLAN_SCAN_LEAK_MAX_CHANGE : RegField := ⟨.PLAN_SCAN_LEAK, 31, 16⟩
/-- PLAN_SCAN_REF [31:0] REF. -/
def F.PLAN_SCAN_REF_REF : RegField := ⟨.PLAN_SCAN_REF, 31, 0⟩
/-- PLAN_SCAN_HOT [31:0] HOT_LEVEL. -/
def F.PLAN_SCAN_HOT_HOT_LEVEL : RegField := ⟨.PLAN_SCAN_HOT, 31, 0⟩
/-- PLAN_SCAN_TABLE_LO [31:0] ADDR. -/
def F.PLAN_SCAN_TABLE_LO_ADDR : RegField := ⟨.PLAN_SCAN_TABLE_LO, 31, 0⟩
/-- PLAN_SCAN_TABLE_HI [3:0] ADDR. -/
def F.PLAN_SCAN_TABLE_HI_ADDR : RegField := ⟨.PLAN_SCAN_TABLE_HI, 3, 0⟩
/-- PLAN_SCAN_SLOT [7:0] SLOT. -/
def F.PLAN_SCAN_SLOT_SLOT : RegField := ⟨.PLAN_SCAN_SLOT, 7, 0⟩
/-- PLAN_SCAN_STATUS [0] BUSY. -/
def F.PLAN_SCAN_STATUS_BUSY : RegField := ⟨.PLAN_SCAN_STATUS, 0, 0⟩
/-- PLAN_SCAN_STATUS [1] STALE. -/
def F.PLAN_SCAN_STATUS_STALE : RegField := ⟨.PLAN_SCAN_STATUS, 1, 1⟩
/-- PLAN_SCAN_STATUS [16:2] DONE. -/
def F.PLAN_SCAN_STATUS_DONE : RegField := ⟨.PLAN_SCAN_STATUS, 16, 2⟩
/-- PLAN_SHIFT [5:0] H. -/
def F.PLAN_SHIFT_H : RegField := ⟨.PLAN_SHIFT, 5, 0⟩
/-- PLAN_SHIFT [11:6] S. -/
def F.PLAN_SHIFT_S : RegField := ⟨.PLAN_SHIFT, 11, 6⟩
/-- PLAN_COMP_STATUS [0] EDGE_LOW_OK. -/
def F.PLAN_COMP_STATUS_EDGE_LOW_OK : RegField := ⟨.PLAN_COMP_STATUS, 0, 0⟩
/-- PLAN_COMP_STATUS [1] EDGE_HIGH_OK. -/
def F.PLAN_COMP_STATUS_EDGE_HIGH_OK : RegField := ⟨.PLAN_COMP_STATUS, 1, 1⟩
/-- PLAN_COMP_STATUS [2] FAIL. -/
def F.PLAN_COMP_STATUS_FAIL : RegField := ⟨.PLAN_COMP_STATUS, 2, 2⟩
/-- PLAN_COMP_STATUS [29:3] LINES. -/
def F.PLAN_COMP_STATUS_LINES : RegField := ⟨.PLAN_COMP_STATUS, 29, 3⟩
/-- PLAN_COMP_FAIL_WHERE [18:0] X. -/
def F.PLAN_COMP_FAIL_WHERE_X : RegField := ⟨.PLAN_COMP_FAIL_WHERE, 18, 0⟩
/-- PLAN_COMP_FAIL_WHERE [21:19] PASS. -/
def F.PLAN_COMP_FAIL_WHERE_PASS : RegField := ⟨.PLAN_COMP_FAIL_WHERE, 21, 19⟩
/-- PLAN_COMP_FAIL_WHERE [31] VALID. -/
def F.PLAN_COMP_FAIL_WHERE_VALID : RegField := ⟨.PLAN_COMP_FAIL_WHERE, 31, 31⟩
/-- PLAN_COMP_FAIL_LINE [26:0] LINE. -/
def F.PLAN_COMP_FAIL_LINE_LINE : RegField := ⟨.PLAN_COMP_FAIL_LINE, 26, 0⟩
/-- PLAN_SEAM_LOST [1:0] SIDE. -/
def F.PLAN_SEAM_LOST_SIDE : RegField := ⟨.PLAN_SEAM_LOST, 1, 0⟩
/-- PLAN_SEAM_BAD_COUNT [31:0] COUNT. -/
def F.PLAN_SEAM_BAD_COUNT_COUNT : RegField := ⟨.PLAN_SEAM_BAD_COUNT, 31, 0⟩
/-- CARIL_CFG [8:0] LEAD_NS. -/
def F.CARIL_CFG_LEAD_NS : RegField := ⟨.CARIL_CFG, 8, 0⟩
/-- CARIL_CFG [19:10] IDLE_NS. -/
def F.CARIL_CFG_IDLE_NS : RegField := ⟨.CARIL_CFG, 19, 10⟩
/-- CARIL_WINDOW [15:0] WINDOW. -/
def F.CARIL_WINDOW_WINDOW : RegField := ⟨.CARIL_WINDOW, 15, 0⟩
/-- CARIL_TRIM_SEL [13:0] BEAM. -/
def F.CARIL_TRIM_SEL_BEAM : RegField := ⟨.CARIL_TRIM_SEL, 13, 0⟩
/-- CARIL_TRIM_DATA [7:0] STAGED. -/
def F.CARIL_TRIM_DATA_STAGED : RegField := ⟨.CARIL_TRIM_DATA, 7, 0⟩
/-- CARIL_TRIM_DATA [15:8] ACTIVE. -/
def F.CARIL_TRIM_DATA_ACTIVE : RegField := ⟨.CARIL_TRIM_DATA, 15, 8⟩
/-- CARIL_DAMP_STATUS [0] DAMP_IN. -/
def F.CARIL_DAMP_STATUS_DAMP_IN : RegField := ⟨.CARIL_DAMP_STATUS, 0, 0⟩
/-- CARIL_DAMP_STATUS [1] LATCH. -/
def F.CARIL_DAMP_STATUS_LATCH : RegField := ⟨.CARIL_DAMP_STATUS, 1, 1⟩
/-- CARIL_DAMP_STATUS [2] GENERATOR. -/
def F.CARIL_DAMP_STATUS_GENERATOR : RegField := ⟨.CARIL_DAMP_STATUS, 2, 2⟩
/-- CARIL_DAMP_STATUS [31:16] CAUSE. -/
def F.CARIL_DAMP_STATUS_CAUSE : RegField := ⟨.CARIL_DAMP_STATUS, 31, 16⟩
/-- CARIL_TEMP_LEVEL [1:0] LEVEL. -/
def F.CARIL_TEMP_LEVEL_LEVEL : RegField := ⟨.CARIL_TEMP_LEVEL, 1, 0⟩
/-- CARIL_TEMP_LEVEL [6:2] LANE. -/
def F.CARIL_TEMP_LEVEL_LANE : RegField := ⟨.CARIL_TEMP_LEVEL, 6, 2⟩
/-- CARIL_BEAT_PEALS [31:0] COUNT. -/
def F.CARIL_BEAT_PEALS_COUNT : RegField := ⟨.CARIL_BEAT_PEALS, 31, 0⟩
/-- CARIL_ABORTS [31:0] COUNT. -/
def F.CARIL_ABORTS_COUNT : RegField := ⟨.CARIL_ABORTS, 31, 0⟩
/-- LANE_SEL [4:0] LANE. -/
def F.LANE_SEL_LANE : RegField := ⟨.LANE_SEL, 4, 0⟩
/-- LANE_CMD [2:0] CMD. -/
def F.LANE_CMD_CMD : RegField := ⟨.LANE_CMD, 2, 0⟩
/-- LANE_FFE [4:0] PRE. -/
def F.LANE_FFE_PRE : RegField := ⟨.LANE_FFE, 4, 0⟩
/-- LANE_FFE [12:8] MAIN. -/
def F.LANE_FFE_MAIN : RegField := ⟨.LANE_FFE, 12, 8⟩
/-- LANE_FFE [20:16] POST. -/
def F.LANE_FFE_POST : RegField := ⟨.LANE_FFE, 20, 16⟩
/-- LANE_RX_EQ [3:0] CTLE. -/
def F.LANE_RX_EQ_CTLE : RegField := ⟨.LANE_RX_EQ, 3, 0⟩
/-- LANE_RX_EQ [4] FREEZE. -/
def F.LANE_RX_EQ_FREEZE : RegField := ⟨.LANE_RX_EQ, 4, 4⟩
/-- LANE_RX_DFE [29:0] TAPS. -/
def F.LANE_RX_DFE_TAPS : RegField := ⟨.LANE_RX_DFE, 29, 0⟩
/-- LANE_SKEW [7:0] STAGED. -/
def F.LANE_SKEW_STAGED : RegField := ⟨.LANE_SKEW, 7, 0⟩
/-- LANE_SKEW [15:8] ACTIVE. -/
def F.LANE_SKEW_ACTIVE : RegField := ⟨.LANE_SKEW, 15, 8⟩
/-- LANE_TEMP_LIMIT [7:0] SOFT. -/
def F.LANE_TEMP_LIMIT_SOFT : RegField := ⟨.LANE_TEMP_LIMIT, 7, 0⟩
/-- LANE_TEMP_LIMIT [15:8] HARD. -/
def F.LANE_TEMP_LIMIT_HARD : RegField := ⟨.LANE_TEMP_LIMIT, 15, 8⟩
/-- LANE_TEMP_LIMIT [23:16] TRIP. -/
def F.LANE_TEMP_LIMIT_TRIP : RegField := ⟨.LANE_TEMP_LIMIT, 23, 16⟩
/-- LANE_TIMEOUT [9:0] TRAIN_MS. -/
def F.LANE_TIMEOUT_TRAIN_MS : RegField := ⟨.LANE_TIMEOUT, 9, 0⟩
/-- LANE_TIMEOUT [22:16] ECHO_US. -/
def F.LANE_TIMEOUT_ECHO_US : RegField := ⟨.LANE_TIMEOUT, 22, 16⟩
/-- LANE_STATUS [2:0] TX_STATE. -/
def F.LANE_STATUS_TX_STATE : RegField := ⟨.LANE_STATUS, 2, 0⟩
/-- LANE_STATUS [4:3] RX_STATE. -/
def F.LANE_STATUS_RX_STATE : RegField := ⟨.LANE_STATUS, 4, 3⟩
/-- LANE_STATUS [5] ECHO_OK. -/
def F.LANE_STATUS_ECHO_OK : RegField := ⟨.LANE_STATUS, 5, 5⟩
/-- LANE_STATUS [6] LANE_MISMATCH. -/
def F.LANE_STATUS_LANE_MISMATCH : RegField := ⟨.LANE_STATUS, 6, 6⟩
/-- LANE_STATUS [8:7] TEMP_LEVEL. -/
def F.LANE_STATUS_TEMP_LEVEL : RegField := ⟨.LANE_STATUS, 8, 7⟩
/-- LANE_STATUS [12:9] EPOCH. -/
def F.LANE_STATUS_EPOCH : RegField := ⟨.LANE_STATUS, 12, 9⟩
/-- LANE_STATUS [16:13] DRV_EPOCH. -/
def F.LANE_STATUS_DRV_EPOCH : RegField := ⟨.LANE_STATUS, 16, 13⟩
/-- LANE_EYE [5:0] ACTIVE. -/
def F.LANE_EYE_ACTIVE : RegField := ⟨.LANE_EYE, 5, 0⟩
/-- LANE_EYE [13:8] STAGED. -/
def F.LANE_EYE_STAGED : RegField := ⟨.LANE_EYE, 13, 8⟩
/-- LANE_EYE [22:16] WIDTH. -/
def F.LANE_EYE_WIDTH : RegField := ⟨.LANE_EYE, 22, 16⟩
/-- LANE_EYE [30] STALE. -/
def F.LANE_EYE_STALE : RegField := ⟨.LANE_EYE, 30, 30⟩
/-- LANE_DRV_TEMP [15:0] TEMP. -/
def F.LANE_DRV_TEMP_TEMP : RegField := ⟨.LANE_DRV_TEMP, 15, 0⟩
/-- LANE_DRV_TEMP [17:16] STATE. -/
def F.LANE_DRV_TEMP_STATE : RegField := ⟨.LANE_DRV_TEMP, 17, 16⟩
/-- LANE_DRV_CRC_BAD [31:0] COUNT. -/
def F.LANE_DRV_CRC_BAD_COUNT : RegField := ⟨.LANE_DRV_CRC_BAD, 31, 0⟩
/-- LANE_DRV_LOST [31:0] COUNT. -/
def F.LANE_DRV_LOST_COUNT : RegField := ⟨.LANE_DRV_LOST, 31, 0⟩
/-- LANE_ECHO_BAD [31:0] COUNT. -/
def F.LANE_ECHO_BAD_COUNT : RegField := ⟨.LANE_ECHO_BAD, 31, 0⟩
/-- STAGE_MET_SEL [1:0] CH. -/
def F.STAGE_MET_SEL_CH : RegField := ⟨.STAGE_MET_SEL, 1, 0⟩
/-- STAGE_MET_CFG [3:0] BAD_LIMIT. -/
def F.STAGE_MET_CFG_BAD_LIMIT : RegField := ⟨.STAGE_MET_CFG, 3, 0⟩
/-- STAGE_MET_CFG [19:4] JUMP_LU. -/
def F.STAGE_MET_CFG_JUMP_LU : RegField := ⟨.STAGE_MET_CFG, 19, 4⟩
/-- STAGE_MET_PHASE [8:0] STAGED. -/
def F.STAGE_MET_PHASE_STAGED : RegField := ⟨.STAGE_MET_PHASE, 8, 0⟩
/-- STAGE_MET_PHASE [24:16] ACTIVE. -/
def F.STAGE_MET_PHASE_ACTIVE : RegField := ⟨.STAGE_MET_PHASE, 24, 16⟩
/-- STAGE_MET_CMD [0] CAL. -/
def F.STAGE_MET_CMD_CAL : RegField := ⟨.STAGE_MET_CMD, 0, 0⟩
/-- STAGE_POS_LO [31:0] POS. -/
def F.STAGE_POS_LO_POS : RegField := ⟨.STAGE_POS_LO, 31, 0⟩
/-- STAGE_POS_HI [7:0] POS. -/
def F.STAGE_POS_HI_POS : RegField := ⟨.STAGE_POS_HI, 7, 0⟩
/-- STAGE_POS_HI [8] VALID. -/
def F.STAGE_POS_HI_VALID : RegField := ⟨.STAGE_POS_HI, 8, 8⟩
/-- STAGE_POS_HI [9] STALE. -/
def F.STAGE_POS_HI_STALE : RegField := ⟨.STAGE_POS_HI, 9, 9⟩
/-- STAGE_POS_HI [10] LOST. -/
def F.STAGE_POS_HI_LOST : RegField := ⟨.STAGE_POS_HI, 10, 10⟩
/-- STAGE_POS_HI [23:16] STATUS. -/
def F.STAGE_POS_HI_STATUS : RegField := ⟨.STAGE_POS_HI, 23, 16⟩
/-- STAGE_SPEED [31:0] V. -/
def F.STAGE_SPEED_V : RegField := ⟨.STAGE_SPEED, 31, 0⟩
/-- STAGE_EST_STATUS [0] VALID. -/
def F.STAGE_EST_STATUS_VALID : RegField := ⟨.STAGE_EST_STATUS, 0, 0⟩
/-- STAGE_EST_STATUS [1] METHOD. -/
def F.STAGE_EST_STATUS_METHOD : RegField := ⟨.STAGE_EST_STATUS, 1, 1⟩
/-- STAGE_EST_STATUS [3:2] DIR. -/
def F.STAGE_EST_STATUS_DIR : RegField := ⟨.STAGE_EST_STATUS, 3, 2⟩
/-- STAGE_SPEED_CFG [5:0] DIFF_N. -/
def F.STAGE_SPEED_CFG_DIFF_N : RegField := ⟨.STAGE_SPEED_CFG, 5, 0⟩
/-- STAGE_SPEED_CFG [15:8] STEP. -/
def F.STAGE_SPEED_CFG_STEP : RegField := ⟨.STAGE_SPEED_CFG, 15, 8⟩
/-- STAGE_SPEED_CFG [31:16] STOP_US. -/
def F.STAGE_SPEED_CFG_STOP_US : RegField := ⟨.STAGE_SPEED_CFG, 31, 16⟩
/-- STAGE_SPEED_THR [15:0] LO. -/
def F.STAGE_SPEED_THR_LO : RegField := ⟨.STAGE_SPEED_THR, 15, 0⟩
/-- STAGE_SPEED_THR [31:16] HI. -/
def F.STAGE_SPEED_THR_HI : RegField := ⟨.STAGE_SPEED_THR, 31, 16⟩
/-- STAGE_DIR_CFG [15:0] WINDOW. -/
def F.STAGE_DIR_CFG_WINDOW : RegField := ⟨.STAGE_DIR_CFG, 15, 0⟩
/-- STAGE_YAW [15:0] OFFSET. -/
def F.STAGE_YAW_OFFSET : RegField := ⟨.STAGE_YAW, 15, 0⟩
/-- STAGE_YAW [31:16] LIMIT. -/
def F.STAGE_YAW_LIMIT : RegField := ⟨.STAGE_YAW, 31, 16⟩
/-- STAGE_MET_BAD_COUNT [31:0] COUNT. -/
def F.STAGE_MET_BAD_COUNT_COUNT : RegField := ⟨.STAGE_MET_BAD_COUNT, 31, 0⟩
/-- STAGE_CMP_TARGET_LO [31:0] TARGET. -/
def F.STAGE_CMP_TARGET_LO_TARGET : RegField := ⟨.STAGE_CMP_TARGET_LO, 31, 0⟩
/-- STAGE_CMP_TARGET_HI [7:0] TARGET. -/
def F.STAGE_CMP_TARGET_HI_TARGET : RegField := ⟨.STAGE_CMP_TARGET_HI, 7, 0⟩
/-- STAGE_CMP_CFG [1:0] CH. -/
def F.STAGE_CMP_CFG_CH : RegField := ⟨.STAGE_CMP_CFG, 1, 0⟩
/-- STAGE_CMP_CFG [2] DIR. -/
def F.STAGE_CMP_CFG_DIR : RegField := ⟨.STAGE_CMP_CFG, 2, 2⟩
/-- STAGE_CMP_CMD [1:0] CMD. -/
def F.STAGE_CMP_CMD_CMD : RegField := ⟨.STAGE_CMP_CMD, 1, 0⟩
/-- STAGE_CMP_STATUS [0] ARMED. -/
def F.STAGE_CMP_STATUS_ARMED : RegField := ⟨.STAGE_CMP_STATUS, 0, 0⟩
/-- STAGE_CMP_STATUS [1] FIRED. -/
def F.STAGE_CMP_STATUS_FIRED : RegField := ⟨.STAGE_CMP_STATUS, 1, 1⟩
/-- STAGE_CMP_STATUS [2] BEHIND. -/
def F.STAGE_CMP_STATUS_BEHIND : RegField := ⟨.STAGE_CMP_STATUS, 2, 2⟩
/-- STAGE_VMAX [31:0] V. -/
def F.STAGE_VMAX_V : RegField := ⟨.STAGE_VMAX, 31, 0⟩
/-- STAGE_AMAX [31:0] A. -/
def F.STAGE_AMAX_A : RegField := ⟨.STAGE_AMAX, 31, 0⟩
/-- STAGE_JMAX [31:0] J. -/
def F.STAGE_JMAX_J : RegField := ⟨.STAGE_JMAX, 31, 0⟩
/-- STAGE_SCAN_VEL [31:0] V. -/
def F.STAGE_SCAN_VEL_V : RegField := ⟨.STAGE_SCAN_VEL, 31, 0⟩
/-- STAGE_SCAN_CFG [0] DIR. -/
def F.STAGE_SCAN_CFG_DIR : RegField := ⟨.STAGE_SCAN_CFG, 0, 0⟩
/-- STAGE_SETTLE [11:0] LINES. -/
def F.STAGE_SETTLE_LINES : RegField := ⟨.STAGE_SETTLE, 11, 0⟩
/-- STAGE_SETTLE [27:16] TOL_LU. -/
def F.STAGE_SETTLE_TOL_LU : RegField := ⟨.STAGE_SETTLE, 27, 16⟩
/-- STAGE_X0_LO [31:0] POS. -/
def F.STAGE_X0_LO_POS : RegField := ⟨.STAGE_X0_LO, 31, 0⟩
/-- STAGE_X0_HI [7:0] POS. -/
def F.STAGE_X0_HI_POS : RegField := ⟨.STAGE_X0_HI, 7, 0⟩
/-- STAGE_Y0_LO [31:0] POS. -/
def F.STAGE_Y0_LO_POS : RegField := ⟨.STAGE_Y0_LO, 31, 0⟩
/-- STAGE_Y0_HI [7:0] POS. -/
def F.STAGE_Y0_HI_POS : RegField := ⟨.STAGE_Y0_HI, 7, 0⟩
/-- STAGE_MOVE_X_LO [31:0] POS. -/
def F.STAGE_MOVE_X_LO_POS : RegField := ⟨.STAGE_MOVE_X_LO, 31, 0⟩
/-- STAGE_MOVE_X_HI [7:0] POS. -/
def F.STAGE_MOVE_X_HI_POS : RegField := ⟨.STAGE_MOVE_X_HI, 7, 0⟩
/-- STAGE_MOVE_Y_LO [31:0] POS. -/
def F.STAGE_MOVE_Y_LO_POS : RegField := ⟨.STAGE_MOVE_Y_LO, 31, 0⟩
/-- STAGE_MOVE_Y_HI [7:0] POS. -/
def F.STAGE_MOVE_Y_HI_POS : RegField := ⟨.STAGE_MOVE_Y_HI, 7, 0⟩
/-- STAGE_MOVE_CMD [1:0] CMD. -/
def F.STAGE_MOVE_CMD_CMD : RegField := ⟨.STAGE_MOVE_CMD, 1, 0⟩
/-- STAGE_PROFILE_STATUS [3:0] PHASE_Y. -/
def F.STAGE_PROFILE_STATUS_PHASE_Y : RegField := ⟨.STAGE_PROFILE_STATUS, 3, 0⟩
/-- STAGE_PROFILE_STATUS [7:4] PHASE_X. -/
def F.STAGE_PROFILE_STATUS_PHASE_X : RegField := ⟨.STAGE_PROFILE_STATUS, 7, 4⟩
/-- STAGE_PROFILE_STATUS [8] DERATED. -/
def F.STAGE_PROFILE_STATUS_DERATED : RegField := ⟨.STAGE_PROFILE_STATUS, 8, 8⟩
/-- STAGE_PROFILE_STATUS [23:16] SP_SEQ. -/
def F.STAGE_PROFILE_STATUS_SP_SEQ : RegField := ⟨.STAGE_PROFILE_STATUS, 23, 16⟩
/-- STAGE_BEAT_CFG [0] SRC. -/
def F.STAGE_BEAT_CFG_SRC : RegField := ⟨.STAGE_BEAT_CFG, 0, 0⟩
/-- STAGE_BEAT_CFG [7:1] SETTLE_NS. -/
def F.STAGE_BEAT_CFG_SETTLE_NS : RegField := ⟨.STAGE_BEAT_CFG, 7, 1⟩
/-- STAGE_BEAT_CFG [19:8] EXT_DELAY_NS. -/
def F.STAGE_BEAT_CFG_EXT_DELAY_NS : RegField := ⟨.STAGE_BEAT_CFG, 19, 8⟩
/-- STAGE_BEAT_CFG [31:20] STALL_US. -/
def F.STAGE_BEAT_CFG_STALL_US : RegField := ⟨.STAGE_BEAT_CFG, 31, 20⟩
/-- STAGE_BEAT_STATUS [26:0] BEAT. -/
def F.STAGE_BEAT_STATUS_BEAT : RegField := ⟨.STAGE_BEAT_STATUS, 26, 0⟩
/-- STAGE_BEAT_STATUS [31] EXT_SAT. -/
def F.STAGE_BEAT_STATUS_EXT_SAT : RegField := ⟨.STAGE_BEAT_STATUS, 31, 31⟩
/-- STAGE_BEAT_PERIOD [15:0] LAST. -/
def F.STAGE_BEAT_PERIOD_LAST : RegField := ⟨.STAGE_BEAT_PERIOD, 15, 0⟩
/-- STAGE_BEAT_PERIOD [31:16] MIN. -/
def F.STAGE_BEAT_PERIOD_MIN : RegField := ⟨.STAGE_BEAT_PERIOD, 31, 16⟩
/-- STAGE_EXT_COUNT [31:0] COUNT. -/
def F.STAGE_EXT_COUNT_COUNT : RegField := ⟨.STAGE_EXT_COUNT, 31, 0⟩
/-- STAGE_TEMP_CFG [7:0] DERATE. -/
def F.STAGE_TEMP_CFG_DERATE : RegField := ⟨.STAGE_TEMP_CFG, 7, 0⟩
/-- STAGE_TEMP_CFG [15:8] HARD_MARGIN. -/
def F.STAGE_TEMP_CFG_HARD_MARGIN : RegField := ⟨.STAGE_TEMP_CFG, 15, 8⟩
/-- STAGE_TEMP_CFG [31:16] HOLD_MS. -/
def F.STAGE_TEMP_CFG_HOLD_MS : RegField := ⟨.STAGE_TEMP_CFG, 31, 16⟩
/-- STAGE_TEMP_STATUS [1:0] LEVEL. -/
def F.STAGE_TEMP_STATUS_LEVEL : RegField := ⟨.STAGE_TEMP_STATUS, 1, 0⟩
/-- STAGE_TEMP_STATUS [7:2] DEV. -/
def F.STAGE_TEMP_STATUS_DEV : RegField := ⟨.STAGE_TEMP_STATUS, 7, 2⟩
/-- STAGE_TEMP_STATUS [15:8] HEADROOM. -/
def F.STAGE_TEMP_STATUS_HEADROOM : RegField := ⟨.STAGE_TEMP_STATUS, 15, 8⟩
/-- STAGE_CAD_HORIZON [9:0] H_NS. -/
def F.STAGE_CAD_HORIZON_H_NS : RegField := ⟨.STAGE_CAD_HORIZON, 9, 0⟩
/-- STAGE_CAD_LINK_DELAY [15:0] DELAY. -/
def F.STAGE_CAD_LINK_DELAY_DELAY : RegField := ⟨.STAGE_CAD_LINK_DELAY, 15, 0⟩
/-- STAGE_CAD_TOL [7:0] TOL. -/
def F.STAGE_CAD_TOL_TOL : RegField := ⟨.STAGE_CAD_TOL, 7, 0⟩
/-- STAGE_CAD_STATUS [0] LOCKED. -/
def F.STAGE_CAD_STATUS_LOCKED : RegField := ⟨.STAGE_CAD_STATUS, 0, 0⟩
/-- STAGE_CAD_STATUS [1] VERIFIED. -/
def F.STAGE_CAD_STATUS_VERIFIED : RegField := ⟨.STAGE_CAD_STATUS, 1, 1⟩
/-- STAGE_CAD_STATUS [7:2] FIRST_FAIL. -/
def F.STAGE_CAD_STATUS_FIRST_FAIL : RegField := ⟨.STAGE_CAD_STATUS, 7, 2⟩
/-- STAGE_CAD_STATUS [8] ORDER_BAD. -/
def F.STAGE_CAD_STATUS_ORDER_BAD : RegField := ⟨.STAGE_CAD_STATUS, 8, 8⟩
/-- STAGE_CAD_STATUS [9] NOT_COMMITTED. -/
def F.STAGE_CAD_STATUS_NOT_COMMITTED : RegField := ⟨.STAGE_CAD_STATUS, 9, 9⟩
/-- STAGE_CAD_STATUS [10] MISMATCH. -/
def F.STAGE_CAD_STATUS_MISMATCH : RegField := ⟨.STAGE_CAD_STATUS, 10, 10⟩
/-- STAGE_CAD_STATUS [11] DELAY_BAD. -/
def F.STAGE_CAD_STATUS_DELAY_BAD : RegField := ⟨.STAGE_CAD_STATUS, 11, 11⟩
/-- STAGE_CAD_STATUS [12] HORIZON_SHORT. -/
def F.STAGE_CAD_STATUS_HORIZON_SHORT : RegField := ⟨.STAGE_CAD_STATUS, 12, 12⟩
/-- STAGE_CAD_RING [15:0] ROUND_TRIP. -/
def F.STAGE_CAD_RING_ROUND_TRIP : RegField := ⟨.STAGE_CAD_RING, 15, 0⟩
/-- STAGE_CAD_RING [31:16] ELAPSED. -/
def F.STAGE_CAD_RING_ELAPSED : RegField := ⟨.STAGE_CAD_RING, 31, 16⟩
/-- STAGE_CAD_ERR_COUNT [31:0] COUNT. -/
def F.STAGE_CAD_ERR_COUNT_COUNT : RegField := ⟨.STAGE_CAD_ERR_COUNT, 31, 0⟩
/-- TRACK_CFG [0] FF_X. -/
def F.TRACK_CFG_FF_X : RegField := ⟨.TRACK_CFG, 0, 0⟩
/-- TRACK_CFG [1] FF_Y. -/
def F.TRACK_CFG_FF_Y : RegField := ⟨.TRACK_CFG, 1, 1⟩
/-- TRACK_CFG [2] REP_X. -/
def F.TRACK_CFG_REP_X : RegField := ⟨.TRACK_CFG, 2, 2⟩
/-- TRACK_CFG [3] REP_Y. -/
def F.TRACK_CFG_REP_Y : RegField := ⟨.TRACK_CFG, 3, 3⟩
/-- TRACK_CFG [4] LEARN. -/
def F.TRACK_CFG_LEARN : RegField := ⟨.TRACK_CFG, 4, 4⟩
/-- TRACK_CFG [5] HYST. -/
def F.TRACK_CFG_HYST : RegField := ⟨.TRACK_CFG, 5, 5⟩
/-- TRACK_AXIS_SEL [0] AXIS. -/
def F.TRACK_AXIS_SEL_AXIS : RegField := ⟨.TRACK_AXIS_SEL, 0, 0⟩
/-- TRACK_AXIS_SEL [1] VIEW. -/
def F.TRACK_AXIS_SEL_VIEW : RegField := ⟨.TRACK_AXIS_SEL, 1, 1⟩
/-- TRACK_KP [31:0] KP. -/
def F.TRACK_KP_KP : RegField := ⟨.TRACK_KP, 31, 0⟩
/-- TRACK_KI [31:0] KI. -/
def F.TRACK_KI_KI : RegField := ⟨.TRACK_KI, 31, 0⟩
/-- TRACK_KR [31:0] KR. -/
def F.TRACK_KR_KR : RegField := ⟨.TRACK_KR, 31, 0⟩
/-- TRACK_REP_Q [16:0] KQ. -/
def F.TRACK_REP_Q_KQ : RegField := ⟨.TRACK_REP_Q, 16, 0⟩
/-- TRACK_SHIFTS [4:0] SP. -/
def F.TRACK_SHIFTS_SP : RegField := ⟨.TRACK_SHIFTS, 4, 0⟩
/-- TRACK_SHIFTS [12:8] SI. -/
def F.TRACK_SHIFTS_SI : RegField := ⟨.TRACK_SHIFTS, 12, 8⟩
/-- TRACK_SHIFTS [20:16] SR. -/
def F.TRACK_SHIFTS_SR : RegField := ⟨.TRACK_SHIFTS, 20, 16⟩
/-- TRACK_ILIM [30:0] ILIM. -/
def F.TRACK_ILIM_ILIM : RegField := ⟨.TRACK_ILIM, 30, 0⟩
/-- TRACK_ULIM [30:0] ULIM. -/
def F.TRACK_ULIM_ULIM : RegField := ⟨.TRACK_ULIM, 30, 0⟩
/-- TRACK_BANK_CMD [0] SWAP. -/
def F.TRACK_BANK_CMD_SWAP : RegField := ⟨.TRACK_BANK_CMD, 0, 0⟩
/-- TRACK_BANK_STATUS [0] ACTIVE. -/
def F.TRACK_BANK_STATUS_ACTIVE : RegField := ⟨.TRACK_BANK_STATUS, 0, 0⟩
/-- TRACK_BANK_STATUS [1] PENDING. -/
def F.TRACK_BANK_STATUS_PENDING : RegField := ⟨.TRACK_BANK_STATUS, 1, 1⟩
/-- TRACK_BANK_STATUS [31:16] SWAPS. -/
def F.TRACK_BANK_STATUS_SWAPS : RegField := ⟨.TRACK_BANK_STATUS, 31, 16⟩
/-- TRACK_RECENTRE [6:0] ADV_NS. -/
def F.TRACK_RECENTRE_ADV_NS : RegField := ⟨.TRACK_RECENTRE, 6, 0⟩
/-- TRACK_PARK [31:0] WORD. -/
def F.TRACK_PARK_WORD : RegField := ⟨.TRACK_PARK, 31, 0⟩
/-- TRACK_MAP_SEL [1:0] TABLE. -/
def F.TRACK_MAP_SEL_TABLE : RegField := ⟨.TRACK_MAP_SEL, 1, 0⟩
/-- TRACK_MAP_INDEX [15:0] INDEX. -/
def F.TRACK_MAP_INDEX_INDEX : RegField := ⟨.TRACK_MAP_INDEX, 15, 0⟩
/-- TRACK_MAP_BASE_LO [31:0] BASE. -/
def F.TRACK_MAP_BASE_LO_BASE : RegField := ⟨.TRACK_MAP_BASE_LO, 31, 0⟩
/-- TRACK_MAP_BASE_HI [7:0] BASE. -/
def F.TRACK_MAP_BASE_HI_BASE : RegField := ⟨.TRACK_MAP_BASE_HI, 7, 0⟩
/-- TRACK_MAP_BASE_HI [12:8] SH. -/
def F.TRACK_MAP_BASE_HI_SH : RegField := ⟨.TRACK_MAP_BASE_HI, 12, 8⟩
/-- TRACK_MAP_DATA [31:0] ENTRY. -/
def F.TRACK_MAP_DATA_ENTRY : RegField := ⟨.TRACK_MAP_DATA, 31, 0⟩
/-- TRACK_REP_CFG [15:0] PERIOD_M1. -/
def F.TRACK_REP_CFG_PERIOD_M1 : RegField := ⟨.TRACK_REP_CFG, 15, 0⟩
/-- TRACK_REP_CFG [31:16] ADV. -/
def F.TRACK_REP_CFG_ADV : RegField := ⟨.TRACK_REP_CFG, 31, 16⟩
/-- TRACK_REP_CMD [0] CLEAR. -/
def F.TRACK_REP_CMD_CLEAR : RegField := ⟨.TRACK_REP_CMD, 0, 0⟩
/-- TRACK_REP_STATUS [0] READY. -/
def F.TRACK_REP_STATUS_READY : RegField := ⟨.TRACK_REP_STATUS, 0, 0⟩
/-- TRACK_REP_STATUS [17:1] FILL. -/
def F.TRACK_REP_STATUS_FILL : RegField := ⟨.TRACK_REP_STATUS, 17, 1⟩
/-- TRACK_RESID [31:0] E. -/
def F.TRACK_RESID_E : RegField := ⟨.TRACK_RESID, 31, 0⟩
/-- TRACK_WORD [31:0] WORD. -/
def F.TRACK_WORD_WORD : RegField := ⟨.TRACK_WORD, 31, 0⟩
/-- TRACK_INTEG [31:0] I. -/
def F.TRACK_INTEG_I : RegField := ⟨.TRACK_INTEG, 31, 0⟩
/-- TRACK_SHIFT_STATUS [0] PENDING. -/
def F.TRACK_SHIFT_STATUS_PENDING : RegField := ⟨.TRACK_SHIFT_STATUS, 0, 0⟩
/-- TRACK_SHIFT_STATUS [6:1] H_PEND. -/
def F.TRACK_SHIFT_STATUS_H_PEND : RegField := ⟨.TRACK_SHIFT_STATUS, 6, 1⟩
/-- TRACK_SHIFT_STATUS [23:8] COUNT. -/
def F.TRACK_SHIFT_STATUS_COUNT : RegField := ⟨.TRACK_SHIFT_STATUS, 23, 8⟩
/-- TRACK_SAT_STATUS [5:0] X_FLAGS. -/
def F.TRACK_SAT_STATUS_X_FLAGS : RegField := ⟨.TRACK_SAT_STATUS, 5, 0⟩
/-- TRACK_SAT_STATUS [13:8] Y_FLAGS. -/
def F.TRACK_SAT_STATUS_Y_FLAGS : RegField := ⟨.TRACK_SAT_STATUS, 13, 8⟩
/-- TRACK_HOLD_COUNT [31:0] COUNT. -/
def F.TRACK_HOLD_COUNT_COUNT : RegField := ⟨.TRACK_HOLD_COUNT, 31, 0⟩
/-- TRACK_LATENCY [15:0] MAX. -/
def F.TRACK_LATENCY_MAX : RegField := ⟨.TRACK_LATENCY, 15, 0⟩
/-- NET_PORT_SEL [2:0] MAC. -/
def F.NET_PORT_SEL_MAC : RegField := ⟨.NET_PORT_SEL, 2, 0⟩
/-- NET_PORT_CFG [2:0] MODE. -/
def F.NET_PORT_CFG_MODE : RegField := ⟨.NET_PORT_CFG, 2, 0⟩
/-- NET_PORT_CFG [3] NOFEC25. -/
def F.NET_PORT_CFG_NOFEC25 : RegField := ⟨.NET_PORT_CFG, 3, 3⟩
/-- NET_PORT_CFG [4] AN. -/
def F.NET_PORT_CFG_AN : RegField := ⟨.NET_PORT_CFG, 4, 4⟩
/-- NET_PORT_STATUS [3:0] LINK. -/
def F.NET_PORT_STATUS_LINK : RegField := ⟨.NET_PORT_STATUS, 3, 0⟩
/-- NET_PORT_STATUS [4] FEC_LOCK. -/
def F.NET_PORT_STATUS_FEC_LOCK : RegField := ⟨.NET_PORT_STATUS, 4, 4⟩
/-- NET_VLAN [11:0] VID. -/
def F.NET_VLAN_VID : RegField := ⟨.NET_VLAN, 11, 0⟩
/-- NET_VLAN [12] TAGGED. -/
def F.NET_VLAN_TAGGED : RegField := ⟨.NET_VLAN, 12, 12⟩
/-- NET_VLAN [15:13] PCP. -/
def F.NET_VLAN_PCP : RegField := ⟨.NET_VLAN, 15, 13⟩
/-- NET_VLAN [27:16] PTP_VID. -/
def F.NET_VLAN_PTP_VID : RegField := ⟨.NET_VLAN, 27, 16⟩
/-- NET_VLAN [28] PTP_TAGGED. -/
def F.NET_VLAN_PTP_TAGGED : RegField := ⟨.NET_VLAN, 28, 28⟩
/-- NET_VLAN [31:29] PTP_PCP. -/
def F.NET_VLAN_PTP_PCP : RegField := ⟨.NET_VLAN, 31, 29⟩
/-- NET_IP4_ADDR [31:0] ADDR. -/
def F.NET_IP4_ADDR_ADDR : RegField := ⟨.NET_IP4_ADDR, 31, 0⟩
/-- NET_IP6_ADDR0 [31:0] ADDR. -/
def F.NET_IP6_ADDR0_ADDR : RegField := ⟨.NET_IP6_ADDR0, 31, 0⟩
/-- NET_IP6_ADDR1 [31:0] ADDR. -/
def F.NET_IP6_ADDR1_ADDR : RegField := ⟨.NET_IP6_ADDR1, 31, 0⟩
/-- NET_IP6_ADDR2 [31:0] ADDR. -/
def F.NET_IP6_ADDR2_ADDR : RegField := ⟨.NET_IP6_ADDR2, 31, 0⟩
/-- NET_IP6_ADDR3 [31:0] ADDR. -/
def F.NET_IP6_ADDR3_ADDR : RegField := ⟨.NET_IP6_ADDR3, 31, 0⟩
/-- NET_IP_CFG [7:0] TTL. -/
def F.NET_IP_CFG_TTL : RegField := ⟨.NET_IP_CFG, 7, 0⟩
/-- NET_IP_CFG [13:8] DSCP. -/
def F.NET_IP_CFG_DSCP : RegField := ⟨.NET_IP_CFG, 13, 8⟩
/-- NET_IP_CFG [14] IPV6. -/
def F.NET_IP_CFG_IPV6 : RegField := ⟨.NET_IP_CFG, 14, 14⟩
/-- NET_UDP_PORT [15:0] PORT. -/
def F.NET_UDP_PORT_PORT : RegField := ⟨.NET_UDP_PORT, 15, 0⟩
/-- NET_MTU [13:0] BYTES. -/
def F.NET_MTU_BYTES : RegField := ⟨.NET_MTU, 13, 0⟩
/-- NET_PTP_CFG [0] L2. -/
def F.NET_PTP_CFG_L2 : RegField := ⟨.NET_PTP_CFG, 0, 0⟩
/-- NET_PTP_CFG [1] IPV4. -/
def F.NET_PTP_CFG_IPV4 : RegField := ⟨.NET_PTP_CFG, 1, 1⟩
/-- NET_PTP_CFG [2] IPV6. -/
def F.NET_PTP_CFG_IPV6 : RegField := ⟨.NET_PTP_CFG, 2, 2⟩
/-- NET_PTP_CFG [3] ONE_STEP. -/
def F.NET_PTP_CFG_ONE_STEP : RegField := ⟨.NET_PTP_CFG, 3, 3⟩
/-- NET_PTP_TX_LAT [31:0] PS. -/
def F.NET_PTP_TX_LAT_PS : RegField := ⟨.NET_PTP_TX_LAT, 31, 0⟩
/-- NET_PTP_RX_LAT [31:0] PS. -/
def F.NET_PTP_RX_LAT_PS : RegField := ⟨.NET_PTP_RX_LAT, 31, 0⟩
/-- NET_ADDR_SEL [6:0] ENTRY. -/
def F.NET_ADDR_SEL_ENTRY : RegField := ⟨.NET_ADDR_SEL, 6, 0⟩
/-- NET_ADDR_CFG [2:0] MAC. -/
def F.NET_ADDR_CFG_MAC : RegField := ⟨.NET_ADDR_CFG, 2, 0⟩
/-- NET_ADDR_CFG [3] IPV6. -/
def F.NET_ADDR_CFG_IPV6 : RegField := ⟨.NET_ADDR_CFG, 3, 3⟩
/-- NET_ADDR_CFG [4] VALID. -/
def F.NET_ADDR_CFG_VALID : RegField := ⟨.NET_ADDR_CFG, 4, 4⟩
/-- NET_ADDR_MAC_LO [31:0] MAC. -/
def F.NET_ADDR_MAC_LO_MAC : RegField := ⟨.NET_ADDR_MAC_LO, 31, 0⟩
/-- NET_ADDR_MAC_HI [15:0] MAC. -/
def F.NET_ADDR_MAC_HI_MAC : RegField := ⟨.NET_ADDR_MAC_HI, 15, 0⟩
/-- NET_ADDR_MAC_HI [31:16] UDP. -/
def F.NET_ADDR_MAC_HI_UDP : RegField := ⟨.NET_ADDR_MAC_HI, 31, 16⟩
/-- NET_ADDR_IP0 [31:0] IP. -/
def F.NET_ADDR_IP0_IP : RegField := ⟨.NET_ADDR_IP0, 31, 0⟩
/-- NET_ADDR_IP1 [31:0] IP. -/
def F.NET_ADDR_IP1_IP : RegField := ⟨.NET_ADDR_IP1, 31, 0⟩
/-- NET_ADDR_IP2 [31:0] IP. -/
def F.NET_ADDR_IP2_IP : RegField := ⟨.NET_ADDR_IP2, 31, 0⟩
/-- NET_ADDR_IP3 [31:0] IP. -/
def F.NET_ADDR_IP3_IP : RegField := ⟨.NET_ADDR_IP3, 31, 0⟩
/-- NET_XPORT_CFG [9:0] CTRL_US. -/
def F.NET_XPORT_CFG_CTRL_US : RegField := ⟨.NET_XPORT_CFG, 9, 0⟩
/-- NET_XPORT_CFG [25:16] HOLDOFF_US. -/
def F.NET_XPORT_CFG_HOLDOFF_US : RegField := ⟨.NET_XPORT_CFG, 25, 16⟩
/-- NET_FLOW_SEL [5:0] FLOW. -/
def F.NET_FLOW_SEL_FLOW : RegField := ⟨.NET_FLOW_SEL, 5, 0⟩
/-- NET_FLOW_NEXT [31:0] DSEQ. -/
def F.NET_FLOW_NEXT_DSEQ : RegField := ⟨.NET_FLOW_NEXT, 31, 0⟩
/-- NET_FLOW_RECEIVED [31:0] STITCHES. -/
def F.NET_FLOW_RECEIVED_STITCHES : RegField := ⟨.NET_FLOW_RECEIVED, 31, 0⟩
/-- NET_RX_DISCARD [31:0] COUNT. -/
def F.NET_RX_DISCARD_COUNT : RegField := ⟨.NET_RX_DISCARD, 31, 0⟩
/-- NET_XPORT_BAD [31:0] COUNT. -/
def F.NET_XPORT_BAD_COUNT : RegField := ⟨.NET_XPORT_BAD, 31, 0⟩
/-- NET_FLOW_ORDER_COUNT [31:0] COUNT. -/
def F.NET_FLOW_ORDER_COUNT_COUNT : RegField := ⟨.NET_FLOW_ORDER_COUNT, 31, 0⟩
/-- TIME_CMD [0] LATCH. -/
def F.TIME_CMD_LATCH : RegField := ⟨.TIME_CMD, 0, 0⟩
/-- TIME_CMD [1] SET. -/
def F.TIME_CMD_SET : RegField := ⟨.TIME_CMD, 1, 1⟩
/-- TIME_LATCH_SEC_LO [31:0] SEC. -/
def F.TIME_LATCH_SEC_LO_SEC : RegField := ⟨.TIME_LATCH_SEC_LO, 31, 0⟩
/-- TIME_LATCH_SEC_HI [15:0] SEC. -/
def F.TIME_LATCH_SEC_HI_SEC : RegField := ⟨.TIME_LATCH_SEC_HI, 15, 0⟩
/-- TIME_LATCH_SEC_HI [31:16] FRAC. -/
def F.TIME_LATCH_SEC_HI_FRAC : RegField := ⟨.TIME_LATCH_SEC_HI, 31, 16⟩
/-- TIME_LATCH_STAGE_LO [31:0] T. -/
def F.TIME_LATCH_STAGE_LO_T : RegField := ⟨.TIME_LATCH_STAGE_LO, 31, 0⟩
/-- TIME_LATCH_STAGE_HI [31:0] T. -/
def F.TIME_LATCH_STAGE_HI_T : RegField := ⟨.TIME_LATCH_STAGE_HI, 31, 0⟩
/-- TIME_LATCH_NS [29:0] NS. -/
def F.TIME_LATCH_NS_NS : RegField := ⟨.TIME_LATCH_NS, 29, 0⟩
/-- TIME_SET_SEC_LO [31:0] SEC. -/
def F.TIME_SET_SEC_LO_SEC : RegField := ⟨.TIME_SET_SEC_LO, 31, 0⟩
/-- TIME_SET_SEC_HI [15:0] SEC. -/
def F.TIME_SET_SEC_HI_SEC : RegField := ⟨.TIME_SET_SEC_HI, 15, 0⟩
/-- TIME_SET_SEC_HI [31:16] FRAC. -/
def F.TIME_SET_SEC_HI_FRAC : RegField := ⟨.TIME_SET_SEC_HI, 31, 16⟩
/-- TIME_SET_NS [29:0] NS. -/
def F.TIME_SET_NS_NS : RegField := ⟨.TIME_SET_NS, 29, 0⟩
/-- TIME_SERVO_OFFSET_LO [31:0] OFF. -/
def F.TIME_SERVO_OFFSET_LO_OFF : RegField := ⟨.TIME_SERVO_OFFSET_LO, 31, 0⟩
/-- TIME_SERVO_OFFSET_HI [31:0] OFF. -/
def F.TIME_SERVO_OFFSET_HI_OFF : RegField := ⟨.TIME_SERVO_OFFSET_HI, 31, 0⟩
/-- TIME_SERVO_CMD [0] APPLY. -/
def F.TIME_SERVO_CMD_APPLY : RegField := ⟨.TIME_SERVO_CMD, 0, 0⟩
/-- TIME_SERVO_CMD [1] FORCE. -/
def F.TIME_SERVO_CMD_FORCE : RegField := ⟨.TIME_SERVO_CMD, 1, 1⟩
/-- TIME_SERVO_CMD [2] RESTART. -/
def F.TIME_SERVO_CMD_RESTART : RegField := ⟨.TIME_SERVO_CMD, 2, 2⟩
/-- TIME_SERVO_KP [31:0] KP. -/
def F.TIME_SERVO_KP_KP : RegField := ⟨.TIME_SERVO_KP, 31, 0⟩
/-- TIME_SERVO_KI [31:0] KI. -/
def F.TIME_SERVO_KI_KI : RegField := ⟨.TIME_SERVO_KI, 31, 0⟩
/-- TIME_SERVO_SHIFT [5:0] SP. -/
def F.TIME_SERVO_SHIFT_SP : RegField := ⟨.TIME_SERVO_SHIFT, 5, 0⟩
/-- TIME_SERVO_SHIFT [13:8] SI. -/
def F.TIME_SERVO_SHIFT_SI : RegField := ⟨.TIME_SERVO_SHIFT, 13, 8⟩
/-- TIME_ADJ_LIM [30:0] LIM. -/
def F.TIME_ADJ_LIM_LIM : RegField := ⟨.TIME_ADJ_LIM, 30, 0⟩
/-- TIME_STEP_NS [31:0] NS. -/
def F.TIME_STEP_NS_NS : RegField := ⟨.TIME_STEP_NS, 31, 0⟩
/-- TIME_ADJ [31:0] ADJ. -/
def F.TIME_ADJ_ADJ : RegField := ⟨.TIME_ADJ, 31, 0⟩
/-- TIME_FI [31:0] FI. -/
def F.TIME_FI_FI : RegField := ⟨.TIME_FI, 31, 0⟩
/-- TIME_STATUS [0] VALID. -/
def F.TIME_STATUS_VALID : RegField := ⟨.TIME_STATUS, 0, 0⟩
/-- TIME_STATUS [1] FIRST. -/
def F.TIME_STATUS_FIRST : RegField := ⟨.TIME_STATUS, 1, 1⟩
/-- TIME_STATUS [2] REFUSED. -/
def F.TIME_STATUS_REFUSED : RegField := ⟨.TIME_STATUS, 2, 2⟩
/-- TIME_STATUS [3] ADJ_SAT. -/
def F.TIME_STATUS_ADJ_SAT : RegField := ⟨.TIME_STATUS, 3, 3⟩
/-- TIME_STATUS [31:16] STEPS. -/
def F.TIME_STATUS_STEPS : RegField := ⟨.TIME_STATUS, 31, 16⟩
/-- TIME_TRIG_SEL [1:0] TRIG. -/
def F.TIME_TRIG_SEL_TRIG : RegField := ⟨.TIME_TRIG_SEL, 1, 0⟩
/-- TIME_TRIG_CFG [2:0] ACTION. -/
def F.TIME_TRIG_CFG_ACTION : RegField := ⟨.TIME_TRIG_CFG, 2, 0⟩
/-- TIME_TRIG_SEC_LO [31:0] SEC. -/
def F.TIME_TRIG_SEC_LO_SEC : RegField := ⟨.TIME_TRIG_SEC_LO, 31, 0⟩
/-- TIME_TRIG_SEC_HI [15:0] SEC. -/
def F.TIME_TRIG_SEC_HI_SEC : RegField := ⟨.TIME_TRIG_SEC_HI, 15, 0⟩
/-- TIME_TRIG_NS [29:0] NS. -/
def F.TIME_TRIG_NS_NS : RegField := ⟨.TIME_TRIG_NS, 29, 0⟩
/-- TIME_TRIG_CMD [1:0] CMD. -/
def F.TIME_TRIG_CMD_CMD : RegField := ⟨.TIME_TRIG_CMD, 1, 0⟩
/-- TIME_TRIG_STATUS [0] ARMED. -/
def F.TIME_TRIG_STATUS_ARMED : RegField := ⟨.TIME_TRIG_STATUS, 0, 0⟩
/-- TIME_TRIG_STATUS [1] FIRED. -/
def F.TIME_TRIG_STATUS_FIRED : RegField := ⟨.TIME_TRIG_STATUS, 1, 1⟩
/-- TIME_TRIG_STATUS [2] STEPPED. -/
def F.TIME_TRIG_STATUS_STEPPED : RegField := ⟨.TIME_TRIG_STATUS, 2, 2⟩
/-- TIME_TRIG_STATUS [3] PAST. -/
def F.TIME_TRIG_STATUS_PAST : RegField := ⟨.TIME_TRIG_STATUS, 3, 3⟩
/-- TIME_PPS_CFG [0] OUT_EN. -/
def F.TIME_PPS_CFG_OUT_EN : RegField := ⟨.TIME_PPS_CFG, 0, 0⟩
/-- TIME_PPS_CFG [15:1] WIDTH_US. -/
def F.TIME_PPS_CFG_WIDTH_US : RegField := ⟨.TIME_PPS_CFG, 15, 1⟩
/-- TIME_PPS_OFFSET [29:0] NS. -/
def F.TIME_PPS_OFFSET_NS : RegField := ⟨.TIME_PPS_OFFSET, 29, 0⟩
/-- TIME_PPS_IN_SEC_LO [31:0] SEC. -/
def F.TIME_PPS_IN_SEC_LO_SEC : RegField := ⟨.TIME_PPS_IN_SEC_LO, 31, 0⟩
/-- TIME_PPS_IN_SEC_HI [15:0] SEC. -/
def F.TIME_PPS_IN_SEC_HI_SEC : RegField := ⟨.TIME_PPS_IN_SEC_HI, 15, 0⟩
/-- TIME_PPS_IN_SEC_HI [31:16] FRAC. -/
def F.TIME_PPS_IN_SEC_HI_FRAC : RegField := ⟨.TIME_PPS_IN_SEC_HI, 31, 16⟩
/-- TIME_PPS_IN_NS [29:0] NS. -/
def F.TIME_PPS_IN_NS_NS : RegField := ⟨.TIME_PPS_IN_NS, 29, 0⟩
/-- TIME_PPS_IN_SEQ [31:0] SEQ. -/
def F.TIME_PPS_IN_SEQ_SEQ : RegField := ⟨.TIME_PPS_IN_SEQ, 31, 0⟩
/-- HBM_HASH_SEL [3:0] SEL. -/
def F.HBM_HASH_SEL_SEL : RegField := ⟨.HBM_HASH_SEL, 3, 0⟩
/-- HBM_HASH_SEL [4] VIEW. -/
def F.HBM_HASH_SEL_VIEW : RegField := ⟨.HBM_HASH_SEL, 4, 4⟩
/-- HBM_CMD [0] REMAP. -/
def F.HBM_CMD_REMAP : RegField := ⟨.HBM_CMD, 0, 0⟩
/-- HBM_HASH_MASK_LO [31:0] MASK. -/
def F.HBM_HASH_MASK_LO_MASK : RegField := ⟨.HBM_HASH_MASK_LO, 31, 0⟩
/-- HBM_HASH_MASK_HI [3:0] MASK. -/
def F.HBM_HASH_MASK_HI_MASK : RegField := ⟨.HBM_HASH_MASK_HI, 3, 0⟩
/-- HBM_RH_CFG [15:0] THRESHOLD. -/
def F.HBM_RH_CFG_THRESHOLD : RegField := ⟨.HBM_RH_CFG, 15, 0⟩
/-- HBM_RH_CFG [23:16] WINDOW_MS. -/
def F.HBM_RH_CFG_WINDOW_MS : RegField := ⟨.HBM_RH_CFG, 23, 16⟩
/-- HBM_RH_CFG [31:24] SAMPLE. -/
def F.HBM_RH_CFG_SAMPLE : RegField := ⟨.HBM_RH_CFG, 31, 24⟩
/-- HBM_RH_HOLD [15:0] HOLD_US. -/
def F.HBM_RH_HOLD_HOLD_US : RegField := ⟨.HBM_RH_HOLD, 15, 0⟩
/-- HBM_RH_HOLD [31:16] GAP_NS. -/
def F.HBM_RH_HOLD_GAP_NS : RegField := ⟨.HBM_RH_HOLD, 31, 16⟩
/-- HBM_CE_THRESH [31:0] COUNT. -/
def F.HBM_CE_THRESH_COUNT : RegField := ⟨.HBM_CE_THRESH, 31, 0⟩
/-- HBM_PC_SEL [5:0] PC. -/
def F.HBM_PC_SEL_PC : RegField := ⟨.HBM_PC_SEL, 5, 0⟩
/-- HBM_SCRUB_BASE_LO [31:0] ADDR. -/
def F.HBM_SCRUB_BASE_LO_ADDR : RegField := ⟨.HBM_SCRUB_BASE_LO, 31, 0⟩
/-- HBM_SCRUB_BASE_HI [3:0] ADDR. -/
def F.HBM_SCRUB_BASE_HI_ADDR : RegField := ⟨.HBM_SCRUB_BASE_HI, 3, 0⟩
/-- HBM_SCRUB_SIZE_LO [31:0] SIZE. -/
def F.HBM_SCRUB_SIZE_LO_SIZE : RegField := ⟨.HBM_SCRUB_SIZE_LO, 31, 0⟩
/-- HBM_SCRUB_SIZE_HI [3:0] SIZE. -/
def F.HBM_SCRUB_SIZE_HI_SIZE : RegField := ⟨.HBM_SCRUB_SIZE_HI, 3, 0⟩
/-- HBM_SCRUB_CFG [7:0] RATE. -/
def F.HBM_SCRUB_CFG_RATE : RegField := ⟨.HBM_SCRUB_CFG, 7, 0⟩
/-- HBM_SCRUB_CFG [8] REPAIR. -/
def F.HBM_SCRUB_CFG_REPAIR : RegField := ⟨.HBM_SCRUB_CFG, 8, 8⟩
/-- HBM_SCRUB_CFG [23:16] SLOT. -/
def F.HBM_SCRUB_CFG_SLOT : RegField := ⟨.HBM_SCRUB_CFG, 23, 16⟩
/-- HBM_SCRUB_CMD [1:0] CMD. -/
def F.HBM_SCRUB_CMD_CMD : RegField := ⟨.HBM_SCRUB_CMD, 1, 0⟩
/-- HBM_INJECT_LO [31:0] ADDR. -/
def F.HBM_INJECT_LO_ADDR : RegField := ⟨.HBM_INJECT_LO, 31, 0⟩
/-- HBM_INJECT_HI [3:0] ADDR. -/
def F.HBM_INJECT_HI_ADDR : RegField := ⟨.HBM_INJECT_HI, 3, 0⟩
/-- HBM_INJECT_CMD [1:0] MODE. -/
def F.HBM_INJECT_CMD_MODE : RegField := ⟨.HBM_INJECT_CMD, 1, 0⟩
/-- HBM_STATUS [0] FILL_BUSY. -/
def F.HBM_STATUS_FILL_BUSY : RegField := ⟨.HBM_STATUS, 0, 0⟩
/-- HBM_STATUS [1] SCRUB_BUSY. -/
def F.HBM_STATUS_SCRUB_BUSY : RegField := ⟨.HBM_STATUS, 1, 1⟩
/-- HBM_STATUS [2] INJECT_ARMED. -/
def F.HBM_STATUS_INJECT_ARMED : RegField := ⟨.HBM_STATUS, 2, 2⟩
/-- HBM_STATUS [4:3] RATE0. -/
def F.HBM_STATUS_RATE0 : RegField := ⟨.HBM_STATUS, 4, 3⟩
/-- HBM_STATUS [6:5] RATE1. -/
def F.HBM_STATUS_RATE1 : RegField := ⟨.HBM_STATUS, 6, 5⟩
/-- HBM_STATUS [7] HOT. -/
def F.HBM_STATUS_HOT : RegField := ⟨.HBM_STATUS, 7, 7⟩
/-- HBM_STATUS [8] PC_FAILED. -/
def F.HBM_STATUS_PC_FAILED : RegField := ⟨.HBM_STATUS, 8, 8⟩
/-- HBM_TEMP [7:0] STACK0. -/
def F.HBM_TEMP_STACK0 : RegField := ⟨.HBM_TEMP, 7, 0⟩
/-- HBM_TEMP [15:8] STACK1. -/
def F.HBM_TEMP_STACK1 : RegField := ⟨.HBM_TEMP, 15, 8⟩
/-- HBM_PC_STATUS [0] FAILED. -/
def F.HBM_PC_STATUS_FAILED : RegField := ⟨.HBM_PC_STATUS, 0, 0⟩
/-- HBM_PC_CE_COUNT [31:0] COUNT. -/
def F.HBM_PC_CE_COUNT_COUNT : RegField := ⟨.HBM_PC_CE_COUNT, 31, 0⟩
/-- HBM_PC_DELAY0 [31:0] ENTRY. -/
def F.HBM_PC_DELAY0_ENTRY : RegField := ⟨.HBM_PC_DELAY0, 31, 0⟩
/-- HBM_PC_DELAY1 [31:0] ENTRY. -/
def F.HBM_PC_DELAY1_ENTRY : RegField := ⟨.HBM_PC_DELAY1, 31, 0⟩
/-- HBM_PC_DELAY2 [31:0] ENTRY. -/
def F.HBM_PC_DELAY2_ENTRY : RegField := ⟨.HBM_PC_DELAY2, 31, 0⟩
/-- HBM_PC_DELAY3 [31:0] ENTRY. -/
def F.HBM_PC_DELAY3_ENTRY : RegField := ⟨.HBM_PC_DELAY3, 31, 0⟩
/-- HBM_CE_COUNT [31:0] COUNT. -/
def F.HBM_CE_COUNT_COUNT : RegField := ⟨.HBM_CE_COUNT, 31, 0⟩
/-- HBM_UE_COUNT [31:0] COUNT. -/
def F.HBM_UE_COUNT_COUNT : RegField := ⟨.HBM_UE_COUNT, 31, 0⟩
/-- HBM_AF_COUNT [31:0] COUNT. -/
def F.HBM_AF_COUNT_COUNT : RegField := ⟨.HBM_AF_COUNT, 31, 0⟩
/-- HBM_SRAM_CE_COUNT [31:0] COUNT. -/
def F.HBM_SRAM_CE_COUNT_COUNT : RegField := ⟨.HBM_SRAM_CE_COUNT, 31, 0⟩
/-- HBM_SRAM_UE_COUNT [31:0] COUNT. -/
def F.HBM_SRAM_UE_COUNT_COUNT : RegField := ⟨.HBM_SRAM_UE_COUNT, 31, 0⟩
/-- HBM_ERR_LOG_ADDR_LO [31:0] ADDR. -/
def F.HBM_ERR_LOG_ADDR_LO_ADDR : RegField := ⟨.HBM_ERR_LOG_ADDR_LO, 31, 0⟩
/-- HBM_ERR_LOG_ADDR_HI [3:0] ADDR. -/
def F.HBM_ERR_LOG_ADDR_HI_ADDR : RegField := ⟨.HBM_ERR_LOG_ADDR_HI, 3, 0⟩
/-- HBM_ERR_LOG_INFO [15:0] SYNDROME. -/
def F.HBM_ERR_LOG_INFO_SYNDROME : RegField := ⟨.HBM_ERR_LOG_INFO, 15, 0⟩
/-- HBM_ERR_LOG_INFO [17:16] CLASS. -/
def F.HBM_ERR_LOG_INFO_CLASS : RegField := ⟨.HBM_ERR_LOG_INFO, 17, 16⟩
/-- HBM_ERR_LOG_INFO [25:18] SOURCE. -/
def F.HBM_ERR_LOG_INFO_SOURCE : RegField := ⟨.HBM_ERR_LOG_INFO, 25, 18⟩
/-- HBM_ERR_LOG_INFO [31] VALID. -/
def F.HBM_ERR_LOG_INFO_VALID : RegField := ⟨.HBM_ERR_LOG_INFO, 31, 31⟩
/-- HBM_RH_LOG_SEL [3:0] ENTRY. -/
def F.HBM_RH_LOG_SEL_ENTRY : RegField := ⟨.HBM_RH_LOG_SEL, 3, 0⟩
/-- HBM_RH_LOG_ADDR_LO [31:0] ADDR. -/
def F.HBM_RH_LOG_ADDR_LO_ADDR : RegField := ⟨.HBM_RH_LOG_ADDR_LO, 31, 0⟩
/-- HBM_RH_LOG_ADDR_HI [3:0] ADDR. -/
def F.HBM_RH_LOG_ADDR_HI_ADDR : RegField := ⟨.HBM_RH_LOG_ADDR_HI, 3, 0⟩
/-- HBM_RH_LOG_INFO [7:0] SOURCE. -/
def F.HBM_RH_LOG_INFO_SOURCE : RegField := ⟨.HBM_RH_LOG_INFO, 7, 0⟩
/-- HBM_RH_LOG_INFO [8] THROTTLED. -/
def F.HBM_RH_LOG_INFO_THROTTLED : RegField := ⟨.HBM_RH_LOG_INFO, 8, 8⟩
/-- HBM_RH_LOG_INFO [16:9] SHARE. -/
def F.HBM_RH_LOG_INFO_SHARE : RegField := ⟨.HBM_RH_LOG_INFO, 16, 9⟩
/-- HBM_RH_LOG_INFO [31] VALID. -/
def F.HBM_RH_LOG_INFO_VALID : RegField := ⟨.HBM_RH_LOG_INFO, 31, 31⟩
/-- HBM_RH_EVENTS [31:0] COUNT. -/
def F.HBM_RH_EVENTS_COUNT : RegField := ⟨.HBM_RH_EVENTS, 31, 0⟩
/-- HBM_RH_LOG_TIME_LO [31:0] N. -/
def F.HBM_RH_LOG_TIME_LO_N : RegField := ⟨.HBM_RH_LOG_TIME_LO, 31, 0⟩
/-- HBM_RH_LOG_TIME_HI [31:0] N. -/
def F.HBM_RH_LOG_TIME_HI_N : RegField := ⟨.HBM_RH_LOG_TIME_HI, 31, 0⟩
/-- DMA_ACTIVE [15:0] MASK. -/
def F.DMA_ACTIVE_MASK : RegField := ⟨.DMA_ACTIVE, 15, 0⟩
/-- DMA_IN_FLIGHT [11:0] COUNT. -/
def F.DMA_IN_FLIGHT_COUNT : RegField := ⟨.DMA_IN_FLIGHT, 11, 0⟩
/-- DMA_BYTES_LO [31:0] COUNT. -/
def F.DMA_BYTES_LO_COUNT : RegField := ⟨.DMA_BYTES_LO, 31, 0⟩
/-- DMA_BYTES_HI [31:0] COUNT. -/
def F.DMA_BYTES_HI_COUNT : RegField := ⟨.DMA_BYTES_HI, 31, 0⟩
/-- DMA_PTP_DROP [31:0] COUNT. -/
def F.DMA_PTP_DROP_COUNT : RegField := ⟨.DMA_PTP_DROP, 31, 0⟩
/-- RING_SEL [5:0] RING. -/
def F.RING_SEL_RING : RegField := ⟨.RING_SEL, 5, 0⟩
/-- RING_SLOT_SEL [7:0] SLOT. -/
def F.RING_SLOT_SEL_SLOT : RegField := ⟨.RING_SLOT_SEL, 7, 0⟩
/-- RING_GRANT_SEL [2:0] GROUP. -/
def F.RING_GRANT_SEL_GROUP : RegField := ⟨.RING_GRANT_SEL, 2, 0⟩
/-- RING_GRANT [0] ENABLE. -/
def F.RING_GRANT_ENABLE : RegField := ⟨.RING_GRANT, 0, 0⟩
/-- RING_GRANT [15:8] OPMASK. -/
def F.RING_GRANT_OPMASK : RegField := ⟨.RING_GRANT, 15, 8⟩
/-- RING_GRANT_BASE [5:0] BASE_GB. -/
def F.RING_GRANT_BASE_BASE_GB : RegField := ⟨.RING_GRANT_BASE, 5, 0⟩
/-- RING_GRANT_SIZE [5:0] SIZE_GB. -/
def F.RING_GRANT_SIZE_SIZE_GB : RegField := ⟨.RING_GRANT_SIZE, 5, 0⟩
/-- RING_BASE_LO [31:0] ADDR. -/
def F.RING_BASE_LO_ADDR : RegField := ⟨.RING_BASE_LO, 31, 0⟩
/-- RING_BASE_HI [31:0] ADDR. -/
def F.RING_BASE_HI_ADDR : RegField := ⟨.RING_BASE_HI, 31, 0⟩
/-- RING_CFG [3:0] LOG2_SIZE. -/
def F.RING_CFG_LOG2_SIZE : RegField := ⟨.RING_CFG, 3, 0⟩
/-- RING_CFG [4] LOC. -/
def F.RING_CFG_LOC : RegField := ⟨.RING_CFG, 4, 4⟩
/-- RING_TAIL [15:0] TAIL. -/
def F.RING_TAIL_TAIL : RegField := ⟨.RING_TAIL, 15, 0⟩
/-- RING_HEAD [15:0] HEAD. -/
def F.RING_HEAD_HEAD : RegField := ⟨.RING_HEAD, 15, 0⟩
/-- RING_HEAD [31:16] DONE. -/
def F.RING_HEAD_DONE : RegField := ⟨.RING_HEAD, 31, 16⟩
/-- RING_STATUS [1:0] STATE. -/
def F.RING_STATUS_STATE : RegField := ⟨.RING_STATUS, 1, 0⟩
/-- RING_STATUS [2] WAIT_SLOT. -/
def F.RING_STATUS_WAIT_SLOT : RegField := ⟨.RING_STATUS, 2, 2⟩
/-- RING_STATUS [8:3] IN_FLIGHT. -/
def F.RING_STATUS_IN_FLIGHT : RegField := ⟨.RING_STATUS, 8, 3⟩
/-- RING_STATUS [31:16] STOP_CODE. -/
def F.RING_STATUS_STOP_CODE : RegField := ⟨.RING_STATUS, 31, 16⟩
/-- RING_CMD [2:0] CMD. -/
def F.RING_CMD_CMD : RegField := ⟨.RING_CMD, 2, 0⟩
/-- RING_SLOT_STATUS [15:0] SEQ. -/
def F.RING_SLOT_STATUS_SEQ : RegField := ⟨.RING_SLOT_STATUS, 15, 0⟩
/-- RING_SLOT_STATUS [16] VALID. -/
def F.RING_SLOT_STATUS_VALID : RegField := ⟨.RING_SLOT_STATUS, 16, 16⟩
/-- RING_SLOT_STATUS [17] BUSY. -/
def F.RING_SLOT_STATUS_BUSY : RegField := ⟨.RING_SLOT_STATUS, 17, 17⟩
/-- RING_SLOT_STATUS [31:24] SOURCE. -/
def F.RING_SLOT_STATUS_SOURCE : RegField := ⟨.RING_SLOT_STATUS, 31, 24⟩
/-- RING_SLOT_TAG [31:0] TAG. -/
def F.RING_SLOT_TAG_TAG : RegField := ⟨.RING_SLOT_TAG, 31, 0⟩
/-- RING_SLOT_RELEASE [15:0] SEQ. -/
def F.RING_SLOT_RELEASE_SEQ : RegField := ⟨.RING_SLOT_RELEASE, 15, 0⟩
/-- RING_SLOT_DATA [31:0] WORD. -/
def F.RING_SLOT_DATA_WORD : RegField := ⟨.RING_SLOT_DATA, 31, 0⟩
/-- CHECK_SEL [3:0] UNIT. -/
def F.CHECK_SEL_UNIT : RegField := ⟨.CHECK_SEL, 3, 0⟩
/-- CHECK_CFG [5:0] WIDTH. -/
def F.CHECK_CFG_WIDTH : RegField := ⟨.CHECK_CFG, 5, 0⟩
/-- CHECK_CFG [6] REFIN. -/
def F.CHECK_CFG_REFIN : RegField := ⟨.CHECK_CFG, 6, 6⟩
/-- CHECK_CFG [7] REFOUT. -/
def F.CHECK_CFG_REFOUT : RegField := ⟨.CHECK_CFG, 7, 7⟩
/-- CHECK_CFG [9:8] FOLD. -/
def F.CHECK_CFG_FOLD : RegField := ⟨.CHECK_CFG, 9, 8⟩
/-- CHECK_CFG [10] AUTO_INC. -/
def F.CHECK_CFG_AUTO_INC : RegField := ⟨.CHECK_CFG, 10, 10⟩
/-- CHECK_CFG [13:11] PRESET. -/
def F.CHECK_CFG_PRESET : RegField := ⟨.CHECK_CFG, 13, 11⟩
/-- CHECK_POLY [31:0] POLY. -/
def F.CHECK_POLY_POLY : RegField := ⟨.CHECK_POLY, 31, 0⟩
/-- CHECK_INIT [31:0] INIT. -/
def F.CHECK_INIT_INIT : RegField := ⟨.CHECK_INIT, 31, 0⟩
/-- CHECK_XOROUT [31:0] XOROUT. -/
def F.CHECK_XOROUT_XOROUT : RegField := ⟨.CHECK_XOROUT, 31, 0⟩
/-- CHECK_SEQ [31:0] SEQ. -/
def F.CHECK_SEQ_SEQ : RegField := ⟨.CHECK_SEQ, 31, 0⟩
/-- CHECK_BASE_LO [31:0] ADDR. -/
def F.CHECK_BASE_LO_ADDR : RegField := ⟨.CHECK_BASE_LO, 31, 0⟩
/-- CHECK_BASE_HI [3:0] ADDR. -/
def F.CHECK_BASE_HI_ADDR : RegField := ⟨.CHECK_BASE_HI, 3, 0⟩
/-- CHECK_SIZE_LO [31:0] SIZE. -/
def F.CHECK_SIZE_LO_SIZE : RegField := ⟨.CHECK_SIZE_LO, 31, 0⟩
/-- CHECK_SIZE_HI [3:0] SIZE. -/
def F.CHECK_SIZE_HI_SIZE : RegField := ⟨.CHECK_SIZE_HI, 3, 0⟩
/-- CHECK_EXPECT [31:0] VALUE. -/
def F.CHECK_EXPECT_VALUE : RegField := ⟨.CHECK_EXPECT, 31, 0⟩
/-- CHECK_CMD [2:0] CMD. -/
def F.CHECK_CMD_CMD : RegField := ⟨.CHECK_CMD, 2, 0⟩
/-- CHECK_RESULT [31:0] VALUE. -/
def F.CHECK_RESULT_VALUE : RegField := ⟨.CHECK_RESULT, 31, 0⟩
/-- CHECK_STATUS [0] BUSY. -/
def F.CHECK_STATUS_BUSY : RegField := ⟨.CHECK_STATUS, 0, 0⟩
/-- CHECK_STATUS [1] CLAIMED. -/
def F.CHECK_STATUS_CLAIMED : RegField := ⟨.CHECK_STATUS, 1, 1⟩
/-- CHECK_STATUS [4:2] OUTCOME. -/
def F.CHECK_STATUS_OUTCOME : RegField := ⟨.CHECK_STATUS, 4, 2⟩
/-- CHECK_STATUS [31:16] MISMATCHES. -/
def F.CHECK_STATUS_MISMATCHES : RegField := ⟨.CHECK_STATUS, 31, 16⟩
/-- CHECK_LEN_LO [31:0] LEN. -/
def F.CHECK_LEN_LO_LEN : RegField := ⟨.CHECK_LEN_LO, 31, 0⟩
/-- CHECK_LEN_HI [3:0] LEN. -/
def F.CHECK_LEN_HI_LEN : RegField := ⟨.CHECK_LEN_HI, 3, 0⟩
/-- CLOCK_PLL_SEL [2:0] PLL. -/
def F.CLOCK_PLL_SEL_PLL : RegField := ⟨.CLOCK_PLL_SEL, 2, 0⟩
/-- CLOCK_PLL_STATUS [0] LOCKED. -/
def F.CLOCK_PLL_STATUS_LOCKED : RegField := ⟨.CLOCK_PLL_STATUS, 0, 0⟩
/-- CLOCK_PLL_STATUS [31:16] UNLOCKS. -/
def F.CLOCK_PLL_STATUS_UNLOCKS : RegField := ⟨.CLOCK_PLL_STATUS, 31, 16⟩
/-- CLOCK_ISLAND_SEL [4:0] ISLAND. -/
def F.CLOCK_ISLAND_SEL_ISLAND : RegField := ⟨.CLOCK_ISLAND_SEL, 4, 0⟩
/-- CLOCK_ISLAND_FREQ [20:0] KHZ. -/
def F.CLOCK_ISLAND_FREQ_KHZ : RegField := ⟨.CLOCK_ISLAND_FREQ, 20, 0⟩
/-- CLOCK_ISLAND_STATUS [0] IN_RESET. -/
def F.CLOCK_ISLAND_STATUS_IN_RESET : RegField := ⟨.CLOCK_ISLAND_STATUS, 0, 0⟩
/-- CLOCK_ISLAND_STATUS [1] FREQ_BAD. -/
def F.CLOCK_ISLAND_STATUS_FREQ_BAD : RegField := ⟨.CLOCK_ISLAND_STATUS, 1, 1⟩
/-- CLOCK_XING_SEL [6:0] XING. -/
def F.CLOCK_XING_SEL_XING : RegField := ⟨.CLOCK_XING_SEL, 6, 0⟩
/-- CLOCK_XING_INFO [4:0] SRC. -/
def F.CLOCK_XING_INFO_SRC : RegField := ⟨.CLOCK_XING_INFO, 4, 0⟩
/-- CLOCK_XING_INFO [9:5] DST. -/
def F.CLOCK_XING_INFO_DST : RegField := ⟨.CLOCK_XING_INFO, 9, 5⟩
/-- CLOCK_XING_INFO [11:10] KIND. -/
def F.CLOCK_XING_INFO_KIND : RegField := ⟨.CLOCK_XING_INFO, 11, 10⟩
/-- CLOCK_XING_STATUS [0] PEER_IN_RESET. -/
def F.CLOCK_XING_STATUS_PEER_IN_RESET : RegField := ⟨.CLOCK_XING_STATUS, 0, 0⟩
/-- CLOCK_XING_STATUS [1] OPEN. -/
def F.CLOCK_XING_STATUS_OPEN : RegField := ⟨.CLOCK_XING_STATUS, 1, 1⟩
/-- CLOCK_XING_STATUS [2] SAT. -/
def F.CLOCK_XING_STATUS_SAT : RegField := ⟨.CLOCK_XING_STATUS, 2, 2⟩
/-- CLOCK_XING_DISCARD [31:0] COUNT. -/
def F.CLOCK_XING_DISCARD_COUNT : RegField := ⟨.CLOCK_XING_DISCARD, 31, 0⟩
/-- POWER_CFG [0] HUSH_EN. -/
def F.POWER_CFG_HUSH_EN : RegField := ⟨.POWER_CFG, 0, 0⟩
/-- POWER_CFG [1] DORMANT_EN. -/
def F.POWER_CFG_DORMANT_EN : RegField := ⟨.POWER_CFG, 1, 1⟩
/-- POWER_CFG [31:16] HUSH_IDLE_US. -/
def F.POWER_CFG_HUSH_IDLE_US : RegField := ⟨.POWER_CFG, 31, 16⟩
/-- POWER_DORMANT_IDLE [15:0] MS. -/
def F.POWER_DORMANT_IDLE_MS : RegField := ⟨.POWER_DORMANT_IDLE, 15, 0⟩
/-- POWER_CMD [1:0] CMD. -/
def F.POWER_CMD_CMD : RegField := ⟨.POWER_CMD, 1, 0⟩
/-- POWER_WAKE_EN [7:3] EN. -/
def F.POWER_WAKE_EN_EN : RegField := ⟨.POWER_WAKE_EN, 7, 3⟩
/-- POWER_CAP [10:0] CAP. -/
def F.POWER_CAP_CAP : RegField := ⟨.POWER_CAP, 10, 0⟩
/-- POWER_OP_MAX [11:0] OP. -/
def F.POWER_OP_MAX_OP : RegField := ⟨.POWER_OP_MAX, 11, 0⟩
/-- POWER_PMBUS_CFG [6:0] ADDR. -/
def F.POWER_PMBUS_CFG_ADDR : RegField := ⟨.POWER_PMBUS_CFG, 6, 0⟩
/-- POWER_PMBUS_CFG [25:16] SETTLE_US. -/
def F.POWER_PMBUS_CFG_SETTLE_US : RegField := ⟨.POWER_PMBUS_CFG, 25, 16⟩
/-- POWER_STATE [1:0] STATE. -/
def F.POWER_STATE_STATE : RegField := ⟨.POWER_STATE, 1, 0⟩
/-- POWER_STATE [3:2] TRANSIT. -/
def F.POWER_STATE_TRANSIT : RegField := ⟨.POWER_STATE, 3, 2⟩
/-- POWER_STATE [4] PMBUS_FAIL. -/
def F.POWER_STATE_PMBUS_FAIL : RegField := ⟨.POWER_STATE, 4, 4⟩
/-- POWER_WAKE_STATUS [7:0] SRC. -/
def F.POWER_WAKE_STATUS_SRC : RegField := ⟨.POWER_WAKE_STATUS, 7, 0⟩
/-- POWER_REFUSE_COUNT [31:0] COUNT. -/
def F.POWER_REFUSE_COUNT_COUNT : RegField := ⟨.POWER_REFUSE_COUNT, 31, 0⟩
/-- POWER_ABORT_COUNT [31:0] COUNT. -/
def F.POWER_ABORT_COUNT_COUNT : RegField := ⟨.POWER_ABORT_COUNT, 31, 0⟩
/-- POWER_LAST_REFUSAL [3:0] REFUSER. -/
def F.POWER_LAST_REFUSAL_REFUSER : RegField := ⟨.POWER_LAST_REFUSAL, 3, 0⟩
/-- POWER_LAST_REFUSAL [5:4] TARGET. -/
def F.POWER_LAST_REFUSAL_TARGET : RegField := ⟨.POWER_LAST_REFUSAL, 5, 4⟩
/-- POWER_LAST_REFUSAL [13:6] WAKE_SRC. -/
def F.POWER_LAST_REFUSAL_WAKE_SRC : RegField := ⟨.POWER_LAST_REFUSAL, 13, 6⟩
/-- POWER_ISLAND_SEL [4:0] ISLAND. -/
def F.POWER_ISLAND_SEL_ISLAND : RegField := ⟨.POWER_ISLAND_SEL, 4, 0⟩
/-- POWER_ISLAND_STATE [1:0] STATE. -/
def F.POWER_ISLAND_STATE_STATE : RegField := ⟨.POWER_ISLAND_STATE, 1, 0⟩
/-- POWER_OP_STATUS [11:0] OP. -/
def F.POWER_OP_STATUS_OP : RegField := ⟨.POWER_OP_STATUS, 11, 0⟩
/-- POWER_OP_STATUS [31:16] RAIL_MV. -/
def F.POWER_OP_STATUS_RAIL_MV : RegField := ⟨.POWER_OP_STATUS, 31, 16⟩
/-- POWER_AON_LOAD [7:0] LOAD. -/
def F.POWER_AON_LOAD_LOAD : RegField := ⟨.POWER_AON_LOAD, 7, 0⟩
/-- POWER_AON_CAUSE [0] BROWNOUT_NORMAL. -/
def F.POWER_AON_CAUSE_BROWNOUT_NORMAL : RegField := ⟨.POWER_AON_CAUSE, 0, 0⟩
/-- POWER_AON_CAUSE [1] BROWNOUT_LP. -/
def F.POWER_AON_CAUSE_BROWNOUT_LP : RegField := ⟨.POWER_AON_CAUSE, 1, 1⟩
/-- POWER_AON_CAUSE [3:2] STATE. -/
def F.POWER_AON_CAUSE_STATE : RegField := ⟨.POWER_AON_CAUSE, 3, 2⟩
/-- POWER_EST [10:0] FIXED. -/
def F.POWER_EST_FIXED : RegField := ⟨.POWER_EST, 10, 0⟩
/-- POWER_EST [21:11] GRANTED. -/
def F.POWER_EST_GRANTED : RegField := ⟨.POWER_EST, 21, 11⟩
/-- POWER_THROTTLE_SEL [1:0] CLASS. -/
def F.POWER_THROTTLE_SEL_CLASS : RegField := ⟨.POWER_THROTTLE_SEL, 1, 0⟩
/-- POWER_THROTTLE_COUNT [31:0] COUNT. -/
def F.POWER_THROTTLE_COUNT_COUNT : RegField := ⟨.POWER_THROTTLE_COUNT, 31, 0⟩
/-- SNAP_CMD [1:0] CMD. -/
def F.SNAP_CMD_CMD : RegField := ⟨.SNAP_CMD, 1, 0⟩
/-- SNAP_CFG [4:0] SRC_EN. -/
def F.SNAP_CFG_SRC_EN : RegField := ⟨.SNAP_CFG, 4, 0⟩
/-- SNAP_CFG [5] OVERWRITE. -/
def F.SNAP_CFG_OVERWRITE : RegField := ⟨.SNAP_CFG, 5, 5⟩
/-- SNAP_CFG [6] COLUMN. -/
def F.SNAP_CFG_COLUMN : RegField := ⟨.SNAP_CFG, 6, 6⟩
/-- SNAP_CFG [7] OUT_EN. -/
def F.SNAP_CFG_OUT_EN : RegField := ⟨.SNAP_CFG, 7, 7⟩
/-- SNAP_STATUS [0] HELD. -/
def F.SNAP_STATUS_HELD : RegField := ⟨.SNAP_STATUS, 0, 0⟩
/-- SNAP_STATUS [1] CAPTURING. -/
def F.SNAP_STATUS_CAPTURING : RegField := ⟨.SNAP_STATUS, 1, 1⟩
/-- SNAP_STATUS [31:16] SEQ. -/
def F.SNAP_STATUS_SEQ : RegField := ⟨.SNAP_STATUS, 31, 16⟩
/-- SNAP_MISSED [31:0] COUNT. -/
def F.SNAP_MISSED_COUNT : RegField := ⟨.SNAP_MISSED, 31, 0⟩
/-- SNAP_SEL [5:0] WORD. -/
def F.SNAP_SEL_WORD : RegField := ⟨.SNAP_SEL, 5, 0⟩
/-- SNAP_DATA [31:0] WORD. -/
def F.SNAP_DATA_WORD : RegField := ⟨.SNAP_DATA, 31, 0⟩
/-- FAULT_CODE_SEL [15:0] CODE. -/
def F.FAULT_CODE_SEL_CODE : RegField := ⟨.FAULT_CODE_SEL, 15, 0⟩
/-- FAULT_CODE_STATUS [0] RAISED. -/
def F.FAULT_CODE_STATUS_RAISED : RegField := ⟨.FAULT_CODE_STATUS, 0, 0⟩
/-- FAULT_CODE_STATUS [31:16] COUNT. -/
def F.FAULT_CODE_STATUS_COUNT : RegField := ⟨.FAULT_CODE_STATUS, 31, 16⟩
/-- FAULT_CODE_ACTION [0] IRQ. -/
def F.FAULT_CODE_ACTION_IRQ : RegField := ⟨.FAULT_CODE_ACTION, 0, 0⟩
/-- FAULT_CODE_ACTION [1] DAMP. -/
def F.FAULT_CODE_ACTION_DAMP : RegField := ⟨.FAULT_CODE_ACTION, 1, 1⟩
/-- FAULT_CODE_ACTION [2] RIMSHOT. -/
def F.FAULT_CODE_ACTION_RIMSHOT : RegField := ⟨.FAULT_CODE_ACTION, 2, 2⟩
/-- FAULT_FIRST [15:0] CODE. -/
def F.FAULT_FIRST_CODE : RegField := ⟨.FAULT_FIRST, 15, 0⟩
/-- FAULT_LOG_SEL [5:0] ENTRY. -/
def F.FAULT_LOG_SEL_ENTRY : RegField := ⟨.FAULT_LOG_SEL, 5, 0⟩
/-- FAULT_LOG_HEAD [5:0] NEXT. -/
def F.FAULT_LOG_HEAD_NEXT : RegField := ⟨.FAULT_LOG_HEAD, 5, 0⟩
/-- FAULT_LOG_HEAD [31:6] TOTAL. -/
def F.FAULT_LOG_HEAD_TOTAL : RegField := ⟨.FAULT_LOG_HEAD, 31, 6⟩
/-- FAULT_LOG_TIME_LO [31:0] N. -/
def F.FAULT_LOG_TIME_LO_N : RegField := ⟨.FAULT_LOG_TIME_LO, 31, 0⟩
/-- FAULT_LOG_TIME_HI [31:0] N. -/
def F.FAULT_LOG_TIME_HI_N : RegField := ⟨.FAULT_LOG_TIME_HI, 31, 0⟩
/-- FAULT_LOG_CODE [15:0] CODE. -/
def F.FAULT_LOG_CODE_CODE : RegField := ⟨.FAULT_LOG_CODE, 15, 0⟩
/-- FAULT_LOG_CODE [23:16] COUNT. -/
def F.FAULT_LOG_CODE_COUNT : RegField := ⟨.FAULT_LOG_CODE, 23, 16⟩
/-- FAULT_LOG_CODE [31] VALID. -/
def F.FAULT_LOG_CODE_VALID : RegField := ⟨.FAULT_LOG_CODE, 31, 31⟩
/-- FAULT_LOG_STAGE [31:0] T. -/
def F.FAULT_LOG_STAGE_T : RegField := ⟨.FAULT_LOG_STAGE, 31, 0⟩
/-- FAULT_STALL_CFG [15:0] LIMIT_US. -/
def F.FAULT_STALL_CFG_LIMIT_US : RegField := ⟨.FAULT_STALL_CFG, 15, 0⟩
/-- FAULT_STALL_CFG [16] RESET_EN. -/
def F.FAULT_STALL_CFG_RESET_EN : RegField := ⟨.FAULT_STALL_CFG, 16, 16⟩
/-- FAULT_STALL_STATUS [23:0] ISLANDS. -/
def F.FAULT_STALL_STATUS_ISLANDS : RegField := ⟨.FAULT_STALL_STATUS, 23, 0⟩
/-- FAULT_TEMP [11:0] TJ. -/
def F.FAULT_TEMP_TJ : RegField := ⟨.FAULT_TEMP, 11, 0⟩
/-- FAULT_TEMP [13:12] LEVEL. -/
def F.FAULT_TEMP_LEVEL : RegField := ⟨.FAULT_TEMP, 13, 12⟩
/-- FAULT_TRIP_CAUSE [0] TRIP. -/
def F.FAULT_TRIP_CAUSE_TRIP : RegField := ⟨.FAULT_TRIP_CAUSE, 0, 0⟩
/-- TL_SEL [1:0] PERS. -/
def F.TL_SEL_PERS : RegField := ⟨.TL_SEL, 1, 0⟩
/-- TL_PEEK [31:0] STATUS. -/
def F.TL_PEEK_STATUS : RegField := ⟨.TL_PEEK, 31, 0⟩

end Sys2Proof.Machine
end

