-- ==== Sys2Proof/Machine/RegMap.lean ====
section
/-! DEFINITION. Where every register stands (Table 21-6 over the block bases of Table 21-2), which of its bits host
software may write (RW) or clear (W1C), what it holds after a reset, and whether it is lockable (the (L) marks, R612). -/

namespace Sys2Proof.Machine

/-- BAR0 offset of a register (Tables 21-2 and 21-6). -/
def Reg.offset (r : Reg) : Nat :=
  match r with
  | .GLOBAL_IDENT => 0x000000
  | .GLOBAL_VERSION => 0x000004
  | .GLOBAL_TOPOLOGY => 0x000008
  | .GLOBAL_BOOT_STATUS => 0x00000C
  | .GLOBAL_RESET_CAUSE => 0x000010
  | .GLOBAL_RESET_CMD => 0x000014
  | .GLOBAL_SCRATCH => 0x000018
  | .GLOBAL_ACCESS_LOG => 0x000020
  | .GLOBAL_ACCESS_COUNT => 0x000024
  | .GLOBAL_LOCK_SEL => 0x000028
  | .GLOBAL_LOCK_MASK => 0x00002C
  | .GLOBAL_LOCK_COUNT => 0x000030
  | .GLOBAL_FLASH_CFG => 0x000040
  | .GLOBAL_FLASH_ADDR => 0x000044
  | .GLOBAL_FLASH_CMD => 0x000048
  | .GLOBAL_FLASH_STATUS => 0x00004C
  | .GLOBAL_FLASH_DATA => 0x000100
  | .PRICK_CMD => 0x010000
  | .PRICK_STATUS => 0x010004
  | .PRICK_SRC_ADDR_LO => 0x010008
  | .PRICK_SRC_ADDR_HI => 0x01000C
  | .PRICK_SRC_SIZE => 0x010010
  | .PRICK_IMAGE_ID_LO => 0x010020
  | .PRICK_IMAGE_ID_HI => 0x010024
  | .PRICK_FUSE => 0x010028
  | .PRICK_PACKAGE_SERIAL => 0x01002C
  | .LACE_SCOPE_SEL => 0x020000
  | .LACE_CMD => 0x020004
  | .LACE_STREAM_ID => 0x020008
  | .LACE_SOURCE => 0x02000C
  | .LACE_BUF_BASE => 0x020010
  | .LACE_BUF_SIZE => 0x020014
  | .LACE_STATUS => 0x020020
  | .LACE_NEXT_SEQ => 0x020024
  | .LACE_LINES_READY => 0x020028
  | .LACE_REJECT_SEQ => 0x02002C
  | .LACE_REJECT_CODE => 0x020030
  | .LACE_REJECT_STITCH => 0x020034
  | .LACE_DROP_COUNT => 0x020038
  | .LACE_LIB_SEL => 0x020040
  | .LACE_LIB_SIZE => 0x020044
  | .LACE_LIB_BASE_LO => 0x020048
  | .LACE_LIB_BASE_HI => 0x02004C
  | .LACE_LIB_CRC => 0x020050
  | .LACE_LIB_CMD => 0x020054
  | .LACE_LIB_STATUS => 0x020060
  | .LACE_LIB_FAIL_OFFSET => 0x020064
  | .LACE_LIB_ID_LO => 0x020068
  | .LACE_LIB_ID_HI => 0x02006C
  | .BOB_PIPE_SEL => 0x030000
  | .BOB_CFG => 0x030004
  | .BOB_WATCHDOG => 0x030008
  | .BOB_DISABLE => 0x03000C
  | .BOB_FAIL_MASK => 0x030010
  | .BOB_IN_SERVICE => 0x030014
  | .BOB_BUSY => 0x030018
  | .BOB_UNIT_SEL => 0x03001C
  | .BOB_UNIT_STATUS => 0x030020
  | .BOB_LIVE_CFG => 0x030040
  | .BOB_LIVE_CAPACITY => 0x030044
  | .BOB_LIVE_PENDING => 0x030048
  | .BOB_TILE_ISSUED => 0x03004C
  | .BOB_TILE_DELIVERED => 0x030050
  | .BOB_CACHE_HITS => 0x030054
  | .BOB_CACHE_MISSES => 0x030058
  | .BOB_CROSSINGS_LO => 0x030060
  | .BOB_CROSSINGS_HI => 0x030064
  | .CORR_CFG => 0x040000
  | .CORR_NUM => 0x040004
  | .CORR_DEN => 0x040008
  | .CORR_PEND_BASE => 0x04000C
  | .CORR_PEND_SIZE => 0x040010
  | .CORR_FMAP_BASE => 0x040014
  | .CORR_FMAP_SIZE => 0x040018
  | .CORR_EDGING_TIMEOUT => 0x04001C
  | .CORR_EDGING_RETRY => 0x040020
  | .CORR_TERM_SEL => 0x040040
  | .CORR_TERM_GEOM => 0x040044
  | .CORR_TERM_COEF => 0x040048
  | .CORR_KERNEL_SEL => 0x04004C
  | .CORR_KERNEL_DATA => 0x040050
  | .CORR_PARAM_CRC => 0x040080
  | .CORR_REACH => 0x040084
  | .CORR_PARTNERS => 0x040088
  | .CORR_ROWS_FINAL => 0x04008C
  | .CORR_WAIT_MASK_LO => 0x040090
  | .CORR_WAIT_MASK_HI => 0x040094
  | .CORR_LOST_MASK_LO => 0x040098
  | .CORR_LOST_MASK_HI => 0x04009C
  | .CORR_SAT_STATUS => 0x0400A0
  | .CORR_DOSE_CLAMP_COUNT => 0x0400A4
  | .CORR_EDGING_BAD_COUNT => 0x0400A8
  | .CORR_EDGING_UNKNOWN_COUNT => 0x0400AC
  | .STORE_PIPE_SEL => 0x050000
  | .STORE_CFG => 0x050004
  | .STORE_BASE => 0x050008
  | .STORE_SIZE => 0x05000C
  | .STORE_LIVE_LEAD => 0x050010
  | .STORE_AHEAD_LIMIT => 0x050014
  | .STORE_MODE_SEL => 0x050018
  | .STORE_STATUS => 0x050040
  | .STORE_ROWS_VERIFIED => 0x050044
  | .STORE_DELIVERED => 0x050048
  | .STORE_LIVE_COUNT => 0x05004C
  | .STORE_LIVE_COST_MAX => 0x050050
  | .STORE_FEAS_SLACK => 0x050054
  | .STORE_FEAS_FAIL_ROW => 0x050058
  | .STORE_MODE_COUNT => 0x05005C
  | .STORE_VERIFY_FAIL_COUNT => 0x050060
  | .STORE_STALL_CYCLES => 0x050064
  | .PLAN_STRIPE_CMD => 0x060000
  | .PLAN_STRIPE_ID => 0x060004
  | .PLAN_STRIPE_LINES => 0x060008
  | .PLAN_STRIPE_CFG => 0x06000C
  | .PLAN_LOOKAHEAD => 0x060010
  | .PLAN_STRIPE_STATUS => 0x060014
  | .PLAN_ABORT_STRIPE => 0x060018
  | .PLAN_ABORT_WHERE => 0x06001C
  | .PLAN_ABORT_CAUSE => 0x060020
  | .PLAN_PASS_SEL => 0x060040
  | .PLAN_PASS_X => 0x060044
  | .PLAN_PASS_Y => 0x060048
  | .PLAN_PASS_FEED => 0x06004C
  | .PLAN_PASS_SHARE => 0x060050
  | .PLAN_DOSE_GAIN => 0x060054
  | .PLAN_SEAM_CFG => 0x060058
  | .PLAN_SEAM_BASE => 0x06005C
  | .PLAN_EXPOSE => 0x060060
  | .PLAN_DEFECT_SEL => 0x060080
  | .PLAN_DEFECT_DATA => 0x060084
  | .PLAN_SEAM_DEFECT_SEL => 0x060088
  | .PLAN_SEAM_DEFECT_DATA => 0x06008C
  | .PLAN_REMAP_SEL => 0x060090
  | .PLAN_REMAP_DATA => 0x060094
  | .PLAN_SCAN_CMD => 0x0600C0
  | .PLAN_SCAN_CFG => 0x0600C4
  | .PLAN_SCAN_RES => 0x0600C8
  | .PLAN_SCAN_LEAK => 0x0600CC
  | .PLAN_SCAN_REF => 0x0600D0
  | .PLAN_SCAN_HOT => 0x0600D4
  | .PLAN_SCAN_TABLE_LO => 0x0600D8
  | .PLAN_SCAN_TABLE_HI => 0x0600DC
  | .PLAN_SCAN_SLOT => 0x0600E0
  | .PLAN_SCAN_STATUS => 0x0600E4
  | .PLAN_SHIFT => 0x060100
  | .PLAN_COMP_STATUS => 0x060104
  | .PLAN_COMP_FAIL_WHERE => 0x060108
  | .PLAN_COMP_FAIL_LINE => 0x06010C
  | .PLAN_SEAM_LOST => 0x060110
  | .PLAN_SEAM_BAD_COUNT => 0x060114
  | .CARIL_CFG => 0x070000
  | .CARIL_WINDOW => 0x070004
  | .CARIL_TRIM_SEL => 0x070008
  | .CARIL_TRIM_DATA => 0x07000C
  | .CARIL_DAMP_STATUS => 0x070010
  | .CARIL_TEMP_LEVEL => 0x070014
  | .CARIL_BEAT_PEALS => 0x070018
  | .CARIL_ABORTS => 0x07001C
  | .LANE_SEL => 0x080000
  | .LANE_CMD => 0x080004
  | .LANE_FFE => 0x080008
  | .LANE_RX_EQ => 0x08000C
  | .LANE_RX_DFE => 0x080010
  | .LANE_SKEW => 0x080014
  | .LANE_TEMP_LIMIT => 0x080018
  | .LANE_TIMEOUT => 0x08001C
  | .LANE_STATUS => 0x080040
  | .LANE_EYE => 0x080044
  | .LANE_DRV_TEMP => 0x080048
  | .LANE_DRV_CRC_BAD => 0x08004C
  | .LANE_DRV_LOST => 0x080050
  | .LANE_ECHO_BAD => 0x080054
  | .STAGE_MET_SEL => 0x090000
  | .STAGE_MET_CFG => 0x090004
  | .STAGE_MET_PHASE => 0x090008
  | .STAGE_MET_CMD => 0x09000C
  | .STAGE_POS_LO => 0x090010
  | .STAGE_POS_HI => 0x090014
  | .STAGE_SPEED => 0x090018
  | .STAGE_EST_STATUS => 0x09001C
  | .STAGE_SPEED_CFG => 0x090020
  | .STAGE_SPEED_THR => 0x090024
  | .STAGE_DIR_CFG => 0x090028
  | .STAGE_YAW => 0x09002C
  | .STAGE_MET_BAD_COUNT => 0x090030
  | .STAGE_CMP_TARGET_LO => 0x090040
  | .STAGE_CMP_TARGET_HI => 0x090044
  | .STAGE_CMP_CFG => 0x090048
  | .STAGE_CMP_CMD => 0x09004C
  | .STAGE_CMP_STATUS => 0x090050
  | .STAGE_VMAX => 0x090080
  | .STAGE_AMAX => 0x090084
  | .STAGE_JMAX => 0x090088
  | .STAGE_SCAN_VEL => 0x09008C
  | .STAGE_SCAN_CFG => 0x090090
  | .STAGE_SETTLE => 0x090094
  | .STAGE_X0_LO => 0x090098
  | .STAGE_X0_HI => 0x09009C
  | .STAGE_Y0_LO => 0x0900A0
  | .STAGE_Y0_HI => 0x0900A4
  | .STAGE_MOVE_X_LO => 0x0900A8
  | .STAGE_MOVE_X_HI => 0x0900AC
  | .STAGE_MOVE_Y_LO => 0x0900B0
  | .STAGE_MOVE_Y_HI => 0x0900B4
  | .STAGE_MOVE_CMD => 0x0900B8
  | .STAGE_PROFILE_STATUS => 0x0900BC
  | .STAGE_BEAT_CFG => 0x0900C0
  | .STAGE_BEAT_STATUS => 0x0900C4
  | .STAGE_BEAT_PERIOD => 0x0900C8
  | .STAGE_EXT_COUNT => 0x0900CC
  | .STAGE_TEMP_CFG => 0x0900D0
  | .STAGE_TEMP_STATUS => 0x0900D4
  | .STAGE_CAD_HORIZON => 0x090100
  | .STAGE_CAD_LINK_DELAY => 0x090104
  | .STAGE_CAD_TOL => 0x090108
  | .STAGE_CAD_STATUS => 0x09010C
  | .STAGE_CAD_RING => 0x090110
  | .STAGE_CAD_ERR_COUNT => 0x090114
  | .TRACK_CFG => 0x0A0000
  | .TRACK_AXIS_SEL => 0x0A0004
  | .TRACK_KP => 0x0A0008
  | .TRACK_KI => 0x0A000C
  | .TRACK_KR => 0x0A0010
  | .TRACK_REP_Q => 0x0A0014
  | .TRACK_SHIFTS => 0x0A0018
  | .TRACK_ILIM => 0x0A001C
  | .TRACK_ULIM => 0x0A0020
  | .TRACK_BANK_CMD => 0x0A0024
  | .TRACK_BANK_STATUS => 0x0A0028
  | .TRACK_RECENTRE => 0x0A002C
  | .TRACK_PARK => 0x0A0030
  | .TRACK_MAP_SEL => 0x0A0040
  | .TRACK_MAP_INDEX => 0x0A0044
  | .TRACK_MAP_BASE_LO => 0x0A0048
  | .TRACK_MAP_BASE_HI => 0x0A004C
  | .TRACK_MAP_DATA => 0x0A0050
  | .TRACK_REP_CFG => 0x0A0054
  | .TRACK_REP_CMD => 0x0A0058
  | .TRACK_REP_STATUS => 0x0A005C
  | .TRACK_RESID => 0x0A0080
  | .TRACK_WORD => 0x0A0084
  | .TRACK_INTEG => 0x0A0088
  | .TRACK_SHIFT_STATUS => 0x0A008C
  | .TRACK_SAT_STATUS => 0x0A0090
  | .TRACK_HOLD_COUNT => 0x0A0094
  | .TRACK_LATENCY => 0x0A0098
  | .NET_PORT_SEL => 0x0B0000
  | .NET_PORT_CFG => 0x0B0004
  | .NET_PORT_STATUS => 0x0B0008
  | .NET_VLAN => 0x0B000C
  | .NET_IP4_ADDR => 0x0B0010
  | .NET_IP6_ADDR0 => 0x0B0014
  | .NET_IP6_ADDR1 => 0x0B0018
  | .NET_IP6_ADDR2 => 0x0B001C
  | .NET_IP6_ADDR3 => 0x0B0020
  | .NET_IP_CFG => 0x0B0024
  | .NET_UDP_PORT => 0x0B0028
  | .NET_MTU => 0x0B002C
  | .NET_PTP_CFG => 0x0B0030
  | .NET_PTP_TX_LAT => 0x0B0034
  | .NET_PTP_RX_LAT => 0x0B0038
  | .NET_ADDR_SEL => 0x0B0040
  | .NET_ADDR_CFG => 0x0B0044
  | .NET_ADDR_MAC_LO => 0x0B0048
  | .NET_ADDR_MAC_HI => 0x0B004C
  | .NET_ADDR_IP0 => 0x0B0050
  | .NET_ADDR_IP1 => 0x0B0054
  | .NET_ADDR_IP2 => 0x0B0058
  | .NET_ADDR_IP3 => 0x0B005C
  | .NET_XPORT_CFG => 0x0B0060
  | .NET_FLOW_SEL => 0x0B0064
  | .NET_FLOW_NEXT => 0x0B0068
  | .NET_FLOW_RECEIVED => 0x0B006C
  | .NET_RX_DISCARD => 0x0B0080
  | .NET_XPORT_BAD => 0x0B0084
  | .NET_FLOW_ORDER_COUNT => 0x0B0088
  | .TIME_CMD => 0x0C0000
  | .TIME_LATCH_SEC_LO => 0x0C0010
  | .TIME_LATCH_SEC_HI => 0x0C0014
  | .TIME_LATCH_STAGE_LO => 0x0C0018
  | .TIME_LATCH_STAGE_HI => 0x0C001C
  | .TIME_LATCH_NS => 0x0C0020
  | .TIME_SET_SEC_LO => 0x0C0030
  | .TIME_SET_SEC_HI => 0x0C0034
  | .TIME_SET_NS => 0x0C0038
  | .TIME_SERVO_OFFSET_LO => 0x0C0040
  | .TIME_SERVO_OFFSET_HI => 0x0C0044
  | .TIME_SERVO_CMD => 0x0C0048
  | .TIME_SERVO_KP => 0x0C004C
  | .TIME_SERVO_KI => 0x0C0050
  | .TIME_SERVO_SHIFT => 0x0C0054
  | .TIME_ADJ_LIM => 0x0C0058
  | .TIME_STEP_NS => 0x0C005C
  | .TIME_ADJ => 0x0C0060
  | .TIME_FI => 0x0C0064
  | .TIME_STATUS => 0x0C0068
  | .TIME_TRIG_SEL => 0x0C0080
  | .TIME_TRIG_CFG => 0x0C0084
  | .TIME_TRIG_SEC_LO => 0x0C0088
  | .TIME_TRIG_SEC_HI => 0x0C008C
  | .TIME_TRIG_NS => 0x0C0090
  | .TIME_TRIG_CMD => 0x0C0094
  | .TIME_TRIG_STATUS => 0x0C0098
  | .TIME_PPS_CFG => 0x0C00C0
  | .TIME_PPS_OFFSET => 0x0C00C4
  | .TIME_PPS_IN_SEC_LO => 0x0C00C8
  | .TIME_PPS_IN_SEC_HI => 0x0C00CC
  | .TIME_PPS_IN_NS => 0x0C00D0
  | .TIME_PPS_IN_SEQ => 0x0C00D4
  | .HBM_HASH_SEL => 0x0D0000
  | .HBM_CMD => 0x0D0004
  | .HBM_HASH_MASK_LO => 0x0D0008
  | .HBM_HASH_MASK_HI => 0x0D000C
  | .HBM_RH_CFG => 0x0D0010
  | .HBM_RH_HOLD => 0x0D0014
  | .HBM_CE_THRESH => 0x0D0018
  | .HBM_PC_SEL => 0x0D001C
  | .HBM_SCRUB_BASE_LO => 0x0D0040
  | .HBM_SCRUB_BASE_HI => 0x0D0044
  | .HBM_SCRUB_SIZE_LO => 0x0D0048
  | .HBM_SCRUB_SIZE_HI => 0x0D004C
  | .HBM_SCRUB_CFG => 0x0D0050
  | .HBM_SCRUB_CMD => 0x0D0054
  | .HBM_INJECT_LO => 0x0D0058
  | .HBM_INJECT_HI => 0x0D005C
  | .HBM_INJECT_CMD => 0x0D0060
  | .HBM_STATUS => 0x0D0080
  | .HBM_TEMP => 0x0D0084
  | .HBM_PC_STATUS => 0x0D0088
  | .HBM_PC_CE_COUNT => 0x0D008C
  | .HBM_PC_DELAY0 => 0x0D0090
  | .HBM_PC_DELAY1 => 0x0D0094
  | .HBM_PC_DELAY2 => 0x0D0098
  | .HBM_PC_DELAY3 => 0x0D009C
  | .HBM_CE_COUNT => 0x0D00A0
  | .HBM_UE_COUNT => 0x0D00A4
  | .HBM_AF_COUNT => 0x0D00A8
  | .HBM_SRAM_CE_COUNT => 0x0D00AC
  | .HBM_SRAM_UE_COUNT => 0x0D00B0
  | .HBM_ERR_LOG_ADDR_LO => 0x0D00C0
  | .HBM_ERR_LOG_ADDR_HI => 0x0D00C4
  | .HBM_ERR_LOG_INFO => 0x0D00C8
  | .HBM_RH_LOG_SEL => 0x0D00CC
  | .HBM_RH_LOG_ADDR_LO => 0x0D00D0
  | .HBM_RH_LOG_ADDR_HI => 0x0D00D4
  | .HBM_RH_LOG_INFO => 0x0D00D8
  | .HBM_RH_EVENTS => 0x0D00DC
  | .HBM_RH_LOG_TIME_LO => 0x0D00E0
  | .HBM_RH_LOG_TIME_HI => 0x0D00E4
  | .DMA_ACTIVE => 0x0E0000
  | .DMA_IN_FLIGHT => 0x0E0004
  | .DMA_BYTES_LO => 0x0E0008
  | .DMA_BYTES_HI => 0x0E000C
  | .DMA_PTP_DROP => 0x0E0010
  | .RING_SEL => 0x0F0000
  | .RING_SLOT_SEL => 0x0F0004
  | .RING_GRANT_SEL => 0x0F0008
  | .RING_GRANT => 0x0F000C
  | .RING_GRANT_BASE => 0x0F0010
  | .RING_GRANT_SIZE => 0x0F0014
  | .RING_BASE_LO => 0x0F0100
  | .RING_BASE_HI => 0x0F0104
  | .RING_CFG => 0x0F0108
  | .RING_TAIL => 0x0F010C
  | .RING_HEAD => 0x0F0110
  | .RING_STATUS => 0x0F0114
  | .RING_CMD => 0x0F0118
  | .RING_SLOT_STATUS => 0x0F0200
  | .RING_SLOT_TAG => 0x0F0204
  | .RING_SLOT_RELEASE => 0x0F0208
  | .RING_SLOT_DATA => 0x0F0210
  | .CHECK_SEL => 0x100000
  | .CHECK_CFG => 0x100004
  | .CHECK_POLY => 0x100008
  | .CHECK_INIT => 0x10000C
  | .CHECK_XOROUT => 0x100010
  | .CHECK_SEQ => 0x100014
  | .CHECK_BASE_LO => 0x100018
  | .CHECK_BASE_HI => 0x10001C
  | .CHECK_SIZE_LO => 0x100020
  | .CHECK_SIZE_HI => 0x100024
  | .CHECK_EXPECT => 0x100028
  | .CHECK_CMD => 0x10002C
  | .CHECK_RESULT => 0x100030
  | .CHECK_STATUS => 0x100034
  | .CHECK_LEN_LO => 0x100038
  | .CHECK_LEN_HI => 0x10003C
  | .CLOCK_PLL_SEL => 0x110000
  | .CLOCK_PLL_STATUS => 0x110004
  | .CLOCK_ISLAND_SEL => 0x110008
  | .CLOCK_ISLAND_FREQ => 0x11000C
  | .CLOCK_ISLAND_STATUS => 0x110010
  | .CLOCK_XING_SEL => 0x110014
  | .CLOCK_XING_INFO => 0x110018
  | .CLOCK_XING_STATUS => 0x11001C
  | .CLOCK_XING_DISCARD => 0x110020
  | .POWER_CFG => 0x120000
  | .POWER_DORMANT_IDLE => 0x120004
  | .POWER_CMD => 0x120008
  | .POWER_WAKE_EN => 0x12000C
  | .POWER_CAP => 0x120010
  | .POWER_OP_MAX => 0x120014
  | .POWER_PMBUS_CFG => 0x120018
  | .POWER_STATE => 0x120040
  | .POWER_WAKE_STATUS => 0x120044
  | .POWER_REFUSE_COUNT => 0x120048
  | .POWER_ABORT_COUNT => 0x12004C
  | .POWER_LAST_REFUSAL => 0x120050
  | .POWER_ISLAND_SEL => 0x120054
  | .POWER_ISLAND_STATE => 0x120058
  | .POWER_OP_STATUS => 0x12005C
  | .POWER_AON_LOAD => 0x120060
  | .POWER_AON_CAUSE => 0x120064
  | .POWER_EST => 0x120068
  | .POWER_THROTTLE_SEL => 0x12006C
  | .POWER_THROTTLE_COUNT => 0x120070
  | .SNAP_CMD => 0x130000
  | .SNAP_CFG => 0x130004
  | .SNAP_STATUS => 0x130008
  | .SNAP_MISSED => 0x13000C
  | .SNAP_SEL => 0x130010
  | .SNAP_DATA => 0x130014
  | .FAULT_CODE_SEL => 0x140000
  | .FAULT_CODE_STATUS => 0x140004
  | .FAULT_CODE_ACTION => 0x140008
  | .FAULT_FIRST => 0x14000C
  | .FAULT_LOG_SEL => 0x140010
  | .FAULT_LOG_HEAD => 0x140014
  | .FAULT_LOG_TIME_LO => 0x140018
  | .FAULT_LOG_TIME_HI => 0x14001C
  | .FAULT_LOG_CODE => 0x140020
  | .FAULT_LOG_STAGE => 0x140024
  | .FAULT_STALL_CFG => 0x140040
  | .FAULT_STALL_STATUS => 0x140044
  | .FAULT_TEMP => 0x140048
  | .FAULT_TRIP_CAUSE => 0x14004C
  | .TL_SEL => 0x150000
  | .TL_PEEK => 0x150004

/-- The RW bits of a register (the Access column of its chapter's table; a reserved bit is in no mask, R12). -/
def Reg.rwMask (r : Reg) : Word :=
  match r with
  | .GLOBAL_SCRATCH => 0xFFFFFFFF#32
  | .GLOBAL_LOCK_SEL => 0x01FFFFFF#32
  | .GLOBAL_FLASH_CFG => 0x00000001#32
  | .GLOBAL_FLASH_ADDR => 0x01FFFFFF#32
  | .GLOBAL_FLASH_DATA => 0xFFFFFFFF#32
  | .PRICK_SRC_ADDR_LO => 0xFFFFFFFF#32
  | .PRICK_SRC_ADDR_HI => 0xFFFFFFFF#32
  | .PRICK_SRC_SIZE => 0x01FFFFFF#32
  | .LACE_SCOPE_SEL => 0x00000001#32
  | .LACE_STREAM_ID => 0xFFFFFFFF#32
  | .LACE_SOURCE => 0x0000007F#32
  | .LACE_BUF_BASE => 0x0000FFFF#32
  | .LACE_BUF_SIZE => 0x00003FFF#32
  | .LACE_LIB_SEL => 0x0000000F#32
  | .LACE_LIB_SIZE => 0xFFFFFFFF#32
  | .LACE_LIB_BASE_LO => 0xFFFFFFFF#32
  | .LACE_LIB_BASE_HI => 0x0000000F#32
  | .LACE_LIB_CRC => 0xFFFFFFFF#32
  | .BOB_PIPE_SEL => 0x00000003#32
  | .BOB_CFG => 0x00000001#32
  | .BOB_WATCHDOG => 0x0000FFFF#32
  | .BOB_DISABLE => 0xFFFFFFFF#32
  | .BOB_UNIT_SEL => 0x0000001F#32
  | .BOB_LIVE_CFG => 0x000000FF#32
  | .CORR_CFG => 0x0000003F#32
  | .CORR_NUM => 0xFFFFFFFF#32
  | .CORR_DEN => 0xFFFFFFFF#32
  | .CORR_PEND_BASE => 0x0000FFFF#32
  | .CORR_PEND_SIZE => 0x00003FFF#32
  | .CORR_FMAP_BASE => 0x0000FFFF#32
  | .CORR_FMAP_SIZE => 0x00003FFF#32
  | .CORR_EDGING_TIMEOUT => 0x0000FFFF#32
  | .CORR_EDGING_RETRY => 0x00000FFF#32
  | .CORR_TERM_SEL => 0x00000007#32
  | .CORR_TERM_GEOM => 0x00001FFF#32
  | .CORR_TERM_COEF => 0xFFFFFFFF#32
  | .CORR_KERNEL_SEL => 0x0000001F#32
  | .CORR_KERNEL_DATA => 0x0001FFFF#32
  | .STORE_PIPE_SEL => 0x00000003#32
  | .STORE_CFG => 0x0000001F#32
  | .STORE_BASE => 0x0000FFFF#32
  | .STORE_SIZE => 0x0000FFFF#32
  | .STORE_LIVE_LEAD => 0x0000000F#32
  | .STORE_AHEAD_LIMIT => 0x07FFFFFF#32
  | .STORE_MODE_SEL => 0x00000007#32
  | .PLAN_STRIPE_ID => 0xFFFFFFFF#32
  | .PLAN_STRIPE_LINES => 0x07FFFFFF#32
  | .PLAN_STRIPE_CFG => 0x0000003F#32
  | .PLAN_LOOKAHEAD => 0x00FFFFFF#32
  | .PLAN_PASS_SEL => 0x00000007#32
  | .PLAN_PASS_X => 0x0000FF1F#32
  | .PLAN_PASS_Y => 0x000000FF#32
  | .PLAN_PASS_FEED => 0x000FFFFF#32
  | .PLAN_PASS_SHARE => 0x0001FFFF#32
  | .PLAN_DOSE_GAIN => 0x0000FFFF#32
  | .PLAN_SEAM_CFG => 0x00001F1F#32
  | .PLAN_SEAM_BASE => 0x0000FFFF#32
  | .PLAN_EXPOSE => 0x00000003#32
  | .PLAN_DEFECT_SEL => 0x00003FFF#32
  | .PLAN_DEFECT_DATA => 0x0000FFFF#32
  | .PLAN_SEAM_DEFECT_SEL => 0x00000FFF#32
  | .PLAN_SEAM_DEFECT_DATA => 0x0000FFFF#32
  | .PLAN_REMAP_SEL => 0x00003FFF#32
  | .PLAN_SCAN_CFG => 0xFFFFFFFF#32
  | .PLAN_SCAN_RES => 0xFFFFFFFF#32
  | .PLAN_SCAN_LEAK => 0xFFFFFFFF#32
  | .PLAN_SCAN_REF => 0xFFFFFFFF#32
  | .PLAN_SCAN_HOT => 0xFFFFFFFF#32
  | .PLAN_SCAN_TABLE_LO => 0xFFFFFFFF#32
  | .PLAN_SCAN_TABLE_HI => 0x0000000F#32
  | .PLAN_SCAN_SLOT => 0x000000FF#32
  | .CARIL_CFG => 0x000FFDFF#32
  | .CARIL_WINDOW => 0x0000FFFF#32
  | .CARIL_TRIM_SEL => 0x00003FFF#32
  | .CARIL_TRIM_DATA => 0x000000FF#32
  | .LANE_SEL => 0x0000001F#32
  | .LANE_FFE => 0x001F1F1F#32
  | .LANE_RX_EQ => 0x00000010#32
  | .LANE_SKEW => 0x000000FF#32
  | .LANE_TEMP_LIMIT => 0x00FFFFFF#32
  | .LANE_TIMEOUT => 0x007F03FF#32
  | .STAGE_MET_SEL => 0x00000003#32
  | .STAGE_MET_CFG => 0x000FFFFF#32
  | .STAGE_MET_PHASE => 0x000001FF#32
  | .STAGE_SPEED_CFG => 0xFFFFFF3F#32
  | .STAGE_SPEED_THR => 0xFFFFFFFF#32
  | .STAGE_DIR_CFG => 0x0000FFFF#32
  | .STAGE_YAW => 0xFFFFFFFF#32
  | .STAGE_CMP_TARGET_LO => 0xFFFFFFFF#32
  | .STAGE_CMP_TARGET_HI => 0x000000FF#32
  | .STAGE_CMP_CFG => 0x00000007#32
  | .STAGE_VMAX => 0xFFFFFFFF#32
  | .STAGE_AMAX => 0xFFFFFFFF#32
  | .STAGE_JMAX => 0xFFFFFFFF#32
  | .STAGE_SCAN_VEL => 0xFFFFFFFF#32
  | .STAGE_SCAN_CFG => 0x00000001#32
  | .STAGE_SETTLE => 0x0FFF0FFF#32
  | .STAGE_X0_LO => 0xFFFFFFFF#32
  | .STAGE_X0_HI => 0x000000FF#32
  | .STAGE_Y0_LO => 0xFFFFFFFF#32
  | .STAGE_Y0_HI => 0x000000FF#32
  | .STAGE_MOVE_X_LO => 0xFFFFFFFF#32
  | .STAGE_MOVE_X_HI => 0x000000FF#32
  | .STAGE_MOVE_Y_LO => 0xFFFFFFFF#32
  | .STAGE_MOVE_Y_HI => 0x000000FF#32
  | .STAGE_BEAT_CFG => 0xFFFFFFFF#32
  | .STAGE_TEMP_CFG => 0xFFFFFFFF#32
  | .STAGE_CAD_HORIZON => 0x000003FF#32
  | .STAGE_CAD_LINK_DELAY => 0x0000FFFF#32
  | .STAGE_CAD_TOL => 0x000000FF#32
  | .TRACK_CFG => 0x0000003F#32
  | .TRACK_AXIS_SEL => 0x00000003#32
  | .TRACK_KP => 0xFFFFFFFF#32
  | .TRACK_KI => 0xFFFFFFFF#32
  | .TRACK_KR => 0xFFFFFFFF#32
  | .TRACK_REP_Q => 0x0001FFFF#32
  | .TRACK_SHIFTS => 0x001F1F1F#32
  | .TRACK_ILIM => 0x7FFFFFFF#32
  | .TRACK_ULIM => 0x7FFFFFFF#32
  | .TRACK_RECENTRE => 0x0000007F#32
  | .TRACK_PARK => 0xFFFFFFFF#32
  | .TRACK_MAP_SEL => 0x00000003#32
  | .TRACK_MAP_INDEX => 0x0000FFFF#32
  | .TRACK_MAP_BASE_LO => 0xFFFFFFFF#32
  | .TRACK_MAP_BASE_HI => 0x00001FFF#32
  | .TRACK_MAP_DATA => 0xFFFFFFFF#32
  | .TRACK_REP_CFG => 0xFFFFFFFF#32
  | .NET_PORT_SEL => 0x00000007#32
  | .NET_PORT_CFG => 0x0000001F#32
  | .NET_VLAN => 0xFFFFFFFF#32
  | .NET_IP4_ADDR => 0xFFFFFFFF#32
  | .NET_IP6_ADDR0 => 0xFFFFFFFF#32
  | .NET_IP6_ADDR1 => 0xFFFFFFFF#32
  | .NET_IP6_ADDR2 => 0xFFFFFFFF#32
  | .NET_IP6_ADDR3 => 0xFFFFFFFF#32
  | .NET_IP_CFG => 0x00007FFF#32
  | .NET_UDP_PORT => 0x0000FFFF#32
  | .NET_MTU => 0x00003FFF#32
  | .NET_PTP_CFG => 0x0000000F#32
  | .NET_PTP_TX_LAT => 0xFFFFFFFF#32
  | .NET_PTP_RX_LAT => 0xFFFFFFFF#32
  | .NET_ADDR_SEL => 0x0000007F#32
  | .NET_ADDR_CFG => 0x0000001F#32
  | .NET_ADDR_MAC_LO => 0xFFFFFFFF#32
  | .NET_ADDR_MAC_HI => 0xFFFFFFFF#32
  | .NET_ADDR_IP0 => 0xFFFFFFFF#32
  | .NET_ADDR_IP1 => 0xFFFFFFFF#32
  | .NET_ADDR_IP2 => 0xFFFFFFFF#32
  | .NET_ADDR_IP3 => 0xFFFFFFFF#32
  | .NET_XPORT_CFG => 0x03FF03FF#32
  | .NET_FLOW_SEL => 0x0000003F#32
  | .TIME_SET_SEC_LO => 0xFFFFFFFF#32
  | .TIME_SET_SEC_HI => 0x0000FFFF#32
  | .TIME_SET_NS => 0x3FFFFFFF#32
  | .TIME_SERVO_OFFSET_LO => 0xFFFFFFFF#32
  | .TIME_SERVO_OFFSET_HI => 0xFFFFFFFF#32
  | .TIME_SERVO_KP => 0xFFFFFFFF#32
  | .TIME_SERVO_KI => 0xFFFFFFFF#32
  | .TIME_SERVO_SHIFT => 0x00003F3F#32
  | .TIME_ADJ_LIM => 0x7FFFFFFF#32
  | .TIME_STEP_NS => 0xFFFFFFFF#32
  | .TIME_TRIG_SEL => 0x00000003#32
  | .TIME_TRIG_CFG => 0x00000007#32
  | .TIME_TRIG_SEC_LO => 0xFFFFFFFF#32
  | .TIME_TRIG_SEC_HI => 0x0000FFFF#32
  | .TIME_TRIG_NS => 0x3FFFFFFF#32
  | .TIME_PPS_CFG => 0x0000FFFF#32
  | .TIME_PPS_OFFSET => 0x3FFFFFFF#32
  | .HBM_HASH_SEL => 0x0000001F#32
  | .HBM_HASH_MASK_LO => 0xFFFFFFFF#32
  | .HBM_HASH_MASK_HI => 0x0000000F#32
  | .HBM_RH_CFG => 0xFFFFFFFF#32
  | .HBM_RH_HOLD => 0xFFFFFFFF#32
  | .HBM_CE_THRESH => 0xFFFFFFFF#32
  | .HBM_PC_SEL => 0x0000003F#32
  | .HBM_SCRUB_BASE_LO => 0xFFFFFFFF#32
  | .HBM_SCRUB_BASE_HI => 0x0000000F#32
  | .HBM_SCRUB_SIZE_LO => 0xFFFFFFFF#32
  | .HBM_SCRUB_SIZE_HI => 0x0000000F#32
  | .HBM_SCRUB_CFG => 0x00FF01FF#32
  | .HBM_INJECT_LO => 0xFFFFFFFF#32
  | .HBM_INJECT_HI => 0x0000000F#32
  | .HBM_RH_LOG_SEL => 0x0000000F#32
  | .RING_SEL => 0x0000003F#32
  | .RING_SLOT_SEL => 0x000000FF#32
  | .RING_GRANT_SEL => 0x00000007#32
  | .RING_GRANT => 0x0000FF01#32
  | .RING_GRANT_BASE => 0x0000003F#32
  | .RING_GRANT_SIZE => 0x0000003F#32
  | .RING_BASE_LO => 0xFFFFFFFF#32
  | .RING_BASE_HI => 0xFFFFFFFF#32
  | .RING_CFG => 0x0000001F#32
  | .RING_TAIL => 0x0000FFFF#32
  | .CHECK_SEL => 0x0000000F#32
  | .CHECK_CFG => 0x00003FFF#32
  | .CHECK_POLY => 0xFFFFFFFF#32
  | .CHECK_INIT => 0xFFFFFFFF#32
  | .CHECK_XOROUT => 0xFFFFFFFF#32
  | .CHECK_SEQ => 0xFFFFFFFF#32
  | .CHECK_BASE_LO => 0xFFFFFFFF#32
  | .CHECK_BASE_HI => 0x0000000F#32
  | .CHECK_SIZE_LO => 0xFFFFFFFF#32
  | .CHECK_SIZE_HI => 0x0000000F#32
  | .CHECK_EXPECT => 0xFFFFFFFF#32
  | .CLOCK_PLL_SEL => 0x00000007#32
  | .CLOCK_ISLAND_SEL => 0x0000001F#32
  | .CLOCK_XING_SEL => 0x0000007F#32
  | .POWER_CFG => 0xFFFF0003#32
  | .POWER_DORMANT_IDLE => 0x0000FFFF#32
  | .POWER_WAKE_EN => 0x000000F8#32
  | .POWER_CAP => 0x000007FF#32
  | .POWER_OP_MAX => 0x00000FFF#32
  | .POWER_PMBUS_CFG => 0x03FF007F#32
  | .POWER_ISLAND_SEL => 0x0000001F#32
  | .POWER_THROTTLE_SEL => 0x00000003#32
  | .SNAP_CFG => 0x000000FF#32
  | .SNAP_SEL => 0x0000003F#32
  | .FAULT_CODE_SEL => 0x0000FFFF#32
  | .FAULT_CODE_ACTION => 0x00000007#32
  | .FAULT_LOG_SEL => 0x0000003F#32
  | .FAULT_STALL_CFG => 0x0001FFFF#32
  | .TL_SEL => 0x00000003#32
  | _ => 0#32

/-- The W1C bits of a register. -/
def Reg.w1cMask (r : Reg) : Word :=
  match r with
  | .GLOBAL_RESET_CAUSE => 0x0000007F#32
  | .GLOBAL_ACCESS_LOG => 0x80000000#32
  | .BOB_FAIL_MASK => 0xFFFFFFFF#32
  | .CORR_LOST_MASK_LO => 0xFFFFFFFF#32
  | .CORR_LOST_MASK_HI => 0xFFFFFFFF#32
  | .CORR_SAT_STATUS => 0x0000000F#32
  | .PLAN_SEAM_LOST => 0x00000003#32
  | .CARIL_DAMP_STATUS => 0x00000002#32
  | .STAGE_CMP_STATUS => 0x00000006#32
  | .STAGE_BEAT_STATUS => 0x80000000#32
  | .TRACK_SAT_STATUS => 0x00003F3F#32
  | .TIME_STATUS => 0x0000000C#32
  | .TIME_TRIG_STATUS => 0x0000000E#32
  | .HBM_ERR_LOG_INFO => 0x80000000#32
  | .CLOCK_XING_STATUS => 0x00000004#32
  | .POWER_STATE => 0x00000010#32
  | .POWER_WAKE_STATUS => 0x000000FF#32
  | .POWER_AON_CAUSE => 0x00000003#32
  | .FAULT_CODE_STATUS => 0x00000001#32
  | .FAULT_FIRST => 0x0000FFFF#32
  | .FAULT_STALL_STATUS => 0x00FFFFFF#32
  | .FAULT_TRIP_CAUSE => 0x00000001#32
  | _ => 0#32

/-- The value the Reset column gives; fields whose reset is "image", "fuse" or "sticky" are 0 here and are given their
value by the load, the fuses or the always-on domain. -/
def Reg.resetWord (r : Reg) : Word :=
  match r with
  | .GLOBAL_IDENT => 0x64161F64#32
  | .GLOBAL_VERSION => 0x000101A1#32
  | .LACE_BUF_SIZE => 0x00000100#32
  | .BOB_WATCHDOG => 0x000007D0#32
  | .BOB_LIVE_CFG => 0x000000E4#32
  | .CORR_NUM => 0x01000000#32
  | .CORR_DEN => 0x01000000#32
  | .CORR_EDGING_TIMEOUT => 0x00001388#32
  | .CORR_EDGING_RETRY => 0x00000064#32
  | .CORR_TERM_GEOM => 0x00000008#32
  | .STORE_CFG => 0x0000000D#32
  | .STORE_LIVE_LEAD => 0x00000008#32
  | .PLAN_STRIPE_CFG => 0x00000001#32
  | .PLAN_LOOKAHEAD => 0x00010000#32
  | .PLAN_PASS_FEED => 0x00001000#32
  | .PLAN_DOSE_GAIN => 0x000003FC#32
  | .PLAN_SEAM_CFG => 0x00000404#32
  | .PLAN_SCAN_CFG => 0x00400801#32
  | .PLAN_SCAN_RES => 0xFFFF0000#32
  | .PLAN_SCAN_LEAK => 0x0100FFFF#32
  | .CARIL_CFG => 0x0007D0FA#32
  | .CARIL_WINDOW => 0x00000E10#32
  | .LANE_TEMP_LIMIT => 0x00695F55#32
  | .LANE_TIMEOUT => 0x00320064#32
  | .STAGE_MET_CFG => 0x00010002#32
  | .STAGE_SPEED_CFG => 0x03E81010#32
  | .STAGE_SPEED_THR => 0x00800020#32
  | .STAGE_DIR_CFG => 0x00000010#32
  | .STAGE_YAW => 0xFFFF0000#32
  | .STAGE_CMP_CFG => 0x00000002#32
  | .STAGE_SETTLE => 0x00500100#32
  | .STAGE_BEAT_CFG => 0x06464028#32
  | .STAGE_BEAT_PERIOD => 0xFFFF0000#32
  | .STAGE_TEMP_CFG => 0x03E804C0#32
  | .STAGE_TEMP_STATUS => 0x0000FF00#32
  | .STAGE_CAD_HORIZON => 0x000000C8#32
  | .STAGE_CAD_TOL => 0x00000014#32
  | .TRACK_CFG => 0x00000030#32
  | .TRACK_KP => 0x00001000#32
  | .TRACK_REP_Q => 0x00010000#32
  | .TRACK_ULIM => 0x02000000#32
  | .TRACK_RECENTRE => 0x00000014#32
  | .TRACK_REP_CFG => 0x0000FFFF#32
  | .NET_PORT_CFG => 0x00000010#32
  | .NET_VLAN => 0xE0000000#32
  | .NET_IP_CFG => 0x00000040#32
  | .NET_UDP_PORT => 0x0000E616#32
  | .NET_MTU => 0x00002400#32
  | .NET_ADDR_MAC_HI => 0xE6160000#32
  | .NET_XPORT_CFG => 0x0005000A#32
  | .TIME_ADJ_LIM => 0x10000000#32
  | .TIME_STEP_NS => 0x000003E8#32
  | .TIME_STATUS => 0x00000002#32
  | .TIME_PPS_CFG => 0x000000C8#32
  | .HBM_RH_CFG => 0x80201000#32
  | .HBM_RH_HOLD => 0x03E803E8#32
  | .HBM_CE_THRESH => 0x00000400#32
  | .HBM_SCRUB_CFG => 0x00000110#32
  | .HBM_STATUS => 0x00000051#32
  | .RING_GRANT_SEL => 0x00000001#32
  | .RING_GRANT => 0x00001F00#32
  | .RING_CFG => 0x00000004#32
  | .CHECK_CFG => 0x000008E0#32
  | .CHECK_POLY => 0x1EDC6F41#32
  | .CHECK_INIT => 0xFFFFFFFF#32
  | .CHECK_XOROUT => 0xFFFFFFFF#32
  | .CLOCK_ISLAND_STATUS => 0x00000001#32
  | .POWER_CFG => 0x00640001#32
  | .POWER_DORMANT_IDLE => 0x000003E8#32
  | .POWER_OP_MAX => 0x00000FFF#32
  | .POWER_PMBUS_CFG => 0x00320040#32
  | .SNAP_CFG => 0x0000001F#32
  | .FAULT_CODE_ACTION => 0x00000001#32
  | .FAULT_STALL_CFG => 0x00000064#32
  | _ => 0#32

/-- The reset value of instance i of a register, where the table gives instances different values: PLAN_PASS_SHARE
(65,536 for pass 0, Chapter 7) and the hash masks (Table 12-2). -/
def Reg.reset (r : Reg) (i : Nat) : Word :=
  match r, i with
  | .PLAN_PASS_SHARE, 0 => 0x00010000#32
  | .HBM_HASH_MASK_LO, 0 | .HBM_HASH_MASK_LO, 16 => 0x00000100#32
  | .HBM_HASH_MASK_LO, 1 | .HBM_HASH_MASK_LO, 17 => 0x00000200#32
  | .HBM_HASH_MASK_LO, 2 | .HBM_HASH_MASK_LO, 18 => 0x00000400#32
  | .HBM_HASH_MASK_LO, 3 | .HBM_HASH_MASK_LO, 19 => 0x00000800#32
  | .HBM_HASH_MASK_LO, 4 | .HBM_HASH_MASK_LO, 20 => 0x00001000#32
  | .HBM_HASH_MASK_LO, 5 | .HBM_HASH_MASK_LO, 21 => 0x00002000#32
  | .HBM_HASH_MASK_LO, 6 | .HBM_HASH_MASK_LO, 22 => 0x02204000#32
  | .HBM_HASH_MASK_LO, 7 | .HBM_HASH_MASK_LO, 23 => 0x04408000#32
  | .HBM_HASH_MASK_LO, 8 | .HBM_HASH_MASK_LO, 24 => 0x08810000#32
  | .HBM_HASH_MASK_LO, 9 | .HBM_HASH_MASK_LO, 25 => 0x11020000#32
  | .HBM_HASH_MASK_LO, 10 | .HBM_HASH_MASK_LO, 26 => 0x00040000#32
  | r, _ => r.resetWord

/-- Registers that the index marks (L) (R612). -/
def Reg.lockable (r : Reg) : Bool :=
  match r with
  | .GLOBAL_FLASH_CFG => true
  | .BOB_CFG => true
  | .BOB_WATCHDOG => true
  | .BOB_LIVE_CFG => true
  | .CORR_EDGING_TIMEOUT => true
  | .CORR_EDGING_RETRY => true
  | .STORE_CFG => true
  | .STORE_LIVE_LEAD => true
  | .PLAN_LOOKAHEAD => true
  | .PLAN_DOSE_GAIN => true
  | .PLAN_SEAM_CFG => true
  | .PLAN_SCAN_RES => true
  | .PLAN_SCAN_LEAK => true
  | .PLAN_SCAN_REF => true
  | .PLAN_SCAN_HOT => true
  | .CARIL_CFG => true
  | .CARIL_WINDOW => true
  | .LANE_TEMP_LIMIT => true
  | .LANE_TIMEOUT => true
  | .STAGE_MET_CFG => true
  | .STAGE_SPEED_CFG => true
  | .STAGE_SPEED_THR => true
  | .STAGE_DIR_CFG => true
  | .STAGE_YAW => true
  | .STAGE_VMAX => true
  | .STAGE_AMAX => true
  | .STAGE_JMAX => true
  | .STAGE_SCAN_VEL => true
  | .STAGE_SETTLE => true
  | .STAGE_BEAT_CFG => true
  | .STAGE_TEMP_CFG => true
  | .STAGE_CAD_HORIZON => true
  | .STAGE_CAD_LINK_DELAY => true
  | .STAGE_CAD_TOL => true
  | .TRACK_RECENTRE => true
  | .NET_PORT_CFG => true
  | .NET_VLAN => true
  | .NET_IP4_ADDR => true
  | .NET_IP6_ADDR0 => true
  | .NET_IP6_ADDR1 => true
  | .NET_IP6_ADDR2 => true
  | .NET_IP6_ADDR3 => true
  | .NET_IP_CFG => true
  | .NET_UDP_PORT => true
  | .NET_MTU => true
  | .NET_PTP_CFG => true
  | .NET_PTP_TX_LAT => true
  | .NET_PTP_RX_LAT => true
  | .NET_ADDR_CFG => true
  | .NET_ADDR_MAC_LO => true
  | .NET_ADDR_MAC_HI => true
  | .NET_ADDR_IP0 => true
  | .NET_ADDR_IP1 => true
  | .NET_ADDR_IP2 => true
  | .NET_ADDR_IP3 => true
  | .NET_XPORT_CFG => true
  | .TIME_ADJ_LIM => true
  | .TIME_STEP_NS => true
  | .TIME_PPS_CFG => true
  | .HBM_RH_CFG => true
  | .HBM_RH_HOLD => true
  | .HBM_CE_THRESH => true
  | .POWER_CFG => true
  | .POWER_DORMANT_IDLE => true
  | .POWER_WAKE_EN => true
  | .POWER_CAP => true
  | .POWER_OP_MAX => true
  | .POWER_PMBUS_CFG => true
  | .SNAP_CFG => true
  | .FAULT_CODE_ACTION => true
  | .FAULT_STALL_CFG => true
  | _ => false

/-- The number of successive words of a register name: 64 for the page buffer, 12 for the slot payload, else 1. -/
def Reg.words (r : Reg) : Nat :=
  match r with
  | .GLOBAL_FLASH_DATA => 64
  | .RING_SLOT_DATA => 12
  | _ => 1

/-- The registers of block GLOBAL, by offset. -/
def Reg.blockGlobal : List Reg :=
  [.GLOBAL_IDENT, .GLOBAL_VERSION, .GLOBAL_TOPOLOGY, .GLOBAL_BOOT_STATUS, .GLOBAL_RESET_CAUSE,
   .GLOBAL_RESET_CMD, .GLOBAL_SCRATCH, .GLOBAL_ACCESS_LOG, .GLOBAL_ACCESS_COUNT, .GLOBAL_LOCK_SEL,
   .GLOBAL_LOCK_MASK, .GLOBAL_LOCK_COUNT, .GLOBAL_FLASH_CFG, .GLOBAL_FLASH_ADDR, .GLOBAL_FLASH_CMD,
   .GLOBAL_FLASH_STATUS, .GLOBAL_FLASH_DATA]

/-- The registers of block PRICK, by offset. -/
def Reg.blockPrick : List Reg :=
  [.PRICK_CMD, .PRICK_STATUS, .PRICK_SRC_ADDR_LO, .PRICK_SRC_ADDR_HI, .PRICK_SRC_SIZE, .PRICK_IMAGE_ID_LO,
   .PRICK_IMAGE_ID_HI, .PRICK_FUSE, .PRICK_PACKAGE_SERIAL]

/-- The registers of block LACE, by offset. -/
def Reg.blockLace : List Reg :=
  [.LACE_SCOPE_SEL, .LACE_CMD, .LACE_STREAM_ID, .LACE_SOURCE, .LACE_BUF_BASE, .LACE_BUF_SIZE,
   .LACE_STATUS, .LACE_NEXT_SEQ, .LACE_LINES_READY, .LACE_REJECT_SEQ, .LACE_REJECT_CODE,
   .LACE_REJECT_STITCH, .LACE_DROP_COUNT, .LACE_LIB_SEL, .LACE_LIB_SIZE, .LACE_LIB_BASE_LO,
   .LACE_LIB_BASE_HI, .LACE_LIB_CRC, .LACE_LIB_CMD, .LACE_LIB_STATUS, .LACE_LIB_FAIL_OFFSET,
   .LACE_LIB_ID_LO, .LACE_LIB_ID_HI]

/-- The registers of block BOB, by offset. -/
def Reg.blockBob : List Reg :=
  [.BOB_PIPE_SEL, .BOB_CFG, .BOB_WATCHDOG, .BOB_DISABLE, .BOB_FAIL_MASK, .BOB_IN_SERVICE, .BOB_BUSY,
   .BOB_UNIT_SEL, .BOB_UNIT_STATUS, .BOB_LIVE_CFG, .BOB_LIVE_CAPACITY, .BOB_LIVE_PENDING,
   .BOB_TILE_ISSUED, .BOB_TILE_DELIVERED, .BOB_CACHE_HITS, .BOB_CACHE_MISSES, .BOB_CROSSINGS_LO,
   .BOB_CROSSINGS_HI]

/-- The registers of block CORR, by offset. -/
def Reg.blockCorr : List Reg :=
  [.CORR_CFG, .CORR_NUM, .CORR_DEN, .CORR_PEND_BASE, .CORR_PEND_SIZE, .CORR_FMAP_BASE, .CORR_FMAP_SIZE,
   .CORR_EDGING_TIMEOUT, .CORR_EDGING_RETRY, .CORR_TERM_SEL, .CORR_TERM_GEOM, .CORR_TERM_COEF,
   .CORR_KERNEL_SEL, .CORR_KERNEL_DATA, .CORR_PARAM_CRC, .CORR_REACH, .CORR_PARTNERS, .CORR_ROWS_FINAL,
   .CORR_WAIT_MASK_LO, .CORR_WAIT_MASK_HI, .CORR_LOST_MASK_LO, .CORR_LOST_MASK_HI, .CORR_SAT_STATUS,
   .CORR_DOSE_CLAMP_COUNT, .CORR_EDGING_BAD_COUNT, .CORR_EDGING_UNKNOWN_COUNT]

/-- The registers of block STORE, by offset. -/
def Reg.blockStore : List Reg :=
  [.STORE_PIPE_SEL, .STORE_CFG, .STORE_BASE, .STORE_SIZE, .STORE_LIVE_LEAD, .STORE_AHEAD_LIMIT,
   .STORE_MODE_SEL, .STORE_STATUS, .STORE_ROWS_VERIFIED, .STORE_DELIVERED, .STORE_LIVE_COUNT,
   .STORE_LIVE_COST_MAX, .STORE_FEAS_SLACK, .STORE_FEAS_FAIL_ROW, .STORE_MODE_COUNT,
   .STORE_VERIFY_FAIL_COUNT, .STORE_STALL_CYCLES]

/-- The registers of block PLAN, by offset. -/
def Reg.blockPlan : List Reg :=
  [.PLAN_STRIPE_CMD, .PLAN_STRIPE_ID, .PLAN_STRIPE_LINES, .PLAN_STRIPE_CFG, .PLAN_LOOKAHEAD,
   .PLAN_STRIPE_STATUS, .PLAN_ABORT_STRIPE, .PLAN_ABORT_WHERE, .PLAN_ABORT_CAUSE, .PLAN_PASS_SEL,
   .PLAN_PASS_X, .PLAN_PASS_Y, .PLAN_PASS_FEED, .PLAN_PASS_SHARE, .PLAN_DOSE_GAIN, .PLAN_SEAM_CFG,
   .PLAN_SEAM_BASE, .PLAN_EXPOSE, .PLAN_DEFECT_SEL, .PLAN_DEFECT_DATA, .PLAN_SEAM_DEFECT_SEL,
   .PLAN_SEAM_DEFECT_DATA, .PLAN_REMAP_SEL, .PLAN_REMAP_DATA, .PLAN_SCAN_CMD, .PLAN_SCAN_CFG,
   .PLAN_SCAN_RES, .PLAN_SCAN_LEAK, .PLAN_SCAN_REF, .PLAN_SCAN_HOT, .PLAN_SCAN_TABLE_LO,
   .PLAN_SCAN_TABLE_HI, .PLAN_SCAN_SLOT, .PLAN_SCAN_STATUS, .PLAN_SHIFT, .PLAN_COMP_STATUS,
   .PLAN_COMP_FAIL_WHERE, .PLAN_COMP_FAIL_LINE, .PLAN_SEAM_LOST, .PLAN_SEAM_BAD_COUNT]

/-- The registers of block CARIL, by offset. -/
def Reg.blockCaril : List Reg :=
  [.CARIL_CFG, .CARIL_WINDOW, .CARIL_TRIM_SEL, .CARIL_TRIM_DATA, .CARIL_DAMP_STATUS, .CARIL_TEMP_LEVEL,
   .CARIL_BEAT_PEALS, .CARIL_ABORTS]

/-- The registers of block LANE, by offset. -/
def Reg.blockLane : List Reg :=
  [.LANE_SEL, .LANE_CMD, .LANE_FFE, .LANE_RX_EQ, .LANE_RX_DFE, .LANE_SKEW, .LANE_TEMP_LIMIT,
   .LANE_TIMEOUT, .LANE_STATUS, .LANE_EYE, .LANE_DRV_TEMP, .LANE_DRV_CRC_BAD, .LANE_DRV_LOST,
   .LANE_ECHO_BAD]

/-- The registers of block STAGE, by offset. -/
def Reg.blockStage : List Reg :=
  [.STAGE_MET_SEL, .STAGE_MET_CFG, .STAGE_MET_PHASE, .STAGE_MET_CMD, .STAGE_POS_LO, .STAGE_POS_HI,
   .STAGE_SPEED, .STAGE_EST_STATUS, .STAGE_SPEED_CFG, .STAGE_SPEED_THR, .STAGE_DIR_CFG, .STAGE_YAW,
   .STAGE_MET_BAD_COUNT, .STAGE_CMP_TARGET_LO, .STAGE_CMP_TARGET_HI, .STAGE_CMP_CFG, .STAGE_CMP_CMD,
   .STAGE_CMP_STATUS, .STAGE_VMAX, .STAGE_AMAX, .STAGE_JMAX, .STAGE_SCAN_VEL, .STAGE_SCAN_CFG,
   .STAGE_SETTLE, .STAGE_X0_LO, .STAGE_X0_HI, .STAGE_Y0_LO, .STAGE_Y0_HI, .STAGE_MOVE_X_LO,
   .STAGE_MOVE_X_HI, .STAGE_MOVE_Y_LO, .STAGE_MOVE_Y_HI, .STAGE_MOVE_CMD, .STAGE_PROFILE_STATUS,
   .STAGE_BEAT_CFG, .STAGE_BEAT_STATUS, .STAGE_BEAT_PERIOD, .STAGE_EXT_COUNT, .STAGE_TEMP_CFG,
   .STAGE_TEMP_STATUS, .STAGE_CAD_HORIZON, .STAGE_CAD_LINK_DELAY, .STAGE_CAD_TOL, .STAGE_CAD_STATUS,
   .STAGE_CAD_RING, .STAGE_CAD_ERR_COUNT]

/-- The registers of block TRACK, by offset. -/
def Reg.blockTrack : List Reg :=
  [.TRACK_CFG, .TRACK_AXIS_SEL, .TRACK_KP, .TRACK_KI, .TRACK_KR, .TRACK_REP_Q, .TRACK_SHIFTS, .TRACK_ILIM,
   .TRACK_ULIM, .TRACK_BANK_CMD, .TRACK_BANK_STATUS, .TRACK_RECENTRE, .TRACK_PARK, .TRACK_MAP_SEL,
   .TRACK_MAP_INDEX, .TRACK_MAP_BASE_LO, .TRACK_MAP_BASE_HI, .TRACK_MAP_DATA, .TRACK_REP_CFG,
   .TRACK_REP_CMD, .TRACK_REP_STATUS, .TRACK_RESID, .TRACK_WORD, .TRACK_INTEG, .TRACK_SHIFT_STATUS,
   .TRACK_SAT_STATUS, .TRACK_HOLD_COUNT, .TRACK_LATENCY]

/-- The registers of block NET, by offset. -/
def Reg.blockNet : List Reg :=
  [.NET_PORT_SEL, .NET_PORT_CFG, .NET_PORT_STATUS, .NET_VLAN, .NET_IP4_ADDR, .NET_IP6_ADDR0,
   .NET_IP6_ADDR1, .NET_IP6_ADDR2, .NET_IP6_ADDR3, .NET_IP_CFG, .NET_UDP_PORT, .NET_MTU, .NET_PTP_CFG,
   .NET_PTP_TX_LAT, .NET_PTP_RX_LAT, .NET_ADDR_SEL, .NET_ADDR_CFG, .NET_ADDR_MAC_LO, .NET_ADDR_MAC_HI,
   .NET_ADDR_IP0, .NET_ADDR_IP1, .NET_ADDR_IP2, .NET_ADDR_IP3, .NET_XPORT_CFG, .NET_FLOW_SEL,
   .NET_FLOW_NEXT, .NET_FLOW_RECEIVED, .NET_RX_DISCARD, .NET_XPORT_BAD, .NET_FLOW_ORDER_COUNT]

/-- The registers of block TIME, by offset. -/
def Reg.blockTime : List Reg :=
  [.TIME_CMD, .TIME_LATCH_SEC_LO, .TIME_LATCH_SEC_HI, .TIME_LATCH_STAGE_LO, .TIME_LATCH_STAGE_HI,
   .TIME_LATCH_NS, .TIME_SET_SEC_LO, .TIME_SET_SEC_HI, .TIME_SET_NS, .TIME_SERVO_OFFSET_LO,
   .TIME_SERVO_OFFSET_HI, .TIME_SERVO_CMD, .TIME_SERVO_KP, .TIME_SERVO_KI, .TIME_SERVO_SHIFT,
   .TIME_ADJ_LIM, .TIME_STEP_NS, .TIME_ADJ, .TIME_FI, .TIME_STATUS, .TIME_TRIG_SEL, .TIME_TRIG_CFG,
   .TIME_TRIG_SEC_LO, .TIME_TRIG_SEC_HI, .TIME_TRIG_NS, .TIME_TRIG_CMD, .TIME_TRIG_STATUS, .TIME_PPS_CFG,
   .TIME_PPS_OFFSET, .TIME_PPS_IN_SEC_LO, .TIME_PPS_IN_SEC_HI, .TIME_PPS_IN_NS, .TIME_PPS_IN_SEQ]

/-- The registers of block HBM, by offset. -/
def Reg.blockHbm : List Reg :=
  [.HBM_HASH_SEL, .HBM_CMD, .HBM_HASH_MASK_LO, .HBM_HASH_MASK_HI, .HBM_RH_CFG, .HBM_RH_HOLD,
   .HBM_CE_THRESH, .HBM_PC_SEL, .HBM_SCRUB_BASE_LO, .HBM_SCRUB_BASE_HI, .HBM_SCRUB_SIZE_LO,
   .HBM_SCRUB_SIZE_HI, .HBM_SCRUB_CFG, .HBM_SCRUB_CMD, .HBM_INJECT_LO, .HBM_INJECT_HI, .HBM_INJECT_CMD,
   .HBM_STATUS, .HBM_TEMP, .HBM_PC_STATUS, .HBM_PC_CE_COUNT, .HBM_PC_DELAY0, .HBM_PC_DELAY1,
   .HBM_PC_DELAY2, .HBM_PC_DELAY3, .HBM_CE_COUNT, .HBM_UE_COUNT, .HBM_AF_COUNT, .HBM_SRAM_CE_COUNT,
   .HBM_SRAM_UE_COUNT, .HBM_ERR_LOG_ADDR_LO, .HBM_ERR_LOG_ADDR_HI, .HBM_ERR_LOG_INFO, .HBM_RH_LOG_SEL,
   .HBM_RH_LOG_ADDR_LO, .HBM_RH_LOG_ADDR_HI, .HBM_RH_LOG_INFO, .HBM_RH_EVENTS, .HBM_RH_LOG_TIME_LO,
   .HBM_RH_LOG_TIME_HI]

/-- The registers of block DMA, by offset. -/
def Reg.blockDma : List Reg :=
  [.DMA_ACTIVE, .DMA_IN_FLIGHT, .DMA_BYTES_LO, .DMA_BYTES_HI, .DMA_PTP_DROP]

/-- The registers of block RING, by offset. -/
def Reg.blockRing : List Reg :=
  [.RING_SEL, .RING_SLOT_SEL, .RING_GRANT_SEL, .RING_GRANT, .RING_GRANT_BASE, .RING_GRANT_SIZE,
   .RING_BASE_LO, .RING_BASE_HI, .RING_CFG, .RING_TAIL, .RING_HEAD, .RING_STATUS, .RING_CMD,
   .RING_SLOT_STATUS, .RING_SLOT_TAG, .RING_SLOT_RELEASE, .RING_SLOT_DATA]

/-- The registers of block CHECK, by offset. -/
def Reg.blockCheck : List Reg :=
  [.CHECK_SEL, .CHECK_CFG, .CHECK_POLY, .CHECK_INIT, .CHECK_XOROUT, .CHECK_SEQ, .CHECK_BASE_LO,
   .CHECK_BASE_HI, .CHECK_SIZE_LO, .CHECK_SIZE_HI, .CHECK_EXPECT, .CHECK_CMD, .CHECK_RESULT,
   .CHECK_STATUS, .CHECK_LEN_LO, .CHECK_LEN_HI]

/-- The registers of block CLOCK, by offset. -/
def Reg.blockClock : List Reg :=
  [.CLOCK_PLL_SEL, .CLOCK_PLL_STATUS, .CLOCK_ISLAND_SEL, .CLOCK_ISLAND_FREQ, .CLOCK_ISLAND_STATUS,
   .CLOCK_XING_SEL, .CLOCK_XING_INFO, .CLOCK_XING_STATUS, .CLOCK_XING_DISCARD]

/-- The registers of block POWER, by offset. -/
def Reg.blockPower : List Reg :=
  [.POWER_CFG, .POWER_DORMANT_IDLE, .POWER_CMD, .POWER_WAKE_EN, .POWER_CAP, .POWER_OP_MAX,
   .POWER_PMBUS_CFG, .POWER_STATE, .POWER_WAKE_STATUS, .POWER_REFUSE_COUNT, .POWER_ABORT_COUNT,
   .POWER_LAST_REFUSAL, .POWER_ISLAND_SEL, .POWER_ISLAND_STATE, .POWER_OP_STATUS, .POWER_AON_LOAD,
   .POWER_AON_CAUSE, .POWER_EST, .POWER_THROTTLE_SEL, .POWER_THROTTLE_COUNT]

/-- The registers of block SNAP, by offset. -/
def Reg.blockSnap : List Reg :=
  [.SNAP_CMD, .SNAP_CFG, .SNAP_STATUS, .SNAP_MISSED, .SNAP_SEL, .SNAP_DATA]

/-- The registers of block FAULT, by offset. -/
def Reg.blockFault : List Reg :=
  [.FAULT_CODE_SEL, .FAULT_CODE_STATUS, .FAULT_CODE_ACTION, .FAULT_FIRST, .FAULT_LOG_SEL, .FAULT_LOG_HEAD,
   .FAULT_LOG_TIME_LO, .FAULT_LOG_TIME_HI, .FAULT_LOG_CODE, .FAULT_LOG_STAGE, .FAULT_STALL_CFG,
   .FAULT_STALL_STATUS, .FAULT_TEMP, .FAULT_TRIP_CAUSE]

/-- The registers of block TL, by offset. -/
def Reg.blockTl : List Reg :=
  [.TL_SEL, .TL_PEEK]

/-- The registers of the block whose base is b × 0x1_0000 (Table 21-2). -/
def Reg.ofBlock (b : Nat) : List Reg :=
  match b with
  | 0x00 => Reg.blockGlobal
  | 0x01 => Reg.blockPrick
  | 0x02 => Reg.blockLace
  | 0x03 => Reg.blockBob
  | 0x04 => Reg.blockCorr
  | 0x05 => Reg.blockStore
  | 0x06 => Reg.blockPlan
  | 0x07 => Reg.blockCaril
  | 0x08 => Reg.blockLane
  | 0x09 => Reg.blockStage
  | 0x0A => Reg.blockTrack
  | 0x0B => Reg.blockNet
  | 0x0C => Reg.blockTime
  | 0x0D => Reg.blockHbm
  | 0x0E => Reg.blockDma
  | 0x0F => Reg.blockRing
  | 0x10 => Reg.blockCheck
  | 0x11 => Reg.blockClock
  | 0x12 => Reg.blockPower
  | 0x13 => Reg.blockSnap
  | 0x14 => Reg.blockFault
  | 0x15 => Reg.blockTl
  | _ => []

/-- The register at a BAR0 byte offset, with the word number inside an array; none where the offset is unmapped (R604). -/
def Reg.at? (off : Nat) : Option (Reg × Nat) :=
  match (Reg.ofBlock (off / 0x10000)).find? (fun r => r.offset ≤ off && off < r.offset + 4 * r.words) with
  | some r => some (r, (off - r.offset) / 4)
  | none => none

end Sys2Proof.Machine
end

