-- ==== Sys2Proof/Machine/RegFile.lean ====
section
/-! DEFINITION. The register file: one home for the value of every register of the map. A register that a select
register steers has one word per instance (R611). Only words that differ from their reset value are listed. -/

namespace Sys2Proof.Machine

/-- Words by register and instance; an unlisted word is at its reset value. -/
abbrev RegFile := Sparse Word

/-- Index of instance i of a register. -/
def Reg.key (r : Reg) (i : Nat) : Nat := r.offset * 65536 + i % 65536

/-- The word of instance i of register r. -/
def RegFile.get (f : RegFile) (r : Reg) (i : Nat) : Word :=
  (Sparse.find? f (r.key i)).getD (r.reset (i % 65536))

/-- The file with word w in instance i of register r. -/
def RegFile.set (f : RegFile) (r : Reg) (i : Nat) (w : Word) : RegFile :=
  if w = r.reset (i % 65536) then Sparse.erase f (r.key i) else Sparse.put f (r.key i) w

/-- The value of a field. -/
def RegFile.fld (f : RegFile) (x : RegField) (i : Nat) : Nat := bits (f.get x.reg i).toNat x.hi x.lo

/-- The file with a field set to v. -/
def RegFile.setFld (f : RegFile) (x : RegField) (i : Nat) (v : Nat) : RegFile :=
  f.set x.reg i (Machine.setFld (f.get x.reg i) x.hi x.lo v)

/-- Every listed word of the registers of l, instances 0 to n − 1, put back to its reset value. -/
def RegFile.resetAll (f : RegFile) (l : List Reg) (n : Nat) : RegFile :=
  f.filter (fun p => !(l.any (fun r => p.1 / 65536 == r.offset && p.1 % 65536 < n)))

/-- The canonical form: indexes strictly rising, and no listed word equal to its register's reset value. -/
def RegFile.wf (f : RegFile) : Bool :=
  Sparse.sorted f &&
    f.all (fun p => match Reg.at? (p.1 / 65536) with
      | some (r, _) => decide (r.key (p.1 % 65536) = p.1) && decide (p.2 ≠ r.reset (p.1 % 65536))
      | none => false)

end Sys2Proof.Machine
end

