-- ==== Sys2Proof/Machine/State.lean ====
section
/-! DEFINITION. The state of the EW6416 as plain data, the state right after reset, and the reasons a step can stop. -/

namespace Sys2Proof.Machine

/-- The device. `now` is the model's own clock in ps, moved only by CLOCK_STEP; `cyc` what has happened since it last moved; `freeCount` counts free values used;
`regs` is the register file; `dram` the DRAM bytes (0 where unlisted, R443) and `dramMark` the difference between
the stored and the computed check bits of each 16-byte codeword; `out` everything sent, newest first; `pending` the
commands that wait, first in, first out. -/
structure State where
  pending : List Instr
  now : Nat
  cyc : List CycleEvent
  freeCount : Nat
  regs : RegFile
  out : List Out
  str : Structure
  glob : GlobalSt
  prick : PrickSt
  fault : FaultSt
  snap : SnapSt
  smbus : SmbusSt
  lace : LaceSt
  bob : BobSt
  corr : CorrSt
  store : StoreSt
  plan : PlanSt
  caril : CarilSt
  stage : StageSt
  cad : CadSt
  track : TrackSt
  net : NetSt
  time : TimeSt
  hbm : HbmSt
  check : CheckSt
  dma : DmaSt
  clock : ClockSt
  power : PowerSt
  tl : Vector Pers 4
  dram : Sparse Byte
  dramMark : Sparse Nat
deriving DecidableEq, Repr

/-- No spec rule stops the block: what the manual calls a fault is raised, logged and survived (R527, R528). -/
inductive Fault where
deriving DecidableEq, Repr

/-- Why a step has no meaning. Both are safe: the model stops where the device would go on. -/
inductive Refusal where
  /-- Raised by an arm of `exec` whose command has no meaning yet. -/
  | notModelled (mnemonic : String)
deriving DecidableEq, Repr

/-- Global state after reset (Tables 18-1, 18-7): phase 0, not READY; nothing in flash (0xFF). -/
def GlobalSt.reset : GlobalSt :=
  { phase := 0, ready := false, safeBoot := false, halted := false, failCode := 0, booting := some true, crs := true,
    perstAsserted := false, linkUp := false, aspm := false, brownout := false, aonReset := false, fuseSerial := 0x00016416, fuseKeyDigest := none,
    fuseSigRequired := false, fuseEpochMin := 0,
    flash := { bytes := [], sfdp := none, undef := [], running := none }
    jtag := JtagSt.reset }

/-- The fault logic after power-on. -/
def FaultSt.reset : FaultSt :=
  { fifo := [], waiting := [], log := [], logNext := 0, logTotal := 0, aonDamp := false, tripped := false,
    thermtripN := true, stallTimers := [], junctionLevel := 0, softArmed := true, hardArmed := true }

/-- The snapshot store after power-on: HELD = 0 (Table 18-4). -/
def SnapSt.reset : SnapSt :=
  { words := Vector.replicate 64 0#32, held := false, capturing := none, seq := 0, outHigh := false, outUntil := 0 }

/-- The load engine after reset. SLOT 2 is "none" (Table 2-20). -/
def PrickSt.reset : PrickSt :=
  { phase := .none, isLoad := false, staged := [], avail := 0, verdict := none, thenFlr := false, thenWarm := false, lastOk := false, fromHost := false,
    slot := 0, failSection := 0, failCode := 0, imageId := 0, applied := [] }

/-- The device at the release of power-on reset, before any boot phase has run. -/
def State.reset : State :=
  { pending := [], now := 0, cyc := [], freeCount := 0, regs := [], out := [], str := Structure.safeStructure,
    glob := GlobalSt.reset, prick := PrickSt.reset, fault := FaultSt.reset, snap := SnapSt.reset,
    smbus := ⟨0, 0, 0, 0⟩, lace := LaceSt.reset, bob := BobSt.reset, corr := CorrSt.reset, store := StoreSt.reset,
    plan := PlanSt.reset, caril := CarilSt.reset, stage := StageSt.reset, cad := CadSt.reset,
    track := TrackSt.reset, net := NetSt.reset, time := TimeSt.reset, hbm := HbmSt.reset, check := CheckSt.reset,
    dma := DmaSt.reset, clock := ClockSt.reset, power := PowerSt.reset, tl := Vector.replicate 4 Pers.reset, dram := [], dramMark := [] }

end Sys2Proof.Machine
end

