-- ==== Sys2Proof/Machine/Ops.lean ====
section
/-! DEFINITION. The operations every family shares: reading and writing registers and their fields, raising a fault, sending,
taking a free value, the DRAM bytes, the device's own place in its column, and the stage time base. -/

namespace Sys2Proof.Machine

/-! ## Registers -/

/-- Field x of instance i. -/
def State.fd (s : State) (x : RegField) (i : Nat := 0) : Nat := s.regs.fld x i

/-- Field x of instance i is not 0. -/
def State.fb (s : State) (x : RegField) (i : Nat := 0) : Bool := s.regs.fld x i != 0

/-- Set field x of instance i. -/
def State.setFd (s : State) (x : RegField) (v : Nat) (i : Nat := 0) : State := { s with regs := s.regs.setFld x i v }

/-- The word of instance i of register r. -/
def State.rg (s : State) (r : Reg) (i : Nat := 0) : Word := s.regs.get r i

/-- Set the word of instance i of register r. -/
def State.setRg (s : State) (r : Reg) (w : Word) (i : Nat := 0) : State := { s with regs := s.regs.set r i w }

/-- Add n to a counter field, saturating at the field's largest value. -/
def State.bump (s : State) (x : RegField) (n : Nat := 1) (i : Nat := 0) : State :=
  s.setFd x (satInc (x.hi + 1 - x.lo) (s.fd x i) n) i

/-- Add n to a counter field, wrapping. -/
def State.bumpWrap (s : State) (x : RegField) (n : Nat := 1) (i : Nat := 0) : State := s.setFd x (s.fd x i + n) i

/-- The 64-bit value of a _LO and _HI pair. -/
def State.pair (s : State) (lo hi : RegField) (i : Nat := 0) : Nat := s.fd lo i + 2 ^ 32 * s.fd hi i

/-! ## Faults, sending, free values -/

/-- Add a raising of code c to a list that is coalesced by code (R527). -/
def coalesce (l : List (Nat × Nat)) (c n : Nat) : List (Nat × Nat) :=
  match l with
  | [] => [(c, n)]
  | (d, m) :: t => if d = c then (d, min 255 (m + n)) :: t else (d, m) :: coalesce t c n

/-- A block raises a fault (R527): one raising enters the FIFO to AON; when the FIFO is full it waits, coalesced by code. -/
def State.raise (s : State) (c : FaultCode) : State :=
  let f := s.fault
  if f.waiting = [] ∧ (decide (f.fifo.length < 8) || decide (f.fifo.length < 2 ^ (3 + Config.faultFifoLog.val))) = true then
    { s with fault := { f with fifo := f.fifo ++ [(c.num, 1)] } }
  else { s with fault := { f with waiting := coalesce f.waiting c.num 1 } }

/-- Raise c when b holds. -/
def State.raiseIf (s : State) (b : Bool) (c : FaultCode) : State := if b then s.raise c else s

/-- Something leaves the device; while boundary scan drives the lanes, nothing leaves on one (R638). -/
def State.emit (s : State) (o : Out) : State := if s.glob.jtag.drives && o.onLane then s else { s with out := o :: s.out }

/-- An MSI-X vector of function 0 is raised (R478): delivered, or recorded in the pending-bit array while masked. -/
def State.irq (s : State) (v : Nat) : State :=
  if (s.dma.masked[v]?).getD true then { s with dma := { s.dma with pend := s.dma.pend.setIfInBounds v true } }
  else s.emit (.msix 0 v)

/-- Event e has happened in the present cycle. -/
def State.saw (s : State) (e : CycleEvent) : Bool := s.cyc.contains e

/-- Event e happens in the present cycle. -/
def State.mark (s : State) (e : CycleEvent) : State := { s with cyc := e :: s.cyc }

/-- The device sets bits of instance i of register r; a W1C write of this cycle does not clear them (R11). -/
def State.setBits (s : State) (r : Reg) (mask : Word) (i : Nat := 0) : State :=
  (s.setRg r (s.rg r i ||| mask) i).mark (.bitsSet r i mask)

/-- The device sets bits of a field. -/
def State.setFlag (s : State) (x : RegField) (mask : Nat := 1) (i : Nat := 0) : State :=
  (s.setFd x (Nat.lor (s.fd x i) mask) i).mark (.bitsSet x.reg i (BitVec.ofNat 32 (mask * 2 ^ x.lo)))

/-- The bits of instance i of register r that the device has set in this cycle. -/
def State.setNow (s : State) (r : Reg) (i : Nat) : Word :=
  s.cyc.foldl (fun m e => match e with
    | .bitsSet q j k => if q = r ∧ j = i then m ||| k else m
    | _ => m) 0

/-- A free value below 2^w, and the state that has used it. -/
def State.free (s : State) (w : Nat) : Nat × State :=
  (Config.freeValue s.freeCount % 2 ^ w, { s with freeCount := s.freeCount + 1 })

/-! ## The column and the geometry (Chapter 1) -/

/-- Node number of device d of this column (R1). -/
def State.nodeOf (s : State) (d : Nat) : Nat := s.str.columnId * 64 + d

/-- This device's node number (R1). -/
def State.node (s : State) : Nat := s.nodeOf s.str.devIndex

/-- R: beam rows (R25, Table 1-6). -/
def State.geoR (s : State) : Nat := 256 * 2 ^ (min 2 s.str.rowsSel)
/-- C = 16,384 / R (R25). -/
def State.geoC (s : State) : Nat := 16384 / s.geoR
/-- B: beam pitch in pixels (R25). -/
def State.geoB (s : State) : Nat := 16 * 2 ^ (min 2 s.str.pitchSel)
/-- M = R / B (R26). -/
def State.geoM (s : State) : Nat := s.geoR / s.geoB
/-- W = B × C pixels (R26). -/
def State.geoW (s : State) : Nat := s.geoB * s.geoC
/-- N: the column size (R19, R20). -/
def State.geoN (s : State) : Nat := s.str.columnSize
/-- P: the pixel size in LU (R4). -/
def State.pixel (s : State) : Nat := 40 * 2 ^ (min 2 (s.fd F.PLAN_STRIPE_CFG_PIXEL_SEL))
/-- L: the stripe's lines. -/
def State.lines (s : State) : Nat := s.fd F.PLAN_STRIPE_LINES_LINES
/-- The stripe ID. -/
def State.stripeId (s : State) : Nat := s.fd F.PLAN_STRIPE_ID_ID
/-- The number of passes. -/
def State.passes (s : State) : Nat := s.fd F.PLAN_STRIPE_CFG_PASSES_M1 + 1
/-- SOURCE = store. -/
def State.fromStore (s : State) : Bool := s.fb F.PLAN_STRIPE_CFG_SOURCE
/-- Native personality. -/
def State.native (s : State) : Bool := s.str.mode == 0
/-- Lead or solo role (Table 1-1). -/
def State.leads (s : State) : Bool := s.str.role != .member
/-- Beats of a pass: L + (R − 1) × B (R33). -/
def State.passBeats (s : State) : Nat := s.lines + (s.geoR - 1) * s.geoB
/-- The device of index d exists beside this one. -/
def State.hasNeighbour (s : State) (side : Nat) : Bool :=
  if side = 0 then decide (0 < s.str.devIndex) else decide (s.str.devIndex + 1 < s.geoN)
/-- The device index on a side (0: i − 1, 1: i + 1). -/
def State.neighbour (s : State) (side : Nat) : Nat := if side = 0 then s.str.devIndex - 1 else s.str.devIndex + 1

/-- ARMED to RUN_OUT. -/
def StripeState.active (p : StripeState) : Bool :=
  match p with
  | .armed | .runIn | .exposing | .runOut => true
  | _ => false

/-- RUN_IN to RUN_OUT. -/
def StripeState.running (p : StripeState) : Bool :=
  match p with
  | .runIn | .exposing | .runOut => true
  | _ => false

/-- The code of Table 1-4. -/
def StripeState.code (p : StripeState) : Nat :=
  match p with
  | .idle => 0 | .armed => 1 | .runIn => 2 | .exposing => 3 | .runOut => 4 | .done => 5 | .aborted => 6

/-! ## Blocks of the state -/

/-- Lane n; lanes from 18 on read asleep. -/
def State.lane (s : State) (n : Nat) : Lane := (s.caril.lanes[n]?).getD Lane.asleep

/-- Replace lane n. -/
def State.setLane (s : State) (n : Nat) (l : Lane) : State :=
  { s with caril := { s.caril with lanes := s.caril.lanes.setIfInBounds n l } }

/-- Channel c of metrology. -/
def State.chan (s : State) (c : Nat) : MetCh := (s.stage.met[c]?).getD MetCh.first

/-- Replace channel c. -/
def State.setChan (s : State) (c : Nat) (m : MetCh) : State :=
  { s with stage := { s.stage with met := s.stage.met.setIfInBounds c m } }

/-- Personality j. -/
def State.pers (s : State) (j : Nat) : Pers := (s.tl[j]?).getD Pers.reset

/-- Replace personality j. -/
def State.setPers (s : State) (j : Nat) (p : Pers) : State := { s with tl := s.tl.setIfInBounds j p }

/-- A stack is hot (R431). -/
def State.stackHot (s : State) : Bool := s.hbm.hot.toList.any id

/-- Island i. -/
def State.island (s : State) (i : Nat) : Island := (s.clock.islands[i]?).getD ⟨false, false, false, false, 0⟩

/-- Replace island i. -/
def State.setIsland (s : State) (i : Nat) (x : Island) : State :=
  { s with clock := { s.clock with islands := s.clock.islands.setIfInBounds i x } }

/-- Island i is held in reset (R486, R535). -/
def Island.inReset (x : Island) : Bool := x.pllReset || x.freqReset || x.ownReset

/-- Every TL-40 personality's stripe is IDLE, DONE or ABORTED. -/
def State.tlQuiet (s : State) : Bool := s.tl.toList.all (fun p => !p.state.active)

/-- Some pipeline's stripe is in RUN_IN to RUN_OUT. -/
def State.anyRunning (s : State) : Bool := s.plan.state.running || s.tl.toList.any (fun p => p.state.running)

/-- Some pipeline's stripe is in ARMED to RUN_OUT. -/
def State.anyActive (s : State) : Bool := s.plan.state.active || !s.tlQuiet

/-- Every pipeline's stripe is IDLE. -/
def State.allIdle (s : State) : Bool := s.plan.state == .idle && s.tl.toList.all (fun p => p.state == .idle)

/-- Device time is valid (R413). -/
def State.timeValid (s : State) : Bool := s.fb F.TIME_STATUS_VALID

/-- The device-time count N (R412). -/
def State.timeN (s : State) : Nat := (s.time.sec * 1000000000 + s.time.ns) % 2 ^ 64

/-- N for a log: 0 while time is invalid. -/
def State.stampN (s : State) : Nat := if s.timeValid then s.timeN else 0

/-- Clamp a natural into lo to hi ("other values act as the nearer limit"). -/
def clampN (lo hi v : Nat) : Nat := max lo (min hi v)

/-- H in units of 100 ps (R366): STAGE_CAD_HORIZON, 100 to 1,000 ns. -/
def State.horizon (s : State) : Int := 10 * (clampN 100 1000 (s.fd F.STAGE_CAD_HORIZON_H_NS) : Nat)

/-- LEAD in ns (R295): 100 to 300. -/
def State.leadNs (s : State) : Nat := clampN 100 300 (s.fd F.CARIL_CFG_LEAD_NS)

/-- DIR of the scan: +1 or −1. -/
def State.scanDir (s : State) : Int := if s.fb F.STAGE_SCAN_CFG_DIR then -1 else 1

/-- The motion limits (Table 9-3). -/
def State.limits (s : State) : Limits :=
  { v := (s.fd F.STAGE_VMAX_V : Rat) / 2 ^ 16, a := (s.fd F.STAGE_AMAX_A : Rat) / 2 ^ 24,
    j := (s.fd F.STAGE_JMAX_J : Rat) / 2 ^ 40 }

/-- Axis i of the profile generator: 0 X, 1 Y. -/
def State.axis (s : State) (i : Fin 2) : Axis := s.stage.axes[i]

/-- Replace axis i. -/
def State.setAxis (s : State) (i : Fin 2) (x : Axis) : State :=
  { s with stage := { s.stage with axes := s.stage.axes.set i x } }

/-- VMAX as a multiple of 2^−16 LU/µs. -/
def State.vmaxK (s : State) : Nat := s.fd F.STAGE_VMAX_V

/-- Axis i gets a new target, planned from the state at the next update, or at the update of this cycle (R351, Table 9-10). -/
def State.aim (s : State) (i : Fin 2) (g : AxisGoal) : State :=
  s.setAxis i (if s.saw .profileTick then (s.axis i).planFor s.limits s.vmaxK g else { s.axis i with goal := some g })

/-- Both axes stop at the limits where they are (R352). -/
def State.stopAxes (s : State) : State :=
  let s := (s.aim 0 .stop).aim 1 .stop
  { s with stage := { s.stage with spStop := true } }

/-- AON itself is in reset from a brown-out of its regulator to the release of power-on reset (R508, R549). -/
def State.aonUp (s : State) : Bool := !s.glob.aonReset

/-- An event of AON. -/
def State.whenAon (s : State) (f : State → State) : State := if s.aonUp then f s else s

/-- Before READY every block outside AON is in reset, and its events do nothing (R548, R556). -/
def State.whenUp (s : State) (f : State → State) : State := if s.glob.ready then f s else s

/-- An event of a block outside AON: nothing before READY, and nothing in DORMANT, where the islands are in retention or off
(Table 15-2). -/
def State.whenReady (s : State) (f : State → State) : State :=
  if s.glob.ready && s.power.state != .dormant then f s else s

/-- An engine's operation on DRAM: its requests are held while a fill runs (R444), so it does not come about then. -/
def State.whenDram (s : State) (f : State → State) : State := s.whenReady (fun s => if s.hbm.filling then s else f s)

/-! ## Time -/

/-- The stage time base in units of 100 ps (R337). -/
def State.stageT (s : State) : Int := ((s.now - s.stage.epoch) / 100 : Nat)

/-- µs elapsed since the model's time t. -/
def State.sinceUs (s : State) (t : Nat) : Nat := (s.now - t) / 1000000

/-! ## DRAM bytes -/

/-- The DRAM byte at a physical address; never-written DRAM holds the 0 of the fill (R443). -/
def State.dramByte (s : State) (a : Nat) : Byte := Sparse.get 0 s.dram a

/-- n DRAM bytes from address a. -/
def State.dramBytes (s : State) (a n : Nat) : List Byte := Sparse.range 0 s.dram a n

/-- Little-endian value of n DRAM bytes. -/
def State.dramLe (s : State) (a n : Nat) : Nat := leVal (s.dramBytes a n)

/-- Store bytes in DRAM. -/
def State.dramPut (s : State) (a : Nat) (l : List Byte) : State := { s with dram := Sparse.setRange 0 s.dram a l }

/-- Base address of the native pipeline's partition (R59, R61), and its size. -/
def State.partBase (s : State) : Nat :=
  match s.str.pipes with
  | [] => 0
  | p :: _ => (s.str.parts[p.partition]?.getD (0, 0)).1
def State.partSize (s : State) : Nat :=
  match s.str.pipes with
  | [] => 0
  | p :: _ => (s.str.parts[p.partition]?.getD (0, 0)).2

/-! ## Pipelines and their bobbins (R59, R161) -/

/-- Pipeline that pillow p belongs to (R59). -/
def State.pipeOfPillow (s : State) (p : Nat) : Option Nat :=
  (List.range s.str.pipes.length).find? (fun j => match s.str.pipes[j]? with
    | some c => bit c.pillows p == 1
    | none => false)

/-- Pipeline of bobbin b. -/
def State.pipeOf (s : State) (b : Nat) : Nat := (s.pipeOfPillow (b / 8)).getD 0

/-- The tiles of pipeline j. -/
def State.tiles (s : State) (j : Nat) : TileQueue := (s.bob.queues[j]?).getD TileQueue.empty

/-- Replace the tiles of pipeline j. -/
def State.setTiles (s : State) (j : Nat) (q : TileQueue) : State :=
  { s with bob := { s.bob with queues := s.bob.queues.setIfInBounds j q } }

/-- The bobbins of pipeline j change. -/
def State.eachUnit (s : State) (j : Nat) (f : BobUnit → BobUnit) : State :=
  { s with bob := { s.bob with units := s.bob.units.mapFinIdx (fun b u _ => if s.pipeOf b = j then f u else u) } }

/-- A bobbin without its work. -/
def BobUnit.drop (u : BobUnit) : BobUnit := { u with job := .idle, suspended := none, held := none }

/-- No tile of the queue is asked for any more, and its results are discarded (R192). -/
def TileQueue.drop (q : TileQueue) : TileQueue := { q with again := [], runs := [], results := [] }

/-- Every job of pipeline j's stripe stops (R192). -/
def State.stopTiles (s : State) (j : Nat) : State := (s.eachUnit j BobUnit.drop).setTiles j (s.tiles j).drop

/-- A tile of pipeline j delivered in this cycle counts as discarded: DISARM or ABORT takes effect before it (Table 4-4). -/
def untile (j : Nat) (s : State) : State :=
  s.cyc.foldl (fun s e => match e with
    | .tileDelivered i t ring =>
      if i = j then
        let q := s.tiles j
        let s1 := s.setTiles j { q with delivered := min q.delivered t }
        if s.native then s1 else s1.setPers j { s.pers j with ring := min (s.pers j).ring ring }
      else s
    | _ => s) s

/-- Two spans of bytes overlap. -/
def spanOverlap (a la b lb : Nat) : Bool := decide (la ≠ 0 ∧ lb ≠ 0 ∧ a < b + lb ∧ b < a + la)

end Sys2Proof.Machine
end

