-- ==== Sys2Proof/Machine/Budget.lean ====
section
/-! DEFINITION. The power budget of a window (R514, R515): what each unit of a throttlable class may still issue. The spec gives no
figure for the power of a piece of work nor for the demand of one unit, so both are free values (assumption log 81). -/

namespace Sys2Proof.Machine

/-- The throttlable classes (R514). -/
def classBob : Nat := 0
def classCorr : Nat := 1
def classStore : Nat := 2
def classDma : Nat := 3

/-- Key of unit u of class c in the table of what has been spent. -/
def unitKey (c u : Nat) : Nat := 64 * c + u

/-- What unit u of class c has spent in this window. -/
def State.spent (s : State) (c u : Nat) : Nat := Sparse.get 0 s.power.spent (unitKey c u)

/-- The power of the next piece of work of unit u of class c, above 0. -/
def State.workPower (s : State) (c u : Nat) : Nat := 1 + Config.workPower c u s.power.windows (s.spent c u)

/-- Unit u's part of the grant of class c, in proportion to its demand (R515). -/
def State.unitShare (s : State) (c u : Nat) : Nat :=
  (s.power.grants[c]?).getD 0 * Config.unitDemand c u s.power.windows / max 1 ((s.power.demand[c]?).getD 0)

/-- Unit u of class c may issue a piece of work in this window (R515): a class that was granted its whole demand issues it; with less,
a unit stays within its part of the grant, and a class granted 0 issues nothing. No window has been judged before the first. -/
def State.mayIssue (s : State) (c u : Nat) : Bool :=
  let g := (s.power.grants[c]?).getD 0
  s.power.windows == 0 ||
    (decide (0 < g) && (decide ((s.power.demand[c]?).getD 0 ≤ g) || decide (s.spent c u + s.workPower c u ≤ s.unitShare c u)))

/-- Unit u of class c issues a piece of work. -/
def charge (c u : Nat) (s : State) : State :=
  if s.power.windows = 0 then s
  else { s with power := { s.power with spent := Sparse.set 0 s.power.spent (unitKey c u) (s.spent c u + s.workPower c u) } }

/-- Work that all of several units of a class share, issued in this window or not (R515). -/
def issueWork (c : Nat) (us : List Nat) (f : State → State) (s : State) : State :=
  if us.all (s.mayIssue c) then f (us.foldl (fun s u => charge c u s) s) else s

end Sys2Proof.Machine
end

