-- ==== Sys2Proof/Machine/Damp.lean ====
section
/-! DEFINITION. Damping as ONE shared operation (R36 to R39, R45, R48, R303, R304, R530): what a damp does to the lanes, to
the latch, to the stripes and to the abort record. Every rule that names a damp source calls it. -/

namespace Sys2Proof.Machine

/-! ## The lanes -/

/-- Lane n belongs to the native pipeline, or is a deflection lane of a lead or solo device (R313, R322). -/
def State.laneInUse (s : State) (n : Nat) : Bool :=
  if n < 16 then (match s.str.pipes with
    | p :: _ => bit p.lanes n == 1
    | [] => false)
  else decide (n < 18) && s.leads && s.native

/-- A local source that persists (R304): a lane at temperature level 3, the column at level 3 on a lead, a thermal trip, or, while the
stripe runs, ECHO_OK = 0 on a lane in use (R313), a hot stack (R431), or a lost channel 0 to 2 of a lead (R339). -/
def State.localPersists (s : State) : Bool :=
  s.fault.tripped || s.caril.lanes.toList.any (fun l => l.level == 3) ||
  (s.leads && s.native && s.fd F.STAGE_TEMP_STATUS_LEVEL == 3) ||
  (s.plan.state.running && s.native && ((List.range 18).any (fun n => s.laneInUse n && !(s.lane n).echoOk) || s.stackHot ||
    (s.leads && [0, 1, 2].any (fun c => (s.chan c).lost))))

/-- The damp generators drive the lanes (R303, R530), under the safe structure without any source (Table 2-15). -/
def State.generatorOn (s : State) : Bool :=
  s.caril.dampN || s.caril.latch || s.fault.aonDamp || s.localPersists || (s.str.safe && s.glob.ready)

/-- DAMP_OUT_N is asserted: from LATCH, from the AON damp output, and until READY (R304, R530, R548). -/
def State.dampOut (s : State) : Bool := s.caril.latch || s.fault.aonDamp || s.fault.tripped || !s.glob.ready

/-- DAMP_OUT_N as its ball shows it: the boundary cell's value while boundary scan drives the damp net (R638). -/
def State.dampPin (s : State) : Bool := if s.glob.jtag.drives then s.glob.jtag.dampCell else s.dampOut

/-- A lane at the arrival of a damp: the frame on the wire ends with an ABORT block unless its last block has started
(R303). -/
def Lane.cut (l : Lane) (now : Nat) : Lane × Bool :=
  match l.wire with
  | some t =>
    if now < t then
      ({ l with
          wire := none
          peals := match l.peals with
            | p :: r => { p with aborted := true } :: r
            | [] => [] }, true)
    else ({ l with wire := none }, false)
  | none => (l, false)

/-- The damp generator of lane n takes the lane (R303): hard damp peals follow on a native lane, blank frames on a TL-40 lane
(R328). -/
def damplane (s : State) (n : Nat) : State :=
  let l := s.lane n
  if l.tx != .data then s
  else
    let c := l.cut s.now
    let s1 := s.setLane n c.1
    let s2 := if c.2 then (s1.emit (.abortBlock n)).bump F.CARIL_ABORTS_COUNT else s1
    if s.native then s2.emit (.hardDamp n) else s2

/-- Lanes n of a list are taken. -/
def dampLanes (s : State) (l : List Nat) : State := l.foldl damplane s

/-! ## Stripe ends -/

/-- Every job of the stripe stops (R192), kept records are dropped (R210, R280), and waiting causes end (R45); h is recorded with
the shifts that have executed (R376). -/
def State.stopJobs (s : State) : State :=
  { s with
    bob := { s.bob with units := s.bob.units.map BobUnit.drop, queues := s.bob.queues.map TileQueue.drop, live := [] }
    corr := { s.corr with kept := [], stopped := true }
    plan := { s.plan with
      underruns := []
      finishWait := false
      h := s.plan.shifts.foldl (fun h e => if e.2.2 then h else h + e.2.1) s.plan.h
      shifts := [] } }

/-- The damp falls on the beat that ended the pass: it takes effect before the pass ends (R36). -/
def State.onLastBeat (s : State) : Bool := s.plan.state == .runOut && s.saw .lastBeat

/-- Lowest line not fully exposed and its pass, for the abort record (R36 to R38): a line n is exposed whole once beat
n + (R − 1) × B has executed. -/
def State.abortWhere (s : State) : Nat × Nat :=
  match s.plan.state with
  | .runIn => (0, s.plan.pass)
  | .exposing => (s.plan.beat - (s.geoR - 1) * s.geoB, s.plan.pass)
  | .runOut =>
    if s.onLastBeat then (s.lines - 1, s.plan.pass)
    else if s.plan.pass + 1 < s.passes then (0, s.plan.pass + 1)
    else (s.lines, s.plan.pass)
  | _ => (0, 0)

/-- Entry to ABORTED with its record (R48). -/
def State.enterAborted (s : State) (w : Nat × Nat) (cause node : Nat) (written : Bool) : State :=
  let s := s.setRg .PLAN_ABORT_STRIPE (s.rg .PLAN_STRIPE_ID)
  let s := (s.setFd F.PLAN_ABORT_WHERE_LINE w.1).setFd F.PLAN_ABORT_WHERE_PASS w.2
  let s := (s.setFd F.PLAN_ABORT_CAUSE_FAULT cause).setFd F.PLAN_ABORT_CAUSE_NODE node
  let s := s.stopJobs
  let s := { s with
    plan := { s.plan with
      state := .aborted, abortAt := s.now, abortNode := node, abortWritten := written, started := none, accepted := false }
    stage := { s.stage with wait := .none, inner := none, issued := [], holdFrom := none }
    track := { s.track with recentre := [] }
    cad := { s.cad with startVerify := false } }
  if s.leads && s.native then s.stopAxes else s

/-- A further damp at the instant of the abort: the cause follows R39, the line and pass follow R315 where the damp has its own
(Table 8-13). -/
def sameInstant (cause node : Nat) (written : Bool) (at_ : Option (Nat × Nat)) (s : State) : State :=
  let s1 := match at_ with
    | some a => (s.setFd F.PLAN_ABORT_WHERE_LINE (min (s.fd F.PLAN_ABORT_WHERE_LINE) a.1)).setFd F.PLAN_ABORT_WHERE_PASS a.2
    | none => s
  if !written && (s1.plan.abortWritten || decide (node < s1.plan.abortNode)) then
    let s2 := (s1.setFd F.PLAN_ABORT_CAUSE_FAULT cause).setFd F.PLAN_ABORT_CAUSE_NODE node
    { s2 with plan := { s2.plan with abortNode := node, abortWritten := false } }
  else s1

/-- What a damp does to the stripe (Table 1-5): `final` marks the causes that abort RUN_OUT of the last pass too (R315,
R367), `at_` a line and pass of its own that lowers the record (R315). -/
def dampStripe (cause node : Nat) (written final : Bool) (at_ : Option (Nat × Nat)) (s : State) : State :=
  let w0 := s.abortWhere
  let w := match at_ with
    | none => w0
    | some a => (min w0.1 a.1, a.2)
  let last := s.plan.state == .runOut && decide (s.plan.pass + 1 ≥ s.passes) && !s.onLastBeat
  if s.plan.state.running then
    if last && !final then
      { s with plan := { s.plan with underruns := [], finishWait := true } }
    else s.enterAborted w cause node written
  else if s.plan.state == .aborted && s.plan.abortAt == s.now then sameInstant cause node written at_ s
  else s

/-! ## TL-40 personalities -/

/-- RC bit b of personality j is set; the MSI is raised where it goes from 0 to 1 and is enabled (R565, R566). -/
def State.tlRc (s : State) (j b : Nat) : State :=
  let p := s.pers j
  let s := s.mark (.rcSet j b (bit p.rc b == 1))
  if bit p.rc b = 1 then s
  else
    let s1 := s.setPers j { p with rc := p.rc + 2 ^ b }
    if bit p.irqMask b = 1 && p.msiOn then s1.emit (.msix (j + 1) 0) else s1

/-- Personality j has executed its last beat in this cycle: what aborts now takes effect before it (R36, Table 19-7). -/
def State.persLast (s : State) (j : Nat) : Bool := (s.pers j).state == .runOut && s.saw (.persLastBeat j)

/-- Line that R36 to R38 give for a personality (R583): one pass of L + 1,008 beats. -/
def State.persWhere (s : State) (j : Nat) : Nat :=
  let p := s.pers j
  match p.state with
  | .exposing => p.beat - 1008
  | .runOut => if s.persLast j then p.lines - 1 else p.lines
  | _ => 0

/-- A personality goes to ABORTED (R583), and its jobs stop (R192). -/
def tlAborted (j : Nat) (s : State) : State :=
  let p := s.pers j
  ((s.stopTiles j).setPers j { p with state := .aborted, abortLine := s.persWhere j, startPending := false }).tlRc j 1

/-- A damp reaches personality j: DAMPED, and its stripe goes to ABORTED outside RUN_OUT of its only pass (Table 1-5). -/
def dampPers (cause node : Nat) (s : State) (j : Nat) : State :=
  let s1 := s.tlRc j 7
  let st := (s.pers j).state
  if st == .runIn || st == .exposing || s.persLast j then
    let s2 := tlAborted j s1
    let s3 := (s2.setFd F.PLAN_ABORT_CAUSE_FAULT cause).setFd F.PLAN_ABORT_CAUSE_NODE node
    s3.setFd F.PLAN_ABORT_WHERE_LINE (s.persWhere j)
  else s1

/-- Personalities in use. -/
def State.persList (s : State) : List Nat := if s.native then [] else List.range s.str.mode

/-! ## The damp -/

/-- LATCH and its cause (R304): CAUSE holds the first local source since LATCH was last clear. -/
def State.setLatch (s : State) (cause : Nat) : State :=
  if s.caril.latch then s else { s with caril := { s.caril with latch := true, cause := cause } }

/-- A cadence command joins the lead's queue (R362). A solo device has no link partners. -/
def State.cadDue (s : State) (c : CadCmd) : State :=
  if s.str.role == .lead && s.native then { s with cad := { s.cad with due := s.cad.due ++ [c] } } else s

/-- A damp source arises (R303 to R306). `loc` says whether it is local. A lane that the generator drives already has no frame to
cut and goes on sending hard damp peals. -/
def State.damp (s : State) (loc : Bool) (cause node : Nat) (written : Bool := false) (final : Bool := false)
    (at_ : Option (Nat × Nat) := none) : State :=
  let s0 := dampLanes s (List.range 18)
  let s1 := if loc then ((s0.setLatch cause).cadDue ⟨5, cause, node⟩).mark .localSource else s0
  let s2 := if s1.native then dampStripe cause node written final at_ s1 else s1
  s2.persList.foldl (dampPers cause node) s2

/-- A local damp source that raises fault c (Table 8-5). -/
def State.localDamp (s : State) (c : FaultCode) : State := (s.raise c).damp true c.num s.node

/-- A fault that is a local damp source in RUN_IN to RUN_OUT only. -/
def State.runDamp (s : State) (c : FaultCode) : State :=
  if s.anyRunning then s.localDamp c else s.raise c

/-! ## Causes under R45 -/

/-- A waiting cause has reached its instant: a beat of its own has executed, or the first line that cannot be guaranteed is 64
lines or fewer ahead (R45). In EXPOSING the beat now is the last one that has executed, `plan.beat` − 1. -/
def State.underrunDue (s : State) (u : Underrun) : Bool :=
  match s.plan.state with
  | .exposing =>
    decide (u.pass = s.plan.pass) && (match u.fromBeat with
      | some k => decide (s.plan.beat > k)
      | none => decide (u.line + 1 ≤ s.plan.beat + 64))
  | .runIn => decide (u.pass = s.plan.pass) && decide (u.fromBeat = none) && decide (u.line ≤ 64)
  | .runOut => decide (u.pass = s.plan.pass + 1) && decide (u.fromBeat = none) && decide (u.line ≤ 64) &&
      decide (s.plan.pass + 1 < s.passes)
  | _ => false

/-- The damp of R45: every such damp records PLN_UNDERRUN_DAMP. -/
def State.underrunDamp (s : State) : State := s.localDamp .PLN_UNDERRUN_DAMP

/-- Line n of pass p cannot be guaranteed, found under fault c: raised now, the damp at its instant (R45). Before RUN_IN the
cause is only raised. -/
def State.underrun (s : State) (c : FaultCode) (p n : Nat) (fromBeat : Option Nat := none) : State :=
  let s1 := s.raise c
  let u : Underrun := ⟨p, n, fromBeat⟩
  if !s1.plan.state.running then s1
  else if s1.underrunDue u then s1.underrunDamp
  else { s1 with plan := { s1.plan with underruns := s1.plan.underruns ++ [u] } }

/-- The first line to be exposed and its pass (R40); none when no line of the pass remains. -/
def State.firstLine (s : State) : Option (Nat × Nat) :=
  match s.plan.state with
  | .armed => some (0, 0)
  | .runIn => some (0, s.plan.pass)
  | .exposing => if s.plan.beat < s.lines then some (s.plan.beat, s.plan.pass) else none
  | .runOut => if s.plan.pass + 1 < s.passes then some (0, s.plan.pass + 1) else none
  | _ => none

end Sys2Proof.Machine
end

