-- ==== Sys2Proof/Machine/HostPort.lean ====
section
/-! DEFINITION. The host's side of every write to BAR0 (R499, R503 to R506, R556, R605): writes before READY, writes the device
holds in HUSH and DORMANT, wake events, and the log of refused writes. -/

namespace Sys2Proof.Machine

/-- BAR0 offset of word w of a register. -/
def Reg.off (r : Reg) (w : Nat := 0) : Nat := r.offset + 4 * w

/-- A refused write enters the clear log (Table 21-4). -/
def State.logRefused (s : State) (off kind : Nat) : State :=
  ((s.setFd F.GLOBAL_ACCESS_LOG_OFFSET off).setFd F.GLOBAL_ACCESS_LOG_KIND kind).setFlag F.GLOBAL_ACCESS_LOG_VALID

/-- A refused write of a kind (Table 21-4): counted, and logged where the log is clear. -/
def State.refused (s : State) (off kind : Nat) : State :=
  let s := (s.bump F.GLOBAL_ACCESS_COUNT_COUNT).mark (.refusedWrite off kind)
  if s.fb F.GLOBAL_ACCESS_LOG_VALID then s else s.logRefused off kind

/-- VALID of the log has been cleared: the clear takes effect before a refused write of its cycle, which is logged (Table 21-7). -/
def relog (s : State) : State :=
  if s.fb F.GLOBAL_ACCESS_LOG_VALID then s
  else match (s.cyc.filterMap (fun e => match e with
      | .refusedWrite off kind => some (off, kind)
      | _ => none)).getLast? with
    | some e => s.logRefused e.1 e.2
    | none => s

/-- The write is a CMD wake event (Table 15-6, source 0). -/
def cmdWake (r : Reg) (v : Word) : Bool :=
  match r with
  | .PLAN_STRIPE_CMD => fld v 2 0 == 1
  | .PLAN_SCAN_CMD | .PRICK_CMD | .HBM_CMD => true
  | .LANE_CMD => fld v 2 0 == 1 || fld v 2 0 == 4 || fld v 2 0 == 6
  | .POWER_CMD => fld v 1 0 == 3
  | _ => false

/-- Source src is enabled (Table 15-6): 0 to 2 always, 3 to 7 by POWER_WAKE_EN. -/
def State.wakeOn (s : State) (src : Nat) : Bool := decide (src < 3) || bit (s.rg .POWER_WAKE_EN).toNat src == 1

/-- Start an exit or an entry. -/
def State.setTransit (s : State) (t : Transit) : State := { s with power := { s.power with transit := t } }

/-- Registers that an aborted entry writes. -/
def abortRegs : List Reg := [.POWER_ABORT_COUNT, .POWER_LAST_REFUSAL]

/-- An entry is aborted by wake source src before its point of no return (R504); the cycle keeps what it took back (Table 15-9). -/
def State.abortEntry (s : State) (target src : Nat) : State :=
  let s := s.mark (.entryAborted s.power.transit s.power.thenDormant [src] (abortRegs.map (fun r => (r, s.rg r))))
  let s := (s.bump F.POWER_ABORT_COUNT_COUNT).setFd F.POWER_LAST_REFUSAL_REFUSER 14
  let s := (s.setFd F.POWER_LAST_REFUSAL_TARGET target).setFd F.POWER_LAST_REFUSAL_WAKE_SRC (2 ^ src)
  { s with power := { s.power with transit := .none, thenDormant := false } }

/-- A wake event of source src is latched and acts (R503 to R506). -/
def State.wake (s : State) (src : Nat) : State :=
  if !(s.wakeOn src) || decide (src > 7) then s
  else
    let s := (s.setFlag F.POWER_WAKE_STATUS_SRC (2 ^ src)).mark (.woke src)
    let inHush := src == 0 || src == 2
    match s.power.state, s.power.transit with
    | _, .enterHush => if inHush then s.abortEntry 1 src else s
    | _, .enterDormant =>
      let s := s.abortEntry 2 src
      if inHush then s.setTransit .exitHush else s
    | .hush, .none => if inHush then s.setTransit .exitHush else s
    | .dormant, .none => s.setTransit .exitDormant
    | _, _ => s

/-- A request of target `target` (1 HUSH, 2 DORMANT) that starts entry `t`: a wake event of the same cycle aborts it (Table 15-9). -/
def State.startEntry (s : State) (target : Nat) (t : Transit) : State :=
  let s := s.setTransit t
  match s.cyc.find? (fun e => match e with
    | .woke _ => true
    | _ => false) with
  | some (.woke src) => s.abortEntry target src
  | _ => s.mark .hushAsked

/-- The entry at its point of no return: one that a wake event of the same cycle took back is restored, for the entry completes and the
exit follows; with the sources of those events (Table 15-9). -/
def State.atNoReturn (s : State) (t : Transit) : List Nat × State :=
  match s.cyc.find? (fun e => match e with
    | .entryAborted u _ _ _ => u == t
    | _ => false) with
  | some (.entryAborted _ dorm sources words) =>
    (sources, { words.foldl (fun s w => s.setRg w.1 w.2) s with power := { s.power with transit := t, thenDormant := dorm } })
  | _ => ([], s)

/-- A request that stands refused (R501). -/
def entryRefused (target id : Nat) (s : State) : State :=
  ((s.bump F.POWER_REFUSE_COUNT_COUNT).setFd F.POWER_LAST_REFUSAL_REFUSER id).setFd F.POWER_LAST_REFUSAL_TARGET target

/-- What takes effect before a request for HUSH of the same cycle makes refuser id refuse it (Tables 15-9, 20-6). -/
def hushYields (id : Nat) (s : State) : State :=
  if s.power.transit == .enterHush && s.saw .hushAsked then
    entryRefused 1 id { s with power := { s.power with transit := .none, thenDormant := false } }
  else s

/-- The CMD wake event of a write to register r in RUN: ARM takes effect before a request for HUSH of the same cycle, which PLAN refuses
(Table 15-9). -/
def State.wakeBy (s : State) (r : Reg) : State := (if r == .PLAN_STRIPE_CMD then hushYields 1 s else s).wake 0

/-- The command register's island is OFF or gated: a write has no effect (R378, R593, R609). -/
def State.cmdAbsent (s : State) (r : Reg) : Bool :=
  match r with
  | .STAGE_MET_CMD | .STAGE_CMP_CMD | .STAGE_MOVE_CMD => s.str.safe
  | .TRACK_BANK_CMD | .TRACK_REP_CMD | .TRACK_MAP_DATA | .TRACK_REP_CFG => !(s.leads && s.native) || s.str.safe
  | .LANE_CMD => decide (16 ≤ s.fd F.LANE_SEL_LANE) && s.str.safe
  | .PLAN_STRIPE_CMD => !s.native
  | _ => false

/-- A write of v to word w of register r that would do f (R499, R503 to R505, R556). -/
def State.hostWrite (s : State) (r : Reg) (w : Nat) (v : Word) (f : State → State) : State :=
  if !s.glob.ready then (s.refused (r.off w) 4).raise .RST_NOT_READY
  else
    let f (s : State) : State := if s.cmdAbsent r then s else f s
    let hold (s : State) : State := { s with power := { s.power with held := s.power.held ++ [(r.off w, v)] } }
    match s.power.state with
    | .dormant => let s := (hold s).wake 1; if cmdWake r v then s.wake 0 else s
    | .hush => if cmdWake r v then (hold s).wake 0 else f s
    | .run => if cmdWake r v then f (s.wakeBy r) else f s

/-- A command register written by a command row of the table. -/
def State.hostCmd (s : State) (r : Reg) (v : Nat) (f : State → State) : State := s.hostWrite r 0 (BitVec.ofNat 32 v) f

end Sys2Proof.Machine
end

