-- ==== Sys2Proof/Machine/Units.lean ====
section
/-! DEFINITION. Bobbin units (Chapter 4): service and the reserve. -/

namespace Sys2Proof.Machine

/-! ## Units -/

/-- Unit b. -/
def State.unit (s : State) (b : Nat) : BobUnit := (s.bob.units[b]?).getD BobUnit.empty

/-- Replace unit b. -/
def State.setUnit (s : State) (b : Nat) (u : BobUnit) : State :=
  { s with bob := { s.bob with units := s.bob.units.setIfInBounds b u } }

/-- Pillow p is powered: RUN, and its island not in reset. -/
def State.pillowOn (s : State) (p : Nat) : Bool := s.power.state == .run && !(s.island (3 + p)).inReset

/-- The unit has a job running or suspended. -/
def BobUnit.busy (u : BobUnit) : Bool := u.job != .idle || u.suspended.isSome

/-- BOBBIN[b] is in BOB_DISABLE, its last job ended (R182, Table 4-5). -/
def State.unitDisabled (s : State) (b : Nat) : Bool := bit (s.fd F.BOB_DISABLE_MASK) b == 1 && !(s.unit b).busy

/-- BOBBIN[b] is in service (R182). -/
def State.inService (s : State) (b : Nat) : Bool :=
  (s.pipeOfPillow (b / 8)).isSome && s.pillowOn (b / 8) && !s.unitDisabled b && bit (s.fd F.BOB_FAIL_MASK_FAILED) b == 0

/-- A bobbin that takes jobs: in service and in neither mask (R189). -/
def State.takesJobs (s : State) (b : Nat) : Bool := s.inService b && bit (s.fd F.BOB_DISABLE_MASK) b == 0

/-- BOB_IN_SERVICE and BOB_BUSY. -/
def State.serviceMask (s : State) : Nat := sumN (((List.range 32).filter s.inService).map (fun b => 2 ^ b))
def State.busyMask (s : State) : Nat :=
  sumN (((List.range 32).filter (fun b => (s.unit b).busy || (s.unit b).held.isSome)).map (fun b => 2 ^ b))

/-! ## The reserve (R182, R185, R191) -/

/-- Bobbins in the order of R182: the highest in service of each pillow in turn. -/
def State.reserveOrder (s : State) : List Nat :=
  let of (p : Nat) : List Nat := ((List.range 8).map (fun i => 8 * p + 7 - i)).filter s.inService
  ((List.range 8).map (fun r => (List.range 4).filterMap (fun p => (of p)[r]?))).flatten

/-- The reserve is formed from the bobbins in service; too few raise BOB_RESERVE_SHORT (R182, R191). -/
def formReserve (s : State) : State :=
  let r := s.reserveOrder.take s.bob.reserve
  let s1 := { s with bob := { s.bob with units := s.bob.units.mapFinIdx (fun b u _ => { u with reserved := r.contains b }) } }
  s1.raiseIf (decide (r.length < s.bob.reserve)) .BOB_RESERVE_SHORT

/-- Live jobs waiting or running (BOB_LIVE_PENDING). -/
def State.livePending (s : State) : Nat :=
  s.bob.live.length + (s.bob.units.toList.filter (fun u => match u.job with
    | .live _ _ => true
    | _ => false)).length

end Sys2Proof.Machine
end

