-- ==== Sys2Proof/Machine/Freq.lean ====
section
/-! DEFINITION. Planned frequencies of islands and pillows (R62, R485, R486, R510). -/

namespace Sys2Proof.Machine

/-- Exact frequencies of Table 14-1 in kHz, and the lowest plan frequency of the islands with a range. -/
def islandBase (i dataRate : Nat) : Rat :=
  match i with
  | 0 => 25000 | 1 => 1000000 | 2 => 400000 | 3 | 4 | 5 | 6 => 400000 | 7 => 400000 | 8 => 400000 | 9 => 400000
  | 10 => 400000 | 11 => 1250000 | 12 | 13 | 14 => 703125 | 15 => 500000 | 16 => 625000 | 17 => 250000
  | 18 | 19 => (40283203125 : Rat) / 100000 | 20 => 500000 | 21 | 22 => (dataRate : Rat) * 125 | _ => 500000

/-- A PLL's output in kHz (R62). -/
def PllCfg.outKhz (p : PllCfg) : Rat :=
  (if p.refsel = 0 then 25000 else 156250) * (p.mult : Rat) / (max 1 p.div : Nat)

/-- Frequency of pillow p at an operating point's frequency f (kHz): PLL output × 256 / d (R510). -/
def pillowKhz (out : Rat) (postDiv f : Nat) : Rat :=
  let d0 := 256 * postDiv
  let need := ceilN (out * 256 / ((max 1 f : Nat) : Rat))
  out * 256 / ((max 1 (max d0 need) : Nat) : Rat)

/-- Operating point k of the image: frequency in MHz and voltage in mV (R63). -/
def State.opPoint (s : State) (k : Nat) : Nat × Nat := (s.str.ops[k]?).getD (0, 0)

/-- The planned frequency of island i in kHz (R485, R486, R510). -/
def State.plannedKhz (s : State) (i : Nat) : Rat :=
  match s.str.islands[i]? with
  | none => islandBase i s.str.dataRate
  | some e =>
    if i = 0 then 25000
    else
      let out := match s.str.plls[e.pll]? with
        | some p => p.outKhz
        | none => 0
      if 3 ≤ i ∧ i ≤ 6 then pillowKhz out e.postDiv (1000 * (s.opPoint ((s.power.points[i - 3]?).getD 0)).1)
      else out / ((max 1 e.postDiv : Nat) : Rat)

end Sys2Proof.Machine
end

