-- ==== Sys2Proof/Machine/Points.lean ====
section
/-! DEFINITION. Operating points of the pillows and the steps between them (R510 to R513). -/

namespace Sys2Proof.Machine

/-! ## Points and the rail -/

/-- Point of pillow p. -/
def State.point (s : State) (p : Nat) : Nat := (s.power.points[p]?).getD 0

/-- Pillow p is in service (R510). -/
def State.pillowServes (s : State) (p : Nat) : Bool := (s.pipeOfPillow p).isSome && s.pillowOn p

/-- Floor of pillow p (R184, R513). -/
def State.floorOp (s : State) (p : Nat) : Nat :=
  if decide (s.livePending ≠ 0) && (List.range 8).any (fun b => (s.unit (8 * p + b)).reserved) then
    s.fd F.BOB_LIVE_CFG_FLOOR_OP else 0

/-- The highest voltage among the points in use by the pillows in service, with pillow p at point k. -/
def State.needMv (s : State) (p k : Nat) : Nat :=
  maxN (((List.range 4).filter (fun q => s.pillowServes q || q == p)).map (fun q => (s.opPoint (if q = p then k else s.point q)).2))

/-- Exponent of LINEAR16 in a VOUT_MODE byte. -/
def voutExp (m : Nat) : Int := sext 5 (m % 32)

/-- A LINEAR16 reading in mV. -/
def linear16Mv (m raw : Nat) : Rat := (raw : Rat) * 1000 * (if voutExp m < 0 then 1 / ((2 ^ (-(voutExp m)).toNat : Nat) : Rat)
  else ((2 ^ (voutExp m).toNat : Nat) : Rat))

/-- The LINEAR16 code nearest to a voltage in mV. -/
def linear16Code (m mv : Nat) : Nat :=
  let e := voutExp m
  if e < 0 then (mv * 2 ^ (-e).toNat + 500) / 1000 % 65536 else (mv + 500 * 2 ^ e.toNat) / (1000 * 2 ^ e.toNat) % 65536

/-- VOUT_COMMAND leaves for a rail of mv; pillow p, if any, waits for it (R511, R512). -/
def railStart (mv : Nat) (p : Option Nat) (s : State) : State :=
  let b := leBytes 1 (2 * s.fd F.POWER_PMBUS_CFG_ADDR) ++ [0x21#8] ++ leBytes 2 (linear16Code (s.power.voutMode.getD 0) mv)
  { s.emit (.pmbus (b ++ leBytes 1 (crc crcPec b))) with
    power := { s.power with railSet := some ⟨mv, p, 0, s.now⟩ } }

/-- No rail change is in progress, and one may be made. -/
def State.railFree (s : State) : Bool :=
  s.power.railSet.isNone && s.power.voutMode.isSome && !s.fb F.POWER_STATE_PMBUS_FAIL

/-- Pillow p takes point k. -/
def setPoint (p k : Nat) (s : State) : State :=
  { s with power := { s.power with
    points := s.power.points.setIfInBounds p k, short := s.power.short.setIfInBounds p 0, met := s.power.met.setIfInBounds p 0 } }

/-- Pillow p steps up a point (R511): the rail first, where it must rise. -/
def stepUp (p : Nat) (s : State) : State :=
  let k := s.point p + 1
  if s.fb F.POWER_STATE_PMBUS_FAIL || s.power.railSet.isSome || decide (k > 7) then s
  else if (s.opPoint k).2 > s.power.railMv then (if s.railFree then railStart (s.needMv p k) (some p) s else s)
  else setPoint p k s

/-- Pillow p steps down a point (R511): the divider first, then the rail. -/
def stepDown (p : Nat) (s : State) : State :=
  if s.power.railSet.isSome then s
  else
    let s1 := setPoint p (s.point p - 1) s
    let mv := s1.needMv p (s1.point p)
    if decide (mv < s1.power.railMv) && s1.railFree then railStart mv none s1 else s1

/-- Pillow p, while below its floor, is stepped up, `fuel` points at most: it waits where the rail must rise first (R511, R513). -/
def riseToFloor (fuel p : Nat) (s : State) : State :=
  match fuel with
  | 0 => s
  | fuel + 1 => if s.pillowServes p && decide (s.point p < s.floorOp p) then riseToFloor fuel p (stepUp p s) else s

/-- Every pillow below its floor is stepped up at once (R513). -/
def risePillows (s : State) : State := (List.range 4).foldl (fun s p => riseToFloor 8 p s) s

end Sys2Proof.Machine
end

