-- ==== Sys2Proof/Machine/BobUnits.lean ====
section
/-! DEFINITION. Work of the bobbin units (Chapter 4): live jobs taken by free and reserved bobbins, and lost jobs. -/

namespace Sys2Proof.Machine

/-! ## Live jobs (R181, R182) -/

/-- Insert a live job in the order of R181. -/
def liveInsert (j : LiveWait) (l : List LiveWait) : List LiveWait :=
  match l with
  | [] => [j]
  | k :: t => if j.br < k.br ∨ (j.br = k.br ∧ j.bc ≤ k.bc) then j :: k :: t else k :: liveInsert j t

/-- The budget lets unit b start a live job: a reserved unit is never throttled (R515). -/
def State.mayLive (s : State) (b : Nat) : Bool := (s.unit b).reserved || s.mayIssue classBob b

/-- Unit b spends on a live job it starts, unless it is reserved (R515). -/
def chargeLive (b : Nat) (s : State) : State := if (s.unit b).reserved then s else charge classBob b s

/-- The unit that takes a waiting live job: the lowest free one in service, else the lowest reserved one that runs a tile. -/
def State.liveTaker (s : State) (j : LiveWait) : Option Nat :=
  let may (b : Nat) : Bool := s.takesJobs b && j.not_ != some b
  match (List.range 32).find? (fun b => may b && !(s.unit b).busy && s.mayLive b) with
  | some b => some b
  | none => (List.range 32).find? (fun b => may b && (s.unit b).reserved && (match (s.unit b).job with
    | .tile _ _ => true
    | _ => false))

/-- The unit takes a live job, putting a running tile aside (R182). -/
def BobUnit.takeLive (u : BobUnit) (now : Nat) (j : LiveWait) : BobUnit :=
  match u.job with
  | .tile t run => { u with job := .live j.br j.bc, startedAt := now, suspended := some (t, run, now - u.startedAt) }
  | _ => { u with job := .live j.br j.bc, startedAt := now }

/-- Waiting live jobs are taken, in order, where a bobbin can take them. -/
def assignLive (s : State) : State :=
  s.bob.live.foldl (fun s j => match s.liveTaker j with
    | some b => chargeLive b (s.setUnit b ((s.unit b).takeLive s.now j))
    | none => { s with bob := { s.bob with live := s.bob.live ++ [j] } }) { s with bob := { s.bob with live := [] } }

/-- Live jobs become ready; where one is pending, a pillow below its floor is stepped up (R513). -/
def queueLive (l : List LiveWait) (s : State) : State :=
  (fun s => if s.livePending = 0 then s else risePillows s) <| assignLive { s with bob := { s.bob with live := l.foldl (fun w j => liveInsert j w) s.bob.live } }

/-- A live job of unit b has ended: it takes the next one, or resumes its tile (R182). -/
def liveNext (b : Nat) (s : State) : State :=
  let u := s.unit b
  let next := if s.takesJobs b && s.mayLive b then s.bob.live.find? (fun j => j.not_ != some b) else none
  match next with
  | some j =>
    let s1 := chargeLive b (s.setUnit b { u with job := .live j.br j.bc, startedAt := s.now })
    { s1 with bob := { s1.bob with live := s1.bob.live.erase j } }
  | none => match u.suspended with
    | some (t, run, ran) => s.setUnit b { u with job := .tile t run, startedAt := s.now - ran, suspended := none }
    | none => s.setUnit b { u with job := .idle }

/-! ## Lost jobs -/

/-- Tile t of pipeline j is to be issued again, not to the units of `not_` (R186 to R188). -/
def tileAgain (j t : Nat) (not_ : List Nat) (s : State) : State :=
  s.setTiles j { s.tiles j with again := (s.tiles j).again ++ [(t, not_)] }

/-- What unit b has found of tile t is forgotten. -/
def TileQueue.forget (q : TileQueue) (b t : Nat) : TileQueue :=
  let keep (l : List TileRun) : List TileRun := l.filter (fun r => !(r.tile == t && r.unit == b))
  { q with results := keep q.results, runs := keep q.runs }

/-- Unit b loses everything it holds; its work is issued again (R187, R188). -/
def loseUnit (b : Nat) (s : State) : State :=
  let u := s.unit b
  let j := s.pipeOf b
  let s := s.setUnit b u.drop
  let s := match u.job with
    | .tile t _ => tileAgain j t [b] s
    | .live br bc => queueLive [⟨br, bc, some b⟩] s
    | .idle => s
  let s := match u.suspended with
    | some (t, _) => tileAgain j t [b] s
    | none => s
  match u.held with
  | some t =>
    let q := s.tiles j
    let s1 := s.setTiles j (q.forget b t)
    if (q.results ++ q.runs).any (fun r => r.tile == t && r.unit == b) then tileAgain j t [] s1 else s1
  | none => s

/-- Unit b takes a strike; the second takes it out of service (R189). -/
def strike (b : Nat) (s : State) : State :=
  let u := s.unit b
  let s1 := s.setUnit b { u with strikes := min 2 (u.strikes + 1) }
  if u.strikes + 1 = 2 then
    (s1.setFlag F.BOB_FAIL_MASK_FAILED (2 ^ b)).raise .BOB_UNIT_FAILED
  else s1

end Sys2Proof.Machine
end

