-- ==== Sys2Proof/Machine/Slots.lean ====
section
/-! DEFINITION. Result slots (R475 to R477). -/

namespace Sys2Proof.Machine

/-- Slot n. -/
def State.slot (s : State) (n : Nat) : Slot := (s.dma.slots[n]?).getD Slot.fresh

/-- Replace slot n. -/
def State.setSlot (s : State) (n : Nat) (x : Slot) : State :=
  { s with dma := { s.dma with slots := s.dma.slots.setIfInBounds n x } }

/-- Slot n is claimed: BUSY with the next SEQ (R475). -/
def slotClaim (n source tag : Nat) (s : State) : State :=
  let x := s.slot n
  s.setSlot n { st := .busy, seq := (x.seq + 1) % 65536, source := source, tag := tag, data := [] }

/-- Slot n is filled and becomes READY (R475). -/
def slotFill (n : Nat) (data : List Word) (s : State) : State := s.setSlot n { s.slot n with st := .ready, data := data }

/-- A block producer's slot becomes READY: vector 69 (Table 13-9). -/
def slotFillProducer (n : Nat) (data : List Word) (s : State) : State := (slotFill n data s).irq 69

/-- Slot n is freed, its SEQ kept. -/
def slotFree (n : Nat) (s : State) : State := s.setSlot n { s.slot n with st := .free, data := [], tag := 0, source := 0 }

/-- A write of v to RELEASE of slot n (R477). -/
def doSlotRelease (n v : Nat) (s : State) : State :=
  let x := s.slot n
  if x.st == .ready && decide (v = x.seq) then slotFree n s else s.raise .HST_SLOT_RELEASE

/-- STATUS word of slot n (Table 13-8, R476). -/
def State.slotStatus (s : State) (n : Nat) : Nat :=
  let x := s.slot n
  match x.st with
  | .free => x.seq
  | .busy => x.seq + 2 ^ 17 + x.source * 2 ^ 24
  | .ready => x.seq + 2 ^ 16 + x.source * 2 ^ 24

end Sys2Proof.Machine
end

