-- ==== Sys2Proof/Machine/Hbm.lean ====
section
/-! DEFINITION. The DRAM controller (Chapter 12): addresses, check codes, reads and writes, row-disturbance defence, fill, scrub
and injection. -/

namespace Sys2Proof.Machine

/-- First address that does not exist (R426). -/
def dramEnd : Nat := 0xC00000000

/-! ## Check codes (R437, R440) -/

/-- The values of weight 3 in ascending order: by top bit, then middle bit, then low bit. -/
def weight3 (width : Nat) : List Nat :=
  ((List.range width).map (fun t => ((List.range t).map (fun m =>
    (List.range m).map (fun l => 2 ^ t + 2 ^ m + 2 ^ l))).flatten)).flatten

/-- col_data(i). -/
def colData (i : Nat) : Nat := (weight3 16).getD i 0

/-- col_addr(a). -/
def colAddr (a : Nat) : Nat := (weight3 16).getD (124 + a) 0

/-- XOR of the columns of the set bits of x, bit i having column `col i`, over bits lo to lo + n − 1. -/
def foldCols (col : Nat → Nat) (x lo n : Nat) : Nat :=
  (List.range n).foldl (fun c i => if bit x (lo + i) = 1 then Nat.xor c (col (lo + i)) else c) 0

/-- dram_check of a 16-byte codeword (R437). -/
def dramCheck (d : List Byte) (addr : Nat) : Nat := Nat.xor (foldCols colData (leVal d) 0 128) (foldCols colAddr addr 4 32)

/-- Number of ones among the low n bits. -/
def popcount (n x : Nat) : Nat := (List.range n).foldl (fun c i => c + bit x i) 0

/-- SRAM columns: the u8 values of weight 3 or 5 in ascending order (R440). -/
def sramCols : List Nat := (List.range 256).filter (fun v => popcount 8 v == 3 || popcount 8 v == 5)

/-- SRAM check bits of an 8-byte word at a 24-bit index (R440). -/
def sramCheck (d index : Nat) : Nat :=
  Nat.xor (foldCols (fun i => sramCols.getD i 0) d 0 64) (foldCols (fun a => sramCols.getD (64 + a) 0) index 0 24)

/-- Syndrome classes (Table 12-5). -/
inductive SynClass where
  | clean | corrected | addressFault | uncorrectable
deriving DecidableEq, Repr

/-- The class of a syndrome (R438). -/
def classOf (syn : Nat) : SynClass :=
  if syn = 0 then .clean
  else if popcount 16 syn = 1 then .corrected
  else match findIdx? (· == syn) (weight3 16) with
    | some i => if i < 128 then .corrected else if i < 160 then .addressFault else .uncorrectable
    | none => .uncorrectable

/-- The stored check difference that marks poison (R442). -/
def poisonMark : Nat := 3

/-! ## Address mapping (R427, R428) -/

/-- Pivot bits of the selectors (Table 12-2). -/
def pivots : List Nat := [8, 9, 10, 11, 12, 13, 14, 15, 16, 17, 18]

/-- The active mask of selector k; the register file keeps active masks as instances 16 to 26. -/
def State.hashMask (s : State) (active : Bool) (k : Nat) : Nat :=
  let i := if active then k + 16 else k
  s.fd F.HBM_HASH_MASK_LO_MASK i + 2 ^ 32 * s.fd F.HBM_HASH_MASK_HI_MASK i

/-- A mask is valid (R428). -/
def maskValid (k m : Nat) : Bool :=
  (bit m (pivots.getD k 0) == 1) && (List.range 11).all (fun j => j == k || bit m (pivots.getD j 0) == 0) && m % 32 == 0

/-- Selector bit k of address a. -/
def State.selBit (s : State) (a k : Nat) : Nat := popcount 36 (Nat.land a (s.hashMask true k)) % 2

/-- Pseudo-channel index q of an address: 32 × stack + 2 × channel + pseudo-channel (R425). -/
def State.pcOf (s : State) (a : Nat) : Nat :=
  32 * s.selBit a 5 + 2 * (s.selBit a 1 + 2 * s.selBit a 2 + 4 * s.selBit a 3 + 8 * s.selBit a 4) + s.selBit a 0

/-- Bank of an address: pseudo-channel, stack ID, bank group and bank. -/
def State.bankOf (s : State) (a : Nat) : Nat :=
  s.pcOf a * 32 + s.selBit a 10 * 16 + (s.selBit a 6 + 2 * s.selBit a 7) * 4 + s.selBit a 8 + 2 * s.selBit a 9

/-- Row of an address. -/
def rowOf (a : Nat) : Nat := bits a 35 21

/-- A pseudo-channel is failed (R445). -/
def State.pcFailed (s : State) (q : Nat) : Bool := s.fb F.HBM_PC_STATUS_FAILED q

/-- Any pseudo-channel is failed. -/
def State.anyPcFailed (s : State) : Bool := (List.range 64).any s.pcFailed

/-! ## What a reader gets -/

/-- The codeword at an address reads back as poison: its stored check bits or its pseudo-channel (R438, R442, R445). -/
def State.codeBad (s : State) (a : Nat) : Bool :=
  (match classOf (Sparse.get 0 s.dramMark (a / 16)) with
    | .addressFault | .uncorrectable => true
    | _ => false) || s.pcFailed (s.pcOf a)

/-- Some codeword of n bytes from a reads back as poison, or lies where no DRAM is, or the DRAM is not accessible (Table 2-15). -/
def State.dramBad (s : State) (a n : Nat) : Bool :=
  decide (a + n > dramEnd) || !s.hbm.accessible ||
  (List.range ((a + n + 15) / 16 - a / 16)).any (fun k => s.codeBad ((a / 16 + k) * 16))

/-! ## Writes -/

/-- Set the check difference of codeword w. -/
def State.setMark (s : State) (w m : Nat) : State := { s with dramMark := Sparse.set 0 s.dramMark w m }

/-- Check bits after a write that covers bytes lo to hi of codeword w: an armed injection alters them (R449); a poisoned
codeword that is written in part stays poisoned. -/
def writeMark (whole : Bool) (w : Nat) (s : State) : State :=
  match s.hbm.inject with
  | some (m, a) =>
    if a / 16 = w then
      let mark := if m = 1 then colData 0 else if m = 2 then Nat.xor (colData 0) (colData 1) else colAddr 4
      { s.setMark w mark with hbm := { s.hbm with inject := none } }
    else plain s
  | none => plain s
where
  plain (s : State) : State := if whole || !(s.codeBad (w * 16)) then s.setMark w 0 else s

/-- Bytes reach DRAM at an address inside it (R435, R437). -/
def dramStore (a : Nat) (l : List Byte) (s : State) : State :=
  let s1 := s.dramPut a l
  (List.range ((a + l.length + 15) / 16 - a / 16)).foldl (fun s k =>
    let w := a / 16 + k
    writeMark (decide (a ≤ w * 16) && decide (w * 16 + 16 ≤ a + l.length)) w s) s1

/-- A request waits for the end of the fill (R444). -/
def holdReq (r : DramReq) (s : State) : State := { s with hbm := { s.hbm with held := s.hbm.held ++ [r] } }

/-- A write request: discarded beyond the address space (R426) or where the DRAM is not accessible (Table 2-15; that it is discarded
is the model's choice, assumption log 76), held during a fill (R444), else performed. -/
def dramWrite (a : Nat) (l : List Byte) (s : State) : State :=
  if l = [] then s
  else if a + l.length > dramEnd then s.raise .MEM_ADDR_RANGE
  else if !s.hbm.accessible then s
  else if s.hbm.filling then holdReq (.engine a l) s
  else dramStore a l s

/-- Poisoned bytes are stored (R442), held during a fill like any write. -/
def dramPoison (a n : Nat) (s : State) : State :=
  if !s.hbm.accessible then s
  else if s.hbm.filling then holdReq (.poison a n) s
  else (List.range ((a + n + 15) / 16 - a / 16)).foldl (fun s k => s.setMark (a / 16 + k) poisonMark) s

/-- The check bits of the codewords of n bytes from a. -/
def State.marksOf (s : State) (a n : Nat) : List (Nat × Nat) :=
  (List.range ((a + n + 15) / 16 - a / 16)).map (fun k => (a / 16 + k, Sparse.get 0 s.dramMark (a / 16 + k)))

/-- Bytes and check bits are put back as they stood. -/
def putSpan (a : Nat) (l : List Byte) (marks : List (Nat × Nat)) (s : State) : State :=
  marks.foldl (fun s m => s.setMark m.1 m.2) (s.dramPut a l)

/-- `t` follows `s` by a write of n bytes at a, which is noted where an ARM of this cycle could come before it (Tables 13-11, 16-4). -/
def noteWrite (a n : Nat) (e : SpanWrite → CycleEvent) (s t : State) : State :=
  if s.native && s.plan.state == .idle then
    t.mark (e ⟨a, s.dramBytes a n, t.dramBytes a n, s.marksOf a n, t.marksOf a n⟩)
  else t

/-! ## Row-disturbance defence (R432 to R434) -/

/-- A throttlable source (Table 12-4); a bobbin that runs a live job is not. -/
def State.throttlable (s : State) (src : Nat) : Bool :=
  if src < 32 then (match (s.bob.units[src]?).map BobUnit.job with
    | some (BobJob.live _ _) => false
    | _ => true)
  else (decide (0x20 ≤ src ∧ src ≤ 0x29) || decide (0x2B ≤ src ∧ src ≤ 0x2D) || decide (0x30 ≤ src ∧ src ≤ 0x3F) ||
    src == 0x40 || src == 0x41 || decide (0x48 ≤ src ∧ src ≤ 0x51))

/-- Source src may not be admitted yet (R433); a source that is not throttlable now is never held. -/
def State.throttled (s : State) (src : Nat) : Bool :=
  s.throttlable src && s.hbm.holds.any (fun h => h.src == src && decide (s.now < h.until_) &&
    decide (s.now < h.lastAt + 1000 * max 10 (s.fd F.HBM_RH_HOLD_GAP_NS)))

/-- Replace the entry with the lowest count, the lowest-numbered first (R432). -/
def replaceLowest (row : Nat) (l : List (Nat × Nat)) : List (Nat × Nat) :=
  let m := l.foldl (fun a e => min a e.2) ((l.headD (0, 0)).2)
  match findIdx? (fun e : Nat × Nat => e.2 == m) l with
  | some i => l.set i (row, m + 1)
  | none => l

/-- The tracker after one activation of a row (R432). Entries not listed yet hold no row and count 0, behind the listed ones: one of
them is replaced where no listed entry counts 0. -/
def trackRow (row : Nat) (l : List (Nat × Nat)) : List (Nat × Nat) :=
  if l.any (fun e => e.1 == row) then l.map (fun e => if e.1 = row then (e.1, e.2 + 1) else e)
  else if l.length < 64 ∧ l.all (fun e => e.2 != 0) = true then l ++ [(row, 1)]
  else replaceLowest row l

/-- The throttlable source seen most often, the lowest on a tie, with its count (R433). -/
def topSource (s : State) (seen : List Nat) : Option (Nat × Nat) :=
  (List.range 256).foldl (fun (b : Option (Nat × Nat)) src =>
    let c := seen.count src
    if c = 0 || !(s.throttlable src) then b
    else match b with
      | some (_, m) => if c > m then some (src, c) else b
      | none => some (src, c)) none

/-- The end of a crossing's sample (R433, R434): the hold, the row log and MEM_ROW_HAMMER. -/
def hammerDone (h : Hammer) (s : State) : State :=
  let top := topSource s h.seen
  let e := s.hbm.logNext
  let s := match top with
    | some (src, _) =>
      let hold : Hold := ⟨src, s.now + 1000000 * s.fd F.HBM_RH_HOLD_HOLD_US, s.now⟩
      { s with hbm := { s.hbm with holds := hold :: s.hbm.holds.filter (fun x => x.src != src) } }
    | none => s
  let s := (s.setFd F.HBM_RH_LOG_ADDR_LO_ADDR h.addr e).setFd F.HBM_RH_LOG_ADDR_HI_ADDR (h.addr / 2 ^ 32) e
  let s := (s.setFd F.HBM_RH_LOG_INFO_SOURCE ((top.map (·.1)).getD 0) e).setFd F.HBM_RH_LOG_INFO_THROTTLED (b2n top.isSome) e
  let s := (s.setFd F.HBM_RH_LOG_INFO_SHARE ((top.map (·.2)).getD 0) e).setFd F.HBM_RH_LOG_INFO_VALID 1 e
  let s := (s.setFd F.HBM_RH_LOG_TIME_LO_N s.stampN e).setFd F.HBM_RH_LOG_TIME_HI_N (s.stampN / 2 ^ 32) e
  ({ s with hbm := { s.hbm with logNext := (e + 1) % 16 } }).raise .MEM_ROW_HAMMER

/-- Samples of crossings on this row take the source in. -/
def sampleHammers (bank row src : Nat) (s : State) : State :=
  let step (h : Hammer) : Hammer :=
    if h.bank = bank ∧ h.row = row then { h with left := h.left - 1, seen := src :: h.seen } else h
  let l := s.hbm.hammers.map step
  let s := { s with hbm := { s.hbm with hammers := l.filter (fun h => h.left != 0) } }
  (l.filter (fun h => h.left == 0)).foldl (fun s h => hammerDone h s) s

/-- An activation of the row of an address by a source (R432, R433). -/
def activate (src a : Nat) (s : State) : State :=
  let bank := s.bankOf a
  let row := rowOf a
  let s := sampleHammers bank row src s
  let l := trackRow row (Sparse.get [] s.hbm.trackers bank)
  let n := ((l.find? (fun e => e.1 == row)).map (·.2)).getD 0
  if n ≥ max 1 (s.fd F.HBM_RH_CFG_THRESHOLD) then
    let l := l.map (fun e => if e.1 = row then (e.1, 0) else e)
    let h : Hammer := ⟨bank, row, a, max 1 (s.fd F.HBM_RH_CFG_SAMPLE), []⟩
    let s := { s with hbm := { s.hbm with trackers := Sparse.set [] s.hbm.trackers bank l, hammers := s.hbm.hammers ++ [h] } }
    s.bump F.HBM_RH_EVENTS_COUNT
  else { s with hbm := { s.hbm with trackers := Sparse.set [] s.hbm.trackers bank l } }

/-- The request's source was admitted now (R433). -/
def admitted (src : Nat) (s : State) : State :=
  { s with hbm := { s.hbm with holds := s.hbm.holds.map (fun h => if h.src = src then { h with lastAt := s.now } else h) } }

/-! ## Reads -/

/-- The first address fault or uncorrectable codeword is logged (R441). -/
def errLog (a syn cls src : Nat) (s : State) : State :=
  if s.fb F.HBM_ERR_LOG_INFO_VALID then s
  else
    let s := (s.setFd F.HBM_ERR_LOG_ADDR_LO_ADDR a).setFd F.HBM_ERR_LOG_ADDR_HI_ADDR (a / 2 ^ 32)
    let s := (s.setFd F.HBM_ERR_LOG_INFO_SYNDROME syn).setFd F.HBM_ERR_LOG_INFO_CLASS cls
    (s.setFd F.HBM_ERR_LOG_INFO_SOURCE src).setFlag F.HBM_ERR_LOG_INFO_VALID

/-- A corrected read is counted (R439). -/
def countCe (a : Nat) (s : State) : State :=
  let s := (s.bump F.HBM_CE_COUNT_COUNT).bump F.HBM_PC_CE_COUNT_COUNT 1 (s.pcOf a)
  let t := s.fd F.HBM_CE_THRESH_COUNT
  if t ≠ 0 ∧ s.fd F.HBM_CE_COUNT_COUNT % t = 0 then s.raise .MEM_CE_THRESHOLD else s

/-- A read of the codeword at address a by a source, with syndrome syn (R438, R439, R441): whether it is poisoned. -/
def readClass (src a syn : Nat) (s : State) : Bool × State :=
  if s.pcFailed (s.pcOf a) then
    (true, (errLog a syn 1 src (s.bump F.HBM_UE_COUNT_COUNT)).raise .MEM_UNCORRECTABLE)
  else match classOf syn with
    | .clean => (false, s)
    | .corrected => (false, countCe a s)
    | .addressFault => (true, (errLog a syn 2 src (s.bump F.HBM_AF_COUNT_COUNT)).raise .MEM_ADDRESS_FAULT)
    | .uncorrectable => (true, (errLog a syn 1 src (s.bump F.HBM_UE_COUNT_COUNT)).raise .MEM_UNCORRECTABLE)

/-- The syndrome of a read of address a that the DRAM answers from address at_, with data and check bits disturbed. -/
def State.syndrome (s : State) (a at_ flipData flipCheck : Nat) : Nat :=
  Nat.xor (Nat.xor (Sparse.get 0 s.dramMark (at_ / 16)) flipCheck)
    (Nat.xor (foldCols colData flipData 0 128) (foldCols colAddr (Nat.xor a at_) 4 32))

/-- A source reads n bytes from a: beyond the address space the read raises its fault (R426); else each codeword that is not clean
is counted, logged and raised as its class gives (R438, R439, R441, R445). What the source gets is `State.dramBad`'s. -/
def engineRead (src a n : Nat) (s : State) : State :=
  if a + n > dramEnd then s.raise .MEM_ADDR_RANGE
  else if !s.hbm.accessible then s
  else if s.anyPcFailed then
    (List.range ((a + n + 15) / 16 - a / 16)).foldl (fun s k =>
      (readClass src (16 * (a / 16 + k)) (Sparse.get 0 s.dramMark (a / 16 + k)) s).2) s
  else
    (s.dramMark.filter (fun e => decide (a / 16 ≤ e.1 ∧ e.1 < (a + n + 15) / 16))).foldl (fun s e =>
      (readClass src (16 * e.1) e.2 s).2) s

/-- Requests of a source on n bytes from a, one to each 256-byte span, reach their rows (R432). Whether a request finds its row open
or activates it, the spec does not say: a free value for each. -/
def spanRows (src a n : Nat) (s : State) : State :=
  (List.range ((a + n + 255) / 256 - a / 256)).foldl (fun s k =>
    let f := s.free 1
    admitted src (if f.1 = 1 then activate src (max a (256 * (a / 256 + k))) f.2 else f.2)) s

/-! ## Temperature -/

/-- The refresh rate code after a reading of t °C from code cur (R430). -/
def rateCode (cur t : Nat) : Nat :=
  if t ≥ 95 ∨ (cur = 2 ∧ t > 92) then 2 else if t ≥ 85 ∨ (cur ≥ 1 ∧ t > 82) then 1 else 0

/-- One stack's reading. -/
def stackTemp (k t : Nat) (s : State) : State :=
  let f := if k = 0 then F.HBM_STATUS_RATE0 else F.HBM_STATUS_RATE1
  let cur := if (s.hbm.tempSeen[k]?).getD false then s.fd f else 0
  let s := (s.setFd f (rateCode cur t)).setFd (if k = 0 then F.HBM_TEMP_STACK0 else F.HBM_TEMP_STACK1) t
  let was := (s.hbm.hot[k]?).getD false
  let hot := decide (t ≥ 105) || (was && decide (t > 100))
  let s := { s with hbm := { s.hbm with hot := s.hbm.hot.setIfInBounds k hot, tempSeen := s.hbm.tempSeen.setIfInBounds k true } }
  if hot && !was then s.runDamp .MEM_STACK_HOT else s

/-! ## Fill, remap, scrub and injection -/

/-- A fill begins (R443, R444): the DRAM holds zeros with matching check bits at its end. -/
def beginFill (s : State) : State :=
  { s with dram := [], dramMark := [], hbm := { s.hbm with filling := true } }

/-- Every DRAM content is lost (R92, R429): library slots become invalid (R141), and of the chunks that a scope's buffer held only
zeros are left, which hold no record. -/
def dropLibs (s : State) : State :=
  let lose (c : LaceScope) : LaceScope := { c with chunks := c.chunks.map (fun k => { k with recs := [] }) }
  { s with lace := { scopes := s.lace.scopes.map lose, libs := Vector.replicate 15 LibSlot.empty, reg := none }
           bob := { s.bob with cache := [] } }

/-- The beam scan (source 1) or scrub (source 2) that claimed a result slot in this cycle and still runs is refused with fault c: what
refuses it takes effect first (Tables 12-8, 13-11). -/
def unproduce (c : FaultCode) (s : State) (e : CycleEvent) : State :=
  match e with
  | .produced src k old req ab =>
    let s1 := ({ s with cyc := s.cyc.erase e }.setSlot k old).raise c
    if src = 1 then { s1 with
      plan := { s1.plan with scan := none }, caril := { s1.caril with measureReq := req, measureAbort := ab } }
    else { s1 with hbm := { s1.hbm with scrub := none } }
  | _ => s

/-- The producers of this cycle that still run and that `p` picks by their source and slot. -/
def State.producers (p : Nat → Nat → Bool) (s : State) : List CycleEvent :=
  s.cyc.filter (fun e => match e with
    | .produced src k _ _ _ => p src k && (if src = 1 then s.plan.scan.isSome else s.hbm.scrub.isSome)
    | _ => false)

/-- HBM_CMD REMAP (R429); a scrub that START began in this cycle comes after it and is refused (Table 12-8). -/
def doRemap (s0 : State) : State :=
  let s := (s0.producers (fun src _ => src == 2)).foldl (unproduce .MEM_SCRUB_BUSY) s0
  if !((List.range 11).all (fun k => maskValid k (s0.hashMask false k))) then s0.raise .MEM_CONFIG_INVALID
  else if !s.allIdle || s.dma.ops != [] || s.hbm.scrub.isSome || s.hbm.filling then s0.raise .MEM_CONFIG_BUSY
  else
    let s := (List.range 11).foldl (fun s k =>
      (s.setRg .HBM_HASH_MASK_LO (s.rg .HBM_HASH_MASK_LO k) (k + 16)).setRg .HBM_HASH_MASK_HI (s.rg .HBM_HASH_MASK_HI k) (k + 16)) s
    dropLibs (beginFill s)

/-- The end of a fill with its read-back (R445): `bad` is the mask of pseudo-channels that returned a non-clean codeword. -/
def fillEnd (bad : Nat) (s : State) : State :=
  let s := { s with hbm := { s.hbm with filling := false } }
  (List.range 64).foldl (fun s q =>
    if bit bad q = 1 then (s.setFd F.HBM_PC_STATUS_FAILED 1 q).raise .MEM_PC_FAILED
    else s.setFd F.HBM_PC_STATUS_FAILED 0 q) s

/-- HBM_SCRUB_CMD START (R446). -/
def doScrubStart (s : State) : State :=
  let base := s.pair F.HBM_SCRUB_BASE_LO_ADDR F.HBM_SCRUB_BASE_HI_ADDR
  let size := s.pair F.HBM_SCRUB_SIZE_LO_SIZE F.HBM_SCRUB_SIZE_HI_SIZE
  let slot := s.fd F.HBM_SCRUB_CFG_SLOT
  if s.hbm.scrub.isSome || s.hbm.filling then s.raise .MEM_SCRUB_BUSY
  else if base % 32 ≠ 0 ∨ size % 32 ≠ 0 ∨ size = 0 ∨ base + size > dramEnd then s.raise .MEM_CONFIG_INVALID
  else if (s.slot slot).st != .free then s.raise .HST_SLOT_BUSY
  else
    let x : Scrub := { addr := base, stop := base + size, slot := slot, repair := s.fb F.HBM_SCRUB_CFG_REPAIR, ce := 0, ue := 0,
                       af := 0, first := none, last := 0, count := 0 }
    (slotClaim slot 2 0 { s with hbm := { s.hbm with scrub := some x } }).mark
      (.produced 2 slot (s.slot slot) s.caril.measureReq s.caril.measureAbort)

/-- The codewords of n from codeword w0 on that are not clean, ascending, with their syndromes; one of a failed pseudo-channel reads
back as poison (R445), which is uncorrectable. -/
def State.failing (s : State) (w0 n : Nat) : List (Nat × Nat) :=
  if s.anyPcFailed then
    ((List.range n).map (fun k => (w0 + k, if s.pcFailed (s.pcOf (16 * (w0 + k))) then poisonMark
      else Sparse.get 0 s.dramMark (w0 + k)))).filter (fun e => e.2 != 0)
  else s.dramMark.filter (fun e => decide (w0 ≤ e.1 ∧ e.1 < w0 + n))

/-- The scrubber's results over `n` codewords from its base (R446, R447): the counts, and the repaired marks. -/
def scrubOver (x : Scrub) (n : Nat) (s : State) : Scrub × State :=
  let marks := s.failing (x.addr / 16) n
  let cls (c : SynClass) : List (Nat × Nat) := marks.filter (fun e => decide (classOf e.2 = c))
  let y : Scrub :=
    { x with
      ce := (cls .corrected).length
      ue := (cls .uncorrectable).length
      af := (cls .addressFault).length
      first := (marks.map (·.1)).head?
      last := (marks.map (·.1)).getLast?.getD 0
      count := n }
  let s := { s with hbm := { s.hbm with scrub := none } }
  let s := marks.foldl (fun s e => (readClass 0x58 (e.1 * 16) e.2 s).2) s
  (y, if x.repair then (cls .corrected).foldl (fun s e => writeMark true e.1 s) s else s)

/-- The scrub result payload (Table 12-7). -/
def scrubPayload (x : Scrub) (aborted : Bool) (fault : Nat) : List Word :=
  let w (v : Nat) : Word := BitVec.ofNat 32 v
  [w (fault + 65536 * b2n aborted + 131072 * b2n x.repair + 262144 * b2n x.first.isSome), w (min 0xFFFFFFFF x.ce),
   w (min 0xFFFFFFFF x.ue), w (min 0xFFFFFFFF x.af), w (x.first.getD 0), w x.last, w x.count, w (x.count / 2 ^ 32), 0, 0, 0, 0]

/-- The scrub reaches its end (R448). -/
def doScrubDone (s : State) : State :=
  match s.hbm.scrub with
  | none => s
  | some x =>
    let r := scrubOver x ((x.stop - x.addr) / 16) s
    slotFillProducer x.slot (scrubPayload r.1 false 0) r.2

/-- HBM_SCRUB_CMD ABORT (R448). How far the scrub has come is a free value. -/
def doScrubAbort (s : State) : State :=
  match s.hbm.scrub with
  | none => s
  | some x =>
    let f := s.free 36
    let r := scrubOver x (f.1 % ((x.stop - x.addr) / 16 + 1)) f.2
    slotFillProducer x.slot (scrubPayload r.1 true 0) r.2

/-- HBM_INJECT_CMD with a mode (R449): 0 disarms. -/
def doInject (mode : Nat) (s : State) : State :=
  if mode = 0 then { s with hbm := { s.hbm with inject := none } }
  else if !s.allIdle then s.raise .MEM_CONFIG_BUSY
  else { s with hbm := { s.hbm with
    inject := some (mode, s.pair F.HBM_INJECT_LO_ADDR F.HBM_INJECT_HI_ADDR / 16 * 16) } }

/-! ## Meanings -/

/-- RH_WINDOW (R432): WINDOW_MS have passed since the trackers were last cleared, and every one is cleared. -/
def rhWindow (s : State) : State :=
  if s.now ≥ s.hbm.windowAt + 1000000000 * max 1 (s.fd F.HBM_RH_CFG_WINDOW_MS) then
    { s with hbm := { s.hbm with trackers := [], windowAt := s.now } }
  else s

/-- RH_WINDOW (R432). -/
def execRhWindow (s : State) : Host.Outcome State Fault Refusal := .next (rhWindow s)

/-- RH_HOLD_EXPIRE (R433): the holds that have run HOLD_US end. -/
def execRhHoldExpire (s : State) : Host.Outcome State Fault Refusal :=
  .next { s with hbm := { s.hbm with holds := s.hbm.holds.filter (fun h => decide (s.now < h.until_)) } }

/-- A bank of a stack is refreshed: it keeps its contents, and nothing that a read shows changes (R430). -/
def refreshBank (_ : Fin 2) (_ : Fin 1024) (s : State) : State := s

/-- REFRESH (R430). -/
def execRefresh (stack : Fin 2) (bank : Fin 1024) (s : State) : Host.Outcome State Fault Refusal :=
  .next (refreshBank stack bank s)

/-- REMAP (R429). -/
def execRemap (s : State) : Host.Outcome State Fault Refusal := .next (s.hostCmd .HBM_CMD 1 doRemap)

/-- SCRUB_START (R446). -/
def execScrubStart (s : State) : Host.Outcome State Fault Refusal := .next (s.hostCmd .HBM_SCRUB_CMD 1 doScrubStart)

/-- SCRUB_ABORT (R448). -/
def execScrubAbort (s : State) : Host.Outcome State Fault Refusal := .next (s.hostCmd .HBM_SCRUB_CMD 2 doScrubAbort)

/-- SCRUB_DONE (R448). -/
def execScrubDone (s : State) : Host.Outcome State Fault Refusal := .next (s.whenReady doScrubDone)

/-- INJECT (R449): modes 1 to 3. -/
def execInject (mode : BitVec 2) (s : State) : Host.Outcome State Fault Refusal :=
  .next (s.hostCmd .HBM_INJECT_CMD mode.toNat (doInject mode.toNat))

/-- INJECT_DISARM (R449). -/
def execInjectDisarm (s : State) : Host.Outcome State Fault Refusal := .next (s.hostCmd .HBM_INJECT_CMD 0 (doInject 0))

end Sys2Proof.Machine
end

