-- ==== Sys2Proof/Machine/LaceFormat.lean ====
section
/-! DEFINITION. The lace stream format (Chapter 3): stitches, records, boxes and orientations, and the checks of Table 3-5 that
need only the chunk and what the scope and the libraries hold. -/

namespace Sys2Proof.Machine

/-! ## Records (R100 to R104, R643) -/

/-- X of a vertex stitch (R103). -/
def vtxX (v : Nat) : Int := sext 31 (bits v 30 0)
/-- KIND of a vertex stitch. -/
def vtxKind (v : Nat) : Nat := bit v 31
/-- Y of a vertex stitch. -/
def vtxY (v : Nat) : Int := sext 31 (bits v 62 32)
/-- The point of a vertex stitch. -/
def vtx (v : Nat) : Int × Int := (vtxX v, vtxY v)

/-- Body stitches of a head (Table 3-2), from its count fields as written; none for a reserved opcode. -/
def bodyCount (head : Nat) : Option Nat :=
  match bits head 5 0 with
  | 0x00 => some 0
  | 0x01 => some 2
  | 0x02 => some 0
  | 0x04 => some 1
  | 0x05 => some 0
  | 0x06 => some 0
  | 0x08 => some 0
  | 0x09 => some 0
  | 0x0A => some (1 + ((bits head 18 9 + 1) * (bits head 28 19 + 1) + 3) / 4)
  | 0x0C => some 0
  | 0x0D => some 0
  | 0x10 => some 2
  | 0x11 => some 0
  | 0x14 => some 2
  | 0x15 => some 3
  | 0x16 => some (bits head 18 6)
  | 0x17 => some (bits head 18 6)
  | 0x18 => some ((bits head 21 14 + 1) * ((bits head 13 6 + 1 + 63) / 64))
  | 0x1C => some 1
  | 0x1D => some 4
  | 0x20 => some 0
  | 0x21 => some 0
  | _ => none

/-- The head bits a record's fields occupy, the opcode included (Table 3-2). -/
def headMask (op : Nat) : Nat :=
  let f (hi lo : Nat) : Nat := (2 ^ (hi + 1 - lo) - 1) * 2 ^ lo
  63 + match op with
  | 0x01 => f 23 6
  | 0x02 => f 63 32
  | 0x04 => f 12 6
  | 0x06 => f 27 6
  | 0x08 => f 28 6
  | 0x0A => f 28 6
  | 0x0C => f 11 6
  | 0x10 => f 25 6
  | 0x15 => f 6 6
  | 0x16 => f 19 6
  | 0x17 => f 19 6
  | 0x18 => f 53 6
  | 0x1C => f 32 6
  | 0x1D => f 32 6
  | _ => 0

/-- The walk of R643 over the stitches of a chunk or library body from offset `off`, `last` being the offset of the seal
or the end. It answers the records found and the offset of the head that stopped it, if one did. -/
def walk (fuel off last : Nat) (l : List Nat) : List LaceRec × Option Nat :=
  match fuel with
  | 0 => ([], none)
  | fuel + 1 =>
    if off ≥ last then ([], none)
    else match l with
      | [] => ([], none)
      | h :: t =>
        match bodyCount h with
        | none => ([], some off)
        | some n =>
          if off + n ≥ last then ([], some off)
          else
            let r := walk fuel (off + 1 + n) last (t.drop n)
            (⟨off, bits h 5 0, h, t.take n⟩ :: r.1, r.2)

/-- Body stitch i of a record. -/
def LaceRec.b (r : LaceRec) (i : Nat) : Nat := r.body.getD i 0

/-- Offsets of the vertex stitches among the body stitches of a record whose KIND is reserved (R103). -/
def plainVertices (r : LaceRec) : List Nat :=
  match r.op with
  | 0x0A => [0]
  | 0x10 => [0, 1]
  | 0x14 => [0, 1]
  | 0x15 => [0, 1]
  | 0x16 => List.range r.body.length
  | 0x1C => [0]
  | 0x1D => [0, 1, 2]
  | _ => []

/-- The offset of the first stitch of a record with a reserved bit set (R100, R103), if any. -/
def reservedBad (r : LaceRec) : Option Nat :=
  let headBad := if r.op = 0 then r.head != 0 else Nat.land r.head (headMask r.op) != r.head
  if headBad then some r.off
  else
    let badAt (i : Nat) : Bool :=
      let v := r.b i
      if (plainVertices r).contains i then bit v 63 != 0 || bit v 31 != 0
      else match r.op, i with
        | 0x01, 1 => decide (v ≥ 2 ^ 51)
        | 0x04, 0 => decide (v ≥ 2 ^ 61)
        | 0x15, 2 => bit v 63 != 0 || bit v 31 != 0
        | 0x17, _ => bit v 63 != 0
        | 0x1D, 3 => decide (v ≥ 2 ^ 32)
        | _, _ => false
    match (List.range r.body.length).find? badAt with
    | some i => some (r.off + 1 + i)
    | none => none

/-! ## Orientation and boxes (R119, R120, R134) -/

/-- ORIENT applied to a point (Table 3-3). -/
def orient (o : Nat) (p : Int × Int) : Int × Int :=
  match o % 8 with
  | 0 => p
  | 1 => (-p.2, p.1)
  | 2 => (-p.1, -p.2)
  | 3 => (p.2, -p.1)
  | 4 => (-p.1, p.2)
  | 5 => (-p.2, -p.1)
  | 6 => (p.1, -p.2)
  | _ => (p.2, p.1)

/-- A closed box (R644). -/
structure Box where
  x0 : Int
  y0 : Int
  x1 : Int
  y1 : Int
deriving DecidableEq, Repr

/-- Two closed boxes meet (R644). -/
def Box.meets (a b : Box) : Bool := decide (a.x0 ≤ b.x1 ∧ b.x0 ≤ a.x1 ∧ a.y0 ≤ b.y1 ∧ b.y0 ≤ a.y1)

/-- a lies within b. -/
def Box.within (a b : Box) : Bool := decide (b.x0 ≤ a.x0 ∧ a.x1 ≤ b.x1 ∧ b.y0 ≤ a.y0 ∧ a.y1 ≤ b.y1)

/-- The smallest box containing both. -/
def Box.join (a b : Box) : Box := ⟨min a.x0 b.x0, min a.y0 b.y0, max a.x1 b.x1, max a.y1 b.y1⟩

/-- A box translated. -/
def Box.shift (a : Box) (dx dy : Int) : Box := ⟨a.x0 + dx, a.y0 + dy, a.x1 + dx, a.y1 + dy⟩

/-- The smallest box containing the points of a list. -/
def boxOf (l : List (Int × Int)) : Box :=
  match l with
  | [] => ⟨0, 0, 0, 0⟩
  | p :: t => t.foldl (fun b q => b.join ⟨q.1, q.2, q.1, q.2⟩) ⟨p.1, p.2, p.1, p.2⟩

/-- A box under an orientation. -/
def Box.orient (o : Nat) (b : Box) : Box := boxOf [Machine.orient o (b.x0, b.y0), Machine.orient o (b.x1, b.y1)]

/-- The declared box of a motif (R131). -/
def LaceMotif.box (m : LaceMotif) : Box := ⟨m.xmin, m.ymin, m.xmax, m.ymax⟩

/-- Fields of PLACE and ARRAY heads. -/
def placeIndex (r : LaceRec) : Nat := bits r.head 25 6
def placeLib (r : LaceRec) : Nat := bits r.head 29 26
def placeOrient (r : LaceRec) : Nat := bits r.head 32 30
/-- NA and NB of an ARRAY. -/
def arrayNA (r : LaceRec) : Nat := bits (r.b 3) 15 0
def arrayNB (r : LaceRec) : Nat := bits (r.b 3) 31 16

/-- The polygon of a TRAP (R123). -/
def trapPoints (r : LaceRec) : List (Int × Int) :=
  let a0 := vtxX (r.b 0); let s0 := vtxY (r.b 0)
  let b0 := vtxX (r.b 1); let s1 := vtxY (r.b 1)
  let a1 := vtxX (r.b 2); let b1 := vtxY (r.b 2)
  if bit r.head 6 = 0 then [(a0, s0), (b0, s0), (b1, s1), (a1, s1)] else [(s0, a0), (s0, b0), (s1, b1), (s1, a1)]

/-- The box of a primitive record, in the record's own frame (R134); P is the pixel size for BITMAP. -/
def primBox (p : Nat) (r : LaceRec) : Box :=
  match r.op with
  | 0x14 => boxOf [vtx (r.b 0), vtx (r.b 1)]
  | 0x15 => boxOf (trapPoints r)
  | 0x18 =>
    let w : Int := bits r.head 13 6 + 1
    let h : Int := bits r.head 21 14 + 1
    let px := sext 16 (bits r.head 37 22)
    let py : Int := bits r.head 53 38
    ⟨px * p, py * p, (px + w) * p, (py + h) * p⟩
  | _ => boxOf (r.body.map vtx)

/-- The box of a placement of a motif (R134). -/
def placeBox (m : LaceMotif) (r : LaceRec) : Box :=
  let b := (m.box.orient (placeOrient r)).shift (vtxX (r.b 0)) (vtxY (r.b 0))
  if r.op = 0x1D then
    let ia : Int := arrayNA r - 1
    let ib : Int := arrayNB r - 1
    let ax := ia * vtxX (r.b 1); let ay := ia * vtxY (r.b 1)
    let bx := ib * vtxX (r.b 2); let by_ := ib * vtxY (r.b 2)
    ((b.join (b.shift ax ay)).join (b.shift bx by_)).join (b.shift (ax + bx) (ay + by_))
  else b

/-! ## Per-record rules (phase 6 of Table 3-5) -/

/-- The CONTOUR rules of R125. -/
def contourOk (l : List Nat) : Bool :=
  let kinds := l.map vtxKind
  let n := kinds.length
  let k (i : Nat) : Nat := kinds.getD (i % n) 0
  decide (2 ≤ n ∧ n ≤ 4096) && k 0 == 0 && (List.range n).all (fun i => !(k i == 1 && k (i + 1) == 1)) &&
    (kinds.contains 1 || decide (3 ≤ n))

/-- Bits of a BITMAP body beyond its width are 0 (R128). -/
def bitmapPadOk (r : LaceRec) : Bool :=
  let w := bits r.head 13 6 + 1
  let per := (w + 63) / 64
  (List.range r.body.length).all (fun i =>
    if i % per + 1 = per then decide (r.b i < 2 ^ (w - 64 * (per - 1))) else true)

/-- The primitive rules of R122 to R125 and R128; `winLines` is 32 × WIN_BLOCKS. -/
def primOk (winLines : Nat) (r : LaceRec) : Bool :=
  match r.op with
  | 0x14 => decide (vtxX (r.b 0) < vtxX (r.b 1) ∧ vtxY (r.b 0) < vtxY (r.b 1))
  | 0x15 =>
    let a0 := vtxX (r.b 0); let s0 := vtxY (r.b 0)
    let b0 := vtxX (r.b 1); let s1 := vtxY (r.b 1)
    let a1 := vtxX (r.b 2); let b1 := vtxY (r.b 2)
    decide (s0 < s1 ∧ a0 ≤ b0 ∧ a1 ≤ b1 ∧ (a0 < b0 ∨ a1 < b1))
  | 0x16 => decide (3 ≤ r.body.length ∧ r.body.length ≤ 4096)
  | 0x17 => contourOk r.body
  | 0x18 => bitmapPadOk r && decide (bits r.head 53 38 < winLines)
  | _ => true

/-- NA and NB each 1 to 65,535 (R120). -/
def arrayOk (r : LaceRec) : Bool := r.op != 0x1D || (arrayNA r != 0 && arrayNB r != 0)

/-- A primitive, a placement or an array may stand in a motif definition (R110). -/
def inMotif (op : Nat) : Bool := op == 0x14 || op == 0x15 || op == 0x16 || op == 0x17 || op == 0x1C || op == 0x1D

/-- POLY or CONTOUR with GROUP = 1 (R126). -/
def grouped (r : LaceRec) : Bool := (r.op == 0x16 || r.op == 0x17) && bit r.head 19 == 1

/-! ## Motif rules (phase 7 of Table 3-5; R131 to R133) -/

/-- Find a motif among those of a library slot or the stream-local ones already defined. -/
def findMotif (libs : List (List LaceMotif)) (loc : List LaceMotif) (lib idx : Nat) : Option LaceMotif :=
  if lib = 15 then loc.find? (fun m => m.index == idx) else (libs.getD lib []).find? (fun m => m.index == idx)

/-- The failure of a placement's reference (R132, R133), with `limit` the lowest INDEX a library motif may not place. -/
def placeFault (libs : List (List LaceMotif)) (loc : List LaceMotif) (r : LaceRec) : Option FaultCode :=
  match findMotif libs loc (placeLib r) (placeIndex r) with
  | none => some .LAC_MOTIF_REF
  | some _ => none

/-- One motif definition: from its records build the motif and the failures found, each with its offset. -/
def buildMotif (libs : List (List LaceMotif)) (loc : List LaceMotif) (libSelf : Option Nat)
    (op : LaceRec) (body : List LaceRec) : LaceMotif × List (Nat × FaultCode) :=
  let idx := bits op.head 25 6
  let declared : Box := ⟨vtxX (op.b 0), vtxY (op.b 0), vtxX (op.b 1), vtxY (op.b 1)⟩
  let look (r : LaceRec) : Option LaceMotif :=
    match libSelf with
    | some slot =>
      if placeLib r = slot ∧ placeIndex r < idx then loc.find? (fun m => m.index == placeIndex r) else none
    | none => findMotif libs loc (placeLib r) (placeIndex r)
  let places := body.filter (fun r => r.op == 0x1C || r.op == 0x1D)
  let refBad := places.filterMap (fun r => if (look r).isNone then some (r.off, FaultCode.LAC_MOTIF_REF) else none)
  let lvl := (places.filterMap look).foldl (fun n m => max n (m.level + 1)) 1
  let depthBad := if lvl > 8 then
      (places.filterMap (fun r => match look r with
        | some m => if m.level ≥ 8 then some (r.off, FaultCode.LAC_MOTIF_DEPTH) else none
        | none => none)) else []
  let boxBad := if declared.x0 ≤ declared.x1 ∧ declared.y0 ≤ declared.y1 then
      body.filterMap (fun r =>
        let b := if r.op = 0x1C ∨ r.op = 0x1D then (look r).map (fun m => placeBox m r) else some (primBox 1 r)
        match b with
        | some b => if b.within declared then none else some (r.off, FaultCode.LAC_MOTIF_BOX)
        | none => none)
    else [(op.off, FaultCode.LAC_MOTIF_BOX)]
  (⟨idx, declared.x0, declared.y0, declared.x1, declared.y1, lvl, body⟩, refBad ++ depthBad ++ boxBad)

/-- Split a list of records into motif definitions (MOTIF_OPEN, body), in order. -/
def motifDefs (fuel : Nat) (l : List LaceRec) : List (LaceRec × List LaceRec) :=
  match fuel with
  | 0 => []
  | fuel + 1 =>
    match l with
    | [] => []
    | r :: t =>
      if r.op = 0x10 then
        (r, t.takeWhile (fun q => q.op != 0x11)) :: motifDefs fuel ((t.dropWhile (fun q => q.op != 0x11)).drop 1)
      else motifDefs fuel t

/-- Build every motif of a list of definitions in order (R132: a later one may use an earlier one). -/
def buildMotifs (libs : List (List LaceMotif)) (libSelf : Option Nat) (acc : List LaceMotif)
    (defs : List (LaceRec × List LaceRec)) : List LaceMotif × List (Nat × FaultCode) :=
  match defs with
  | [] => (acc, [])
  | d :: t =>
    let m := buildMotif libs acc libSelf d.1 d.2
    let asc := match acc.getLast? with
      | some p => if p.index < m.1.index then [] else [(d.1.off, FaultCode.LAC_MOTIF_REF)]
      | none => []
    let r := buildMotifs libs libSelf (acc ++ [m.1]) t
    (r.1, asc ++ m.2 ++ r.2)

/-! ## Chunk checks (Table 3-5) -/

/-- The failure at the lowest offset of a phase, the first listed where two share it (R148). -/
def firstFail (l : List (Nat × FaultCode)) : Option (Nat × FaultCode) :=
  match l with
  | [] => none
  | x :: t => match firstFail t with
    | none => some x
    | some y => if y.1 < x.1 then some y else some x

/-- Where the scope automaton of R106 to R110 stands. -/
inductive ScopePos where
  | stripe | classDefs | density | motifs | inMotif | body | inClass | bandClosed | stripeClosed
deriving DecidableEq, Repr

/-- One record of a chunk under R106 to R110: the next position, or none where the record may not stand there. NOPs and
the CHUNK_OPEN head have been taken out before. -/
def scopeNext (isLast : Bool) (p : ScopePos) (op : Nat) : Option ScopePos :=
  match p with
  | .stripe => if op = 0x04 then some .classDefs else none
  | .classDefs => if op = 0x06 then some .classDefs else if op = 0x08 then some .density else none
  | .density => if op = 0x0A then some .density else if op = 0x10 then some .inMotif else none
  | .motifs => if op = 0x10 then some .inMotif else none
  | .inMotif => if op = 0x11 then some .motifs else if inMotif op then some .inMotif else none
  | .body => if op = 0x0C then some .inClass else if isLast && op == 0x09 then some .bandClosed else none
  | .inClass => if op = 0x0D then some .body else if inMotif op || op == 0x18 then some .inClass else none
  | .bandClosed => if op = 0x05 then some .stripeClosed else none
  | .stripeClosed => none

/-- The offset of the first record that stands where it may not, or of the seal when the chunk ends too early; GROUP is
followed as R126 requires. -/
def scopeFail (isLast : Bool) (sealAt : Nat) (p : ScopePos) (prevGrouped : Bool) (l : List LaceRec) : Option Nat :=
  match l with
  | [] =>
    if prevGrouped then some sealAt
    else match p with
      | .density => none
      | .motifs => none
      | .body => if isLast then some sealAt else none
      | .stripeClosed => none
      | _ => some sealAt
  | r :: t =>
    if prevGrouped && !(r.op == 0x16 || r.op == 0x17) then some r.off
    else match scopeNext isLast p r.op with
      | none => some r.off
      | some q => scopeFail isLast sealAt q (grouped r) t

/-- The items of a body chunk with their class: each shape group, primitive, BITMAP, PLACE or ARRAY (R152). -/
def itemsOf (cls : Nat) (acc : List LaceRec) (l : List LaceRec) : List (Nat × List LaceRec) :=
  match l with
  | [] => []
  | r :: t =>
    if r.op = 0x0C then itemsOf (bits r.head 11 6) [] t
    else if inMotif r.op || r.op == 0x18 then
      if grouped r then itemsOf cls (acc ++ [r]) t else (cls, acc ++ [r]) :: itemsOf cls [] t
    else itemsOf cls [] t

/-- The box of an item (R134, R152); none where a placement names no motif. -/
def itemBox (libs : List (List LaceMotif)) (loc : List LaceMotif) (p : Nat) (rs : List LaceRec) : Option Box :=
  match rs with
  | [] => none
  | r :: t =>
    if r.op = 0x1C ∨ r.op = 0x1D then (findMotif libs loc (placeLib r) (placeIndex r)).map (fun m => placeBox m r)
    else some (t.foldl (fun b q => b.join (primBox p q)) (primBox p r))

/-- What a header chunk says (R106, R111 to R116). -/
structure LaceHeader where
  stripeId : Nat
  lines : Nat
  pixelSel : Nat
  classCount : Nat
  classes : List (Nat × Nat × Nat)
  devIndex : Nat
  edge : Nat
  margin : Nat
  density : List LaceRec
  motifs : List LaceMotif
deriving DecidableEq, Repr

/-- Read a header chunk's records. -/
def readHeader (libs : List (List LaceMotif)) (recs : List LaceRec) : LaceHeader :=
  let so := (recs.find? (fun r => r.op == 0x04)).getD ⟨0, 0, 0, []⟩
  let bo := (recs.find? (fun r => r.op == 0x08)).getD ⟨0, 0, 0, []⟩
  { stripeId := bits (so.b 0) 31 0, lines := bits (so.b 0) 58 32, pixelSel := bits (so.b 0) 60 59,
    classCount := bits so.head 12 6,
    classes := (recs.filter (fun r => r.op == 0x06)).map
      (fun r => (bits r.head 11 6, bits r.head 21 12, bits r.head 27 22)),
    devIndex := bits bo.head 11 6, edge := bits bo.head 15 12, margin := bits bo.head 28 16,
    density := recs.filter (fun r => r.op == 0x0A),
    motifs := (buildMotifs libs none [] (motifDefs recs.length recs)).1 }

/-- Level, origin and extent of a DENSITY record (R114). -/
def densLevel (r : LaceRec) : Nat := bits r.head 8 6
def densNX (r : LaceRec) : Nat := bits r.head 18 9 + 1
def densNY (r : LaceRec) : Nat := bits r.head 28 19 + 1
/-- Value k of a DENSITY record. -/
def densVal (r : LaceRec) (k : Nat) : Nat := bits (r.b (1 + k / 4)) (16 * (k % 4) + 15) (16 * (k % 4))

/-- A DENSITY record's own rules: padding bits 0 (R114), no cell wholly inside the column stripe's area (R115). `sw` and
`sl` are the width and the lines of that area. -/
def densityOk (sw sl : Nat) (r : LaceRec) : Bool :=
  let n := densNX r * densNY r
  let side : Int := 64 * 2 ^ densLevel r
  let cx := vtxX (r.b 0); let cy := vtxY (r.b 0)
  let padOk := decide (n % 4 = 0) || decide (r.b (1 + (n - 1) / 4) < 2 ^ (16 * (n % 4)))
  -- columns and rows of cells that lie inside the area
  let inX := (List.range (densNX r)).any (fun (i : Nat) => decide (0 ≤ (cx + i) * side ∧ (cx + i + 1) * side ≤ (sw : Int)))
  let inY := (List.range (densNY r)).any (fun (j : Nat) => decide (0 ≤ (cy + j) * side ∧ (cy + j + 1) * side ≤ (sl : Int)))
  padOk && !(inX && inY)

/-- Two DENSITY records of one level share a cell (R116). -/
def densityClash (a b : LaceRec) : Bool :=
  decide (densLevel a = densLevel b ∧
    vtxX (a.b 0) < vtxX (b.b 0) + densNX b ∧ vtxX (b.b 0) < vtxX (a.b 0) + densNX a ∧
    vtxY (a.b 0) < vtxY (b.b 0) + densNY b ∧ vtxY (b.b 0) < vtxY (a.b 0) + densNY a)

/-- Records of a list that break a rule against an earlier record of the list. -/
def clashes (bad : LaceRec → LaceRec → Bool) (seen : List LaceRec) (l : List LaceRec) : List Nat :=
  match l with
  | [] => []
  | r :: t => (if seen.any (fun q => bad q r) then [r.off] else []) ++ clashes bad (seen ++ [r]) t

end Sys2Proof.Machine
end

