-- ==== Sys2Proof/Machine/Lace.lean ====
section
/-! DEFINITION. Lace intake and libraries (Chapter 3): scopes, chunks, registration. -/

namespace Sys2Proof.Machine

/-! ## Scopes -/

/-- Scope i. -/
def State.scope (s : State) (i : Fin 2) : LaceScope := s.lace.scopes[i]

/-- Replace scope i. -/
def State.setScope (s : State) (i : Fin 2) (sc : LaceScope) : State :=
  { s with lace := { s.lace with scopes := s.lace.scopes.set i sc } }

/-- The scope LACE_SCOPE_SEL selects. -/
def State.scopeSel (s : State) : Fin 2 := if s.fd F.LACE_SCOPE_SEL_SCOPE = 0 then 0 else 1

/-- The motifs of every library slot, by slot. -/
def State.libMotifs (s : State) : List (List LaceMotif) :=
  s.lace.libs.toList.map (fun l => if l.valid then l.motifs else [])

/-- The header chunk's records of a scope. -/
def LaceScope.headerRecs (sc : LaceScope) : List LaceRec :=
  match sc.chunks.find? (fun c => c.seq == 0) with
  | some c => c.recs
  | none => []

/-- What the accepted header chunk of a scope says. -/
def State.header (s : State) (sc : LaceScope) : LaceHeader := readHeader s.libMotifs sc.headerRecs

/-- A header matches the stripe configuration (R111). -/
def State.headerFits (s : State) (h : LaceHeader) : Bool :=
  h.stripeId == s.stripeId && h.lines == s.lines && h.pixelSel == s.fd F.PLAN_STRIPE_CFG_PIXEL_SEL && h.devIndex == s.str.devIndex

/-- The scope bound to the stripe (R143), or the one ARM would use: open, header accepted, STRIPE_ID equal. -/
def State.boundScope (s : State) : Option (Fin 2) :=
  let ok (i : Fin 2) : Bool := (s.scope i).isOpen && (s.scope i).headerOk && s.headerFits (s.header (s.scope i))
  if (s.scope 0).bound then some 0 else if (s.scope 1).bound then some 1
  else if ok 0 then some 0 else if ok 1 then some 1 else none

/-- Buffer bytes a scope's chunks and arriving chunk occupy (R147, R156). -/
def LaceScope.used (sc : LaceScope) : Nat :=
  sumN ((sc.chunks.filter (fun c => !c.freed)).map (fun c => 8 * c.length)) + sumN (sc.whole.map (fun w => 8 * w.2.length)) +
    8 * (if sc.intake.stitches = [] then 0 else max sc.intake.length sc.intake.stitches.length)

/-- Free buffer space of a scope in bytes (R151). -/
def LaceScope.free (sc : LaceScope) : Nat := sc.bufSizeMb * 2 ^ 20 - sc.used

/-- Buffer bytes that no stitch has filled: what a flow's credit rests on. The rest of a chunk whose head has passed is free in this
count, since its sender has been granted it before (R405). -/
def LaceScope.room (sc : LaceScope) : Nat :=
  sc.bufSizeMb * 2 ^ 20 - (sumN ((sc.chunks.filter (fun c => !c.freed)).map (fun c => 8 * c.length)) +
    sumN (sc.whole.map (fun w => 8 * w.2.length)) + 8 * sc.intake.stitches.length)

/-- A rejection (R148): the fault, and SEQ, code, count and offset in the scope's reject registers. -/
def laceReject (i : Fin 2) (c : FaultCode) (off : Nat) (s : State) : State :=
  let seq := (s.scope i).nextSeq
  ((((s.setFd F.LACE_REJECT_SEQ_SEQ seq i.val).setFd F.LACE_REJECT_CODE_FAULT c.num i.val).bump
    F.LACE_REJECT_CODE_COUNT 1 i.val).setFd F.LACE_REJECT_STITCH_OFFSET off i.val).raise c

/-- Where a chunk of n stitches lies in the buffer of a scope. The spec leaves the place open: a free value, inside the buffer. -/
def State.chunkPlace (s : State) (sc : LaceScope) (n : Nat) : Nat × State :=
  let f := s.free 30
  (s.partBase + sc.bufBaseMb * 2 ^ 20 + 8 * (f.1 % (sc.bufSizeMb * 2 ^ 17 - n + 1)), f.2)

/-- Lace intake writes a stitch into a scope's buffer as it arrives (R147). -/
def stitchStore (a : Nat) (w : Stitch) (s : State) : State :=
  let t := dramWrite a (leBytes 8 w.toNat) s
  { s with dram := t.dram, dramMark := t.dramMark, hbm := t.hbm }

/-- One stitch arrives for scope i. A CHUNK_OPEN head of a UDP flow is judged against the free space (R151); the last
stitch of a chunk completes it. -/
def laceStitch (i : Fin 2) (w : Stitch) (s : State) : State :=
  let sc := s.scope i
  if !sc.isOpen then (s.bump F.LACE_DROP_COUNT_COUNT 1 i.val).raise .LAC_NO_SCOPE
  else if sc.intake.discard > 0 then
    s.setScope i { sc with intake := { sc.intake with discard := sc.intake.discard - 1 } }
  else if sc.intake.stitches = [] then
    let len := if bits w.toNat 5 0 = 1 then bits w.toNat 23 6 else 0
    if !sc.dma && decide (8 * len > sc.free) then
      (laceReject i .LAC_BUFFER 0 s).setScope i { sc with intake := ⟨0, [], 0, len - 1⟩ }
    else
      let p := s.chunkPlace sc (max 1 len)
      let t := stitchStore p.1 w p.2
      if len ≤ 1 then t.setScope i { sc with whole := sc.whole ++ [(p.1, [w])] }
      else t.setScope i { sc with intake := ⟨p.1, [w], len, 0⟩ }
  else
    let l := sc.intake.stitches ++ [w]
    let t := stitchStore (sc.intake.at_ + 8 * sc.intake.stitches.length) w s
    if l.length ≥ sc.intake.length then
      t.setScope i { sc with intake := ⟨0, [], 0, 0⟩, whole := sc.whole ++ [(sc.intake.at_, l)] }
    else t.setScope i { sc with intake := { sc.intake with stitches := l } }

/-- Stitches arrive for scope i, in order (R146, R147). -/
def laceIntake (i : Fin 2) (l : List Stitch) (s : State) : State := l.foldl (fun s w => laceStitch i w s) s

/-! ## Judging a chunk (Table 3-5) -/

/-- The bytes the chunk CRC covers (R150). -/
def chunkCrcBytes (s : State) (sc : LaceScope) (l : List Nat) : List Byte :=
  leBytes 4 sc.streamId ++ leBytes 4 sc.nextSeq ++ leBytes 4 s.node ++ (l.map (leBytes 8)).flatten

/-- L as the stream states it, from the header. -/
def State.streamLines (s : State) (sc : LaceScope) : Nat := (s.header sc).lines

/-- The line after the last accepted window. -/
def LaceScope.nextWin (sc : LaceScope) : Nat :=
  match sc.chunks.getLast? with
  | some c => c.winStart + 32 * c.winBlocks
  | none => 0

/-- Phase 5 of Table 3-5. -/
def phaseScope (s : State) (sc : LaceScope) (len : Nat) (openRec : LaceRec) (recs : List LaceRec) : List (Nat × FaultCode) :=
  let wf := openRec.b 1
  let ws := bits wf 26 0; let wb := bits wf 38 27; let rb := bits wf 50 39
  if sc.nextSeq = 0 then
    (if wf ≠ 0 then [(2, FaultCode.LAC_SCOPE_ORDER)] else []) ++
    (match scopeFail false (len - 1) .stripe false recs with
     | some o => [(o, FaultCode.LAC_SCOPE_ORDER)]
     | none => [])
  else
    let isLast := decide (ws + 32 * wb ≥ s.streamLines sc)
    (if sc.stripeClosed then [(0, FaultCode.LAC_SCOPE_ORDER)] else []) ++
    (if ws ≠ sc.nextWin ∨ wb < 1 ∨ wb > 2048 ∨ rb > 2048 then [(2, FaultCode.LAC_WINDOW)] else []) ++
    (match scopeFail isLast (len - 1) .body false recs with
     | some o => [(o, FaultCode.LAC_SCOPE_ORDER)]
     | none => [])

/-- Phase 6 of Table 3-5 for a header chunk. -/
def phaseHeader (s : State) (recs : List LaceRec) : List (Nat × FaultCode) :=
  let h := readHeader s.libMotifs recs
  let defs := recs.filter (fun r => r.op == 0x06)
  let so := (recs.find? (fun r => r.op == 0x04)).getD ⟨0, 0, 0, []⟩
  let bo := (recs.find? (fun r => r.op == 0x08)).getD ⟨0, 0, 0, []⟩
  let dens := recs.filter (fun r => r.op == 0x0A)
  let prims := recs.filter (fun r => inMotif r.op)
  (if h.stripeId ≠ s.stripeId ∨ h.lines ≠ s.lines ∨ h.pixelSel ≠ s.fd F.PLAN_STRIPE_CFG_PIXEL_SEL ∨ h.pixelSel = 3
    then [(so.off, FaultCode.LAC_STRIPE_MISMATCH)] else []) ++
  (if h.devIndex ≠ s.str.devIndex then [(bo.off, FaultCode.LAC_STRIPE_MISMATCH)] else []) ++
  (if h.classCount = 0 ∨ h.classCount > 64 ∨ h.classCount ≠ defs.length then [(so.off, FaultCode.LAC_CLASS)] else []) ++
  (clashes (fun a b => bits a.head 11 6 == bits b.head 11 6 || bits a.head 27 22 == bits b.head 27 22) [] defs).map
    (fun o => (o, FaultCode.LAC_CLASS)) ++
  (if h.margin > 4096 then [(bo.off, FaultCode.LAC_DENSITY)] else []) ++
  (dens.filter (fun r => !(densityOk (s.geoN * s.geoW) h.lines r))).map (fun r => (r.off, FaultCode.LAC_DENSITY)) ++
  (clashes densityClash [] dens).map (fun o => (o, FaultCode.LAC_DENSITY)) ++
  (prims.filter (fun r => !(primOk 0 r))).map (fun r => (r.off, FaultCode.LAC_PRIMITIVE)) ++
  (prims.filter (fun r => !(arrayOk r))).map (fun r => (r.off, FaultCode.LAC_ARRAY))

/-- Phase 6 of Table 3-5 for a body chunk. -/
def phaseBody (h : LaceHeader) (winBlocks : Nat) (recs : List LaceRec) : List (Nat × FaultCode) :=
  (recs.filter (fun r => r.op == 0x0C && !(h.classes.any (fun c => c.1 == bits r.head 11 6)))).map
    (fun r => (r.off, FaultCode.LAC_CLASS)) ++
  (recs.filter (fun r => !(primOk (32 * winBlocks) r))).map (fun r => (r.off, FaultCode.LAC_PRIMITIVE)) ++
  (recs.filter (fun r => !(arrayOk r))).map (fun r => (r.off, FaultCode.LAC_ARRAY))

/-- Phase 7 of Table 3-5 for the items of a body chunk: references, then home line, reach and clip window. -/
def phaseItems (s : State) (h : LaceHeader) (ws wb rb : Nat) (recs : List LaceRec) : List (Nat × FaultCode) :=
  let p : Int := s.pixel
  let e : Int := h.margin
  let w : Int := s.geoW
  ((itemsOf 0 [] recs).map (fun it =>
    let off := match it.2 with
      | r :: _ => r.off
      | [] => 0
    match itemBox s.libMotifs h.motifs s.pixel it.2 with
    | none => [(off, FaultCode.LAC_MOTIF_REF)]
    | some b =>
      let home := max 0 ((ws : Int) + b.y0 / p)
      (if home < ws ∨ home > (ws + 32 * wb : Nat) - (1 : Int) ∨ b.y1 > ((32 * (wb + rb) : Nat) : Int) * p
        then [(off, FaultCode.LAC_HOME)] else []) ++
      (if b.meets ⟨-e * p, -(ws : Int) * p, (w + e) * p, ((h.lines : Int) - ws) * p⟩ then []
        else [(off, FaultCode.LAC_OUTSIDE)]))).flatten

/-- The first failing check of a whole chunk in the phase order of Table 3-5 (R148), with the records of a chunk that
passes. -/
def judgeChunk (s : State) (i : Fin 2) (l : List Nat) : Sum (Nat × FaultCode) (List LaceRec) :=
  let sc := s.scope i
  let len := l.length
  let head := l.getD 0 0
  let w := walk len 0 (len - 1) l
  let early := (w.1.filter (fun r => r.op == 0x02)).map (fun r => (r.off, FaultCode.LAC_FRAMING))
  let framing :=
    (if bits head 5 0 ≠ 1 ∨ bits head 23 6 < 4 ∨ bits head 23 6 > 131072 then [(0, FaultCode.LAC_FRAMING)] else []) ++
    (if bits (l.getD (len - 1) 0) 5 0 ≠ 2 then [(len - 1, FaultCode.LAC_FRAMING)] else []) ++ early
  let openRec := w.1.headD ⟨0, 0, 0, []⟩
  let recs := (w.1.drop 1).filter (fun r => r.op != 0)
  match firstFail framing with
  | some f => .inl f
  | none =>
  if bits (openRec.b 0) 31 0 ≠ sc.streamId ∨ bits (openRec.b 0) 63 32 ≠ sc.nextSeq then .inl (1, .LAC_SEQUENCE)
  else if crc crcC32C (chunkCrcBytes s sc (l.take (len - 1))) ≠ bits (l.getD (len - 1) 0) 63 32 then
    .inl (len - 1, .LAC_CHUNK_CRC)
  else
    let sealRec : LaceRec := ⟨len - 1, 2, l.getD (len - 1) 0, []⟩
    let opcode := (match w.2 with
      | some o => [(o, FaultCode.LAC_OPCODE)]
      | none => []) ++ ((w.1 ++ [sealRec]).filterMap reservedBad).map (fun o => (o, FaultCode.LAC_OPCODE))
    match firstFail opcode with
    | some f => .inl f
    | none =>
    match firstFail (phaseScope s sc len openRec recs) with
    | some f => .inl f
    | none =>
    let wf := openRec.b 1
    let wb := bits wf 38 27
    let h := s.header sc
    let six := if sc.nextSeq = 0 then phaseHeader s recs else phaseBody h wb recs
    match firstFail six with
    | some f => .inl f
    | none =>
    let seven := if sc.nextSeq = 0 then (buildMotifs s.libMotifs none [] (motifDefs recs.length recs)).2
      else phaseItems s h (bits wf 26 0) wb (bits wf 50 39) recs
    match firstFail seven with
    | some f => .inl f
    | none => .inr w.1

/-- A chunk that lies at `at_` is accepted (R147): it joins the scope, the expected SEQ advances, LACE_LINES_READY follows
R155. -/
def acceptChunk (i : Fin 2) (at_ : Nat) (l : List Nat) (recs : List LaceRec) (s : State) : State :=
  let sc := s.scope i
  let wf := (recs.headD ⟨0, 0, 0, []⟩).b 1
  let body := (recs.drop 1).filter (fun r => r.op != 0)
  let c : LaceChunk := ⟨at_, sc.nextSeq, bits wf 26 0, bits wf 38 27, bits wf 50 39, l.length, body, false, false⟩
  let sc1 := { sc with chunks := sc.chunks ++ [c], nextSeq := sc.nextSeq + 1, headerOk := true }
  let lines := s.streamLines sc1
  let ready := if c.seq = 0 then 0 else min lines (c.winStart + 32 * c.winBlocks)
  (s.setScope i { sc1 with
    linesReady := ready,
    stripeClosed := sc.stripeClosed || (decide (c.seq ≠ 0) && decide (c.winStart + 32 * c.winBlocks ≥ lines)) }).mark
      (.linesReady i.val sc.linesReady)

/-- The oldest whole chunk of scope i is judged (R147 to R149): accepted, or rejected with nothing of it used. -/
def chunkJudge (i : Fin 2) (s : State) : State :=
  let sc := s.scope i
  match sc.whole with
  | [] => s
  | l :: rest =>
    let s1 := s.setScope i { sc with whole := rest }
    match judgeChunk s1 i (l.2.map (·.toNat)) with
    | .inl f => laceReject i f.2 f.1 s1
    | .inr recs => acceptChunk i l.1 (l.2.map (·.toNat)) recs s1

/-! ## OPEN and CLOSE -/

/-- The motif cache loses the 256-byte lines lo to hi − 1 (R172). -/
def State.dropCache (s : State) (lo hi : Nat) : State :=
  let c := s.bob.cache.map (fun e : Nat × List Nat => (e.1, e.2.filter (fun t => !(decide (lo ≤ t ∧ t < hi)))))
  { s with bob := { s.bob with cache := c.filter (fun e : Nat × List Nat => e.2 != []) } }

/-- LACE_CMD OPEN on the selected scope (R142, Table 3-6). -/
def laceOpen (s : State) : State :=
  let i := s.scopeSel
  let base := s.fd F.LACE_BUF_BASE_BASE_MB i.val
  let size := s.fd F.LACE_BUF_SIZE_SIZE_MB i.val
  if (s.scope i).isOpen ∨ size < 16 ∨ size > 8192 ∨ (base + size) * 2 ^ 20 > s.partSize then s.raise .LAC_SCOPE_BUSY
  else
    let s := s.setScope i { LaceScope.closed with
      isOpen := true, streamId := s.fd F.LACE_STREAM_ID_ID i.val, dma := s.fb F.LACE_SOURCE_DMA i.val,
      flow := s.fd F.LACE_SOURCE_FLOW i.val, bufBaseMb := base, bufSizeMb := size }
    (s.setRg .LACE_REJECT_CODE 0 i.val).setRg .LACE_DROP_COUNT 0 i.val

/-- LACE_CMD CLOSE on the selected scope (R144); the motif cache loses the buffer's lines (R172). -/
def laceClose (s : State) : State :=
  let i := s.scopeSel
  let sc := s.scope i
  if sc.bound && s.plan.state.active then s.raise .LAC_SCOPE_BUSY
  else
    let lo := (s.partBase + sc.bufBaseMb * 2 ^ 20) / 256
    let hi := (s.partBase + (sc.bufBaseMb + sc.bufSizeMb) * 2 ^ 20) / 256
    let s := s.dropCache lo hi
    s.setScope i LaceScope.closed

/-! ## Libraries (R135 to R141) -/

/-- The bytes of a library as 64-bit words. -/
def libStitches (s : State) (base n : Nat) : List Nat := (List.range n).map (fun k => s.dramLe (base + 8 * k) 8)

/-- The layout of a library, judged (R135, R136): none when it holds. -/
def libFormatOk (s : State) (base size : Nat) : Bool :=
  let hd := s.dramBytes base 64
  let count := leAt hd 0x10 4
  let body := 64 + 8 * count
  let bodyOff := (body + 63) / 64 * 64
  decide (leAt hd 0 4 = 0x424C5745 ∧ leAt hd 4 2 = 1 ∧ leAt hd 6 2 = 0 ∧ 1 ≤ count ∧ count ≤ 1048576 ∧
    leAt hd 0x14 4 = 64 ∧ leAt hd 0x18 4 = bodyOff ∧ leVal (slice hd 0x20 32) = 0 ∧
    size = bodyOff + 8 * leAt hd 0x1C 4 ∧ 2 ≤ leAt hd 0x1C 4)

/-- Whether each record of a library body stands inside a motif definition, MOTIF_OPEN and MOTIF_CLOSE included, and whether what
follows the last one does. -/
def libInside (inside : Bool) (l : List LaceRec) : List (Bool × LaceRec) × Bool :=
  match l with
  | [] => ([], inside)
  | r :: t =>
    let now := inside || r.op == 0x10
    let rest := libInside (now && r.op != 0x11) t
    ((now, r) :: rest.1, rest.2)

/-- The fault of a broken record rule in a library (R159): Table 3-5's inside a motif, LAC_LIB_FORMAT outside. -/
def libFault (inside : Bool) (c : FaultCode) : FaultCode := if inside then c else .LAC_LIB_FORMAT

/-- The first record of a library body that stands where R110, R126, R135 or R136 does not let it, between LIB_OPEN and LIB_CLOSE. -/
def libOrderFail (inside grp : Bool) (sealAt : Nat) (l : List LaceRec) : Option (Nat × FaultCode) :=
  match l with
  | [] => if inside then some (sealAt, .LAC_SCOPE_ORDER) else none
  | r :: t =>
    if inside then
      if grp && !(r.op == 0x16 || r.op == 0x17) then some (r.off, .LAC_SCOPE_ORDER)
      else if r.op = 0x11 then libOrderFail false false sealAt t
      else if inMotif r.op then libOrderFail true (grouped r) sealAt t
      else some (r.off, .LAC_SCOPE_ORDER)
    else if r.op = 0x10 then libOrderFail true false sealAt t
    else some (r.off, .LAC_LIB_FORMAT)

/-- The motif definitions of a library body with the offsets of their MOTIF_CLOSE records. -/
def libCloses (l : List LaceRec) : List Nat := (l.filter (fun r => r.op == 0x11)).map (·.off)

/-- Directory entry k names definition k by its INDEX, OFFSET and LENGTH, and there are as many (R136). -/
def libDirOk (s : State) (base count : Nat) (defs : List (LaceRec × List LaceRec)) (closes : List Nat) : Bool :=
  decide (defs.length = count) && decide (closes.length = count) && (List.range count).all (fun k =>
    match defs[k]?, closes[k]? with
    | some d, some c => decide (bits d.1.head 25 6 = k ∧ s.dramLe (base + 64 + 8 * k) 4 = d.1.off ∧
        s.dramLe (base + 68 + 8 * k) 4 = c + 1 - d.1.off)
    | _, _ => false)

/-- The record checks of a library body of n stitches (R110, R126, R131 to R136): the first failing check, or the motifs. A NOP inside
a motif definition is taken and dropped: the model's choice (assumption log 77). -/
def judgeLibBody (s : State) (slot base count n : Nat) (l : List Nat) : Sum (FaultCode × Nat) (List LaceMotif) :=
  let w := walk n 0 n l
  let ins := libInside false w.1
  let opcode := (match w.2 with
      | some o => [(o, libFault ins.2 .LAC_OPCODE)]
      | none => []) ++ ins.1.filterMap (fun e => (reservedBad e.2).map (fun o => (o, libFault e.1 .LAC_OPCODE)))
  match firstFail opcode with
  | some f => .inl (f.2, f.1)
  | none =>
  let recs := w.1.filter (fun r => r.op != 0)
  let inner := (recs.drop 1).dropLast
  let openClose := decide (recs.length ≥ 2) && (recs.headD ⟨0, 0, 0, []⟩).op == 0x20 && (recs.headD ⟨0, 0, 0, []⟩).off == 0 &&
    (recs.getLastD ⟨0, 0, 0, []⟩).op == 0x21 && (recs.getLastD ⟨0, 0, 0, []⟩).off == n - 1
  match (if openClose then libOrderFail false false (n - 1) inner else some (0, .LAC_LIB_FORMAT)) with
  | some f => .inl (f.2, f.1)
  | none =>
  let defs := motifDefs inner.length inner
  if !libDirOk s base count defs (libCloses inner) then .inl (.LAC_LIB_FORMAT, 0xFFFFFFFF)
  else
    let six := (inner.filter (fun r => !(primOk 0 r))).map (fun r => (r.off, FaultCode.LAC_PRIMITIVE)) ++
      (inner.filter (fun r => !(arrayOk r))).map (fun r => (r.off, FaultCode.LAC_ARRAY))
    match firstFail six with
    | some f => .inl (f.2, f.1)
    | none =>
    let m := buildMotifs [] (some slot) [] defs
    match firstFail m.2 with
    | some f => .inl (f.2, f.1)
    | none => .inr m.1

/-- Judge a library at base (R137): the first failing check's fault and body stitch offset (0xFFFF_FFFF for a header, directory or
CRC failure, Table 3-8), or its motifs. The checks run at the same time and the spec does not say which comes first; that the CRC
does, then the layout, the opcodes, the order of records, the directory, the records and the motifs is the model's choice
(assumption log 77). Poison is a mismatch of the check unit (R522, Table 12-6). -/
def judgeLib (s : State) (slot base size want : Nat) : Sum (FaultCode × Nat) (List LaceMotif) :=
  if s.dramBad base size || decide (crc crcC32C (s.dramBytes base size) ≠ want) then .inl (.LAC_LIB_CRC, 0xFFFFFFFF)
  else if !libFormatOk s base size then .inl (.LAC_LIB_FORMAT, 0xFFFFFFFF)
  else
    let n := s.dramLe (base + 0x1C) 4
    judgeLibBody s slot base (s.dramLe (base + 0x10) 4) n (libStitches s (base + s.dramLe (base + 0x18) 4) n)

/-- The selected library slot; 15 names none. -/
def State.libSel (s : State) : Nat := s.fd F.LACE_LIB_SEL_SLOT

/-- Some lace scope is open. -/
def State.anyScopeOpen (s : State) : Bool := (s.scope 0).isOpen || (s.scope 1).isOpen

/-- LACE_LIB_CMD REGISTER (R137, R139). Bits [11:0] of the base and [2:0] of the size must be 0; that a register which holds others
is rounded down is the model's choice (assumption log 77). -/
def libRegister (s : State) : State :=
  let slot := s.libSel
  if h : slot < 15 then
    if s.anyScopeOpen || s.lace.reg.isSome || (s.lace.libs[slot]).valid then s.raise .LAC_LIB_BUSY
    else
      let base := s.fd F.LACE_LIB_BASE_LO_ADDR / 4096 * 4096 + 2 ^ 32 * s.fd F.LACE_LIB_BASE_HI_ADDR
      { s with lace := { s.lace with reg := some ⟨slot, base, s.fd F.LACE_LIB_SIZE_SIZE / 8 * 8, s.fd F.LACE_LIB_CRC_CRC⟩ } }
  else s

/-- The end of a registration (R137, R138, R159). -/
def libRegisterDone (s : State) : State :=
  match s.lace.reg with
  | none => s
  | some r =>
    let s1 := engineRead 0x51 r.base r.size { s with lace := { s.lace with reg := none } }
    match judgeLib s r.slot r.base r.size r.crc with
    | .inl f =>
      (((s1.setFd F.LACE_LIB_STATUS_FAIL_CODE f.1.num).setFd F.LACE_LIB_FAIL_OFFSET_OFFSET f.2).raise f.1).irq 66
    | .inr m =>
      let slot : LibSlot := { valid := true, base := r.base, size := r.size, libId := s.dramLe (r.base + 8) 8, motifs := m }
      ({ s1 with lace := { s1.lace with libs := s1.lace.libs.setIfInBounds r.slot slot } }).irq 66

/-- LACE_LIB_CMD UNREGISTER (R139, R172). -/
def libUnregister (s : State) : State :=
  let slot := s.libSel
  if h : slot < 15 then
    if s.anyScopeOpen || s.lace.reg.isSome then s.raise .LAC_LIB_BUSY
    else
      let l := s.lace.libs[slot]
      let lo := l.base / 256; let hi := (l.base + l.size + 255) / 256
      State.dropCache { s with lace := { s.lace with libs := s.lace.libs.set slot LibSlot.empty } } lo hi
  else s

/-- The address range of some VALID library meets a span (R140). -/
def State.libProtects (s : State) (a n : Nat) : Bool :=
  s.lace.libs.toList.any (fun l => l.valid && spanOverlap l.base l.size a n)

end Sys2Proof.Machine
end

