-- ==== Sys2Proof/Machine/Raster.lean ====
section
/-! DEFINITION. Expansion and exact coverage (Chapter 4, R165 to R183): the shapes that reach a job's area, their crossings with
the sub-scanlines, and the coverage words. Coordinates are LU in the band frame. -/

namespace Sys2Proof.Machine

/-! ## Segments and crossings (R174 to R176) -/

/-- A segment of a closed path. -/
inductive Seg where
  | line (x0 y0 x1 y1 : Int)
  | quad (x0 y0 xc yc x1 y1 : Int)
deriving DecidableEq, Repr

/-- sgn. -/
def sgn (v : Int) : Int := if v > 0 then 1 else if v < 0 then -1 else 0

/-- `cross_line` (R176): the crossing, if any, as (u, delta). -/
def crossLine (x0 y0 x1 y1 ys p w : Int) : List (Int × Int) :=
  if !(decide (128 * min y0 y1 < ys) && decide (ys < 128 * max y0 y1)) then []
  else
    let delta : Int := if y1 > y0 then 1 else -1
    let u : Int :=
      if max x0 x1 ≤ 0 then -1
      else if min x0 x1 ≥ w * p then 64 * w
      else
        let dy := y1 - y0
        let num := 128 * x0 * dy + (x1 - x0) * (ys - 128 * y0)
        let den := 2 * p * dy
        let nd := if den < 0 then (-num, -den) else (num, den)
        sat (roundHd nd.1 nd.2) (-1) (64 * w)
    [(u, delta)]

/-- `f_quad` (R176). -/
def fQuad (gy dy q t : Int) : Int := 128 * (t * gy * 2 ^ 41 + t * t * dy) - q * 2 ^ 80

/-- The halving loop of `cross_quad`: at most 41 steps from a piece no longer than 2^40. -/
def quadRoot (gy dy q sb : Int) (fuel : Nat) (lo hi : Int) : Int :=
  match fuel with
  | 0 => lo
  | f + 1 =>
    if hi - lo ≤ 1 then lo
    else
      let mid := lo + (hi - lo) / 2
      if sgn (fQuad gy dy q mid) = sb then quadRoot gy dy q sb f lo mid else quadRoot gy dy q sb f mid hi

/-- One monotone piece of `cross_quad`. -/
def quadPiece (x0 xc x1 gx gy dx dy q p w lo hi : Int) : List (Int × Int) :=
  let sa := sgn (fQuad gy dy q lo)
  let sb := sgn (fQuad gy dy q hi)
  if sa * sb ≥ 0 then []
  else
    let t := quadRoot gy dy q sb 41 lo hi
    let u : Int :=
      if max (max x0 xc) x1 ≤ 0 then -1
      else if min (min x0 xc) x1 ≥ w * p then 64 * w
      else sat (roundHd (x0 * 2 ^ 80 + t * gx * 2 ^ 41 + t * t * dx) (p * 2 ^ 74)) (-1) (64 * w)
    [(u, sb)]

/-- `cross_quad` (R176). -/
def crossQuad (x0 y0 xc yc x1 y1 ys p w : Int) : List (Int × Int) :=
  if !(decide (128 * min (min y0 yc) y1 < ys) && decide (ys < 128 * max (max y0 yc) y1)) then []
  else
    let gx := xc - x0; let gy := yc - y0
    let dx := x0 - 2 * xc + x1; let dy := y0 - 2 * yc + y1
    let q := ys - 128 * y0
    let a := if dy < 0 then gy else -gy
    let b := if dy < 0 then -dy else dy
    let piece := quadPiece x0 xc x1 gx gy dx dy q p w
    if b ≠ 0 ∧ 0 < a ∧ a < b then
      let m := a * 2 ^ 40 / b
      piece 0 m ++ piece m (2 ^ 40)
    else piece 0 (2 ^ 40)

/-- The crossings of a segment with sub-scanline ys (128 times its Y). -/
def Seg.cross (ys p w : Int) (g : Seg) : List (Int × Int) :=
  match g with
  | .line x0 y0 x1 y1 => crossLine x0 y0 x1 y1 ys p w
  | .quad x0 y0 xc yc x1 y1 => crossQuad x0 y0 xc yc x1 y1 ys p w

/-- The segment's Y extent meets a sub-scanline of lines l0 to l1 − 1 (R180). -/
def Seg.meetsLines (l0 l1 p : Int) (g : Seg) : Bool :=
  let e : Int × Int := match g with
    | .line _ y0 _ y1 => (min y0 y1, max y0 y1)
    | .quad _ y0 _ yc _ y1 => (min (min y0 yc) y1, max (max y0 yc) y1)
  -- the first sub-scanline above the low end, in units of P/128: an odd number
  let lo := 128 * e.1; let hi := 128 * e.2
  let k0 := max (128 * l0 + 1) (2 * ((lo / p + 1) / 2) + 1)
  decide (lo < hi) && decide (k0 ≤ 128 * l1 - 1) && decide (k0 * p < hi)

/-! ## Shapes of records (R122 to R128) -/

/-- A placement on the way from the item down: ORIENT and the translation, innermost first. -/
abbrev Transform := List (Nat × Int × Int)

/-- A point through a transform. -/
def Transform.point (t : Transform) (p : Int × Int) : Int × Int :=
  t.foldl (fun p e => let q := orient e.1 p; (q.1 + e.2.1, q.2 + e.2.2)) p

/-- A box through a transform. -/
def Transform.box (t : Transform) (b : Box) : Box := t.foldl (fun b e => (b.orient e.1).shift e.2.1 e.2.2) b

/-- The closed polygon through points. -/
def polySegs (l : List (Int × Int)) : List Seg :=
  match l with
  | [] => []
  | a :: t => ((a :: t).zip (t ++ [a])).map (fun e => .line e.1.1 e.1.2 e.2.1 e.2.2)

/-- The segments of a CONTOUR from on-curve point `a`, over the rest of its vertices (KIND, point), closing at `first`
(R125). -/
def contourSegs (first a : Int × Int) (l : List (Nat × Int × Int)) : List Seg :=
  match l with
  | [] => [.line a.1 a.2 first.1 first.2]
  | [(k, c)] => if k = 1 then [.quad a.1 a.2 c.1 c.2 first.1 first.2]
      else [.line a.1 a.2 c.1 c.2, .line c.1 c.2 first.1 first.2]
  | (k, c) :: (k2, d) :: t =>
    if k = 1 then .quad a.1 a.2 c.1 c.2 d.1 d.2 :: contourSegs first d t
    else .line a.1 a.2 c.1 c.2 :: contourSegs first c ((k2, d) :: t)

/-- The segments of a primitive under a transform. -/
def primSegs (t : Transform) (r : LaceRec) : List Seg :=
  match r.op with
  | 0x14 =>
    let a := vtx (r.b 0); let b := vtx (r.b 1)
    polySegs ([a, (b.1, a.2), b, (a.1, b.2)].map t.point)
  | 0x15 => polySegs ((trapPoints r).map t.point)
  | 0x16 => polySegs ((r.body.map vtx).map t.point)
  | 0x17 => match r.body.map (fun v => (vtxKind v, t.point (vtx v))) with
    | [] => []
    | (_, a) :: l => contourSegs a a l
  | _ => []

/-- The squares of a BITMAP's pixels (R128), each a shape of its own; `dy` is the chunk's first line in LU. -/
def bitmapShapes (p dy : Int) (r : LaceRec) : List (List Seg) :=
  let w := bits r.head 13 6 + 1
  let h := bits r.head 21 14 + 1
  let per := (w + 63) / 64
  let px := sext 16 (bits r.head 37 22)
  let py : Int := (bits r.head 53 38 : Nat)
  ((List.range h).map (fun j => ((List.range w).filterMap (fun i =>
    if bit (r.b (j * per + i / 64)) (i % 64) = 1 then
      let x := (px + i) * p; let y := (py + j) * p + dy
      some (polySegs [(x, y), (x + p, y), (x + p, y + p), (x, y + p)])
    else none)))).flatten

/-! ## Expansion (R168, R169) -/

/-- What an expansion finds: shapes, the instances whose box meets the area, and the DRAM lines of the motifs visited, in
order of the visits. -/
structure Expansion where
  shapes : List (List Seg)
  inst : Nat
  lines : List Nat
deriving DecidableEq, Repr

/-- Nothing found. -/
def Expansion.none : Expansion := ⟨[], 0, []⟩

/-- Two expansions one after the other. -/
def Expansion.add (a b : Expansion) : Expansion := ⟨a.shapes ++ b.shapes, a.inst + b.inst, a.lines ++ b.lines⟩

/-- Indexes i in 0 to n − 1 with lo + i × step ≤ b and hi + i × step ≥ a, as (first, count), by exact division (R169). -/
def indexSpan (a b lo hi step : Int) (n : Nat) : Nat × Nat :=
  let r : Int × Int :=
    if step = 0 then (if lo ≤ b ∧ hi ≥ a then (0, (n : Int) - 1) else (0, -1))
    else if step > 0 then (-((hi - a) / step), (b - lo) / step)
    else (-((b - lo) / (-step)), (hi - a) / (-step))
  let f := max 0 r.1
  let l := min ((n : Int) - 1) r.2
  if f ≤ l then (f.toNat, (l - f + 1).toNat) else (0, 0)

/-- Positions of the instances of a placement whose instance box meets the area: `tb` is the box of an instance at the
placement's own position and `va`, `vb` the steps of an ARRAY, all under the outer transform. -/
def instancesOf (area tb : Box) (r : LaceRec) (va vb : Int × Int) : List (Int × Int) :=
  if r.op = 0x1D then
    ((List.range (arrayNB r)).map (fun (j : Nat) =>
      let bj := tb.shift (j * vb.1) (j * vb.2)
      let sx := indexSpan area.x0 area.x1 bj.x0 bj.x1 va.1 (arrayNA r)
      let sy := indexSpan area.y0 area.y1 bj.y0 bj.y1 va.2 (arrayNA r)
      let f := max sx.1 sy.1
      let l := min (sx.1 + sx.2) (sy.1 + sy.2)
      if sx.2 = 0 ∨ sy.2 = 0 then []
      else (List.range' f (l - f)).map (fun (i : Nat) => ((i : Int), (j : Int))))).flatten
  else if tb.meets area then [(0, 0)] else []

/-- A vector through the orientations of a transform. -/
def Transform.vec (t : Transform) (v : Int × Int) : Int × Int := t.foldl (fun v e => orient e.1 v) v

/-- Where a library's motif stands in DRAM, for the motif cache: the address of stitch 0 of its body, by slot. -/
abbrev LibBase := Nat → Nat

/-- The 256-byte lines that the records of a motif touch. -/
def motifLines (base : Nat) (m : LaceMotif) : List Nat :=
  match m.recs.head?, m.recs.getLast? with
  | some a, some z =>
    let lo := (base + 8 * a.off) / 256
    let hi := (base + 8 * (z.off + z.body.length) + 7) / 256
    List.range' lo (hi + 1 - lo)
  | _, _ => []

/-- Expand one item (R168): `fuel` counts nesting levels, 8 at most (R133). -/
def expandItem (libs : List (List LaceMotif)) (loc : List LaceMotif) (base : LibBase) (p dy : Int) (area : Box)
    (fuel : Nat) (t : Transform) (rs : List LaceRec) : Expansion :=
  match rs with
  | [] => Expansion.none
  | r :: _ =>
    if r.op = 0x18 then ⟨bitmapShapes p dy r, 0, []⟩
    else if r.op = 0x1C ∨ r.op = 0x1D then
      match fuel with
      | 0 => Expansion.none
      | fuel + 1 =>
        match findMotif libs loc (placeLib r) (placeIndex r) with
        | none => Expansion.none
        | some m =>
          let va := t.vec (vtx (r.b 1)); let vb := t.vec (vtx (r.b 2))
          let own : Transform := (placeOrient r, vtxX (r.b 0), vtxY (r.b 0)) :: t
          let tb := own.box m.box
          (instancesOf area tb r va vb).foldl (fun acc ij =>
            let dx := ij.1 * va.1 + ij.2 * vb.1
            let dyy := ij.1 * va.2 + ij.2 * vb.2
            let own' : Transform := own ++ [(0, dx, dyy)]
            let one : Expansion := ⟨[], 1, motifLines (base (placeLib r)) m⟩
            (itemsOf 0 [] m.recs).foldl (fun acc it =>
              acc.add (expandItem libs loc base p dy area fuel own' it.2)) (acc.add one)) Expansion.none
    else ⟨[(rs.map (primSegs t)).flatten], 0, []⟩

/-! ## Jobs (R165, R180) -/

/-- The shapes of a job by class, and its counts. -/
structure JobShapes where
  shapes : List (Nat × List Seg)
  inst : Nat
  lines : List Nat
deriving DecidableEq, Repr

/-- Address of stitch 0 of the body of a library (R135), or of the header chunk of the scope's buffer for LIB 15. -/
def State.libBase (s : State) (sc : LaceScope) : LibBase := fun lib =>
  match s.lace.libs[lib]? with
  | some l => l.base + (64 + 8 * l.motifs.length + 63) / 64 * 64
  | none => s.partBase + sc.bufBaseMb * 2 ^ 20

/-- An accepted body chunk whose lines meet lines l0 to l1 − 1 (R165). -/
def LaceChunk.meets (l0 l1 : Nat) (c : LaceChunk) : Bool :=
  c.seq != 0 && decide (c.winStart < l1) && decide (l0 < c.winStart + 32 * (c.winBlocks + c.reachBlocks))

/-- The shapes that reach an area of lines l0 to l1 − 1 and pixel columns c0 to c1 − 1 from the scope's accepted body chunks
(R165). -/
def State.jobShapes (s : State) (sc : LaceScope) (l0 l1 c0 c1 : Nat) : JobShapes :=
  let p : Int := (s.pixel : Nat)
  let h := s.header sc
  let area : Box := ⟨c0 * p, l0 * p, c1 * p, l1 * p⟩
  (sc.chunks.filter (LaceChunk.meets l0 l1)).foldl (fun acc c =>
    let dy : Int := (c.winStart : Nat) * p
    (itemsOf 0 [] c.recs).foldl (fun acc it =>
      match itemBox s.libMotifs h.motifs s.pixel it.2 with
      | none => acc
      | some b =>
        if (b.shift 0 dy).meets area then
          let e := expandItem s.libMotifs h.motifs (s.libBase sc) p dy area 8 [(0, 0, dy)] it.2
          ⟨acc.shapes ++ e.shapes.map (fun g => (it.1, g)), acc.inst + 1 + e.inst, acc.lines ++ e.lines⟩
        else acc) acc) ⟨[], 0, []⟩

/-! ## Winding, union and priority (R177, R178) -/

/-- Insert a crossing in ascending u. -/
def insertCross (c : Int × Int) (l : List (Int × Int)) : List (Int × Int) :=
  match l with
  | [] => [c]
  | d :: t => if c.1 ≤ d.1 then c :: d :: t else d :: insertCross c t

/-- The intervals [a, b) of subunits where the running sum of delta is not 0. -/
def windSpans (sum start : Int) (l : List (Int × Int)) : List (Int × Int) :=
  match l with
  | [] => []
  | (u, d) :: t =>
    let rest := windSpans (sum + d) u t
    if sum ≠ 0 ∧ start < u then (start, u) :: rest else rest

/-- The interior of one shape on a sub-scanline, as intervals of subunits. -/
def shapeSpans (ys p w : Int) (g : List Seg) : List (Int × Int) :=
  windSpans 0 0 ((g.map (Seg.cross ys p w)).flatten.foldr insertCross [])

/-- Merge interval e into intervals that stand in ascending start, none of which starts before e. -/
def mergeInto (e : Int × Int) (l : List (Int × Int)) : List (Int × Int) :=
  match l with
  | [] => [e]
  | f :: t => if f.1 ≤ e.2 then mergeInto (e.1, max e.2 f.2) t else e :: mergeInto f t

/-- Merge intervals that stand in ascending start into their union: disjoint, ascending. -/
def mergeSpans (l : List (Int × Int)) : List (Int × Int) :=
  match l with
  | [] => []
  | e :: t => mergeInto e t

/-- The union of intervals in any order. -/
def unionSpans (l : List (Int × Int)) : List (Int × Int) := mergeSpans (l.foldr insertCross [])

/-- [a, b) without the intervals of a disjoint ascending list. -/
def cutSpan (a b : Int) (l : List (Int × Int)) : List (Int × Int) :=
  match l with
  | [] => if a < b then [(a, b)] else []
  | e :: t =>
    if e.2 ≤ a then cutSpan a b t
    else if b ≤ e.1 then (if a < b then [(a, b)] else [])
    else (if a < e.1 then [(a, e.1)] else []) ++ cutSpan e.2 b t

/-- The effective areas of the classes on a sub-scanline: `cls` lists the classes from the highest PRIORITY down, `above` is
the union of the areas already taken. -/
def classSpans (ys p w : Int) (shapes : List (Nat × List Seg)) (above : List (Int × Int)) (cls : List Nat) :
    List (Nat × List (Int × Int)) :=
  match cls with
  | [] => []
  | c :: t =>
    let own := unionSpans (((shapes.filter (fun e => e.1 == c)).map (fun e => shapeSpans ys p w e.2)).flatten)
    let eff := (own.map (fun e => cutSpan e.1 e.2 above)).flatten
    (c, eff) :: classSpans ys p w shapes (unionSpans (above ++ own)) t

/-- Length of the part of intervals that lies in pixel column x. -/
def pixelLen (x : Int) (l : List (Int × Int)) : Nat :=
  sumN (l.map (fun e => (min e.2 (64 * x + 64) - max e.1 (64 * x)).toNat))

/-- Classes from the highest PRIORITY down: (class, DOSE, PRIORITY). -/
def byPriority (l : List (Nat × Nat × Nat)) : List (Nat × Nat × Nat) :=
  l.foldr (fun c acc =>
    let rec ins : List (Nat × Nat × Nat) → List (Nat × Nat × Nat)
      | [] => [c]
      | d :: t => if d.2.2 ≤ c.2.2 then c :: d :: t else d :: ins t
    ins acc) []

/-- Effective intervals of each class over the 64 sub-scanlines of line n. -/
def lineSpans (n : Nat) (p w : Int) (shapes : List (Nat × List Seg)) (cls : List Nat) : List (Nat × List (Int × Int)) :=
  let all := ((List.range 64).map (fun j => classSpans (p * (128 * n + 2 * j + 1 : Nat)) p w shapes [] cls)).flatten
  cls.map (fun c => (c, ((all.filter (fun e => e.1 == c)).map (·.2)).flatten))

/-- The coverage word of a pixel from the spans of its line (Table 4-2). -/
def coverageWord (cls : List (Nat × Nat × Nat)) (spans : List (Nat × List (Int × Int))) (x : Nat) : Nat :=
  let covs := cls.map (fun c => match spans.find? (fun e => e.1 == c.1) with
    | some e => (pixelLen x e.2, c.2.1)
    | none => (0, c.2.1))
  let cov := sumN (covs.map (·.1))
  let wd := sumN (covs.map (fun e => e.1 * e.2))
  let multi := decide (2 ≤ (covs.filter (fun e => e.1 != 0)).length)
  cov + 2 ^ 13 * wd + 2 ^ 35 * b2n multi

/-- The coverage words of an area (R179), by line × width + column from its corner; lines from L on are zero (R163). -/
def State.coverWords (s : State) (sc : LaceScope) (j : JobShapes) (l0 l1 c0 c1 : Nat) : Sparse Nat :=
  let cls := byPriority (s.header sc).classes
  (List.range (min l1 s.lines - l0)).foldl (fun t i =>
    let sp := lineSpans (l0 + i) (s.pixel : Nat) (s.geoW : Nat) j.shapes (cls.map (·.1))
    (List.range (c1 - c0)).foldl (fun t k => Sparse.set 0 t (i * (c1 - c0) + k) (coverageWord cls sp (c0 + k))) t) []

/-- The crossings a job computes (R180): those of its segments on the sub-scanlines of its lines that fall in its area, pixel
columns c0 to c1 − 1. -/
def jobCrossings (l0 l1 c0 c1 : Nat) (p w : Int) (j : JobShapes) : Nat :=
  let segs := (j.shapes.map (·.2)).flatten
  let inArea (e : Int × Int) : Bool := decide ((64 * c0 : Nat) ≤ e.1) && decide (e.1 < (64 * c1 : Nat))
  sumN ((List.range (64 * (l1 - l0))).map (fun i =>
    sumN (segs.map (fun g => ((g.cross (p * (128 * l0 + 2 * i + 1 : Nat)) p w).filter inArea).length))))

/-- N_seg of a job (R180). -/
def jobSegments (l0 l1 : Nat) (p : Int) (j : JobShapes) : Nat :=
  (((j.shapes.map (·.2)).flatten).filter (Seg.meetsLines l0 l1 p)).length

/-- c_b of block (br, bc) (R183). -/
def State.liveCost (s : State) (sc : LaceScope) (br bc : Nat) : Nat :=
  let l0 := 32 * br
  let j := s.jobShapes sc l0 (l0 + 32) (32 * bc) (32 * bc + 32)
  4352 + max 1024 (jobCrossings l0 (l0 + 32) (32 * bc) (32 * bc + 32) (s.pixel : Nat) (s.geoW : Nat) j) +
    4 * jobSegments l0 (l0 + 32) (s.pixel : Nat) j + 16 * j.inst + 256 * j.lines.eraseDups.length

end Sys2Proof.Machine
end

