-- ==== Sys2Proof/Machine/Correct.lean ====
section
/-! DEFINITION. Dose correction (Chapter 5): parameters, the density maps, the correction model, which rows are final, and the
factor map. -/

namespace Sys2Proof.Machine

/-! ## Parameters (R200, R201, R226) -/

/-- A term's parameters (Table 5-1). -/
structure Term where
  level : Nat
  radius : Nat
  shift : Nat
  coef : Nat
  kw : List Nat
deriving DecidableEq, Repr

/-- Instance of CORR_KERNEL_DATA for entry e of term t. -/
def kernelKey (t e : Nat) : Nat := t * 32 + e

/-- Term t, 4 being the fog term. -/
def State.term (s : State) (t : Nat) : Term :=
  { level := s.fd F.CORR_TERM_GEOM_LEVEL t, radius := s.fd F.CORR_TERM_GEOM_RADIUS t,
    shift := s.fd F.CORR_TERM_GEOM_SHIFT t, coef := s.fd F.CORR_TERM_COEF_COEF t,
    kw := (List.range 17).map (fun e => s.fd F.CORR_KERNEL_DATA_KW (kernelKey t e)) }

/-- CORR_CFG.ENABLE. -/
def State.corrOn (s : State) : Bool := s.fb F.CORR_CFG_ENABLE

/-- Term t is enabled. -/
def State.termOn (s : State) (t : Nat) : Bool :=
  if t < 4 then bit (s.fd F.CORR_CFG_TERM_EN) t == 1 else s.fb F.CORR_CFG_FOG_EN

/-- The enabled Gaussian terms. -/
def State.gaussians (s : State) : List Nat := (List.range 4).filter s.termOn

/-- (RADIUS + 1) × 2^LEVEL. -/
def Term.reach (t : Term) : Nat := (t.radius + 1) * 2 ^ t.level

/-- G (R201). -/
def State.reachG (s : State) : Nat := if s.corrOn then maxN (s.gaussians.map (fun t => (s.term t).reach)) else 0
/-- F (R201). -/
def State.reachF (s : State) : Nat := if s.corrOn && s.termOn 4 then (s.term 4).reach else 0
/-- The lag Q (R201). -/
def State.reachQ (s : State) : Nat := 2 * s.reachG + s.reachF
/-- The partner count P (R201). -/
def State.partnersP (s : State) : Nat := (128 * s.reachG + s.geoW - 1) / s.geoW

/-- One term meets its range and its kernel sums to 65,536 (R200). -/
def Term.ok (fog : Bool) (t : Term) : Bool :=
  (if fog then decide (3 ≤ t.level ∧ t.level ≤ 7) else decide (t.level ≤ 2)) &&
  decide (1 ≤ t.radius ∧ t.radius ≤ 16) && (t.kw.take (t.radius + 1)).all (fun k => decide (k ≤ 65536)) &&
  decide (t.kw.getD 0 0 + 2 * sumN ((t.kw.take (t.radius + 1)).drop 1) = 65536)

/-- The parameters may be armed with ENABLE = 1 (R200, R202). -/
def State.paramsOk (s : State) : Bool :=
  (s.gaussians.all (fun t => (s.term t).ok false)) && (!(s.termOn 4) || (s.term 4).ok true) &&
  decide (1 ≤ s.fd F.CORR_DEN_DEN) && decide (s.reachG ≤ 24) && decide (s.reachF ≤ 2048)

/-- CORR_PARAM_CRC (R226). -/
def State.paramCrc (s : State) : Nat :=
  let w (r : Reg) (i : Nat) : List Byte := leBytes 4 (s.rg r i).toNat
  crc crcC32C (w .CORR_CFG 0 ++ ((List.range 5).map (fun t => w .CORR_TERM_GEOM t ++ w .CORR_TERM_COEF t ++
    ((List.range 17).map (fun e => w .CORR_KERNEL_DATA (kernelKey t e))).flatten)).flatten ++
    w .CORR_NUM 0 ++ w .CORR_DEN 0)

/-! ## Cells (R195 to R197) -/

/-- Y_L = ⌈L / 64⌉. -/
def State.cellRows (s : State) : Nat := (s.lines + 63) / 64
/-- Cell columns of a band. -/
def State.cellCols (s : State) : Nat := s.geoW / 64
/-- First cell column of device d's band. -/
def State.cellCol0 (s : State) (d : Nat) : Nat := d * s.geoW / 64

/-- A level-0 cell touches the stripe (R196). -/
def State.touches (s : State) (cx cy : Int) : Bool :=
  decide (0 ≤ cx) && decide (cx < (s.geoN * s.cellCols : Nat)) && decide (0 ≤ cy) && decide (cy < (s.cellRows : Nat))

/-- A DENSITY record's value at column-stripe pixel (x, n), where its cells contain it. -/
def densAt (r : LaceRec) (x n : Int) : Option Nat :=
  let side : Int := 64 * 2 ^ densLevel r
  let i := x / side - vtxX (r.b 0)
  let j := n / side - vtxY (r.b 0)
  if 0 ≤ i ∧ i < densNX r ∧ 0 ≤ j ∧ j < densNY r then some (densVal r (j.toNat * densNX r + i.toNat)) else none

/-- v(X, n) of an outside pixel (R197); none where the pixel has no value. -/
def State.outsideV (s : State) (h : LaceHeader) (x n : Int) : Option Nat :=
  let hits := h.density.filterMap (fun r => (densAt r x n).map (fun v => (densLevel r, v)))
  match hits with
  | a :: t => some (t.foldl (fun m e => if e.1 < m.1 then e else m) a).2
  | [] =>
    let marked := (decide (x < 0) && bit h.edge 0 == 1) || (decide (x ≥ (s.geoN * s.geoW : Nat)) && bit h.edge 1 == 1) ||
      (decide (n < 0) && bit h.edge 2 == 1) || (decide (n ≥ (s.lines : Nat)) && bit h.edge 3 == 1)
    if marked then some 0 else none

/-- Header of the bound scope. -/
def State.boundHeader (s : State) : LaceHeader :=
  match s.boundScope with
  | some i => s.header (s.scope i)
  | none => readHeader [] []

/-- Lines of the band whose coverage words have been delivered: whole tile rows. -/
def State.tileCols (s : State) : Nat := s.geoW / min s.geoW 1024
def State.covLines (s : State) : Nat := min s.lines (32 * ((s.tiles 0).delivered / s.tileCols))

/-- Dose sum of one pixel of the band: the WDOSE field of its coverage word. -/
def State.wd (s : State) (n x : Nat) : Nat := bits (Sparse.get 0 s.corr.cov (n * 4096 + x)) 34 13

/-- D0 of a cell of this device's band (R198). -/
def State.d0Own (s : State) (h : LaceHeader) (cx cy : Nat) : Nat :=
  let x0 := 64 * cx - s.str.devIndex * s.geoW
  let inside := (List.range 64).filter (fun j => decide (64 * cy + j < s.lines))
  let own := sumN (inside.map (fun j => sumN ((List.range 64).map (fun i => s.wd (64 * cy + j) (x0 + i)))))
  let below := (64 - inside.length) * 64 * 64 * (s.outsideV h (64 * cx : Nat) s.lines).getD 0
  (rshiftRound ((own + below : Nat) : Int) 18).toNat % 65536

/-- Key of a near value. -/
def nearKey (cy cx : Nat) : Nat := cy * 65536 + cx
/-- Key of a fog sum. -/
def fogKey (fy d fx : Nat) : Nat := (fy * 64 + d) * 4096 + fx

/-- D0(cx, cy) as this device holds it (R206). -/
def State.d0 (s : State) (h : LaceHeader) (cx cy : Int) : Nat :=
  if s.touches cx cy then
    let x := cx.toNat; let y := cy.toNat
    if x / s.cellCols = s.str.devIndex then s.d0Own h x y else Sparse.get 0 s.corr.near (nearKey y x)
  else (s.outsideV h (64 * cx) (64 * cy)).getD 0 % 65536

/-- Device d is a near partner (R208). -/
def State.nearPartner (s : State) (d : Nat) : Bool :=
  decide (d < s.geoN) && d != s.str.devIndex &&
  decide (d ≤ s.str.devIndex + s.partnersP) && decide (s.str.devIndex ≤ d + s.partnersP)

/-- Sum of D0 over fog cell (fx, fy) of level l. -/
def State.fogSum (s : State) (h : LaceHeader) (l : Nat) (fx fy : Int) : Nat :=
  let n := 2 ^ l
  let cells := ((List.range n).map (fun (j : Nat) => (List.range n).map (fun (i : Nat) => (fx * n + i, fy * n + j)))).flatten
  let local_ := cells.filter (fun c => !(s.touches c.1 c.2) ||
    c.1.toNat / s.cellCols == s.str.devIndex || s.nearPartner (c.1.toNat / s.cellCols))
  let far := ((cells.filter (fun c => s.touches c.1 c.2)).map (fun c => c.1.toNat / s.cellCols)).eraseDups.filter
    (fun d => d != s.str.devIndex && !(s.nearPartner d))
  sumN (local_.map (fun c => s.d0 h c.1 c.2)) + sumN (far.map (fun d => Sparse.get 0 s.corr.fog (fogKey fy.toNat d fx.toNat)))

/-! ## The correction model (R198) -/

/-- Level-l mean of a level-0 map. -/
def meanOf (l : Nat) (m : Int → Int → Nat) (cx cy : Int) : Nat :=
  let n := 2 ^ l
  let t := sumN ((List.range n).map (fun (j : Nat) => sumN ((List.range n).map (fun (i : Nat) => m (cx * n + i) (cy * n + j)))))
  (rshiftRound (t : Int) (2 * l)).toNat

/-- Offsets −r to r. -/
def offsets (r : Nat) : List Int := (List.range (2 * r + 1)).map (fun (i : Nat) => (i : Int) - r)

/-- `term` over a map of its own level. -/
def Term.value (t : Term) (m : Int → Int → Nat) (cx cy : Int) : Nat :=
  let px := sar cx t.level; let py := sar cy t.level
  let sum := sumN ((offsets t.radius).map (fun j => sumN ((offsets t.radius).map (fun i =>
    t.kw.getD i.natAbs 0 * t.kw.getD j.natAbs 0 * m (px + i) (py + j)))))
  let c := rshiftRound (sum : Int) 32
  (rshiftRound ((t.coef : Int) * c) t.shift).toNat

/-- `bsum` before its clamp: Gaussian terms on m, fog on D0. -/
def State.bRaw (s : State) (h : LaceHeader) (m : Int → Int → Nat) (cx cy : Int) : Nat :=
  sumN (s.gaussians.map (fun t => (s.term t).value (meanOf (s.term t).level m) cx cy)) +
  (if s.termOn 4 then
    (s.term 4).value (fun fx fy => (rshiftRound (s.fogSum h (s.term 4).level fx fy : Int) (2 * (s.term 4).level)).toNat) cx cy
  else 0)

/-- The clamp of `bsum`. -/
def bSat (b : Nat) : Nat := min b 0xFFFFFFFF

/-- `phi` before its clamp. -/
def State.phiRaw (s : State) (b : Nat) : Nat :=
  let den := s.fd F.CORR_DEN_DEN + b
  (s.fd F.CORR_NUM_NUM * 8192 + den) / (2 * den)

/-- phi1. -/
def State.phi1 (s : State) (h : LaceHeader) (cx cy : Int) : Nat :=
  min (s.phiRaw (bSat (s.bRaw h (s.d0 h) cx cy))) 65535

/-- d2 before its clamp, for a cell that touches the stripe. -/
def State.d2Raw (s : State) (h : LaceHeader) (cx cy : Int) : Nat :=
  (rshiftRound ((s.d0 h cx cy * s.phi1 h cx cy : Nat) : Int) 12).toNat

/-- D2. -/
def State.d2 (s : State) (h : LaceHeader) (cx cy : Int) : Nat :=
  if s.touches cx cy then min (s.d2Raw h cx cy) 65535 else s.d0 h cx cy

/-- phi2, computed from the maps; 4,096 with ENABLE = 0. -/
def State.phi2 (s : State) (h : LaceHeader) (cx cy : Int) : Nat :=
  if s.corrOn then min (s.phiRaw (bSat (s.bRaw h (s.d2 h) cx cy))) 65535 else 4096

/-- B_SAT, PHI_SAT and D2_SAT as bits 0 to 2, for phi2 at one cell: its own clamps and those of iteration 1 over the cells
that its Gaussian terms use. -/
def State.phiFlags (s : State) (h : LaceHeader) (cx cy : Int) : List Nat :=
  let one (b : Nat) : List Nat := (if b > 0xFFFFFFFF then [0] else []) ++ (if s.phiRaw (bSat b) > 65535 then [1] else [])
  let used := (s.gaussians.map (fun t =>
    let p := s.term t
    let n : Int := 2 ^ p.level
    let lo := (sar cx p.level - p.radius) * n; let loY := (sar cy p.level - p.radius) * n
    let w := (2 * p.radius + 1) * 2 ^ p.level
    ((List.range w).map (fun (j : Nat) => (List.range w).map (fun (i : Nat) => (lo + i, loY + j)))).flatten)).flatten
  one (s.bRaw h (s.d2 h) cx cy) ++ ((used.filter (fun c => s.touches c.1 c.2)).map (fun c =>
    one (s.bRaw h (s.d0 h) c.1 c.2) ++ (if s.d2Raw h c.1 c.2 > 65535 then [2] else []))).flatten

/-- `target` before its clamp: `phi cx cy` is the factor of a level-0 cell, X a column-stripe column. -/
def targetRaw (phi : Int → Int → Nat) (wd x n : Nat) : Nat :=
  let ax : Int := 2 * x - 63; let ay : Int := 2 * n - 63
  let cx := ax / 128; let cy := ay / 128
  let a := (ax - 128 * cx).toNat; let b := (ay - 128 * cy).toNat
  let s := (128 - a) * (128 - b) * phi cx cy + a * (128 - b) * phi (cx + 1) cy +
    (128 - a) * b * phi cx (cy + 1) + a * b * phi (cx + 1) (cy + 1)
  (rshiftRound ((wd * s : Nat) : Int) 38).toNat

/-- The target dose before its clamp, ENABLE = 0 included (R199). -/
def State.doseRaw (s : State) (phi : Int → Int → Nat) (wd x n : Nat) : Nat :=
  if s.corrOn then targetRaw phi wd x n else (rshiftRound (wd : Int) 12).toNat

/-- A bit of CORR_SAT_STATUS is set; its first setting since it was clear raises COR_SATURATION (R16, Table 5-9). -/
def satFlag (b : Nat) (s : State) : State :=
  (s.setBits .CORR_SAT_STATUS (BitVec.ofNat 32 (2 ^ b))).raiseIf (!wbit (s.rg .CORR_SAT_STATUS) b) .COR_SATURATION

/-! ## What is present (R203, R207) -/

/-- Devices whose bands meet the needed region. -/
def State.needDevices (s : State) : List Nat :=
  let c0 := s.cellCol0 s.str.devIndex
  let q := s.reachQ
  (List.range s.geoN).filter (fun d => d != s.str.devIndex &&
    decide (s.cellCol0 d ≤ c0 + s.cellCols - 1 + q) && decide (c0 ≤ s.cellCol0 d + s.cellCols - 1 + q))

/-- Cell rows of this band with all their D0 values. -/
def State.ownRows (s : State) : Nat := if s.covLines ≥ s.lines then s.cellRows else s.covLines / 64

/-- The near record of device d for cell row y is held. -/
def State.nearHeld (s : State) (d y : Nat) : Bool := s.corr.nearHave.any (fun e => e.1 == d && e.2 == y / 8 * 8)

/-- Device d's records hold everything that rows up to `r` need of it: near rows, or the fog rows that end there. -/
def State.recordsHeld (s : State) (d r : Nat) : Bool :=
  if s.nearPartner d then (List.range (r / 8 + 1)).all (fun g => s.nearHeld d (8 * g))
  else
    let n := 2 ^ (s.term 4).level
    (List.range ((s.cellRows - 1) / n + 1)).all (fun fy =>
      decide (min (fy * n + n - 1) (s.cellRows - 1) > r) || s.corr.fogHave.any (fun e => e.1 == d && e.2 == fy))

/-- The last stripe row that row y needs; none where it needs no row of the stripe. -/
def State.needRow (s : State) (y : Int) : Option Nat :=
  let r := min (y + s.reachQ) ((s.cellRows : Int) - 1)
  if r < 0 then none else some r.toNat

/-- phi2 of row y is final (R207): what it needs is present, and no device it needs is lost for the stripe (R212, R215). -/
def State.rowFinal (s : State) (y : Int) : Bool :=
  match s.needRow y with
  | none => true
  | some r => decide (r < s.ownRows) && s.needDevices.all (fun d => bit s.corr.lost d == 0 && s.recordsHeld d r)

/-- Devices that correction waits on for the next row that is not final, own rows being present (R214). -/
def State.waitsOn (s : State) : List Nat :=
  if !s.corrOn || s.corr.stopped || s.corr.densityMissing || s.fromStore || !s.plan.state.active ||
      decide (s.corr.rowsFinal ≥ s.cellRows + 1) then []
  else match s.needRow s.corr.rowsFinal with
    | none => []
    | some r => if r < s.ownRows then s.needDevices.filter (fun d => !(s.recordsHeld d r)) else []

/-- CORR_EDGING_TIMEOUT in ps. -/
def State.edgingTimeout (s : State) : Nat := 1000000 * max 100 (s.fd F.CORR_EDGING_TIMEOUT_LIMIT_US)

/-- Timers of the waits: a wait that ends loses its timer and its mark, a new one starts now, with the time-out of now (R223). -/
def State.rewait (s : State) : State :=
  let w := s.waitsOn
  let keep := s.corr.waitUntil.filter (fun e : Nat × Nat => w.contains e.1)
  let raised := sumN (((List.range 64).filter (fun d => bit s.corr.waitRaised d == 1 && w.contains d)).map (fun d => 2 ^ d))
  let t := w.foldl (fun (t : Sparse Nat) d => match Sparse.find? t d with
    | some _ => t
    | none => Sparse.put t d (s.now + s.edgingTimeout)) keep
  { s with corr := { s.corr with waitUntil := t, waitRaised := raised } }

/-- CORR_WAIT_MASK as 64 bits. -/
def State.waitMask (s : State) : Nat := sumN (s.waitsOn.map (fun d => 2 ^ d))

/-! ## The needed region has values (R203, R204) -/

/-- The header gives every outside pixel of the needed region a value. Values are constant over the outside part of a
level-0 cell on one side, so its corners outside the stripe decide. -/
def State.densityComplete (s : State) (h : LaceHeader) : Bool :=
  let q : Int := s.reachQ
  let c0 : Int := (s.cellCol0 s.str.devIndex : Nat)
  let cols := (List.range (s.cellCols + 2 * s.reachQ)).map (fun (i : Nat) => c0 - q + i)
  let rows := (List.range (s.cellRows + 2 * s.reachQ)).map (fun (j : Nat) => (j : Int) - q)
  rows.all (fun cy => cols.all (fun cx =>
    [0, 63].all (fun dy => [0, 63].all (fun dx =>
      let x := 64 * cx + dx; let n := 64 * cy + dy
      (decide (0 ≤ x) && decide (x < (s.geoN * s.geoW : Nat)) && decide (0 ≤ n) && decide (n < (s.lines : Nat))) ||
        (s.outsideV h x n).isSome))))

/-! ## The factor map (R217, R219) -/

/-- DRAM address of the factor map. -/
def State.fmapBase (s : State) : Nat := s.partBase + s.fd F.CORR_FMAP_BASE_BASE_MB * 2 ^ 20
/-- COLS and ROWS of the factor map. -/
def State.fmapCols (s : State) : Nat := s.cellCols + 2
def State.fmapRows (s : State) : Nat := s.cellRows + 2

/-- DRAM address of the factor of level-0 cell (cx, cy). -/
def State.fmapAddr (s : State) (cx cy : Int) : Nat :=
  s.fmapBase + 64 + 2 * ((cy + 1).toNat * s.fmapCols + (cx - (s.cellCol0 s.str.devIndex : Nat) + 1).toNat)

/-- The factor of a cell as the map in DRAM holds it. -/
def State.fmapPhi (s : State) (cx cy : Int) : Nat := s.dramLe (s.fmapAddr cx cy) 2

/-- The header of Table 5-4. -/
def State.fmapHeader (s : State) (complete bodyCrc : Nat) : List Byte :=
  let b := leBytes 4 0x4D465745 ++ leBytes 4 s.stripeId ++ leBytes 4 s.fmapCols ++ leBytes 4 s.fmapRows ++
    leBytes 4 s.paramCrc ++ leBytes 2 s.node ++ leBytes 2 0 ++ leBytes 4 complete ++ leBytes 4 bodyCrc ++
    List.replicate 28 0
  b ++ leBytes 4 (crc crcC32C b)

/-- CRC of the body. -/
def State.fmapBodyCrc (s : State) : Nat := crc crcC32C (s.dramBytes (s.fmapBase + 64) (2 * s.fmapCols * s.fmapRows))

/-- R219: the map in DRAM may be used in store source. -/
def State.fmapOk (s : State) : Bool :=
  let n := 64 + 2 * s.fmapCols * s.fmapRows
  let hd := s.dramBytes s.fmapBase 64
  !(s.dramBad s.fmapBase n) && decide (leAt hd 0x3C 4 = crc crcC32C (hd.take 0x3C)) && decide (leAt hd 0x18 4 = 1) &&
  decide (leAt hd 0x1C 4 = s.fmapBodyCrc) && decide (leAt hd 4 4 = s.stripeId) && decide (leAt hd 0x10 4 = s.paramCrc) &&
  decide (leAt hd 8 4 = s.fmapCols) && decide (leAt hd 0xC 4 = s.fmapRows)

/-- Row y of the factor map is written, with the flags of its factors (R198, R219). -/
def fmapRow (h : LaceHeader) (y : Int) (s : State) : State :=
  let c0 : Int := (s.cellCol0 s.str.devIndex : Nat)
  let cells := (List.range s.fmapCols).map (fun (i : Nat) => c0 - 1 + i)
  let flags := if s.corrOn then (cells.map (fun cx => s.phiFlags h cx y)).flatten else []
  let s1 := flags.eraseDups.foldl (fun s b => satFlag b s) s
  dramWrite (s.fmapAddr (c0 - 1) y) ((cells.map (fun cx => leBytes 2 (s.phi2 h cx y))).flatten) s1

/-- Rows −1 to ⌈L / 64⌉ that have become final are written to the map, and CORR_ROWS_FINAL follows (R207, R219): `fuel` rows
at most. -/
def finalRows (h : LaceHeader) (fuel : Nat) (s : State) : State :=
  match fuel with
  | 0 => s
  | fuel + 1 =>
    let y := s.corr.rowsFinal
    if y ≥ s.cellRows + 1 ∨ s.rowFinal y = false then s
    else
      let s1 := fmapRow h y (if y = 0 then fmapRow h (-1) s else s)
      let s2 := { s1 with corr := { s1.corr with rowsFinal := y + 1 } }
      let s3 := if y = s.cellRows then dramWrite s2.fmapBase (s2.fmapHeader 1 s2.fmapBodyCrc) s2 else s2
      finalRows h fuel s3

/-- The highest cell row that the target doses of block row br use. -/
def blockTopRow (br : Nat) : Int := (64 * br - 1 : Int) / 128 + 1

/-- Block row br may be delivered to the store (R207): its coverage is delivered and its factors are final. -/
def State.blockDeliverable (s : State) (br : Nat) : Bool :=
  decide (min s.lines (32 * br + 32) ≤ s.covLines) &&
  (!s.corrOn || decide (blockTopRow br < s.corr.rowsFinal))

/-- Target doses of one block from its WDOSE by pixel: the doses, how many clamped to 1,023, in pixel order. -/
def State.blockDoses (s : State) (phi : Int → Int → Nat) (wd : Nat → Nat) (br bc : Nat) : List Nat × Nat :=
  (List.range 1024).foldr (fun p (acc : List Nat × Nat) =>
    let n := 32 * br + p / 32
    let d := if n < s.lines then s.doseRaw phi (wd p) (s.str.devIndex * s.geoW + 32 * bc + p % 32) n else 0
    (min d 1023 :: acc.1, acc.2 + b2n (decide (d > 1023)))) ([], 0)

/-- Clamped pixels are counted and DOSE_SAT follows (R198, Table 5-8). -/
def doseClamps (n : Nat) (s : State) : State :=
  if n = 0 then s else satFlag 3 (s.bump F.CORR_DOSE_CLAMP_COUNT_COUNT n)

/-- A factor that the target doses of block row br use is poison in the factor map (R221). -/
def State.factorsBad (s : State) (br : Nat) : Bool :=
  s.corrOn &&
  (let y0 : Int := (64 * br - 63 : Int) / 128
   let c0 : Int := (s.cellCol0 s.str.devIndex : Nat)
   (List.range 3).any (fun i => decide (y0 + i ≤ blockTopRow br) && s.dramBad (s.fmapAddr (c0 - 1) (y0 + i)) (2 * s.fmapCols)))

/-- Correction stops (R221). -/
def corrDataLost (s : State) : State :=
  { s.raise .COR_DATA_LOST with corr := { s.corr with stopped := true } }

end Sys2Proof.Machine
end

