-- ==== Sys2Proof/Machine/Frame.lean ====
section
/-! DEFINITION. Ethernet frames (R397 to R400, R408): the headers of the datagrams the device sends, what a MAC accepts, and how PTP
messages lie in a frame. Frames are taken without their FCS. -/

namespace Sys2Proof.Machine

/-! ## Internet checksums -/

/-- Sum of the 16-bit words of a byte string, padded with a zero byte. -/
def inetSum (l : List Byte) : Nat := sumN ((chunksOf 2 l.length l).map (fun b => 256 * byteAt b 0 + byteAt b 1))

/-- A sum folded to 16 bits. -/
def inetFold (t : Nat) : Nat :=
  let a := t % 65536 + t / 65536
  a % 65536 + a / 65536

/-- Bytes of an IP address. -/
def ipBytes (v6 : Bool) (a : Nat) : List Byte := beBytes (if v6 then 16 else 4) a

/-- Sum over the pseudo-header and the UDP header and payload, its checksum field taken as 0 (RFC 768, RFC 8200). -/
def udpSum (v6 : Bool) (src dst sport dport : Nat) (payload : List Byte) : Nat :=
  inetSum (ipBytes v6 src) + inetSum (ipBytes v6 dst) + 17 + 2 * (payload.length + 8) + sport + dport + inetSum payload

/-- The UDP checksum: 0xFFFF in place of 0. -/
def udpChecksum (v6 : Bool) (src dst sport dport : Nat) (payload : List Byte) : Nat :=
  let c := 65535 - inetFold (udpSum v6 src dst sport dport payload)
  if c = 0 then 65535 else c

/-! ## A MAC's own settings (R69, R398) -/

/-- The MAC address of a MAC, from the pricking image. -/
def State.macAddr (s : State) (mac : Nat) : Nat := (s.str.macs[mac]?).getD 0

/-- The IPv4 and IPv6 address of a MAC. -/
def State.ip4 (s : State) (mac : Nat) : Nat := s.fd F.NET_IP4_ADDR_ADDR mac
def State.ip6 (s : State) (mac : Nat) : Nat :=
  s.fd F.NET_IP6_ADDR0_ADDR mac + 2 ^ 32 * s.fd F.NET_IP6_ADDR1_ADDR mac + 2 ^ 64 * s.fd F.NET_IP6_ADDR2_ADDR mac +
    2 ^ 96 * s.fd F.NET_IP6_ADDR3_ADDR mac

/-- The VID and PCP of a MAC's transport traffic, and of its PTP traffic; none where it is untagged. -/
def State.vlan (s : State) (mac : Nat) : Option (Nat × Nat) :=
  if s.fb F.NET_VLAN_TAGGED mac then some (s.fd F.NET_VLAN_VID mac, s.fd F.NET_VLAN_PCP mac) else none
def State.ptpVlan (s : State) (mac : Nat) : Option (Nat × Nat) :=
  if s.fb F.NET_VLAN_PTP_TAGGED mac then some (s.fd F.NET_VLAN_PTP_VID mac, s.fd F.NET_VLAN_PTP_PCP mac) else none

/-- MACs a port mode has, as a mask of its sub-ports (Table 11-1). -/
def modeMacs (mode : Nat) : Nat := if mode = 1 ∨ mode = 2 then 1 else if mode = 3 ∨ mode = 4 then 15 else 0

/-- A MAC has link; a MAC that its port's mode lacks has none (R397, R398). -/
def State.linked (s : State) (mac : Nat) : Bool := bit s.net.link mac == 1

/-! ## Sending transport datagrams (R398, R400, R407) -/

/-- The IP address of address entry e (Table 11-8). -/
def State.entryIp (s : State) (e : Nat) : Nat :=
  if s.fb F.NET_ADDR_CFG_IPV6 e then
    s.fd F.NET_ADDR_IP0_IP e + 2 ^ 32 * s.fd F.NET_ADDR_IP1_IP e + 2 ^ 64 * s.fd F.NET_ADDR_IP2_IP e + 2 ^ 96 * s.fd F.NET_ADDR_IP3_IP e
  else s.fd F.NET_ADDR_IP0_IP e

/-- The headers of a datagram to address entry e. Its IP version is that of NET_IP_CFG, and its source port the transport port
(assumption log 49). -/
def State.netHeader (s : State) (e : Nat) (bytes : List Byte) : NetHeader :=
  let mac := s.fd F.NET_ADDR_CFG_MAC e
  let v6 := s.fb F.NET_IP_CFG_IPV6
  let src := if v6 then s.ip6 mac else s.ip4 mac
  let dst := s.entryIp e % 2 ^ (if v6 then 128 else 32)
  let sport := s.fd F.NET_UDP_PORT_PORT
  let dport := s.fd F.NET_ADDR_MAC_HI_UDP e
  { dstMac := s.fd F.NET_ADDR_MAC_LO_MAC e + 2 ^ 32 * s.fd F.NET_ADDR_MAC_HI_MAC e
    srcMac := s.macAddr mac
    vlan := s.vlan mac
    v6 := v6
    df := !v6
    ttl := s.fd F.NET_IP_CFG_TTL
    dscp := s.fd F.NET_IP_CFG_DSCP
    srcIp := src
    dstIp := dst
    srcPort := sport
    dstPort := dport
    checksum := udpChecksum v6 src dst sport dport bytes }

/-- Send a datagram to address entry e where it is VALID and its MAC has link (R407). -/
def sendTo (e : Nat) (bytes : List Byte) (s : State) : State :=
  let mac := s.fd F.NET_ADDR_CFG_MAC e
  if s.fb F.NET_ADDR_CFG_VALID e && s.linked mac then s.emit (.datagram mac (s.netHeader e bytes) bytes) else s

/-! ## The parts of a frame -/

/-- The VID of a tagged frame. -/
def frameVid (l : List Byte) : Option Nat := if beAt l 12 2 = 0x8100 then some (beAt l 14 2 % 4096) else none

/-- Where what follows the Ethertype lies. -/
def frameBody (l : List Byte) : Nat := if beAt l 12 2 = 0x8100 then 18 else 14

/-- The Ethertype. -/
def frameType (l : List Byte) : Nat := beAt l (frameBody l - 2) 2

/-- Where the UDP header lies, and whether the datagram is IPv6; none for what is not UDP over IP. -/
def frameUdp (l : List Byte) : Option (Bool × Nat) :=
  let o := frameBody l
  if frameType l = 0x0800 ∧ byteAt l o / 16 = 4 ∧ byteAt l (o + 9) = 17 then some (false, o + 4 * (byteAt l o % 16))
  else if frameType l = 0x86DD ∧ byteAt l o / 16 = 6 ∧ byteAt l (o + 6) = 17 then some (true, o + 40)
  else none

/-- The source and destination IP addresses. -/
def frameIps (l : List Byte) (v6 : Bool) : Nat × Nat :=
  let o := frameBody l
  if v6 then (beAt l (o + 8) 16, beAt l (o + 24) 16) else (beAt l (o + 12) 4, beAt l (o + 16) 4)

/-- The tag of a frame fits a VLAN setting (R399). -/
def vlanFits (l : List Byte) (v : Option (Nat × Nat)) : Bool := frameVid l == v.map Prod.fst

/-! ## PTP messages (R408, Table 11-4) -/

/-- PTP multicast MAC addresses: those of Annex F, and those that the IP groups of Annexes C and D map to. -/
def ptpMacs : List Nat :=
  [0x011B19000000, 0x0180C200000E, 0x01005E000181, 0x01005E00006B, 0x333300000181, 0x33330000006B]

/-- An IPv6 group of PTP: FF0X::181 or FF02::6B. -/
def ptpGroup6 (a : Nat) : Bool := (a / 2 ^ 120 == 0xFF && a / 2 ^ 116 % 16 == 0 && a % 2 ^ 112 == 0x181) || a == 0xFF02 * 2 ^ 112 + 0x6B

/-- Where a PTP message lies in a frame, and its transport: 0 layer 2, 4 UDP/IPv4, 6 UDP/IPv6. -/
def ptpOffset (l : List Byte) : Option (Nat × Nat) :=
  if frameType l = 0x88F7 then some (frameBody l, 0)
  else match frameUdp l with
    | some (v6, u) => if beAt l (u + 2) 2 = 319 ∨ beAt l (u + 2) 2 = 320 then some (u + 8, if v6 then 6 else 4) else none
    | none => none

/-- NET_PTP_CFG enables a transport on a MAC; PTP runs on sub-port 0 (R408). -/
def State.ptpEnabled (s : State) (mac k : Nat) : Bool :=
  mac % 4 == 0 && s.fb (if k = 0 then F.NET_PTP_CFG_L2 else if k = 4 then F.NET_PTP_CFG_IPV4 else F.NET_PTP_CFG_IPV6) mac

/-- A received frame is addressed as its transport asks. -/
def State.ptpAddressed (s : State) (mac k : Nat) (l : List Byte) : Bool :=
  let d := beAt l 0 6
  match k with
  | 0 => d == 0x011B19000000 || d == 0x0180C200000E || d == s.macAddr mac
  | 4 => let ip := (frameIps l false).2; ip == 0xE0000181 || ip == 0xE000006B || ip == s.ip4 mac
  | _ => let ip := (frameIps l true).2; ptpGroup6 ip || ip == s.ip6 mac

/-- A received frame is a PTP frame of R408. -/
def State.ptpFrame (s : State) (mac : Nat) (l : List Byte) : Bool :=
  match ptpOffset l with
  | some (_, k) => s.ptpEnabled mac k && s.ptpAddressed mac k l
  | none => false

/-- A PTP event message: version 2, type 0 to 3, on an enabled transport (R408). -/
def State.ptpEvent (s : State) (mac : Nat) (l : List Byte) : Bool :=
  match ptpOffset l with
  | none => false
  | some (o, k) => s.ptpEnabled mac k && byteAt l (o + 1) % 16 == 2 && decide (byteAt l o % 16 ≤ 3)

/-! ## What a MAC accepts (R399) -/

/-- NET_MTU: 1,518 to 9,216. -/
def State.mtu (s : State) : Nat := clampN 1518 9216 (s.fd F.NET_MTU_BYTES)

/-- The payload of an IPv4 or IPv6 UDP datagram to NET_UDP_PORT: IPv4 with IHL = 5 and not fragmented, IPv6 with no extension header,
the UDP checksum correct or, over IPv4, 0. -/
def State.transportPayload (s : State) (l : List Byte) : Option (List Byte) :=
  match frameUdp l with
  | none => none
  | some (v6, u) =>
    let o := frameBody l
    let ips := frameIps l v6
    let len := beAt l (u + 4) 2
    let pay := slice l (u + 8) (len - 8)
    let ck := beAt l (u + 6) 2
    if beAt l (u + 2) 2 = s.fd F.NET_UDP_PORT_PORT ∧ 8 ≤ len ∧ u + len ≤ l.length ∧
        (v6 = true ∨ (byteAt l o = 0x45 ∧ beAt l (o + 6) 2 % 0x4000 = 0)) ∧
        ((v6 = false ∧ ck = 0) ∨ inetFold (udpSum v6 ips.1 ips.2 (beAt l u 2) (beAt l (u + 2) 2) pay + ck) = 65535) then some pay
    else none

/-- What a received frame is to its MAC. -/
inductive RxClass where
  | ptp
  | transport (payload : List Byte)
  | discarded
deriving DecidableEq, Repr

/-- A frame with a correct FCS, given without it, arrives at a MAC (R399). -/
def State.rxFrame (s : State) (mac : Nat) (l : List Byte) : RxClass :=
  let d := beAt l 0 6
  if !s.linked mac || decide (l.length + 4 > s.mtu) || !(d == s.macAddr mac || ptpMacs.contains d) then .discarded
  else if s.ptpFrame mac l then (if vlanFits l (s.ptpVlan mac) then .ptp else .discarded)
  else match s.transportPayload l with
    | some p => if vlanFits l (s.vlan mac) then .transport p else .discarded
    | none => .discarded

/-! ## PTP frames sent (R400, R410, R470) -/

/-- Bytes b put at offset o. -/
def putBytes (l : List Byte) (o : Nat) (b : List Byte) : List Byte := l.take o ++ b ++ l.drop (o + b.length)

/-- A tagged MAC sends a PTP frame with the tag of its PTP setting (R400): a tag the host gave takes its VID and PCP. -/
def tagFrame (v : Option (Nat × Nat)) (l : List Byte) : List Byte :=
  match v with
  | none => l
  | some (vid, pcp) =>
    let tag := beBytes 2 0x8100 ++ beBytes 2 (8192 * pcp + vid)
    if beAt l 12 2 = 0x8100 then putBytes l 12 tag else l.take 12 ++ tag ++ l.drop 12

/-- The UDP checksum of a frame made anew. -/
def sealUdp (l : List Byte) : List Byte :=
  match frameUdp l with
  | none => l
  | some (v6, u) =>
    let ips := frameIps l v6
    putBytes l (u + 6) (beBytes 2 (udpChecksum v6 ips.1 ips.2 (beAt l u 2) (beAt l (u + 2) 2) (slice l (u + 8) (beAt l (u + 4) 2 - 8))))

/-- The fields R400 gives a transmitted IP datagram: DF, TTL and DSCP with the header checksum over them, and the UDP checksum. -/
def stampIp (ttl dscp : Nat) (l : List Byte) : List Byte :=
  let o := frameBody l
  if frameType l = 0x0800 ∧ o + 20 ≤ l.length then
    let l1 := putBytes l (o + 1) (beBytes 1 (4 * dscp + byteAt l (o + 1) % 4))
    let l2 := putBytes l1 (o + 6) (beBytes 1 (64 + byteAt l (o + 6) % 32 + 128 * (byteAt l (o + 6) / 128)))
    let l3 := putBytes (putBytes l2 (o + 8) (beBytes 1 ttl)) (o + 10) [0, 0]
    sealUdp (putBytes l3 (o + 10) (beBytes 2 (65535 - inetFold (inetSum (slice l3 o (4 * (byteAt l3 o % 16)))))))
  else if frameType l = 0x86DD ∧ o + 40 ≤ l.length then
    let tc := 4 * dscp + beAt l o 2 / 16 % 4
    let l1 := putBytes l o (beBytes 2 (6 * 4096 + 16 * tc + beAt l o 2 % 16))
    sealUdp (putBytes l1 (o + 7) (beBytes 1 ttl))
  else l

/-- One-step corrections of a sent frame (R410): originTimestamp and correctionField of a Sync, correctionField of a Pdelay_Resp; the
UDP checksum becomes 0 over IPv4 and is made anew over IPv6. -/
def oneStep (l : List Byte) (st : Nat × Nat × Nat) (req : Nat) : List Byte :=
  match ptpOffset l with
  | none => l
  | some (o, k) =>
    let corr := beAt l (o + 8) 8
    let t := (st.1 * 1000000000 + st.2.1) * 65536 + st.2.2
    let l1 :=
      if byteAt l o % 16 = 0 then
        putBytes (putBytes l (o + 34) (beBytes 6 st.1 ++ beBytes 4 st.2.1)) (o + 8) (beBytes 8 ((corr + st.2.2) % 2 ^ 64))
      else if byteAt l o % 16 = 3 then putBytes l (o + 8) (beBytes 8 ((corr + t + 2 ^ 64 - req % 2 ^ 64) % 2 ^ 64))
      else l
    if k = 4 then putBytes l1 (o - 2) [0, 0] else sealUdp l1

end Sys2Proof.Machine
end

