-- ==== Sys2Proof/Machine/Plan.lean ====
section
/-! DEFINITION. The planner's arithmetic (Chapter 7): the pass table, the defect and seam maps, beams and pixels, reliable
slots, the split of a pixel's dose and the capacity check. -/

namespace Sys2Proof.Machine

/-! ## The pass table (R263) -/

/-- XI[p], two's complement. -/
def State.xi (s : State) (p : Nat) : Int := sext 5 (s.fd F.PLAN_PASS_X_XI p)
/-- XF[p]. -/
def State.xf (s : State) (p : Nat) : Nat := s.fd F.PLAN_PASS_X_XF p
/-- YF[p], two's complement. -/
def State.yf (s : State) (p : Nat) : Int := sext 8 (s.fd F.PLAN_PASS_Y_YF p)
/-- FEED[p]. -/
def State.feed (s : State) (p : Nat) : Nat := s.fd F.PLAN_PASS_FEED_LINES p
/-- SHARE[p]. -/
def State.share (s : State) (p : Nat) : Nat := s.fd F.PLAN_PASS_SHARE_SHARE p
/-- SC[q]: the shares below pass q (R270). -/
def State.sc (s : State) (q : Nat) : Nat := sumN ((List.range q).map s.share)
/-- GAIN. -/
def State.gain (s : State) : Nat := s.fd F.PLAN_DOSE_GAIN_GAIN
/-- COLS. -/
def State.cols (s : State) : Nat := s.fd F.PLAN_SEAM_CFG_COLS
/-- T, the shift limit. -/
def State.shiftMax (s : State) : Nat := s.fd F.PLAN_SEAM_CFG_T

/-- R264: a stripe's pass table and seam configuration may be armed (the seam area is checked apart). -/
def State.passTableOk (s : State) : Bool :=
  decide (s.sc s.passes = 65536) && decide (s.cols ≤ 16) && decide (s.shiftMax ≤ 16) && decide (2 * s.cols ≤ s.geoW) &&
  (List.range s.passes).all (fun p => decide ((s.xi p).natAbs + s.shiftMax ≤ s.cols))

/-! ## Defect entries (R67, R282, R646) -/

/-- STATE of an entry: 0 GOOD, 1 WEAK, 2 DEAD, 3 HOT, 4 SLOW. -/
def entryState (e : Nat) : Nat := bits e 12 10
/-- FACTOR of an entry. -/
def entryFactor (e : Nat) : Nat := bits e 9 0
/-- DEAD with factor 256. -/
def deadEntry : Nat := 0x0900
/-- An entry is valid (R67, R282). -/
def entryValid (e : Nat) : Bool :=
  decide (e < 8192) && decide (entryState e ≤ 4) &&
  (if entryState e = 1 then decide (128 ≤ entryFactor e ∧ entryFactor e ≤ 512) else decide (entryFactor e = 256))
/-- An invalid entry is copied as DEAD (R282). -/
def judgeEntry (e : Nat) : Nat := if entryValid e then e else deadEntry
/-- A beam of this entry can expose: GOOD or WEAK. -/
def entrySound (e : Nat) : Bool := decide (entryState e ≤ 1)

/-- The active entry of beam b = r × C + c. -/
def State.defEntry (s : State) (b : Nat) : Nat := Sparse.get goodEntry s.plan.defActive b

/-- Key of entry e of the seam table of a side. -/
def seamKey (side e : Nat) : Nat := side * 2048 + e

/-- Active entry e of the seam table of a side (R646). -/
def State.seamEntry (s : State) (side e : Nat) : Nat := judgeEntry (Sparse.get 0 s.plan.seamActive (seamKey side e))

/-! ## Beams (R27, R281) -/

/-- Band column of beam (r, c) (R27). -/
def State.beamCol (s : State) (r c : Nat) : Nat :=
  c * s.geoB + (if s.str.slant then s.geoB - 1 - r % s.geoB else r % s.geoB)

/-- Row of the beam of slot j over offset o of its group (R269). -/
def State.beamRow (s : State) (o j : Nat) : Nat :=
  if s.str.slant then s.geoB - 1 - o + j * s.geoB else o + j * s.geoB

/-- The remap entry of a beam: SLOT in [9:0], LANE in [13:10]; unlisted beams have the default (R281). -/
def State.remapEntry (s : State) (b : Nat) : Nat :=
  match Sparse.find? s.plan.remap b with
  | some e => e
  | none =>
    let r := b / s.geoC
    (r % (s.geoR / 16)) * s.geoC + b % s.geoC + 1024 * (16 * r / s.geoR)

/-- Beams of lane n as (slot, beam), in beam order: those of its own rows (R75). -/
def State.laneBeams (s : State) (n : Nat) : List (Nat × Nat) :=
  (List.range 1024).map (fun i => let b := n * 1024 + i; (s.remapEntry b % 1024, b))

/-! ## Reliable slots (R269) -/

/-- The entry of the candidate beam over band column x (of this device; x may lie in a neighbour's band) at slot j; none
when no such beam exists. Seam tables stand in ascending column and then ascending slot (R277). -/
def State.candidate (s : State) (x : Int) (j : Nat) : Option Nat :=
  let w := s.geoW
  if 0 ≤ x ∧ x < w then
    let x := x.toNat
    let r := s.beamRow (x % s.geoB) j
    some (s.defEntry (r * s.geoC + x / s.geoB))
  else if x < 0 then
    let e := x + 2 * s.cols
    if s.hasNeighbour 0 ∧ 0 ≤ e then some (s.seamEntry 0 (e.toNat * s.geoM + j)) else none
  else
    let e := (x - w).toNat
    if s.hasNeighbour 1 ∧ e < 2 * s.cols then some (s.seamEntry 1 (e * s.geoM + j)) else none

/-- The candidates of slot j of band column x in pass p, one for each shift. -/
def State.candidates (s : State) (p : Nat) (x : Int) (j : Nat) : List (Option Nat) :=
  (List.range (2 * s.shiftMax + 1)).map (fun (i : Nat) => s.candidate (x - (s.xi p - s.shiftMax + i)) j)

/-- fmin[j] of a reliable slot; none when the slot is not reliable (R269). -/
def State.slotFactor (s : State) (p : Nat) (x : Int) (j : Nat) : Option Nat :=
  (s.candidates p x j).foldl (fun acc c =>
    match acc, c with
    | some m, some e => if entrySound e then some (min m (entryFactor e)) else none
    | _, _ => none) (some 1024)

/-- The factors of the M slots of a column. -/
def State.slotFactors (s : State) (p : Nat) (x : Int) : List (Option Nat) :=
  (List.range s.geoM).map (s.slotFactor p x)

/-- CAP of a pixel of the column in pass p. -/
def State.capacity (s : State) (p : Nat) (x : Int) : Nat :=
  255 * sumN ((s.slotFactors p x).map (fun f => f.getD 0))

/-! ## The split (R270, R271) -/

/-- A_p: the amount of target dose t delivered in pass p. -/
def State.passAmount (s : State) (t p : Nat) : Int :=
  let a : Int := (t * s.gain : Nat)
  rshiftRound (a * s.sc (p + 1)) 16 - rshiftRound (a * s.sc p) 16

/-- The loop of `planned` over the slots of l, j slots before the one asked for. -/
def plannedLoop (rm f : Int) (j : Nat) (l : List (Option Nat)) : Nat :=
  match l with
  | [] => 0
  | none :: t => match j with
    | 0 => 0
    | j + 1 => plannedLoop rm f j t
  | some m :: t =>
    let share : Int := if rm > 0 then tdiv (rm * m + f - 1) f else 0
    let c : Int := tdiv (share + m - 1) m
    match j with
    | 0 => (c % 65536).toNat
    | j + 1 => plannedLoop (rm - c * m) (f - m) j t

/-- planned(t, p, j) for band column x (R270). -/
def State.planned (s : State) (t p : Nat) (x : Int) (j : Nat) : Nat :=
  let l := s.slotFactors p x
  plannedLoop (s.passAmount t p) (sumN (l.map (fun f => f.getD 0)) : Nat) j l

/-- The code of a beam of factor f for a planned code (R271). -/
def codeOf (planned fmin f : Nat) : Nat := (2 * planned * fmin + f) / (2 * f)

/-! ## Target doses -/

/-- Band column x of this device lies in the column stripe. -/
def State.inStripe (s : State) (x : Int) : Bool :=
  let g : Int := (s.str.devIndex * s.geoW : Nat) + x
  decide (0 ≤ g) && decide (g < (s.geoN * s.geoW : Nat))

/-- DRAM address of the seam value of a side, line n, seam column e (R279). -/
def State.seamAddr (s : State) (side n e : Nat) : Nat :=
  s.partBase + s.fd F.PLAN_SEAM_BASE_BASE_MB * 2 ^ 20 + 64 +
    (if side = 0 then 0 else 64 * s.cols * ((s.lines + 31) / 32)) +
    (n / 32) * 64 * s.cols + (n % 32) * 2 * s.cols + 2 * e

/-- t(X, n) for band column x: delivered doses of the band, seam values beside it (R268, R279). -/
def State.doseAt (s : State) (n : Nat) (x : Int) : Nat :=
  if x < 0 then
    let e := x + s.cols
    if 0 ≤ e then s.dramLe (s.seamAddr 1 n e.toNat) 2 else 0
  else if x < (s.geoW : Int) then Sparse.get 0 s.plan.doses (n * 4096 + x.toNat)
  else
    let e := (x - s.geoW).toNat
    if e < s.cols then s.dramLe (s.seamAddr 0 n e) 2 else 0

/-! ## Codes (R266, R268) -/

/-- The shift count at beat k: the count now and the steps that wait for beats up to k (R266). -/
def State.hAt (s : State) (k : Nat) : Int :=
  s.plan.shifts.foldl (fun h e => if e.1 ≤ k ∧ e.2.2 = false then h + e.2.1 else h) s.plan.h

/-- The exposure code of beam b at beat k of pass p with shift sh (R268). -/
def State.beamCode (s : State) (p k : Nat) (sh : Int) (b : Nat) : Nat :=
  let r := b / s.geoC
  let c := b % s.geoC
  let x : Int := (s.beamCol r c : Nat) + sh
  let e := s.defEntry b
  let j := r / s.geoB
  if k < r * s.geoB ∨ k - r * s.geoB ≥ s.lines ∨ s.inStripe x = false ∨ entrySound e = false then 0
  else match s.slotFactor p x j with
    | none => 0
    | some m => codeOf (s.planned (s.doseAt (k - r * s.geoB) x) p x j) m (entryFactor e)

/-- The codes of lane n in wire order (R281). -/
def State.laneCodes (s : State) (p k : Nat) (sh : Int) (n : Nat) : List Byte :=
  let t := (s.laneBeams n).foldl (fun (t : Sparse Nat) e => Sparse.put t e.1 (s.beamCode p k sh e.2)) []
  (List.range 1024).map (fun b => BitVec.ofNat 8 (Sparse.get 0 t b))

/-- Lines that the beams of lane n lie over at beat k, within the stripe. -/
def State.laneLines (s : State) (n k : Nat) : List Nat :=
  ((List.range (s.geoR / 16)).map (fun i => (n * (s.geoR / 16) + i) * s.geoB)).filterMap (fun d =>
    if d ≤ k ∧ k - d < s.lines then some (k - d) else none)

/-- A row of seam values is held: from device i + 1 (side 0) or i − 1 (side 1). -/
def State.seamRowHeld (s : State) (side row : Nat) : Bool := s.plan.seamHave.any (fun e => e.1 == side && e.2 == row)

/-- The neighbour that sends SIDE `side`: device i + 1 sends 0, device i − 1 sends 1. -/
def State.seamFrom (s : State) (side : Nat) : Bool := s.hasNeighbour (1 - side)

/-- Everything the codes of line n need has been delivered (R248, R268). -/
def State.lineHeld (s : State) (n : Nat) : Bool :=
  decide (n < s.store.delivered) &&
  (s.cols == 0 || s.fromStore || [0, 1].all (fun d => !(s.seamFrom d) || s.seamRowHeld d (n / 32)))

/-! ## Capacity (R272, R273) -/

/-- The first pass in which a pixel of target dose d fails its capacity check; `caps` holds the column's CAP in each pass. -/
def State.pixelFail (s : State) (caps : List Nat) (d : Nat) : Option Nat :=
  (List.range s.passes).find? (fun p => decide (s.passAmount d p > caps.getD p 0))

/-- Band columns the beams can lie over: the band and COLS beside it, within the column stripe. -/
def State.checkCols (s : State) : List Int :=
  ((List.range (s.geoW + 2 * s.cols)).map (fun (i : Nat) => (i : Int) - s.cols)).filter s.inStripe

/-- The first failing pixel of block row br as (column, line, pass); `dose n x` is the target dose. -/
def State.rowFails (s : State) (dose : Nat → Int → Nat) (br : Nat) : Option (Int × Nat × Nat) :=
  let lns := ((List.range 32).map (fun i => 32 * br + i)).filter (fun n => decide (n < s.lines))
  let caps := s.checkCols.map (fun x => (x, (List.range s.passes).map (fun p => s.capacity p x)))
  lns.findSome? (fun n => caps.findSome? (fun e => (s.pixelFail e.2 (dose n e.1)).map (fun p => (e.1, n, p))))

/-- The seam record rows of a block row are held from every existing neighbour (R272). -/
def State.seamRowsHeld (s : State) (br : Nat) : Bool :=
  s.cols == 0 || [0, 1].all (fun d => !(s.seamFrom d) || s.seamRowHeld d br)

/-- A capacity check has failed since ARM (R273). -/
def State.compFail (s : State) : Bool := !s.plan.compBad.isEmpty

/-- Lines 0 upwards that have passed the check (R273): those of the checked block rows from the first on, up to the lowest failing
line. -/
def State.compLines (s : State) : Nat :=
  let nr := (s.lines + 31) / 32
  let rows := ((List.range nr).find? (fun br => !(s.plan.compRows.contains br))).getD nr
  s.plan.compBad.foldl min (min s.lines (32 * rows))

/-- Capacity check of block row br, once verified and its seam rows held (R272, R273). PLAN_COMP_FAIL_WHERE keeps the first
failure since ARM. -/
def capacityCheck (dose : Nat → Int → Nat) (br : Nat) (s : State) : State :=
  let s0 := { s with plan := { s.plan with compRows := s.plan.compRows ++ [br] } }
  match s.rowFails dose br with
  | none => s0
  | some (x, n, p) =>
    let g := ((s.str.devIndex * s.geoW : Nat) + x).toNat
    let s1 := if s.compFail then s0 else
      ((((s0.setFd F.PLAN_COMP_FAIL_WHERE_X g).setFd F.PLAN_COMP_FAIL_WHERE_PASS p).setFd
        F.PLAN_COMP_FAIL_WHERE_VALID 1).setFd F.PLAN_COMP_FAIL_LINE_LINE n)
    let s2 := { s1 with plan := { s1.plan with compBad := s1.plan.compBad ++ [n] } }
    if s2.plan.state.running then s2.underrun .PLN_COMP_OVERFLOW (max p s2.plan.pass) n else s2.raise .PLN_COMP_OVERFLOW

/-! ## Seam CRCs (R277) -/

/-- Own active entries over band columns lo to lo + n − 1, in ascending column and then slot, as bytes. -/
def State.edgeBytes (s : State) (lo n : Nat) : List Byte :=
  ((List.range n).map (fun i => ((List.range s.geoM).map (fun j =>
    let x := lo + i
    leBytes 2 (s.defEntry (s.beamRow (x % s.geoB) j * s.geoC + x / s.geoB)))).flatten)).flatten

/-- EDGE_CRC of a side. -/
def State.edgeCrc (s : State) (side : Nat) : Nat :=
  crc crcC32C (s.edgeBytes (if side = 0 then 0 else s.geoW - 2 * s.cols) (2 * s.cols))

/-- CRC of the active seam table of a side. -/
def State.seamTableCrc (s : State) (side : Nat) : Nat :=
  crc crcC32C (((List.range (2 * s.cols * s.geoM)).map (fun e => leBytes 2 (s.seamEntry side e))).flatten)

/-- PLAN_CRC. -/
def State.planCrc (s : State) : Nat :=
  let w (r : Reg) (i : Nat) : List Byte := leBytes 4 (s.rg r i).toNat
  crc crcC32C (w .PLAN_DOSE_GAIN 0 ++ w .PLAN_SEAM_CFG 0 ++
    ((List.range 8).map (fun p => w .PLAN_PASS_X p ++ w .PLAN_PASS_Y p ++ w .PLAN_PASS_SHARE p)).flatten)

end Sys2Proof.Machine
end

