-- ==== Sys2Proof/Machine/Edging.lean ====
section
/-! DEFINITION. Edging and seam records (R208 to R215, R275 to R280, R407, R645): sending, keeping, retrying, checking and
answering them. -/

namespace Sys2Proof.Machine

/-! ## Sending (R407) -/

/-- An EDGE datagram that carries a record to device d (Table 11-2). -/
def State.edgeDatagram (s : State) (d : Nat) (rec : List Byte) : List Byte :=
  let b := leBytes 1 1 ++ leBytes 1 3 ++ leBytes 2 0 ++ leBytes 2 s.node ++ leBytes 2 (s.nodeOf d) ++ leBytes 4 0 ++
    leBytes 4 0 ++ leBytes 2 rec.length ++ leBytes 2 0 ++ rec
  b ++ leBytes 4 (crc crcC32C b)

/-- A record is sent to device d; an entry with VALID = 0 raises NET_PEER_MISSING (R407). -/
def sendRecord (d : Nat) (rec : List Byte) (s : State) : State :=
  if s.fb F.NET_ADDR_CFG_VALID d then sendTo d (s.edgeDatagram d rec) s else s.raise .NET_PEER_MISSING

/-- Append the CRC of R208 and R276. -/
def sealRecord (b : List Byte) : List Byte := b ++ leBytes 4 (crc crcC32C b)

/-- CORR_EDGING_RETRY in ps. -/
def State.retryPeriod (s : State) : Nat := 1000000 * max 10 (s.fd F.CORR_EDGING_RETRY_PERIOD_US)

/-- A record is sent and kept until it is settled (R210); its next sending is due a retry period of now away (R223). -/
def keepRecord (r : KeptRecord) (s : State) : State :=
  let s1 := sendRecord r.dst r.bytes s
  { s1 with corr := { s1.corr with kept := s1.corr.kept ++ [{ r with dueAt := s.now + s.retryPeriod }] } }

/-! ## Near and fog records (R209, Table 5-2) -/

/-- The 24 bytes before the values of an edging record to device d. -/
def State.edgingHead (s : State) (typ level d count row col0 cells : Nat) : List Byte :=
  leBytes 1 typ ++ leBytes 1 level ++ leBytes 2 s.node ++ leBytes 2 (s.nodeOf d) ++ leBytes 2 count ++
    leBytes 4 s.stripeId ++ leBytes 4 row ++ leBytes 2 col0 ++ leBytes 2 cells ++ leBytes 4 s.paramCrc

/-- Devices of the column that get this device's near records. -/
def State.nearPartners (s : State) : List Nat := (List.range s.geoN).filter s.nearPartner

/-- Rows of near group g. -/
def State.nearCount (s : State) (g : Nat) : Nat := min 8 (s.cellRows - 8 * g)

/-- Near record of group g to device d. -/
def State.nearRecord (s : State) (h : LaceHeader) (g d : Nat) : List Byte :=
  let n := s.nearCount g
  let c0 := s.cellCol0 s.str.devIndex
  let vals := ((List.range n).map (fun j => ((List.range s.cellCols).map (fun i =>
    leBytes 2 (s.d0Own h (c0 + i) (8 * g + j)))).flatten)).flatten
  let pad := if n * s.cellCols % 2 = 1 then [0, 0] else []
  sealRecord (s.edgingHead 1 0 d n (8 * g) c0 s.cellCols ++ vals ++ pad)

/-- First fog cell column that meets device d's band, and how many do (Table 5-2). -/
def State.fogSpan (s : State) (d : Nat) : Nat × Nat :=
  let n := 2 ^ (s.term 4).level
  let a := s.cellCol0 d / n
  (a, (s.cellCol0 d + s.cellCols - 1) / n + 1 - a)

/-- A fog value: D0 summed over the level-0 cells of fog cell (fx, fy) in this band that touch the stripe (R209). -/
def State.fogValue (s : State) (h : LaceHeader) (fx fy : Nat) : Nat :=
  let n := 2 ^ (s.term 4).level
  let c0 := s.cellCol0 s.str.devIndex
  sumN ((List.range n).map (fun j => sumN ((List.range n).map (fun i =>
    let cx := fx * n + i; let cy := fy * n + j
    if c0 ≤ cx ∧ cx < c0 + s.cellCols ∧ cy < s.cellRows then s.d0Own h cx cy else 0))))

/-- Fog record of fog row fy to device d. -/
def State.fogRecord (s : State) (h : LaceHeader) (fy d : Nat) : List Byte :=
  let sp := s.fogSpan s.str.devIndex
  let vals := ((List.range sp.2).map (fun i => leBytes 4 (s.fogValue h (sp.1 + i) fy))).flatten
  sealRecord (s.edgingHead 2 (s.term 4).level d 1 fy sp.1 sp.2 ++ vals)

/-- Near groups and fog rows of the stripe. -/
def State.nearGroups (s : State) : Nat := (s.cellRows + 7) / 8
def State.fogRows (s : State) : Nat := (s.cellRows + 2 ^ (s.term 4).level - 1) / 2 ^ (s.term 4).level

/-- Near records of the groups from `nearSent` on whose rows are all present are sent (R209). -/
def sendNear (h : LaceHeader) (fuel : Nat) (s : State) : State :=
  match fuel with
  | 0 => s
  | fuel + 1 =>
    let g := s.corr.nearSent
    if g < s.nearGroups ∧ 8 * g + s.nearCount g ≤ s.ownRows then
      let s1 := s.nearPartners.foldl (fun s d =>
        keepRecord ⟨d, 1, s.stripeId, 8 * g, s.nearCount g, s.nearRecord h g d, 0⟩ s) s
      sendNear h fuel { s1 with corr := { s1.corr with nearSent := g + 1 } }
    else s

/-- Fog records of the fog rows from `fogSent` on whose rows are all present are sent (R209). -/
def sendFog (h : LaceHeader) (fuel : Nat) (s : State) : State :=
  match fuel with
  | 0 => s
  | fuel + 1 =>
    let y := s.corr.fogSent
    if y < s.fogRows ∧ min ((y + 1) * 2 ^ (s.term 4).level) s.cellRows ≤ s.ownRows then
      let s1 := ((List.range s.geoN).filter (fun d => d != s.str.devIndex)).foldl (fun s d =>
        keepRecord ⟨d, 2, s.stripeId, y, 1, s.fogRecord h y d, 0⟩ s) s
      sendFog h fuel { s1 with corr := { s1.corr with fogSent := y + 1 } }
    else s

/-- Records that the delivered tiles allow are sent: live source, correction on and able to start. -/
def sendEdging (s : State) : State :=
  if s.corrOn && !s.fromStore && !s.corr.densityMissing && !s.corr.stopped then
    let h := s.boundHeader
    let s1 := if s.partnersP = 0 then s else sendNear h s.nearGroups s
    if s1.termOn 4 then sendFog h s1.fogRows s1 else s1
  else s

/-! ## Binding (R143, R204, R213) -/

/-- The density of a bound header is judged (R204): missing values raise COR_DENSITY_MISSING and correction does not start. -/
def judgeDensity (s : State) : State :=
  if s.corrOn && !s.fromStore && !(s.densityComplete s.boundHeader) then
    { s.raise .COR_DENSITY_MISSING with corr := { s.corr with densityMissing := true } }
  else s

/-- The scope of R143 is bound to the stripe. -/
def bindScope (s : State) : State :=
  match s.boundScope with
  | some i => s.setScope i { s.scope i with bound := true }
  | none => s

/-- A live-source stripe armed without a scope binds one as soon as it exists (R143, R204). -/
def bindLate (s : State) : State :=
  if s.plan.state.active && s.native && !s.fromStore && !(s.scope 0).bound && !(s.scope 1).bound && s.boundScope.isSome then
    judgeDensity (bindScope s)
  else s

/-! ## Seam records (Table 7-2) -/

/-- The 24 bytes before the values of a seam record to the device on side `side`'s far end: SIDE 0 goes to i − 1. -/
def State.seamHead (s : State) (side row : Nat) : List Byte :=
  leBytes 1 3 ++ leBytes 1 side ++ leBytes 2 s.node ++ leBytes 2 (s.nodeOf (s.neighbour side)) ++ leBytes 2 s.cols ++
    leBytes 4 s.stripeId ++ leBytes 4 row ++ leBytes 4 (s.edgeCrc side) ++ leBytes 4 s.planCrc

/-- Target doses of block row br in this device's edge columns of a side, as VALUES. -/
def State.seamValues (s : State) (side br : Nat) : List Byte :=
  let x0 := if side = 0 then 0 else s.geoW - s.cols
  ((List.range 32).map (fun l => ((List.range s.cols).map (fun c =>
    leBytes 2 (Sparse.get 0 s.store.pixels ((32 * br + l) * 4096 + x0 + c)))).flatten)).flatten

/-- Edge records are sent to the existing neighbours (R277). -/
def sendEdgeRecords (s : State) : State :=
  ([0, 1].filter s.hasNeighbour).foldl (fun s side =>
    keepRecord ⟨s.neighbour side, 3, s.stripeId, 0xFFFFFFFF, s.cols, sealRecord (s.seamHead side 0xFFFFFFFF), 0⟩ s) s

/-- Seam records of verified block row br are sent (R275). -/
def sendSeam (br : Nat) (s : State) : State :=
  if s.cols = 0 ∨ s.fromStore = true then s
  else ([0, 1].filter s.hasNeighbour).foldl (fun s side =>
    keepRecord ⟨s.neighbour side, 3, s.stripeId, br, s.cols, sealRecord (s.seamHead side br ++ s.seamValues side br), 0⟩ s) s

/-- DRAM address of the seam area, and its header (R279). -/
def State.seamBase (s : State) : Nat := s.partBase + s.fd F.PLAN_SEAM_BASE_BASE_MB * 2 ^ 20
def State.seamHeader (s : State) (complete : Nat) : List Byte :=
  let b := leBytes 4 0x4D535745 ++ leBytes 4 s.stripeId ++ leBytes 4 s.lines ++ leBytes 2 s.node ++ leBytes 2 s.cols ++
    leBytes 4 complete ++ List.replicate 40 0
  b ++ leBytes 4 (crc crcC32C b)

/-- NR. -/
def State.blockRows (s : State) : Nat := (s.lines + 31) / 32

/-- Every row due from the existing neighbours is held. -/
def State.seamComplete (s : State) : Bool :=
  s.cols == 0 || [0, 1].all (fun d => !(s.seamFrom d) ||
    decide ((s.plan.seamHave.filter (fun e => e.1 == d)).length ≥ s.blockRows))

/-! ## The capacity check runs (R272) -/

/-- Dose of line n, band column x: coded doses in the band, seam values beside it. -/
def State.codedDose (s : State) (n : Nat) (x : Int) : Nat :=
  if 0 ≤ x ∧ x < s.geoW then Sparse.get 0 s.store.pixels (n * 4096 + x.toNat) else s.doseAt n x

/-- Verified block rows whose seam rows are held and whose check has not run, in ascending order. -/
def State.rowsToCheck (s : State) : List Nat :=
  (List.range s.store.verified).filter (fun br => !(s.plan.compRows.contains br) && (s.fromStore || s.seamRowsHeld br))

/-- Every such row is checked, whatever the outcome of other rows (R272). -/
def runCapacity (s : State) : State := s.rowsToCheck.foldl (fun s br => capacityCheck s.codedDose br s) s

/-! ## Waiting for seam records (R278) -/

/-- The neighbour on side d (0: i − 1, 1: i + 1) owes a record: its edge record, or a row that a verified row awaits. -/
def State.seamWaits (s : State) (d : Nat) : Bool :=
  s.plan.state.active && s.native && s.hasNeighbour d && (!((s.plan.edgeGot[d]?).getD true) ||
    (!s.fromStore && s.cols != 0 && (List.range s.store.verified).any (fun br => !(s.seamRowHeld (1 - d) br))))

/-- The waits for seam records start, with the time-out of now (R223), and end. -/
def State.reseam (s : State) : State :=
  { s with plan := { s.plan with seamWait := s.plan.seamWait.mapFinIdx (fun d w _ =>
      if s.seamWaits d then (match w with
        | some x => some x
        | none => some (s.now + s.edgingTimeout, false))
      else none) } }

/-- An awaited record from side d has come: the wait for what is still awaited is a new one (R278). -/
def State.seamRenew (s : State) (d : Nat) : State :=
  { s with plan := { s.plan with seamWait := s.plan.seamWait.setIfInBounds d none } }.reseam

/-- The seam record of a SIDE and row is one that is awaited: the edge record not yet come, or the row of a verified block row not
yet held. -/
def State.awaitsSeam (s : State) (side row : Nat) : Bool :=
  if row = 0xFFFFFFFF then !((s.plan.edgeGot[1 - side]?).getD true)
  else !s.fromStore && s.cols != 0 && decide (row < s.store.verified) && !(s.seamRowHeld side row)

/-- PLN_SEAM_LOST (R278): the neighbour on side d is late. The time must have passed, so a record of the instant at which it
runs out still stands (Table 5-5). -/
def doSeamLost (d : Nat) (s : State) : State :=
  let s1 := s.reseam
  match (s1.plan.seamWait[d]?).getD none with
  | some (t, false) =>
    if s.now > t then
      let s2 := { s1 with plan := { s1.plan with seamWait := s1.plan.seamWait.setIfInBounds d (some (t, true)) } }
      (s2.setFlag F.PLAN_SEAM_LOST_SIDE (2 ^ d)).raise .PLN_SEAM_LOST
    else s1
  | _ => s1

/-- COR_EDGING_LOST (R214): partner d is late, once per wait. The time must have passed, so a record of the instant at which it
runs out still stands (Table 5-5). -/
def doEdgingLost (d : Nat) (s : State) : State :=
  let s1 := s.rewait
  match Sparse.find? s1.corr.waitUntil d with
  | some t =>
    if bit s1.corr.waitRaised d = 0 ∧ s.now > t then
      let s2 := { s1 with corr := { s1.corr with waitRaised := s1.corr.waitRaised + 2 ^ d } }
      (lostBit d s2).raise .COR_EDGING_LOST
    else s1
  | none => s1
where
  lostBit (d : Nat) (s : State) : State :=
    if d < 32 then s.setFlag F.CORR_LOST_MASK_LO_MASK (2 ^ d)
    else s.setFlag F.CORR_LOST_MASK_HI_MASK (2 ^ (d - 32))

/-- Device d is lost for the stripe (R212). -/
def lostForStripe (d : Nat) (s : State) : State :=
  let s1 := doEdgingLost.lostBit d s
  { s1 with corr := { s1.corr with lost := s1.corr.lost ||| 2 ^ d } }

/-! ## Receiving records (R211, R212, R278) -/

/-- Device index of a node of this column. -/
def State.devOfNode (s : State) (node : Nat) : Option Nat :=
  if node / 64 = s.str.columnId ∧ node % 64 < s.geoN then some (node % 64) else none

/-- The record's stripe is the one in ARMED to RUN_OUT. -/
def State.ourStripe (s : State) (id : Nat) : Bool := s.plan.state.active && s.native && id == s.stripeId

/-- NOT_READY applies (R212): outside ARMED to RUN_OUT, to the stripe of PLAN_STRIPE_ID or of an open scope's header. -/
def State.notReadyFor (s : State) (id : Nat) : Bool :=
  !s.plan.state.active && (id == s.stripeId || [(0 : Fin 2), 1].any (fun i => (s.scope i).isOpen && (s.scope i).headerOk &&
    (s.header (s.scope i)).stripeId == id))

/-- CRC at the end of a record. -/
def recordCrcOk (l : List Byte) : Bool :=
  decide (4 ≤ l.length) && leAt l (l.length - 4) 4 == crc crcC32C (l.take (l.length - 4))

/-- R211 for a near or fog record from device d. -/
def State.edgingOk (s : State) (l : List Byte) (d : Nat) : Bool :=
  let typ := byteAt l 0; let count := leAt l 6 2; let row := leAt l 0xC 4
  let col0 := leAt l 0x10 2; let cells := leAt l 0x12 2
  let judge := s.ourStripe (leAt l 8 4)
  if typ = 1 then
    l.length == 0x18 + (2 * count * cells + 3) / 4 * 4 + 4 && s.nearPartner d && byteAt l 1 == 0 &&
    col0 == s.cellCol0 d && cells == s.cellCols && row % 8 == 0 &&
    (if judge then decide (row + 1 ≤ s.cellRows) && count == min 8 (s.cellRows - row)
      else decide (1 ≤ count ∧ count ≤ 8))
  else
    l.length == 0x18 + 4 * cells + 4 && d != s.str.devIndex && byteAt l 1 == (s.term 4).level &&
    col0 == (s.fogSpan d).1 && cells == (s.fogSpan d).2 && count == 1 &&
    (!judge || decide (row ≤ (s.cellRows - 1) / 2 ^ (s.term 4).level))

/-- A reply with a code to an edging record (Table 5-2) or a seam record (R278): the last field is this device's own CRC. -/
def State.replyBytes (s : State) (l : List Byte) (code : Nat) : List Byte :=
  let own := if byteAt l 0 = 3 then s.planCrc else s.paramCrc
  sealRecord (leBytes 1 (0x80 + byteAt l 0) ++ leBytes 1 code ++ leBytes 2 s.node ++ slice l 2 2 ++ slice l 6 14 ++ leBytes 4 own)

/-- The reply goes to the record's sender. -/
def sendReply (l : List Byte) (d code : Nat) (s : State) : State := sendRecord d (s.replyBytes l code) s

/-- The values of a record in arrival order. -/
def recordValues (l : List Byte) (size n : Nat) : List Nat := (List.range n).map (fun k => leAt l (0x18 + size * k) size)

/-- An edging record's values are stored or compared (R212). -/
def storeEdging (l : List Byte) (d : Nat) (s : State) : State :=
  let count := leAt l 6 2; let row := leAt l 0xC 4; let col0 := leAt l 0x10 2; let cells := leAt l 0x12 2
  if byteAt l 0 = 1 then
    let vals := (recordValues l 2 (count * cells)).zipIdx.map (fun v => (nearKey (row + v.2 / cells) (col0 + v.2 % cells), v.1))
    if s.nearHeld d row then
      if vals.all (fun e => Sparse.get 0 s.corr.near e.1 == e.2) then s
      else lostForStripe d (s.raise .COR_EDGING_CONFLICT)
    else
      let m := vals.foldl (fun t e => Sparse.set 0 t e.1 e.2) s.corr.near
      { s with corr := { s.corr with near := m, nearHave := s.corr.nearHave ++ [(d, row)] } }
  else
    let vals := (recordValues l 4 cells).zipIdx.map (fun v => (fogKey row d (col0 + v.2), v.1))
    if s.corr.fogHave.any (fun e => e.1 == d && e.2 == row) then
      if vals.all (fun e => Sparse.get 0 s.corr.fog e.1 == e.2) then s
      else lostForStripe d (s.raise .COR_EDGING_CONFLICT)
    else
      let m := vals.foldl (fun t e => Sparse.set 0 t e.1 e.2) s.corr.fog
      { s with corr := { s.corr with fog := m, fogHave := s.corr.fogHave ++ [(d, row)] } }

/-- The record of TYPE `typ` and row `row` of device d is one that correction waits on (R214): it is not held, and the row that
is to become final next needs it. -/
def State.awaits (s : State) (d typ row : Nat) : Bool :=
  s.waitsOn.contains d && (match s.needRow s.corr.rowsFinal with
    | none => false
    | some r =>
      if typ = 1 then s.nearPartner d && decide (row ≤ r) && !(s.nearHeld d row)
      else !(s.nearPartner d) && !(s.corr.fogHave.any (fun e => e.1 == d && e.2 == row)) &&
        decide (min (row * 2 ^ (s.term 4).level + 2 ^ (s.term 4).level - 1) (s.cellRows - 1) ≤ r))

/-- The wait on device d ends with a record that was awaited; what is still missing is a new wait. -/
def State.renewWait (s : State) (d : Nat) : State :=
  { s with corr := { s.corr with
      waitUntil := Sparse.erase s.corr.waitUntil d
      waitRaised := s.corr.waitRaised - bit s.corr.waitRaised d * 2 ^ d } }.rewait

/-- A bad edging record (R211). -/
def edgingBad (s : State) : State := (s.bump F.CORR_EDGING_BAD_COUNT_COUNT).raise .COR_EDGING_BAD

/-- An edging record of TYPE 1 or 2 arrives (R211, R212). -/
def edgingRecord (l : List Byte) (s : State) : State :=
  match s.devOfNode (leAt l 2 2) with
  | none => edgingBad s
  | some d =>
    if !(recordCrcOk l && decide (l.length ≥ 0x1C) && leAt l 4 2 == s.node && s.edgingOk l d) then edgingBad s
    else
      let id := leAt l 8 4
      if leAt l 0x14 4 ≠ s.paramCrc then sendReply l d 2 (lostForStripe d (s.raise .COR_PARAM_MISMATCH))
      else if s.ourStripe id then
        if bit s.corr.lost d = 1 then sendReply l d 0 s
        else
          let s1 := storeEdging l d s
          sendReply l d 0 (if s.awaits d (byteAt l 0) (leAt l 0xC 4) then s1.renewWait d else s1.rewait)
      else if s.notReadyFor id then sendReply l d 1 s
      else s.bump F.CORR_EDGING_UNKNOWN_COUNT_COUNT

/-- A bad seam record (R278). -/
def seamBad (s : State) : State := (s.bump F.PLAN_SEAM_BAD_COUNT_COUNT).raise .PLN_SEAM_BAD

/-- R278's check of a seam record from device d. -/
def State.seamOk (s : State) (l : List Byte) (d : Nat) : Bool :=
  let side := byteAt l 1; let cols := leAt l 6 2; let row := leAt l 0xC 4
  let n := if row = 0xFFFFFFFF then 0 else 64 * cols
  decide (side ≤ 1) && s.seamFrom side && d == s.neighbour (1 - side) && cols == s.cols && l.length == 0x18 + n + 4 &&
  (row == 0xFFFFFFFF || !(s.ourStripe (leAt l 8 4)) || decide (row < s.blockRows))

/-- Values of a seam row are stored in the seam area; the header is completed by the last row due (R279). -/
def storeSeam (l : List Byte) (s : State) : State :=
  let side := byteAt l 1; let row := leAt l 0xC 4
  if row = 0xFFFFFFFF ∨ s.seamRowHeld side row then s
  else
    let s1 := dramWrite (s.seamAddr side (32 * row) 0) (slice l 0x18 (64 * s.cols)) s
    let s2 := { s1 with plan := { s1.plan with seamHave := s1.plan.seamHave ++ [(side, row)] } }
    if s2.seamComplete then dramWrite s2.seamBase (s2.seamHeader 1) s2 else s2

/-- EDGE_CRC and PLAN_CRC of an accepted record are compared (R277); an edge record sets its side's match (R273). -/
def compareSeam (l : List Byte) (s : State) : State :=
  let side := byteAt l 1
  let ok := leAt l 0x14 4 == s.planCrc && leAt l 0x10 4 == s.seamTableCrc (1 - side)
  let s1 := s.raiseIf (!ok) .PLN_SEAM_MISMATCH
  if leAt l 0xC 4 = 0xFFFFFFFF then
    { s1 with plan := { s1.plan with
        edgeOk := s1.plan.edgeOk.setIfInBounds (1 - side) ok, edgeGot := s1.plan.edgeGot.setIfInBounds (1 - side) true } }
  else s1

/-- A seam record arrives (R278). -/
def seamRecord (l : List Byte) (s : State) : State :=
  match s.devOfNode (leAt l 2 2) with
  | none => seamBad s
  | some d =>
    if !(recordCrcOk l && decide (l.length ≥ 0x1C) && byteAt l 0 == 3 && leAt l 4 2 == s.node && s.seamOk l d) then seamBad s
    else
      let id := leAt l 8 4
      if s.ourStripe id then
        let awaited := s.awaitsSeam (byteAt l 1) (leAt l 0xC 4)
        let s1 := runCapacity (storeSeam l (compareSeam l s))
        sendReply l d 0 (if awaited then s1.seamRenew (1 - byteAt l 1) else s1.reseam)
      else if s.notReadyFor id then sendReply l d 1 s
      else s.bump F.CORR_EDGING_UNKNOWN_COUNT_COUNT

/-! ## Replies (R645) -/

/-- A reply arrives (R210, R212, R645). -/
def edgingReply (l : List Byte) (s : State) : State :=
  let typ := byteAt l 0 - 0x80
  let bad := if typ = 3 then seamBad s else edgingBad s
  match s.devOfNode (leAt l 2 2) with
  | none => bad
  | some d =>
    if !(l.length == 28 && recordCrcOk l && leAt l 4 2 == s.node && d != s.str.devIndex) then bad
    else
      let hit (r : KeptRecord) : Bool := r.typ == typ && r.dst == d && r.stripe == leAt l 8 4 && r.row == leAt l 0xC 4 &&
        r.count == leAt l 6 2
      let code := byteAt l 1
      if (code == 0 || (code == 2 && typ != 3)) && s.corr.kept.any hit then
        let s1 := { s with corr := { s.corr with kept := s.corr.kept.filter (fun r => !(hit r)) } }
        s1.raiseIf (code == 2) .COR_PARAM_MISMATCH
      else s

/-- Kept records whose retry period has passed are sent again (R210). -/
def edgingRetry (s : State) : State :=
  let due (r : KeptRecord) : Bool := decide (s.now ≥ r.dueAt)
  let s1 := (s.corr.kept.filter due).foldl (fun s r => sendRecord r.dst r.bytes s) s
  { s1 with corr := { s1.corr with kept := s1.corr.kept.map (fun r => if due r then { r with dueAt := s.now + s.retryPeriod } else r) } }

/-- A record of any TYPE that an EDGE datagram carries (R407). -/
def anyRecord (l : List Byte) (s : State) : State :=
  let t := byteAt l 0
  if t = 3 then seamRecord l s
  else if t = 1 ∨ t = 2 then edgingRecord l s
  else if t = 0x81 ∨ t = 0x82 ∨ t = 0x83 then edgingReply l s
  else edgingBad s

/-! ## Meanings -/

/-- Records are taken on a device with neighbours to talk to: READY, native, not in DORMANT. -/
def State.edgeOpen (s : State) (f : State → State) : State :=
  s.whenReady (fun s => if s.native && s.power.state != .dormant then f s else s)

/-- The same for an operation of an engine on DRAM, which waits for the end of a fill (R444). -/
def State.edgeDram (s : State) (f : State → State) : State := s.edgeOpen (fun s => if s.hbm.filling then s else f s)

/-- EDGING_RECORD (R211, R212). -/
def execEdgingRecord (l : List Byte) (s : State) : Host.Outcome State Fault Refusal :=
  .next (s.edgeOpen (fun s => if byteAt l 0 = 1 ∨ byteAt l 0 = 2 then edgingRecord l s else edgingBad s))

/-- EDGING_REPLY (R645). -/
def execEdgingReply (l : List Byte) (s : State) : Host.Outcome State Fault Refusal :=
  .next (s.edgeOpen (fun s => if byteAt l 0 = 0x81 ∨ byteAt l 0 = 0x82 ∨ byteAt l 0 = 0x83 then edgingReply l s else edgingBad s))

/-- EDGING_RETRY (R210). -/
def execEdgingRetry (s : State) : Host.Outcome State Fault Refusal := .next (s.edgeOpen edgingRetry)

/-- COR_EDGING_LOST (R214): device d's time is up. -/
def execCorEdgingLost (d : Fin 64) (s : State) : Host.Outcome State Fault Refusal := .next (s.edgeOpen (doEdgingLost d.val))

/-- SEAM_RECORD (R278). -/
def execSeamRecord (l : List Byte) (s : State) : Host.Outcome State Fault Refusal := .next (s.edgeOpen (seamRecord l))

/-- PLN_SEAM_LOST (R278): side 0 is device i − 1, side 1 device i + 1. -/
def execPlnSeamLost (d : Fin 2) (s : State) : Host.Outcome State Fault Refusal := .next (s.edgeOpen (doSeamLost d.val))

end Sys2Proof.Machine
end

