-- ==== Sys2Proof/Machine/Check.lean ====
section
/-! DEFINITION. Check units (Chapter 16) and the protected ranges their writes share with DMA (R140, R234). -/

namespace Sys2Proof.Machine

/-! ## Protected ranges (Table 13-6) -/

/-- The store region of an armed stripe meets a span (R234): from ARM until the stripe returns to IDLE. -/
def State.storeProtects (s : State) (a n : Nat) : Bool :=
  s.plan.state != .idle && s.native &&
  spanOverlap (s.partBase + s.fd F.STORE_BASE_BASE_MB * 2 ^ 20) (s.fd F.STORE_SIZE_SIZE_MB * 2 ^ 20) a n

/-- Some VALID library meets a span (R140). -/
def State.libraryProtects (s : State) (a n : Nat) : Bool :=
  s.lace.libs.toList.any (fun l => l.valid && spanOverlap l.base l.size a n)

/-! ## Parameters -/

/-- CHECK_SEL; larger values act as 9. -/
def State.checkSel (s : State) : Nat := min 9 (s.fd F.CHECK_SEL_UNIT)

/-- The CRC parameters of unit u before folding (Tables 16-1, 16-5). -/
def State.checkParams (s : State) (u : Nat) : CrcParams :=
  match s.fd F.CHECK_CFG_PRESET u with
  | 1 => crcC32C
  | 2 => crcC32
  | 3 => crcC16
  | 4 => crcC8A
  | 5 => crcC8B
  | _ =>
    let w := s.fd F.CHECK_CFG_WIDTH u
    { width := w, poly := s.fd F.CHECK_POLY_POLY u % 2 ^ w, init := s.fd F.CHECK_INIT_INIT u % 2 ^ w,
      refin := s.fb F.CHECK_CFG_REFIN u, refout := s.fb F.CHECK_CFG_REFOUT u, xorout := s.fd F.CHECK_XOROUT_XOROUT u % 2 ^ w }

/-- CHECK_BASE and CHECK_SIZE of unit u. -/
def State.checkBase (s : State) (u : Nat) : Nat := s.pair F.CHECK_BASE_LO_ADDR F.CHECK_BASE_HI_ADDR u
def State.checkSize (s : State) (u : Nat) : Nat := s.pair F.CHECK_SIZE_LO_SIZE F.CHECK_SIZE_HI_SIZE u

/-- The parameters with the folded initial value (R519). -/
def State.checkFolded (s : State) (u : Nat) : CrcParams :=
  let p := s.checkParams u
  let f := match s.fd F.CHECK_CFG_FOLD u with
    | 1 => s.fd F.CHECK_SEQ_SEQ u
    | 2 => s.checkBase u / 16
    | _ => 0
  { p with init := Nat.xor p.init f % 2 ^ p.width }

/-- k = ⌈w / 8⌉ check bytes. -/
def CrcParams.bytes (p : CrcParams) : Nat := (p.width + 7) / 8

/-! ## Commands -/

/-- A command is refused (R521). -/
def State.checkInvalid (s : State) (u cmd : Nat) : Bool :=
  let preset := s.fd F.CHECK_CFG_PRESET u
  let w := s.fd F.CHECK_CFG_WIDTH u
  let size := s.checkSize u
  let k := (s.checkParams u).bytes
  ((preset == 0 || decide (preset > 5)) && (decide (w < 8) || decide (w > 32))) || size == 0 ||
  (cmd == 3 && decide (size < k + 1)) ||
  decide (s.checkBase u + size + (if cmd = 2 then k else 0) > dramEnd) ||
  (decide (u ≥ 8) && cmd != 4)

/-- The unit's command, or its owner's claim. -/
def State.checkBusy (s : State) (u : Nat) : Bool :=
  ((s.check.run[u]?).getD none).isSome || (s.check.claimed[u]?).getD false

/-- Unit u runs cmd, or none. -/
def State.setRun (s : State) (u : Nat) (cmd : Option Nat) : State :=
  { s with check := { s.check with run := s.check.run.setIfInBounds u cmd } }

/-- CHECK_CMD with a command other than ABORT on the selected unit (R520, R521). -/
def doCheck (cmd : Nat) (s : State) : State :=
  let u := s.checkSel
  if s.checkBusy u then s.raise .CHK_BUSY
  else if s.checkInvalid u cmd then s.raise .CHK_CONFIG_INVALID
  else (s.setRun u (some cmd)).mark (.checkStarted u)

/-- A command ends with an outcome (Table 16-5). -/
def checkOutcome (u o : Nat) (s : State) : State := (s.setFd F.CHECK_STATUS_OUTCOME o u).setRun u none

/-- The host command that unit u runs, if any, ends ABORTED. -/
def checkStop (u : Nat) (s : State) : State :=
  match (s.check.run[u]?).getD none with
  | some cmd => (checkOutcome u 4 s).mark (.checkStopped u cmd)
  | none => s

/-- CHECK_CMD ABORT (R524). -/
def doCheckAbort (s : State) : State := checkStop s.checkSel s

/-- An owner claims unit u (R523): a host command running there ends ABORTED; one written in this very cycle comes after the claim and is
ignored (Table 16-4). -/
def checkClaim (u : Nat) (s : State) : State :=
  let s := if s.saw (.checkStarted u) then (s.setRun u none).raise .CHK_BUSY else checkStop u s
  { s with check := { s.check with claimed := s.check.claimed.setIfInBounds u true } }

/-- The claim ends. -/
def checkUnclaim (u : Nat) (s : State) : State :=
  { s with check := { s.check with claimed := s.check.claimed.setIfInBounds u false } }

/-- What the host wrote to CHECK_SEQ of unit u in this cycle. -/
def State.seqWritten (s : State) (u : Nat) : Option Word :=
  (s.cyc.filterMap (fun e => match e with
    | .hostWrote .CHECK_SEQ i v _ => if i = u then some v else none
    | _ => none)).head?

/-- CHECK_SEQ advances at the end of a command that ends OK or MISMATCH with AUTO_INC = 1 (R519); a write of that cycle takes effect in
its place (Table 16-4). -/
def checkSeqNext (u : Nat) (s : State) : State :=
  match s.seqWritten u with
  | some v => s.setRg .CHECK_SEQ v u
  | none => if s.fb F.CHECK_CFG_AUTO_INC u then s.bumpWrap F.CHECK_SEQ_SEQ 1 u else s

/-- A comparison ends (R522). -/
def checkVerdict (u : Nat) (ok : Bool) (s : State) : State :=
  if ok then checkSeqNext u (checkOutcome u 1 s)
  else
    let s := checkSeqNext u ((checkOutcome u 2 s).bump F.CHECK_STATUS_MISMATCHES 1 u)
    s.raise (if u < 8 then .CHK_MISMATCH else .CHK_PRIV_MISMATCH)

/-- The command of unit u that ends now: the one that runs, or one that ABORT or a claim has stopped in this cycle (Table 16-4). -/
def State.checkEnding (s : State) (u : Nat) : Option Nat :=
  match (s.check.run[u]?).getD none with
  | some cmd => some cmd
  | none => (s.cyc.filterMap (fun e => match e with
      | .checkStopped v cmd => if v = u then some cmd else none
      | _ => none)).head?

/-- A command of unit u ends (R520, R522). -/
def doCheckDone (u : Nat) (s : State) : State :=
  match s.checkEnding u with
  | none => s
  | some cmd =>
    let s := { s with cyc := s.cyc.erase (.checkStopped u cmd) }
    let base := s.checkBase u
    let size := s.checkSize u
    let p := s.checkFolded u
    let k := p.bytes
    let len := if cmd = 3 then size - k else size
    let lost := s.dramBad base size
    let s := engineRead (0x48 + u) base size s
    if lost then
      let s := ((checkOutcome u 3 s).setRg .CHECK_RESULT 0 u).bump F.CHECK_STATUS_MISMATCHES 1 u
      if cmd = 3 ∨ cmd = 4 then s.raise (if u < 8 then .CHK_MISMATCH else .CHK_PRIV_MISMATCH) else s
    else
      let v := crc p (s.dramBytes base len)
      let s := s.setRg .CHECK_RESULT (BitVec.ofNat 32 v) u
      if cmd = 1 then checkSeqNext u (checkOutcome u 1 s)
      else if cmd = 2 then
        if s.libraryProtects (base + size) k then (checkOutcome u 5 s).raise .LAC_LIB_PROTECT
        else if s.storeProtects (base + size) k then (checkOutcome u 5 s).raise .STO_PROTECT
        else noteWrite (base + size) k (.appended u (s.rg .CHECK_SEQ u)) s
          (checkSeqNext u (checkOutcome u 1 (dramWrite (base + size) (leBytes k v) s)))
      else if cmd = 3 then
        let ok := s.dramLe (base + len) k == v
        let s := if ok then (s.setFd F.CHECK_LEN_LO_LEN len u).setFd F.CHECK_LEN_HI_LEN (len / 2 ^ 32) u else s
        checkVerdict u ok s
      else checkVerdict u (s.fd F.CHECK_EXPECT_VALUE u % 2 ^ p.width == v) s

/-! ## Meanings -/

/-- COMPUTE (R520). -/
def execCompute (s : State) : Host.Outcome State Fault Refusal := .next (s.hostCmd .CHECK_CMD 1 (doCheck 1))

/-- APPEND (R520). -/
def execAppend (s : State) : Host.Outcome State Fault Refusal := .next (s.hostCmd .CHECK_CMD 2 (doCheck 2))

/-- STRIP (R520). -/
def execStrip (s : State) : Host.Outcome State Fault Refusal := .next (s.hostCmd .CHECK_CMD 3 (doCheck 3))

/-- CHECK_COMPARE (R520). -/
def execCheckCompare (s : State) : Host.Outcome State Fault Refusal := .next (s.hostCmd .CHECK_CMD 4 (doCheck 4))

/-- CHECK_ABORT (R524). -/
def execCheckAbort (s : State) : Host.Outcome State Fault Refusal := .next (s.hostCmd .CHECK_CMD 7 doCheckAbort)

/-- CHECK_DONE (R522): the command of unit u ends. -/
def execCheckDone (u : Fin 10) (s : State) : Host.Outcome State Fault Refusal := .next (s.whenDram (doCheckDone u.val))

end Sys2Proof.Machine
end

