-- ==== Sys2Proof/Machine/Rings.lean ====
section
/-! DEFINITION. Rings, descriptors and DMA operations (R459 to R474, R478). -/

namespace Sys2Proof.Machine

/-! ## Rings -/

/-- Ring n. -/
def State.ring (s : State) (n : Nat) : Ring := (s.dma.rings[n]?).getD Ring.fresh

/-- Replace ring n. -/
def State.setRing (s : State) (n : Nat) (x : Ring) : State :=
  { s with dma := { s.dma with rings := s.dma.rings.setIfInBounds n x } }

/-- Group of a ring is granted; group 0 always (R457). -/
def State.groupGranted (s : State) (g : Nat) : Bool := g == 0 || s.fb F.RING_GRANT_ENABLE g

/-- LOG2_SIZE of ring n; other values act as the nearer limit. -/
def State.ringLog (s : State) (n : Nat) : Nat := clampN 4 12 (s.fd F.RING_CFG_LOG2_SIZE n)

/-- Operations of ring n that have not completed. -/
def State.inFlight (s : State) (n : Nat) : List DmaOp := s.dma.ops.filter (fun o => o.ring == n && !o.completed)

/-- Ring vector. -/
def ringIrq (n : Nat) (s : State) : State := s.irq n

/-- A ring that no longer fetches comes to rest once DONE equals HEAD (R460, R462, R464). -/
def ringSettle (n : Nat) (s : State) : State :=
  let r := s.ring n
  if r.done = r.head then
    if r.disableReq then s.setRing n { r with st := .disabled, disableReq := false, waitSlot := false }
    else if r.st == .stopping then ringIrq n (s.setRing n { r with st := .stopped, waitSlot := false })
    else s
  else s

/-- A ring stops fetching for a fault (R462, R464). -/
def ringStop (n code : Nat) (s : State) : State :=
  let r := s.ring n
  if r.st == .running then s.setRing n { r with st := .stopping, stopCode := code, waitSlot := false } else s

/-- RING_CMD ENABLE (R460). -/
def doRingEnable (n : Nat) (s : State) : State :=
  let r := s.ring n
  match r.st with
  | .disabled | .stopped => s.setRing n { r with st := .running, stopCode := 0, disableReq := false }
  | _ => s

/-- RING_CMD DISABLE (R460). -/
def doRingDisable (n : Nat) (s : State) : State :=
  let r := s.ring n
  match r.st with
  | .disabled => s
  | _ => ringSettle n (s.setRing n { r with st := .stopping, disableReq := true, waitSlot := false })

/-- RING_CMD RESET (R460). -/
def doRingReset (n : Nat) (s : State) : State :=
  let r := s.ring n
  if r.st == .disabled then s.setRing n { r with tail := 0, head := 0, done := 0 } else s.raise .HST_RING_BUSY

/-- A write of v to RING_TAIL (R459, R462). -/
def doRingTail (n v : Nat) (s : State) : State :=
  let r := { s.ring n with tail := v % 65536 }
  let s := s.setRing n r
  if r.st == .running && decide ((r.tail + 65536 - r.done) % 65536 > 2 ^ s.ringLog n) then
    ringSettle n (ringStop n FaultCode.HST_RING_OVERRUN.num (s.raise .HST_RING_OVERRUN))
  else s

/-! ## Operations -/

/-- Fields of a descriptor or chain element (Table 13-4). -/
def opcodeOf (d : List Byte) : Nat := byteAt d 0
def flagOf (d : List Byte) (i : Nat) : Bool := bit (byteAt d 1) i == 1
def srcOf (d : List Byte) : Nat := leAt d 8 8
def dstOf (d : List Byte) : Nat := leAt d 0x10 8
def lenOf (d : List Byte) : Nat := leAt d 0x18 4
def nextOf (d : List Byte) : Nat := leAt d 0x20 8
def paramOf (d : List Byte) : Nat := leAt d 0x28 8
def param2Of (d : List Byte) : Nat := leAt d 0x30 8

/-- Lengths and alignments of Table 13-5. -/
def State.shapeOk (s : State) (d : List Byte) : Bool :=
  match opcodeOf d with
  | 0x01 => decide (lenOf d ≥ 1)
  | 0x02 => dstOf d % 8 == 0 && lenOf d % 8 == 0
  | 0x03 => srcOf d % 8 == 0 && (flagOf d 5 || dstOf d % 8 == 0) && lenOf d % 8 == 0
  | 0x04 => true
  | 0x05 => dstOf d % 8 == 0
  | 0x10 => lenOf d % 8 == 0
  | 0x11 => decide (60 ≤ lenOf d ∧ lenOf d ≤ s.mtu - 4)
  | 0x12 => decide (lenOf d ≥ 64)
  | _ => false

/-- A descriptor of a ring's group, judged (R466); `op` is the head's OPCODE and `isHead` whether this is the head. -/
def State.elemOk (s : State) (g op : Nat) (isHead : Bool) (d : List Byte) : Bool :=
  decide (d.length = 64) && opcodeOf d == op && s.shapeOk d &&
  byteAt d 1 < 64 && byteAt d 3 == 0 && leAt d 0x1C 4 == 0 && leAt d 0x38 8 == 0 && nextOf d % 64 == 0 &&
  (!isHead || !flagOf d 1 || (decide (32 * g ≤ byteAt d 2) && decide (byteAt d 2 < 32 * g + 32))) &&
  (opcodeOf d != 1 || flagOf d 2 != flagOf d 3 || !spanOverlap (srcOf d) (lenOf d) (dstOf d) (lenOf d))

/-- Bit of the opcode mask (Table 13-13). -/
def opBit (op : Nat) : Option Nat :=
  match op with
  | 0x01 => some 0 | 0x02 => some 1 | 0x03 => some 2 | 0x04 => some 3 | 0x05 => some 4
  | 0x10 => some 5 | 0x11 => some 6 | 0x12 => some 7 | _ => none

/-- The group may use the opcode (R457, R466). -/
def State.opAllowed (s : State) (g op : Nat) : Bool :=
  g == 0 || (s.groupGranted g && (match opBit op with
    | some b => bit (s.fd F.RING_GRANT_OPMASK g) b == 1
    | none => false))

/-- DRAM bytes a to a + n − 1 lie in the group's window and below the end of DRAM (R457, R467). -/
def State.inWindow (s : State) (g a n : Nat) : Bool :=
  decide (a + n ≤ dramEnd) && (g == 0 ||
    (let lo := s.fd F.RING_GRANT_BASE_BASE_GB g * 2 ^ 30
     let sz := s.fd F.RING_GRANT_SIZE_SIZE_GB g * 2 ^ 30
     decide (lo ≤ a ∧ a + n ≤ lo + sz)))

/-- A chain behind a descriptor: its elements, the RESULT and FAULT of what breaks it off, and the DRAM addresses read. -/
structure Chain where
  elems : List (List Byte)
  brk : Option (Nat × FaultCode)
  reads : List Nat

/-- The chain with an element in front. -/
def Chain.cons (e : List Byte) (reads : List Nat) (c : Chain) : Chain := ⟨e :: c.elems, c.brk, reads ++ c.reads⟩

/-- The chain behind a descriptor of group g: DRAM elements are read, host elements come from `host` in order (R465, R466, R472).
Element 65,537 is invalid, a host element that could not be read is a host error and a DRAM element outside the window is out of
range (R457); that a poisoned one is invalid is the model's choice (assumption log 54). -/
def State.chain (s : State) (g fuel : Nat) (d : List Byte) (host : List (List Byte)) : Chain :=
  if nextOf d = 0 then ⟨[], none, []⟩
  else match fuel with
    | 0 => ⟨[], some (2, .HST_DESC_INVALID), []⟩
    | f + 1 =>
      if flagOf d 4 then
        if !(s.inWindow g (nextOf d) 64) then ⟨[], some (4, .HST_RANGE), []⟩
        else if s.dramBad (nextOf d) 64 then ⟨[], some (2, .HST_DESC_INVALID), [nextOf d]⟩
        else (s.chain g f (s.dramBytes (nextOf d) 64) host).cons (s.dramBytes (nextOf d) 64) [nextOf d]
      else match host with
        | e :: t => if e.length = 64 then (s.chain g f e t).cons e [] else ⟨[], some (6, .HST_HOST_ERROR), []⟩
        | [] => ⟨[], some (6, .HST_HOST_ERROR), []⟩

/-- Operations whose opcode uses NEXT. -/
def usesChain (op : Nat) : Bool := op == 1 || op == 2 || op == 3 || op == 0x10

/-- An operation's result is set once. -/
def DmaOp.finish (o : DmaOp) (res fault : Nat) : DmaOp :=
  match o.result with
  | some _ => o
  | none => { o with result := some (res, fault) }

/-- The operation runs to its end: POISON, MISMATCH or OK (R471, Table 13-7). -/
def DmaOp.finishOk (o : DmaOp) : DmaOp :=
  o.finish (if o.poison then 7 else if o.mism > 0 then 8 else 0) 0

/-- Residue in bytes (R474). -/
def DmaOp.residue (o : DmaOp) : Nat :=
  if opcodeOf o.head = 4 ∨ opcodeOf o.head = 5 then 0
  else sumN (o.elems.map lenOf) - o.off

/-- Replace the operation of ring n and count c. -/
def State.setOp (s : State) (o : DmaOp) : State :=
  { s with dma := { s.dma with ops := s.dma.ops.map (fun p => if p.ring = o.ring ∧ p.count = o.count then o else p) } }

/-- The fault of a result is raised as it is set. -/
def endOp (o : DmaOp) (res : Nat) (c : FaultCode) (s : State) : State := (s.setOp (o.finish res c.num)).raise c

/-- R461: no earlier FENCE of the ring is incomplete. -/
def State.fenceOpen (s : State) (n : Nat) : Bool := (s.inFlight n).any (fun o => opcodeOf o.head == 4)

/-- The ring may fetch its next descriptor (R461), slots apart. -/
def State.mayFetch (s : State) (n : Nat) : Bool :=
  let r := s.ring n
  r.st == .running && r.head != r.tail && decide ((s.inFlight n).length < 32) &&
  decide ((s.dma.ops.filter (fun o => !o.completed)).length < 2048) && !s.fenceOpen n && s.groupGranted (n / 8)

/-- DESC_FETCH (R461, R465, R466); it claims its slot before a block producer of its cycle does (Table 13-11). `host` holds the descriptor when the ring lies in host memory, and then the chain elements
that lie there; an empty entry is a read that failed. -/
def doDescFetch (n : Nat) (host : List (List Byte)) (s : State) : State :=
  if !s.mayFetch n || (s.fb F.RING_CFG_LOC n && (s.hbm.filling || s.throttled 0x40)) then s
  else
    let r := s.ring n
    let g := n / 8
    let inDram := s.fb F.RING_CFG_LOC n
    let at_ := s.pair F.RING_BASE_LO_ADDR F.RING_BASE_HI_ADDR n + 64 * (r.head % 2 ^ s.ringLog n)
    let okAt := s.inWindow g at_ 64 && !s.dramBad at_ 64
    let d := if inDram then (if okAt then s.dramBytes at_ 64 else []) else host.headD []
    let rest := if inDram then host else host.drop 1
    let names := decide (d.length = 64) && flagOf d 1 && decide (32 * g ≤ byteAt d 2 ∧ byteAt d 2 < 32 * g + 32)
    let s := if names then (s.producers (fun _ k => k == byteAt d 2)).foldl (unproduce .HST_SLOT_BUSY) s else s
    if names && (s.slot (byteAt d 2)).st != .free then s.setRing n { r with waitSlot := true }
    else
      let s := if inDram then engineRead 0x40 at_ 64 (admitted 0x40 s) else s
      let slot := if names then some (byteAt d 2) else none
      let s := (s.setRing n { r with head := (r.head + 1) % 65536, waitSlot := false }).mark
        (.fetched n r (slot.map (fun k => (k, s.slot k))))
      let s := match slot with
        | some k => slotClaim k 0 (leAt d 4 4) s
        | none => s
      let c : Chain := if usesChain (opcodeOf d) && decide (d.length = 64) then s.chain g 65536 d rest else ⟨[], none, []⟩
      let s := c.reads.foldl (fun s a => engineRead 0x40 a 64 s) s
      let o : DmaOp := { ring := n, count := r.head, head := d, elems := d :: c.elems, brk := c.brk, started := false, chan := 0,
                         off := 0, nDone := 0, mism := 0, firstMism := none, poison := false, stamp := (0, 0, 0), frame := 0,
                         event := false, slot := slot, result := none, completed := false }
      let s := { s with dma := { s.dma with ops := s.dma.ops ++ [o] } }
      if d.length ≠ 64 ∧ !inDram then endOp o 6 .HST_HOST_ERROR s
      else if d.length ≠ 64 ∧ !(s.inWindow g at_ 64) then endOp o 4 .HST_RANGE s
      else if !(s.elemOk g (opcodeOf d) true d) then endOp o 2 .HST_DESC_INVALID s
      else if !(s.opAllowed g (opcodeOf d)) then endOp o 3 .HST_NOT_PERMITTED s
      else s

/-- The oldest operation of ring n that has neither started nor ended. -/
def State.waiting (s : State) (n : Nat) : Option DmaOp :=
  s.dma.ops.find? (fun o => o.ring == n && !o.started && o.result.isNone)

/-- Operations that move data: one per channel, at most 16 (R463). -/
def State.moving (s : State) : List DmaOp :=
  s.dma.ops.filter (fun o => o.started && o.result.isNone && opcodeOf o.head != 0x12 && opcodeOf o.head != 4)

/-- Rings whose oldest waiting operation takes a channel, in rotation from the ring that took one last (R463); a FENCE and a
PTP_RECV take none. -/
def State.channelRings (s : State) : List Nat :=
  ((List.range' 1 64).map (fun k => (s.dma.turn + k) % 64)).filter (fun n => match s.waiting n with
    | some o => opcodeOf o.head != 4 && opcodeOf o.head != 0x12
    | none => false)

/-- A free channel goes to ring n: there are as many as the rings before it in rotation and it take (R463). -/
def State.channelFor (s : State) (n : Nat) : Bool := (s.channelRings.take (16 - s.moving.length)).contains n

/-- The lowest free channel. Which of the free ones is taken, the spec does not say: the model's choice (assumption log 54). -/
def State.freeChannel (s : State) : Nat :=
  ((List.range 16).find? (fun c => s.moving.all (fun o => o.chan != c))).getD 0

/-- The operation does all its work as it starts, and in DRAM, so that it waits for the end of a fill (R444). -/
def startsInDram (d : List Byte) : Bool := (opcodeOf d == 5 && flagOf d 3 && dstOf d != 0) || (opcodeOf d == 0x11 && flagOf d 2)

/-- The next operation of ring n starts when it has the opcode and a channel comes to it (R463). -/
def startOp (n op : Nat) (s : State) (f : DmaOp → State → State) : State :=
  match s.waiting n with
  | some o =>
    if opcodeOf o.head ≠ op ∨ (startsInDram o.head && s.hbm.filling) = true then s
    else if op = 0x12 then f { o with started := true } (s.setOp { o with started := true })
    else if s.channelFor n then
      let p := { o with started := true, chan := s.freeChannel }
      f p (({ s with dma := { s.dma with turn := n } } : State).setOp p)
    else s
  | none => s

/-! ## Bursts -/

/-- What burst checks find for a DRAM span: RESULT and fault (Table 13-6). -/
def State.burstFail (s : State) (g a n : Nat) (write : Bool) : Option (Nat × FaultCode) :=
  if !(s.inWindow g a n) then some (4, .HST_RANGE)
  else if write && s.libraryProtects a n then some (5, .LAC_LIB_PROTECT)
  else if write && s.storeProtects a n then some (5, .STO_PROTECT)
  else none

/-- The current element. -/
def DmaOp.cur (o : DmaOp) : List Byte := o.elems.headD []

/-- Bytes of the next burst: up to 512, not across a 512-byte boundary of the destination, or of the source for COMPARE
(R467). -/
def DmaOp.burstLen (o : DmaOp) : Nat :=
  let d := o.cur
  let a := (if opcodeOf o.head = 3 ∨ opcodeOf o.head = 0x10 then srcOf d else dstOf d) + o.off
  min (512 - a % 512) (lenOf d - o.off)

/-- n bytes have been moved; a finished element gives way to the next. -/
def DmaOp.advance (o : DmaOp) (n : Nat) : DmaOp :=
  if o.off + n < lenOf o.cur then { o with off := o.off + n }
  else
    let rest := o.elems.drop 1
    let p := { o with off := 0, elems := rest, nDone := o.nDone + 1 }
    if rest = [] ∧ o.brk = none then p.finishOk else p

/-- Bytes are counted as moved (Table 13-14). -/
def countBytes (n : Nat) (s : State) : State := { s with dma := { s.dma with bytes := (s.dma.bytes + n) % 2 ^ 64 } }

/-- Bytes reach their destination: DRAM or host memory. `bad` lists the spans (offset and length) that are poisoned: in DRAM their
codewords are stored poisoned, and to the host the burst goes as a poisoned TLP (R442, R471). -/
def putBurst (dram : Bool) (a : Nat) (l : List Byte) (bad : List (Nat × Nat)) (s : State) : State :=
  if dram then bad.foldl (fun s b => dramPoison (a + b.1) b.2 s) (dramWrite a l s)
  else if bad ≠ [] then s.emit (.hostPoison a l.length)
  else s.emit (.hostWrite a l)

/-- How many stitches of a push fit (R469): a CHUNK_OPEN head passes only once its LENGTH stitches fit the free space. -/
def pushable (s : State) (i : Fin 2) : List Stitch → State
  | [] => s
  | w :: t =>
    let sc := s.scope i
    let len := if sc.intake.stitches = [] ∧ sc.intake.discard = 0 ∧ bits w.toNat 5 0 = 1 then bits w.toNat 23 6 else 0
    if 8 * len > sc.free then s else pushable (laceStitch i w s) i t

/-- Stitches that pass of a list. -/
def pushCount (s : State) (i : Fin 2) : List Stitch → Nat
  | [] => 0
  | w :: t =>
    let sc := s.scope i
    let len := if sc.intake.stitches = [] ∧ sc.intake.discard = 0 ∧ bits w.toNat 5 0 = 1 then bits w.toNat 23 6 else 0
    if 8 * len > sc.free then 0 else pushCount (laceStitch i w s) i t + 1

/-- Free bytes of a personality's 32 MiB buffer (R570): what the 1,024 entries of the FIFO do not hold stands there. -/
def Pers.bufFree (p : Pers) : Nat := 2 ^ 25 - 16 * (p.fifo.length - 1024) - (if p.half.isSome then 8 else 0)

/-- Two stitches make one FIFO entry of a personality (R570). -/
def tlStitch (j : Nat) (s : State) (w : Stitch) : State :=
  let p := s.pers j
  match p.half with
  | none => s.setPers j { p with half := some w }
  | some a => s.setPers j { p with half := none, fifo := p.fifo ++ [a.toNat + 2 ^ 64 * w.toNat] }

/-- A burst of a push reaches intake (R469): how many stitches pass. -/
def pushBurst (o : DmaOp) (ws : List Stitch) (s : State) : Option (Nat × State) :=
  if s.native then
    let i : Fin 2 := if bit (paramOf o.head) 2 = 1 then 1 else 0
    if (s.scope i).isOpen then some (pushCount s i ws, pushable s i ws) else none
  else
    let j := bits (paramOf o.head) 1 0
    if (s.pers j).src.isSome then
      let k := min ws.length ((s.pers j).bufFree / 8)
      some (k, (ws.take k).foldl (tlStitch j) s)
    else none

/-- The operation's opcode, and the addresses its next burst reads and writes. -/
def DmaOp.code (o : DmaOp) : Nat := opcodeOf o.head
def DmaOp.srcAt (o : DmaOp) : Nat := srcOf o.cur + o.off
def DmaOp.dstAt (o : DmaOp) : Nat := dstOf o.cur + o.off

/-- The operation reads at SRC; the data it compares with or fills with is PARAM. -/
def DmaOp.readsSrc (o : DmaOp) : Bool := o.code == 1 || o.code == 3 || o.code == 0x10
def DmaOp.isConst (o : DmaOp) : Bool := o.code == 3 && flagOf o.cur 5

/-- The burst reads host memory. -/
def DmaOp.readsHost (o : DmaOp) : Bool :=
  (o.readsSrc && !(flagOf o.cur 2)) || (o.code == 3 && !o.isConst && !(flagOf o.cur 3))

/-- The check of Table 13-6 that the burst fails. -/
def State.burstFault (s : State) (o : DmaOp) : Option (Nat × FaultCode) :=
  match (if o.readsSrc && flagOf o.cur 2 then s.burstFail (o.ring / 8) o.srcAt o.burstLen false else none) with
  | some f => some f
  | none =>
    if (o.code == 1 || o.code == 2) && flagOf o.cur 3 then s.burstFail (o.ring / 8) o.dstAt o.burstLen true
    else if o.code == 3 && !o.isConst && flagOf o.cur 3 then s.burstFail (o.ring / 8) o.dstAt o.burstLen false
    else none

/-- PARAM of the current element, repeated over a burst (an element's own PARAM: R465 does not list it among what is ignored). -/
def DmaOp.constBytes (o : DmaOp) : List Byte :=
  ((List.range (o.burstLen / 8)).map (fun _ => leBytes 8 (paramOf o.cur))).flatten

/-- What a burst reads at SRC; `src` is what host memory answers. -/
def State.burstBytes (s : State) (o : DmaOp) (src : List Byte) : List Byte :=
  if flagOf o.cur 2 then s.dramBytes o.srcAt o.burstLen else src.take o.burstLen

/-- The poisoned codewords among n DRAM bytes from a, as offsets and lengths from a. -/
def State.badSpans (s : State) (a n : Nat) : List (Nat × Nat) :=
  ((List.range ((a + n + 15) / 16 - a / 16)).filter (fun k => s.dramBad ((a / 16 + k) * 16) 16)).map (fun k =>
    let lo := max a ((a / 16 + k) * 16)
    (lo - a, min (a + n) ((a / 16 + k) * 16 + 16) - lo))

/-- The poisoned spans of n bytes at an address, in DRAM or in host memory, where a whole completion is poisoned (R471). -/
def State.spansRead (s : State) (dram : Bool) (a n : Nat) (reply : HostReply) : List (Nat × Nat) :=
  if dram then s.badSpans a n else if reply = .poisoned then [(0, n)] else []

/-- The poisoned spans of what a burst reads at SRC. -/
def State.burstBad (s : State) (o : DmaOp) (reply : HostReply) : List (Nat × Nat) :=
  if o.readsSrc then s.spansRead (flagOf o.cur 2) o.srcAt o.burstLen reply else []

/-- The operation after one burst of a COMPARE (R468, R471): a poisoned word counts as a mismatch. -/
def State.compared (s : State) (o : DmaOp) (src dst : List Byte) (reply : HostReply) : DmaOp :=
  let other := if o.isConst then o.constBytes else if flagOf o.cur 3 then s.dramBytes o.dstAt o.burstLen else dst.take o.burstLen
  let own := s.burstBytes o src
  let bad := s.burstBad o reply ++ (if o.isConst then [] else s.spansRead (flagOf o.cur 3) o.dstAt o.burstLen reply)
  let differ := (List.range (o.burstLen / 8)).filter (fun i =>
    bad.any (fun b => spanOverlap b.1 b.2 (8 * i) 8) || decide (slice own (8 * i) 8 ≠ slice other (8 * i) 8))
  { o with
    poison := o.poison || bad != []
    mism := o.mism + differ.length
    firstMism := match o.firstMism with
      | some x => some x
      | none => differ.head?.map (fun i => o.srcAt + 8 * i) }

/-- The DRAM spans that the burst reads. -/
def DmaOp.dramReads (o : DmaOp) : List Nat :=
  (if o.readsSrc && flagOf o.cur 2 then [o.srcAt] else []) ++ (if o.code == 3 && !o.isConst && flagOf o.cur 3 then [o.dstAt] else [])

/-- The DRAM spans that the burst writes. -/
def DmaOp.dramWrites (o : DmaOp) : List Nat := if (o.code == 1 || o.code == 2) && flagOf o.cur 3 then [o.dstAt] else []

/-- Source ID of the operation's channel (Table 12-4). -/
def DmaOp.source (o : DmaOp) : Nat := 0x30 + o.chan

/-- The burst's DRAM requests as the controller sees them (R426, R432, R433, R438). -/
def burstRequests (o : DmaOp) (s : State) : State :=
  let s1 := (o.dramReads ++ o.dramWrites).foldl (fun s a => spanRows o.source a o.burstLen s) s
  o.dramReads.foldl (fun s a => engineRead o.source a o.burstLen s) s1

/-- One burst of a LACE_PUSH (R469). -/
def laceBurst (o : DmaOp) (bytes : List Byte) (poisoned : Bool) (s : State) : State :=
  match pushBurst o ((chunksOf 8 (o.burstLen / 8) bytes).map (fun b => BitVec.ofNat 64 (leVal b))) s with
  | none => endOp o 3 .HST_NOT_PERMITTED s
  | some r => if poisoned then s.setOp (o.finish 7 0) else countBytes (8 * r.1) (r.2.setOp (o.advance (8 * r.1)))

/-- A burst that has passed its checks. -/
def moveBurst (o : DmaOp) (src dst : List Byte) (reply : HostReply) (s : State) : State :=
  let n := o.burstLen
  let bad := s.burstBad o reply
  let t := burstRequests o s
  let noted (u : State) : State := if o.dramWrites = [] then u else noteWrite o.dstAt n (.burstWrote o) t u
  if o.code = 1 then
    noted (countBytes n ((putBurst (flagOf o.cur 3) o.dstAt (s.burstBytes o src) bad t).setOp
      ({ o with poison := o.poison || bad != [] }.advance n)))
  else if o.code = 2 then noted (countBytes n ((putBurst (flagOf o.cur 3) o.dstAt o.constBytes [] t).setOp (o.advance n)))
  else if o.code = 3 then countBytes n (t.setOp ((s.compared o src dst reply).advance n))
  else laceBurst o (s.burstBytes o src) (bad != []) t

/-- The burst waits: its channel's part of the power budget is spent (R515), its DRAM requests are held in a fill (R444), or its channel
is throttled (R433). -/
def State.burstWaits (s : State) (o : DmaOp) : Bool :=
  !(s.mayIssue classDma o.chan) || (o.dramReads ++ o.dramWrites) != [] && (s.hbm.filling || s.throttled o.source)

/-- One burst of an operation (R467 to R472): `src` and `dst` are the bytes host memory answers where an address lies
there. A chain that breaks off ends the operation behind its last element. -/
def burst (o : DmaOp) (src dst : List Byte) (reply : HostReply) (s : State) : State :=
  if o.elems = [] then (match o.brk with
    | some f => endOp o f.1 f.2 s
    | none => s.setOp o.finishOk)
  else if !(s.elemOk (o.ring / 8) o.code (decide (o.nDone = 0)) o.cur) then endOp o 2 .HST_DESC_INVALID s
  else if lenOf o.cur = 0 then s.setOp (o.advance 0)
  else match s.burstFault o with
    | some f => endOp o f.1 f.2 s
    | none =>
      if o.readsHost && (decide (reply = .failed) || (o.readsSrc && !(flagOf o.cur 2) && decide (src.length < o.burstLen))) then
        endOp o 6 .HST_HOST_ERROR s
      else if s.burstWaits o then s
      else moveBurst o src dst reply (charge classDma o.chan s)

/-- DMA_BURST (R467): the next burst of a started operation. -/
def doBurst (n c : Nat) (src dst : List Byte) (reply : HostReply) (s : State) : State :=
  match s.dma.ops.find? (fun o => o.ring == n && o.count == c) with
  | some o =>
    if o.started && o.result.isNone && usesChain (opcodeOf o.head) then burst o src dst reply s else s
  | none => s

/-! ## Starts -/

/-- A scope with this ring binding takes pushes from the ring (R469). -/
def ringFits (b : Option Nat) (ring : Nat) : Bool :=
  match b with
  | some r => r == ring
  | none => true

/-- LACE_PUSH starts (R469, R570): the scope must be open with DMA = 1, and bound to this ring from its first push. -/
def startPush (o : DmaOp) (s : State) : State :=
  let i : Fin 2 := if bit (paramOf o.head) 2 = 1 then 1 else 0
  let j := bits (paramOf o.head) 1 0
  if s.native then
    let sc := s.scope i
    if j = 0 && sc.isOpen && sc.dma && ringFits sc.boundRing o.ring then s.setScope i { sc with boundRing := some o.ring }
    else endOp o 3 .HST_NOT_PERMITTED s
  else match (s.pers j).src with
    | some x =>
      if i = 0 && decide (j < s.str.mode) && x.dma && ringFits x.boundRing o.ring then
        s.setPers j { s.pers j with src := some { x with boundRing := some o.ring } }
      else endOp o 3 .HST_NOT_PERMITTED s
    | none => endOp o 3 .HST_NOT_PERMITTED s

/-- NOTIFY writes PARAM to DST (Table 13-5). -/
def startNotify (o : DmaOp) (s : State) : State :=
  let d := o.head
  let a := dstOf d
  if a = 0 then s.setOp o.finishOk
  else if flagOf d 3 then
    match s.burstFail (o.ring / 8) a 8 true with
    | some (r, c) => endOp o r c s
    | none => noteWrite a 8 (.burstWrote o) s ((dramWrite a (leBytes 8 (paramOf d)) s).setOp o.finishOk)
  else (s.emit (.hostWrite a (leBytes 8 (paramOf d)))).setOp o.finishOk

/-- A FENCE starts only after every earlier operation of its ring has completed (R468). -/
def startFence (n : Nat) (s : State) : State :=
  match s.waiting n with
  | some o =>
    if opcodeOf o.head = 4 ∧ (s.inFlight n).all (fun p => p.count == o.count) then s.setOp { o with started := true }.finishOk
    else s
  | none => s

/-! ## Completion -/

/-- The payload of a ring operation (Table 13-7). -/
def opPayload (o : DmaOp) : List Word :=
  let w (v : Nat) : Word := BitVec.ofNat 32 v
  let r := o.result.getD (0, 0)
  let op := opcodeOf o.head
  let res := o.residue
  let head := [w (r.2 + 65536 * r.1 + 2 ^ 24 * op), w res, w (res / 2 ^ 32)]
  if op = 3 then
    let f := o.firstMism.getD 0
    head ++ [w o.mism, w (o.mism / 2 ^ 32), w f, w (f / 2 ^ 32), w (b2n o.firstMism.isSome), 0, 0, 0, 0]
  else if op = 0x11 ∨ op = 0x12 then
    head ++ [w o.stamp.1, w (o.stamp.1 / 2 ^ 32 + 65536 * o.stamp.2.2), w o.stamp.2.1, w o.frame,
      w (if op = 0x12 then b2n o.event + 2 * bits (paramOf o.head) 2 0 else 0), 0, 0, 0, 0]
  else head ++ [0, 0, 0, 0, 0, 0, 0, 0, 0]

/-- Completed operations at the front of ring n leave it, and DONE advances over them (R463). -/
def advanceDone (fuel n : Nat) (s : State) : State :=
  match fuel with
  | 0 => s
  | f + 1 =>
    let r := s.ring n
    match s.dma.ops.find? (fun o => o.ring == n) with
    | some o =>
      if o.completed then
        let ops := s.dma.ops.filter (fun p => !(p.ring == n && p.count == o.count))
        advanceDone f n ({ s with dma := { s.dma with ops := ops } }.setRing n { r with done := (o.count + 1) % 65536 })
      else s
    | none => s

/-- An operation completes (R464, R475, R478). -/
def completeOp (o : DmaOp) (s : State) : State :=
  match o.result with
  | none => s
  | some (res, fault) =>
    let s := match o.slot with
      | some k => slotFill k (opPayload o) s
      | none => s
    let s := advanceDone 33 o.ring (s.setOp { o with completed := true })
    let s := if flagOf o.head 0 then ringIrq o.ring s else s
    let s := if 2 ≤ res ∧ res ≤ 6 then ringStop o.ring fault s else s
    ringSettle o.ring s

/-- RING_CMD ABORT (R473): every operation in flight completes, those without a result as ABORTED. -/
def doRingAbort (n : Nat) (s : State) : State :=
  let r := s.ring n
  if r.st == .disabled then s
  else
    let s := s.setRing n { r with st := .stopping, waitSlot := false }
    let s := (s.inFlight n).foldl (fun s o => completeOp (o.finish 1 0) (s.setOp (o.finish 1 0))) s
    let r := s.ring n
    if r.st == .stopped || r.st == .disabled then s else ringIrq n (s.setRing n { r with st := .stopped, disableReq := false })

/-- A fetch of this cycle in group g is taken back: a revocation takes effect first (Table 13-11). -/
def unfetch (g : Nat) (s : State) (e : CycleEvent) : State :=
  match e with
  | .fetched n r slot =>
    if n / 8 = g then
      let s1 := { s with dma := { s.dma with ops := s.dma.ops.filter (fun o => !(o.ring == n && o.count == r.head)) } }.setRing n r
      match slot with
      | some (k, x) => s1.setSlot k x
      | none => s1
    else s
  | _ => s

/-- The grant of group g ends (R458): its rings are aborted and disabled, its slots freed. -/
def revoke (g : Nat) (s : State) : State :=
  let s := s.cyc.foldl (unfetch g) s
  let s := (List.range' (8 * g) 8).foldl (fun s n =>
    let s := doRingAbort n s
    s.setRing n { s.ring n with st := .disabled, disableReq := false }) s
  let s := (List.range' (32 * g) 32).foldl (fun s k => slotFree k s) s
  s.setFd F.RING_GRANT_ENABLE 0 g

/-- A write of v to RING_GRANT (R457, R458). -/
def doRingGrant (v : Nat) (s : State) : State :=
  let g := max 1 (s.fd F.RING_GRANT_SEL_GROUP)
  let en := bit v 0
  let mask := bits v 15 8
  if s.fb F.RING_GRANT_ENABLE g then
    let s := if mask ≠ s.fd F.RING_GRANT_OPMASK g then s.raise .HST_RING_BUSY else s
    if en = 0 then revoke g s else s
  else (s.setFd F.RING_GRANT_ENABLE en g).setFd F.RING_GRANT_OPMASK mask g

/-- A vector is unmasked and its pending raising delivered (R478). -/
def doUnmask (v : Nat) (s : State) : State :=
  let p := (s.dma.pend[v]?).getD false
  let s := { s with dma := { s.dma with masked := s.dma.masked.setIfInBounds v false, pend := s.dma.pend.setIfInBounds v false } }
  if p then s.emit (.msix 0 v) else s

/-! ## Access through a ring page (R456) -/

/-- Marks a held BAR2 write in the list of held writes: its offset stands above BAR0's 32 MiB. -/
def bar2Mark : Nat := 2 ^ 25

/-- A write through BAR0 (`page` none: the ring RING_SEL selects) or through ring page n. -/
def ringAccess (page : Option (Fin 64)) (r : Reg) (v : Nat) (f : Nat → State → State) (s : State) : State :=
  match page with
  | none => s.hostWrite r 0 (BitVec.ofNat 32 v) (fun s => f (s.fd F.RING_SEL_RING) s)
  | some n =>
    if !s.glob.ready || decide (n.val < 8) then s
    else if s.power.state == .dormant then
      State.wake { s with power := { s.power with
        held := s.power.held ++ [(bar2Mark + n.val * 65536 + (r.offset - Reg.offset .RING_BASE_LO), BitVec.ofNat 32 v)] } } 1
    else if !(s.groupGranted (n.val / 8)) then s.raise .HST_UNGRANTED
    else f n.val s

/-- RELEASE written through BAR0 (the slot RING_SLOT_SEL selects) or through a ring page, whose group holds the slot. -/
def slotAccess (page : Option (Fin 64)) (k : Fin 32) (v : Nat) (s : State) : State :=
  match page with
  | none => s.hostWrite .RING_SLOT_RELEASE 0 (BitVec.ofNat 32 v) (fun s => doSlotRelease (s.fd F.RING_SLOT_SEL_SLOT) v s)
  | some n =>
    if !s.glob.ready || decide (n.val < 8) then s
    else if s.power.state == .dormant then
      State.wake { s with power := { s.power with
        held := s.power.held ++ [(bar2Mark + n.val * 65536 + 0x1000 + 64 * k.val + 8, BitVec.ofNat 32 v)] } } 1
    else if !(s.groupGranted (n.val / 8)) then s.raise .HST_UNGRANTED
    else doSlotRelease (32 * (n.val / 8) + k.val) v s

/-! ## Meanings -/

/-- RING_ENABLE (R460). -/
def execRingEnable (page : Option (Fin 64)) (s : State) : Host.Outcome State Fault Refusal :=
  .next (ringAccess page .RING_CMD 1 doRingEnable s)

/-- RING_DISABLE (R460). -/
def execRingDisable (page : Option (Fin 64)) (s : State) : Host.Outcome State Fault Refusal :=
  .next (ringAccess page .RING_CMD 2 doRingDisable s)

/-- RING_ABORT (R473). -/
def execRingAbort (page : Option (Fin 64)) (s : State) : Host.Outcome State Fault Refusal :=
  .next (ringAccess page .RING_CMD 3 doRingAbort s)

/-- RING_RESET (R460). -/
def execRingReset (page : Option (Fin 64)) (s : State) : Host.Outcome State Fault Refusal :=
  .next (ringAccess page .RING_CMD 4 doRingReset s)

/-- RING_TAIL_WRITE (R459). -/
def execRingTailWrite (page : Option (Fin 64)) (v : BitVec 16) (s : State) : Host.Outcome State Fault Refusal :=
  .next (ringAccess page .RING_TAIL v.toNat (fun n => doRingTail n v.toNat) s)

/-- COPY starts (R463, R465). -/
def execCopy (n : Fin 64) (s : State) : Host.Outcome State Fault Refusal := .next (startOp n.val 0x01 s (fun _ s => s))

/-- FILL starts (R463, R465). -/
def execFill (n : Fin 64) (s : State) : Host.Outcome State Fault Refusal := .next (startOp n.val 0x02 s (fun _ s => s))

/-- COMPARE starts (R463, R465). -/
def execCompare (n : Fin 64) (s : State) : Host.Outcome State Fault Refusal := .next (startOp n.val 0x03 s (fun _ s => s))

/-- FENCE (R468). -/
def execFence (n : Fin 64) (s : State) : Host.Outcome State Fault Refusal := .next (startFence n.val s)

/-- NOTIFY (R465). -/
def execNotify (n : Fin 64) (s : State) : Host.Outcome State Fault Refusal := .next (startOp n.val 0x05 s startNotify)

/-- LACE_PUSH starts (R469). -/
def execLacePush (n : Fin 64) (s : State) : Host.Outcome State Fault Refusal := .next (startOp n.val 0x10 s startPush)

/-- PTP_RECV starts and waits (R470). -/
def execPtpRecv (n : Fin 64) (s : State) : Host.Outcome State Fault Refusal := .next (startOp n.val 0x12 s (fun _ s => s))

/-- DMA_BURST (R467): the next burst of the operation of ring n with count c. -/
def execDmaBurst (n : Fin 64) (c : BitVec 16) (src dst : List Byte) (reply : HostReply) (s : State) :
    Host.Outcome State Fault Refusal := .next (doBurst n.val c.toNat src dst reply s)

/-- OP_COMPLETE (R475): the operation of ring n with count c completes. -/
def execOpComplete (n : Fin 64) (c : BitVec 16) (s : State) : Host.Outcome State Fault Refusal :=
  .next (match s.inFlight n.val |>.find? (fun o => o.count == c.toNat) with
    | some o => completeOp o s
    | none => s)

/-- SLOT_RELEASE (R477). -/
def execSlotRelease (page : Option (Fin 64)) (k : Fin 32) (v : BitVec 32) (s : State) : Host.Outcome State Fault Refusal :=
  .next (slotAccess page k v.toNat s)

/-- RING_GRANT_WRITE (R457, R458). -/
def execRingGrantWrite (v : BitVec 32) (s : State) : Host.Outcome State Fault Refusal :=
  .next (s.hostWrite .RING_GRANT 0 v (doRingGrant v.toNat))

/-- MSIX_UNMASK (R478). -/
def execMsixUnmask (v : Fin 128) (s : State) : Host.Outcome State Fault Refusal := .next (s.whenReady (doUnmask v.val))

end Sys2Proof.Machine
end

