-- ==== Sys2Proof/Machine/Time.lean ====
section
/-! DEFINITION. The local clock, its servo, triggers and pulses (R411 to R420). -/

namespace Sys2Proof.Machine

/-! ## The clock -/

/-- The clock as one count of 2^−40 ns within a second, advanced by `inc` (R411); a negative sum borrows from SEC. -/
def TimeSt.advance (c : TimeSt) (inc : Int) : TimeSt :=
  let sec1 : Int := 1000000000 * 2 ^ 40
  let v : Int := (c.ns * 2 ^ 40 + c.fr : Nat) + inc
  let carry := v / sec1
  let r := (v % sec1).toNat
  { c with
    sec := (((c.sec : Int) + carry) % 2 ^ 48).toNat
    ns := r / 2 ^ 40
    fr := r % 2 ^ 40 }

/-- ADJ, two's complement. -/
def State.adj (s : State) : Int := sext 32 (s.rg .TIME_ADJ).toNat

/-- One 2 ns step of the local clock (R411). -/
def clockTick (s : State) : State :=
  { s with time := { s.time.advance (2 ^ 41 + s.adj) with prevSec := s.time.sec, prevNs := s.time.ns } }

/-- The count N before the last 2 ns step; a step of the clock counts as one. -/
def State.prevN (s : State) : Nat := (s.time.prevSec * 1000000000 + s.time.prevNs) % 2 ^ 64

/-- Target of trigger t as the count N (R412). -/
def State.trigN (s : State) (t : Nat) : Nat :=
  ((s.fd F.TIME_TRIG_SEC_LO_SEC t + 2 ^ 32 * s.fd F.TIME_TRIG_SEC_HI_SEC t) * 1000000000 +
    s.fd F.TIME_TRIG_NS_NS t) % 2 ^ 64

/-- a is later than b (R412). -/
def later (a b : Nat) : Bool := decide (sext 64 ((a + 2 ^ 64 - b) % 2 ^ 64) > 0)

/-- A step from old to new time: every armed trigger it passes over is disarmed (R416). -/
def steppedOver (old new : Nat) (s : State) (t : Nat) : State :=
  if s.fb F.TIME_TRIG_STATUS_ARMED t && later (s.trigN t) old && !(later (s.trigN t) new) then
    ((s.setFd F.TIME_TRIG_STATUS_ARMED 0 t).setFlag F.TIME_TRIG_STATUS_STEPPED 1 t).raise .TIM_TRIGGER_STEPPED
  else s

/-- The clock takes the value c as a step (R414 to R416). It takes effect before a trigger that the present 2 ns step has brought to
its target (Table 11-6), so that the old time is the one before that step. -/
def stepClock (c : TimeSt) (s : State) : State :=
  let old := s.prevN
  let s1 := { s with time := { c with prevSec := c.sec, prevNs := c.ns } }
  let new := s1.timeN
  let s2 := (List.range 4).foldl (steppedOver old new) s1
  let s3 := (s2.setFd F.TIME_STATUS_FIRST 0).setFd F.TIME_STATUS_VALID 1
  s3.bumpWrap F.TIME_STATUS_STEPS

/-! ## Servo (R414) -/

/-- TIME_SERVO_OFFSET, s64, units of 2^−16 ns. -/
def State.servoOffset (s : State) : Int := sext 64 (s.pair F.TIME_SERVO_OFFSET_LO_OFF F.TIME_SERVO_OFFSET_HI_OFF)

/-- The registers that APPLY writes. -/
def State.servoWords (s : State) : List (Reg × Nat × Word) :=
  [(.TIME_FI, 0, s.rg .TIME_FI), (.TIME_ADJ, 0, s.rg .TIME_ADJ), (.TIME_STATUS, 0, s.rg .TIME_STATUS)] ++
    (List.range 4).map (fun t => (.TIME_TRIG_STATUS, t, s.rg .TIME_TRIG_STATUS t))

/-- An offset is processed (R414). -/
def servo (force : Bool) (s : State) : State :=
  let off := s.servoOffset
  let kp := sext 32 (s.fd F.TIME_SERVO_KP_KP)
  let ki := sext 32 (s.fd F.TIME_SERVO_KI_KI)
  let lim : Int := (s.fd F.TIME_ADJ_LIM_LIM : Nat)
  let fi := sext 32 (s.rg .TIME_FI).toNat
  if s.fb F.TIME_STATUS_FIRST || force then
    let c := s.time.advance (-(off * 2 ^ 24))
    (stepClock c s).setRg .TIME_ADJ (s.rg .TIME_FI)
  else if off.natAbs > s.fd F.TIME_STEP_NS_NS * 2 ^ 16 then
    (s.setFlag F.TIME_STATUS_REFUSED).raise .TIM_STEP_REFUSED
  else
    let a := fi - rshiftRound (ki * off) (s.fd F.TIME_SERVO_SHIFT_SI)
    let fi1 := sat a (-lim) lim
    let b := fi1 - rshiftRound (kp * off) (s.fd F.TIME_SERVO_SHIFT_SP)
    let adj1 := sat b (-lim) lim
    let s1 := if satHit a (-lim) lim || satHit b (-lim) lim then s.setFlag F.TIME_STATUS_ADJ_SAT else s
    (s1.setRg .TIME_FI (BitVec.ofInt 32 fi1)).setRg .TIME_ADJ (BitVec.ofInt 32 adj1)

/-- APPLY, with `force` for FORCE; SET in the same step discards the offset (R414, Table 11-6). -/
def doServo (force : Bool) (s : State) : State :=
  if s.saw .timeSet then s else servo force (s.mark (.servo s.time s.servoWords))

/-- Every armed trigger is disarmed, with TIM_TRIGGER_STEPPED (R413, Table 11-11). -/
def disarmAll (s : State) : State :=
  (List.range 4).foldl (fun s t =>
    if s.fb F.TIME_TRIG_STATUS_ARMED t then (s.setFd F.TIME_TRIG_STATUS_ARMED 0 t).raise .TIM_TRIGGER_STEPPED else s) s

/-- Time becomes invalid (R413). -/
def invalidateTime (s : State) : State :=
  let s := (s.setFd F.TIME_STATUS_VALID 0).setFd F.TIME_STATUS_FIRST 1
  let s := disarmAll ((s.setRg .TIME_FI 0).setRg .TIME_ADJ 0)
  { s with time := { s.time with ppsOut := false } }

/-- An APPLY of this step is taken back (Table 11-6). -/
def undoServo (s : State) : State :=
  s.cyc.foldl (fun s e => match e with
    | .servo time words => words.foldl (fun s w => s.setRg w.1 w.2.2 w.2.1) { s with time := time }
    | _ => s) s

/-- SET of TIME_CMD (R415). -/
def doTimeSet (s : State) : State :=
  let s1 := undoServo s
  (stepClock { s1.time with
    sec := s1.fd F.TIME_SET_SEC_LO_SEC + 2 ^ 32 * s1.fd F.TIME_SET_SEC_HI_SEC
    ns := min 999999999 (s1.fd F.TIME_SET_NS_NS)
    fr := 0 } s1).mark .timeSet

/-- LATCH of TIME_CMD (R420). -/
def doTimeLatch (s : State) : State :=
  let st := s.stageT.toNat
  let s := (s.setFd F.TIME_LATCH_SEC_LO_SEC s.time.sec).setFd F.TIME_LATCH_SEC_HI_SEC (s.time.sec / 2 ^ 32)
  let s := (s.setFd F.TIME_LATCH_SEC_HI_FRAC (s.time.fr / 2 ^ 24)).setFd F.TIME_LATCH_NS_NS s.time.ns
  (s.setFd F.TIME_LATCH_STAGE_LO_T st).setFd F.TIME_LATCH_STAGE_HI_T (st / 2 ^ 32)

/-! ## Triggers -/

/-- The action of trigger t: 5 to 7 act as 0. -/
def State.trigAction (s : State) (t : Nat) : Nat :=
  let a := s.fd F.TIME_TRIG_CFG_ACTION t
  if a > 4 then 0 else a

/-- Table 11-5 allows the action on this device. -/
def State.actionAllowed (s : State) (a : Nat) : Bool :=
  match a with
  | 1 | 3 => s.leads && s.native
  | 4 => !s.fb F.TIME_PPS_CFG_OUT_EN
  | _ => true

/-- TIME_TRIG_CMD ARM for the selected trigger (R417). -/
def doTrigArm (s : State) : State :=
  let t := s.fd F.TIME_TRIG_SEL_TRIG
  if !s.timeValid || !(s.actionAllowed (s.trigAction t)) then s.raise .TIM_TRIGGER_INVALID
  else if !(later (s.trigN t) s.timeN) then (s.setFlag F.TIME_TRIG_STATUS_PAST 1 t).raise .TIM_TRIGGER_PAST
  else s.setFd F.TIME_TRIG_STATUS_ARMED 1 t

/-- TIME_TRIG_CMD DISARM. -/
def doTrigDisarm (s : State) : State := s.setFd F.TIME_TRIG_STATUS_ARMED 0 (s.fd F.TIME_TRIG_SEL_TRIG)

/-! ## Pulses -/

/-- WIDTH_US; 0 acts as 1. -/
def State.ppsWidth (s : State) : Nat := max 1 (s.fd F.TIME_PPS_CFG_WIDTH_US)

/-- PPS_OUT rises for WIDTH_US. -/
def ppsPulse (s : State) : State :=
  { s with time := { s.time with ppsOut := true, ppsFallAt := s.now + s.ppsWidth * 1000000 } }

/-- NS has reached TIME_PPS_OFFSET in the last 2 ns step of the clock: it stands there, or has come to it or passed it in that
step. -/
def State.ppsReached (s : State) : Bool :=
  let o := s.fd F.TIME_PPS_OFFSET_NS
  let sec := 1000000000
  decide (o < sec) && (s.time.ns == o || decide ((s.time.ns + sec - o) % sec < (s.time.ns + sec - s.time.prevNs) % sec))

/-- PPS_OUT_RISE (R418). -/
def doPpsRise (s : State) : State :=
  if s.fb F.TIME_PPS_CFG_OUT_EN && s.timeValid && s.ppsReached then ppsPulse s else s

/-- PPS_OUT_FALL (R418). -/
def doPpsFall (s : State) : State :=
  if s.time.ppsOut && decide (s.now ≥ s.time.ppsFallAt) then { s with time := { s.time with ppsOut := false } } else s

/-- A rising edge of PPS_IN (R419): ignored less than 1 µs after the previous edge. -/
def doPpsIn (s : State) : State :=
  let old := s.time.ppsInAt
  let s1 := { s with time := { s.time with ppsInAt := some s.now } }
  match old with
  | some t => if s.now < t + 1000000 then s1 else capture s1
  | none => capture s1
where
  capture (s : State) : State :=
    let s := (s.setFd F.TIME_PPS_IN_SEC_LO_SEC s.time.sec).setFd F.TIME_PPS_IN_SEC_HI_SEC (s.time.sec / 2 ^ 32)
    let s := (s.setFd F.TIME_PPS_IN_SEC_HI_FRAC (s.time.fr / 2 ^ 24)).setFd F.TIME_PPS_IN_NS_NS s.time.ns
    s.bumpWrap F.TIME_PPS_IN_SEQ_SEQ

/-! ## Meanings -/

/-- PPS_OUT_RISE (R418). -/
def execPpsOutRise (s : State) : Host.Outcome State Fault Refusal := .next (s.whenReady doPpsRise)

/-- PPS_OUT_FALL (R418). -/
def execPpsOutFall (s : State) : Host.Outcome State Fault Refusal := .next (doPpsFall s)

/-- PPS_IN_EDGE (R419); PPS_IN is wake source 3 (Table 15-6). -/
def execPpsInEdge (s : State) : Host.Outcome State Fault Refusal :=
  .next (s.whenUp (fun s =>
    let s1 := if s.wakeOn 3 then s.wake 3 else s
    if s.power.state == .dormant then s1 else doPpsIn s1))

/-- APPLY of TIME_SERVO_CMD (R414). -/
def execApply (s : State) : Host.Outcome State Fault Refusal := .next (s.hostCmd .TIME_SERVO_CMD 1 (doServo false))

/-- FORCE with APPLY of TIME_SERVO_CMD (R414). -/
def execForce (s : State) : Host.Outcome State Fault Refusal := .next (s.hostCmd .TIME_SERVO_CMD 3 (doServo true))

/-- RESTART of TIME_SERVO_CMD (R413). -/
def execRestart (s : State) : Host.Outcome State Fault Refusal := .next (s.hostCmd .TIME_SERVO_CMD 4 invalidateTime)

/-- SET of TIME_CMD (R415). -/
def execSet (s : State) : Host.Outcome State Fault Refusal := .next (s.hostCmd .TIME_CMD 2 doTimeSet)

/-- LATCH of TIME_CMD (R420). -/
def execLatch (s : State) : Host.Outcome State Fault Refusal := .next (s.hostCmd .TIME_CMD 1 doTimeLatch)

/-- TIME_TRIG_CMD ARM (R417). -/
def execTrigArm (s : State) : Host.Outcome State Fault Refusal := .next (s.hostCmd .TIME_TRIG_CMD 1 doTrigArm)

/-- TIME_TRIG_CMD DISARM (R417). -/
def execTrigDisarm (s : State) : Host.Outcome State Fault Refusal := .next (s.hostCmd .TIME_TRIG_CMD 2 doTrigDisarm)

end Sys2Proof.Machine
end

