-- ==== Sys2Proof/Machine/Net.lean ====
section
/-! DEFINITION. Network ports, the transport and PTP frames (R397 to R410, R470). -/

namespace Sys2Proof.Machine

/-! ## Flows -/

/-- Flow f. -/
def State.flow (s : State) (f : Nat) : Flow := (s.net.flows[f]?).getD Flow.fresh

/-- Replace flow f. -/
def State.setFlow (s : State) (f : Nat) (x : Flow) : State :=
  { s with net := { s.net with flows := s.net.flows.setIfInBounds f x } }

/-- Who an open scope's flow feeds: a native scope, or a TL-40 personality. -/
inductive FlowOwner where
  | native (i : Fin 2)
  | pers (j : Nat)
deriving DecidableEq, Repr

/-- The open scope that names flow f (R142, R570); of two scopes that name it, scope 0: the spec does not say which, the model's choice
(assumption log 77). -/
def State.flowOwner (s : State) (f : Nat) : Option FlowOwner :=
  if s.native then
    let ok (i : Fin 2) : Bool := (s.scope i).isOpen && !(s.scope i).dma && (s.scope i).flow == f
    if ok 0 then some (.native 0) else if ok 1 then some (.native 1) else none
  else (s.persList.find? (fun j => match (s.pers j).src with
    | some x => !x.dma && x.flow == f
    | none => false)).map .pers

/-- Expected STREAM_ID of an owner. -/
def State.ownerStream (s : State) : FlowOwner → Nat
  | .native i => (s.scope i).streamId
  | .pers j => (((s.pers j).src.map TlSource.streamId)).getD 0

/-- Free buffer bytes of an owner (R405, R570): 32 MiB for a personality. -/
def State.ownerFree (s : State) : FlowOwner → Nat
  | .native i => (s.scope i).room
  | .pers j => (s.pers j).bufFree

/-- LIMIT of flow f (R405). -/
def State.flowLimit (s : State) (f : Nat) : Nat :=
  match s.flowOwner f with
  | some o => (s.flow f).received + s.ownerFree o / 8
  | none => (s.flow f).received

/-- A CTRL datagram (Table 11-2). -/
def ctrlBytes (s : State) (f flags dst : Nat) : List Byte :=
  let x := s.flow f
  let stream := match s.flowOwner f with
    | some o => s.ownerStream o
    | none => 0
  let head := leBytes 1 1 ++ leBytes 1 2 ++ leBytes 1 f ++ leBytes 1 flags ++ leBytes 2 s.node ++ leBytes 2 dst ++
    leBytes 4 stream ++ leBytes 4 x.next ++ leBytes 2 16 ++ leBytes 2 0
  let pay := leBytes 8 (s.flowLimit f) ++ leBytes 8 x.received
  head ++ pay ++ leBytes 4 (crc crcC32C (head ++ pay))

/-- A CTRL of flow f is sent to its return address (R405). -/
def sendCtrl (f : Nat) (nak closed : Bool) (dst : Nat) (s : State) : State :=
  let x := s.flow f
  let flags := b2n nak + 2 * b2n x.opened + 4 * b2n closed
  let s1 := sendTo (64 + f) (ctrlBytes s f flags dst) s
  let s2 := match s1.out.head? with
    | some o => if s1.out.length = s.out.length then s1 else s1.mark (.ctrl f o)
    | none => s1
  s2.setFlow f { x with limitSent := s.flowLimit f, ctrlAt := s.now, nakAt := if nak then some s.now else x.nakAt }

/-- The CTRLs of flow f sent in this cycle are taken back, for one that Table 11-6 puts in their place. -/
def unsendCtrl (f : Nat) (s : State) : State :=
  s.cyc.foldl (fun s e => match e with
    | .ctrl g o => if g = f then { s with out := s.out.erase o } else s
    | _ => s) s

/-- OPEN of the scope that names flow f (R404, R405). -/
def flowOpen (f : Nat) (s : State) : State :=
  let s := (s.setFlow f { Flow.fresh with opened := true }).setRg .NET_FLOW_ORDER_COUNT 0 f
  sendCtrl f false false 0xFFFF s

/-- HOLDOFF_US; 0 acts as 1. -/
def State.holdoffPs (s : State) : Nat := 1000000 * max 1 (s.fd F.NET_XPORT_CFG_HOLDOFF_US)

/-- CTRL_US; values below 2 act as 2. -/
def State.ctrlPs (s : State) : Nat := 1000000 * max 2 (s.fd F.NET_XPORT_CFG_CTRL_US)

/-- A datagram was ahead or over credit: NAK within the holdoff rule (R405). -/
def flowNak (f src : Nat) (s : State) : State :=
  let x := s.flow f
  let s := s.setFlow f { x with nakDue := true }
  let send (s : State) : State := sendCtrl f true false src (unsendCtrl f s)
  match x.nakAt with
  | some t => if s.now < t + s.holdoffPs then s else send s
  | none => send s

/-- Flows that open scopes name. -/
def State.openFlows (s : State) : List Nat :=
  if s.native then ([0, 1].filter (fun (i : Fin 2) => (s.scope i).isOpen && !(s.scope i).dma)).map (fun i => (s.scope i).flow)
  else s.persList.filterMap (fun j => match (s.pers j).src with
    | some x => if x.dma then none else some x.flow
    | none => none)

/-- Flows whose LIMIT has risen by 1 MiB since their last CTRL: looked at in every 2 ns step, for the CTRL due within 2 µs (R405). -/
def ctrlRise (s : State) : State :=
  s.openFlows.foldl (fun s f =>
    if 8 * (s.flowLimit f - (s.flow f).limitSent) ≥ 2 ^ 20 then sendCtrl f false false 0xFFFF s else s) s

/-! ## Datagrams -/

/-- A transport datagram is malformed (R403). -/
def State.transportBad (s : State) (l : List Byte) : Bool :=
  let kind := byteAt l 1
  let len := leAt l 0x10 2
  let flags := byteAt l 3
  decide (l.length < 0x18) || len + 0x18 != l.length ||
  leAt l (0x14 + len) 4 != crc crcC32C (l.take (0x14 + len)) ||
  byteAt l 0 != 1 || !(kind == 1 || kind == 2 || kind == 3) || leAt l 0x12 2 != 0 || decide (byteAt l 2 > 63) ||
  (match kind with
    | 1 => flags != 0 || len % 8 != 0 || decide (len < 8) || decide (len > 8192)
    | 2 => decide (flags > 7) || len != 16
    | _ => flags != 0 || byteAt l 2 != 0 || leAt l 8 4 != 0 || leAt l 0x0C 4 != 0) ||
  (leAt l 6 2 != s.node && !(kind == 2 && leAt l 6 2 == 0xFFFF))

/-- A malformed datagram is discarded (R403). -/
def transportDrop (s : State) : State := (s.bump F.NET_XPORT_BAD_COUNT).raise .NET_TRANSPORT_BAD

/-- Payload stitches. -/
def payloadStitches (l : List Byte) : List Stitch :=
  let n := leAt l 0x10 2 / 8
  (chunksOf 8 n (slice l 0x14 (8 * n))).map (fun b => BitVec.ofNat 64 (leVal b))

/-- Stitches pass to the flow's owner. -/
def flowDeliver (o : FlowOwner) (l : List Stitch) (s : State) : State :=
  match o with
  | .native i => laceIntake i l s
  | .pers j => l.foldl (tlStitch j) s

/-- The scope whose drop count takes stitches of a flow that no open scope names (R146). -/
def State.dropScope (s : State) (f : Nat) : Nat :=
  if s.fd F.LACE_SOURCE_FLOW 1 = f ∧ s.fd F.LACE_SOURCE_FLOW 0 ≠ f then 1 else 0

/-- A well-formed DATA datagram (R404). -/
def dataDatagram (l : List Byte) (s : State) : State :=
  let f := byteAt l 2
  let src := leAt l 4 2
  let ws := payloadStitches l
  match s.flowOwner f with
  | none =>
    let i := s.dropScope f
    (sendCtrl f false true src ((s.bump F.LACE_DROP_COUNT_COUNT ws.length i).raise .LAC_NO_SCOPE)).mark (.dataLost f l i)
  | some o =>
    let x := s.flow f
    if leAt l 8 4 ≠ s.ownerStream o then s.bump F.NET_XPORT_BAD_COUNT
    else
      let d := (leAt l 0x0C 4 + 2 ^ 32 - x.next) % 2 ^ 32
      if d = 0 then
        if x.received + ws.length ≤ s.flowLimit f then
          flowDeliver o ws ((s.setFlow f { x with
            next := (x.next + 1) % 2 ^ 32
            received := x.received + ws.length
            opened := false
            nakDue := false }).mark (.dataIn f ws.length src x))
        else flowNak f src (s.raise .NET_CREDIT_VIOLATION)
      else if d < 2 ^ 31 then
        flowNak f src ((s.bump F.NET_FLOW_ORDER_COUNT_COUNT 1 f).raise .NET_FLOW_ORDER)
      else s.bump F.NET_FLOW_ORDER_COUNT_COUNT 1 f

/-- The ports take frames: not before READY, nor in DORMANT or its entry (Table 15-5). -/
def State.netOpen (s : State) : Bool :=
  s.glob.ready && s.power.state != .dormant && s.power.transit != .enterDormant

/-! ## Lace scope commands that concern flows -/

/-- A DATA datagram of flow f that arrived in the cycle of its scope's OPEN is judged after the OPEN (Table 11-6). -/
def rejudge (f : Nat) (s : State) (e : CycleEvent) : State :=
  match e with
  | .dataLost g l i =>
    if g = f then
      dataDatagram l (s.setFd F.LACE_DROP_COUNT_COUNT (s.fd F.LACE_DROP_COUNT_COUNT i - (payloadStitches l).length) i)
    else s
  | _ => s

/-- LACE_CMD OPEN (R142, R404). -/
def doLaceOpen (s : State) : State :=
  if !s.native then s.raise .LAC_SCOPE_BUSY
  else
    let i := s.scopeSel
    let was := (s.scope i).isOpen
    let s1 := laceOpen s
    if !was && (s1.scope i).isOpen && !(s1.scope i).dma then
      let f := (s1.scope i).flow
      s.cyc.reverse.foldl (rejudge f) (flowOpen f (unsendCtrl f s1))
    else s1

/-- A DATA datagram of flow f accepted in the cycle of its scope's CLOSE is one that no open scope names (Table 11-6, R146). -/
def unaccept (f i : Nat) (s : State) (e : CycleEvent) : State :=
  match e with
  | .dataIn g n src old =>
    if g = f then sendCtrl f false true src (((s.setFlow f old).bump F.LACE_DROP_COUNT_COUNT n i).raise .LAC_NO_SCOPE) else s
  | _ => s

/-- LACE_CMD CLOSE (R144, R405). -/
def doLaceClose (s : State) : State :=
  let i := s.scopeSel
  let sc := s.scope i
  let s1 := laceClose s
  if sc.isOpen && !(s1.scope i).isOpen && !sc.dma then
    s.cyc.foldl (unaccept sc.flow i.val) (sendCtrl sc.flow false true 0xFFFF s1)
  else s1

/-! ## PTP -/

/-- Device time plus or minus a correction in ps, as SEC, NS and FR bits [39:24], at a resolution of 2^−3 ns (R409). -/
def State.stampAt (s : State) (ps : Int) : Nat × Nat × Nat :=
  let c := s.time.advance (ps * 2 ^ 40 / 1000)
  (c.sec, c.ns, c.fr / 2 ^ 37 * 2 ^ 13)

/-- Something goes out ahead of the newest k datagrams of a MAC. -/
def aheadOf (mac : Nat) (o : Out) : Nat → List Out → List Out
  | 0, l => o :: l
  | _ + 1, [] => [o]
  | k + 1, .datagram m h b :: t => .datagram m h b :: aheadOf mac o (if m = mac then k else k + 1) t
  | k + 1, x :: t => x :: aheadOf mac o (k + 1) t

/-- A PTP frame leaves a MAC, ahead of the CTRLs that are queued there in this cycle (R400). -/
def sendPtp (mac : Nat) (l : List Byte) (s : State) : State :=
  let queued := s.cyc.filter (fun e => match e with
    | .ctrl _ (.datagram m _ _) => m == mac
    | _ => false)
  { s with out := aheadOf mac (.ptpFrame mac l) queued.length s.out }

/-- PTP_SEND (R470): the frame leaves, and the operation carries t_tx. -/
def startPtpSend (host : List Byte) (reply : HostReply) (o : DmaOp) (s : State) : State :=
  let d := o.head
  let mac := bits (paramOf d) 2 0
  let n := lenOf d
  let g := o.ring / 8
  if flagOf d 2 && !(s.inWindow g (srcOf d) n) then endOp o 4 .HST_RANGE s
  else if !flagOf d 2 && (decide (reply = .failed) || decide (host.length < n)) then endOp o 6 .HST_HOST_ERROR s
  else
    let bad := if flagOf d 2 then s.dramBad (srcOf d) n else decide (reply = .poisoned)
    let s := if flagOf d 2 then engineRead o.source (srcOf d) n (spanRows o.source (srcOf d) n s) else s
    if bad then s.setOp (o.finish 7 0)
    else
      let host := if flagOf d 2 then s.dramBytes (srcOf d) n else host.take n
      let l := stampIp (s.fd F.NET_IP_CFG_TTL) (s.fd F.NET_IP_CFG_DSCP) (tagFrame (s.ptpVlan mac) host)
      let ev := s.ptpEvent mac l
      let st := s.stampAt (s.fd F.NET_PTP_TX_LAT_PS mac : Nat)
      let out := if ev && s.fb F.NET_PTP_CFG_ONE_STEP mac then oneStep l st (param2Of d) else l
      (sendPtp mac out s).setOp { o with
        stamp := if ev then st else (0, 0, 0)
        elems := []
        result := some (0, 0) }

/-- The operation is a PTP_RECV of the MAC that waits for its frame: it has started, or is the next of its ring to start. -/
def State.awaitsFrame (s : State) (mac : Nat) (o : DmaOp) : Bool :=
  o.result.isNone && opcodeOf o.head == 0x12 && bits (paramOf o.head) 2 0 == mac && (o.started || s.waiting o.ring == some o)

/-- PTP_FRAME_RX (R470): to the oldest waiting PTP_RECV of the MAC, or dropped. -/
def ptpRx (mac : Nat) (l : List Byte) (s : State) : State :=
  match s.dma.ops.find? (s.awaitsFrame mac) with
  | none => (s.bump F.DMA_PTP_DROP_COUNT).mark (.ptpDropped mac l (s.rg .DMA_PTP_DROP))
  | some o =>
    let d := o.head
    let out := l.take (lenOf d)
    let ev := s.ptpEvent mac l
    let st := if ev then s.stampAt (-(s.fd F.NET_PTP_RX_LAT_PS mac : Nat)) else (0, 0, 0)
    let o := { o with stamp := st, frame := out.length, event := ev }
    if flagOf d 3 then
      match s.burstFail (o.ring / 8) (dstOf d) out.length true with
      | some (r, c) => endOp o r c s
      | none => done o (decide (l.length > lenOf d)) (dramWrite (dstOf d) out s)
    else done o (decide (l.length > lenOf d)) (s.emit (.hostWrite (dstOf d) out))
where
  done (o : DmaOp) (cut : Bool) (s : State) : State :=
    s.setOp { o with elems := [], result := some (if cut then 9 else 0, 0) }

/-- A frame dropped in this cycle goes to a PTP_RECV of its MAC that is fetched in it (Table 13-11). -/
def undrop (s : State) (e : CycleEvent) : State :=
  match e with
  | .ptpDropped mac l n => if s.dma.ops.any (s.awaitsFrame mac) then ptpRx mac l (s.setRg .DMA_PTP_DROP n) else s
  | _ => s

/-- DESC_FETCH (R461): the descriptor is fetched, and a PTP_RECV takes a frame of its cycle. -/
def fetchNext (n : Nat) (host : List (List Byte)) (s : State) : State := s.cyc.foldl undrop (doDescFetch n host s)

/-! ## Meanings -/

/-- DESC_FETCH (R461). -/
def execDescFetch (n : Fin 64) (host : List (List Byte)) (s : State) : Host.Outcome State Fault Refusal :=
  .next (s.whenReady (fetchNext n.val host))

/-- A transport datagram that R399 accepts goes by its KIND (R403, R404, R407); a CTRL is discarded without fault, and a TL-40 device
takes no EDGE. -/
def transportIn (l : List Byte) (s : State) : State :=
  if s.transportBad l then transportDrop s
  else match byteAt l 1 with
    | 1 => dataDatagram l s
    | 3 => if s.native then anyRecord (slice l 0x14 (leAt l 0x10 2)) s else s
    | _ => s

/-- A frame with a correct FCS, given without it, arrives at a MAC (R399): what it is decides what becomes of it. -/
def netFrame (mac : Nat) (l : List Byte) (s : State) : State :=
  if !s.netOpen then s
  else match s.rxFrame mac l with
    | .ptp => ptpRx mac l s
    | .transport p => transportIn p s
    | .discarded => s.bump F.NET_RX_DISCARD_COUNT 1 mac

/-- DATA_DATAGRAM (R399, R403, R404): a frame arrives at a MAC; whatever its row, what it is is what its bytes say. -/
def execDataDatagram (l : RxFrame) (s : State) : Host.Outcome State Fault Refusal := .next (netFrame l.mac.val l.bytes s)

/-- CTRL_DATAGRAM (R403). -/
def execCtrlDatagram (l : RxFrame) (s : State) : Host.Outcome State Fault Refusal := .next (netFrame l.mac.val l.bytes s)

/-- EDGE_DATAGRAM (R403, R407). -/
def execEdgeDatagram (l : RxFrame) (s : State) : Host.Outcome State Fault Refusal := .next (netFrame l.mac.val l.bytes s)

/-- CTRL_PERIODIC (R405): every CTRL_US for each flow that an open scope names. -/
def execCtrlPeriodic (s : State) : Host.Outcome State Fault Refusal :=
  .next (if !s.netOpen then s else
    (List.range 64).foldl (fun s f =>
      if (s.flowOwner f).isSome && decide (s.now ≥ (s.flow f).ctrlAt + s.ctrlPs) then
        sendCtrl f (s.flow f).nakDue false 0xFFFF s else s) s)

/-- PTP_FRAME_RX (R399, R470). -/
def execPtpFrameRx (mac : Fin 8) (l : List Byte) (s : State) : Host.Outcome State Fault Refusal := .next (netFrame mac.val l s)

/-- The MAC a PTP operation names has link; without it the frame is held, and the operation waits (R470, Table 11-11). -/
def State.ptpLinked (s : State) (n : Nat) : Bool :=
  match s.waiting n with
  | some o => s.linked (bits (paramOf o.head) 2 0)
  | none => true

/-- PTP_SEND (R470): `host` is what host memory answers for SRC. -/
def execPtpSend (n : Fin 64) (host : List Byte) (reply : HostReply) (s : State) : Host.Outcome State Fault Refusal :=
  .next (if s.ptpLinked n.val then startOp n.val 0x11 s (startPtpSend host reply) else s)

/-- NET_LINK_DOWN (R407): a MAC loses link. -/
def execNetLinkDown (mac : Fin 8) (s : State) : Host.Outcome State Fault Refusal :=
  .next (s.whenReady (fun s =>
    if bit s.net.link mac.val = 1 then
      ({ s with net := { s.net with link := s.net.link - 2 ^ mac.val } }).raise .NET_LINK_DOWN
    else s))

/-- LINK_UP (R397): a MAC of a port that is not off gains link. -/
def execLinkUp (mac : Fin 8) (s : State) : Host.Outcome State Fault Refusal :=
  .next (s.whenReady (fun s =>
    let m := s.fd F.NET_PORT_CFG_MODE (mac.val / 4)
    if !s.linked mac.val && bit (modeMacs m) (mac.val % 4) == 1 then
      { s with net := { s.net with link := s.net.link + 2 ^ mac.val } }
    else s))

/-- NET_FRAME_DISCARD (R399): a frame whose FCS is wrong, or that is cut off or too long for a frame, arrives at a MAC. -/
def execNetFrameDiscard (mac : Fin 8) (s : State) : Host.Outcome State Fault Refusal :=
  .next (if !s.netOpen then s else s.bump F.NET_RX_DISCARD_COUNT 1 mac.val)

/-- LACE_OPEN (R142). -/
def execLaceOpen (s : State) : Host.Outcome State Fault Refusal := .next (s.hostCmd .LACE_CMD 1 doLaceOpen)

/-- LACE_CLOSE (R144). -/
def execLaceClose (s : State) : Host.Outcome State Fault Refusal := .next (s.hostCmd .LACE_CMD 2 doLaceClose)

/-- CHUNK_OPEN_ARRIVES (R151): the head stitch of a chunk of a UDP flow arrives for scope i. -/
def execChunkOpenArrives (i : Fin 2) (w : Stitch) (s : State) : Host.Outcome State Fault Refusal :=
  .next (s.whenReady (laceStitch i w))

/-- CHUNK (R147): further stitches arrive for scope i, and the oldest whole chunk is judged. -/
def execChunk (i : Fin 2) (l : List Stitch) (s : State) : Host.Outcome State Fault Refusal :=
  .next (s.whenReady (fun s => bindLate (chunkJudge i (laceIntake i l s))))

/-- REGISTER of LACE_LIB_CMD, with its claim of CHECK_PRIV[1]. -/
def doLibRegister (s : State) : State :=
  let s1 := libRegister s
  if s.lace.reg.isNone && s1.lace.reg.isSome then checkClaim 9 s1 else s1

/-- REGISTER (R137): the registration claims CHECK_PRIV[1] (R523). -/
def execRegister (s : State) : Host.Outcome State Fault Refusal :=
  .next (s.hostCmd .LACE_LIB_CMD 1 doLibRegister)

/-- REGISTER_DONE (R137, R138). -/
def execRegisterDone (s : State) : Host.Outcome State Fault Refusal :=
  .next (s.whenDram (fun s => if s.lace.reg.isSome then checkUnclaim 9 (libRegisterDone s) else s))

/-- UNREGISTER (R139). -/
def execUnregister (s : State) : Host.Outcome State Fault Refusal := .next (s.hostCmd .LACE_LIB_CMD 2 libUnregister)

end Sys2Proof.Machine
end

