-- ==== Sys2Proof/Machine/StoreCode.lean ====
section
/-! DEFINITION. Block coding (Chapter 6): the modes, the encoder's choice, slots, the decoder's checks and the feasibility check.
A block's pixels are a list of 1,024 target doses in pixel order. -/

namespace Sys2Proof.Machine

/-! ## Sizes and the choice of mode (R240) -/

/-- The 32 lines of a block. -/
def blockLines (pix : List Nat) : List (List Nat) := chunksOf 32 32 pix

/-- Number of runs of a line. -/
def runCount (l : List Nat) : Nat :=
  match l with
  | a :: b :: t => (if a = b then 0 else 1) + runCount (b :: t)
  | _ => l.length

/-- `size_runs`. -/
def sizeRuns (pix : List Nat) : Nat :=
  let ls := blockLines pix
  3 + sumN (ls.zipIdx.map (fun e =>
    if e.2 = 0 then 15 * runCount e.1
    else if e.1 = ls.getD (e.2 - 1) [] then 1 else 1 + 15 * runCount e.1))

/-- The offset that most pixels have against a candidate, the lowest of ties, and how many have it. -/
def bestOffset (pix ref : List Nat) : Int × Nat :=
  let d := (pix.zip ref).map (fun e => (e.1 : Int) - e.2)
  d.eraseDups.foldl (fun best x =>
    let n := d.count x
    if n > best.2 ∨ (n = best.2 ∧ x < best.1) then (x, n) else best) (-1023, 0)

/-- n_e (R239). -/
def effortCount (e : Nat) : Nat := if e = 0 then 0 else 2 ^ (e - 1)

/-- `best_ref` over candidates k to k + n − 1 of block i: bits, candidate, offset. -/
def bestRef (pix : List Nat) (ref : Nat → List Nat) (i k n : Nat) (best : Option (Nat × Nat × Int)) :
    Option (Nat × Nat × Int) :=
  match n with
  | 0 => best
  | n + 1 =>
    if k < i then
      let o := bestOffset pix (ref k)
      let bits_ := 30 + 20 * (1024 - o.2)
      let better := match best with
        | none => true
        | some b => decide (bits_ < b.1)
      bestRef pix ref i (k + 1) n (if better then some (bits_, k, o.1) else best)
    else best

/-- Lowest and highest pixel. -/
def minOf (pix : List Nat) : Nat := pix.foldl min 1023
def maxOf (pix : List Nat) : Nat := maxN pix

/-- NP of PLANES for a spread (R240). -/
def planeCount (spread : Nat) : Nat := 32 - clz spread 32

/-- The sizes of modes 0 to 4; none is "not applicable". -/
def modeSizes (pix : List Nat) (ref : Nat → List Nat) (i e : Nat) : List (Option Nat) :=
  let nd := pix.eraseDups.length
  [if nd = 1 then some 13 else none, if nd = 2 then some 1047 else none, some (sizeRuns pix),
   (bestRef pix ref i 0 (effortCount e) none).map (·.1),
   if maxOf pix > minOf pix then some (17 + 1024 * planeCount (maxOf pix - minOf pix)) else none]

/-- `choose_mode`: 7 when no mode fits. -/
def chooseMode (pix : List Nat) (ref : Nat → List Nat) (i e budget : Nat) : Nat :=
  ((modeSizes pix ref i e).zipIdx.foldl (fun (acc : Nat × Option Nat) z =>
    match z.1 with
    | none => acc
    | some n =>
      let better := match acc.2 with
        | none => true
        | some b => decide (n < b)
      if n ≤ budget ∧ better = true then (z.2, some n) else acc) (7, none)).1

/-! ## Writing a slot (R237, R238) -/

/-- A bit stream of (value, width) fields, least significant first. -/
def packBits (l : List (Nat × Nat)) : Nat :=
  match l with
  | [] => 0
  | (v, w) :: t => v % 2 ^ w + 2 ^ w * packBits t

/-- Runs of a line as (value, length). -/
def blockRuns (l : List Nat) : List (Nat × Nat) :=
  l.foldr (fun v acc => match acc with
    | (u, n) :: t => if u = v then (u, n + 1) :: t else (v, 1) :: (u, n) :: t
    | [] => [(v, 1)]) []

/-- Fields of a mode's code. -/
def modeFields (pix : List Nat) (ref : Nat → List Nat) (i e m : Nat) : List (Nat × Nat) :=
  match m with
  | 0 => [(pix.headD 0, 10)]
  | 1 =>
    let a := minOf pix; let b := maxOf pix
    [(a, 10), (b, 10)] ++ pix.map (fun v => (b2n (v == b), 1))
  | 2 =>
    let ls := blockLines pix
    (ls.zipIdx.map (fun z =>
      let runs := ((blockRuns z.1).map (fun r => [(r.1, 10), (r.2 - 1, 5)])).flatten
      if z.2 = 0 then runs
      else if z.1 = ls.getD (z.2 - 1) [] then [(1, 1)] else (0, 1) :: runs)).flatten
  | 3 => match bestRef pix ref i 0 (effortCount e) none with
    | none => []
    | some b =>
      let ex := ((pix.zip (ref b.2.1)).zipIdx).filter (fun z => decide ((z.1.1 : Int) - z.1.2 ≠ b.2.2))
      [(b.2.1, 6), (wrapU 11 b.2.2, 11), (ex.length, 10)] ++ (ex.map (fun z => [(z.2, 10), (z.1.1, 10)])).flatten
  | 4 =>
    let lo := minOf pix; let np := planeCount (maxOf pix - lo)
    [(lo, 10), (np, 4)] ++ ((List.range np).map (fun q => pix.map (fun v => (bit (v - lo) (np - 1 - q), 1)))).flatten
  | _ => []

/-- The block prefix (R243). -/
def blockPrefix (stripe br bc node : Nat) : List Byte := leBytes 4 stripe ++ leBytes 4 br ++ leBytes 2 bc ++ leBytes 2 node

/-- What the check values cover (R244, R245). -/
def checkBytes (pfx : List Byte) (pix : List Nat) : List Byte := pfx ++ (pix.map (leBytes 2)).flatten

/-- An ordinary slot of s bytes in mode m. -/
def slotBytes (s m : Nat) (pfx : List Byte) (pix : List Nat) (ref : Nat → List Nat) (i e : Nat) : List Byte :=
  leBytes (s - 2) (packBits ((m, 3) :: modeFields pix ref i e m)) ++ leBytes 2 (crc crcC16 (checkBytes pfx pix))

/-- A live slot of s bytes (R252). -/
def liveBytes (s : Nat) (d : LiveDesc) : List Byte :=
  leBytes 4 7 ++ leBytes 4 d.seqFirst ++ leBytes 2 d.seqCount ++ leBytes 2 0 ++ leBytes 4 d.cost ++ leBytes 4 d.expect ++
    leBytes 4 d.stream ++ List.replicate (s - 26) 0 ++ leBytes 2 d.check

/-- The live descriptor a slot holds. -/
def readLive (s : Nat) (l : List Byte) : LiveDesc :=
  ⟨leAt l 4 4, leAt l 8 2, leAt l 12 4, leAt l 16 4, leAt l 20 4, leAt l (s - 2) 2⟩

/-! ## Reading a slot (R242) -/

/-- One line's runs from a stream: the pixels and what is left; none when they exceed `want` pixels or the stream ends. -/
def readRuns (fuel want : Nat) (x left : Nat) : Option (List Nat × Nat × Nat) :=
  match fuel with
  | 0 => none
  | fuel + 1 =>
    if want = 0 then some ([], x, left)
    else if left < 15 then none
    else
      let n := bits x 14 10 + 1
      if n > want then none
      else (readRuns fuel (want - n) (x / 2 ^ 15) (left - 15)).map (fun r => (List.replicate n (bits x 9 0) ++ r.1, r.2))

/-- Lines of RUNS after `prev`, n of them. -/
def readRunLines (n : Nat) (first : Bool) (prev : List Nat) (x left : Nat) : Option (List Nat × Nat × Nat) :=
  match n with
  | 0 => some ([], x, left)
  | n + 1 =>
    let one : Option (List Nat × Nat × Nat) :=
      if first then readRuns 33 32 x left
      else if left = 0 then none
      else if bit x 0 = 1 then some (prev, x / 2, left - 1)
      else readRuns 33 32 (x / 2) (left - 1)
    match one with
    | none => none
    | some (l, x1, left1) => (readRunLines n false l x1 left1).map (fun r => (l ++ r.1, r.2))

/-- E exception pairs of strictly ascending POS from `lo`. -/
def readPairs (e lo x left : Nat) : Option (List (Nat × Nat) × Nat × Nat) :=
  match e with
  | 0 => some ([], x, left)
  | e + 1 =>
    if left < 20 ∨ bits x 9 0 < lo then none
    else (readPairs e (bits x 9 0 + 1) (x / 2 ^ 20) (left - 20)).map (fun r => ((bits x 9 0, bits x 19 10) :: r.1, r.2))

/-- The pixels of a code and the rest of the stream, for every mode but LIVE. -/
def readMode (m i ne : Nat) (ref : Nat → List Nat) (x left : Nat) : Option (List Nat × Nat × Nat) :=
  match m with
  | 0 => if left < 10 then none else some (List.replicate 1024 (bits x 9 0), x / 2 ^ 10, left - 10)
  | 1 =>
    if left < 1044 then none
    else some ((List.range 1024).map (fun p => if bit x (20 + p) = 1 then bits x 19 10 else bits x 9 0), x / 2 ^ 1044,
      left - 1044)
  | 2 => readRunLines 32 true [] x left
  | 3 =>
    if left < 27 then none
    else
      let k := bits x 5 0; let off := sext 11 (bits x 16 6)
      if k ≥ i ∨ k ≥ ne then none
      else match readPairs (bits x 26 17) 0 (x / 2 ^ 27) (left - 27) with
        | none => none
        | some (ex, x1, left1) =>
          let t := ex.foldl (fun (t : Sparse Nat) e => Sparse.put t e.1 e.2) []
          let p := (ref k).zipIdx.map (fun z => match Sparse.find? t z.2 with
            | some v => (v : Int)
            | none => (z.1 : Int) + off)
          if p.all (fun v => decide (0 ≤ v ∧ v ≤ 1023)) then some (p.map Int.toNat, x1, left1) else none
  | 4 =>
    if left < 14 then none
    else
      let lo := bits x 9 0; let np := bits x 13 10
      if np = 0 ∨ np > 10 ∨ lo + 2 ^ np - 1 > 1023 ∨ left < 14 + 1024 * np then none
      else some ((List.range 1024).map (fun p =>
        lo + sumN ((List.range np).map (fun q => bit x (14 + 1024 * (np - 1 - q) + p) * 2 ^ q))),
        x / 2 ^ (14 + 1024 * np), left - 14 - 1024 * np)
  | _ => none

/-- A slot's verdict: failed (R242), a live descriptor, or pixels. -/
inductive SlotRead where
  | failed
  | live (d : LiveDesc)
  | pixels (l : List Nat)
deriving DecidableEq, Repr

/-- A slot of s bytes of block i is decoded (R242): `stream` is the store header's STREAM_ID. -/
def readSlot (s i ne stream : Nat) (pfx : List Byte) (ref : Nat → List Nat) (l : List Byte) : SlotRead :=
  let x := leVal (l.take (s - 2))
  let m := x % 8
  if m = 7 then
    let d := readLive s l
    if bits x 31 3 = 0 ∧ leAt l 10 2 = 0 ∧ leVal (slice l 24 (s - 26)) = 0 ∧ d.seqCount ≠ 0 ∧ d.stream = stream then .live d
    else .failed
  else match readMode m i ne ref (x / 8) (8 * (s - 2) - 3) with
    | none => .failed
    | some (p, rest, _) =>
      if rest = 0 ∧ leAt l (s - 2) 2 = crc crcC16 (checkBytes pfx p) then .pixels p else .failed

/-! ## Feasibility (R257) -/

/-- What the check finds: the slack, and the failing row with the first row of its interval, or the single-job failure. -/
inductive FeasResult where
  | pass (slack : Int)
  | single (slack : Int)
  | rows (slack : Int) (first fail : Nat)
deriving DecidableEq, Repr

/-- What STORE_FEAS_SLACK reports of a result (R258). -/
def FeasResult.slack (r : FeasResult) : Int :=
  match r with
  | .pass k => k
  | .single k => k
  | .rows k _ _ => k

/-- The loop of `feasible` over the rows of l: `run` is (first row of the worst run, its sum) and `worst` the largest sum. -/
def feasLoop (kw lim : Int) (run : Option (Nat × Int)) (worst : Option Int) (bad : Option (Nat × Nat)) (l : List (Nat × Nat)) :
    Option Int × Option (Nat × Nat) :=
  match l with
  | [] => (worst, bad)
  | (r, c) :: t =>
    let x : Int := (c : Int) - kw
    let g := match run with
      | some (a, g) => if g > 0 then (a, g + x) else (r, x)
      | none => (r, x)
    let w := match worst with
      | some w => max w g.2
      | none => g.2
    feasLoop kw lim (some g) (some w) (bad.orElse (fun _ => if g.2 > lim then some (g.1, r) else none)) t

/-- `feasible` over rows (row, C[row]) with K, n, f_p, FBEAT, LEAD and c_max (R257, R258). -/
def feasible (l : List (Nat × Nat)) (k n fp fbeat lead cmax : Nat) : FeasResult :=
  let kw : Int := (k * 32 * 1000000 / fbeat : Nat)
  let kw1 : Int := (fp * 32 * 1000000 / fbeat : Nat)
  let one : Int := kw1 * lead - 4096
  if (cmax : Int) > one then .single (one - cmax)
  else
    let lim := kw * ((lead : Int) - 1) - (n : Int) * (4096 + cmax)
    let r := feasLoop kw lim none none none l
    let slack := match r.1 with
      | some w => lim - w
      | none => lim
    match r.2 with
    | some (a, f) => .rows slack a f
    | none => .pass slack

end Sys2Proof.Machine
end

