-- ==== Sys2Proof/Machine/Store.lean ====
section
/-! DEFINITION. The dose store (Chapter 6): coding, verification, live blocks, feasibility, delivery, and the commit rule (R40). -/

namespace Sys2Proof.Machine

/-! ## The region (R227 to R230) -/

/-- NC. -/
def State.blockCols (s : State) : Nat := s.geoW / 32
/-- S (R228). -/
def State.slotSize (s : State) : Nat := 512 / 2 ^ s.fd F.STORE_CFG_RATIO
/-- EFFORT. -/
def State.effort (s : State) : Nat := s.fd F.STORE_CFG_EFFORT
/-- LEAD. -/
def State.lead (s : State) : Nat := s.fd F.STORE_LIVE_LEAD_LEAD
/-- DRAM address of the store region. -/
def State.storeBase (s : State) : Nat := s.partBase + s.fd F.STORE_BASE_BASE_MB * 2 ^ 20
/-- Bytes of the live-cost array with its padding. -/
def State.costBytes (s : State) : Nat := (4 * s.blockRows + 4095) / 4096 * 4096
/-- SLOT_BASE (R229). -/
def State.slotBase (s : State) : Nat := 0x801000 + s.costBytes
/-- Bytes of the region (R229). -/
def State.storeBytes (s : State) : Nat := s.slotBase + s.blockRows * s.blockCols * s.slotSize
/-- DRAM address of block i's slot. -/
def State.slotAddr (s : State) (i : Nat) : Nat := s.storeBase + s.slotBase + i * s.slotSize
/-- DRAM address of C[br]. -/
def State.costAddr (s : State) (br : Nat) : Nat := s.storeBase + 0x801000 + 4 * br
/-- DRAM address of live-buffer entry e. -/
def State.liveAddr (s : State) (e : Nat) : Nat := s.storeBase + 0x1000 + 2048 * e
/-- Linear index of a block. -/
def State.blockIndex (s : State) (br bc : Nat) : Nat := br * s.blockCols + bc

/-- STREAM_ID of the bound scope; 0 with none. -/
def State.boundStream (s : State) : Nat :=
  match s.boundScope with
  | some i => (s.scope i).streamId
  | none => 0

/-- The store header (Table 6-2). -/
def State.storeHeader (s : State) : List Byte :=
  let b := leBytes 4 0x54535745 ++ leBytes 4 s.stripeId ++ leBytes 4 s.lines ++ leBytes 2 s.node ++ leBytes 2 s.geoW ++
    leBytes 1 (s.fd F.STORE_CFG_RATIO) ++ leBytes 1 s.effort ++ leBytes 2 0 ++ leBytes 4 s.boundStream ++
    leBytes 4 s.paramCrc ++ leBytes 4 s.store.verified ++ leBytes 4 (b2n (s.store.verified == s.blockRows)) ++
    leBytes 4 (s.fd F.STORE_LIVE_COUNT_COUNT) ++ leBytes 4 (s.fd F.STORE_LIVE_COST_MAX_CMAX) ++ List.replicate 16 0
  b ++ leBytes 4 (crc crcC32C b)

/-- The header is written (R231). -/
def writeHeader (s : State) : State := dramWrite s.storeBase s.storeHeader s

/-! ## Pixels -/

/-- Coded pixels of block i. -/
def State.codedBlock (s : State) (i : Nat) : List Nat :=
  let br := i / s.blockCols; let bc := i % s.blockCols
  (List.range 1024).map (fun p => Sparse.get 0 s.store.pixels ((32 * br + p / 32) * 4096 + 32 * bc + p % 32))

/-- Store the pixels of block i in a table by line × 4,096 + column. -/
def putBlock (cols i : Nat) (pix : List Nat) (t : Sparse Nat) : Sparse Nat :=
  let br := i / cols; let bc := i % cols
  (pix.zipIdx).foldl (fun t z => Sparse.set 0 t ((32 * br + z.2 / 32) * 4096 + 32 * bc + z.2 % 32) z.1) t

/-- Block prefix of block i (R243). -/
def State.prefixOf (s : State) (i : Nat) : List Byte := blockPrefix s.stripeId (i / s.blockCols) (i % s.blockCols) s.node

/-! ## Coding a block row (R239, R240, R252) -/

/-- Accepted body chunks that R165 reads for block row br. -/
def chunksFor (br : Nat) (sc : LaceScope) : List LaceChunk :=
  sc.chunks.filter (fun c => c.seq != 0 && decide (c.winStart < 32 * br + 32) &&
    decide (32 * br < c.winStart + 32 * (c.winBlocks + c.reachBlocks)))

/-- The live descriptor of block i (R252, R183, R244, R245). -/
def State.liveDesc (s : State) (sc : LaceScope) (i : Nat) (pix : List Nat) : LiveDesc :=
  let br := i / s.blockCols
  let seqs := (chunksFor br sc).map (·.seq)
  let first := seqs.foldl min (seqs.headD 0)
  let bytes := checkBytes (s.prefixOf i) pix
  { seqFirst := first, seqCount := maxN seqs + 1 - first, cost := s.liveCost sc br (i % s.blockCols) % 2 ^ 32,
    expect := crc crcC32C bytes, stream := sc.streamId, check := crc crcC16 bytes }

/-- Block i becomes a live block: its slot is written and its chunks are pinned (R156, R252). -/
def makeLive (i : Nat) (pix : List Nat) (s : State) : State :=
  match s.boundScope with
  | none => s
  | some k =>
    let sc := s.scope k
    let d := s.liveDesc sc i pix
    let pin := (chunksFor (i / s.blockCols) sc).map (·.seq)
    let s1 := s.setScope k { sc with chunks := sc.chunks.map (fun c => if pin.contains c.seq then { c with pinned := true } else c) }
    let s2 := { s1 with store := { s1.store with live := Sparse.put s1.store.live i d } }
    dramWrite (s2.slotAddr i) (liveBytes s2.slotSize d) s2

/-- One block is coded into its slot (R240). -/
def codeBlock (br : Nat) (s : State) (z : List Nat × Nat) : State :=
  let i := s.blockIndex br z.2
  let ref (k : Nat) : List Nat := s.codedBlock (i - 1 - k)
  let m := chooseMode z.1 ref i s.effort (8 * (s.slotSize - 2))
  let s1 := s.bump F.STORE_MODE_COUNT_COUNT 1 m
  let s2 := if m = 7 then makeLive i z.1 s1
    else dramWrite (s1.slotAddr i) (slotBytes s1.slotSize m (s1.prefixOf i) z.1 ref i s1.effort) s1
  { s2 with store := { s2.store with pixels := putBlock s2.blockCols i z.1 s2.store.pixels } }

/-- A block row of target doses, by block column, is coded. -/
def codeRow (blocks : List (List Nat)) (s : State) : State :=
  let br := s.store.coded
  let s1 := blocks.zipIdx.foldl (codeBlock br) s
  { s1 with store := { s1.store with coded := br + 1 } }

/-- Target doses of block row br from the delivered coverage (R198, R199), with the number of clamped pixels. -/
def State.rowDoses (s : State) (br : Nat) : List (List Nat × Nat) :=
  (List.range s.blockCols).map (fun bc =>
    s.blockDoses s.fmapPhi (fun p => s.wd (32 * br + p / 32) (32 * bc + p % 32)) br bc)

/-- The eight correction engines, each of which modulates every eighth line (R222), and the store's encoder and verifier: the units of
their classes. -/
def corrEngines : List Nat := List.range 8
def encoderUnit : Nat := 0
def verifierUnit : Nat := 1

/-- The power budget lets a block row of target doses be computed and coded (R515). -/
def State.mayDeliver (s : State) : Bool := corrEngines.all (s.mayIssue classCorr) && s.mayIssue classStore encoderUnit

/-- Block rows that correction may deliver are delivered in ascending order, `fuel` at most (R207), within the power budget (R515). -/
def deliverRows (fuel : Nat) (s : State) : State :=
  match fuel with
  | 0 => s
  | fuel + 1 =>
    let br := s.store.coded
    if br < s.blockRows ∧ s.blockDeliverable br = true ∧ s.corr.stopped = false ∧ s.mayDeliver = true then
      if s.factorsBad br then corrDataLost s else
      let rows := s.rowDoses br
      let s1 := charge classStore encoderUnit (corrEngines.foldl (fun s u => charge classCorr u s) s)
      deliverRows fuel (codeRow (rows.map (·.1)) (doseClamps (sumN (rows.map (·.2))) s1))
    else s

/-- CORR_ROW_FINAL (R207): rows that are final enter the factor map, where the engines' budget lets them (R515), and block rows go to the
store. -/
def corrRowFinal (s : State) : State :=
  if !(s.plan.state.active) || s.fromStore || s.corr.stopped || s.corr.densityMissing then s
  else
    let s1 := s.rewait
    let s2 := issueWork classCorr corrEngines (fun s => finalRows s.boundHeader (s.cellRows + 1) s) s1
    (deliverRows s2.blockRows s2).rewait

/-! ## The reserve's capacity (R185) -/

/-- f_b in MHz: the frequency of the bobbin's pillow at FLOOR_OP. -/
def State.floorMhz (s : State) (b : Nat) : Nat :=
  match s.str.islands[3 + b / 8]? with
  | none => 400
  | some e =>
    let out := match s.str.plls[e.pll]? with
      | some p => p.outKhz
      | none => 0
    (pillowKhz out e.postDiv (1000 * (s.opPoint (s.fd F.BOB_LIVE_CFG_FLOOR_OP)).1) / 1000).floor.toNat

/-- The reserved bobbins in service. -/
def State.reservedUnits (s : State) : List Nat := (List.range 32).filter (fun b => (s.unit b).reserved && s.inService b)
/-- K, n and f_p (R185). -/
def State.capK (s : State) : Nat := sumN (s.reservedUnits.map s.floorMhz)
def State.capN (s : State) : Nat := s.reservedUnits.length
def State.capF (s : State) : Nat :=
  match s.reservedUnits.map s.floorMhz with
  | [] => 0
  | f :: t => t.foldl min f

/-! ## Feasibility (R257 to R259) -/

/-- FBEAT in Hz: the highest beat rate R31 allows. -/
def State.fbeat (s : State) : Nat := min 2500000 (2560000000 / s.geoW)

/-- Causes that the rule's own instant has reached: the damp of R45 while the stripe runs. -/
def State.underrunNow (s : State) (c : FaultCode) : State :=
  let s1 := s.raise c
  if s1.plan.state.running then s1.underrunDamp else s1

/-- Rows from LEAD + 3 to the last verified, with their costs. -/
def State.costRows (s : State) : List (Nat × Nat) :=
  (List.range' (s.lead + 3) (s.store.verified - (s.lead + 3))).map (fun r => (r, s.dramLe (s.costAddr r) 4))

/-- The check's present result. -/
def State.feasResult (s : State) : FeasResult :=
  feasible s.costRows s.capK s.capN s.capF s.fbeat s.lead (s.fd F.STORE_LIVE_COST_MAX_CMAX)

/-- Lowest row with a live block of cost c_max. -/
def State.maxCostRow (s : State) : Nat :=
  match List.find? (fun e : Nat × LiveDesc => e.2.cost == s.fd F.STORE_LIVE_COST_MAX_CMAX) s.store.live with
  | some e => e.1 / s.blockCols
  | none => 0

/-- A failure of R257 with the first row of its interval and the row it records (R258, R259). -/
def feasFail (a row : Nat) (slack : Int) (s : State) : State :=
  let at_ := 32 * (a - s.lead)
  let s1 := { s with store := { s.store with feasOk := false, feasSlack := slack, feasDampAt := some at_ } }
  let s2 := (s1.setFd F.STORE_FEAS_FAIL_ROW_ROW row).setFd F.STORE_FEAS_FAIL_ROW_VALID 1
  if s2.plan.state.running && decide (s2.store.delivered ≥ at_) then s2.underrunNow .STO_LIVE_INFEASIBLE
  else s2.raise .STO_LIVE_INFEASIBLE

/-- A result of the check takes effect (R258, R259). -/
def takeFeas (r : FeasResult) (s : State) : State :=
  match r with
  | .pass k => { s with store := { s.store with feasOk := true, feasSlack := k, feasDampAt := none } }
  | .single k => feasFail s.maxCostRow s.maxCostRow k s
  | .rows k a r => feasFail a r k s

/-- The check is evaluated (R258). -/
def evalFeas (s : State) : State := takeFeas s.feasResult s

/-- An operation that may bring bobbins into or out of service: where it does while the stripe is in ARMED to RUN_OUT, the
reserve is formed again, and the check is evaluated where K, n or f_p changed (R182, R258). -/
def serviceWrap (f : State → State) (s : State) : State :=
  let s1 := f s
  if s1.serviceMask = s.serviceMask ∨ s1.plan.state.active = false ∨ s1.native = false then s1
  else
    let s2 := assignLive (formReserve s1)
    if s2.capK = s.capK ∧ s2.capN = s.capN ∧ s2.capF = s.capF then s2 else evalFeas s2

/-- An operation that may change K, n or f_p: the check is evaluated again where it does while the stripe is in ARMED to RUN_OUT
(R258). -/
def capWrap (f : State → State) (s : State) : State :=
  let s1 := f s
  if s1.plan.state.active = false ∨ s1.native = false ∨ (s1.capK = s.capK ∧ s1.capN = s.capN ∧ s1.capF = s.capF) then s1
  else evalFeas s1

/-! ## Head rows and the commit rule (R40, R255) -/

/-- Number of head rows. -/
def State.headRows (s : State) : Nat := min (s.lead + 3) s.blockRows

/-- Live blocks of row br, by linear index. -/
def State.liveOf (s : State) (br : Nat) : List Nat :=
  (s.store.live.filter (fun e : Nat × LiveDesc => e.1 / s.blockCols == br)).map (·.1)

/-- Block i is in the live buffer. -/
def State.inLiveBuffer (s : State) (i : Nat) : Bool := s.store.liveEntry.any (fun e => e.1 == i)

/-- STORE_STATUS.HEAD_READY (R255). -/
def State.headReady (s : State) : Bool :=
  decide (0 < s.headRows) && decide (s.headRows ≤ s.store.verified) &&
  (List.range s.headRows).all (fun br => (s.liveOf br).all s.inLiveBuffer)

/-- The coded lines that R40 counts (R246). -/
def State.codedLines (s : State) : Nat := min s.lines (32 * s.store.verified)

/-- R40's look-ahead condition. -/
def State.lookaheadOk (s : State) : Bool :=
  match s.firstLine with
  | none => true
  | some (f, _) => decide (min (s.fd F.PLAN_LOOKAHEAD_LINES) (s.lines - f) + f ≤ s.codedLines)

/-- R40's feasibility condition. -/
def State.liveOk (s : State) : Bool := s.store.feasOk && s.headReady

/-- R40's compensation condition (R273). -/
def State.compOk (s : State) : Bool :=
  !s.compFail && [0, 1].all (fun d => !(s.hasNeighbour d) || (s.plan.edgeOk[d]?).getD false) &&
  decide ((if s.fromStore then s.lines else min s.lines (s.fd F.PLAN_LOOKAHEAD_LINES)) ≤ s.compLines)

/-- Data of the stripe that will never come: a row lost (R247), correction stopped (R221), a tile that is never delivered
(R186, R190). The device is then not committed. -/
def State.dataLost (s : State) : Bool := s.store.lostRow.isSome || s.corr.stopped || decide ((s.tiles 0).stuck ≠ [])

/-- R40 without its match condition. -/
def State.committedSelf (s : State) : Bool :=
  s.plan.state.active && s.native && s.lookaheadOk && s.liveOk && s.compOk && !s.dataLost

/-- This device meets R40. A member learns of a mismatch from the VERIFY that passes it; the lead's configuration matches its
own. -/
def State.committed (s : State) : Bool := s.committedSelf && (s.leads || !s.plan.failMatch)

/-! ## Verification (R246, R247, R253) -/

/-- Slot i reads back as coded. -/
def State.slotGood (s : State) (i : Nat) : Bool :=
  let n := s.slotSize
  let a := s.slotAddr i
  let l := s.dramBytes a n
  let stream := leAt (s.dramBytes s.storeBase 64) 0x14 4
  let ref (k : Nat) : List Nat := s.codedBlock (i - 1 - k)
  !(s.dramBad a n) &&
  (match readSlot n i (effortCount s.effort) stream (s.prefixOf i) ref l with
    | .failed => false
    | .pixels p => p == s.codedBlock i
    | .live d => Sparse.find? s.store.live i == some d)

/-- A block of the row is verified: a failing slot is rewritten as live and verified again (R247). -/
def verifyBlock (acc : Bool × State) (i : Nat) : Bool × State :=
  let s := acc.2
  if s.slotGood i then acc
  else
    let s1 := (s.bump F.STORE_VERIFY_FAIL_COUNT_COUNT).raise .STO_VERIFY_FAIL
    let s2 := makeLive i (s1.codedBlock i) s1
    (acc.1 && s2.slotGood i, s2)

/-- C[br], LIVE_COUNT and COST_MAX follow the live slots of a verified row (R253). -/
def costRow (br : Nat) (s : State) : State :=
  let costs := (s.store.live.filter (fun e : Nat × LiveDesc => e.1 / s.blockCols == br)).map (fun e => e.2.cost)
  if costs = [] then s
  else
    let s1 := dramWrite (s.costAddr br) (leBytes 4 (min 0xFFFFFFFF (sumN costs))) s
    (s1.bump F.STORE_LIVE_COUNT_COUNT costs.length).setFd F.STORE_LIVE_COST_MAX_CMAX
      (max (maxN costs) (s1.fd F.STORE_LIVE_COST_MAX_CMAX))

/-- Live jobs of row br become ready, those in the live buffer left out. -/
def queueRow (br : Nat) (s : State) : State :=
  queueLive (((s.liveOf br).filter (fun i => !(s.inLiveBuffer i))).map (fun i => ⟨br, i % s.blockCols, none⟩)) s

/-- The release point of row br has been reached (R256, R260). -/
def State.releasePassed (s : State) (br : Nat) : Bool :=
  s.plan.state.running && decide (32 * br ≤ s.store.delivered + 32 * s.lead) && decide (s.headRows ≤ br)

/-- Buffer space of coded chunks is freed (R156). -/
def freeCoded (s : State) : State :=
  let done (c : LaceChunk) : Bool := c.seq != 0 && !c.pinned && !c.freed &&
    decide (min s.lines (c.winStart + 32 * (c.winBlocks + c.reachBlocks)) ≤ s.codedLines)
  match s.boundScope with
  | none => s
  | some k =>
    if (s.scope k).chunks.any done then
      s.setScope k { s.scope k with
        chunks := (s.scope k).chunks.map (fun c => if done c then { c with freed := true } else c) }
    else s

/-- What follows when row br counts as verified (R231, R246, R253, R255, R258, R260, R272, R275). -/
def rowVerified (br : Nat) (s : State) : State :=
  let s1 := costRow br s
  let s2 := { s1 with store := { s1.store with verified := br + 1 } }
  let s3 := evalFeas (writeHeader s2)
  let s4 := freeCoded (sendSeam br s3)
  let s5 := runCapacity s4
  let s6 := if br < s5.headRows then queueRow br s5
    else if s5.releasePassed br && decide (s5.liveOf br ≠ []) then
      queueRow br { s5 with store := { s5.store with released := max s5.store.released (br + 1) } }
    else s5
  let late := s5.releasePassed br && decide (s5.liveOf br ≠ []) && decide (br < s5.store.released)
  (if late then s6.underrunNow .STO_LIVE_LATE else s6).reseam

/-- STORE_ROW_VERIFY (R246, R247): the next coded row is read back, within the verifier's budget (R515). -/
def storeRowVerify (s : State) : State :=
  let br := s.store.verified
  if !(s.plan.state.active) || s.fromStore || !s.native || decide (br ≥ s.store.coded) || s.store.lostRow.isSome ||
      !(s.mayIssue classStore verifierUnit) then s
  else
    let r := ((List.range s.blockCols).map (s.blockIndex br)).foldl verifyBlock (true, charge classStore verifierUnit s)
    if r.1 then rowVerified br r.2
    else
      let s1 := { r.2 with store := { r.2.store with lostRow := some br } }
      s1.underrun .STO_ROW_LOST s1.plan.pass (32 * br)

/-! ## Live jobs (R220, R254) -/

/-- Lowest free entry of the live buffer. -/
def State.freeEntry (s : State) : Nat :=
  ((List.range 4096).find? (fun e => !(s.store.liveEntry.any (fun x => x.2 == e)))).getD 0

/-- The doses of a block's coverage words, with the number clamped; phi2 comes from the factor map (R220). -/
def State.liveDoses (s : State) (words : Sparse Nat) (br bc : Nat) : List Nat × Nat :=
  s.blockDoses s.fmapPhi (fun p => bits (Sparse.get 0 words p) 34 13) br bc

/-- A live job's result is checked and, where right, written to the live buffer (R254). -/
def liveResult (br bc : Nat) (words : Sparse Nat) (s : State) : State :=
  let i := s.blockIndex br bc
  let d := readLive s.slotSize (s.dramBytes (s.slotAddr i) s.slotSize)
  if s.corrOn && s.dramBad s.fmapBase (64 + 2 * s.fmapCols * s.fmapRows) then corrDataLost s
  else
    let r := s.liveDoses words br bc
    let s := doseClamps r.2 s
    let bytes := checkBytes (s.prefixOf i) r.1
    if crc crcC32C bytes = d.expect ∧ crc crcC16 bytes = d.check ∧ s.dramBad (s.slotAddr i) s.slotSize = false then
      let e := s.freeEntry
      let s1 := dramWrite (s.liveAddr e) ((r.1.map (leBytes 2)).flatten) s
      { s1 with store := { s1.store with liveEntry := s1.store.liveEntry ++ [(i, e)] } }
    else { s.raise .STO_LIVE_MISMATCH with store := { s.store with mismatched := s.store.mismatched ++ [i] } }

/-! ## Delivery (R248 to R251, R256, R260) -/

/-- Pixels of block i as delivery decodes it: from the live buffer, or from its slot; none where R242 fails it. -/
def State.decodeBlock (s : State) (i : Nat) : Option (List Nat) :=
  let n := s.slotSize
  let a := s.slotAddr i
  let hd := s.dramBytes s.storeBase 64
  let ref (k : Nat) : List Nat :=
    let j := i - 1 - k
    (List.range 1024).map (fun p => Sparse.get 0 s.plan.doses ((32 * (j / s.blockCols) + p / 32) * 4096 +
      32 * (j % s.blockCols) + p % 32))
  if s.dramBad a n then none
  else match readSlot n i (effortCount (leAt hd 0x11 1)) (leAt hd 0x14 4) (s.prefixOf i) ref (s.dramBytes a n) with
    | .failed => none
    | .pixels p => some p
    | .live _ => match s.store.liveEntry.find? (fun e => e.1 == i) with
      | some e => if s.dramBad (s.liveAddr e.2) 2048 then none
          else some ((List.range 1024).map (fun p => s.dramLe (s.liveAddr e.2 + 2 * p) 2))
      | none => none

/-- Block i, decoded as p, joins the planner's doses; false where decoding failed. -/
def placeBlock (i : Nat) (p : Option (List Nat)) (acc : Bool × State) : Bool × State :=
  match p with
  | some p => (acc.1, { acc.2 with plan := { acc.2.plan with doses := putBlock acc.2.blockCols i p acc.2.plan.doses } })
  | none => (false, acc.2)

/-- Block i is decoded. -/
def decodeStep (acc : Bool × State) (i : Nat) : Bool × State := placeBlock i (acc.2.decodeBlock i) acc

/-- Blocks of the row at the delivery point are decoded; false where one fails. -/
def decodeRow (br : Nat) (s : State) : Bool × State :=
  ((List.range s.blockCols).map (s.blockIndex br)).foldl decodeStep (true, s)

/-- Rows whose release point the delivery point has reached are released, `fuel` at most (R256, R260). -/
def releaseRows (fuel : Nat) (s : State) : State :=
  match fuel with
  | 0 => s
  | fuel + 1 =>
    let br := s.store.released
    if br < s.blockRows ∧ 32 * br ≤ s.store.delivered + 32 * s.lead then
      let s1 := { s with store := { s.store with released := br + 1 } }
      let s2 := if br < s1.store.verified then queueRow br s1
        else if s1.liveOf br ≠ [] then s1.underrunNow .STO_LIVE_LATE else s1
      releaseRows fuel s2
    else s

/-- The delivery point stands at the deadline of a block row, and a live block of it is not in the live buffer (R256,
R260). -/
def State.deadlineMissed (s : State) : Bool :=
  s.store.delivered % 32 == 0 && decide (s.store.delivered < s.lines) && !s.store.failed &&
  (s.liveOf (s.store.delivered / 32)).any (fun i => !(s.inLiveBuffer i))

/-- The delivery point has moved: rows are released, the deadline of the row it stands at is judged, and the damp of R259 comes
due (R256, R259, R260). -/
def deliveryMoved (s : State) : State :=
  let s0 := releaseRows s.blockRows s
  let s1 := if s0.deadlineMissed then { s0 with store := { s0.store with failed := true } }.underrunNow .STO_LIVE_LATE else s0
  match s1.store.feasDampAt with
  | some a => if s1.store.delivered ≥ a ∧ s1.plan.state.running = true then
      { s1 with store := { s1.store with feasDampAt := none } }.underrunDamp
    else s1
  | none => s1

/-- A delivered row's released blocks leave the live buffer (R256). -/
def leaveBuffer (br : Nat) (s : State) : State :=
  if br < s.headRows then s
  else { s with store := { s.store with liveEntry := s.store.liveEntry.filter (fun e => e.1 / s.blockCols != br) } }

/-- Line n = STORE_DELIVERED is delivered where it is verified and its beat has come (R248). At the first line of a block row
its slots must decode (R251). -/
def deliverLine (s : State) : State :=
  let n := s.store.delivered
  let br := n / 32
  if !(s.plan.state.running) || !s.native || decide (n ≥ s.lines) || decide (n ≥ s.plan.beat + 96) ||
      decide (br ≥ s.store.verified) || s.store.failed then s
  else
    let r := if n % 32 = 0 then decodeRow br s else (true, s)
    if r.1 then
      let s1 := { r.2 with store := { r.2.store with delivered := n + 1 } }
      let s2 := if (n + 1) % 32 = 0 ∨ n + 1 = s1.lines then leaveBuffer br s1 else s1
      deliveryMoved s2
    else
      { s with store := { s.store with failed := true } }.underrun .STO_DECODE_FAIL s.plan.pass n (some s.plan.beat)

/-- `fuel` lines at most are delivered. -/
def deliverLines (fuel : Nat) (s : State) : State :=
  match fuel with
  | 0 => s
  | fuel + 1 => deliverLines fuel (deliverLine s)

/-- The store at entry to RUN_IN of a pass: delivery starts again with lines 0 to 95 (R248). -/
def storePass (s : State) : State :=
  let s1 := { s with
    store := { s.store with delivered := 0, released := s.headRows, failed := false }
    plan := { s.plan with doses := [], beat := 0 } }
  deliverLines 96 (deliveryMoved s1)

/-! ## Store source at ARM (R233, R272) -/

/-- The header of the region may be used in store source (R233). -/
def State.storeHeaderOk (s : State) : Bool :=
  let h := s.dramBytes s.storeBase 64
  !(s.dramBad s.storeBase 64) && decide (leAt h 0 4 = 0x54535745) && decide (leAt h 0x3C 4 = crc crcC32C (h.take 0x3C)) &&
  decide (leAt h 0x20 4 = 1) && decide (leAt h 4 4 = s.stripeId) && decide (leAt h 8 4 = s.lines) &&
  decide (leAt h 0xC 2 = s.node) && decide (leAt h 0xE 2 = s.geoW) && decide (leAt h 0x10 1 = s.fd F.STORE_CFG_RATIO) &&
  decide (leAt h 0x18 4 = s.paramCrc)

/-- Coverage words of the area of block (br, bc) from the bound scope. -/
def State.blockWords (s : State) (br bc : Nat) : Sparse Nat :=
  match s.boundScope with
  | none => []
  | some k =>
    let sc := s.scope k
    let j := s.jobShapes sc (32 * br) (32 * br + 32) (32 * bc) (32 * bc + 32)
    s.coverWords sc j (32 * br) (32 * br + 32) (32 * bc) (32 * bc + 32)

/-- The live descriptors and the pixels of a stored stripe, as far as its slots decode: blocks i to i + n − 1. A live block
counts with the pixels it regenerates to. -/
def loadBlocks (n i : Nat) (s : State) : State :=
  match n with
  | 0 => s
  | n + 1 =>
    let a := s.slotAddr i
    let hd := s.dramBytes s.storeBase 64
    let ref (k : Nat) : List Nat := s.codedBlock (i - 1 - k)
    let s1 := match readSlot s.slotSize i (effortCount (leAt hd 0x11 1)) (leAt hd 0x14 4) (s.prefixOf i) ref
        (s.dramBytes a s.slotSize) with
      | .failed => s
      | .pixels p => { s with store := { s.store with pixels := putBlock s.blockCols i p s.store.pixels } }
      | .live d =>
        let br := i / s.blockCols; let bc := i % s.blockCols
        let pix := (s.liveDoses (s.blockWords br bc) br bc).1
        { s with store := { s.store with
            live := Sparse.put s.store.live i d
            pixels := putBlock s.blockCols i pix s.store.pixels } }
    loadBlocks n (i + 1) s1

/-! ## Meanings -/

/-- CORR_ROW_FINAL (R207). -/
def execCorrRowFinal (s : State) : Host.Outcome State Fault Refusal := .next (s.edgeDram corrRowFinal)

/-- STORE_ROW_VERIFY (R246). -/
def execStoreRowVerify (s : State) : Host.Outcome State Fault Refusal := .next (s.edgeDram storeRowVerify)

/-- STORE_LINE_DELIVER (R248). -/
def execStoreLineDeliver (s : State) : Host.Outcome State Fault Refusal := .next (s.edgeDram deliverLine)

end Sys2Proof.Machine
end

