-- ==== Sys2Proof/Machine/Memory.lean ====
section
/-! DEFINITION. DRAM requests as the controller sees them (R221, R426, R432 to R435, R438 to R441, R444, R445). -/

namespace Sys2Proof.Machine

/-- A correction engine's request (Table 12-4). -/
def corrSource (src : Nat) : Bool := decide (0x20 ≤ src ∧ src ≤ 0x27)

/-- Correction data was lost (R221). -/
def corrRead (src : Nat) (poison sram : Bool) (s : State) : State :=
  if !corrSource src then s
  else
    let s1 := if sram then (s.bump F.HBM_SRAM_UE_COUNT_COUNT).raise .MEM_SRAM_UNCORR else s
    if (poison || sram) && s.native && s.plan.state.active then corrDataLost s1 else s1

/-- The source of a request that has one. -/
def DramReq.src? (r : DramReq) : Option Nat :=
  match r with
  | .write src _ _ _ => some src
  | .read src _ _ _ _ _ _ => some src
  | _ => none

/-- The source is admitted, and its request activates its row where `act` says so. -/
def serveSource (src a : Nat) (act : Bool) (s : State) : State := admitted src (if act then activate src a s else s)

/-- A request is served. A read of the codeword at a is answered by the DRAM from `at_` with data and check bits disturbed; `sram`
says that a correction engine's SRAM loses what it has read. -/
def serveReq (r : DramReq) (s : State) : State :=
  match r with
  | .write src a act l => dramWrite a l (serveSource src a act s)
  | .read src a act at_ flipData flipCheck sram =>
    let s1 := serveSource src a act s
    let c := readClass src (a / 16 * 16) (s1.syndrome (a / 16 * 16) (at_ / 16 * 16) flipData flipCheck) s1
    corrRead src c.1 sram c.2
  | .engine a l => dramWrite a l s
  | .poison a n => dramPoison a n s

/-- A request arrives (R426, R433, R435, R444): beyond the address space it is turned away with MEM_ADDR_RANGE, a read being
poison; in a fill it is held; it waits while its source is throttled, or behind an earlier request of its source; else it is
served. Where the DRAM is not accessible a write is discarded and a read is poison (assumption log 76). -/
def dramRequest (r : DramReq) (s : State) : State :=
  let waits : Bool := match r.src? with
    | some src => s.throttled src || s.hbm.waiting.any (fun x => x.src? == some src)
    | none => false
  let hold (s : State) : State :=
    if s.hbm.filling then holdReq r s
    else if waits then { s with hbm := { s.hbm with waiting := s.hbm.waiting ++ [r] } }
    else serveReq r s
  match r with
  | .write _ a _ l => if l = [] ∨ a + l.length > dramEnd ∨ s.hbm.accessible = false then dramWrite a l s else hold s
  | .read src a _ _ _ _ sram =>
    if a ≥ dramEnd then corrRead src true sram (s.raise .MEM_ADDR_RANGE)
    else if !s.hbm.accessible then corrRead src true sram s
    else hold s
  | _ => hold s

/-- Waiting requests are admitted, in order, where their sources may be (R433). -/
def serveWaiting (s : State) : State :=
  if s.hbm.waiting = [] then s
  else s.hbm.waiting.foldl (fun s r => dramRequest r s) { s with hbm := { s.hbm with waiting := [] } }

/-- The end of a fill (R444, R445): what was held is performed on the filled memory. -/
def doFillDone (bad : Nat) (s : State) : State :=
  if !s.hbm.filling then s
  else
    let s1 := fillEnd bad s
    s1.hbm.held.foldl (fun s r => dramRequest r s) { s1 with hbm := { s1.hbm with held := [] } }

/-- DRAM_WRITE (R435, R437): a write of up to 512 bytes by a source; `act` says whether it activates its row. -/
def execDramWrite (src : BitVec 8) (a : BitVec 36) (act : Bool) (data : List Byte) (s : State) : Host.Outcome State Fault Refusal :=
  .next (s.whenReady (dramRequest (.write src.toNat a.toNat act data)))

/-- DRAM_READ (R438): `at_` is the codeword that answers, `flipData` and `flipCheck` the bits that come back wrong. -/
def execDramRead (src : BitVec 8) (a : BitVec 36) (act : Bool) (at_ : BitVec 36) (flipData : BitVec 128) (flipCheck : BitVec 16)
    (sram : Bool) (s : State) : Host.Outcome State Fault Refusal :=
  .next (s.whenReady (dramRequest (.read src.toNat a.toNat act at_.toNat flipData.toNat flipCheck.toNat sram)))

end Sys2Proof.Machine
end

