-- ==== Sys2Proof/Machine/TlRaster.lean ====
section
/-! DEFINITION. TL-40 rasterization and the line ring (R163, R164, R572 to R575). -/

namespace Sys2Proof.Machine

/-- Base address and size of the partition of pipeline j (R59, R61). -/
def State.pipePart (s : State) (j : Nat) : Nat × Nat :=
  match s.str.pipes[j]? with
  | some p => (s.str.parts[p.partition]?).getD (0, 0)
  | none => (0, 0)

/-- The pixel size of a personality in LU (R4). -/
def Pers.pixel (p : Pers) : Nat := 40 * 2 ^ (min 2 p.pixelSel)

/-! ## Rasterization (R572, R574) -/

/-- d of a side code. -/
def tlSide (c : Nat) : Int := if c = 1 then 1 else if c = 2 then -1 else 0

/-- The polygon of instance (i, j) of a shape in LU (R572); q is P / 8. -/
def TlShape.poly (h : TlShape) (q : Int) (i j : Nat) : List Seg :=
  let x : Int := h.x + (i * h.dx : Nat)
  let y : Int := (h.y + j * h.dy : Nat)
  let w : Int := (h.w : Nat); let ht : Int := (h.h : Nat)
  polySegs ([(x, y), (x + w, y), (x + w + tlSide h.sr * ht, y + ht), (x + tlSide h.sl * ht, y + ht)].map
    (fun (e : Int × Int) => (e.1 * q, e.2 * q)))

/-- The instances of a shape that reach line n, with its dose index as their class. -/
def TlShape.onLine (h : TlShape) (q : Int) (n : Nat) : List (Nat × List Seg) :=
  let rows := (List.range h.ny).filter (fun j =>
    decide (h.y + j * h.dy < 8 * (n + 1)) && decide (8 * n < h.y + j * h.dy + h.h))
  (rows.map (fun j => (List.range h.nx).map (fun i => (h.dose, h.poly q i j)))).flatten

/-- The shapes that reach line n. -/
def Pers.onLine (p : Pers) (n : Nat) : List (Nat × List Seg) :=
  (p.shapes.map (fun h => h.onLine ((p.pixel / 8 : Nat) : Int) n)).flatten

/-- The coverage words of line n (R574): dose index d is class d, with PRIORITY d and the level of index d as its DOSE. A line that no
shape reaches has none. -/
def Pers.lineWords (p : Pers) (n : Nat) : List Nat :=
  match p.onLine n with
  | [] => []
  | l =>
    let cls := byPriority ((List.range 16).map (fun d => (d, p.doses.getD d 0, d)))
    let sp := lineSpans n (p.pixel : Nat) 1024 l (cls.map (·.1))
    (List.range 1024).map (coverageWord cls sp)

/-- The coverage words of tile t, by line × 1,024 + column; lines from L on are zero (R163). -/
def Pers.tileWords (p : Pers) (t : Nat) : Sparse Nat :=
  (List.range (min 32 (p.lines - 32 * t))).foldl (fun m i =>
    (p.lineWords (32 * t + i)).foldl (fun (e : Nat × Sparse Nat) w => (e.1 + 1, Sparse.set 0 e.2 e.1 w)) (1024 * i, m) |>.2) []

/-- The crossings that tile t computes (R180). -/
def Pers.tileCrossings (p : Pers) (t : Nat) : Nat :=
  sumN ((List.range (min 32 (p.lines - 32 * t))).map (fun i =>
    let n := 32 * t + i
    jobCrossings n (n + 1) 0 1024 (p.pixel : Nat) 1024 ⟨p.onLine n, 0, []⟩))

/-- A pixel's code from its coverage word (R574). -/
def tlCodeOf (w : Nat) : Nat := (sat (rshiftRound (bits w 34 13 : Nat) 12) 0 15).toNat

/-! ## Tiles (R163, R164, R573) -/

/-- Last line of tile t: a tile is a row of 32 lines over the whole band of 1,024 pixels. -/
def Pers.tileLast (p : Pers) (t : Nat) : Nat := min (32 * t + 31) (p.lines - 1)

/-- The first line the ring may not be given yet (R575): 65,536 before the first beat, and k − 1,008 + 65,536 at beat k, the last one
executed. -/
def Pers.ringLimit (p : Pers) : Nat := if p.beat = 0 then 65536 else p.beat - 1 + 65536 - 1008

/-- Tile t may be issued, `ready` lines being ready: the ring has room for its lines. -/
def Pers.tileReady (p : Pers) (ready t : Nat) : Bool :=
  decide (32 * t < p.lines) && decide (p.tileLast t < ready) && decide (p.tileLast t < p.ringLimit)

/-! ## The line ring (R575) -/

/-- Address of line n of personality j's ring. -/
def State.ringAddr (s : State) (j n : Nat) : Nat := (s.pipePart j).1 + 512 * (n % 65536)

/-- Line n of tile t is written to the ring from the tile's coverage words. -/
def ringWrite (j t : Nat) (words : Sparse Nat) (s : State) (n : Nat) : State :=
  let code (x : Nat) : Nat := tlCodeOf (Sparse.get 0 words (1024 * (n - 32 * t) + x))
  dramWrite (s.ringAddr j n) ((List.range 512).map (fun b => BitVec.ofNat 8 (code (2 * b) + 16 * code (2 * b + 1)))) s

/-- A delivered tile's lines are written to the ring (R574). -/
def ringTile (j t : Nat) (words : Sparse Nat) (s : State) : State :=
  let p := s.pers j
  let n := min 32 (p.lines - 32 * t)
  let s1 := (List.range' (32 * t) n).foldl (ringWrite j t words) s
  s1.setPers j { s1.pers j with ring := 32 * t + n }

end Sys2Proof.Machine
end

