-- ==== Sys2Proof/Machine/Bobbins.lean ====
section
/-! DEFINITION. Tiles and live jobs (Chapter 4): issue, completion, dual runs, delivery, watchdog, service. -/

namespace Sys2Proof.Machine

/-! ## The motif cache (R170 to R173) -/

/-- One access to a 256-byte line: 16 ways, least recently used, 8,192 sets. -/
def cacheAccess (s : State) (line : Nat) : State :=
  let k := line % 8192
  let ways := Sparse.get [] s.bob.cache k
  let hit := ways.contains line
  let s1 := { s with bob := { s.bob with cache := Sparse.set [] s.bob.cache k ((line :: ways.filter (· != line)).take 16) } }
  if hit then s1.bump F.BOB_CACHE_HITS_COUNT else s1.bump F.BOB_CACHE_MISSES_COUNT

/-- n crossings of pipeline j are counted in 48 bits (Table 4-6). -/
def countCrossings (j n : Nat) (s : State) : State :=
  let c := satInc 48 (s.pair F.BOB_CROSSINGS_LO_COUNT F.BOB_CROSSINGS_HI_COUNT j) n
  (s.setFd F.BOB_CROSSINGS_LO_COUNT c j).setFd F.BOB_CROSSINGS_HI_COUNT (c / 2 ^ 32) j

/-! ## Issue (R164, R186) -/

/-- TW (R162). -/
def State.tileW (s : State) : Nat := min s.geoW 1024
/-- Tiles of the stripe. -/
def State.tileCount (s : State) : Nat := s.blockRows * s.tileCols
/-- First and last line of a tile (R163). -/
def State.tileFirst (s : State) (t : Nat) : Nat := 32 * (t / s.tileCols)
def State.tileLast (s : State) (t : Nat) : Nat := min (s.tileFirst t + 31) (s.lines - 1)

/-- The scope bound to the stripe. -/
def State.useScope (s : State) : Option LaceScope :=
  if (s.scope 0).bound then some (s.scope 0) else if (s.scope 1).bound then some (s.scope 1) else none

/-- LACE_LINES_READY or the ready lines of a personality, `now` at present, as the issue decision of this cycle sees them (Table 4-4). -/
def State.linesSeen (s : State) (source now : Nat) : Nat :=
  ((s.cyc.filterMap (fun e => match e with
    | .linesReady k old => if k = source then some old else none
    | _ => none)).getLast?).getD now

/-- A new tile of pipeline j may be issued (R164, R235, R574). -/
def State.tileReady (s : State) (j t : Nat) : Bool :=
  if !s.native then (s.pers j).tileReady (s.linesSeen j (s.pers j).ready) t
  else
    let i : Fin 2 := if (s.scope 0).bound then 0 else 1
    decide (t < s.tileCount) && (s.scope i).bound && decide (s.tileLast t < s.linesSeen i.val (s.scope i).linesReady) &&
    (s.fd F.STORE_AHEAD_LIMIT_LINES == 0 || decide (s.tileFirst t < s.store.delivered + s.fd F.STORE_AHEAD_LIMIT_LINES))

/-- Tiles of pipeline j's stripe are rasterized (R164, R192, R574). -/
def State.tilesOn (s : State) (j : Nat) : Bool :=
  if s.native then s.plan.state.active && !s.fromStore else (s.pers j).state.active

/-- Bobbins of pipeline j that run tile t now or have finished a run of it. -/
def State.tileUnits (s : State) (j t : Nat) : List Nat :=
  ((List.range 32).filter (fun b => s.pipeOf b == j && ((match (s.unit b).job with
    | .tile t' _ => t' == t
    | _ => false) || (match (s.unit b).suspended with
    | some (t', _) => t' == t
    | none => false)))) ++ ((s.tiles j).runs.filter (fun r => r.tile == t)).map (·.unit)

/-- Pillows of pipeline j. -/
def State.pillowCount (s : State) (j : Nat) : Nat := popcount 4 ((s.str.pipes.getD j ⟨0, 0, 0, 0⟩).pillows)

/-- Bobbin b may take a run of tile e.1 of its pipeline j that is to be issued again (R186 to R188). -/
def State.mayRerun (s : State) (j b : Nat) (e : Nat × List Nat) : Bool :=
  !(e.2.contains b) && (!(s.tiles j).dual || (
    let o := s.tileUnits j e.1
    !(o.contains b) && !(s.unit b).reserved && (match o with
      | [x] => x / 8 != b / 8 || decide (s.pillowCount j ≤ 1)
      | _ => true)))

/-- Bobbin b starts a run of tile t of its pipeline j. -/
def startTile (j b t : Nat) (s : State) : State :=
  charge classBob b <| s.setUnit b { s.unit b with job := .tile t (s.tileUnits j t).length, startedAt := s.now }

/-- TILE_ISSUE to bobbin b (R164), within its part of the power budget (R515); a free bobbin takes a waiting live job before any tile
(R181). -/
def tileIssue (b : Nat) (s : State) : State :=
  let u := s.unit b
  let j := s.pipeOf b
  let q := s.tiles j
  if !(s.tilesOn j) || !s.takesJobs b || u.busy || u.held.isSome then s
  else if s.bob.live.any (fun j => j.not_ != some b) then assignLive s
  else if !(s.mayIssue classBob b) then s
  else match q.again.find? (s.mayRerun j b) with
    | some e => startTile j b e.1 (s.setTiles j { q with again := q.again.erase e })
    | none =>
      if s.tileReady j q.issued && !(q.dual && u.reserved) then
        let s1 := startTile j b q.issued (s.setTiles j { q with issued := q.issued + 1 })
        if q.dual then tileAgain j q.issued [] s1 else s1
      else s

/-! ## Completion (R165, R186, R190) -/

/-- The coverage words and counts of a tile; `wrong` replaces words that a faulty bobbin got wrong (pixel, word). -/
def State.tileResult (s : State) (t : Nat) (wrong : List (Nat × Nat)) : Sparse Nat × JobShapes × Nat :=
  match s.useScope with
  | none => ([], ⟨[], 0, []⟩, 0)
  | some sc =>
    let l0 := s.tileFirst t; let c0 := (t % s.tileCols) * s.tileW
    let j := s.jobShapes sc l0 (l0 + 32) c0 (c0 + s.tileW)
    let w := s.coverWords sc j l0 (l0 + 32) c0 (c0 + s.tileW)
    (wrong.foldl (fun m e => Sparse.set 0 m e.1 (e.2 % 2 ^ 36)) w, j,
      jobCrossings l0 (l0 + 32) c0 (c0 + s.tileW) (s.pixel : Nat) (s.geoW : Nat) j)

/-- The DRAM spans a job reads (R165, R171): the motif lines that the cache does not hold, and the chunks whose lines meet lines l0
to l1 − 1. -/
def State.jobReads (s : State) (sc : LaceScope) (l0 l1 : Nat) (lines : List Nat) : List (Nat × Nat) :=
  (lines.filter (fun a => !((Sparse.get [] s.bob.cache (a % 8192)).contains a))).map (fun a => (256 * a, 256)) ++
  (sc.chunks.filter (LaceChunk.meets l0 l1)).map (fun c => (c.at_, 8 * c.length))

/-- What a job reads is poisoned (R190). -/
def State.readsBad (s : State) (l : List (Nat × Nat)) : Bool := l.any (fun e => s.dramBad e.1 e.2)

/-- Tile t of pipeline j never completes (R186, R190). -/
def tileStuck (j t : Nat) (s : State) : State := s.setTiles j { s.tiles j with stuck := (s.tiles j).stuck ++ [t] }

/-- A job ends without a result (R190): its tile is never delivered. -/
def jobPoisoned (b : Nat) (s : State) : State :=
  let u := s.unit b
  match u.job with
  | .tile t _ => assignLive (tileStuck (s.pipeOf b) t ((s.setUnit b { u with job := .idle }).raise .BOB_POISON))
  | .live _ _ => liveNext b (s.raise .BOB_POISON)
  | .idle => s

/-- A finished run joins its tile's earlier runs (R186): agreement makes the result, a first difference asks for a third run,
and after a third the odd one out takes a strike. -/
def dualFinish (j : Nat) (r : TileRun) (s : State) : State :=
  let q := s.tiles j
  let prior := q.runs.filter (fun x => x.tile == r.tile)
  let rest := q.runs.filter (fun x => !(x.tile == r.tile))
  let waits (s : State) : State := s.setTiles j { q with runs := q.runs ++ [r] }
  let deliver (s : State) : State := s.setTiles j { q with runs := rest, results := q.results ++ [r] }
  match prior with
  | [] => waits s
  | [a] => if a.words = r.words then deliver s else tileAgain j r.tile [a.unit, r.unit] (waits s)
  | a :: c :: _ =>
    if a.words = r.words then (strike c.unit (deliver s)).raise .BOB_DUAL_MISMATCH
    else if c.words = r.words then (strike a.unit (deliver s)).raise .BOB_DUAL_MISMATCH
    else tileStuck j r.tile ((s.setTiles j { q with runs := rest }).raise .BOB_DUAL_UNRESOLVED)

/-- A motif cache line failed its check and was fetched again (R173, R440). -/
def cacheError (refetch : Bool) (s : State) : State :=
  if refetch then ((s.bump F.HBM_SRAM_UE_COUNT_COUNT).raise .MEM_SRAM_UNCORR).raise .BOB_CACHE_REFETCH else s

/-- A run of tile t of pipeline j has ended on bobbin b with coverage words w and n crossings: the bobbin keeps the result (R166). -/
def tileFinish (j b t : Nat) (w : Sparse Nat) (n : Nat) (s : State) : State :=
  let s1 := countCrossings j n (s.setUnit b { s.unit b with job := .idle, held := some t })
  let run : TileRun := ⟨t, b, w⟩
  assignLive (if (s1.tiles j).dual then dualFinish j run s1
    else s1.setTiles j { s1.tiles j with results := (s1.tiles j).results ++ [run] })

/-- TILE_COMPLETE of bobbin b (R166). -/
def tileComplete (b : Nat) (wrong : List (Nat × Nat)) (refetch : Bool) (s : State) : State :=
  let j := s.pipeOf b
  match (s.unit b).job with
  | .tile t _ =>
    if !s.native then
      let p := s.pers j
      tileFinish j b t (wrong.foldl (fun m e => Sparse.set 0 m e.1 (e.2 % 2 ^ 36)) (p.tileWords t)) (p.tileCrossings t) s
    else
      let r := s.tileResult t wrong
      let reads := match s.useScope with
        | some sc => s.jobReads sc (s.tileFirst t) (s.tileFirst t + 32) r.2.1.lines
        | none => []
      let s1 := (r.2.1.lines.foldl cacheAccess (reads.foldl (fun s e => engineRead b e.1 e.2 s) s)) |> cacheError refetch
      if s.readsBad reads then jobPoisoned b s1 else tileFinish j b t r.1 r.2.2 s1
  | _ => s

/-! ## Delivery (R166) -/

/-- Bobbins of pipeline j that hold tile t are free of it. -/
def dropHeld (j t : Nat) (s : State) : State := s.eachUnit j (fun u => if u.held = some t then { u with held := none } else u)

/-- Tile t's words reach correction, and edging records that they complete are sent (R166, R209). -/
def tileToCorr (t : Nat) (words : Sparse Nat) (s : State) : State :=
  let l0 := s.tileFirst t; let c0 := (t % s.tileCols) * s.tileW; let w := s.tileW
  let cov := words.foldl (fun m (e : Nat × Nat) => Sparse.set 0 m ((l0 + e.1 / w) * 4096 + c0 + e.1 % w) e.2) s.corr.cov
  (sendEdging { s with corr := { s.corr with cov := cov } }).rewait

/-- The next tile of pipeline j is delivered, where its result stands ready (R166, R574). -/
def deliverNext (j : Nat) (s : State) : State :=
  let q := s.tiles j
  let t := q.delivered
  if !(s.tilesOn j) || q.stuck.contains t then s
  else match q.results.find? (fun r => r.tile == t) with
    | none => s
    | some r =>
      let s1 := dropHeld j t (s.setTiles j { q with delivered := t + 1, results := q.results.filter (fun x => !(x.tile == t)) })
      (if s.native then tileToCorr t r.words s1 else ringTile j t r.words s1).mark (.tileDelivered j t (s.pers j).ring)

/-- TILE_DELIVER: the next tile of each pipeline. -/
def tileDeliver (s : State) : State := (List.range s.str.pipes.length).foldl (fun s j => deliverNext j s) s

/-! ## Live jobs -/

/-- LIVE_JOB_COMPLETE of bobbin b (R183, R254). -/
def liveComplete (b : Nat) (wrong : List (Nat × Nat)) (refetch : Bool) (s : State) : State :=
  match (s.unit b).job with
  | .live br bc =>
    match s.useScope with
    | none => s
    | some sc =>
      let j := s.jobShapes sc (32 * br) (32 * br + 32) (32 * bc) (32 * bc + 32)
      let reads := s.jobReads sc (32 * br) (32 * br + 32) j.lines
      let s1 := (j.lines.foldl cacheAccess (reads.foldl (fun s e => engineRead b e.1 e.2 s) s)) |> cacheError refetch
      if s.readsBad reads then jobPoisoned b s1
      else
        let w := wrong.foldl (fun m e => Sparse.set 0 m e.1 (e.2 % 2 ^ 36)) (s.blockWords br bc)
        let n := jobCrossings (32 * br) (32 * br + 32) (32 * bc) (32 * bc + 32) (s.pixel : Nat) (s.geoW : Nat) j
        liveNext b (liveResult br bc w (countCrossings 0 n s1))
  | _ => s

/-! ## Failures (R187 to R189) -/

/-- Bobbin b's job is abandoned and issued again to another (R187, R188). -/
def abandon (b : Nat) (c : FaultCode) (s : State) : State :=
  let u := s.unit b
  let s1 := strike b ((s.setUnit b { u with job := .idle, suspended := none }).raise c)
  let s2 := match u.suspended with
    | some (t, _) => tileAgain (s.pipeOf b) t [b] s1
    | none => s1
  match u.job with
  | .tile t _ => assignLive (tileAgain (s.pipeOf b) t [b] s2)
  | .live br bc => queueLive [⟨br, bc, some b⟩] s2
  | .idle => s2

/-- BOB_WATCHDOG (R187): the job has run LIMIT_US, suspensions left out. A job that completes at that instant stands (Table 4-4), so the
watchdog acts after it. -/
def bobWatchdog (b : Nat) (s : State) : State :=
  if (s.unit b).job != .idle && decide (s.now > (s.unit b).startedAt + 1000000 * max 100 (s.fd F.BOB_WATCHDOG_LIMIT_US)) then
    abandon b .BOB_WATCHDOG s
  else s

/-- BOB_SRAM_UNCORR (R188). -/
def bobSram (b : Nat) (s : State) : State :=
  let s1 := (s.bump F.HBM_SRAM_UE_COUNT_COUNT).raise .MEM_SRAM_UNCORR
  if (s1.unit b).job != .idle then abandon b .BOB_SRAM_UNCORR s1 else s1

/-- BOB_FAIL_MASK is W1C while every pipeline is IDLE (Table 4-5). -/
def failMaskClear (v : Word) (s : State) : State :=
  if s.allIdle then s.setRg .BOB_FAIL_MASK (s.rg .BOB_FAIL_MASK &&& ~~~(v &&& ~~~(s.setNow .BOB_FAIL_MASK 0))) else s

/-! ## Meanings -/

/-- TILE_ISSUE (R164) to bobbin b. -/
def execTileIssue (b : Fin 32) (s : State) : Host.Outcome State Fault Refusal := .next (s.whenReady (tileIssue b.val))

/-- TILE_COMPLETE (R166) on bobbin b: `wrong` lists the words that a fault in the bobbin's logic spoils, `refetch` that a
motif cache line failed its check and was fetched again (R173). -/
def execTileComplete (b : Fin 32) (wrong : List (Nat × Nat)) (refetch : Bool) (s : State) : Host.Outcome State Fault Refusal :=
  .next (s.whenDram (serviceWrap (tileComplete b.val wrong refetch)))

/-- TILE_DELIVER (R166). -/
def execTileDeliver (s : State) : Host.Outcome State Fault Refusal := .next (s.whenReady tileDeliver)

/-- LIVE_JOB_COMPLETE (R254) on bobbin b, with the same operands. -/
def execLiveJobComplete (b : Fin 32) (wrong : List (Nat × Nat)) (refetch : Bool) (s : State) : Host.Outcome State Fault Refusal :=
  .next (s.edgeDram (serviceWrap (liveComplete b.val wrong refetch)))

/-- BOB_WATCHDOG (R187). -/
def execBobWatchdog (b : Fin 32) (s : State) : Host.Outcome State Fault Refusal :=
  .next (s.whenReady (serviceWrap (bobWatchdog b.val)))

/-- BOB_SRAM_UNCORR (R188). -/
def execBobSramUncorr (b : Fin 32) (s : State) : Host.Outcome State Fault Refusal :=
  .next (s.whenReady (serviceWrap (bobSram b.val)))

/-- BOB_DISABLE_WRITE (R182). -/
def execBobDisableWrite (v : BitVec 32) (s : State) : Host.Outcome State Fault Refusal :=
  .next (s.hostWrite .BOB_DISABLE 0 v (serviceWrap (fun s => s.setRg .BOB_DISABLE v)))

/-- BOB_FAIL_MASK_CLEAR (R189). -/
def execBobFailMaskClear (v : BitVec 32) (s : State) : Host.Outcome State Fault Refusal :=
  .next (s.hostWrite .BOB_FAIL_MASK 0 v (failMaskClear v))

end Sys2Proof.Machine
end

