-- ==== Sys2Proof/Machine/Carillon.lean ====
section
/-! DEFINITION. The carillon and the lanes (Chapter 8): peals, keep-alives, deflection blocks, echo frames, training, sleep,
eye centring, the staged copies, and the damp rows. -/

namespace Sys2Proof.Machine

/-! ## Frames -/

/-- A peal's fields (Table 8-3). -/
structure PealFields where
  beat : Nat
  stripe : Nat
  fireDelay : Nat
  window : Nat
  flags : Nat
  state : Nat
  cmd : Nat
  codes : List Byte
  trims : List Byte
  tslot : Nat
  seq : Nat
deriving DecidableEq, Repr

/-- The bytes of a peal on a lane, with its CRC (R292, R293). -/
def PealFields.bytes (p : PealFields) (lane : Nat) : List Byte :=
  let body := leBytes 4 p.beat ++ leBytes 4 p.stripe ++ leBytes 2 p.fireDelay ++ leBytes 2 p.window ++
    leBytes 1 p.flags ++ leBytes 1 p.state ++ leBytes 1 p.cmd ++ leBytes 1 lane ++ p.codes ++ p.trims ++
    leBytes 2 p.tslot ++ leBytes 2 p.seq
  body ++ leBytes 4 (crc crcC32 (leBytes 4 lane ++ leBytes 4 p.beat ++ body))

/-- 1,024 codes of 0. -/
def blankCodes : List Byte := List.replicate 1024 0

/-- The hard damp peal (R294): it depends only on the lane number. -/
def hardDampPeal : PealFields :=
  { beat := 0xFFFFFFFF, stripe := 0, fireDelay := 0, window := 0, flags := 1, state := 0, cmd := 0,
    codes := blankCodes, trims := List.replicate 8 0, tslot := 0, seq := 0xFFFF }

/-- A DEFL block (Table 8-8, R309). -/
def deflBytes (lane : Nat) (word : Int) (seq flags : Nat) : List Byte :=
  let b := leBytes 4 (wrapU 32 word) ++ leBytes 1 seq ++ leBytes 1 flags
  leBytes 1 0x2D ++ b ++ leBytes 1 (crc crcC8A (leBytes 1 lane ++ b))

/-- A train frame (Table 8-10). -/
def trainBytes (lane node pre main post status flags : Nat) : List Byte :=
  let b := leBytes 1 0x10 ++ leBytes 1 lane ++ leBytes 2 node ++ leBytes 1 pre ++ leBytes 1 main ++ leBytes 1 post ++
    leBytes 1 status ++ leBytes 1 flags ++ List.replicate 51 0
  b ++ leBytes 4 (crc crcC32 (leBytes 4 lane ++ b))

/-! ## Peals -/

/-- The beam with SLOT b on lane n. -/
def State.beamOfSlot (s : State) (n b : Nat) : Nat :=
  match (s.laneBeams n).find? (fun e => e.1 == b) with
  | some e => e.2
  | none => 0

/-- The eight active trims of a lane from slot ts on (R300). -/
def State.trimBytes (s : State) (n ts : Nat) : List Byte :=
  (List.range 8).map (fun i => BitVec.ofNat 8 (Sparse.get 0 s.caril.trimActive (s.beamOfSlot n (ts + i))))

/-- A counted peal leaves lane n (R294, R300): its SEQ and TSLOT step, and the device keeps its record (R314). Its START
block leaves at the model's time `at_`; 133 blocks last 312,107 ps and the last begins after 309,760 ps. -/
def sendPeal (n : Nat) (beat fireDelay flags cmd : Nat) (codes : List Byte) (live : Bool) (at_ : Nat) (s : State) : State :=
  let l := s.lane n
  let f : PealFields :=
    { beat := beat, stripe := s.stripeId, fireDelay := fireDelay, window := s.fd F.CARIL_WINDOW_WINDOW,
      flags := flags + 16 * (s.plan.pass % 8), state := s.plan.state.code, cmd := cmd, codes := codes,
      trims := s.trimBytes n l.tslot, tslot := l.tslot + 1024 * (l.epoch % 16) + 32768, seq := l.seq }
  let r : PealRec := { seq := l.seq, beat := beat, pass := s.plan.pass, live := live, aborted := false, endAt := at_ + 312107 }
  let l' := { l with
    seq := (l.seq + 1) % 65535
    tslot := (l.tslot + 8) % 1024
    wire := some (at_ + 309760)
    peals := (r :: l.peals).take 1024 }
  (s.setLane n l').emit (.peal n at_ (f.bytes n))

/-- START time of a beat's peals, in 100 ps of the stage time base (R295). -/
def State.startAt (s : State) (b : IssuedBeat) : Int := b.tb - 10 * (s.leadNs : Nat) - 3200

/-- FIRE_DELAY of a beat peal of lane n (R295): the peal ends 3,121.07 units after its START. -/
def State.fireDelay (s : State) (n : Nat) : Nat := wrapU 16 ((10 * s.leadNs + 79 : Nat) - (s.lane n).skewActive)

/-- The seam values the codes of a beat take from a neighbour are held, and not poisoned (R268, R298). -/
def State.seamCodesBad (s : State) (k : Nat) (sh : Int) : Bool × Bool :=
  if sh = 0 then (false, false)
  else
    let side := if sh > 0 then 0 else 1
    if !(s.seamFrom side) then (false, false)
    else
      let lns := ((List.range 16).map (fun n => s.laneLines n k)).flatten
      (!s.fromStore && lns.any (fun n => !(s.seamRowHeld side (n / 32))),
       lns.any (fun n => s.dramBad (s.seamAddr side n 0) (2 * s.cols)))

/-- Every line the codes of beat k need has been delivered (R248, R298). -/
def State.codesHeld (s : State) (k : Nat) : Bool := decide (min (k + 1) s.lines ≤ s.store.delivered)

/-- The mode of the stripe's beat peals: 0 EXPOSE, 1 REHEARSE, 2 DAMPED (3 acts as 2). -/
def State.exposeMode (s : State) : Nat := min 2 (s.fd F.PLAN_EXPOSE_MODE)

/-- The beat peals of beat b leave on every lane in DATA (Table 8-4). -/
def sendBeatPeals (b : IssuedBeat) (at_ : Nat) (s : State) : State :=
  let mode := s.exposeMode
  let flags := if mode = 0 then 2 else if mode = 1 then 11 else 3
  let sh := s.xi b.pass + s.hAt b.k
  let s1 := (List.range 16).foldl (fun s n =>
    if (s.lane n).tx == .data && s.laneInUse n then
      let codes := if mode = 2 then blankCodes else s.laneCodes b.pass b.k sh n
      sendPeal n b.k (s.fireDelay n) flags 0 codes (mode == 0) at_ s
    else s) s
  if (s.lane 0).tx == .data then s1.bump F.CARIL_BEAT_PEALS_COUNT else s1

/-- The beat peals of b have had their START. -/
def markPeals (b : IssuedBeat) (s : State) : State :=
  { s with stage := { s.stage with issued := s.stage.issued.map (fun x => if x.k = b.k ∧ x.pass = b.pass then { x with peals := true } else x) } }

/-- A shift command refused by R267 applies from this beat. -/
def State.shiftRefused (s : State) (k : Nat) : Bool := s.plan.shifts.any (fun e => e.2.2 && decide (e.1 ≤ k))

/-- The START time of the next beat's peals (R295, R297, R298). -/
def doPealStart (s : State) : State :=
  match s.stage.issued.find? (fun b => !b.peals) with
  | none => s
  | some b =>
    if !(s.native) || !(s.plan.state == .runIn || s.plan.state == .exposing) || decide (s.stageT < s.startAt b) then s
    else
      let s1 := markPeals b s
      let sh := s.xi b.pass + s.hAt b.k
      let bad := s.seamCodesBad b.k sh
      if s.shiftRefused b.k then s1.localDamp .PLN_SHIFT_RANGE
      else if s.generatorOn then s1
      else if !(s.codesHeld b.k) || bad.1 then s1.localDamp .CAR_LATE_PEAL
      else if bad.2 then s1.localDamp .CAR_POISON
      else sendBeatPeals b (s.stage.epoch + 100 * (s.startAt b).toNat) s1

/-- CARIL_CFG.IDLE_NS in ps: 400 to 700 ns. -/
def State.idlePeriod (s : State) : Nat := 1000 * clampN 400 700 (s.fd F.CARIL_CFG_IDLE_NS)

/-- A keep-alive is due on lane n (R296): outside RUN_IN to RUN_OUT IDLE_NS after the start of the lane's last peal; within, where no
beat peal that is planned ends within 700 ns of the end of the last one. -/
def State.keepAliveDue (s : State) (n : Nat) : Bool :=
  match (s.lane n).peals with
  | [] => true
  | r :: _ =>
    if s.plan.state.running then
      match s.stage.issued.find? (fun b => !b.peals) with
      | some b => decide ((s.stage.epoch : Int) + 100 * s.startAt b + 312107 > r.endAt + 700000)
      | none => true
    else decide (s.now + 312107 ≥ r.endAt + s.idlePeriod)

/-- A keep-alive on lane n (R296, R300, R312): it ends before the next beat peal's START. -/
def doKeepAlive (n : Nat) (s : State) : State :=
  let l := s.lane n
  let room := match s.stage.issued.find? (fun b => !b.peals) with
    | some b => decide (s.stageT + 3122 ≤ s.startAt b)
    | none => true
  let busy := match l.wire with
    | some t => decide (s.now < t + 2347)
    | none => false
  if !(s.native) || decide (16 ≤ n) || l.tx != .data || !(s.laneInUse n) || s.generatorOn || busy || !room ||
      !(s.keepAliveDue n) then s
  else
    let f := s.free 16
    let cmd := if bit s.caril.measureReq n = 1 then 1 else if bit s.caril.measureAbort n = 1 then 2 else 0
    let commit := if s.plan.state.running then 0 else 4
    sendPeal n 0xFFFFFFFF f.1 (1 + commit) cmd blankCodes false s.now f.2

/-! ## Deflection blocks (R308 to R311) -/

/-- One DEFL block on lane n, unless the damp generator drives it. -/
def sendDefl (n : Nat) (word : Int) (stale shift : Bool) (s : State) : State :=
  if (s.lane n).tx != .data || s.generatorOn then s
  else s.emit (.defl n (deflBytes n word s.caril.deflSeq
    (b2n s.plan.state.running + 2 * b2n stale + 4 * b2n shift)))

/-- A deflection sample goes to TX[16] and TX[17]. -/
def sendSample (x y : Int) (stale shift : Bool) (s : State) : State :=
  let s1 := { s with caril := { s.caril with deflSeq := (s.caril.deflSeq + 1) % 256 } }
  sendDefl 17 y stale shift (sendDefl 16 x stale shift s1)

/-! ## Staged copies (R282, R299, R325, R342, R646) -/

/-- Raise c n times. -/
def State.raiseN (s : State) (c : FaultCode) (n : Nat) : State := (List.range n).foldl (fun s _ => s.raise c) s

/-- The staged defect map is copied (R282). -/
def copyDefects (s : State) : State :=
  let bad := (s.plan.defStaged.filter (fun (e : Nat × Nat) => !entryValid e.2)).length
  let s1 := { s with plan := { s.plan with defActive := s.plan.defStaged.map (fun (e : Nat × Nat) => (e.1, judgeEntry e.2)) } }
  s1.raiseN .PLN_DEFECT_INVALID bad

/-- The staged seam tables are copied, and every active entry is judged (R646). -/
def copySeams (s : State) : State :=
  let n := 2 * s.cols * s.geoM
  let bad := sumN ([0, 1].map (fun d =>
    ((List.range n).filter (fun e => !entryValid (Sparse.get 0 s.plan.seamStaged (seamKey d e)))).length))
  let s1 := { s with plan := { s.plan with seamActive := s.plan.seamStaged } }
  s1.raiseN .PLN_DEFECT_INVALID bad

/-- The trims of lane n in a table. -/
def laneTrims (t : Sparse Nat) (n : Nat) : Sparse Nat := t.filter (fun e => e.1 / 1024 == n)

/-- The staged trims and skews are copied; a lane whose trims change advances its EPOCH (R299). -/
def copyTrims (s : State) : State :=
  let s1 := (List.range 18).foldl (fun s n =>
    let l := s.lane n
    let ch := decide (n < 16) && decide (laneTrims s.caril.trimStaged n ≠ laneTrims s.caril.trimActive n)
    s.setLane n { l with
      skewActive := sext 8 (s.fd F.LANE_SKEW_STAGED n)
      epoch := if ch then (l.epoch + 1) % 16 else l.epoch
      eyeActive := l.eyeStaged }) s
  { s1 with caril := { s1.caril with trimActive := s1.caril.trimStaged } }

/-- Staged sampling phases are copied (R342). -/
def copyPhases (s : State) : State :=
  (List.range 4).foldl (fun s c => s.setChan c { s.chan c with phase := s.fd F.STAGE_MET_PHASE_STAGED c }) s

/-- Everything staged becomes active, at ARM and at entry to HUSH. -/
def applyStaged (s : State) : State := copyPhases (copyTrims (copySeams (copyDefects s)))

/-! ## Lane states -/

/-- The stripe of lane n's pipeline is in ARMED to RUN_OUT, or the device's for TX[16] and TX[17] (R323). -/
def State.laneBusy (s : State) (n : Nat) : Bool :=
  if s.native then s.plan.state.active && (s.laneInUse n || decide (16 ≤ n))
  else if n < 16 then (s.pers (n / 4)).state.active && decide (n / 4 < s.str.mode)
  else s.anyActive

/-- Lane n belongs to a TL-40 personality (R327). -/
def State.tlLane (s : State) (n : Nat) : Bool := !s.native && decide (n < 16) && decide (n / 4 < s.str.mode)

/-- Lane n's TX enters DATA (R313, R320); a generator that drives the lanes takes it at once (R294). -/
def txData (n : Nat) (s : State) : State :=
  let s1 := s.setLane n { s.lane n with
    tx := .data, echoOk := false, echoSeen := false, echoOn := true, echoFrom := s.now, echoDead := false, wire := none }
  if s1.generatorOn && (s1.native || s1.str.safe) then s1.emit (.hardDamp n) else s1

/-- Lane n enters TRAINING (R317); a sleeping RX sleeps on (R323). -/
def startTraining (n : Nat) (s : State) : State :=
  let l := s.lane n
  s.setLane n { l with
    tx := .training, rx := if l.rx == .sleep then .sleep else .acquire, wire := none, echoOn := false, mismatch := false
    train := { TrainSt.fresh with enteredAt := s.now } }

/-- Lane n starts with its pipeline: its RX wakes and it enters TRAINING (R317). -/
def startPipelineLane (n : Nat) (s : State) : State := startTraining n (s.setLane n { s.lane n with rx := .acquire })

/-- LANE_SEL; larger values act as 17. -/
def State.laneSel (s : State) : Nat := min 17 (s.fd F.LANE_SEL_LANE)

/-- RETRAIN (R317). -/
def doRetrain (s : State) : State :=
  let n := s.laneSel
  if s.plan.state.active || s.laneBusy n then s.raise .CAR_LANE_BUSY
  else if s.laneInUse n && s.native then startTraining n s
  else s

/-- What a sleep or EYE_CAL command does to a lane. -/
def Lane.commanded (l : Lane) (cmd : Nat) : Lane :=
  match cmd with
  | 2 => { l with eyeSweep := true }
  | 3 => { l with tx := .sleep, wire := none }
  | _ => { l with rx := .sleep, echoOk := false }

/-- A sleep or EYE_CAL command on lane n (R323, R325): in ARMED to RUN_OUT it is ignored with CAR_LANE_BUSY, EYE_CAL in TL-40 mode
and on a member's lanes 16 and 17 too (Table 20-2). -/
def laneCommand (cmd n : Nat) (s : State) : State :=
  let eyeBusy := decide (cmd = 2) && (s.plan.state.active || !s.native || (decide (16 ≤ n) && !s.leads))
  if s.laneBusy n || eyeBusy then s.raise .CAR_LANE_BUSY
  else
    let s := if cmd = 2 then hushYields 6 s else s
    (s.setLane n ((s.lane n).commanded cmd)).mark (.laneCmd cmd n (s.lane n))

/-- EYE_CAL (R325). -/
def doEyeCal (s : State) : State := laneCommand 2 s.laneSel s

/-- TX_SLEEP (R323). -/
def doTxSleep (s : State) : State := laneCommand 3 s.laneSel s

/-- RX_SLEEP (R323, R324). -/
def doRxSleep (s : State) : State := laneCommand 5 s.laneSel s

/-- TX lane n wakes (R324). -/
def wakeTx (n : Nat) (s : State) : State :=
  if (s.lane n).tx == .sleep then s.setLane n { s.lane n with tx := .waking, txWakeAt := s.now } else s

/-- RX lane n wakes (R324). The echo timeout did not run while it slept: it starts again (DESIGN CHOICE: log 79). -/
def wakeRx (n : Nat) (s : State) : State :=
  if (s.lane n).rx == .sleep then s.setLane n { s.lane n with rx := .acquire, echoFrom := s.now } else s

/-- A lane the structure lets wake: in use, or a TL-40 lane's TX (R308, R327). -/
def State.mayWake (s : State) (n : Nat) (tx : Bool) : Bool := s.laneInUse n && (s.native || tx) || (s.tlLane n && tx)

/-- TX_WAKE. -/
def doTxWake (s : State) : State := if s.mayWake s.laneSel true then wakeTx s.laneSel s else s

/-- RX_WAKE. -/
def doRxWake (s : State) : State := if s.mayWake s.laneSel false then wakeRx s.laneSel s else s

/-- A woken TX has sent IDLE blocks for 2 µs, or a woken RX has acquired (R324). -/
def doWakeDone (n : Nat) (tx : Bool) (s : State) : State :=
  let l := s.lane n
  if tx then
    if l.tx == .waking && decide (s.now ≥ l.txWakeAt + 2000000) then txData n s else s
  else if l.rx == .acquire && l.tx != .training then s.setLane n { l with rx := .data }
  else s

/-! ## Longest runs (R325, R342) -/

/-- The runs of true positions of a list, as (start, length), in order. -/
def runsOf (l : List Bool) (i : Nat) (cur : Option (Nat × Nat)) : List (Nat × Nat) :=
  match l with
  | [] => cur.toList
  | true :: t => runsOf t (i + 1) (match cur with
    | some (a, n) => some (a, n + 1)
    | none => some (i, 1))
  | false :: t => cur.toList ++ runsOf t (i + 1) none

/-- The longest run of ones among 64 bits; which of several of equal length the manual leaves open (a free value). -/
def longestRun (m : Nat) (s : State) : Option (Nat × Nat) × State :=
  let r := runsOf ((List.range 64).map (fun i => bit m i == 1)) 0 none
  let best := maxN (r.map (·.2))
  match r.filter (fun e => e.2 == best) with
  | [] => (none, s)
  | [e] => (some e, s)
  | l => let f := s.free 8; (l[f.1 % l.length]?, f.2)

/-- The end of an eye sweep: bit i of `clear` says that offset i − 32 saw no transition (R325). -/
def doEyeDone (n clear : Nat) (s : State) : State :=
  if !(s.lane n).eyeSweep then s
  else
    let r := longestRun clear s
    let s := r.2.setLane n { r.2.lane n with eyeSweep := false }
    match r.1 with
    | none => s.raise .CAR_EYE_IMPLAUSIBLE
    | some (a, len) =>
      let c : Int := (a + (len - 1) / 2 : Nat) - 32
      if 16 ≤ len ∧ (c - (s.lane n).eyeActive).natAbs ≤ 16 then
        (s.setLane n { s.lane n with eyeStaged := c }).setFd F.LANE_EYE_WIDTH len n
      else s.raise .CAR_EYE_IMPLAUSIBLE

/-! ## Training (R317 to R320) -/

/-- Image taps of lane n (R66); 0, 31, 0 without a TRIMS section. -/
def State.imageTaps (s : State) (n : Nat) : Nat × Nat × Nat :=
  match s.prick.applied.find? (fun e => e.1 == 0x000A) with
  | some (_, l) => (byteAt l (16384 + 4 * n), byteAt l (16384 + 4 * n + 1), byteAt l (16384 + 4 * n + 2))
  | none => (0, 31, 0)

/-- A tap setting is valid (R318). -/
def tapsValid (pre main post : Int) : Bool :=
  [pre, main, post].all (fun t => decide (0 ≤ t ∧ t ≤ 31)) && decide (main - pre - post ≥ 8)

/-- One tap request: 1 INCREMENT, 2 DECREMENT; the rest HOLD. The new taps and the status. `i` says which tap. -/
def tapStep (i req : Nat) (t : Int × Int × Int) : (Int × Int × Int) × Nat :=
  let d : Int := if req = 1 then 1 else -1
  if req = 1 ∨ req = 2 then
    let u := if i = 0 then (t.1 + d, t.2.1, t.2.2) else if i = 1 then (t.1, t.2.1 + d, t.2.2) else (t.1, t.2.1, t.2.2 + d)
    if tapsValid u.1 u.2.1 u.2.2 then (u, 1) else (t, if req = 1 then 3 else 2)
  else (t, 0)

/-- Taps of lane n. -/
def State.taps (s : State) (n : Nat) : Nat × Nat × Nat := (s.fd F.LANE_FFE_PRE n, s.fd F.LANE_FFE_MAIN n, s.fd F.LANE_FFE_POST n)

/-- Set the taps of lane n. -/
def State.setTaps (s : State) (n pre main post : Nat) : State :=
  ((s.setFd F.LANE_FFE_PRE pre n).setFd F.LANE_FFE_MAIN main n).setFd F.LANE_FFE_POST post n

/-- A write to LANE_FFE that waits takes effect on the lanes of personality j, whose pipeline is IDLE (R330). -/
def settleTaps (j : Nat) (s : State) : State :=
  (List.range' (4 * j) 4).foldl (fun s n => match (s.lane n).ffe with
    | some v => (s.setTaps n (fld v 4 0) (fld v 12 8) (fld v 20 16)).setLane n { s.lane n with ffe := none }
    | none => s) s

/-- A request of a TRAIN echo is applied (R318, R319 step 2). -/
def applyTaps (n req ctrl : Nat) (s : State) : State :=
  let tr := (s.lane n).train
  if bit ctrl 0 = 1 ∨ bit ctrl 1 = 1 then
    let t := if bit ctrl 0 = 1 then (0, 31, 0) else s.imageTaps n
    let s := s.setTaps n t.1 t.2.1 t.2.2
    s.setLane n { s.lane n with train := { tr with statPre := 1, statMain := 1, statPost := 1, pendingHold := true } }
  else
    let t := s.taps n
    let a := tapStep 0 (bits req 1 0) ((t.1 : Int), (t.2.1 : Int), (t.2.2 : Int))
    let b := tapStep 1 (bits req 3 2) a.1
    let c := tapStep 2 (bits req 5 4) b.1
    let s := s.setTaps n c.1.1.toNat c.1.2.1.toNat c.1.2.2.toNat
    s.setLane n { s.lane n with train := { tr with statPre := a.2, statMain := b.2, statPost := c.2, pendingHold := true } }

/-- LANE_TIMEOUT.TRAIN_MS has passed since lane n entered TRAINING (R320). -/
def State.trainOver (s : State) (n : Nat) : Bool :=
  decide (s.now ≥ (s.lane n).train.enteredAt + 1000000000 * clampN 10 1000 (s.fd F.LANE_TIMEOUT_TRAIN_MS n))

/-- A valid TRAIN echo on lane n (R317, R319, R320); at the instant of the training timeout the timeout goes first (Table 8-13). -/
def trainEcho (n : Nat) (l : List Byte) (s : State) : State :=
  let x := s.lane n
  let req := byteAt l 4
  let ctrl := byteAt l 5
  match x.tx with
  | .data =>
    let s1 := startTraining n s
    if s1.plan.state.running && s1.laneInUse n then s1.localDamp .CAR_RETRAIN_REQUEST else s1.raise .CAR_RETRAIN_REQUEST
  | .training =>
    if s.trainOver n then s else
    let miss := bit ctrl 3 == 1
    let tr := x.train
    let s1 := s.setLane n { x with
      mismatch := miss
      train := { tr with rxReady := if bit ctrl 2 = 1 then tr.rxReady + 1 else 0 } }
    let s1 := s1.raiseIf (miss && !x.mismatch) .CAR_LANE_MISMATCH
    let idle := decide (req % 64 = 0 ∧ bit ctrl 0 = 0 ∧ bit ctrl 1 = 0)
    if tr.pendingHold then
      if idle then
        let y := s1.lane n
        s1.setLane n { y with train := { y.train with pendingHold := false, statPre := 0, statMain := 0, statPost := 0 } }
      else s1
    else if idle then s1
    else applyTaps n req ctrl s1
  | _ => s

/-- The CTLE code and the DFE taps that adaptation has reached on lane n, which the manual leaves open: free values (R321). -/
def adaptRx (n : Nat) (s : State) : State :=
  let a := s.free 4
  let b := a.2.free 30
  (b.2.setFd F.LANE_RX_EQ_CTLE a.1 n).setFd F.LANE_RX_DFE_TAPS b.1 n

/-- A train frame leaves lane n (R317, R320): `adapted` says whether the device's RX has adapted by now. -/
def doTrainFrame (n : Nat) (adapted : Bool) (s : State) : State :=
  let x := s.lane n
  if x.tx != .training then s
  else
    let tr := { x.train with rxAdapted := x.train.rxAdapted || adapted }
    let done := tr.doneFrames != 0 || (tr.rxAdapted && decide (4 ≤ tr.rxReady))
    let tr := if done then { tr with doneFrames := tr.doneFrames + 1 } else tr
    let t := s.taps n
    let st := tr.statPre + 4 * tr.statMain + 16 * tr.statPost
    let s1 := (s.setLane n { x with train := tr }).emit
      (.trainFrame n (trainBytes n s.node t.1 t.2.1 t.2.2 st (b2n tr.rxAdapted + 2 * b2n done)))
    let s2 := if adapted && !x.train.rxAdapted then adaptRx n s1 else s1
    if tr.doneFrames ≥ 16 then txData n (s2.setLane n { s2.lane n with rx := if x.rx == .sleep then .sleep else .data }) else s2

/-- TRAIN_MS has passed in TRAINING (R320). -/
def doTrainTimeout (n : Nat) (s : State) : State :=
  let x := s.lane n
  if x.tx == .training && s.trainOver n then
    (s.setLane n { x with tx := .failed }).raise .CAR_TRAIN_FAIL
  else s

/-! ## Echo frames (R312 to R315, R326) -/

/-- An echo frame passes its checks (R312). -/
def echoGood (n : Nat) (l : List Byte) : Bool :=
  decide (l.length = 64) && decide (crc crcC32 (leBytes 4 n ++ l.take 60) = leAt l 60 4) &&
  (byteAt l 0 == 1 || byteAt l 0 == 2 || byteAt l 0 == 3)

/-- The level that TEMP (1/64 °C) reaches against the lane's limits, falling back only 2 °C below (R326). -/
def State.tempLevelOf (s : State) (n : Nat) (temp : Int) (old : Nat) : Nat :=
  let lim (i : Nat) : Int := 64 * (if i = 1 then s.fd F.LANE_TEMP_LIMIT_SOFT n else if i = 2 then s.fd F.LANE_TEMP_LIMIT_HARD n
    else s.fd F.LANE_TEMP_LIMIT_TRIP n : Nat)
  let at_ (i : Nat) : Bool := decide (temp ≥ lim i) || (decide (i ≤ old) && decide (temp > lim i - 128))
  if at_ 3 then 3 else if at_ 2 then 2 else if at_ 1 then 1 else 0

/-- seq lies from first to last, modulo 0xFFFF (R314). -/
def seqIn (seq first last : Nat) : Bool :=
  decide ((seq + 65535 - first % 65535) % 65535 ≤ (last % 65535 + 65535 - first % 65535) % 65535)

/-- r_max of lane n (R315). -/
def State.rMax (s : State) (n : Nat) : Nat := (n + 1) * s.geoR / 16 - 1

/-- The line and pass that a lost beat k of a pass records (R315). -/
def State.lostAt (s : State) (n : Nat) (r : PealRec) : Nat × Nat := (r.beat - s.rMax n * s.geoB, r.pass)

/-- The earliest live, unaborted peal of lane n that satisfies p; the records stand newest first. -/
def Lane.earliest (l : Lane) (p : PealRec → Bool) : Option PealRec :=
  (l.peals.filter (fun r => r.live && !r.aborted && p r)).getLast?

/-- A beat is lost on lane n (R314, R315). -/
def beatLost (n : Nat) (l : Lane) (lost first last : Nat) (s : State) : State :=
  if l.statusAt ≠ 0 ∧ sext 32 ((lost + 2 ^ 32 - l.lost) % 2 ^ 32) > 0 ∧ first ≠ 0xFFFF then
    match l.earliest (fun r => seqIn r.seq first last) with
    | some r => (s.raise .CAR_BEAT_LOST).damp true (FaultCode.num .CAR_BEAT_LOST) s.node false true (some (s.lostAt n r))
    | none => s
  else s

/-- A valid STATUS echo on lane n (R313, R314, R326). -/
def statusEcho (n : Nat) (b : List Byte) (s : State) : State :=
  let l := s.lane n
  let temp := sext 16 (leAt b 4 2)
  let lv := s.tempLevelOf n temp l.tempLevel
  let lost := leAt b 0x0C 4
  let meas := bit (byteAt b 7) 2 == 1
  let level := max (min 3 (byteAt b 6)) lv
  let s1 := s.setLane n { l with
    echoOk := true, echoSeen := true, echoFrom := s.now, echoDead := false, statusAt := s.now, lost := lost,
    drvEpoch := byteAt b 0x14 % 16, tempLevel := lv, level := level }
  let s1 := { s1 with caril := { s1.caril with
    measureReq := if meas then s1.caril.measureReq - 2 ^ n * bit s1.caril.measureReq n else s1.caril.measureReq
    measureAbort := if meas then s1.caril.measureAbort
      else s1.caril.measureAbort - 2 ^ n * bit s1.caril.measureAbort n } }
  let s1 := (s1.setFd F.LANE_DRV_TEMP_TEMP (leAt b 4 2) n).setFd F.LANE_DRV_TEMP_STATE (min 3 (byteAt b 6)) n
  let s1 := (s1.setFd F.LANE_DRV_CRC_BAD_COUNT (leAt b 8 4) n).setFd F.LANE_DRV_LOST_COUNT lost n
  let s2 := s1.raiseIf (level != l.level) .CAR_DRIVER_TEMP
  let s3 := if level = 3 ∧ l.level ≠ 3 then s2.localDamp .CAR_DRIVER_TRIP else s2
  beatLost n l lost (leAt b 0x10 2) (leAt b 0x12 2) s3

/-- Readings of a MEASURE echo on lane n enter the running electrical scan (R284, R312). -/
def measureEcho (n : Nat) (b : List Byte) (s : State) : State :=
  match s.plan.scan with
  | some sc =>
    if sc.kind != .electrical then s
    else
      let first := leAt b 4 2
      let one (t : Sparse (Nat × Nat × Nat × Nat × Nat)) (e : Nat) : Sparse (Nat × Nat × Nat × Nat × Nat) :=
        let bm := s.beamOfSlot n (first + e)
        let res := leAt b (8 + 4 * e) 2
        let leak := leAt b (10 + 4 * e) 2
        let old := Sparse.get goodEntry s.plan.defStaged bm
        let hot := decide (res < s.fd F.PLAN_SCAN_RES_RES_MIN) || decide (res > s.fd F.PLAN_SCAN_RES_RES_MAX) ||
          decide (leak > s.fd F.PLAN_SCAN_LEAK_LEAK_MAX)
        let new := if hot then 0x0D00 else old
        Sparse.put t bm (new, Sparse.get 0 s.caril.trimStaged bm, 1 + 2 * b2n (decide (new ≠ old)), res, leak)
      let cnt := min 12 (byteAt b 6)
      let ent := ((List.range cnt).filter (fun e => decide (first + e < 1024))).foldl one sc.entries
      let done := if byteAt b 7 = 1 ∧ bit sc.lanesDone n = 0 then sc.lanesDone + 2 ^ n else sc.lanesDone
      { s with plan := { s.plan with scan := some { sc with entries := ent, lanesDone := done } } }
  | none => s

/-- An echo frame has arrived on RX lane n; `complete` says that it is complete (R291). -/
def doEcho (n : Nat) (complete : Bool) (l : List Byte) (s : State) : State :=
  let x := s.lane n
  if !(x.rx == .acquire || x.rx == .data) || !s.native then s
  else if !(complete && echoGood n l) then (s.bump F.LANE_ECHO_BAD_COUNT 1 n).raise .CAR_ECHO_BAD
  else
    let s0 := s.setLane n { x with echoFrom := s.now, echoDead := false }
    let s1 := if x.rx == .data && !s.fb F.LANE_RX_EQ_FREEZE n then adaptRx n s0 else s0
    if byteAt l 0 = 1 then statusEcho n l s1
    else if byteAt l 0 = 2 then (if n < 16 then measureEcho n l s1 else s1)
    else trainEcho n l s1

/-- The echo timeout of lane n (R313, R315). The time must have passed: an echo of the instant at which it runs out stands
(Table 8-13). -/
def doEchoTimeout (n : Nat) (s : State) : State :=
  let l := s.lane n
  if l.echoOn && l.rx != .sleep && !l.echoDead && s.native && s.laneInUse n &&
      decide (s.now > l.echoFrom + 1000000 * clampN 25 80 (s.fd F.LANE_TIMEOUT_ECHO_US n)) then
    let s1 := (s.setLane n { l with echoOk := false, echoDead := true }).raise .CAR_ECHO_LOST
    if s1.plan.state.running then
      match (if n < 16 then l.earliest (fun r => decide (r.endAt + 2000000 > l.statusAt)) else none) with
      | some r => s1.damp true (FaultCode.num .CAR_ECHO_LOST) s.node false true (some (s.lostAt n r))
      | none => s1.damp true (FaultCode.num .CAR_ECHO_LOST) s.node
    else s1
  else s

/-! ## Damp rows (R303, R304, R532) -/

/-- A Table 8-5 source reaches the generators with its fault code. -/
def doDampSource (loc : Bool) (code node : Nat) (s : State) : State := s.damp loc code node

/-- DAMP_N goes low from outside (R303, R304, R532). While AON is in reset the fault waits until AON runs (Table 22-12). -/
def doDampN (s : State) : State :=
  if s.caril.dampN then s
  else
    let s1 := s.raiseIf (!s.caril.latch && s.aonUp) .SAF_DAMP_EXTERNAL
    let s2 := s1.damp false (FaultCode.num .SAF_DAMP_EXTERNAL) s.node
    { s2 with caril := { s2.caril with dampN := true } }

/-- LATCH is cleared unless a local source persists (R304) or arose in this cycle (Table 8-13). -/
def clearLatch (s : State) : State :=
  if s.localPersists || s.saw .localSource then s
  else { s with caril := { s.caril with latch := false }, fault := { s.fault with aonDamp := false } }

/-! ## Meanings -/

/-- PEAL_START (R295, R297, R298). -/
def execPealStart (s : State) : Host.Outcome State Fault Refusal := .next (s.whenReady doPealStart)

/-- KEEP_ALIVE (R296) on lane n. -/
def execKeepAlive (n : Fin 16) (s : State) : Host.Outcome State Fault Refusal := .next (s.whenReady (doKeepAlive n.val))

/-- DAMP_SOURCE (R303): a source of Table 8-5, local or not, with its fault code and the node of its cause. -/
def execDampSource (loc : Bool) (code : BitVec 16) (node : BitVec 14) (s : State) : Host.Outcome State Fault Refusal :=
  .next (doDampSource loc code.toNat node.toNat s)

/-- DAMP_N_ASSERTED (R532). -/
def execDampNAsserted (s : State) : Host.Outcome State Fault Refusal := .next (doDampN s)

/-- DAMP_N_DEASSERTED (R303). -/
def execDampNDeasserted (s : State) : Host.Outcome State Fault Refusal :=
  .next { s with caril := { s.caril with dampN := false } }

/-- LATCH_CLEAR (R304). -/
def execLatchClear (s : State) : Host.Outcome State Fault Refusal := .next (s.hostCmd .CARIL_DAMP_STATUS 2 clearLatch)

/-- STATUS_ECHO (R314). -/
def execStatusEcho (n : Fin 18) (complete : Bool) (l : List Byte) (s : State) : Host.Outcome State Fault Refusal :=
  .next (s.whenReady (doEcho n.val complete l))

/-- MEASURE_ECHO (R312). -/
def execMeasureEcho (n : Fin 18) (complete : Bool) (l : List Byte) (s : State) : Host.Outcome State Fault Refusal :=
  .next (s.whenReady (doEcho n.val complete l))

/-- TRAIN_ECHO (R319). -/
def execTrainEcho (n : Fin 18) (complete : Bool) (l : List Byte) (s : State) : Host.Outcome State Fault Refusal :=
  .next (s.whenReady (doEcho n.val complete l))

/-- ECHO_TIMEOUT (R313). -/
def execEchoTimeout (n : Fin 18) (s : State) : Host.Outcome State Fault Refusal := .next (s.whenReady (doEchoTimeout n.val))

/-- TRAIN_FRAME (R317). -/
def execTrainFrame (n : Fin 18) (adapted : Bool) (s : State) : Host.Outcome State Fault Refusal :=
  .next (s.whenReady (doTrainFrame n.val adapted))

/-- TRAIN_TIMEOUT (R320). -/
def execTrainTimeout (n : Fin 18) (s : State) : Host.Outcome State Fault Refusal := .next (s.whenReady (doTrainTimeout n.val))

/-- RETRAIN (R317). -/
def execRetrain (s : State) : Host.Outcome State Fault Refusal := .next (s.hostCmd .LANE_CMD 1 doRetrain)

/-- EYE_CAL (R325). -/
def execEyeCal (s : State) : Host.Outcome State Fault Refusal := .next (s.hostCmd .LANE_CMD 2 doEyeCal)

/-- EYE_CAL_DONE (R325). -/
def execEyeCalDone (n : Fin 18) (clear : BitVec 64) (s : State) : Host.Outcome State Fault Refusal :=
  .next (s.whenReady (doEyeDone n.val clear.toNat))

/-- TX_SLEEP (R323). -/
def execTxSleep (s : State) : Host.Outcome State Fault Refusal := .next (s.hostCmd .LANE_CMD 3 doTxSleep)

/-- TX_WAKE (R324). -/
def execTxWake (s : State) : Host.Outcome State Fault Refusal := .next (s.hostCmd .LANE_CMD 4 doTxWake)

/-- RX_SLEEP (R323). -/
def execRxSleep (s : State) : Host.Outcome State Fault Refusal := .next (s.hostCmd .LANE_CMD 5 doRxSleep)

/-- RX_WAKE (R324). -/
def execRxWake (s : State) : Host.Outcome State Fault Refusal := .next (s.hostCmd .LANE_CMD 6 doRxWake)

/-- LANE_WAKE_DONE (R324): a TX or an RX. -/
def execLaneWakeDone (n : Fin 18) (tx : Bool) (s : State) : Host.Outcome State Fault Refusal :=
  .next (s.whenReady (doWakeDone n.val tx))

/-- BLOCK_LOCK_LOST (R291). -/
def execBlockLockLost (n : Fin 18) (s : State) : Host.Outcome State Fault Refusal :=
  .next (s.whenReady (fun s => if (s.lane n.val).rx == .data then s.setLane n.val { s.lane n.val with rx := .lost } else s))

/-- BLOCK_LOCK_REGAINED (R291). -/
def execBlockLockRegained (n : Fin 18) (s : State) : Host.Outcome State Fault Refusal :=
  .next (s.whenReady (fun s => if (s.lane n.val).rx == .lost then s.setLane n.val { s.lane n.val with rx := .data } else s))

end Sys2Proof.Machine
end

