-- ==== Sys2Proof/Machine/Track.lean ====
section
/-! DEFINITION. The tracking engine (Chapter 10). -/

namespace Sys2Proof.Machine

/-- The engine runs on a lead or solo device in native mode only (R378). -/
def State.trackOn (s : State) : Bool := s.leads && s.native

/-- Instance of the coefficients of axis a in a bank. -/
def coefOf (bank a : Nat) : Nat := 2 * bank + a

/-- A 32-bit coefficient of the active bank, two's complement. -/
def State.coefS (s : State) (x : RegField) (a : Nat) : Int := sext 32 (s.fd x (coefOf s.track.bank a))

/-- A field of the active bank. -/
def State.coefN (s : State) (x : RegField) (a : Nat) : Nat := s.fd x (coefOf s.track.bank a)

/-- An entry of table t: 0 X map, 1 Y map, 2 and 3 learning tables. -/
def TrackSt.entry (k : TrackSt) (t i : Nat) : Int := Sparse.get 0 k.tables (t * 65536 + i % 65536)

/-- Sticky flags of axis a are set (R16); the first setting of a bit raises TRK_SATURATION. -/
def satFlags (a mask : Nat) (s : State) : State :=
  let x := if a = 0 then F.TRACK_SAT_STATUS_X_FLAGS else F.TRACK_SAT_STATUS_Y_FLAGS
  let old := s.fd x
  if mask = 0 then s else (s.setFlag x mask).raiseIf (decide (Nat.lor old mask ≠ old)) .TRK_SATURATION

/-! ## Arithmetic (R382, R383) -/

/-- Limits of s32. -/
def s32Min : Int := -2147483648
def s32Max : Int := 2147483647

/-- One product site before saturation: (c × x) >> s, rounded. -/
def prodSite (c x : Int) (s : Nat) : Int := rshiftRound (c * x) s

/-- `mulsh`. -/
def mulsh (c x : Int) (s : Nat) : Int := sat (prodSite c x s) s32Min s32Max

/-- BASE of map a, 40-bit two's complement. -/
def State.mapBase (s : State) (a : Nat) : Int := sext 40 (s.fd F.TRACK_MAP_BASE_LO_BASE a + 2 ^ 32 * s.fd F.TRACK_MAP_BASE_HI_BASE a)

/-- SH of map a. -/
def State.mapShift (s : State) (a : Nat) : Nat := min 24 (s.fd F.TRACK_MAP_BASE_HI_SH a)

/-- `map(a)` (R383) and whether FF_SAT is set. -/
def State.feedForward (s : State) (a : Nat) (other : Int) : Int × Bool :=
  let d := other - s.mapBase a
  let sh := s.mapShift a
  if d < 0 then (s.track.entry a 0, true)
  else
    let idx := sar d sh
    if idx ≥ 65535 then (s.track.entry a 65535, true)
    else
      let f := d - idx * 2 ^ sh
      let t0 := s.track.entry a idx.toNat
      (t0 + rshiftRound ((s.track.entry a (idx.toNat + 1) - t0) * f) sh, false)

/-- NP of axis a. -/
def State.period (s : State) (a : Nat) : Nat := s.fd F.TRACK_REP_CFG_PERIOD_M1 a + 1

/-- REP_EN of axis a. -/
def State.repEn (s : State) (a : Nat) : Bool := s.fb (if a = 0 then F.TRACK_CFG_REP_X else F.TRACK_CFG_REP_Y)

/-- LEARN; a write of this cycle counts from the next one (Table 10-3a). -/
def State.learnOn (s : State) : Bool :=
  match s.cyc.reverse.findSome? (fun e => match e with
    | .stored .TRACK_CFG _ old _ => some old
    | _ => none) with
  | some old => wbit old 4
  | none => s.fb F.TRACK_CFG_LEARN

/-- FF_EN of axis a. -/
def State.ffEn (s : State) (a : Nat) : Bool := s.fb (if a = 0 then F.TRACK_CFG_FF_X else F.TRACK_CFG_FF_Y)

/-- ULIM of axis a in a bank. -/
def State.ulim (s : State) (bank a : Nat) : Int := (s.fd F.TRACK_ULIM_ULIM (coefOf bank a) : Nat)

/-- The constant offset of the X word in the current pass (R381). -/
def State.xOffset (s : State) : Int := (s.xf s.plan.pass * s.pixel * 16 : Nat)

/-- What one axis of a cycle gives: the word before the output clamp and without the grid term, and the new state. -/
def cycleAxis (a : Nat) (r other : Int) (s : State) : Int × State :=
  let e := sat r s32Min s32Max
  let sp := s.coefN F.TRACK_SHIFTS_SP a
  let si := s.coefN F.TRACK_SHIFTS_SI a
  let sr := s.coefN F.TRACK_SHIFTS_SR a
  let ul := s.ulim s.track.bank a
  let il : Int := (s.coefN F.TRACK_ILIM_ILIM a : Nat)
  let kp := s.coefS F.TRACK_KP_KP a
  let ki := s.coefS F.TRACK_KI_KI a
  let kr := s.coefS F.TRACK_KR_KR a
  let kq : Int := (s.coefN F.TRACK_REP_Q_KQ a : Nat)
  let pr := mulsh kp e sp
  let i0 := (s.track.integ[a]?).getD 0
  let iRaw := i0 + mulsh ki e si
  let i1 := sat iRaw (-il) il
  let ff := if s.ffEn a then s.feedForward a other else (0, false)
  let np := s.period a
  let ready := (s.track.ready[a]?).getD false
  let rp := if s.repEn a && ready then s.track.entry (2 + a) ((s.track.n + s.fd F.TRACK_REP_CFG_ADV a) % np) else 0
  let learn := s.repEn a && s.learnOn
  let j := s.track.n % np
  let qRaw := rshiftRound (kq * s.track.entry (2 + a) j) 16 + mulsh kr e sr
  let q := sat qRaw (-ul) ul
  let fill := (s.track.fill[a]?).getD 0
  let fill1 := if learn then min 65536 (fill + 1) else fill
  let mask := b2n (satHit r s32Min s32Max) + 2 * b2n (satHit (prodSite kp e sp) s32Min s32Max) +
    4 * b2n (satHit (prodSite ki e si) s32Min s32Max || satHit iRaw (-il) il) + 8 * b2n ff.2 +
    16 * b2n (learn && (satHit (prodSite kr e sr) s32Min s32Max || satHit qRaw (-ul) ul))
  let t := s.track
  let s1 := { s with
    track := { t with
      integ := t.integ.setIfInBounds a i1
      fill := t.fill.setIfInBounds a fill1
      ready := t.ready.setIfInBounds a (ready || (learn && decide (np ≤ fill1)))
      tables := if learn then Sparse.set 0 t.tables ((2 + a) * 65536 + j) q else t.tables } }
  let s2 := s1.setFd F.TRACK_RESID_E (wrapU 32 e) a
  let off := if a = 0 then s.xOffset else 0
  (pr + i1 + ff.1 + rp + off, satFlags a mask s2)

/-- The output clamp (R389): the word sent, and whether it was clamped. -/
def State.clampWord (s : State) (a : Nat) (w : Int) : Int × Bool :=
  let ul := s.ulim s.track.bank a
  (sat w (-ul) ul, satHit w (-ul) ul)

/-- The last words sent. -/
def setWords (x y : Int) (s : State) : State :=
  { s with track := { s.track with words := (s.track.words.set 0 x).set 1 y } }

/-! ## Banks (R390, R391) -/

/-- The shadow bank becomes active. -/
def applySwap (s : State) : State :=
  let b := 1 - s.track.bank
  let s1 := { s with track := { s.track with bank := b, swapPending := false } }
  let s2 := s1.bumpWrap F.TRACK_BANK_STATUS_SWAPS
  (List.range 2).foldl (fun s a =>
    let il : Int := (s.fd F.TRACK_ILIM_ILIM (coefOf b a) : Nat)
    let i := (s.track.integ[a]?).getD 0
    let s' := { s with track := { s.track with integ := s.track.integ.setIfInBounds a (sat i (-il) il) } }
    if satHit i (-il) il then satFlags a 4 s' else s') s2

/-- ULIM of a bank is large enough on both axes (R390, R396). -/
def State.ulimOk (s : State) (bank : Nat) : Bool :=
  [0, 1].all (fun a => decide (s.ulim bank a ≥ (2 * s.pixel * 4096 : Nat)))

/-- SWAP of TRACK_BANK_CMD. -/
def doSwap (s : State) : State :=
  if !s.trackOn then s
  else if s.track.swapPending then s.raise .TRK_SWAP_BUSY
  else if s.plan.state.active && !(s.ulimOk (1 - s.track.bank)) then s.raise .TRK_CONFIG_INVALID
  else if s.plan.state.running then { s.mark .swap with track := { s.track with swapPending := true } }
  else applySwap s

/-! ## Learning tables (R384) -/

/-- The learning table, FILL and READY of axis a are zeroed. -/
def clearLearning (a : Nat) (s : State) : State :=
  { s with track := { s.track with
    tables := s.track.tables.filter (fun e => e.1 / 65536 != 2 + a)
    fill := s.track.fill.setIfInBounds a 0
    ready := s.track.ready.setIfInBounds a false } }

/-- CLEAR of TRACK_REP_CMD. -/
def doTrackClear (s : State) : State := if s.trackOn then clearLearning (s.fd F.TRACK_AXIS_SEL_AXIS) s else s

/-- A write to TRACK_MAP_DATA (R395). -/
def doMapWrite (v : Word) (s : State) : State :=
  if !s.trackOn then s
  else if s.plan.state.running then s.raise .TRK_BUSY
  else
    let t := s.fd F.TRACK_MAP_SEL_TABLE
    let i := s.fd F.TRACK_MAP_INDEX_INDEX
    let k := s.track
    let s1 := { s with track := { k with
      tables := Sparse.set 0 k.tables (t * 65536 + i) (sext 32 v.toNat)
      ready := if t ≥ 2 then k.ready.setIfInBounds (t - 2) true else k.ready } }
    s1.setFd F.TRACK_MAP_INDEX_INDEX (i + 1)

/-- A write to TRACK_REP_CFG (R384, R395). -/
def doRepCfgWrite (v : Word) (s : State) : State :=
  if !s.trackOn then s
  else if s.plan.state.running then s.raise .TRK_BUSY
  else
    let a := s.fd F.TRACK_AXIS_SEL_AXIS
    clearLearning a (s.setRg .TRACK_REP_CFG v a)

/-! ## Planned positions (R380) -/

/-- Planned X and Y of the update in which instant t falls. -/
def State.plannedAt (s : State) (t : Int) : Int × Int :=
  match s.stage.planHist.find? (fun e => decide (e.1 ≤ t)) with
  | some e => e.2
  | none => ((s.axis 0).setPoint, (s.axis 1).setPoint)

/-- Y(k) of pass p (R356). -/
def State.beatY (s : State) (p k : Nat) : Int :=
  sext 40 (s.fd F.STAGE_Y0_LO_POS + 2 ^ 32 * s.fd F.STAGE_Y0_HI_POS) +
    s.scanDir * ((k * s.pixel : Nat) + rshiftRound (s.yf p * s.pixel) 8)

/-- Planned Y at instant t: between two issued beats, else the generator's. -/
def State.plannedY (s : State) (t : Int) : Int :=
  match s.stage.beats.find? (fun b => decide (b.2 ≤ t)) with
  | some (k, tb) =>
    match s.stage.beats.find? (fun b => b.1 == k + 1) with
    | some (_, tn) => s.beatY s.plan.pass k + s.scanDir * roundHd ((t - tb) * s.pixel) (tn - tb)
    | none => (s.plannedAt t).2
  | none => (s.plannedAt t).2

/-! ## Shifts (R385, R386) -/

/-- T_BEAT in 100 ps (R357). -/
def State.tBeat (s : State) : Int := s.horizon + 10 * (s.leadNs : Nat) + 6500

/-- The predicted instant of beat k from the latest good channel 2 sample (R357); none while the speed is invalid or the
stage does not move forward. -/
def State.predict (s : State) (k : Nat) : Option Int :=
  let c := s.chan 2
  let u := s.scanDir * c.v
  match c.goodAt with
  | some ts => if c.estValid && decide (u > 0) then
      some (ts + roundHd (s.scanDir * (s.beatY s.plan.pass k - c.pos) * 2560000) u) else none
  | none => none

/-- The first beat whose peal START falls at least 40 ns after t + H (Table 9-9). -/
def State.shiftBeat (s : State) (t : Int) : Option Nat :=
  let min_ := t + s.horizon + 400 + 10 * (s.leadNs : Nat) + 3200
  match (s.stage.beats.reverse.find? (fun b => decide (b.2 ≥ min_))) with
  | some b => some b.1
  | none =>
    let k := s.stage.nextBeat
    if s.fb F.STAGE_BEAT_CFG_SRC then some k
    else
      let c := s.chan 2
      let u := s.scanDir * c.v
      match s.predict k with
      | none => none
      | some tb =>
        if tb ≥ min_ then some k
        else some (k + (((min_ - tb) * u + (s.pixel * 2560000 - 1 : Nat)) / (s.pixel * 2560000 : Nat)).toNat)

/-- A shift is pending (R385): decided and not yet sent, or sent and not yet executed. -/
def State.shiftPending (s : State) : Bool := !s.track.shifts.isEmpty || s.cad.due.any (fun c => c.code == 4)

/-- A SHIFT of one step is decided (R385). -/
def decideShift (step : Int) (s : State) : State :=
  let s1 := { s with
    track := { s.track with hPend := s.track.hPend + step }
    cad := { s.cad with due := s.cad.due ++ [(⟨4, if step < 0 then 1 else 0, 0⟩ : CadCmd)] } }
  s1.bump F.TRACK_SHIFT_STATUS_COUNT

/-- The shift decision after an X cycle in EXPOSING (R385). -/
def shiftDecision (r : Int) (s : State) : State :=
  let p : Int := (s.pixel : Nat)
  let g := r + s.track.hPend * p
  let inPass := match s.shiftBeat s.stageT with
    | some k => decide (k < s.passBeats)
    | none => false
  if s.plan.state == .exposing && s.fb F.TRACK_CFG_HYST && !s.shiftPending && inPass then
    if 4 * g > 3 * p then decideShift (-1) s
    else if 4 * g < -(3 * p) then decideShift 1 s
    else s
  else s

/-- Re-centres whose instant tb(k) − ADV_NS has come: h_dfl takes them in (R386). -/
def recentreDue (s : State) : State × Bool :=
  let adv : Int := (10 * s.fd F.TRACK_RECENTRE_ADV_NS : Nat)
  let ripe (x : PendShift) : Bool := match s.stage.beats.find? (fun b => b.1 == x.beat) with
    | some b => decide (s.stageT ≥ b.2 - adv)
    | none => false
  let l := s.track.recentre.filter ripe
  if l.isEmpty then (s, false)
  else ({ s with track := { s.track with
    hDfl := s.track.hDfl + sumI (l.map (·.step))
    recentre := s.track.recentre.filter (fun x => !(ripe x)) } }, true)

/-! ## Cycles (R379, R393) -/

/-- The latest end of a cycle's blocks after its sample, in 100 ps: 300 ns, moved by 81 clock periods at a lower metrology
rate (R393). -/
def State.cycleBound (s : State) : Nat :=
  let rate := max 1 ((s.str.met[0]?.map MetPort.rateMbps).getD 800)
  3000 + (810000 / rate - 810000 / 800)

/-- The latency of a cycle's blocks, whose sample was taken at t; `exposing`: the cycle ran in EXPOSING (R393). -/
def cycleLatency (t : Int) (exposing : Bool) (s : State) : State :=
  let l := (s.stageT - t).toNat
  let s1 := s.setFd F.TRACK_LATENCY_MAX (max (s.fd F.TRACK_LATENCY_MAX) (min 65535 l))
  if exposing && decide (l > s.cycleBound) then s1.localDamp .TRK_CYCLE_LATE else s1

/-- The last computed X word with the present h_dfl, clamped (R386). -/
def State.gridWord (s : State) : Int := (s.clampWord 0 (s.track.base + s.track.hDfl * (s.pixel * 4096 : Nat))).1

/-- A held cycle whose sample was taken at t (R379): the previous words; a re-centre due at its boundary goes in its block (R386). -/
def heldCycle (t : Int) (s : State) : State :=
  let rc := recentreDue s
  let x := if rc.2 then rc.1.gridWord else s.track.words[0]
  let y := s.track.words[1]
  let s1 := setWords x y { rc.1 with track := { rc.1.track with n := rc.1.track.n + 1 } }
  cycleLatency t (s.plan.state == .exposing) (sendSample x y false rc.2 (s1.bump F.TRACK_HOLD_COUNT_COUNT))

/-- A cycle on good samples x and y taken at instants tx and ty (R380 to R389). -/
def goodCycle (x tx y ty : Int) (s : State) : State :=
  let rx := x - (s.plannedAt tx).1
  let ry := y - s.plannedY ty
  let rc := recentreDue s
  let cx := cycleAxis 0 rx y rc.1
  let cy := cycleAxis 1 ry x cx.2
  let s1 := cy.2
  let wx := cx.1 + s1.track.hDfl * (s1.pixel * 4096 : Nat)
  let ox := s1.clampWord 0 wx
  let oy := s1.clampWord 1 cy.1
  let s2 := setWords ox.1 oy.1 { s1 with track := { s1.track with n := s1.track.n + 1, base := cx.1 } }
  let s3 := if ox.2 then satFlags 0 32 s2 else s2
  let s4 := if oy.2 then satFlags 1 32 s3 else s3
  let s5 := sendSample ox.1 oy.1 false rc.2 s4
  let s6 := if (ox.2 || oy.2) && s.plan.state == .exposing then s5.localDamp .TRK_OUTPUT_LIMIT else s5
  shiftDecision rx (cycleLatency ty (s.plan.state == .exposing) s6)

/-- One reference edge (R379, R388, R311) with what channels 0 and 2 gave there. A pending swap takes effect at the start of a cycle,
but not of one in the cycle of its write (Table 10-3a). -/
def trackEdge (x y : EdgeSample) (s : State) : State :=
  if !s.trackOn then s
  else if (List.range 3).any (fun c => (s.chan c).calActive) then
    sendSample s.track.words[0] s.track.words[1] true false s
  else if !s.plan.state.running && !s.track.heldDue then
    let p (a : Nat) : Int := sext 32 (s.rg .TRACK_PARK a).toNat
    sendSample (p 0) (p 1) false false (setWords (p 0) (p 1) s)
  else
    let s1 := if s.track.swapPending && !s.saw .swap then applySwap s else s
    match x.pos, y.pos with
    | some px, some py => goodCycle px x.time py y.time s1
    | _, _ => heldCycle y.time s1

/-- The cycle of an edge runs once channel 0 and channel 2 have both given their sample of it (R379; R335: edges within 1 ns). -/
def runEdge (s : State) : State :=
  match s.track.x0, s.track.y2 with
  | some x, some y =>
    if (x.tref - y.tref).natAbs ≤ 10 then
      let s1 := trackEdge x y s
      { s1 with track := { s1.track with x0 := none, y2 := none, heldDue := false } }
    else s
  | _, _ => s

/-- Channel 2 gave y at an edge to which channel 0 gives nothing. -/
def loneEdge (y : EdgeSample) (s : State) : State := trackEdge ⟨y.tref, y.time, none⟩ y s

/-- Channel c gave e at its edge. A channel 2 sample still waiting for an older edge has no partner left. -/
def noteEdge (c : Nat) (e : EdgeSample) (s : State) : State :=
  match c with
  | 0 => { s with track := { s.track with x0 := some e } }
  | 2 =>
    let s1 := match s.track.y2 with
      | some y => loneEdge y s
      | none => s
    { s1 with track := { s1.track with y2 := some e } }
  | _ => s

/-- RECENTRE_BLOCK (R386): the extra block on TX[16]. -/
def doRecentre (s : State) : State :=
  let rc := recentreDue s
  if !s.trackOn || !s.plan.state.running || !rc.2 then s
  else
    let w := rc.1.gridWord
    sendDefl 16 w false true (setWords w rc.1.track.words[1] rc.1)

/-! ## Meanings -/

/-- RECENTRE_BLOCK (R386). -/
def execRecentreBlock (s : State) : Host.Outcome State Fault Refusal := .next (s.whenReady doRecentre)

/-- SWAP (R390). -/
def execSwap (s : State) : Host.Outcome State Fault Refusal := .next (s.hostCmd .TRACK_BANK_CMD 1 doSwap)

/-- CLEAR (R384). -/
def execClear (s : State) : Host.Outcome State Fault Refusal := .next (s.hostCmd .TRACK_REP_CMD 1 doTrackClear)

/-- TRACK_MAP_DATA_WRITE (R395). -/
def execTrackMapDataWrite (v : BitVec 32) (s : State) : Host.Outcome State Fault Refusal :=
  .next (s.hostWrite .TRACK_MAP_DATA 0 v (doMapWrite v))

/-- TRACK_REP_CFG_WRITE (R384). -/
def execTrackRepCfgWrite (v : BitVec 32) (s : State) : Host.Outcome State Fault Refusal :=
  .next (s.hostWrite .TRACK_REP_CFG 0 v (doRepCfgWrite v))

end Sys2Proof.Machine
end

