-- ==== Sys2Proof/Machine/Stage.lean ====
section
/-! DEFINITION. Stage metrology, position compare, the profile generator and the set-point port (Chapter 9, R331 to R355 and
R372 to R375). -/

namespace Sys2Proof.Machine

/-! ## Column temperature (R372, R373, R375) -/

/-- CARIL_TEMP_LEVEL: the highest level over the lanes whose RX is awake, with the lowest lane at it (R326). -/
def State.carilLevel (s : State) : Nat × Nat :=
  (List.range 18).foldl (fun (a : Nat × Nat) n =>
    let l := s.lane n
    if l.rx != .sleep && decide (l.level > a.1) then (l.level, n) else a) (0, 0)

/-- The device's level (R372). -/
def State.deviceLevel (s : State) : Nat := max s.carilLevel.1 s.fault.junctionLevel

/-- The device's headroom in 0.25 °C, 255 for 63.75 °C or more (R372, Table 9-8). -/
def State.deviceHeadroom (s : State) : Nat :=
  let tj := sext 12 (s.fd F.FAULT_TEMP_TJ)
  let junction : Int := (920 - tj) / 2
  let lane (n : Nat) : Int := (64 * (s.fd F.LANE_TEMP_LIMIT_TRIP n : Nat) - sext 16 (s.fd F.LANE_DRV_TEMP_TEMP n)) / 16
  let m := (List.range 18).foldl (fun (m : Int) n =>
    if (s.lane n).rx != .sleep && (s.lane n).statusAt != 0 then min m (lane n) else m) junction
  (sat m 0 255).toNat

/-- The scan velocity in LU/µs. -/
def State.scanVel (s : State) : Rat := (s.fd F.STAGE_SCAN_VEL_V : Rat) / 2 ^ 16

/-- The velocity of the run-in and the scan: derated or not (R373). -/
def State.runVel (s : State) : Rat :=
  let v := s.scanVel * (s.scanDir : Rat)
  if s.stage.derated then v * (s.fd F.STAGE_TEMP_CFG_DERATE : Rat) / 256 else v

/-- Y is planned toward the derated velocity while it runs in or scans (R373). In RUN_OUT Y is on the one move that R352 gives it,
to a start or to a stop, and that move stands (DESIGN CHOICE, assumption log 56). -/
def derateY (s : State) : State :=
  if s.stage.derated && (s.plan.state == .runIn || s.plan.state == .exposing) then s.aim 1 (.vel s.runVel) else s

/-- The scan velocity is derated, once, with STG_TEMP_DERATE (R373). -/
def derate (s : State) : State :=
  if s.plan.state.running && !s.stage.derated then
    derateY (({ s with stage := { s.stage with derated := true } }).raise .STG_TEMP_DERATE)
  else s

/-- STAGE_TEMP_CFG is written: it takes effect at once (R377). -/
def tempCfgWrite (v : Word) (s : State) : State :=
  let s1 := s.setRg .STAGE_TEMP_CFG v
  if s1.fd F.STAGE_TEMP_CFG_DERATE = s.fd F.STAGE_TEMP_CFG_DERATE then s1 else derateY s1

/-- History of the headroom, newest first, kept back to one entry older than 1 ms (R374). -/
def pushHead (t : Int) (h : Nat) (l : List (Int × Nat)) : List (Int × Nat) :=
  let keep := l.takeWhile (fun e => decide (e.1 > t - 10000000))
  (t, h) :: keep ++ (l.drop keep.length).take 1

/-- The column's level, first device at it and headroom are known (R372, R373, R375). -/
def setColumnTemp (level dev head : Nat) (s : State) : State :=
  let old := s.fd F.STAGE_TEMP_STATUS_LEVEL
  let s := ((s.setFd F.STAGE_TEMP_STATUS_LEVEL level).setFd F.STAGE_TEMP_STATUS_DEV dev).setFd F.STAGE_TEMP_STATUS_HEADROOM head
  let s := { s with stage := { s.stage with
    headHist := pushHead s.stageT head s.stage.headHist
    holdFrom := if level < 2 then none else s.stage.holdFrom } }
  let s := if level ≥ 1 then derate s else s
  if level = 3 ∧ old ≠ 3 then s.localDamp .STG_TEMP_TRIP else s

/-! ## Metrology words (R336, R337) -/

/-- CRC8 of a metrology word is correct (R336). -/
def metCrcOk (w : Nat) : Bool := crc crcC8A (beBytes 7 (w / 256)) == w % 256

/-- POS of a word. -/
def metPos (w : Nat) : Int := sext 40 (w / 2 ^ 24)

/-- Channel c's port configuration. -/
def State.metPort (s : State) (c : Nat) : MetPort := (s.str.met[c]?).getD ⟨false, 0, 800, 0, 5000⟩

/-- The sample instant (R337). -/
def State.sampleAt (s : State) (c w tref : Nat) : Int :=
  (tref : Int) + ((s.metPort c).latchPs + 50) / 100 + sext 8 (w / 256)

/-- The metrology port works on a lead or solo device in native mode (R331). -/
def State.metOn (s : State) (c : Nat) : Bool := s.leads && s.native && !s.str.safe && (s.metPort c).enable

/-- A sample is good (R338). -/
def State.metGood (s : State) (c w : Nat) : Bool :=
  let ch := s.chan c
  metCrcOk w && bit w 23 == 0 && bits w 21 16 == 0 &&
  (c == 3 || !ch.hasPrev || decide ((metPos w - ch.pos).natAbs ≤ s.fd F.STAGE_MET_CFG_JUMP_LU))

/-! ## Speed and direction (R343, R345) -/

/-- A value of s32. -/
def i32 (x : Int) : Int := sext 32 (wrapU 32 x)

/-- `speed_update` with the registers' values: DIFF_N, STEP, STOP_US, LO, HI. -/
def MetCh.speedUpdate (c : MetCh) (diffN step stopUs lo hi : Nat) (p t : Int) : MetCh :=
  let push (c : MetCh) : List (Int × Int) := ((p, t) :: c.hist).take 63
  if c.n = 0 then { c with pa := p, ta := t, hist := push c, n := 1 }
  else
    let c1 :=
      if c.diff then
        let h := (c.hist[min c.n diffN - 1]?).getD (p, t - 1)
        { c with v := i32 (roundHd ((p - h.1) * 2560000) (t - h.2)) }
      else if (p - c.pa).natAbs ≥ step then
        { c with v := i32 (roundHd ((p - c.pa) * 2560000) (t - c.ta)), pa := p, ta := t }
      else if t - c.ta ≥ (stopUs * 10000 : Nat) then { c with v := 0 }
      else if c.v ≠ 0 then
        let vb := i32 (roundHd ((step * 2560000 : Nat) : Int) (t - c.ta))
        if (c.v.natAbs : Int) > vb then { c with v := if c.v > 0 then vb else -vb } else c
      else c
    let c2 :=
      if !c1.diff && decide (c1.v.natAbs > 16 * hi) then { c1 with diff := true }
      else if c1.diff && decide (c1.v.natAbs < 16 * lo) then { c1 with diff := false, pa := p, ta := t }
      else c1
    { c2 with hist := push c2, n := min (c2.n + 1) 63, estValid := true }

/-- The direction rules of R345; whether the direction interrupt is raised. -/
def MetCh.direction (c : MetCh) (window : Nat) (p : Int) : MetCh × Bool :=
  let c := if c.dirFirst then { c with pmin := p, pmax := p, dirFirst := false } else c
  let r : MetCh × Bool :=
    if c.dir ≠ 1 ∧ p > c.pmin + window then ({ c with dir := 1, pmax := p }, true)
    else if c.dir ≠ -1 ∧ p < c.pmax - window then ({ c with dir := -1, pmin := p }, true)
    else (c, false)
  let d := r.1
  let d := if d.dir ≥ 0 then { d with pmax := max d.pmax p } else d
  let d := if d.dir ≤ 0 then { d with pmin := min d.pmin p } else d
  (d, r.2)

/-- The estimator and the direction flag restart as at first use (R339). -/
def MetCh.restart (c : MetCh) : MetCh :=
  { c with n := 0, hist := [], v := 0, diff := false, estValid := false, dir := 0, dirFirst := true }

/-! ## Samples (R338 to R348, R352) -/

/-- A discarded sample (R338, R339). -/
def badSample (c w : Nat) (s : State) : State :=
  let ch := s.chan c
  let s1 := (s.bump F.STAGE_MET_BAD_COUNT_COUNT 1 c).raise .STG_METRO_BAD
  let run := ch.badRun + 1
  let s2 := s1.setChan c { ch with badRun := run, settle := 0 }
  if c < 3 && !ch.lost && (bit w 21 == 1 || decide (run ≥ max 1 (s.fd F.STAGE_MET_CFG_BAD_LIMIT))) then
    let s3 := s2.setChan c { (s2.chan c).restart with lost := true, hasPrev := false }
    s3.runDamp .STG_METRO_LOST
  else s2

/-- The user's compare (R347). -/
def compareFire (c : Nat) (p : Int) (s : State) : State :=
  let target := sext 40 (s.fd F.STAGE_CMP_TARGET_LO_TARGET + 2 ^ 32 * s.fd F.STAGE_CMP_TARGET_HI_TARGET)
  let dir : Int := if s.fb F.STAGE_CMP_CFG_DIR then -1 else 1
  if s.stage.cmpArmed && s.fd F.STAGE_CMP_CFG_CH == c && decide ((p - target) * dir ≥ 0) then
    (({ s with stage := { s.stage with cmpArmed := false } }).setFlag F.STAGE_CMP_STATUS_FIRED).irq 68
  else s

/-- The internal compare of R348 on channel 2. -/
def innerFire (p : Int) (s : State) : State :=
  match s.stage.inner with
  | some y0 =>
    if (p - y0) * s.scanDir ≥ 0 then
      let s1 := { s with stage := { s.stage with inner := none } }
      if s.plan.state == .runIn && s.stage.nextBeat == 0 then s1.localDamp .STG_BEAT_STALL else s1
    else s
  | none => s

/-- The yaw of the last good samples of channels 0 and 1 is tested where they are of one reference edge (R340; R335: within
1 ns). -/
def yawTest (s : State) : State :=
  match s.stage.yawX1, s.stage.yawX2 with
  | some (x1, t1), some (x2, t2) =>
    let yaw := x1 - x2 - sext 16 (s.fd F.STAGE_YAW_OFFSET)
    if (t1 - t2).natAbs ≤ 10 ∧ yaw.natAbs > s.fd F.STAGE_YAW_LIMIT then s.runDamp .STG_YAW else s
  | _, _ => s

/-- A good sample of channel 0 or 1, whichever is the later of its pair, completes a yaw (R340). -/
def yawCheck (c tref : Nat) (p : Int) (s : State) : State :=
  match c with
  | 0 => yawTest { s with stage := { s.stage with yawX1 := some (p, (tref : Int)) } }
  | 1 => yawTest { s with stage := { s.stage with yawX2 := some (p, (tref : Int)) } }
  | _ => s

/-- A reading of the detector gate in an open window of a gate scan (R285). -/
def gateReading (w : Nat) (s : State) : State :=
  match s.plan.scan with
  | some sc => match sc.window with
    | some e => if s.stageT ≥ e then s else { s with plan := { s.plan with scan := some { sc with sum := min (2 ^ 32 - 1) (sc.sum + w / 2 ^ 24) } } }
    | none => s
  | none => s

/-- A good sample (R338, R343, R345 to R348, R340, R352). -/
def goodSample (c w tref : Nat) (s : State) : State :=
  let ch := s.chan c
  let p := metPos w
  let t := s.sampleAt c w tref
  let ch1 := { ch with pos := p, status := bits w 23 16, valid := true, lost := false, hasPrev := true, badRun := 0, goodAt := some t }
  let lo := s.fd F.STAGE_SPEED_THR_LO
  let ch2 := if c < 3 then ch1.speedUpdate (max 1 (s.fd F.STAGE_SPEED_CFG_DIFF_N)) (max 1 (s.fd F.STAGE_SPEED_CFG_STEP))
    (s.fd F.STAGE_SPEED_CFG_STOP_US) lo (max lo (s.fd F.STAGE_SPEED_THR_HI)) p t else ch1
  let d := if c < 3 then ch2.direction (s.fd F.STAGE_DIR_CFG_WINDOW) p else (ch2, false)
  let pl := s.plannedAt t
  let sp := if c = 0 then pl.1 else pl.2
  let near := decide ((p - sp).natAbs ≤ s.fd F.STAGE_SETTLE_TOL_LU)
  let s1 := s.setChan c { d.1 with settle := if near then d.1.settle + 1 else 0 }
  let s2 := if d.2 then s1.irq 68 else s1
  let s3 := compareFire c p (s2.mark (.goodSample c (if ch.hasPrev then some ch.pos else none) p))
  let s4 := if c = 2 then innerFire p s3 else s3
  let s5 := yawCheck c tref p s4
  if c = 3 ∧ (s.metPort 3).func = 1 then gateReading w s5 else s5

/-- What channel c gives at the edge tref: with a word that is not good, the instant is that of the latch alone. -/
def State.edgeSample (s : State) (c w tref : Nat) : EdgeSample :=
  if s.metGood c w then ⟨(tref : Int), s.sampleAt c w tref, some (metPos w)⟩
  else ⟨(tref : Int), s.sampleAt c 0 tref, none⟩

/-- A discarded sample after its cycle: a loss that ends the stripe before the partner's sample leaves the cycle held. -/
def badEdge (c w : Nat) (s : State) : State :=
  let s1 := badSample c w s
  let waits := s.track.x0.isSome || s.track.y2.isSome
  if waits && s.plan.state.running && !s1.plan.state.running then { s1 with track := { s1.track with heldDue := true } } else s1

/-- A complete metrology word of channel c whose reference edge left at tref (R338). A transaction that ALIGN has cut gives none
(Table 11-5). A cycle that the word completes runs after the
sample has been judged good, and before a discarded sample loses the channel (Table 10-3a). -/
def doMetSample (c w tref : Nat) (s : State) : State :=
  let e := s.edgeSample c w tref
  if !(s.metOn c) || decide ((tref : Int) < s.stage.gridAt) then s
  else if (s.chan c).calActive then (if c = 2 then loneEdge e s else s)
  else
    let alone := decide (c = 2) && (!(s.metOn 0) || (s.chan 0).calActive)
    let cycle (s : State) : State := if alone then loneEdge e s else runEdge (noteEdge c e s)
    if s.metGood c w then cycle (goodSample c w tref s) else badEdge c w (cycle s)

/-! ## Phase calibration (R342) -/

/-- STAGE_MET_SEL. -/
def State.metSel (s : State) : Nat := s.fd F.STAGE_MET_SEL_CH

/-- A CAL of channel 0, 1 or 2 takes effect before a START of its own cycle, which is then ignored with STG_BUSY (R597, Table 20-6). -/
def undoStart (c : Nat) (s : State) : State :=
  s.cyc.foldl (fun s e => match e with
    | .started plan stage verify =>
      if c > 2 || s.plan.state != .armed then s
      else
        { s with
          plan := { s.plan with started := plan.started, accepted := plan.accepted, failChain := plan.failChain, failMatch := plan.failMatch }
          stage := { s.stage with axes := stage.axes, wait := stage.wait, spStop := stage.spStop }
          cad := { s.cad with startVerify := verify } }.raise .STG_BUSY
    | _ => s) s

/-- CAL; a member and a TL-40 device have no channel to calibrate (R342, Table 20-2). -/
def doMetCal (s : State) : State :=
  let c := s.metSel
  if !(s.leads && s.native) || s.plan.state.running then s.raise .STG_BUSY
  else if (s.chan c).calActive then s
  else
    let s := undoStart c s
    (s.setChan c { s.chan c with calActive := true, stale := true }).mark (.metCal c)

/-- The end of a calibration; a write of its cycle to the channel's phase stands (R610). Bit i of `clear` says that offset i − 32 saw no disagreement, `good` how many of 256 words at
the candidate passed. -/
def doMetCalDone (c clear good : Nat) (s : State) : State :=
  if !(s.chan c).calActive then s
  else
    let r := longestRun clear s
    let s := r.2.setChan c { r.2.chan c with calActive := false, stale := false }
    match r.1 with
    | none => s.raise .STG_MET_CAL_IMPLAUSIBLE
    | some (a, len) =>
      let cand := sat (((s.chan c).phase : Int) + ((a + (len - 1) / 2 : Nat) - 32)) 0 511
      let written := s.cyc.any (fun e => match e with
        | .hostWrote .STAGE_MET_PHASE i _ _ => i == c
        | _ => false)
      if !(16 ≤ len ∧ 250 ≤ good) then s.raise .STG_MET_CAL_IMPLAUSIBLE
      else if written then s else s.setFd F.STAGE_MET_PHASE_STAGED cand.toNat c

/-! ## Compare commands (R346, R347) -/

/-- The good sample of channel c in this cycle, with the good sample before it. -/
def State.sampleNow (s : State) (c : Nat) : Option (Option Int × Int) :=
  s.cyc.findSome? (fun e => match e with
    | .goodSample d prev p => if d = c then some (prev, p) else none
    | _ => none)

/-- The latest good POS of channel c before the present cycle (R346). -/
def State.posBefore (s : State) (c : Nat) : Option Int :=
  match s.sampleNow c with
  | some (prev, _) => prev
  | none => if (s.chan c).hasPrev then some (s.chan c).pos else none

/-- The compare target and DIR are ahead of p (R346). -/
def State.targetAhead (s : State) (p : Int) : Bool :=
  let target := sext 40 (s.fd F.STAGE_CMP_TARGET_LO_TARGET + 2 ^ 32 * s.fd F.STAGE_CMP_TARGET_HI_TARGET)
  let dir : Int := if s.fb F.STAGE_CMP_CFG_DIR then -1 else 1
  decide ((target - p) * dir > 0)

/-- ARM of STAGE_CMP_CMD: judged on the sample before this cycle; a good sample of this cycle is the first one tested
(Table 9-10). -/
def doCmpArm (s : State) : State :=
  let c := s.fd F.STAGE_CMP_CFG_CH
  if (s.posBefore c).any s.targetAhead then
    let s1 := { s with stage := { s.stage with cmpArmed := true } }
    match s.sampleNow c with
    | some (_, p) => compareFire c p s1
    | none => s1
  else (({ s with stage := { s.stage with cmpArmed := false } }).setFlag F.STAGE_CMP_STATUS_BEHIND).raise .STG_COMPARE_BEHIND

/-- DISARM. -/
def doCmpDisarm (s : State) : State := { s with stage := { s.stage with cmpArmed := false } }

/-! ## Motion (R349 to R354) -/

/-- The profile generator works on a lead or solo device in native mode (R331). -/
def State.motionOn (s : State) : Bool := s.leads && s.native && !s.str.safe

/-- One update of both axes (R349); the planned Y of a run-in reaching Y(0) is noted (R359). -/
def doProfile (s : State) : State :=
  if !s.motionOn then s
  else
    let s1 := (s.setAxis 0 ((s.axis 0).update s.limits s.vmaxK)).setAxis 1 ((s.axis 1).update s.limits s.vmaxK)
    let x := (s1.axis 0).setPoint
    let y := (s1.axis 1).setPoint
    let hit := s.plan.state == .runIn && s.stage.yInAt.isNone &&
      decide ((y - s.beatY s.plan.pass 0) * s.scanDir ≥ 0)
    { s1.mark .profileTick with stage := { s1.stage with
      planHist := ((s1.stageT, x, y) :: s1.stage.planHist).take 16
      yInAt := if hit then some s1.stageT else s1.stage.yInAt } }

/-- STAGE_MOVE_CMD MOVE (R351, R353). -/
def doMove (s : State) : State :=
  if !s.motionOn then s
  else if s.plan.state.running then s.raise .STG_BUSY
  else
    let x := sext 40 (s.fd F.STAGE_MOVE_X_LO_POS + 2 ^ 32 * s.fd F.STAGE_MOVE_X_HI_POS)
    let y := sext 40 (s.fd F.STAGE_MOVE_Y_LO_POS + 2 ^ 32 * s.fd F.STAGE_MOVE_Y_HI_POS)
    (({ s with stage := { s.stage with spStop := false } } : State).aim 0 (.to x)).aim 1 (.to y)

/-- STAGE_MOVE_CMD STOP (R351, R353). -/
def doStop (s : State) : State :=
  if !s.motionOn then s
  else if s.plan.state.running then s.raise .STG_BUSY
  else (s.aim 0 .stop).aim 1 .stop

/-- The bytes of a set-point frame (Table 9-6). -/
def setPointBytes (seq flags : Nat) (x y acc : Int) : List Byte :=
  let b := leBytes 1 seq ++ leBytes 1 flags ++ leBytes 5 (wrapU 40 x) ++ leBytes 5 (wrapU 40 y) ++ leBytes 2 (wrapU 16 acc)
  b ++ leBytes 2 (crc crcC16 b)

/-- SP_FRAME_HZ. -/
def State.spHz (s : State) : Nat := max 1 s.str.spFrameHz

/-- Updates of 100 ns from the instant of this set-point frame to that of the next one (R354). -/
def State.spUpdates (s : State) : Nat := (10000000 + s.stage.spPhase) / s.spHz

/-- The flags of a set-point frame with axes x and y (Table 9-6). -/
def State.spFlags (s : State) (x y : Axis) : Nat :=
  b2n s.plan.state.running + 2 * b2n (!(x.atRest && y.atRest)) + 4 * b2n s.stage.spStop +
    8 * b2n (decide (x.now.2.2 ≠ 0) && decide (y.now.2.2 = 0))

/-- ACC: the acceleration of the axis that AXIS names (R354). -/
def spAcc (x y : Axis) : Int :=
  let a := if decide (x.now.2.2 ≠ 0) && decide (y.now.2.2 = 0) then x.now.2.2 else y.now.2.2
  sat ((a * 4096 + 1 / 2).floor) (-32768) 32767

/-- A set-point frame leaves (R354): the planned state for the instant at which the next one begins. -/
def doSetPoint (s : State) : State :=
  if !s.motionOn then s
  else
    let x := (s.axis 0).updates s.limits s.vmaxK s.spUpdates
    let y := (s.axis 1).updates s.limits s.vmaxK s.spUpdates
    let q := s.stage.spSeq
    let s1 := { s with stage := { s.stage with spSeq := (q + 1) % 256, spPhase := (10000000 + s.stage.spPhase) % s.spHz } }
    (s1.setFd F.STAGE_PROFILE_STATUS_SP_SEQ q).emit (.setPoint (setPointBytes q (s.spFlags x y) x.setPoint y.setPoint (spAcc x y)))

/-! ## Beat stalls and temperature (R359, R374) -/

/-- STALL_US in 100 ps; 0 acts as 1. -/
def State.stallT (s : State) : Int := (10000 * max 1 (s.fd F.STAGE_BEAT_CFG_STALL_US) : Nat)

/-- A beat has not been issued within STALL_US (R359). -/
def doBeatStall (s : State) : State :=
  if !s.motionOn then s
  else match s.plan.state with
    | .runIn => match s.stage.yInAt with
      | some t => if s.stage.nextBeat == 0 && !(s.fb F.STAGE_BEAT_CFG_SRC) && decide (s.stageT ≥ t + s.stallT) then
          s.localDamp .STG_BEAT_STALL else s
      | none => s
    | .exposing => match s.stage.beats with
      | b :: _ => if s.stage.nextBeat < s.passBeats ∧ s.stageT ≥ b.2 + s.stallT then s.localDamp .STG_BEAT_STALL else s
      | [] => s
    | _ => s

/-- The headroom 1 ms before now, or the oldest known. -/
def State.oldHeadroom (s : State) : Nat :=
  match s.stage.headHist.find? (fun e => decide (e.1 ≤ s.stageT - 10000000)), s.stage.headHist.getLast? with
  | some e, _ => e.2
  | none, some e => e.2
  | none, none => s.fd F.STAGE_TEMP_STATUS_HEADROOM

/-- The projected headroom (R374), in 0.25 °C; none when the stage does not move while the headroom falls. -/
def State.projection (s : State) : Option Rat :=
  let cur := s.fd F.STAGE_TEMP_STATUS_HEADROOM
  let v := (s.chan 2).v.natAbs
  if s.oldHeadroom ≤ cur then some (cur : Rat)
  else if v = 0 then none
  else
    let rem : Rat := (((s.passBeats - s.plan.beat) * s.pixel * 256 : Nat) : Rat) / (v : Rat)
    some ((cur : Rat) - ((s.oldHeadroom - cur : Nat) : Rat) * rem / 1000)

/-- TEMP_PROJECTION (R374). -/
def doProjection (s : State) : State :=
  if !s.motionOn || s.plan.state != .exposing || s.fd F.STAGE_TEMP_STATUS_LEVEL != 2 then s
  else
    let low := match s.projection with
      | some r => decide (r < (s.fd F.STAGE_TEMP_CFG_HARD_MARGIN : Rat))
      | none => true
    if low then s.localDamp .STG_TEMP_HARD else s

/-- HOLD_MS has passed with PASS_START held (R374). -/
def doTempHold (s : State) : State :=
  match s.stage.holdFrom with
  | some t =>
    if s.motionOn && s.plan.state == .runOut && decide (s.plan.pass + 1 < s.passes) &&
        decide (s.stageT ≥ t + (10000000 * s.fd F.STAGE_TEMP_CFG_HOLD_MS : Nat)) then s.localDamp .STG_TEMP_HOLD
    else s
  | none => s

/-! ## External edges (R360, R361) -/

/-- A counted edge of a native lead or solo device with SRC = 1: it waits for its beat from entry to RUN_IN on. -/
def nativeEdge (t : Int) (s : State) : State :=
  if s.plan.state == .runIn || s.plan.state == .exposing then { s with stage := { s.stage with extEdges := s.stage.extEdges ++ [t] } }
  else s

/-! ## Meanings -/

/-- MET_SAMPLE (R338): the word of channel c and the instant of its reference edge, in 100 ps of the stage time base. -/
def execMetSample (c : Fin 4) (w : BitVec 64) (tref : BitVec 64) (s : State) : Host.Outcome State Fault Refusal :=
  .next (s.whenReady (doMetSample c.val w.toNat tref.toNat))

/-- MET_CAL (R342). -/
def execMetCal (s : State) : Host.Outcome State Fault Refusal := .next (s.hostCmd .STAGE_MET_CMD 1 doMetCal)

/-- MET_CAL_DONE (R342). -/
def execMetCalDone (c : Fin 4) (clear : BitVec 64) (good : BitVec 9) (s : State) : Host.Outcome State Fault Refusal :=
  .next (s.whenReady (doMetCalDone c.val clear.toNat good.toNat))

/-- CMP_ARM (R346). -/
def execCmpArm (s : State) : Host.Outcome State Fault Refusal := .next (s.hostCmd .STAGE_CMP_CMD 1 doCmpArm)

/-- CMP_DISARM (R347). -/
def execCmpDisarm (s : State) : Host.Outcome State Fault Refusal := .next (s.hostCmd .STAGE_CMP_CMD 2 doCmpDisarm)

/-- PROFILE_UPDATE (R349). -/
def execProfileUpdate (s : State) : Host.Outcome State Fault Refusal := .next (s.whenReady doProfile)

/-- MOVE (R351). -/
def execMove (s : State) : Host.Outcome State Fault Refusal := .next (s.hostCmd .STAGE_MOVE_CMD 1 doMove)

/-- STOP (R351). -/
def execStop (s : State) : Host.Outcome State Fault Refusal := .next (s.hostCmd .STAGE_MOVE_CMD 2 doStop)

/-- SETPOINT_FRAME (R354). -/
def execSetpointFrame (s : State) : Host.Outcome State Fault Refusal := .next (s.whenReady doSetPoint)

/-- BEAT_STALL_TIMEOUT (R359). -/
def execBeatStallTimeout (s : State) : Host.Outcome State Fault Refusal := .next (s.whenReady doBeatStall)

/-- TEMP_PROJECTION (R374). -/
def execTempProjection (s : State) : Host.Outcome State Fault Refusal := .next (s.whenReady doProjection)

/-- TEMP_HOLD_TIMEOUT (R374). -/
def execTempHoldTimeout (s : State) : Host.Outcome State Fault Refusal := .next (s.whenReady doTempHold)

end Sys2Proof.Machine
end

