-- ==== Sys2Proof/Machine/Scan.lean ====
section
/-! DEFINITION. Beam scans (R283 to R287): the electrical scan over the lanes and the gate scan over the cadence link. -/

namespace Sys2Proof.Machine

/-! ## Start and end -/

/-- DWELL in internal beats, and a window's length in 100 ps: one beat is 1 µs (R285). -/
def State.dwell (s : State) : Nat := max 8 (s.fd F.PLAN_SCAN_CFG_DWELL)
def State.windowLen (s : State) : Int := 10000 * (s.dwell : Nat)

/-- TARGET, for a gate scan; an electrical scan measures this device's own beams. -/
def State.scanTarget (s : State) (k : ScanKind) : Nat :=
  match k with
  | .electrical => s.str.devIndex
  | .gate => s.fd F.PLAN_SCAN_CFG_TARGET

/-- A scan of this kind may be accepted (R283, Table 7-7). -/
def State.scanOk (s : State) (k : ScanKind) : Bool :=
  s.native && s.allIdle && s.power.state == .run && !s.caril.dampN && s.plan.scan.isNone &&
  (match k with
    | .electrical => true
    | .gate => s.leads && ((s.str.met[3]?).map MetPort.func).getD 0 == 1 && s.fd F.PLAN_SCAN_REF_REF != 0)

/-- A scan starts (R283 to R285): the electrical scan asks every lane to measure, the gate scan opens its baseline window. -/
def doScanStart (k : ScanKind) (s : State) : State :=
  let slot := s.fd F.PLAN_SCAN_SLOT_SLOT
  if !(s.scanOk k) then s.raise .PLN_SCAN_BUSY
  else if (s.slot slot).st != .free then s.raise .HST_SLOT_BUSY
  else
    let gate := k == .gate
    let sc : ScanSt := { kind := k, startedAt := s.now, slot := slot, entries := [], lanesDone := 0, baseline := none, item := 0,
                         sub := 0, failing := [], d1 := 0, window := if gate then some (s.stageT + s.windowLen) else none, sum := 0,
                         finished := false, fault := 0 }
    let s1 := (slotClaim slot 1 0 { s with plan := { s.plan with scan := some sc } }).mark
      (.produced 1 slot (s.slot slot) s.caril.measureReq s.caril.measureAbort)
    if gate then s1 else { s1 with caril := { s1.caril with measureReq := 0xFFFF, measureAbort := 0 } }

/-- What one beam's record holds at the end: (entry, trim, flags, first, second measurement). A beam not measured keeps its
entry and trim; another device's beam not measured is taken as GOOD with trim 0. -/
def State.scanEntry (s : State) (sc : ScanSt) (b : Nat) : Nat × Nat × Nat × Nat × Nat :=
  match Sparse.find? sc.entries b with
  | some e => e
  | none =>
    if s.scanTarget sc.kind = s.str.devIndex then
      (Sparse.get goodEntry s.plan.defStaged b, Sparse.get 0 s.caril.trimStaged b, 0, 0, 0)
    else (goodEntry, 0, 0, 0, 0)

/-- PLAN_SCAN_TABLE's records in beam order (R287). -/
def State.scanTable (s : State) (sc : ScanSt) : List Byte :=
  ((List.range 16384).map (fun b =>
    let e := s.scanEntry sc b
    leBytes 2 e.1 ++ leBytes 1 e.2.1 ++ leBytes 1 e.2.2.1 ++ leBytes 2 (min 65535 e.2.2.2.1) ++
      leBytes 2 (min 65535 e.2.2.2.2))).flatten

/-- The payload of Table 7-3. -/
def State.scanPayload (s : State) (sc : ScanSt) (fault : Nat) (applied : Bool) : List Word :=
  let w (v : Nat) : Word := BitVec.ofNat 32 v
  let st := (List.range 16384).map (fun b => entryState (s.scanEntry sc b).1)
  let n (k : Nat) : Nat := st.count k
  let ch := (List.range 16384).filter (fun b => bit (s.scanEntry sc b).2.2.1 1 == 1)
  [w (fault + 65536 * b2n applied + 131072 * (if sc.kind = .gate then 2 else 1) + 2 ^ 19 * (s.scanTarget sc.kind % 64)),
   w (n 0 + 65536 * n 1), w (n 2 + 65536 * n 3), w (n 4 + 65536 * ch.length),
   w (ch.headD 0 + 2 ^ 31 * b2n (decide (ch ≠ []))), w (sc.baseline.getD 0), 0, 0, 0, 0, 0, 0]

/-- Results for this device's own beams enter the staged map and the staged trims (R286). -/
def applyScan (sc : ScanSt) (s : State) : State :=
  sc.entries.foldl (fun s (e : Nat × Nat × Nat × Nat × Nat × Nat) =>
    { s with
      plan := { s.plan with defStaged := Sparse.set goodEntry s.plan.defStaged e.1 e.2.1 }
      caril := { s.caril with trimStaged := Sparse.set 0 s.caril.trimStaged e.1 e.2.2.1 } }) s

/-- Table base. -/
def State.scanTableBase (s : State) : Nat := s.pair F.PLAN_SCAN_TABLE_LO_ADDR F.PLAN_SCAN_TABLE_HI_ADDR / 64 * 64

/-- SCAN_DONE (R284 to R287): the scan has measured what it can: every lane has reported or 50 ms have passed, the gate scan has
taken its last window, or the baseline was too high. -/
def doScanDone (s : State) : State :=
  match s.plan.scan with
  | none => s
  | some sc =>
    let ready := match sc.kind with
      | .electrical => sc.lanesDone == 0xFFFF || decide (s.now ≥ sc.startedAt + 50000000000)
      | .gate => sc.finished
    if !ready then s
    else
      let changed := ((sc.entries.filter (fun (e : Nat × Nat × Nat × Nat × Nat × Nat) => bit e.2.2.2.1 1 == 1)).length)
      let lanes := sc.kind == .gate || sc.lanesDone == 0xFFFF
      let good := lanes && decide (changed ≤ s.fd F.PLAN_SCAN_LEAK_MAX_CHANGE) && sc.fault == 0
      let fault := if sc.fault ≠ 0 then sc.fault else if good then 0 else FaultCode.PLN_SCAN_IMPLAUSIBLE.num
      let apply := good && s.fb F.PLAN_SCAN_CFG_APPLY && s.scanTarget sc.kind == s.str.devIndex
      let pay := s.scanPayload sc fault apply
      let s1 := dramWrite s.scanTableBase (s.scanTable sc) s
      let s2 := if apply then applyScan sc s1 else s1
      let s3 := s2.raiseIf (!good && sc.fault == 0) .PLN_SCAN_IMPLAUSIBLE
      let s4 := slotFillProducer sc.slot pay s3
      { s4 with
        plan := { s4.plan with scan := none }
        caril := { s4.caril with measureReq := 0 } }

/-- PLAN_SCAN_CMD ABORT (R287, R312). -/
def doScanAbort (s : State) : State :=
  match s.plan.scan with
  | none => s
  | some sc =>
    let pay := s.scanPayload sc FaultCode.PLN_SCAN_IMPLAUSIBLE.num false
    let s1 := slotFillProducer sc.slot pay (s.raise .PLN_SCAN_IMPLAUSIBLE)
    { s1 with
      plan := { s1.plan with scan := none }
      caril := { s1.caril with measureReq := 0, measureAbort := if sc.kind = .electrical then 0xFFFF else s1.caril.measureAbort } }

/-! ## The gate scan's measurements (R285) -/

/-- Lane, slot, group mark and code of the present measurement. With GROUP = 1 all 1,024 groups come first, then the beams of each
failing group alone (R285). -/
def State.gateTarget (s : State) (sc : ScanSt) : Nat × Nat × Bool × Nat :=
  if s.fb F.PLAN_SCAN_CFG_GROUP then
    if sc.item < 1024 then (sc.item / 64, 16 * (sc.item % 64), true, 255)
    else
      let g := sc.failing.headD 0
      (g / 64, 16 * (g % 64) + sc.sub / 2, false, if sc.sub % 2 = 0 then 255 else 32)
  else
    let e := s.remapEntry sc.item
    (e / 1024, e % 1024, false, if sc.sub % 2 = 0 then 255 else 32)

/-- Nothing is left to measure. -/
def State.gateOver (s : State) (sc : ScanSt) : Bool :=
  if s.fb F.PLAN_SCAN_CFG_GROUP then decide (1024 ≤ sc.item) && sc.failing.isEmpty else decide (16384 ≤ sc.item)

/-- The BEAM_CHECK command of the present measurement (Table 9-9). -/
def State.gateCommand (s : State) (sc : ScanSt) : CadCmd :=
  let t := s.gateTarget sc
  ⟨8, s.fd F.PLAN_SCAN_CFG_TARGET + 64 * t.1 + 1024 * t.2.1 + 2 ^ 20 * b2n t.2.2.1, t.2.2.2 + 256 * s.dwell⟩

/-- A command joins the queue of a lead or solo device. -/
def State.queueCmd (s : State) (c : CadCmd) : State :=
  if s.leads && s.native then { s with cad := { s.cad with due := s.cad.due ++ [c] } } else s

/-- The next measurement is asked for, or the scan has finished. -/
def gateNext (sc : ScanSt) (s : State) : State :=
  let sc1 := { sc with window := none, sum := 0 }
  if s.gateOver sc1 then { s with plan := { s.plan with scan := some { sc1 with finished := true } } }
  else State.queueCmd { s with plan := { s.plan with scan := some sc1 } } (s.gateCommand sc1)

/-- A beam measured alone is classified (R285): its entry and trim. -/
def classifyBeam (ref tol d1 d2 : Nat) : Nat × Nat :=
  let f := (256 * d1 + ref / 2) / ref
  if d1 ≤ d2 ∨ f < 128 ∨ f > 512 then (deadEntry, 0)
  else
    let num : Int := -16 * (32 * (d1 : Int) - 255 * (d2 : Int))
    let den : Int := (d1 : Int) - d2
    let tr := (2 * num + den) / (2 * den)
    let trim := sat tr (-128) 127
    let t := wrapU 8 trim
    if tr ≠ trim then (0x1100, t)
    else if ((f : Int) - 256).natAbs ≤ tol then (goodEntry, t)
    else (0x0400 + f, t)

/-- D2 of the beam at lane n, slot b completes its measurement. -/
def gateBeam (n b d2 : Nat) (sc : ScanSt) (s : State) : ScanSt :=
  let bm := s.beamOfSlot n b
  let c := classifyBeam (s.fd F.PLAN_SCAN_REF_REF) (s.fd F.PLAN_SCAN_CFG_TOL) sc.d1 d2
  let old := (s.scanEntry { sc with entries := [] } bm).1
  { sc with entries := Sparse.put sc.entries bm (c.1, c.2, 1 + 2 * b2n (decide (c.1 ≠ old)), sc.d1, d2) }

/-- A window has ended with its sum: the baseline, a group, D1 or D2. -/
def gateWindowEnd (sc : ScanSt) (s : State) : State :=
  match sc.baseline with
  | none =>
    let sc1 := { sc with baseline := some sc.sum }
    if sc.sum > s.fd F.PLAN_SCAN_HOT_HOT_LEVEL then
      { s.raise .PLN_SCAN_HOT with
        plan := { s.plan with scan := some { sc1 with window := none, finished := true, fault := FaultCode.PLN_SCAN_HOT.num } } }
    else gateNext sc1 s
  | some dz =>
    let d := sc.sum - dz
    let t := s.gateTarget sc
    if t.2.2.1 then
      let ref := s.fd F.PLAN_SCAN_REF_REF
      let g := 256 * d / (16 * ref)
      let bad := decide (((g : Int) - 256).natAbs > s.fd F.PLAN_SCAN_CFG_TOL)
      gateNext { sc with item := sc.item + 1, failing := if bad then sc.failing ++ [sc.item] else sc.failing } s
    else if t.2.2.2 = 255 then gateNext { sc with sub := sc.sub + 1, d1 := d } s
    else
      let sc1 := gateBeam t.1 t.2.1 d sc s
      gateNext (if !(s.fb F.PLAN_SCAN_CFG_GROUP) then { sc1 with item := sc.item + 1, sub := 0 }
        else if sc.sub + 1 ≥ 32 then { sc1 with failing := sc.failing.drop 1, sub := 0 }
        else { sc1 with sub := sc.sub + 1 }) s

/-- A lead or solo device's open window has run its DWELL beats. -/
def gateAdvance (s : State) : State :=
  match s.plan.scan with
  | some sc => match sc.window with
    | some e => if s.stageT ≥ e then gateWindowEnd sc s else s
    | none => s
  | none => s

/-- Codes of a lane on which only the named beams open. -/
def BeamOpen.codes (b : BeamOpen) : List Byte :=
  (List.range 1024).map (fun i =>
    if b.slot ≤ i ∧ i < b.slot + (if b.group then 16 else 1) then BitVec.ofNat 8 b.code else 0)

/-- An internal beat of a running beam check, 1 µs apart (R285): one peal on the named lane opens the named beams at CODE, unless a
damp generator drives the lanes. After DWELL of them the beams stay closed. The form of that peal is that of a beat peal of
Table 8-4 whose BEAT is the number of the internal beat (DESIGN CHOICE, log 80). -/
def beamTick (s : State) : State :=
  match s.cad.beamCheck with
  | none => s
  | some b =>
    if s.stageT < b.nextAt then s
    else if b.done ≥ b.beats then { s with cad := { s.cad with beamCheck := none } }
    else
      let s1 := { s with cad := { s.cad with beamCheck := some { b with done := b.done + 1, nextAt := b.nextAt + 10000 } } }
      if (s.lane b.lane).tx == .data && s.laneInUse b.lane && !s.generatorOn then
        sendPeal b.lane b.done (s.fireDelay b.lane) 2 0 b.codes true s.now s1
      else s1

/-- BEAM_CHECK executes (R285): its TARGET opens the named beams, and the scanning device opens its window. -/
def beamCheck (c : CadCmd) (s : State) : State :=
  let tgt := bits c.arg 5 0
  let s1 := if tgt = s.str.devIndex then
      beamTick { s with cad := { s.cad with
          beamCheck := some ⟨bits c.arg 9 6, bits c.arg 19 10, bit c.arg 20 == 1, bits c.beat 7 0, 0, bits c.beat 23 8, s.stageT⟩ } }
    else s
  match s1.plan.scan with
  | some sc =>
    if sc.kind = .gate ∧ sc.window = none ∧ sc.finished = false ∧ s1.leads = true then
      { s1 with plan := { s1.plan with scan := some { sc with window := some (s1.stageT + s1.windowLen), sum := 0 } } }
    else s1
  | none => s1

/-! ## Meanings -/

/-- ELECTRICAL (R284). -/
def execElectrical (s : State) : Host.Outcome State Fault Refusal := .next (s.hostCmd .PLAN_SCAN_CMD 1 (doScanStart .electrical))

/-- GATE (R285). -/
def execGate (s : State) : Host.Outcome State Fault Refusal := .next (s.hostCmd .PLAN_SCAN_CMD 2 (doScanStart .gate))

end Sys2Proof.Machine
end

