-- ==== Sys2Proof/Machine/Stripe.lean ====
section
/-! DEFINITION. The stripe life cycle (Chapter 1, R19 to R48, Table 1-5): arming with every refusal the manual gives, disarming,
starting, ending, the entry to a pass's run-in, and the waits of the stage (R352). -/

namespace Sys2Proof.Machine

/-! ## Refusals of ARM -/

/-- R32, R34, R46: the stripe's own configuration. -/
def State.stripeBad (s : State) : Bool :=
  let la := s.fd F.PLAN_LOOKAHEAD_LINES
  decide (la < 4096) || decide (la > 1048576) || la % 32 != 0 || s.fd F.PLAN_STRIPE_CFG_PIXEL_SEL == 3 ||
  decide (s.lines < s.geoR * s.geoB) || decide (s.lines > 134217727) ||
  (s.leads && !(s.fb F.STAGE_BEAT_CFG_SRC) &&
    decide (s.fd F.STAGE_SCAN_VEL_V * 1000000 > s.fbeat * s.pixel * 65536))

/-- R279 for a store-source ARM. -/
def State.seamAreaOk (s : State) : Bool :=
  let h := s.dramBytes s.seamBase 64
  !(s.dramBad s.seamBase 64) && leAt h 0 4 == 0x4D535745 && leAt h 0x3C 4 == crc crcC32C (h.take 0x3C) && leAt h 0x10 4 == 1 &&
  leAt h 4 4 == s.stripeId && leAt h 8 4 == s.lines && leAt h 0xC 2 == s.node && leAt h 0xE 2 == s.cols

/-- R264. -/
def State.passBad (s : State) : Bool := !s.passTableOk || (s.fromStore && !s.seamAreaOk)

/-- An active HOT beam refuses an exposing ARM (R274). -/
def State.hotBad (s : State) : Bool :=
  s.fd F.PLAN_EXPOSE_MODE == 0 && s.plan.defActive.any (fun (e : Nat × Nat) => entryState e.2 == 3)

/-- Reserved extents in MiB as (base, size): both lace buffers, the pending buffer, the factor map, the store (R218, R232). -/
def State.laceExtent (s : State) (i : Nat) : Nat × Nat := (s.fd F.LACE_BUF_BASE_BASE_MB i, s.fd F.LACE_BUF_SIZE_SIZE_MB i)
def State.pendExtent (s : State) : Nat × Nat := (s.fd F.CORR_PEND_BASE_BASE_MB, s.fd F.CORR_PEND_SIZE_SIZE_MB)
def State.fmapExtent (s : State) : Nat × Nat := (s.fd F.CORR_FMAP_BASE_BASE_MB, s.fd F.CORR_FMAP_SIZE_SIZE_MB)
def State.storeExtent (s : State) : Nat × Nat := (s.fd F.STORE_BASE_BASE_MB, s.fd F.STORE_SIZE_SIZE_MB)

/-- Two extents overlap. -/
def extentsMeet (a b : Nat × Nat) : Bool := spanOverlap a.1 a.2 b.1 b.2

/-- An extent lies within the partition. -/
def State.extentFits (s : State) (e : Nat × Nat) : Bool := decide ((e.1 + e.2) * 2 ^ 20 ≤ s.partSize)

/-- R216 to R218: the working storage of correction. -/
def State.workBad (s : State) : Bool :=
  let p := s.pendExtent; let f := s.fmapExtent
  decide (p.2 * 2 ^ 20 < 256 * s.geoW * (s.reachQ + 2) + 16777216) ||
  decide (f.2 * 2 ^ 20 < 64 + 2 * s.fmapCols * s.fmapRows) ||
  !(s.extentFits p) || !(s.extentFits f) || extentsMeet p f ||
  [0, 1].any (fun i => extentsMeet p (s.laceExtent i) || extentsMeet f (s.laceExtent i))

/-- R200, R202, R218. -/
def State.corrBad (s : State) : Bool := (s.corrOn && !s.paramsOk) || s.workBad

/-- R204 at ARM: the header chunk that would be bound lacks a density value. -/
def State.densityBad (s : State) : Bool :=
  s.corrOn && !s.fromStore && s.boundScope.isSome && !(s.densityComplete s.boundHeader)

/-- R232. -/
def State.storeBad (s : State) : Bool :=
  let e := s.storeExtent
  s.fd F.STORE_CFG_RATIO == 3 || decide (s.lead < 4) || decide (s.lead > 14) || decide (s.storeBytes > e.2 * 2 ^ 20) ||
  decide (e.1 * 2 ^ 20 + s.storeBytes > s.partSize) || extentsMeet e s.pendExtent || extentsMeet e s.fmapExtent ||
  [0, 1].any (fun i => extentsMeet e (s.laceExtent i))

/-- The open scope whose accepted header chunk has the STREAM_ID and STRIPE_ID of the stored stripe (R233) and passes `more`. -/
def State.replayScope (s : State) (more : LaceHeader → Bool) : Option (Fin 2) :=
  let hd := s.dramBytes s.storeBase 64
  let ok (i : Fin 2) : Bool := (s.scope i).isOpen && (s.scope i).headerOk && (s.header (s.scope i)).stripeId == leAt hd 4 4 &&
    (s.scope i).streamId == leAt hd 0x14 4 && more (s.header (s.scope i))
  if ok 0 then some 0 else if ok 1 then some 1 else none

/-- Live blocks without the scope that holds their chunks (R233). -/
def State.liveSourceBad (s : State) : Bool :=
  s.fromStore && s.storeHeaderOk && leAt (s.dramBytes s.storeBase 64) 0x24 4 != 0 && (s.replayScope (fun _ => true)).isNone

/-- Lanes 0 to 17 in use (R322). -/
def State.usedLanes (s : State) : List Nat := (List.range 18).filter s.laneInUse

/-- R322. -/
def State.lanesBad (s : State) : Bool :=
  s.usedLanes.any (fun n => (s.lane n).tx != .data || (s.lane n).rx != .data || !(s.lane n).echoOk)

/-- R341, R597: each of channels 0 to 2 is enabled, not lost, not calibrating and has had a good sample in the last 10 µs. -/
def State.metroBad (s : State) : Bool :=
  s.leads && [0, 1, 2].any (fun c =>
    let ch := s.chan c
    !(s.metPort c).enable || ch.lost || ch.calActive || (match ch.goodAt with
      | some t => decide (s.stageT - t > 100000)
      | none => true))

/-- SETTLE_NS in ns, at least 20 (R358). -/
def State.settleNs (s : State) : Nat := max 20 (s.fd F.STAGE_BEAT_CFG_SETTLE_NS)

/-- CARIL_WINDOW × 100 ps + SETTLE_NS, in 100 ps (R358). -/
def State.openTime (s : State) : Nat := s.fd F.CARIL_WINDOW_WINDOW + 10 * s.settleNs

/-- R353, for SRC = 0. -/
def State.motionBad (s : State) : Bool :=
  let v := s.fd F.STAGE_SCAN_VEL_V
  v == 0 || decide (v > s.fd F.STAGE_VMAX_V) || s.fd F.STAGE_AMAX_A == 0 || s.fd F.STAGE_JMAX_J == 0 ||
  (List.range s.passes).any (fun p =>
    decide (((s.feed p * s.pixel : Nat) : Rat) < changeDist s.limits 0 s.scanVel + ((s.fd F.STAGE_SETTLE_LINES * s.pixel : Nat) : Rat)))

/-- R353, R358, R360. The planned beat period exists with SRC = 0 only. -/
def State.stageBad (s : State) : Bool :=
  s.leads &&
  ((if s.fb F.STAGE_BEAT_CFG_SRC then decide (10 * (s.fd F.STAGE_BEAT_CFG_EXT_DELAY_NS : Int) < s.tBeat + 200)
    else s.motionBad || decide (s.openTime * s.fd F.STAGE_SCAN_VEL_V > s.pixel * 655360000)) ||
   decide (s.openTime > 4000))

/-- R387, R396. -/
def State.trackBad (s : State) : Bool :=
  s.leads && ((s.metPort 0).sampleKhz != (s.metPort 2).sampleKhz || !(s.ulimOk s.track.bank) ||
    decide (s.fd F.TRACK_RECENTRE_ADV_NS > s.settleNs))

/-- Every ground on which the manual refuses an ARM, with its fault. -/
def State.armRefusals (s : State) : List FaultCode :=
  [ (s.stripeBad, FaultCode.PLN_CONFIG_INVALID), (s.passBad, .PLN_PASS_INVALID), (s.hotBad, .PLN_HOT_BEAM),
    (s.corrBad, .COR_CONFIG_INVALID), (s.densityBad, .COR_DENSITY_MISSING), (s.fromStore && !s.fmapOk, .COR_FMAP_INVALID),
    (s.storeBad, .STO_CONFIG_INVALID), (s.fromStore && !s.storeHeaderOk, .STO_HEADER_INVALID),
    (s.liveSourceBad, .STO_LIVE_SOURCE_MISSING), (s.caril.latch, .CAR_DAMPED), (s.lanesBad, .CAR_LANE_NOT_READY),
    (s.metroBad, .STG_METRO_NOT_READY), (s.stageBad, .STG_CONFIG_INVALID),
    (s.leads && decide (s.fd F.STAGE_TEMP_STATUS_LEVEL ≥ 2), .STG_TEMP_HOLD), (s.trackBad, .TRK_CONFIG_INVALID),
    (s.stackHot, .MEM_STACK_HOT), (s.anyPcFailed, .MEM_PC_FAILED) ].filterMap
    (fun e => if e.1 then some e.2 else none)

/-- Grounds that turn an ARM away before it is judged (R86, R88, R597). -/
def State.armBarred (s : State) : List FaultCode :=
  [ (s.str.safe, FaultCode.PRK_SAFE_STRUCTURE), (s.prick.phase != .none, .PRK_BUSY), (s.plan.scan.isSome, .PLN_SCAN_BUSY) ].filterMap
    (fun e => if e.1 then some e.2 else none)

/-- Each fault of a list is raised. -/
def State.raiseAll (s : State) (l : List FaultCode) : State := l.foldl State.raise s

/-! ## What an accepted ARM does -/

/-- Fields put to 0. -/
def State.zeroAll (s : State) (l : List RegField) : State := l.foldl (fun s f => s.setFd f 0) s

/-- Counters and records that ARM clears. -/
def armCleared : List RegField :=
  [ F.BOB_CACHE_HITS_COUNT, F.BOB_CACHE_MISSES_COUNT, F.BOB_CROSSINGS_LO_COUNT, F.BOB_CROSSINGS_HI_COUNT,
    F.CORR_LOST_MASK_LO_MASK, F.CORR_LOST_MASK_HI_MASK, F.CORR_DOSE_CLAMP_COUNT_COUNT, F.CORR_EDGING_BAD_COUNT_COUNT,
    F.CORR_EDGING_UNKNOWN_COUNT_COUNT, F.STORE_LIVE_COUNT_COUNT, F.STORE_LIVE_COST_MAX_CMAX, F.STORE_FEAS_FAIL_ROW_ROW,
    F.STORE_FEAS_FAIL_ROW_VALID, F.STORE_VERIFY_FAIL_COUNT_COUNT, F.STORE_STALL_CYCLES_COUNT, F.PLAN_COMP_FAIL_WHERE_X,
    F.PLAN_COMP_FAIL_WHERE_PASS, F.PLAN_COMP_FAIL_WHERE_VALID, F.PLAN_COMP_FAIL_LINE_LINE, F.PLAN_SEAM_LOST_SIDE,
    F.PLAN_SEAM_BAD_COUNT_COUNT, F.CARIL_BEAT_PEALS_COUNT, F.CARIL_ABORTS_COUNT, F.TRACK_SHIFT_STATUS_COUNT,
    F.TRACK_HOLD_COUNT_COUNT, F.TRACK_LATENCY_MAX, F.PLAN_ABORT_STRIPE_ID, F.PLAN_ABORT_WHERE_LINE, F.PLAN_ABORT_WHERE_PASS,
    F.PLAN_ABORT_CAUSE_FAULT, F.PLAN_ABORT_CAUSE_NODE ]

/-- The clearing of counters, histories and maps (R48, R189, R194, R213, R262, R280, R392). -/
def armClear (s : State) : State :=
  let s1 := (List.range 8).foldl (fun s m => s.setFd F.STORE_MODE_COUNT_COUNT 0 m) (s.zeroAll armCleared)
  let s2 := s1.setFd F.STAGE_BEAT_PERIOD_MIN 0xFFFF
  let reserve := min 16 (s2.fd F.BOB_LIVE_CFG_RESERVE)
  { s2 with
    bob := { BobSt.reset with
      queues := BobSt.reset.queues.set 0 { TileQueue.empty with dual := s2.fb F.BOB_CFG_DUAL }, reserve := reserve, cache := s2.bob.cache }
    corr := CorrSt.reset
    store := StoreSt.reset
    plan := { s2.plan with
      pass := 0, h := 0, beat := 0, started := none, accepted := false, failChain := false, failMatch := false
      columnCommitted := false, underruns := [], finishWait := false, shifts := [], doses := [], compRows := []
      compBad := [], edgeOk := Vector.replicate 2 false, edgeGot := Vector.replicate 2 false, seamHave := []
      seamWait := Vector.replicate 2 none }
    stage := { s2.stage with derated := false }
    track := { s2.track with integ := Vector.replicate 2 0 }
    cad := { s2.cad with
      verifyAt := none, startVerify := false
      flight := s2.cad.flight.map (fun f => { f with old := true }) } }

/-- The scope of the stripe is bound (R143, R233); its header is checked again, and a scope of this STRIPE_ID that fails R111 is not
bound, with its fault. -/
def armBind (s : State) : State :=
  let pick := if s.fromStore then (match s.replayScope s.headerFits with
    | some i => some i
    | none => s.boundScope) else s.boundScope
  match pick with
  | some i => s.setScope i { s.scope i with bound := true }
  | none =>
    let near (i : Fin 2) : Bool := (s.scope i).isOpen && (s.scope i).headerOk && (s.header (s.scope i)).stripeId == s.stripeId
    s.raiseIf (near 0 || near 1) .LAC_STRIPE_MISMATCH

/-- Live source: the store's header block, zero beyond the header, the live-cost array, the factor map's header and the seam
area's header are written (R219, R229, R231, R279); with no row checked the slack is lim (R258). -/
def armLive (s : State) : State :=
  let s1 := dramWrite (s.storeBase + 0x801000) (List.replicate s.costBytes 0)
    (dramWrite s.storeBase (s.storeHeader ++ List.replicate 4032 0) s)
  let s2 := dramWrite s1.fmapBase (s1.fmapHeader 0 0) s1
  let s3 := dramWrite s2.seamBase (s2.seamHeader (b2n s2.seamComplete)) s2
  { s3 with store := { s3.store with feasSlack := s3.feasResult.slack } }

/-- Store source: the stored stripe is taken over and checked whole; head rows' live jobs become ready (R233, R255, R258, R272). -/
def armReplay (s : State) : State :=
  let hd := s.dramBytes s.storeBase 64
  let s1 := (s.setFd F.STORE_LIVE_COUNT_COUNT (leAt hd 0x24 4)).setFd F.STORE_LIVE_COST_MAX_CMAX (leAt hd 0x28 4)
  let s2 := loadBlocks (s1.blockRows * s1.blockCols) 0 s1
  let s3 := { s2 with store := { s2.store with coded := s2.blockRows, verified := s2.blockRows } }
  let s4 := evalFeas s3
  let s5 := runCapacity s4
  (List.range s5.headRows).foldl (fun s br => queueRow br s) s5

/-- IDLE to ARMED. -/
def armAccept (s : State) : State :=
  let s1 := armBind (armClear s)
  let s2 := formReserve { s1 with plan := { s1.plan with state := .armed } }
  let s3 := if s2.fromStore then armReplay s2 else armLive s2
  (sendEdgeRecords s3).rewait.reseam

/-- An ARM is judged. The staged maps are copied at every ARM that is judged (R282); every ground of refusal that holds raises its
fault. -/
def judgeArm (s : State) : State :=
  if s.armBarred ≠ [] then s.raiseAll s.armBarred
  else
    let s1 := applyStaged s
    if s1.armRefusals ≠ [] then s1.raiseAll s1.armRefusals else armAccept s1

/-! ## Events of the cycle of an ARM (Tables 5-5, 6-8, 7-4, 8-13, 9-10) -/

/-- Registers written only in IDLE, with the fault of a write elsewhere (R47, R223, R236, R289, R330, R377). -/
def idleFault (r : Reg) : Option FaultCode :=
  match r with
  | .PLAN_STRIPE_ID | .PLAN_STRIPE_LINES | .PLAN_STRIPE_CFG | .PLAN_LOOKAHEAD => some .PLN_CONFIG_BUSY
  | .PLAN_PASS_SEL | .PLAN_PASS_X | .PLAN_PASS_Y | .PLAN_PASS_FEED | .PLAN_PASS_SHARE | .PLAN_DOSE_GAIN | .PLAN_SEAM_CFG |
    .PLAN_SEAM_BASE | .PLAN_EXPOSE => some .PLN_CONFIG_BUSY_PASS
  | .CORR_CFG | .CORR_NUM | .CORR_DEN | .CORR_TERM_GEOM | .CORR_TERM_COEF | .CORR_KERNEL_DATA | .CORR_PEND_BASE |
    .CORR_PEND_SIZE | .CORR_FMAP_BASE | .CORR_FMAP_SIZE => some .COR_CONFIG_BUSY
  | .STORE_CFG | .STORE_BASE | .STORE_SIZE | .STORE_LIVE_LEAD | .STORE_AHEAD_LIMIT => some .STO_CONFIG_BUSY
  | .CARIL_CFG | .CARIL_WINDOW => some .CAR_CONFIG_BUSY
  | .STAGE_VMAX | .STAGE_AMAX | .STAGE_JMAX | .STAGE_SCAN_VEL | .STAGE_SCAN_CFG | .STAGE_SETTLE | .STAGE_X0_LO |
    .STAGE_X0_HI | .STAGE_Y0_LO | .STAGE_Y0_HI | .STAGE_MOVE_X_LO | .STAGE_MOVE_X_HI | .STAGE_MOVE_Y_LO | .STAGE_MOVE_Y_HI |
    .STAGE_BEAT_CFG | .STAGE_CAD_HORIZON | .STAGE_CAD_LINK_DELAY | .STAGE_CAD_TOL => some .STG_BUSY
  | _ => none

/-- Writes of r in the cycle of an ARM come after it: registers that ARM locks, and the staged skew that it copies (R299). -/
def armTakes (r : Reg) : Bool := (idleFault r).isSome || r == .LANE_SKEW

/-- An entry of a staged table. -/
def State.stagedEntry (s : State) (t : StagedTable) (k : Nat) : Nat :=
  match t with
  | .defects => Sparse.get goodEntry s.plan.defStaged k
  | .seams => Sparse.get 0 s.plan.seamStaged k
  | .trims => Sparse.get 0 s.caril.trimStaged k

/-- Put an entry of a staged table. -/
def State.putStaged (s : State) (t : StagedTable) (k v : Nat) : State :=
  match t with
  | .defects => { s with plan := { s.plan with defStaged := Sparse.set goodEntry s.plan.defStaged k v } }
  | .seams => { s with plan := { s.plan with seamStaged := Sparse.set 0 s.plan.seamStaged k v } }
  | .trims => { s with caril := { s.caril with trimStaged := Sparse.set 0 s.caril.trimStaged k v } }

/-- A staged entry is written (R282, R299, R646). -/
def stageEntry (t : StagedTable) (k v : Nat) (s : State) : State := (s.putStaged t k v).mark (.staged t k (s.stagedEntry t k) v)

/-- What an event of this cycle did is taken back, for an ARM that takes effect before it. -/
def undoEvent (s : State) (e : CycleEvent) : State :=
  match e with
  | .stored r i old _ => s.setRg r old i
  | .staged t k old _ => s.putStaged t k old
  | .laneCmd _ n old => s.setLane n old
  | .metCal c => s.setChan c { s.chan c with calActive := false, stale := false }
  | .burstWrote _ w | .appended _ _ w => putSpan w.at_ w.old w.oldMarks s
  | _ => s

/-- A burst that ARM comes before meets the store region (R467): it is not performed, and its operation ends PROTECT. -/
def protectBurst (o : DmaOp) (n : Nat) (s : State) : State :=
  if s.dma.ops.any (fun p => p.ring == o.ring && p.count == o.count && !p.completed) then
    endOp o 5 .STO_PROTECT (countBytes (2 ^ 64 - n) s)
  else s

/-- So is an APPEND, whose command ends PROTECT (R522). -/
def protectAppend (u : Nat) (seq : Word) (s : State) : State := (checkOutcome u 5 (s.setRg .CHECK_SEQ seq u)).raise .STO_PROTECT

/-- A write to DRAM happens after the ARM: `f` where it now meets a protected store region, else the write. -/
def rewrite (w : SpanWrite) (f : State → State) (s : State) : State :=
  if s.storeProtects w.at_ w.new.length then f s else putSpan w.at_ w.new w.newMarks s

/-- The event happens after the ARM: where the stripe is armed, a locked register's write is ignored with its fault, a sleep or
EYE_CAL command is ignored with CAR_LANE_BUSY, and a staged value waits for the next copy. -/
def redoEvent (armed : Bool) (s : State) (e : CycleEvent) : State :=
  match e with
  | .stored r i _ new => match armed, idleFault r with
    | true, some c => s.raise c
    | _, _ => s.setRg r new i
  | .staged t k _ new => s.putStaged t k new
  | .laneCmd cmd n _ => laneCommand cmd n s
  | .metCal c => s.setChan c { s.chan c with calActive := true, stale := true }
  | .burstWrote o w => rewrite w (protectBurst o w.new.length) s
  | .appended u seq w => rewrite w (protectAppend u seq) s
  | _ => s

/-- ARM written to PLAN_STRIPE_CMD: it takes effect before writes and lane commands of its own cycle. -/
def doArm (s : State) : State :=
  if !s.native || s.plan.state != .idle then s
  else
    let s1 := judgeArm (s.cyc.foldl undoEvent s)
    let s2 := s.cyc.reverse.foldl (redoEvent (s1.plan.state == .armed)) s1
    let s3 := if s.plan.scan.isSome then s2.mark .armInScan else s2
    if s1.plan.state == .armed then s3.mark .armed else s3

/-- What ends a beam scan takes effect before an ARM of its cycle, which is judged after it (Table 20-6). -/
def scanEnd (f : State → State) (s : State) : State :=
  let s1 := f s
  if s.saw .armInScan && s1.plan.scan.isNone then doArm s1 else s1

/-! ## DISARM, RELEASE and the ends -/

/-- No scope is bound. -/
def unbind (s : State) : State :=
  let s1 := s.setScope 0 { s.scope 0 with bound := false }
  s1.setScope 1 { s1.scope 1 with bound := false }

/-- The stripe goes to IDLE: jobs stop, the live buffer is given up, the scope is no longer bound. -/
def toIdle (s : State) : State :=
  let s1 := unbind s.stopJobs
  { s1 with
    plan := { s1.plan with state := .idle, started := none, accepted := false, columnCommitted := false }
    store := { s1.store with liveEntry := [] }
    stage := { s1.stage with wait := .none }
    cad := { s1.cad with startVerify := false, due := s1.cad.due.filter (fun c => c.code != 1) } }

/-- DISARM (Table 1-5); it takes effect before the delivery of a tile in its cycle (Table 4-4). -/
def doDisarm (s : State) : State := if s.native && s.plan.state == .armed then toIdle (untile 0 s) else s

/-- STACK_TEMP_READ (R430, R431) for both stacks. An ARM of the cycle in which a stack becomes hot is refused: the stripe goes back to IDLE
(Table 12-8); what ARM has cleared or written stays so, which is the model's choice (assumption log 78). -/
def stackTemps (t0 t1 : Nat) (s : State) : State :=
  let s1 := stackTemp 1 t1 (stackTemp 0 t0 s)
  if !s.stackHot && s1.stackHot && s1.saw .armed && s1.plan.state == .armed then (toIdle s1).raise .MEM_STACK_HOT else s1

/-- RELEASE (Table 1-5, R304). -/
def doRelease (s : State) : State :=
  if !s.native then s
  else
    let s1 := if s.plan.state == .done || s.plan.state == .aborted then toIdle s else s
    clearLatch s1

/-- The end of the last pass's RUN_OUT. -/
def doneStripe (s : State) : State :=
  let s1 := s.stopJobs
  { s1 with
    plan := { s1.plan with state := .done }
    stage := { s1.stage with wait := .none, inner := none, issued := [], holdFrom := none } }

/-! ## Stage targets (R352, R381) -/

/-- X target of pass p. -/
def State.xTarget (s : State) (p : Nat) : Int :=
  sext 40 (s.fd F.STAGE_X0_LO_POS + 2 ^ 32 * s.fd F.STAGE_X0_HI_POS) + s.xi p * (s.pixel : Nat)

/-- Y run-in start of pass p. -/
def State.runInStart (s : State) (p : Nat) : Int := s.beatY p 0 - s.scanDir * (s.feed p * s.pixel : Nat)

/-- Both axes move to the start of pass p, and the lead waits for them to settle. -/
def moveToPass (p : Nat) (w : StageWait) (s : State) : State :=
  (({ s with stage := { s.stage with spStop := false, wait := w } } : State).aim 0 (.to (s.xTarget p))).aim 1 (.to (s.runInStart p))

/-- Both axes have settled (R352). -/
def State.settled (s : State) : Bool :=
  (s.axis 0).atRest && (s.axis 1).atRest && decide ((s.chan 0).settle ≥ 10) && decide ((s.chan 2).settle ≥ 10)

/-! ## START (R42 to R44) -/

/-- START is accepted: the stage goes to the start of pass 0. -/
def acceptStart (s : State) : State :=
  moveToPass 0 .startSettle { s with plan := { s.plan with started := none, accepted := true, failChain := false, failMatch := false } }

/-- START is not accepted (R43). -/
def refuseStart (chain mismatch : Bool) (s : State) : State :=
  { s.raise .PLN_COMMIT_REFUSED with plan := { s.plan with started := none, failChain := chain, failMatch := mismatch } }

/-- START on PLAN_STRIPE_CMD, or a START trigger (R23, R42 to R44, R597). -/
def doStart (s : State) : State :=
  if !s.native then s
  else if !s.leads then s.raise .PLN_ROLE_COMMAND
  else if s.plan.state != .armed || s.plan.started.isSome || s.plan.accepted then s
  else if [0, 1, 2].any (fun c => (s.chan c).calActive) then s.raise .STG_BUSY
  else
    let s := s.mark (.started s.plan s.stage s.cad.startVerify)
    if s.str.role == .solo then (if s.committed then acceptStart s else refuseStart false false s)
    else { s with
      plan := { s.plan with started := some ⟨s.now, none⟩ }
      cad := { s.cad with startVerify := true } }

/-- VERIFY_TIMEOUT (R42): the START verification frame has not returned within 10 µs. -/
def doVerifyTimeout (s : State) : State :=
  match s.plan.started with
  | some ⟨t, some _⟩ => if s.plan.state == .armed && decide (s.now ≥ t + 10000000) then refuseStart true false s else s
  | _ => s

/-! ## ABORT (R23) -/

/-- ABORT on PLAN_STRIPE_CMD. -/
def doAbort (s : State) : State :=
  if !s.native then s
  else if s.plan.state == .armed then toIdle (untile 0 s)
  else if !s.plan.state.running then s
  else if !s.leads then s.raise .PLN_ROLE_COMMAND
  else s.queueCmd ⟨6, 0, 0⟩

/-! ## Entry to RUN_IN (R248, R266, R301, R348, R352, R384, R385) -/

/-- Sources that persist at entry to RUN_IN: a lost channel, a hot stack, a lane without echo, a lane whose driver holds another
trim epoch (R301), and any damp that still drives the lanes. A lane with ECHO_OK = 0 is a source (R313) without a new CAR_ECHO_LOST,
which only the timeout raises. -/
def runInSources (s : State) : State :=
  let lost := s.leads && [0, 1, 2].any (fun c => (s.chan c).lost)
  let echo := s.usedLanes.any (fun n => !(s.lane n).echoOk)
  let epoch := s.usedLanes.any (fun n => !(s.lane n).echoSeen || (s.lane n).drvEpoch != (s.lane n).epoch)
  let s1 := if lost then s.localDamp .STG_METRO_LOST else s
  let s2 := if s.stackHot then s1.localDamp .MEM_STACK_HOT else s1
  let s3 := if epoch then s2.localDamp .CAR_EPOCH_MISMATCH else s2
  let s4 := if echo then s3.damp true (FaultCode.num .CAR_ECHO_LOST) s3.node else s3
  if s4.generatorOn && s4.plan.state == .runIn then s4.damp false (FaultCode.num .SAF_DAMP_EXTERNAL) s4.node else s4

/-- The lead's stage at entry to RUN_IN: Y accelerates, and the internal compare is armed or damps (R348, R352, R373). -/
def runInStage (p : Nat) (s : State) : State :=
  let level := s.fd F.STAGE_TEMP_STATUS_LEVEL
  let s1 := { s with stage := { s.stage with
    derated := s.stage.derated && level != 0
    nextBeat := 0, beats := [], yInAt := none, extEdges := [], holdFrom := none, spStop := false } }
  let s2 := s1.aim 1 (.vel s1.runVel)
  let s3 := if level ≥ 1 then derate s2 else s2
  let y0 := s3.beatY p 0
  let c := s3.chan 2
  if c.hasPrev && decide ((y0 - c.pos) * s3.scanDir > 0) then { s3 with stage := { s3.stage with inner := some y0 } }
  else ({ s3 with stage := { s3.stage with inner := none } }).localDamp .STG_COMPARE_BEHIND

/-- The stripe enters RUN_IN of pass p. -/
def enterRunIn (p : Nat) (s : State) : State :=
  let s1 := { s with
    plan := { s.plan with state := .runIn, pass := p, h := 0, shifts := [], beat := 0, accepted := false, finishWait := false }
    stage := { s.stage with wait := .none, issued := [] }
    track := { s.track with n := 0, hPend := 0, hDfl := 0, shifts := [], recentre := [] } }
  let s2 := storePass s1
  let s3 := if s2.leads then runInStage p s2 else s2
  runInSources s3

/-! ## RUN_OUT -/

/-- The last beat of the pass has completed (Table 1-5, R352). -/
def enterRunOut (tb : Int) (s : State) : State :=
  let s1 := { s with plan := { s.plan with state := .runOut, outAt := s.stage.epoch + 100 * tb.toNat } }.mark .lastBeat
  if !s1.leads then s1
  else if s1.plan.pass + 1 < s1.passes then moveToPass (s1.plan.pass + 1) (.passSettle (s1.plan.pass + 1)) s1
  else
    let s2 := s1.aim 1 .stop
    { s2 with stage := { s2.stage with wait := .doneSettle } }

/-- DONE would execute no sooner than R316 allows: 100 µs after the last beat. -/
def State.doneAllowed (s : State) : Bool := decide ((s.now : Int) + 100 * s.horizon ≥ s.plan.outAt + 100000000)

/-- AXES_SETTLED (R352, R316, R37, R374): the lead queues STRIPE_START, PASS_START or DONE. -/
def doSettled (s : State) : State :=
  if !s.motionOn then s
  else
    let clear (s : State) : State := { s with stage := { s.stage with wait := .none, holdFrom := none } }
    match s.stage.wait with
    | .none => s
    | .startSettle => if s.settled && s.plan.state == .armed && s.plan.accepted then (clear s).queueCmd ⟨1, 0, 0⟩ else s
    | .passSettle p =>
      if !s.settled || s.plan.state != .runOut then s
      else if s.fd F.STAGE_TEMP_STATUS_LEVEL ≥ 2 then
        (match s.stage.holdFrom with
          | some _ => s
          | none => { s with stage := { s.stage with holdFrom := some s.stageT } })
      else (clear s).queueCmd ⟨2, p, 0⟩
    | .doneSettle =>
      if s.plan.state == .runOut && (s.settled || s.plan.finishWait) && s.doneAllowed then (clear s).queueCmd ⟨3, 0, 0⟩ else s

/-! ## Meanings -/

/-- STACK_TEMP_READ (R430, R431). -/
def execStackTempRead (t0 t1 : BitVec 8) (s : State) : Host.Outcome State Fault Refusal :=
  .next (s.whenReady (fun s => if s.hbm.selfRefresh then s else stackTemps t0.toNat t1.toNat s))

/-- SCAN_ABORT (R287). -/
def execScanAbort (s : State) : Host.Outcome State Fault Refusal := .next (s.hostCmd .PLAN_SCAN_CMD 3 (scanEnd doScanAbort))

/-- SCAN_DONE (R287). -/
def execScanDone (s : State) : Host.Outcome State Fault Refusal := .next (s.whenReady (scanEnd doScanDone))

/-- ARM (Table 1-5). -/
def execArm (s : State) : Host.Outcome State Fault Refusal := .next (s.hostCmd .PLAN_STRIPE_CMD 1 doArm)

/-- DISARM (Table 1-5). -/
def execDisarm (s : State) : Host.Outcome State Fault Refusal := .next (s.hostCmd .PLAN_STRIPE_CMD 2 doDisarm)

/-- START (R42). -/
def execStart (s : State) : Host.Outcome State Fault Refusal := .next (s.hostCmd .PLAN_STRIPE_CMD 3 doStart)

/-- ABORT (R23). -/
def execAbort (s : State) : Host.Outcome State Fault Refusal := .next (s.hostCmd .PLAN_STRIPE_CMD 4 doAbort)

/-- RELEASE (Table 1-5). -/
def execRelease (s : State) : Host.Outcome State Fault Refusal := .next (s.hostCmd .PLAN_STRIPE_CMD 5 doRelease)

/-- VERIFY_TIMEOUT (R42). -/
def execVerifyTimeout (s : State) : Host.Outcome State Fault Refusal := .next (s.whenReady doVerifyTimeout)

/-- AXES_SETTLED (R352). -/
def execAxesSettled (s : State) : Host.Outcome State Fault Refusal := .next (s.whenReady doSettled)

end Sys2Proof.Machine
end

