-- ==== Sys2Proof/Machine/Cadence.lean ====
section
/-! DEFINITION. Beats and the cadence link (Chapter 9, R356 to R371): frames, the lead's slots, members, returning frames, and the
execution of cadence commands and beats. -/

namespace Sys2Proof.Machine

/-! ## Frames (Tables 9-7 to 9-9) -/

/-- The 16 symbols of a frame; `bad` inverts its CRC8 (R364). -/
def cadFrame (typ seq hop : Nat) (payload : List Byte) (elapsed : Nat) (bad : Bool) : List Byte :=
  let b := leBytes 1 typ ++ leBytes 1 seq ++ leBytes 1 hop ++ payload ++ leBytes 2 elapsed
  let c := crc crcC8B b
  [0xBC] ++ b ++ leBytes 1 (if bad then 255 - c else c) ++ [0xFD]

/-- The payload of a CMD frame. -/
def CadCmd.payload (c : CadCmd) : List Byte := leBytes 1 c.code ++ leBytes 3 c.arg ++ leBytes 4 c.beat

/-- The command of a CMD frame. -/
def cmdOf (l : List Byte) : CadCmd := ⟨byteAt l 4, leAt l 5 3, leAt l 8 4⟩

/-- TYPE, SEQ, HOP, PAYLOAD and ELAPSED of a frame. -/
def frTyp (l : List Byte) : Nat := byteAt l 1
def frSeq (l : List Byte) : Nat := byteAt l 2
def frHop (l : List Byte) : Nat := byteAt l 3
def frPayload (l : List Byte) : List Byte := slice l 4 8
def frElapsed (l : List Byte) : Nat := leAt l 12 2

/-- The frame is 16 symbols with its control symbols and a correct CRC8. -/
def frIntact (l : List Byte) : Bool :=
  l.length == 16 && byteAt l 0 == 0xBC && byteAt l 15 == 0xFD && byteAt l 14 == crc crcC8B (slice l 1 13)

/-- CFG_DIGEST (R369). -/
def State.cfgDigest (s : State) : Nat :=
  let top := s.str.columnSize % 128 + 128 * (s.str.rowsSel % 4) + 512 * (s.str.pitchSel % 4) + 2048 * b2n s.str.slant
  crc crcC32C (leBytes 4 (s.rg .PLAN_STRIPE_ID).toNat ++ leBytes 4 (s.rg .PLAN_STRIPE_LINES).toNat ++
    leBytes 4 (s.rg .PLAN_STRIPE_CFG).toNat ++ leBytes 4 top ++ leBytes 4 (s.rg .STAGE_CAD_HORIZON).toNat)

/-- The link delay of this device's CAD_OUT (R365). -/
def State.linkDelay (s : State) : Nat := s.fd F.STAGE_CAD_LINK_DELAY_DELAY

/-! ## Merging (R369, R370) -/

/-- A TICK payload with this device's values merged in. -/
def State.mergeTick (s : State) (p : List Byte) : List Byte :=
  let lvl := byteAt p 0; let hd := byteAt p 1; let dev := byteAt p 2; let nc := byteAt p 3
  let up := decide (s.deviceLevel > lvl)
  let nc' := if bit nc 7 = 1 ∨ s.committed = true then nc else 128 + s.str.devIndex
  leBytes 1 (max lvl s.deviceLevel) ++ leBytes 1 (min hd s.deviceHeadroom) ++
    leBytes 1 (if up then s.str.devIndex else dev) ++ leBytes 1 nc' ++ slice p 4 4

/-- MISMATCH as this member judges a VERIFY payload. -/
def State.verifyMismatch (s : State) (p : List Byte) : Bool :=
  leAt p 0 4 != s.stripeId || leAt p 4 2 != s.cfgDigest % 65536

/-- A VERIFY payload with this member's judgement merged in; `hop` is the arriving HOP. -/
def State.mergeVerify (s : State) (p : List Byte) (hop : Nat) : List Byte :=
  let f := byteAt p 7
  let mine := b2n (!s.committedSelf) + 2 * b2n (hop != s.str.devIndex) + 4 * b2n (s.verifyMismatch p)
  let f' := f ||| mine
  let first := if f % 8 = 0 ∧ mine ≠ 0 then s.str.devIndex else byteAt p 6
  slice p 0 6 ++ leBytes 1 first ++ leBytes 1 f'

/-! ## Beats (R356 to R360) -/

/-- What the lead does with its next beat in a slot. -/
inductive BeatPlan where
  | wait
  | issue (tb : Int)
  | fault (c : FaultCode)
deriving DecidableEq, Repr

/-- The period limits of R359 for a beat at tb. -/
def State.periodCheck (s : State) (tb : Int) : BeatPlan :=
  match s.stage.beats with
  | [] => .issue tb
  | b :: _ =>
    let per := tb - b.2
    if per < 4000 ∨ per * 256 < (s.geoW * 1000 : Nat) ∨ per < (s.openTime : Nat) then .fault .STG_OVERSPEED
    else if per > s.stallT then .fault .STG_BEAT_STALL
    else .issue tb

/-- A beat at tb may be issued now: no more than T_BEAT + 64 ns ahead, and never less than T_BEAT (R357). -/
def State.slotBeat (s : State) (tb : Int) : BeatPlan :=
  if tb > s.stageT + s.tBeat + 640 then .wait else s.periodCheck (max tb (s.stageT + s.tBeat))

/-- The stage does not move forward: v invalid, u not above 0, or the direction flag −DIR (R359). -/
def State.noForward (s : State) : Bool :=
  let c := s.chan 2
  !c.estValid || decide (s.scanDir * c.v ≤ 0) || decide (c.dir = -s.scanDir)

/-- The lead's next beat (R356 to R360). -/
def State.beatPlan (s : State) : BeatPlan :=
  let k := s.stage.nextBeat
  if !s.motionOn || decide (k ≥ s.passBeats) || !(s.plan.state == .runIn || s.plan.state == .exposing) then .wait
  else if k = 0 ∧ s.stage.inner.isNone = true then .wait
  else if s.fb F.STAGE_BEAT_CFG_SRC then
    (match s.stage.extEdges with
      | [] => .wait
      | e :: _ => s.slotBeat (e + (10 * s.fd F.STAGE_BEAT_CFG_EXT_DELAY_NS : Nat)))
  else if s.noForward then (if k = 0 then .wait else .fault .STG_BEAT_STALL)
  else match s.predict k with
    | none => .wait
    | some tb => s.slotBeat tb

/-- Beat nextBeat is issued at tb: its instant is final, and the status registers follow. -/
def issueBeat (tb : Int) (s : State) : State :=
  let k := s.stage.nextBeat
  let s1 := s.setFd F.STAGE_BEAT_STATUS_BEAT k
  let s2 := match s.stage.beats with
    | [] => s1
    | b :: _ =>
      let per := min 65535 (tb - b.2).toNat
      (s1.setFd F.STAGE_BEAT_PERIOD_LAST per).setFd F.STAGE_BEAT_PERIOD_MIN (min per (s1.fd F.STAGE_BEAT_PERIOD_MIN))
  { s2 with stage := { s2.stage with
    issued := s2.stage.issued ++ [⟨k, s.plan.pass, tb, false⟩]
    beats := ((k, tb) :: s2.stage.beats).take 64
    nextBeat := k + 1
    extEdges := s2.stage.extEdges.drop 1 } }

/-! ## The lead's slot (R362, R370) -/

/-- A frame leaves the lead; a solo device has no cadence partner and sends none (R20). -/
def sendFrame (typ : Nat) (payload : List Byte) (start : Bool) (s : State) : State :=
  if s.str.role != .lead then s
  else
    let q := s.cad.seq
    { s.emit (.cadence (cadFrame typ q 1 payload (Config.leadLatency + s.linkDelay) false)) with
      cad := { s.cad with seq := (q + 1) % 256, flight := s.cad.flight ++ [⟨typ, q, payload, s.stageT, start, false⟩] } }

/-- A command leaves in this slot and is scheduled on this device for issue + H (R366). -/
def sendCmd (c : CadCmd) (s : State) : State :=
  let s1 := sendFrame 2 c.payload false s
  { s1 with cad := { s1.cad with scheduled := s1.cad.scheduled ++ [(s1.stageT + s1.horizon, c)] } }

/-- The first due DAMP or ABORT is taken out of the queue. -/
def takeDamp (s : State) : Option (CadCmd × State) :=
  match s.cad.due.find? (fun c => c.code == 5 || c.code == 6) with
  | some c => some (c, { s with cad := { s.cad with due := s.cad.due.erase c } })
  | none => none

/-- The step of a SHIFT command. -/
def CadCmd.step (c : CadCmd) : Int := if c.arg = 1 then -1 else 1

/-- The stripe is still where the command is meant for it; a SHIFT is issued only in EXPOSING, for a beat of the pass
(Tables 9-9, 10-3a). -/
def State.cmdStands (s : State) (c : CadCmd) : Bool :=
  match c.code with
  | 1 => s.plan.state == .armed
  | 2 | 3 => s.plan.state == .runOut
  | 4 => s.plan.state == .exposing && (s.shiftBeat s.stageT).all (fun k => decide (k < s.passBeats))
  | _ => true

/-- PASS_START is not issued at column level 2 or above (R374, R376). -/
def State.cmdHeld (s : State) (c : CadCmd) : Bool := c.code == 2 && decide (s.fd F.STAGE_TEMP_STATUS_LEVEL ≥ 2)

/-- A SHIFT waits while no beat can be named for it. -/
def State.cmdWaits (s : State) (c : CadCmd) : Bool := c.code == 4 && (s.shiftBeat s.stageT).isNone

/-- A command that is not issued: a SHIFT is no longer pending, a held PASS_START waits for the axes' next settling. -/
def dropCmd (c : CadCmd) (s : State) : State :=
  if c.code = 4 then { s with track := { s.track with hPend := s.track.hPend - c.step } }
  else if s.cmdHeld c && s.cmdStands c then
    { s with stage := { s.stage with wait := .passSettle c.arg, holdFrom := some s.stageT } }
  else s

/-- The first due command that can be issued in this slot; those that cannot be any more leave the queue, those that wait stay. -/
def offerDue (kept : List CadCmd) : List CadCmd → State → Option CadCmd × State
  | [], s => (none, { s with cad := { s.cad with due := kept } })
  | c :: t, s =>
    if !(s.cmdStands c) || s.cmdHeld c then offerDue kept t (dropCmd c s)
    else if s.cmdWaits c then offerDue (kept ++ [c]) t s
    else (some c, { s with cad := { s.cad with due := kept ++ t } })

/-- A SHIFT is sent with the beat it names (Table 9-9); any other command as it is. -/
def sendOther (c : CadCmd) (s : State) : State :=
  if c.code ≠ 4 then sendCmd c s
  else
    let k := (s.shiftBeat s.stageT).getD 0
    let s1 := sendCmd { c with beat := k } s
    let p : PendShift := ⟨k, c.step⟩
    { s1 with track := { s1.track with shifts := s1.track.shifts ++ [p], recentre := s1.track.recentre ++ [p] } }

/-- A VERIFY leaves (R369 to R371). -/
def sendVerify (s : State) : State :=
  let p := leBytes 4 s.stripeId ++ leBytes 2 (s.cfgDigest % 65536) ++ [0, 0]
  let start := s.cad.startVerify
  let s1 := sendFrame 3 p start s
  { s1 with
    cad := { s1.cad with startVerify := false, verifyAt := some s.stageT }
    plan := { s1.plan with started := match s1.plan.started with
      | some c => some (if start then ⟨s.now, some s.cad.seq⟩ else c)
      | none => none } }

/-- A VERIFY is due: one for a START, or one in place of a TICK so that none is missed for 1 µs while ARMED (R370). -/
def State.verifyDue (s : State) : Bool :=
  s.str.role == .lead && (s.cad.startVerify || (s.plan.state == .armed && (match s.cad.verifyAt with
    | some t => decide (s.stageT - t > 9360)
    | none => true)))

/-- A TICK leaves the lead; a solo device takes its own level as the column's (R370, R372). -/
def sendTick (s : State) : State :=
  if s.str.role == .lead then sendFrame 0 (s.mergeTick [0, 255, 0, 0, 0, 0, 0, 0]) false s
  else setColumnTemp s.deviceLevel s.str.devIndex s.deviceHeadroom s

/-- The frame of a slot in the order of R362. -/
def slotFrame (s : State) : State :=
  match takeDamp s with
  | some (c, s1) => sendCmd c s1
  | none => match s.beatPlan with
    | .issue tb =>
      let dt := leBytes 2 (tb - s.stageT).toNat
      let s1 := sendFrame 1 (leBytes 4 s.stage.nextBeat ++ dt ++ leBytes 1 s.plan.pass ++ [0]) false s
      issueBeat tb s1
    | _ => match offerDue [] s.cad.due s with
      | (some c, s1) => sendOther c s1
      | (none, s1) => if s1.verifyDue then sendVerify s1 else sendTick s1

/-- CADENCE_SLOT (R357, R359, R362): one frame slot of a lead, or of a solo device, which paces itself the same way. -/
def doSlot (s : State) : State :=
  if !(s.leads && s.native) || s.power.state == .dormant then s
  else
    let s1 := gateAdvance s
    slotFrame (match s1.beatPlan with
      | .fault c => s1.localDamp c
      | _ => s1)

/-! ## A member's frames (R364 to R367) -/

/-- A frame or the link fails R367. -/
def memberLost (s : State) : State :=
  let s1 := (s.raise .STG_CADENCE_LOST).bump F.STAGE_CAD_ERR_COUNT_COUNT
  if s1.plan.state.running then s1.damp false (FaultCode.num .STG_CADENCE_LOST) s1.node false true
  else { s1 with cad := { s1.cad with unverified := true } }

/-- R367 holds for an arriving frame whose HOP should be h. -/
def State.frameOk (s : State) (l : List Byte) (h : Nat) : Bool :=
  frIntact l && frHop l == h &&
  (match s.cad.lastSeq with
    | some q => frSeq l == (q + 1) % 256
    | none => true) &&
  (match s.cad.lastSof with
    | some t => decide (s.stageT - t ≤ 800)
    | none => true)

/-- The link's view after a frame has arrived: its SOF, the SEQ the next frame must follow, and no error left that is its own. -/
def seenFrame (l : List Byte) (s : State) : State :=
  { s with cad := { s.cad with
    lastSof := some s.stageT
    struck := false
    lastSeq := if frIntact l then some (frSeq l) else s.cad.lastSeq.map (fun q => (q + 1) % 256) } }

/-- The device is a member that has recovered CAD_IN. -/
def State.onChain (s : State) : Bool :=
  s.native && s.str.role == .member && s.cad.locked && s.power.state != .dormant

/-- The frame is forwarded: HOP and ELAPSED rise, TICK and VERIFY carry this device's values, CRC8 is recomputed, and inverted where
the frame failed (R364). -/
def forward (l : List Byte) (ok : Bool) (s : State) : State :=
  let p := frPayload l
  let p' := if frTyp l = 0 then s.mergeTick p else if frTyp l = 3 then s.mergeVerify p (frHop l) else p
  s.emit (.cadence (cadFrame (frTyp l) (frSeq l) (frHop l + 1) p' (frElapsed l + Config.forwardLatency + s.linkDelay) (!ok)))

/-- A BEAT: beat k lies at issue + DT (R366). -/
def takeBeat (l : List Byte) (issue : Int) (s : State) : State :=
  let k := leAt l 4 4
  let tb := issue + (leAt l 8 2 : Nat)
  if s.plan.state.running then
    { s with stage := { s.stage with
      issued := s.stage.issued ++ [⟨k, byteAt l 10, tb, false⟩]
      beats := ((k, tb) :: s.stage.beats).take 64 } }
  else s

/-- A CMD is scheduled for issue + H (R366). -/
def takeCmd (l : List Byte) (issue : Int) (s : State) : State :=
  { s with cad := { s.cad with scheduled := s.cad.scheduled ++ [(issue + s.horizon, cmdOf l)] } }

/-- A VERIFY: the member learns whether its configuration matches (R369). -/
def takeVerify (l : List Byte) (s : State) : State :=
  { s with plan := { s.plan with failMatch := s.plan.state.active && s.verifyMismatch (frPayload l) } }

/-- What a member does with a frame that meets R367, by its TYPE (Table 9-8). -/
def takeFrame (l : List Byte) (s : State) : State :=
  let issue : Int := s.stageT - (frElapsed l : Nat)
  match frTyp l with
  | 1 => takeBeat l issue s
  | 2 => takeCmd l issue s
  | 3 => takeVerify l s
  | _ => s

/-- The 16 symbols of a frame arrive at a member (R364, R366, R367): forwarded, and acted on only where R367 holds and no symbol of it
was in error; an error of a symbol has been raised when that symbol arrived. -/
def arrive (l : List Byte) (s : State) : State :=
  if !s.onChain then s
  else
    let ok := s.frameOk l s.str.devIndex
    let s1 := seenFrame l (forward l (ok && !s.cad.struck) s)
    if !ok then memberLost s1
    else if s.cad.struck then s1
    else takeFrame l s1

/-! ## Returning frames (R368, R371) -/

/-- The chain has failed at the lead (R368). -/
def ringFail (s : State) : State :=
  let s1 := (s.raise .STG_RING_FAIL).bump F.STAGE_CAD_ERR_COUNT_COUNT
  let s2 := { s1 with
    cad := { s1.cad with unverified := true }
    plan := { s1.plan with columnCommitted := false } }
  if s2.plan.state.running then s2.damp true (FaultCode.num .STG_RING_FAIL) s2.node else s2

/-- A START verification has come back or failed: R42's remaining condition is the lead's own commitment. -/
def startVerdict (chain mismatch nc : Bool) (s : State) : State :=
  if s.plan.state != .armed || s.plan.started.isNone then s
  else if !chain && !mismatch && !nc && s.committed then acceptStart s
  else refuseStart chain mismatch s

/-- A VERIFY that meets R367 has returned (R370, R371). -/
def verifyBack (f : SentFrame) (l : List Byte) (s : State) : State :=
  let flags := byteAt l 11
  let nc := bit flags 0 == 1; let order := bit flags 1 == 1; let mism := bit flags 2 == 1
  let rt := (s.stageT - f.issuedAt).toNat
  let el := frElapsed l
  let delayBad := decide (((el : Int) - (rt : Int)).natAbs > s.fd F.STAGE_CAD_TOL_TOL)
  let short := decide (s.horizon < (el : Int) + 800)
  let late := decide (rt > 100000)
  let pass := !nc && !order && !mism && !delayBad && !short && !late
  let s1 := (s.setFd F.STAGE_CAD_RING_ROUND_TRIP (min 65535 rt)).setFd F.STAGE_CAD_RING_ELAPSED el
  let s2 := (s1.setFd F.STAGE_CAD_STATUS_VERIFIED (b2n pass)).setFd F.STAGE_CAD_STATUS_FIRST_FAIL (byteAt l 10 % 64)
  let s3 := ((s2.setFd F.STAGE_CAD_STATUS_NOT_COMMITTED (b2n nc)).setFd F.STAGE_CAD_STATUS_ORDER_BAD (b2n order)).setFd
    F.STAGE_CAD_STATUS_MISMATCH (b2n mism)
  let s4 := { s3 with
    cad := { s3.cad with unverified := false }
    plan := { s3.plan with columnCommitted := !f.old && !nc && s3.plan.state.active } }
  if f.start && !f.old then
    let s5 := (s4.setFd F.STAGE_CAD_STATUS_DELAY_BAD (b2n delayBad)).setFd F.STAGE_CAD_STATUS_HORIZON_SHORT (b2n short)
    startVerdict (order || delayBad || short || late) mism nc (s5.raiseIf (delayBad || short) .STG_CHAIN_FAIL)
  else s4

/-- A VERIFY has not come back intact. -/
def verifyBroken (f : SentFrame) (s : State) : State :=
  let s1 := s.setFd F.STAGE_CAD_STATUS_VERIFIED 0
  if f.start && !f.old then startVerdict true false false s1 else s1

/-- The returning symbols are the frame that was issued: R367 with HOP = N, TYPE and SEQ, and the payload of BEAT and CMD
(R368). -/
def State.returnOk (s : State) (f : SentFrame) (l : List Byte) : Bool :=
  s.cad.locked && !s.cad.struck && s.frameOk l s.geoN && frTyp l == f.typ && frSeq l == f.seq &&
    (decide (f.typ ≠ 1 ∧ f.typ ≠ 2) || frPayload l == f.payload)

/-- The link's view at the lead when frame f was to return: no symbols are seen while CAD_IN is not aligned. -/
def seenReturn (f : SentFrame) (l : List Byte) (s : State) : State :=
  if !s.cad.locked then { s with cad := { s.cad with struck := false } }
  else if l = [] then { s with cad := { s.cad with lastSeq := some f.seq, lastSof := none, struck := false } }
  else seenFrame l s

/-- A TICK that meets R367 has returned: the lead takes the column's level and headroom from it, merged with its own (R372). -/
def tickBack (l : List Byte) (s : State) : State :=
  let up := decide (s.deviceLevel > byteAt l 4)
  setColumnTemp (max (byteAt l 4) s.deviceLevel) (if up then s.str.devIndex else byteAt l 6 % 64) (min (byteAt l 5) s.deviceHeadroom) s

/-- The oldest frame on the chain returns as l, or is missing: [] when no SOF came, or while CAD_IN is not aligned (R368). An error
of one of its symbols has been raised when that symbol arrived. -/
def frameReturn (l : List Byte) (s : State) : State :=
  if !(s.native && s.str.role == .lead) then s
  else match s.cad.flight with
    | [] => s
    | f :: rest =>
      let s1 := seenReturn f l { s with cad := { s.cad with flight := rest } }
      if s.returnOk f l then (if f.typ = 0 then tickBack l s1 else if f.typ = 3 then verifyBack f l s1 else s1)
      else
        let s2 := if s.cad.struck then s1 else ringFail s1
        if f.typ = 3 then verifyBroken f s2 else s2

/-! ## Execution at issue + H (R366, Table 9-9) -/

/-- The first scheduled command with this code whose instant has come. -/
def takeScheduled (code : Nat) (s : State) : Option (CadCmd × State) :=
  match s.cad.scheduled.find? (fun e => e.2.code == code && decide (s.stageT ≥ e.1)) with
  | some e => some (e.2, { s with cad := { s.cad with scheduled := s.cad.scheduled.erase e } })
  | none => none

/-- A command row of the cadence link: with a frame, its arrival at a member; without one, its execution on this device. -/
def cadRow (code : Nat) (l : List Byte) (f : CadCmd → State → State) (s : State) : State :=
  if !s.native then s
  else if l ≠ [] then arrive l s
  else match takeScheduled code s with
    | some (c, s1) => f c s1
    | none => s

/-- STRIPE_START. -/
def runStripeStart (s : State) : State := if s.plan.state == .armed then enterRunIn 0 s else s

/-- PASS_START. -/
def runPassStart (c : CadCmd) (s : State) : State :=
  if s.plan.state == .runOut && c.arg == s.plan.pass + 1 && decide (c.arg < s.passes) then enterRunIn c.arg s else s

/-- DONE. -/
def runDone (s : State) : State :=
  if s.plan.state == .runOut && decide (s.plan.pass + 1 ≥ s.passes) then doneStripe s else s

/-- SHIFT (R266, R267): noted for its beat, refused where it would take |h| above T; from now on it is not pending (R385). -/
def runShift (c : CadCmd) (s0 : State) : State :=
  let s := { s0 with track := { s0.track with shifts := s0.track.shifts.filter (fun e => e.beat != c.beat) } }
  if s.plan.state == .exposing then
    let h := s.plan.shifts.foldl (fun h e => if e.2.2 then h else h + e.2.1) s.plan.h
    { s with plan := { s.plan with shifts := s.plan.shifts ++ [(c.beat, c.step, decide ((h + c.step).natAbs > s.shiftMax))] } }
  else s

/-- ABORT: a damp source with no fault code of its own, raised by the lead (R39, R48). It takes effect before the delivery of a tile in
its cycle (Table 4-4). -/
def runAbort (s : State) : State :=
  let f := (if s.native && s.plan.state.running then untile 0 s else s).free 16
  f.2.damp false f.1 (f.2.nodeOf 0) true

/-! ## Beats execute (R33, R45, R248, R266) -/

/-- h takes in the shifts that name beats up to k (R266). -/
def absorbShifts (k : Nat) (s : State) : State :=
  { s with plan := { s.plan with h := s.hAt k, shifts := s.plan.shifts.filter (fun e => decide (e.1 > k)) } }

/-- Lines that R45 and R273 need at beat k: delivered, and through the capacity check, 64 lines ahead. -/
def State.marginBad (s : State) (k : Nat) : Bool :=
  decide (k + 64 < s.lines) && (decide (s.store.delivered ≤ k + 64) || decide (s.compLines ≤ k + 64))

/-- Causes under R45 whose instant has come. -/
def underrunCheck (s : State) : State :=
  if s.plan.underruns.any s.underrunDue then s.underrunDamp else s

/-- Beat b executes. -/
def runBeat (b : IssuedBeat) (s : State) : State :=
  if !(s.plan.state == .exposing || (s.plan.state == .runIn && b.k == 0)) || b.pass != s.plan.pass then s
  else if s.shiftRefused b.k then s.localDamp .PLN_SHIFT_RANGE
  else
    let s1 := absorbShifts b.k { s with plan := { s.plan with state := .exposing, beat := b.k + 1 } }
    let s2 := underrunCheck s1
    let s3 := if s2.plan.state == .exposing && s2.marginBad b.k then s2.underrunDamp else s2
    if s3.plan.state == .exposing && decide (b.k + 1 ≥ s3.passBeats) then enterRunOut b.tb s3 else s3

/-- BEAT: the oldest issued beat whose instant has come executes. -/
def doBeat (s : State) : State :=
  match s.stage.issued with
  | [] => s
  | b :: rest =>
    if decide (s.stageT < b.tb) || !s.native then s
    else runBeat b { s with stage := { s.stage with issued := rest } }

/-- PLN_UNDERRUN_DAMP (R45): a waiting cause takes effect. -/
def doUnderrun (s : State) : State := underrunCheck s

/-- CADENCE_LOCK (R362). -/
def doLock (s : State) : State :=
  if s.native && s.str.role != .solo && s.power.state != .dormant then
    { s with cad := { s.cad with locked := true, struck := false, lastSeq := none, lastSof := none } }
  else s

/-- STG_CADENCE_LOST (R367): kind 0 a code or disparity error, 1 comma alignment lost, 2 no SOF for 80 ns. On the lead the same
errors fail the returning frame (R368). The frame that a symbol error hits, or that comes late, is marked: it is not acted on. -/
def doCadenceLost (kind : Nat) (s : State) : State :=
  if !(s.native && s.str.role != .solo && s.cad.locked) || s.power.state == .dormant then s
  else
    let due := decide (kind ≠ 2) || (match s.cad.lastSof with
      | some t => decide (s.stageT - t ≥ 800)
      | none => false)
    if !due then s
    else
      let s1 := match kind with
        | 1 => { s with cad := { s.cad with locked := false, struck := false, lastSeq := none, lastSof := none } }
        | 2 => { s with cad := { s.cad with struck := true, lastSof := none } }
        | _ => { s with cad := { s.cad with struck := true } }
      if s1.str.role == .member then memberLost s1 else ringFail s1

/-! ## Meanings -/

/-- CADENCE_SLOT (R362). -/
def execCadenceSlot (s : State) : Host.Outcome State Fault Refusal := .next (s.whenReady doSlot)

/-- BEAT_FRAME (R366): a frame's 16 symbols arrive; whatever their row, what they are is what their TYPE says. -/
def execBeatFrame (l : List Byte) (s : State) : Host.Outcome State Fault Refusal := .next (s.whenReady (arrive l))

/-- TICK_FRAME (R370). -/
def execTickFrame (l : List Byte) (s : State) : Host.Outcome State Fault Refusal := .next (s.whenReady (arrive l))

/-- VERIFY_FRAME (R369). -/
def execVerifyFrame (l : List Byte) (s : State) : Host.Outcome State Fault Refusal := .next (s.whenReady (arrive l))

/-- CADENCE_FRAME_RETURN (R368): the symbols that return for the oldest frame on the chain, [] for none. -/
def execCadenceFrameReturn (l : List Byte) (s : State) : Host.Outcome State Fault Refusal := .next (s.whenReady (frameReturn l))

/-- VERIFY_RETURN (R371): the same for a frame that is a VERIFY. -/
def execVerifyReturn (l : List Byte) (s : State) : Host.Outcome State Fault Refusal :=
  .next (s.whenReady (fun s => match s.cad.flight with
    | f :: _ => if f.typ = 3 then frameReturn l s else s
    | [] => s))

/-- STG_CADENCE_LOST (R367). -/
def execStgCadenceLost (kind : Fin 3) (s : State) : Host.Outcome State Fault Refusal := .next (s.whenReady (doCadenceLost kind.val))

/-- CADENCE_LOCK (R362). -/
def execCadenceLock (s : State) : Host.Outcome State Fault Refusal := .next (s.whenReady doLock)

/-- STRIPE_START (R366). -/
def execStripeStart (l : List Byte) (s : State) : Host.Outcome State Fault Refusal :=
  .next (s.whenReady (cadRow 1 l (fun _ => runStripeStart)))

/-- PASS_START (R366). -/
def execPassStart (l : List Byte) (s : State) : Host.Outcome State Fault Refusal := .next (s.whenReady (cadRow 2 l runPassStart))

/-- DONE (R366). -/
def execDone (l : List Byte) (s : State) : Host.Outcome State Fault Refusal := .next (s.whenReady (cadRow 3 l (fun _ => runDone)))

/-- SHIFT (R266, R267). -/
def execShift (l : List Byte) (s : State) : Host.Outcome State Fault Refusal := .next (s.whenReady (cadRow 4 l runShift))

/-- A DAMP command executes: a damp source that is not local (Table 8-5), with the cause and node it names. A damp raised by
CAR_BEAT_LOST is one that R315 covers and so aborts the last RUN_OUT too; of CAR_ECHO_LOST the command does not say whether a beat
is unconfirmed, and it is taken as not covered (assumption log 43). -/
def runDampCmd (c : CadCmd) (s : State) : State :=
  s.damp false (c.arg % 65536) (c.beat % 16384) false (c.arg % 65536 == FaultCode.num .CAR_BEAT_LOST)

/-- DAMP (R303, R366). -/
def execDamp (l : List Byte) (s : State) : Host.Outcome State Fault Refusal :=
  .next (s.whenReady (cadRow 5 l runDampCmd))

/-- CAD_ABORT (R366). -/
def execCadAbort (l : List Byte) (s : State) : Host.Outcome State Fault Refusal :=
  .next (s.whenReady (cadRow 6 l (fun _ => runAbort)))

/-- BEAM_CHECK (R285). -/
def execBeamCheck (l : List Byte) (s : State) : Host.Outcome State Fault Refusal := .next (s.whenReady (cadRow 8 l beamCheck))

/-- BEAT (R33). -/
def execBeat (s : State) : Host.Outcome State Fault Refusal := .next (s.whenReady doBeat)

/-- PLN_UNDERRUN_DAMP (R45). -/
def execPlnUnderrunDamp (s : State) : Host.Outcome State Fault Refusal := .next (s.whenReady doUnderrun)

end Sys2Proof.Machine
end

