-- ==== Sys2Proof/Machine/Crossing.lean ====
section
/-! DEFINITION. Crossings between islands (R487 to R495): the held values that carry register words to the islands, and the pulse
count that carries external beat edges. The time a transfer takes is counted in steps of the device's clock, one for the delivery and
one for the acknowledge; what a block does with a register it reads does not wait for it (assumption log 72). -/

namespace Sys2Proof.Machine

/-! ## Held values (R489, R490) -/

/-- A transfer awaits its acknowledge. -/
def HeldXing.busy (x : HeldXing) : Bool := x.req != x.seen

/-- A value is written at the source: it starts a transfer, or takes the pending stage. -/
def HeldXing.write (x : HeldXing) (v : Sparse Word) : HeldXing :=
  if x.busy then { x with pend := some v } else { x with value := v, req := !x.req }

/-- The next event of a transfer: the destination, where its clock runs, takes the value and acknowledges; the source then sees the
acknowledge, and the pending value starts the next transfer. -/
def HeldXing.advance (runs : Bool) (x : HeldXing) : HeldXing :=
  if x.req != x.ack then (if runs then { x with taken := x.value, ack := x.req } else x)
  else if x.ack != x.seen then
    match x.pend with
    | some v => { x with seen := x.ack, value := v, req := !x.req, pend := none }
    | none => { x with seen := x.ack }
  else x

/-- Values lost when a side enters reset: the transfer that awaits its acknowledge and the pending one (R494). -/
def HeldXing.lost (x : HeldXing) : Nat := b2n x.busy + b2n x.pend.isSome

/-- The block whose registers cross from FABRIC to island i; none for AON, PCIE and FABRIC itself. -/
def islandBlock (i : Nat) : Option Nat :=
  match i with
  | 2 => some 0xE | 3 | 4 | 5 | 6 => some 3 | 7 => some 2 | 8 => some 4 | 9 => some 5 | 10 => some 6 | 11 => some 7
  | 12 | 13 | 14 => some 8 | 15 => some 0xA | 16 | 17 => some 9 | 18 | 19 => some 0xB | 20 => some 0xC | 21 | 22 => some 0xD
  | _ => none

/-- The register words of block b that stand off their reset values. -/
def State.configWords (s : State) (b : Nat) : Sparse Word := s.regs.filter (fun p => p.1 / 65536 / 0x10000 == b)

/-- The crossing of island i's register words. -/
def State.wordXing (s : State) (i : Nat) : HeldXing := (s.clock.words[i]?).getD (HeldXing.fresh false)

/-- Replace it. -/
def State.setWordXing (s : State) (i : Nat) (x : HeldXing) : State :=
  { s with clock := { s.clock with words := s.clock.words.setIfInBounds i x } }

/-- n words or events of crossing x are discarded (R494). -/
def State.discard (s : State) (x : Fin 96) (n : Nat) : State :=
  if n = 0 then s else s.bump F.CLOCK_XING_DISCARD_COUNT n x.val

/-- A register of block b has been written: its words cross to every island of the block; a crossing that is not open discards
them. -/
def crossWords (b : Nat) (s : State) : State :=
  let l := (List.range 24).filter (fun i => islandBlock i == some b)
  l.foldl (fun s i =>
    let x := s.wordXing i
    if x.isOpen then s.setWordXing i (x.write (s.configWords b)) else s.discard (Config.wordXing i) 1) s

/-! ## Pulse counts (R491, R492) -/

/-- A transfer awaits its acknowledge. -/
def PulseXing.busy (x : PulseXing) : Bool := x.req != x.seen

/-- The whole pending count leaves in a transfer. -/
def PulseXing.start (x : PulseXing) : PulseXing :=
  if x.busy || x.pend == 0 then x else { x with carried := x.pend, pend := 0, req := !x.req }

/-- An event at the source; none where the pending count is 255 and the event is lost. -/
def PulseXing.event (x : PulseXing) : Option PulseXing :=
  if x.pend ≥ 255 then none else some { x with pend := x.pend + 1 }.start

/-- The next event of a transfer: the destination, where its clock runs, adds the carried count and acknowledges; the source then
sees the acknowledge, and the pending count starts the next transfer. -/
def PulseXing.advance (runs : Bool) (x : PulseXing) : PulseXing :=
  if x.req != x.ack then (if runs then { x with taken := x.taken + x.carried, carried := 0, ack := x.req } else x)
  else if x.ack != x.seen then { x with seen := x.ack }.start
  else x

/-- Events lost when a side enters reset (R494). -/
def PulseXing.lost (x : PulseXing) : Nat := x.pend + x.carried

/-- The count of external edges. -/
def State.putEdges (s : State) (x : PulseXing) : State := { s with clock := { s.clock with edges := x } }

/-- An external edge is not counted: EXT_SAT is set, and STG_BEAT_BURST raised (R361). -/
def edgeBurst (s : State) : State := (s.setFlag F.STAGE_BEAT_STATUS_EXT_SAT).runDamp .STG_BEAT_BURST

/-- The event of an edge is lost at a full pending count (R492, R361). -/
def edgeLost (s : State) : State := edgeBurst ((s.setFlag F.CLOCK_XING_STATUS_SAT 1 Config.edgeXing.val).raise .CLK_PULSE_SAT)

/-- A rising edge on BEAT_EXT, `sub` × 100 ps into the present 2 ns: less than 5 ns after the one counted last it is not counted;
else it is counted, stamped and carried, and `f` acts on its instant (R360, R361, R491). -/
def edgeAt (sub : Nat) (f : Int → State → State) (s : State) : State :=
  let t := s.stageT + sub
  let near := match s.stage.extLast with
    | some e => decide (t - e < 50)
    | none => false
  let go (s : State) : State :=
    let s1 := s.bumpWrap F.STAGE_EXT_COUNT_COUNT
    f t { s1 with stage := { s1.stage with extLast := some t } }
  if near then edgeBurst s
  else if !s.clock.edges.isOpen then go (s.discard Config.edgeXing 1)
  else match s.clock.edges.event with
    | some x => go (s.putEdges x)
    | none => edgeLost s

/-- A rising edge on BEAT_EXT. It is stamped at 100 ps (R360); the model's time moves by 2 ns, so where in those 2 ns it falls is a free
value (assumption log 10). -/
def countEdge (f : Int → State → State) (s : State) : State :=
  let r := s.free 5
  edgeAt (r.1 % 20) f r.2

/-! ## Steps, resets and reopening -/

/-- Every transfer goes on by one event; `runs` says which islands' clocks run (R489 to R493). -/
def crossStep (runs : Nat → Bool) (s : State) : State :=
  { s with clock := { s.clock with
    words := s.clock.words.mapFinIdx (fun i x _ => x.advance (runs i))
    edges := s.clock.edges.advance (runs 11) } }

/-- Crossing x touches island i. -/
def xingTouches (x i : Nat) : Bool := (Config.xingSrc x).val == i || (Config.xingDst x).val == i

/-- Island i enters reset or goes OFF: what its crossings carry is discarded and counted, and they close (R493, R494). FABRIC is the
source of every crossing of words: the live destinations keep what they took last. -/
def crossReset (i : Nat) (s0 : State) : State :=
  let s := { s0 with clock := { s0.clock with xOpen := s0.clock.xOpen.mapFinIdx (fun x b _ => b && !(xingTouches x i)) } }
  let drop (s : State) (n : Nat) : State :=
    (s.discard (Config.wordXing n) (s.wordXing n).lost).setWordXing n { HeldXing.fresh false with taken := (s.wordXing n).taken }
  let s1 := s.discard (Config.wordXing i) (s.wordXing i).lost
  let s2 := if (islandBlock i).isSome then s1.setWordXing i (HeldXing.fresh false)
    else if i = 23 then ((List.range 24).filter (fun n => (islandBlock n).isSome)).foldl drop s
    else s1
  if i = 11 then (s2.discard Config.edgeXing s2.clock.edges.lost).putEdges (PulseXing.fresh false)
  else if i = 16 then
    (s2.discard Config.edgeXing s2.clock.edges.lost).putEdges { PulseXing.fresh false with taken := s2.clock.edges.taken }
  else s2

/-- Crossing x reopens (R495). -/
def crossReopen (x : Nat) (s : State) : State :=
  { s with clock := { s.clock with
    xOpen := s.clock.xOpen.setIfInBounds x true
    words := s.clock.words.mapFinIdx (fun i y _ => if (Config.wordXing i).val = x then { y with isOpen := true } else y)
    edges := if Config.edgeXing.val = x then { s.clock.edges with isOpen := true } else s.clock.edges } }

/-- Crossings that are all open, with their flags and counts at zero. -/
def ClockSt.opened (c : ClockSt) : ClockSt :=
  { c with xOpen := Vector.replicate 96 true, words := Vector.replicate 24 (HeldXing.fresh true), edges := PulseXing.fresh true }

/-- Crossings that are all closed. -/
def ClockSt.closed (c : ClockSt) : ClockSt :=
  { c with xOpen := Vector.replicate 96 false, words := Vector.replicate 24 (HeldXing.fresh false), edges := PulseXing.fresh false }

end Sys2Proof.Machine
end

