-- ==== Sys2Proof/Machine/Power.lean ====
section
/-! DEFINITION. Power (Chapter 15): entry to HUSH and DORMANT, the idle timers, wake events, the budget arbiter, operating
points and the PMBus. -/

namespace Sys2Proof.Machine

/-! ## Entry conditions (R501, Table 15-3, R509) -/

/-- The DORMANT always-on load in 0.1 mA (Table 15-10); `smb`: a sideband transaction is in progress. -/
def State.aonLoad (s : State) (smb : Bool) : Nat :=
  let en (b : Nat) : Nat := bit (s.rg .POWER_WAKE_EN).toNat b
  60 + 30 * b2n smb + 10 + 5 * en 3 + 5 * en 4 + 20 * en 5 + 25 * en 6 + 25 * en 7

/-- The conditions for HUSH, by refuser ID. -/
def State.hushConds (s : State) : List (Nat × Bool) :=
  [(1, !s.anyActive && s.plan.scan.isNone),
   (2, s.busyMask == 0 && s.livePending == 0),
   (3, s.corr.kept.isEmpty),
   (4, !s.plan.state.active),
   (5, s.prick.phase == .none),
   (6, s.caril.lanes.toList.all (fun l => !l.eyeSweep) && s.stage.met.toList.all (fun m => !m.calActive))]

/-- The conditions for DORMANT beyond those for HUSH. -/
def State.dormantConds (s : State) (smb : Bool) : List (Nat × Bool) :=
  [(7, s.dma.ops.isEmpty),
   (8, !s.hbm.filling && s.hbm.scrub.isNone),
   (9, !s.anyScopeOpen && s.lace.reg.isNone && s.tl.toList.all (fun p => p.src.isNone)),
   (10, s.glob.aspm && s.glob.linkUp),
   (11, (List.range 4).all (fun t => !s.fb F.TIME_TRIG_STATUS_ARMED t)),
   (12, decide (s.aonLoad smb ≤ 160))]

/-- The lowest failing refuser of a list. -/
def lowestFail (l : List (Nat × Bool)) : Option Nat := (l.find? (fun e => !e.2)).map (·.1)

/-- A request for HUSH (R500, R501); `thenDorm`: DORMANT is requested once HUSH is reached. -/
def requestHush (thenDorm : Bool) (s : State) : State :=
  if s.power.state != .run || s.power.transit != .none then s
  else match lowestFail s.hushConds with
    | some id => entryRefused 1 id s
    | none => { s with power := { s.power with thenDormant := thenDorm } }.startEntry 1 .enterHush

/-- A request for DORMANT in HUSH (R500, R501). -/
def requestDormant (smb : Bool) (s : State) : State :=
  if s.power.state != .hush || s.power.transit != .none then s
  else match lowestFail (s.hushConds ++ s.dormantConds smb) with
    | some id => entryRefused 2 id s
    | none => s.startEntry 2 .enterDormant

/-- POWER_CMD (R500, R505): WAKE is a CMD wake event and has no further effect. -/
def doPowerCmd (c : Nat) (smb : Bool) (s : State) : State :=
  match c with
  | 1 => requestHush false s
  | 2 => if s.power.state == .hush then requestDormant smb s else requestHush true s
  | _ => s

/-! ## Idle timers (R500) -/

/-- The idle timers over `ns` of time: each runs while the conditions of its target hold, and restarts when one fails. -/
def idleTick (ns : Nat) (s : State) : State :=
  let run := s.power.state == .run && s.power.transit == .none && (lowestFail s.hushConds).isNone
  let hush := s.power.state == .hush && s.power.transit == .none && (lowestFail (s.hushConds ++ s.dormantConds false)).isNone
  { s with power := { s.power with
    hushNs := if run then s.power.hushNs + ns else 0
    dormNs := if hush then s.power.dormNs + ns else 0 } }

/-- The HUSH timer has expired. -/
def State.hushExpired (s : State) : Bool :=
  s.fb F.POWER_CFG_HUSH_EN && decide (s.power.hushNs ≥ 1000 * max 1 (s.fd F.POWER_CFG_HUSH_IDLE_US))

/-- The DORMANT timer has expired. -/
def State.dormantExpired (s : State) : Bool :=
  s.fb F.POWER_CFG_DORMANT_EN && decide (s.power.dormNs ≥ 1000000 * max 1 (s.fd F.POWER_DORMANT_IDLE_MS))

/-! ## Entry (R502) -/

/-- Mask of the lanes of a predicate. -/
def State.laneMask (s : State) (p : Lane → Bool) : Nat :=
  sumN ((List.range 18).map (fun n => if p (s.lane n) then 2 ^ n else 0))

/-- HUSH entry passes its point of no return and completes (Table 15-4): staged values become active, and every TX sleeps. -/
def hushEntered (smb : Bool) (s : State) : State :=
  let s1 := applyStaged s
  let mask := s1.laneMask (fun l => l.tx == .data)
  let s2 := (List.range 18).foldl (fun s n => s.setLane n { s.lane n with tx := .sleep, wire := none }) s1
  let again := s2.power.thenDormant
  let s3 := { s2 with power := { s2.power with
    state := .hush, transit := .none, thenDormant := false, txData := mask, hushNs := 0, dormNs := 0 } }
  if again then requestDormant smb s3 else s3

/-- Exit follows an entry that a wake event of its point of no return met (R504, Table 15-9). -/
def exitFor (sources : List Nat) (s : State) : State := sources.foldl State.wake s

/-- HUSH_ENTRY_DONE: a DVFS step in progress is waited for (R502). -/
def doHushDone (smb : Bool) (s0 : State) : State :=
  let r := s0.atNoReturn .enterHush
  let s := r.2
  if s.power.transit != .enterHush || s.power.railSet.isSome then s0 else exitFor r.1 (hushEntered smb s)

/-- A metrology channel starts again from first use; its sampling phase is kept (Table 18-4). -/
def MetCh.afterDormant (m : MetCh) : MetCh := { MetCh.first with phase := m.phase }

/-- Islands that DORMANT turns OFF (Table 15-2). -/
def dormantOff : List Nat := [3, 4, 5, 6, 7, 8, 9, 16, 17, 18, 19, 20]

/-- An island in use by the applied structure (R498, Table 1-1): a pillow of some pipeline, correction and store of a
native pipeline, LANE_D of a lead or solo native device, the cadence link of a column. Of the rest the safe structure leaves
STAGE, TRACK and the ports off (Table 2-15). -/
def State.islandUsed (s : State) (i : Nat) : Bool :=
  if 3 ≤ i ∧ i ≤ 6 then (s.pipeOfPillow (i - 3)).isSome
  else if i = 8 ∨ i = 9 then s.native && !s.str.pipes.isEmpty
  else if i = 14 then s.leads && s.native && !s.str.safe
  else if i = 17 then s.str.role != .solo
  else if i = 15 ∨ i = 16 ∨ i = 18 ∨ i = 19 then !s.str.safe
  else true

/-- The islands that lose power at entry to DORMANT: those of them that are in use and not held in reset. -/
def State.losesPower (s : State) : List Nat := dormantOff.filter (fun i => s.islandUsed i && !(s.island i).inReset)

/-- What lay in OFF islands is lost (R499, Table 18-4): motif cache, stage logic, cadence chain, device time, links, and what their
crossings carry; entry to OFF is a reset for these, which the live sides report (R493, R494). -/
def dormantLoss (s0 : State) : State :=
  let s1 := dormantOff.foldl (fun s i => crossReset i s) (invalidateTime s0)
  let s := s0.losesPower.foldl (fun s _ => s.raise .CLK_PEER_RESET) s1
  { s with
    bob := { s.bob with cache := [] }
    stage := { StageSt.reset with met := s.stage.met.map MetCh.afterDormant, epoch := s.stage.epoch, spSeq := s.stage.spSeq }
    cad := CadSt.reset
    net := { s.net with link := 0 } }

/-- DORMANT_ENTRY_DONE (Table 15-5). -/
def doDormantDone (s0 : State) : State :=
  let r := s0.atNoReturn .enterDormant
  let s := r.2
  if s.power.transit != .enterDormant then s0
  else
    let s1 := dormantLoss s
    let mask := s1.laneMask (fun l => l.rx != .sleep)
    let s2 := (List.range 18).foldl (fun s n => s.setLane n { s.lane n with tx := .sleep, rx := .sleep, echoOk := false, wire := none }) s1
    exitFor r.1 { s2 with
      hbm := { s2.hbm with selfRefresh := true }
      power := { s2.power with state := .dormant, transit := .none, rxAwake := mask, hushNs := 0, dormNs := 0 } }

/-! ## Exit (R505) -/

/-- RUN is reached from HUSH (Table 15-7): the TX lanes that were in DATA are in DATA again. -/
def hushExited (s : State) : State :=
  let s1 := { s with power := { s.power with state := .run, transit := .none, hushNs := 0 } }
  (List.range 18).foldl (fun s n => if bit s.power.txData n = 1 then txData n s else s) s1

/-- RUN is reached from DORMANT (Table 15-8): the stacks leave self-refresh at rate code 2 until their first reading (R430), the stage
time base starts again, and lanes wake. -/
def dormantExited (s0 : State) : State :=
  let s := (s0.setFd F.HBM_STATUS_RATE0 2).setFd F.HBM_STATUS_RATE1 2
  let s1 := { s with
    hbm := { s.hbm with selfRefresh := false, tempSeen := Vector.replicate 2 false }
    stage := { s.stage with epoch := s.now }
    power := { s.power with state := .run, transit := .none, hushNs := 0 } }
  (List.range 18).foldl (fun s n =>
    let s := if bit s.power.txData n = 1 then wakeTx n s else s
    if bit s.power.rxAwake n = 1 then wakeRx n s else s) s1

/-! ## The arbiter (R513, R514) -/

/-- CAP_A (R514): the lower of POWER_CAP and the image's CAP. -/
def State.capA (s : State) : Nat := min s.str.cap (s.fd F.POWER_CAP_CAP)

/-- One priority of `arbitrate` (R514): grants by class and what is left. -/
def arbPrio (prio demand : List Nat) (pr : Nat) (r : List Nat × Nat) : List Nat × Nat :=
  let mine := (List.range 4).filter (fun c => prio.getD c 0 == pr)
  let d := sumN (mine.map (fun c => demand.getD c 0))
  let g := mine.foldl (fun g c => g.set c (if d ≤ r.2 then demand.getD c 0 else r.2 * demand.getD c 0 / d)) r.1
  (g, r.2 - min d r.2)

/-- `arbitrate` (R514): the grants of the four classes. -/
def arbitrate (cap fixed : Nat) (prio demand : List Nat) : List Nat :=
  ([3, 2, 1, 0].foldl (fun r pr => arbPrio prio demand pr r) ([0, 0, 0, 0], cap - fixed)).1

/-- The arbiter's window counts of pillow p, and its step (R513). -/
def pillowWindow (short met : Bool) (s : State) (p : Nat) : State :=
  if !s.pillowServes p then s
  else
    let a := if short then ((s.power.short[p]?).getD 0) + 1 else 0
    let b := if met then ((s.power.met[p]?).getD 0) + 1 else 0
    let s1 := { s with power := { s.power with
      short := s.power.short.setIfInBounds p a, met := s.power.met.setIfInBounds p b } }
    let k := s1.point p
    if k < s1.floorOp p then riseToFloor 8 p s1
    else if a ≥ 1000 ∧ k > s1.floorOp p then stepDown p s1
    else if b ≥ 10000 ∧ k < bits (s1.rg .POWER_OP_MAX).toNat (3 * p + 2) (3 * p) then stepUp p s1
    else s1

/-- ARBITER_WINDOW (R513 to R515): the estimates of the fixed share and the four demands, in 0.1 W, grant the next window's work; a live
job that waited for the budget may start. -/
def doArbiter (fixed : Nat) (demand : List Nat) (s : State) : State :=
  let cap := s.capA
  let s1 := s.raiseIf (decide (cap < fixed)) .PWR_CAP_EXCEEDED
  let g := arbitrate cap fixed s.str.prio demand
  let lack (c : Nat) : Bool := decide (g.getD c 0 < demand.getD c 0)
  let s2 := (List.range 4).foldl (fun s c => if lack c then s.bump F.POWER_THROTTLE_COUNT_COUNT 1 c else s) s1
  let total := sumN g
  let s3 := (s2.setFd F.POWER_EST_FIXED (min 2047 fixed)).setFd F.POWER_EST_GRANTED (min 2047 total)
  let s4 := { s3 with power := { s3.power with
    grants := #v[g.getD 0 0, g.getD 1 0, g.getD 2 0, g.getD 3 0]
    demand := #v[demand.getD 0 0, demand.getD 1 0, demand.getD 2 0, demand.getD 3 0]
    windows := s3.power.windows + 1, spent := [] } }
  let spare := decide (20 * (cap - (fixed + total)) ≥ cap) && decide (fixed + total ≤ cap)
  assignLive ((List.range 4).foldl (pillowWindow (lack 0) (!lack 0 && spare)) s4)

/-! ## PMBus (R512) -/

/-- The highest point whose voltage does not exceed mv, 0 if none does. -/
def State.pointBelow (s : State) (mv : Nat) : Nat :=
  ((List.range 8).filter (fun k => decide ((s.opPoint k).2 ≤ mv))).getLast?.getD 0

/-- PWR_PMBUS_FAIL (R512). -/
def pmbusFail (s : State) : State :=
  let s1 := (s.setFlag F.POWER_STATE_PMBUS_FAIL).raise .PWR_PMBUS_FAIL
  let k := s1.pointBelow s1.power.railMv
  { s1 with power := { s1.power with railSet := none, points := s1.power.points.map (fun p => min p k) } }

/-- The two readings of the power-on sequence: VOUT_MODE and READ_VOUT; none is a NAK or a PEC error. -/
def pmbusFirst (mode vout : Option Nat) (s : State) : State :=
  match mode, vout with
  | some m, some v =>
    if m / 32 ≠ 0 then pmbusFail s
    else { s with power := { s.power with voutMode := some m, railMv := (linear16Mv m v).floor.toNat } }
  | _, _ => pmbusFail s

/-- A reading of READ_VOUT while the rail is being set. -/
def pmbusRead (r : RailSet) (vout : Option Nat) (s : State) : State :=
  match vout with
  | none => pmbusFail s
  | some v =>
    if rabs (linear16Mv (s.power.voutMode.getD 0) v - (r.mv : Rat)) ≤ 10 then
      let s1 := { s with power := { s.power with railSet := none, railMv := r.mv } }
      risePillows (match r.pillow with
      | some p => setPoint p (s1.point p + 1) s1
      | none => s1)
    else if r.tries ≥ 4 then pmbusFail s
    else { s with power := { s.power with railSet := some { r with tries := r.tries + 1, since := s.now } } }

/-- PMBUS_READBACK: the first readings after the power-on sequence, else a reading SETTLE_US after VOUT_COMMAND or the last
reading. -/
def doReadback (mode vout : Option Nat) (s : State) : State :=
  match s.power.railSet with
  | some r =>
    if s.now ≥ r.since + 1000000 * max 1 (s.fd F.POWER_PMBUS_CFG_SETTLE_US) then pmbusRead r vout s else s
  | none => if s.power.voutMode.isNone then pmbusFirst mode vout s else s

/-! ## Registers -/

/-- POWER_STATE (Table 15-12). -/
def State.powerState (s : State) : Nat :=
  let st := match s.power.state with
    | .run => 0
    | .hush => 1
    | .dormant => 2
  let tr := match s.power.transit with
    | .none => 0
    | .enterHush | .enterDormant => 1
    | .exitHush | .exitDormant => 2
  st + 4 * tr + 16 * s.fd F.POWER_STATE_PMBUS_FAIL

/-- POWER_OP_STATUS (Table 15-12). -/
def State.opStatus (s : State) : Nat :=
  sumN ((List.range 4).map (fun p => s.point p * 8 ^ p)) + 65536 * (s.power.railMv % 65536)

/-- POWER_ISLAND_STATE of an island (R378, R498, Table 15-2): 0 ON, 1 GATED, 2 NAP, 3 OFF. -/
def State.islandState (s : State) (i : Nat) : Nat :=
  let inner := decide (3 ≤ i ∧ i ≤ 6) || i == 8
  if !s.islandUsed i then 3
  else if i = 15 && !(s.leads && s.native) then 1
  else match s.power.state with
    | .run => 0
    | .hush => if inner then 2 else 0
    | .dormant =>
      if i = 0 then 0
      else if dormantOff.contains i then 3 else 2

/-! ## Meanings -/

/-- ENTER_HUSH (R500). -/
def execEnterHush (s : State) : Host.Outcome State Fault Refusal := .next (s.hostCmd .POWER_CMD 1 (doPowerCmd 1 false))

/-- ENTER_DORMANT (R500); `smb`: a sideband transaction is in progress (R509). -/
def execEnterDormant (smb : Bool) (s : State) : Host.Outcome State Fault Refusal :=
  .next (s.hostCmd .POWER_CMD 2 (doPowerCmd 2 smb))

/-- WAKE (R505). -/
def execWake (s : State) : Host.Outcome State Fault Refusal := .next (s.hostCmd .POWER_CMD 3 (doPowerCmd 3 false))

/-- HUSH_IDLE_TIMER (R500): a condition that fails in the cycle of the expiry takes effect first, and no request arises (Table 15-9). -/
def execHushIdleTimer (s : State) : Host.Outcome State Fault Refusal :=
  .next (s.whenReady (fun s => if s.hushExpired && (lowestFail s.hushConds).isNone then requestHush false s else s))

/-- DORMANT_IDLE_TIMER (R500), with the same order; a sideband transaction in progress refuses the request (R509). -/
def execDormantIdleTimer (smb : Bool) (s : State) : Host.Outcome State Fault Refusal :=
  .next (s.whenReady (fun s => if s.dormantExpired && (lowestFail (s.hushConds ++ s.dormantConds false)).isNone then requestDormant smb s else s))

/-- HUSH_ENTRY_DONE (R502). -/
def execHushEntryDone (smb : Bool) (s : State) : Host.Outcome State Fault Refusal := .next (doHushDone smb s)

/-- DORMANT_ENTRY_DONE (R502). -/
def execDormantEntryDone (s : State) : Host.Outcome State Fault Refusal := .next (doDormantDone s)

/-- WAKE_EVENT (R503, R504): source `src` of Table 15-6; the PCIE source is an event in DORMANT only. -/
def execWakeEvent (src : Fin 8) (s : State) : Host.Outcome State Fault Refusal :=
  .next (if src.val = 1 && s.power.state != .dormant then s else s.wake src.val)

/-- ARBITER_WINDOW (R514). -/
def execArbiterWindow (fixed d0 d1 d2 d3 : BitVec 16) (s : State) : Host.Outcome State Fault Refusal :=
  .next (s.whenReady (doArbiter fixed.toNat [d0.toNat, d1.toNat, d2.toNat, d3.toNat]))

/-- PMBUS_READBACK (R512). -/
def execPmbusReadback (mode : Option (BitVec 8)) (vout : Option (BitVec 16)) (s : State) : Host.Outcome State Fault Refusal :=
  .next (s.whenReady (doReadback (mode.map BitVec.toNat) (vout.map BitVec.toNat)))

/-- PMBUS_FAIL_CLEAR (R512): POWER_STATE.PMBUS_FAIL written with 1; a failure of its cycle stays (R11). -/
def execPmbusFailClear (s : State) : Host.Outcome State Fault Refusal :=
  .next (s.hostCmd .POWER_STATE 16 (fun s => if wbit (s.setNow .POWER_STATE 0) 4 then s else s.setFd F.POWER_STATE_PMBUS_FAIL 0))

end Sys2Proof.Machine
end

