-- ==== Sys2Proof/Machine/Clock.lean ====
section
/-! DEFINITION. Clock islands and crossings (Chapter 14). -/

namespace Sys2Proof.Machine

/-! ## Islands of a PLL -/

/-- Islands the PLL drives (R62). -/
def State.pllIslands (s : State) (p : Nat) : List Nat :=
  (List.range 24).filter (fun i => match s.str.islands[i]? with
    | some e => i != 0 && e.pll == p
    | none => false)

/-! ## Resets of one island -/

/-- Island i goes into reset: its crossings close and discard (R494), CLK_PEER_RESET is raised once, and its work is lost:
bobbins of a pillow lose their jobs, which are issued again, MOTIF its cache, lanes stop driving (R531). -/
def islandReset (i : Nat) (s : State) : State :=
  let s := (crossReset i s).raise .CLK_PEER_RESET
  let stopLane (s : State) (n : Nat) : State :=
    let l := s.lane n
    s.setLane n { l with tx := .sleep, rx := .sleep, echoOk := false, wire := none }
  if 3 ≤ i ∧ i ≤ 6 then
    (List.range 8).foldl (fun s n => loseUnit (8 * (i - 3) + n) s) s
  else if i = 7 then { s with bob := { s.bob with cache := [] } }
  else if i = 12 then (List.range 8).foldl stopLane s
  else if i = 13 then (List.range' 8 8).foldl stopLane s
  else if i = 14 then (List.range' 16 2).foldl stopLane s
  else s

/-- Island i is released: its lanes start again in TRAINING (R317), and the stage time base reads 0 at the release of STAGE (R337). -/
def islandRelease (i : Nat) (s : State) : State :=
  let wake (s : State) (n : Nat) : State :=
    if s.native && s.laneInUse n then startPipelineLane n s
    else if s.tlLane n then txData n s
    else s
  if i = 12 then (List.range 8).foldl wake s
  else if i = 13 then (List.range' 8 8).foldl wake s
  else if i = 14 then (List.range' 16 2).foldl wake s
  else if i = 16 then { s with stage := { s.stage with epoch := s.now } }
  else s

/-! ## Commands -/

/-- A PLL loses lock (R486); in DORMANT the PLLs are stopped (Table 15-5). -/
def doPllUnlock (p : Nat) (s : State) : State :=
  if s.power.state == .dormant then s else
  let isl := s.pllIslands p
  let s := { s with clock := { s.clock with locked := s.clock.locked.setIfInBounds p false } }
  let s := s.bump F.CLOCK_PLL_STATUS_UNLOCKS 1 p
  let s := isl.foldl (fun s i =>
    if (s.island i).inReset then s.setIsland i { s.island i with pllReset := true }
    else islandReset i (s.setIsland i { s.island i with pllReset := true })) s
  if isl.any (fun i => decide (3 ≤ i ∧ i ≤ 22)) then s.runDamp .CLK_PLL_UNLOCK else s.raise .CLK_PLL_UNLOCK

/-- The 10 µs count of island i's clock (R486): more than 1 % from its planned frequency puts it in reset. The clock of an island that
is GATED, in NAP or OFF is stopped, and is not judged. -/
def doFreqCheck (i khz : Nat) (s0 : State) : State :=
  let s := s0.setFd F.CLOCK_ISLAND_FREQ_KHZ khz i
  if s.islandState i ≠ 0 then s else
  let plan := s.plannedKhz i
  let x := s.island i
  if rabs ((khz : Rat) - plan) * 100 > plan then
    let s1 := s.setIsland i { x with freqBad := true, freqReset := true, okFrom := s.now }
    let s2 := if x.inReset then s1 else islandReset i s1
    if 3 ≤ i ∧ i ≤ 22 then s2.runDamp .CLK_FREQ_ERROR else s2.raise .CLK_FREQ_ERROR
  else if x.freqBad then s.setIsland i { x with freqBad := false, okFrom := s.now }
  else s

/-- A clock correct again for 100 µs releases its islands (R486): PLL n when `isPll`, else island n. -/
def doClockRecovered (isPll : Bool) (n : Nat) (s : State) : State :=
  if isPll then
    let isl := s.pllIslands n
    let s := { s with clock := { s.clock with locked := s.clock.locked.setIfInBounds n true } }
    isl.foldl (fun s i =>
      let s1 := s.setIsland i { s.island i with pllReset := false }
      if (s1.island i).inReset then s1 else islandRelease i s1) s
  else
    let x := s.island n
    if x.freqReset && !x.freqBad && decide (s.now ≥ x.okFrom + 100000000) then
      let s1 := s.setIsland n { x with freqReset := false }
      if (s1.island n).inReset then s1 else islandRelease n s1
    else s

/-- A crossing reopens once neither side is in reset (R495). -/
def doXingReopen (x : Nat) (s : State) : State :=
  if (s.island (Config.xingSrc x).val).inReset || (s.island (Config.xingDst x).val).inReset then s
  else crossReopen x s

/-! ## Meanings -/

/-- PLL_UNLOCK (R486). -/
def execPllUnlock (p : Fin 6) (s : State) : Host.Outcome State Fault Refusal := .next (s.whenReady (serviceWrap (doPllUnlock p.val)))

/-- FREQ_CHECK (R486): `khz` is the frequency counted over the last 10 µs. -/
def execFreqCheck (i : Fin 24) (khz : BitVec 21) (s : State) : Host.Outcome State Fault Refusal :=
  .next (s.whenReady (serviceWrap (doFreqCheck i.val khz.toNat)))

/-- CLOCK_RECOVERED (R486). -/
def execClockRecovered (isPll : Bool) (n : Fin 24) (s : State) : Host.Outcome State Fault Refusal :=
  .next (s.whenReady (serviceWrap (doClockRecovered isPll n.val)))

/-- XING_REOPEN (R495). -/
def execXingReopen (x : Fin 96) (s : State) : Host.Outcome State Fault Refusal := .next (s.whenReady (doXingReopen x.val))

end Sys2Proof.Machine
end

