-- ==== Sys2Proof/Machine/Flash.lean ====
section
/-! DEFINITION. The QSPI flash (R618 to R620): its commands, their ends, and what an abandoned command leaves. -/

namespace Sys2Proof.Machine

/-! ## Contents -/

/-- The flash's density in KiB (Table 21-4). -/
def FlashSt.sizeKib (f : FlashSt) : Nat := ((f.sfdp.map Sfdp.sizeKib).getD 32768)

/-- Flash size in bytes (Table 21-4). -/
def FlashSt.size (f : FlashSt) : Nat := 1024 * f.sizeKib

/-- The opcode that reads the image: the fastest four-byte 1-4-4 or 1-1-4 read of the SFDP table, and 0x13 without a table (R76), or
where the table describes neither (assumption log 74). -/
def FlashSt.readOp (f : FlashSt) : Nat :=
  match f.sfdp with
  | some t => (t.read144.orElse (fun _ => t.read114)).getD 0x13
  | none => 0x13

/-- The opcode of a flash command, and 0 where the SFDP table lists none (R618). -/
def FlashSt.opcode (f : FlashSt) (o : FlashOp) : Nat :=
  match o, f.sfdp with
  | .read, _ => f.readOp
  | .program, some t => t.program
  | .erase4k, some t => t.erase4k
  | .erase64k, some t => t.erase64k.getD 0
  | .program, none => 0x12
  | .erase4k, none => 0x21
  | .erase64k, none => 0xDC

/-- A command leaves on the QSPI bus: a program or an erase follows Write Enable (R618). -/
def flashSend (o : FlashOp) (a n : Nat) (s : State) : State :=
  let f := s.glob.flash
  let s1 := if o = .read then s else s.emit (.qspi 0x06 0 0)
  s1.emit (.qspi (f.opcode o) a n)

/-- An address lies in an undefined span. -/
def FlashSt.isUndef (f : FlashSt) (a : Nat) : Bool := f.undef.any (fun u => decide (u.1 ≤ a ∧ a < u.1 + u.2))

/-- n flash bytes from address a; each byte of an undefined span is a free value (R620). -/
def flashRead (a n : Nat) (s : State) : List Byte × State :=
  let f := s.glob.flash
  let raw := Sparse.span 0xFF#8 f.bytes a n
  if f.undef.any (fun u => spanOverlap u.1 u.2 a n) then
    ((List.range n).zipWith (fun i b => if f.isUndef (a + i) then BitVec.ofNat 8 (Config.freeValue (s.freeCount + i)) else b) raw,
     { s with freeCount := s.freeCount + n })
  else (raw, s)

/-- A span less the n bytes from a. -/
def spanMinus (a n : Nat) (u : Nat × Nat) : List (Nat × Nat) :=
  [(u.1, min u.2 (a - u.1)), (max u.1 (a + n), u.1 + u.2 - max u.1 (a + n))].filter (fun e => e.2 != 0)

/-- Replace the flash. -/
def State.setFlash (s : State) (f : FlashSt) : State := { s with glob := { s.glob with flash := f } }

/-- The bytes a command changes: a page, a sector or a block (Table 21-5). -/
def FlashOp.bytes (o : FlashOp) : Nat :=
  match o with
  | .read => 0
  | .program => 256
  | .erase4k => 4096
  | .erase64k => 65536

/-- n bytes from a are erased. -/
def FlashSt.erased (f : FlashSt) (a n : Nat) : FlashSt :=
  { f with bytes := Sparse.clear f.bytes a n, undef := (f.undef.map (spanMinus a n)).flatten }

/-- n bytes from a are undefined until they are erased. -/
def FlashSt.lost (f : FlashSt) (a n : Nat) : FlashSt := if n = 0 then f else { f with undef := f.undef ++ [(a, n)] }

/-- A reset abandons the command that runs (R620). -/
def FlashSt.abandon (f : FlashSt) : FlashSt :=
  match f.running with
  | none => f
  | some (o, a) => { f.lost a o.bytes with running := none }

/-- The page buffer as bytes. -/
def State.pageBuffer (s : State) : List Byte := ((List.range 64).map (fun n => leBytes 4 (s.rg .GLOBAL_FLASH_DATA n).toNat)).flatten

/-! ## Commands -/

/-- RESULT (Table 21-4). -/
def flashResult (r : Nat) (s : State) : State := s.setFd F.GLOBAL_FLASH_STATUS_RESULT r

/-- ADDR fits Table 21-5. -/
def FlashSt.addrOk (f : FlashSt) (o : FlashOp) (a : Nat) : Bool :=
  match o with
  | .read => decide (a + 256 ≤ f.size)
  | .program => a % 256 == 0 && decide (a < f.size)
  | .erase4k => a % 4096 == 0 && decide (a < f.size)
  | .erase64k => a % 65536 == 0 && decide (a < f.size)

/-- A flash command (R618, R619). -/
def doFlash (o : FlashOp) (s : State) : State :=
  let f := s.glob.flash
  let a := s.fd F.GLOBAL_FLASH_ADDR_ADDR
  if f.running.isSome then (s.raise .GLB_FLASH_BUSY).mark (.flashAsked o)
  else if o != .read && !s.fb F.GLOBAL_FLASH_CFG_WRITE_EN then (flashResult 3 s).raise .GLB_FLASH_PROTECT
  else if !f.addrOk o a then (flashResult 4 s).raise .GLB_FLASH_FAIL
  else if o == .erase64k && f.opcode o == 0 then (flashResult 6 s).raise .GLB_FLASH_FAIL
  else (flashSend o a (if o = .read ∨ o = .program then 256 else 0) s).setFlash { f with running := some (o, a) }

/-- GLOBAL_FLASH_CMD by its CMD field; other values are ignored. -/
def doFlashCmd (c : Nat) (s : State) : State :=
  match c with
  | 1 => doFlash .read s
  | 2 => doFlash .program s
  | 3 => doFlash .erase4k s
  | 4 => doFlash .erase64k s
  | _ => s

/-- How a running command ends: done, the flash has timed out, or the read-back of a page differs. -/
def flashEnd (timeout differs : Bool) (s : State) : State :=
  let f := s.glob.flash
  match f.running with
  | none => s
  | some (o, a) =>
    let f0 := { f with running := none }
    if timeout then ((flashResult 2 s).setFlash (f0.lost a o.bytes)).raise .GLB_FLASH_FAIL
    else match o with
      | .read =>
        let r := flashRead a 256 (s.setFlash f0)
        flashResult 1 ((List.range 64).foldl (fun s n => s.setRg .GLOBAL_FLASH_DATA (BitVec.ofNat 32 (leAt r.1 (4 * n) 4)) n) r.2)
      | .program =>
        if differs then ((flashResult 5 s).setFlash (f0.lost a 256)).raise .GLB_FLASH_FAIL
        else (flashResult 1 s).setFlash { f0 with bytes := Sparse.setRange 0xFF#8 f.bytes a s.pageBuffer }
      | .erase4k => (flashResult 1 s).setFlash (f0.erased a 4096)
      | .erase64k => (flashResult 1 s).setFlash (f0.erased a 65536)

/-- FLASH_DONE: a running command ends, before a command of its cycle, which is then taken (Table 21-7). -/
def doFlashDone (timeout differs : Bool) (s : State) : State :=
  let s1 := flashEnd timeout differs s
  match s.cyc.filterMap (fun e => match e with
    | .flashAsked o => some o
    | _ => none) with
  | [] => s1
  | o :: _ => if s.glob.flash.running.isSome then doFlash o s1 else s1

/-! ## Meanings -/

/-- READ (R618). -/
def execRead (s : State) : Host.Outcome State Fault Refusal := .next (s.hostCmd .GLOBAL_FLASH_CMD 1 (doFlash .read))

/-- PROGRAM (R618). -/
def execProgram (s : State) : Host.Outcome State Fault Refusal := .next (s.hostCmd .GLOBAL_FLASH_CMD 2 (doFlash .program))

/-- ERASE_4K (R618). -/
def execErase4k (s : State) : Host.Outcome State Fault Refusal := .next (s.hostCmd .GLOBAL_FLASH_CMD 3 (doFlash .erase4k))

/-- ERASE_64K (R618). -/
def execErase64k (s : State) : Host.Outcome State Fault Refusal := .next (s.hostCmd .GLOBAL_FLASH_CMD 4 (doFlash .erase64k))

/-- FLASH_DONE (R619): `timeout` and `differs` are what the flash shows. -/
def execFlashDone (timeout differs : Bool) (s : State) : Host.Outcome State Fault Refusal :=
  .next (doFlashDone timeout differs s)

end Sys2Proof.Machine
end

