-- ==== Sys2Proof/Machine/Signature.lean ====
section
/-! DEFINITION. SHA-384 (FIPS 180-4) and ECDSA P-384 verification (FIPS 186-5), which R72 names for an image's signature. -/

namespace Sys2Proof.Machine

/-! ## SHA-384 -/

/-- The largest integer from r on, with only bits below b added, whose k-th power is at most n. -/
def irootFrom (k n : Nat) (b r : Nat) : Nat :=
  match b with
  | 0 => r
  | b + 1 => irootFrom k n b (if (r + 2 ^ b) ^ k ≤ n then r + 2 ^ b else r)

/-- The first 80 primes. -/
def shaPrimes : List Nat := ((List.range 410).filter (fun n => decide (2 ≤ n) && (List.range' 2 (min 20 (n - 2))).all (fun d => d ≥ n || n % d != 0)))

/-- The round constants: 64 bits of the fractional parts of the primes' cube roots. -/
def shaK : List (BitVec 64) := shaPrimes.map (fun p => BitVec.ofNat 64 (irootFrom 3 (p * 2 ^ 192) 68 0))

/-- The initial hash value of SHA-384: 64 bits of the fractional parts of the 9th to 16th primes' square roots. -/
def shaInit : List (BitVec 64) :=
  ((shaPrimes.drop 8).take 8).map (fun p => BitVec.ofNat 64 (irootFrom 2 (p * 2 ^ 128) 68 0))

/-- The padding of a message of n bytes. -/
def shaPad (n : Nat) : List Byte := 0x80#8 :: (List.replicate ((239 - n % 128) % 128) 0 ++ beBytes 16 (8 * n))

/-- Sixteen message words of a block, extended by n words. -/
def shaSchedule (n : Nat) (w : List (BitVec 64)) : List (BitVec 64) :=
  match n with
  | 0 => w
  | n + 1 =>
    let at_ (k : Nat) : BitVec 64 := w.getD (w.length - k) 0
    let a := at_ 15; let b := at_ 2
    let s0 := a.rotateRight 1 ^^^ a.rotateRight 8 ^^^ (a >>> 7)
    let s1 := b.rotateRight 19 ^^^ b.rotateRight 61 ^^^ (b >>> 6)
    shaSchedule n (w ++ [at_ 16 + s0 + at_ 7 + s1])

/-- The eight working variables. -/
structure ShaVars where
  a : BitVec 64
  b : BitVec 64
  c : BitVec 64
  d : BitVec 64
  e : BitVec 64
  f : BitVec 64
  g : BitVec 64
  h : BitVec 64
deriving DecidableEq, Repr

/-- One round with K + W. -/
def shaRound (v : ShaVars) (kw : BitVec 64 × BitVec 64) : ShaVars :=
  let s1 := v.e.rotateRight 14 ^^^ v.e.rotateRight 18 ^^^ v.e.rotateRight 41
  let ch := (v.e &&& v.f) ^^^ (~~~v.e &&& v.g)
  let t1 := v.h + s1 + ch + kw.1 + kw.2
  let s0 := v.a.rotateRight 28 ^^^ v.a.rotateRight 34 ^^^ v.a.rotateRight 39
  let mj := (v.a &&& v.b) ^^^ (v.a &&& v.c) ^^^ (v.b &&& v.c)
  { a := t1 + s0 + mj, b := v.a, c := v.b, d := v.c, e := v.d + t1, f := v.e, g := v.f, h := v.g }

/-- One block of 128 bytes. -/
def shaBlock (v : ShaVars) (blk : List Byte) : ShaVars :=
  let w := (chunksOf 8 16 blk).map (fun b => BitVec.ofNat 64 (beVal b))
  let r := (shaK.zip (shaSchedule 64 w)).foldl shaRound v
  ⟨v.a + r.a, v.b + r.b, v.c + r.c, v.d + r.d, v.e + r.e, v.f + r.f, v.g + r.g, v.h + r.h⟩

/-- SHA-384 of a message, as a number. -/
def sha384 (m : List Byte) : Nat :=
  let i (k : Nat) : BitVec 64 := shaInit.getD k 0
  let l := m ++ shaPad m.length
  let v := (chunksOf 128 l.length l).foldl shaBlock ⟨i 0, i 1, i 2, i 3, i 4, i 5, i 6, i 7⟩
  [v.a, v.b, v.c, v.d, v.e, v.f].foldl (fun n x => n * 2 ^ 64 + x.toNat) 0

/-! ## P-384 -/

/-- The field prime. -/
def p384P : Nat := 2 ^ 384 - 2 ^ 128 - 2 ^ 96 + 2 ^ 32 - 1
/-- The group order. -/
def p384N : Nat := 0xffffffffffffffffffffffffffffffffffffffffffffffffc7634d81f4372ddf581a0db248b0a77aecec196accc52973
/-- The coefficient b. -/
def p384B : Nat := 0xb3312fa7e23ee7e4988e056be3f82d19181d9c6efe8141120314088f5013875ac656398d8a2ed19d2a85c8edd3ec2aef
/-- The base point. -/
def p384G : Nat × Nat :=
  (0xaa87ca22be8b05378eb1c71ef320ad746e1d3b628ba79b9859f741e082542a385502f25dbf55296c3a545e3872760ab7,
   0x3617de4a96262c6f5d9e98bf9292dc29f8f41dbd289a147ce9da3113b5f0b8c00a60b1ce1d7e819d7a431d7c90ea0e5f)

/-- b^e modulo m over the low n bits of e. -/
def modPow (m n b e : Nat) : Nat :=
  match n with
  | 0 => 1
  | n + 1 =>
    let r := modPow m n (b * b % m) (e / 2)
    if e % 2 = 1 then r * b % m else r

/-- The inverse modulo a prime of at most 384 bits. -/
def modInv (m x : Nat) : Nat := modPow m 384 (x % m) (m - 2)

/-- Sum of two points of the curve; none is the point at infinity. -/
def p384Add (a b : Option (Nat × Nat)) : Option (Nat × Nat) :=
  match a, b with
  | none, q => q
  | q, none => q
  | some (x1, y1), some (x2, y2) =>
    let p := p384P
    if x1 = x2 ∧ (y1 + y2) % p = 0 then none
    else
      let l := if x1 = x2 then (3 * x1 * x1 + (p - 3)) * modInv p (2 * y1) % p
        else (y2 + p - y1) * modInv p (x2 + p - x1) % p
      let x3 := (l * l + 2 * p - x1 - x2) % p
      some (x3, (l * (x1 + p - x3) + p - y1) % p)

/-- k times a point over the low n bits of k. -/
def p384Mul (n k : Nat) (q : Option (Nat × Nat)) : Option (Nat × Nat) :=
  match n with
  | 0 => none
  | n + 1 =>
    let r := p384Mul n (k / 2) (p384Add q q)
    if k % 2 = 1 then p384Add r q else r

/-- (x, y) is a point of the curve. -/
def p384On (x y : Nat) : Bool :=
  decide (x < p384P) && decide (y < p384P) && decide ((y * y) % p384P = (x * x * x + (p384P - 3) * x + p384B) % p384P)

/-- ECDSA verification of digest e under key (x, y) (FIPS 186-5). -/
def ecdsaOk (x y e r sg : Nat) : Bool :=
  p384On x y && decide (0 < r ∧ r < p384N ∧ 0 < sg ∧ sg < p384N) &&
  (let w := modInv p384N sg
   match p384Add (p384Mul 384 (e * w % p384N) (some p384G)) (p384Mul 384 (r * w % p384N) (some (x, y))) with
   | some q => decide (q.1 % p384N = r)
   | none => false)

/-- The image signature of a SIGNATURE payload over the message before its section (R71, R72). -/
def signatureOk (keyDigest : Option Nat) (payload msg : List Byte) : Bool :=
  let key := slice payload 4 97
  byteAt key 0 == 4 && keyDigest == some (sha384 key) &&
  ecdsaOk (beAt key 1 48) (beAt key 49 48) (sha384 msg) (beAt payload 104 48) (beAt payload 152 48)

end Sys2Proof.Machine
end

