-- ==== Sys2Proof/Machine/Image.lean ====
section
/-! DEFINITION. The pricking image (Chapter 2): its layout, the checks of a load in their order, and the structure it fixes. -/

namespace Sys2Proof.Machine

/-- A section of an image: TYPE and payload. -/
abbrev Section := Nat × List Byte

/-- A verdict: the section index and the fault (R80). -/
abbrev Verdict := Nat × FaultCode

/-- Every byte of a span is zero. -/
def zeros (l : List Byte) (o n : Nat) : Bool := (slice l o n).all (· == 0)

/-! ## The header (step 1 of Table 2-14) -/

/-- IMAGE_SIZE. -/
def imgSize (l : List Byte) : Nat := leAt l 8 4
/-- SECTION_COUNT. -/
def imgCount (l : List Byte) : Nat := leAt l 0x0C 2
/-- IMAGE_ID. -/
def imgId (l : List Byte) : Nat := leAt l 0x18 8
/-- EPOCH. -/
def imgEpoch (l : List Byte) : Nat := byteAt l 0x20

/-- A header check fails (R49, R50, R74). -/
def headerFault (epochMin : Nat) (l : List Byte) : Option FaultCode :=
  let ok := decide (leAt l 0 4 = 0x4B505745) && decide (leAt l 0x3C 4 = crc crcC32C (l.take 0x3C)) && leAt l 4 2 == 1 &&
    leAt l 6 2 == 64 && leAt l 0x10 4 == 0x6416 && decide (leAt l 0x14 2 ≤ 0xA1) && imgSize l % 16 == 0 &&
    decide (64 ≤ imgSize l ∧ imgSize l ≤ 16777216) && decide (1 ≤ imgCount l ∧ imgCount l ≤ 64) &&
    decide (leAt l 0x0E 2 < 2) && zeros l 0x16 2 && zeros l 0x21 27 && decide (imgEpoch l ≤ 64)
  if !ok then some .PRK_HEADER_BAD
  else if imgEpoch l < epochMin then some .PRK_ROLLBACK
  else none

/-! ## Sections (step 3) -/

/-- An information section's type (Table 2-3). -/
def infoType (t : Nat) : Bool := decide (0x4000 ≤ t ∧ t ≤ 0x7EFE)

/-- LENGTH fits Table 2-3, given the payload's first byte. -/
def lengthOk (t len : Nat) (payload : List Byte) : Bool :=
  let c := byteAt payload 0
  match t with
  | 0x0001 => len == 4
  | 0x0002 => len == 8
  | 0x0003 => len == 4
  | 0x0004 => len == 65536
  | 0x0005 => len == 4 + 8 * c
  | 0x0006 => len == 8 + 16 * c
  | 0x0007 => len == 144
  | 0x0008 => len == 40
  | 0x0009 => len == 1040
  | 0x000A => len == 16472
  | 0x000B => len == 32772
  | 0x000C => len == 4 + 8 * leAt payload 0 4
  | 0x000D => len == 64
  | 0x000E => len == 40
  | 0x7FFF => len == 200
  | _ => infoType t && decide (len ≤ 65536)

/-- A section type of Table 2-3. -/
def knownType (t : Nat) : Bool := decide (1 ≤ t ∧ t ≤ 0x000E) || infoType t || t == 0x7FFF

/-- What the sections received so far show. -/
inductive ScanResult where
  | more (index : Nat)
  | fail (index : Nat) (c : FaultCode)
  | done (l : List Section)
deriving DecidableEq, Repr

/-- The section walk over the bytes received (R51 to R54, R81): `n` sections remain, number `i` stands at `off`, `prev` is the type
before it. -/
def scanSections (img : List Byte) (n i off prev : Nat) (acc : List Section) : ScanResult :=
  match n with
  | 0 =>
    let signed := bit (leAt img 0x0E 2) 0 == 1
    if off ≠ imgSize img ∨ signed ≠ (prev == 0x7FFF) then .fail (i - 1) .PRK_SECTION_FORMAT else .done acc
  | n + 1 =>
    let h := slice img off 16
    if h.length < 16 then (if off + 16 > imgSize img then .fail i .PRK_SECTION_FORMAT else .more i)
    else
      let t := leAt h 0 2
      let len := leAt h 4 4
      let next := off + (16 + len + 15) / 16 * 16
      if !knownType t || t ≤ prev || byteAt h 2 != 1 || byteAt h 3 != 0 || leAt h 8 4 != 0 || decide (next > imgSize img) then
        .fail i .PRK_SECTION_FORMAT
      else if img.length < next then .more i
      else
        let p := slice img (off + 16) len
        if !lengthOk t len p || !zeros img (off + 16 + len) (next - off - 16 - len) then .fail i .PRK_SECTION_FORMAT
        else if leAt h 0x0C 4 ≠ crc crcC32C (h.take 12 ++ p) then .fail i .PRK_SECTION_CRC
        else scanSections img n (i + 1) next t (acc ++ [(t, p)])

/-- The state of a fetch (steps 1 to 3): the header's verdict first. `avail` is how many bytes the source offers (R82). -/
def scanImage (epochMin avail : Nat) (img : List Byte) : ScanResult :=
  if img.length < 64 then (if avail < 64 then .fail 0xFF .PRK_FETCH else .more 0xFF)
  else match headerFault epochMin img with
    | some c => .fail 0xFF c
    | none =>
      match scanSections img (imgCount img) 0 64 0 [] with
      | .more i => if avail < imgSize img then .fail i .PRK_FETCH else .more i
      | r => r

/-! ## Presence (R83) -/

/-- The payload of a section. -/
def payloadOf (l : List Section) (t : Nat) : Option (List Byte) := (l.find? (fun e => e.1 == t)).map (·.2)

/-- The index of a section, or the index it would have had. -/
def indexOf (l : List Section) (t : Nat) : Nat := (l.filter (fun e => decide (e.1 < t))).length

/-- Table 2-3: types required, and types rejected, by a personality. -/
def requiredTypes (native : Bool) : List Nat :=
  if native then [1, 2, 3, 5, 6, 7, 8, 9, 13] else [1, 2, 5, 6, 7, 8, 9, 13]
def rejectedTypes (native : Bool) : List Nat := if native then [] else [3, 4, 10, 11, 14]

/-- Presence against the personality (R83). -/
def presenceFault (l : List Section) : Option Verdict :=
  match payloadOf l 1 with
  | none => some (0, .PRK_SECTION_MISSING)
  | some p =>
    let mode := byteAt p 0
    if mode > 4 then some (indexOf l 1, .PRK_SECTION_VALUE)
    else
      let native := mode == 0
      ((List.range' 1 14).filterMap (fun t =>
        let has := (payloadOf l t).isSome
        if (requiredTypes native).contains t && !has then some (indexOf l t, FaultCode.PRK_SECTION_MISSING)
        else if (rejectedTypes native).contains t && has then some (indexOf l t, FaultCode.PRK_SECTION_VALUE)
        else none)).head?

/-! ## Signature (step 4) -/

/-- Bytes of the image up to its signature section header. -/
def signedPart (img : List Byte) (l : List Section) : List Byte :=
  match payloadOf l 0x7FFF with
  | some _ => img.take (imgSize img - 224)
  | none => img

/-- R72, R73: a signature that is present is verified; where the fuse requires one, its absence rejects. The index recorded for an
absent section is the number of sections, the model's choice (assumption log 74). -/
def signatureFault (s : State) (img : List Byte) (l : List Section) : Option Verdict :=
  match payloadOf l 0x7FFF with
  | some p => if signatureOk s.glob.fuseKeyDigest p (signedPart img l) then none
      else some (indexOf l 0x7FFF, .PRK_SIGNATURE)
  | none => if s.glob.fuseSigRequired then some (l.length, .PRK_SIGNATURE) else none

/-! ## Payloads (R55 to R70) -/

/-- TOPOLOGY is in range (R56). -/
def topologyOk (p : List Byte) : Bool :=
  let role := byteAt p 0; let d := byteAt p 1; let n := byteAt p 2
  zeros p 4 4 && (match role with
    | 0 => n == 1 && d == 0
    | 1 => decide (16 ≤ n ∧ n ≤ 64) && d == 0
    | 2 => decide (16 ≤ n ∧ n ≤ 64) && decide (1 ≤ d ∧ d < n)
    | _ => false)

/-- REMAP names every (LANE, SLOT) pair once (R58). -/
def remapOk (p : List Byte) : Bool :=
  let e := (chunksOf 4 16384 p).map leVal
  e.all (fun v => decide (v < 16384)) && decide (e.foldl (fun a v => Nat.lor a (2 ^ v)) 0 = 2 ^ 16384 - 1)

/-- The pipelines of a PIPELINES payload. -/
def readPipes (p : List Byte) : List PipeCfg :=
  (List.range (byteAt p 0)).map (fun k => let o := 4 + 8 * k
    ⟨byteAt p o, byteAt p (o + 1), leAt p (o + 2) 2, byteAt p (o + 4)⟩)

/-- PIPELINES is in range (R59). -/
def pipesOk (p : List Byte) : Bool :=
  decide (1 ≤ byteAt p 0 ∧ byteAt p 0 ≤ 4) && zeros p 1 3 &&
  (List.range (byteAt p 0)).all (fun k => decide (byteAt p (4 + 8 * k) < 16) && zeros p (4 + 8 * k + 5) 3)

/-- The partitions of a PARTITION payload: BASE and SIZE. -/
def readParts (p : List Byte) : List (Nat × Nat) :=
  (List.range (byteAt p 0)).map (fun k => (leAt p (8 + 16 * k) 8, leAt p (16 + 16 * k) 8))

/-- PARTITION is in range (R61). -/
def partsOk (p : List Byte) : Bool :=
  let l := readParts p
  let g := 0x40000000
  decide (1 ≤ byteAt p 0 ∧ byteAt p 0 ≤ 4) && zeros p 1 7 &&
  l.all (fun e => e.1 % g == 0 && e.2 % g == 0 && decide (e.1 < 0xC00000000) && decide (e.1 + e.2 ≤ 0xC00000000)) &&
  (List.range l.length).all (fun i => (List.range i).all (fun j =>
    !(spanOverlap (l.getD i (0, 0)).1 (l.getD i (0, 0)).2 (l.getD j (0, 0)).1 (l.getD j (0, 0)).2)))

/-- The PLLs and islands of a CLOCK payload. -/
def readPlls (p : List Byte) : List PllCfg :=
  (List.range 6).map (fun k => ⟨byteAt p (8 * k + 1), leAt p (8 * k + 2) 2, leAt p (8 * k + 4) 2⟩)
def readIslands (p : List Byte) : List IslandCfg :=
  (List.range 24).map (fun k => ⟨byteAt p (48 + 4 * k + 1), byteAt p (48 + 4 * k + 2)⟩)

/-- The highest plan frequency of an island in kHz (Table 14-1); the same as the lowest where the frequency is exact. -/
def islandTop (i dataRate : Nat) : Rat :=
  match i with
  | 2 | 7 | 9 | 23 => 1000000
  | 3 | 4 | 5 | 6 => 1250000
  | 8 | 10 => 1280000
  | _ => islandBase i dataRate

/-- Table 14-1: islands on the 156.25 MHz reference. -/
def island156 (i : Nat) : Bool := decide (11 ≤ i ∧ i ≤ 20)

/-- A PLL entry is valid (R484). -/
def pllOk (c : PllCfg) : Bool :=
  let ref : Rat := if c.refsel = 0 then 25000 else 156250
  decide (c.refsel ≤ 1) && decide (1 ≤ c.div ∧ c.div ≤ 16) && decide (8 ≤ c.mult ∧ c.mult ≤ 1023) &&
  decide (5000 * (c.div : Rat) ≤ ref) && decide (ref ≤ 160000 * (c.div : Rat)) &&
  decide (1500000 ≤ c.outKhz) && decide (c.outKhz ≤ 3200000)

/-- An island entry is valid (R482, R483, R550). -/
def islandOk (plls : List PllCfg) (dataRate i : Nat) (c : IslandCfg) : Bool :=
  if i = 0 then c.pll == 0xFF && c.postDiv == 1
  else match plls[c.pll]? with
    | none => false
    | some q =>
      let f := q.outKhz / ((max 1 c.postDiv : Nat) : Rat)
      decide (1 ≤ c.postDiv) && (q.refsel == (if island156 i then 1 else 0)) && decide (islandBase i dataRate ≤ f) &&
      decide (f ≤ islandTop i dataRate) && (i != 1 || (c.pll == 0 && c.postDiv == 2))

/-- CLOCK is in range (R62, R482 to R484, R550). -/
def clockOk (dataRate : Nat) (p : List Byte) : Bool :=
  let plls := readPlls p
  (List.range 6).all (fun k => byteAt p (8 * k) == k && zeros p (8 * k + 6) 2) && plls.all pllOk &&
  plls.head? == some ⟨0, 80, 1⟩ &&
  (List.range 24).all (fun k => byteAt p (48 + 4 * k) == k && byteAt p (48 + 4 * k + 3) == 0) &&
  (List.range 24).all (fun i => match (readIslands p)[i]? with
    | some c => islandOk plls dataRate i c
    | none => false)

/-- The operating points of a POWER payload: MHz and mV. -/
def readOps (p : List Byte) : List (Nat × Nat) :=
  (List.range 8).map (fun k => (leAt p (8 + 4 * k) 2, leAt p (10 + 4 * k) 2))

/-- Consecutive elements stand in a relation. -/
def chainB (r : α → α → Bool) : List α → Bool
  | a :: b :: t => r a b && chainB r (b :: t)
  | _ => true

/-- POWER is in range (R63). -/
def powerOk (p : List Byte) : Bool :=
  decide (500 ≤ leAt p 0 2 ∧ leAt p 0 2 ≤ 1500) && zeros p 2 2 && (slice p 4 4).all (fun b => decide (b.toNat ≤ 3)) &&
  chainB (fun a b => decide (a.1 < b.1 ∧ a.2 ≤ b.2)) (readOps p)

/-- DATA_RATE of a DRAM_DELAYS payload. -/
def readRate (p : List Byte) : Nat := leAt p 4 4

/-- DRAM_DELAYS is in range (R64). -/
def delaysOk (p : List Byte) : Bool :=
  decide (3200 ≤ readRate p ∧ readRate p ≤ 6400) && zeros p 8 8 && (List.range 64).all (fun k => zeros p (16 + 16 * k + 12) 4)

/-- TRIMS is in range (R66). -/
def trimsOk (p : List Byte) : Bool :=
  (List.range 18).all (fun n => (slice p (16384 + 4 * n) 3).all (fun b => decide (b.toNat ≤ 31)) && zeros p (16384 + 4 * n + 3) 1) &&
  (List.range 4).all (fun n => decide (leAt p (16456 + 4 * n) 2 ≤ 511) && zeros p (16456 + 4 * n + 2) 2)

/-- DEFECT is in range (R67). -/
def defectOk (p : List Byte) : Bool :=
  decide (byteAt p 0 ≤ 3) && zeros p 1 3 && (chunksOf 2 16384 (p.drop 4)).all (fun b => entryValid (leVal b))

/-- The entries of a LOCKS payload: offset and mask. -/
def readLocks (p : List Byte) : List (Nat × Word) :=
  (List.range (leAt p 0 4)).map (fun k => (leAt p (4 + 8 * k) 4, BitVec.ofNat 32 (leAt p (8 + 8 * k) 4)))

/-- Every set bit of a lock entry lies within an RWL field of its register (R68, R612). -/
def lockOk (e : Nat × Word) : Bool :=
  decide (e.2 = 0) || match Reg.at? e.1 with
  | some (r, _) => e.1 % 4 == 0 && r.lockable && decide (e.2 &&& ~~~r.rwMask = 0)
  | none => false

/-- LOCKS is in range. -/
def locksOk (p : List Byte) : Bool := decide (leAt p 0 4 ≤ 4096) && (readLocks p).all lockOk

/-- The addresses of a MAC payload, first byte in transmission order most significant. -/
def readMacs (p : List Byte) : List Nat := (List.range 8).map (fun k => beAt p (8 * k) 6)

/-- MAC is in range (R69). -/
def macOk (p : List Byte) : Bool :=
  (List.range 8).all (fun k => beAt p (8 * k) 6 != 0 && byteAt p (8 * k) % 2 == 0 && zeros p (8 * k + 6) 2)

/-- The metrology ports of a PORTS payload. -/
def readPorts (p : List Byte) : List MetPort :=
  (List.range 4).map (fun n => ⟨byteAt p (8 * n) == 1, byteAt p (8 * n + 1), leAt p (8 * n + 2) 2, leAt p (8 * n + 4) 2,
    leAt p (8 * n + 6) 2⟩)

/-- PORTS is in range (Table 2-12). -/
def portsOk (p : List Byte) : Bool :=
  (List.range 4).all (fun n => decide (byteAt p (8 * n) ≤ 1) && decide (byteAt p (8 * n + 1) ≤ (if n = 3 then 1 else 0)) &&
    decide (100 ≤ leAt p (8 * n + 2) 2 ∧ leAt p (8 * n + 2) 2 ≤ 800) && decide (leAt p (8 * n + 4) 2 ≤ 50000) &&
    decide (10 ≤ leAt p (8 * n + 6) 2 ∧ leAt p (8 * n + 6) 2 ≤ 5000)) &&
  decide (10000 ≤ leAt p 0x20 4 ∧ leAt p 0x20 4 ≤ 1000000) && zeros p 0x24 4

/-- The range checks of one section (step 5): its fault, if any. -/
def sectionFault (serial rate : Nat) (e : Section) : Option FaultCode :=
  let p := e.2
  let val (ok : Bool) : Option FaultCode := if ok then none else some .PRK_SECTION_VALUE
  match e.1 with
  | 0x0001 => val (zeros p 2 2 && decide (byteAt p 0 ≤ 4) && decide (byteAt p 1 < 2 ^ byteAt p 0))
  | 0x0002 => val (topologyOk p)
  | 0x0003 => val (decide (byteAt p 0 ≤ 2) && decide (byteAt p 1 ≤ 2) && decide (byteAt p 2 ≤ 1) && zeros p 3 1)
  | 0x0004 => val (remapOk p)
  | 0x0005 => val (pipesOk p)
  | 0x0006 => val (partsOk p)
  | 0x0007 => val (clockOk rate p)
  | 0x0008 => val (powerOk p)
  | 0x0009 => if leAt p 0 4 ≠ serial then some .PRK_PACKAGE_MISMATCH else val (delaysOk p)
  | 0x000A => val (trimsOk p)
  | 0x000B => val (defectOk p)
  | 0x000C => val (locksOk p)
  | 0x000D => val (macOk p)
  | 0x000E => val (portsOk p)
  | 0x7FFF => val (byteAt p 0 == 1 && zeros p 1 3 && zeros p 101 3)
  | _ => none

/-- The first section, in image order, that fails its range checks. The order of these checks is the model's choice (assumption
log 74). -/
def rangeFault (serial : Nat) (l : List Section) : Option Verdict :=
  let rate := readRate ((payloadOf l 9).getD [])
  ((List.range l.length).filterMap (fun i => (l[i]?).bind (fun e => (sectionFault serial rate e).map (fun c => (i, c))))).head?

/-! ## Consistency between sections (R60, R75, Table 2-13) -/

/-- Masks of different pipelines are disjoint. -/
def disjointMasks (l : List Nat) : Bool :=
  (List.range l.length).all (fun i => (List.range i).all (fun j => Nat.land (l.getD i 0) (l.getD j 0) == 0))

/-- Personality and pipelines (R60). -/
def pipesFit (mode : Nat) (l : List PipeCfg) : Bool :=
  if mode = 0 then l == [⟨0xF, 0xFF, 0xFFFF, (l.headD ⟨0, 0, 0, 0⟩).partition⟩]
  else l.length == mode && (List.range mode).all (fun j => match l[j]? with
      | some c => c.lanes == 15 * 2 ^ (4 * j) && c.corr == 0 && c.pillows != 0
      | none => false) && disjointMasks (l.map (·.pillows))

/-- Pipelines and partitions. -/
def partsFit (l : List PipeCfg) (n : Nat) : Bool :=
  l.all (fun c => decide (c.partition < n)) && decide ((l.map (·.partition)).Nodup)

/-- Geometry and remap: the lane of every beam is that of its rows. -/
def remapFits (p : List Byte) : Bool :=
  (List.range 16384).all (fun b => bits (leAt p (4 * b) 4) 13 10 == b / 1024)

/-- Clock and power: the highest operating point's frequency against the pillows' plan frequencies, in kHz. -/
def powerFits (plls : List PllCfg) (islands : List IslandCfg) (pipes : List PipeCfg) (ops : List (Nat × Nat)) : Bool :=
  let f (i : Nat) : Rat := match islands[3 + i]? with
    | some e => (match plls[e.pll]? with
      | some q => q.outKhz / ((max 1 e.postDiv : Nat) : Rat)
      | none => 0)
    | none => 0
  (List.range 4).any (fun i => pipes.any (fun c => bit c.pillows i == 1) &&
    decide ((1000 * maxN (ops.map (·.1)) : Nat) ≤ f i))

/-- The cross-section checks of Table 2-13. -/
def crossOk (l : List Section) : Bool :=
  let g (t : Nat) : List Byte := (payloadOf l t).getD []
  let mode := byteAt (g 1) 0
  let pipes := readPipes (g 5)
  (mode == 0 || byteAt (g 2) 0 == 0) && pipesFit mode pipes && partsFit pipes (byteAt (g 6) 0) &&
  ((payloadOf l 4).isNone || remapFits (g 4)) &&
  ((readLocks (g 12)).all (fun e => e.1 / 0x10000 != 1)) &&
  powerFits (readPlls (g 7)) (readIslands (g 7)) pipes (readOps (g 8))

/-- Steps 3 (presence) to 5 over a complete image: its verdict. Which section a failed cross-section check names, the manual
leaves open: a free value. -/
def verifyFault (s : State) (img : List Byte) (l : List Section) : Option Verdict :=
  match presenceFault l with
  | some v => some v
  | none => match signatureFault s img l with
    | some v => some v
    | none => match rangeFault s.glob.fuseSerial l with
      | some v => some v
      | none => if crossOk l then none else some ((s.free 8).1, .PRK_SECTION_VALUE)

/-! ## The structure -/

/-- What the sections of a verified image fix (R54 to R70); absent sections take the defaults of Table 2-3. -/
def readStructure (l : List Section) : Structure :=
  let g (t : Nat) : List Byte := (payloadOf l t).getD []
  let geo := (payloadOf l 3).getD [1#8, 1#8, 0#8]
  { safe := false, mode := byteAt (g 1) 0, tlIdentity := byteAt (g 1) 1
    role := if byteAt (g 2) 0 = 1 then .lead else if byteAt (g 2) 0 = 2 then .member else .solo
    devIndex := byteAt (g 2) 1, columnSize := byteAt (g 2) 2, columnId := byteAt (g 2) 3
    rowsSel := byteAt geo 0, pitchSel := byteAt geo 1, slant := byteAt geo 2 == 1
    pipes := readPipes (g 5), parts := readParts (g 6), plls := readPlls (g 7), islands := readIslands (g 7)
    cap := leAt (g 8) 0 2, prio := (slice (g 8) 4 4).map BitVec.toNat, ops := readOps (g 8)
    dataRate := readRate (g 9), delays := (g 9).drop 16, macs := readMacs (g 13)
    met := match payloadOf l 14 with
      | some p => readPorts p
      | none => MetPort.defaults
    spFrameHz := match payloadOf l 14 with
      | some p => leAt p 0x20 4
      | none => 100000
    checkMethods := match payloadOf l 11 with
      | some p => byteAt p 0
      | none => 3
    locks := readLocks ((payloadOf l 12).getD [0#8, 0#8, 0#8, 0#8]) }

/-- The beam table of n-byte entries in a payload from offset o, listing what differs from d. -/
def readTable (p : List Byte) (o n d : Nat) : Sparse Nat :=
  (List.range 16384).foldr (fun b t => let v := leAt p (o + n * b) n; if v = d then t else (b, v) :: t) []

/-- Trims of an applied image by beam (R66). -/
def imageTrims (l : List Section) : Sparse Nat :=
  match payloadOf l 10 with
  | some p => readTable p 0 1 0
  | none => []

/-- Defect map of an applied image (R67). -/
def imageDefects (l : List Section) : Sparse Nat :=
  match payloadOf l 11 with
  | some p => readTable p 4 2 goodEntry
  | none => []

/-- Remap table of an applied image (R58): every beam is listed where a REMAP section is present. -/
def imageRemap (l : List Section) : Sparse Nat :=
  match payloadOf l 4 with
  | some p => (List.range 16384).map (fun b => (b, leAt p (4 * b) 4))
  | none => []

/-- Metrology phase of channel n (R66). -/
def imagePhase (l : List Section) (n : Nat) : Nat :=
  match payloadOf l 10 with
  | some p => leAt p (16456 + 4 * n) 2
  | none => 0

end Sys2Proof.Machine
end

