-- ==== Sys2Proof/Machine/Tl.lean ====
section
/-! DEFINITION. TL-40 mode (Chapter 19): the command FIFO, stripe control, beats and frames, and the window commands. -/

namespace Sys2Proof.Machine

/-! ## The personality -/

/-- Personality j exists (R55). -/
def State.hasPers (s : State) (j : Nat) : Bool := !s.native && decide (j < s.str.mode)

/-- An event of personality j. -/
def State.whenPers (s : State) (j : Nat) (f : State → State) : State :=
  s.whenReady (fun s => if s.hasPers j then f s else s)

/-- The key under which the device holds an access to a window in DORMANT (R505), above those of BAR0 and BAR2. -/
def winKey (j off : Nat) : Nat := 2 ^ 26 + 2 ^ 16 * j + off

/-- An access to the window of personality j: nothing before READY (R556), held in DORMANT and a PCIE wake (R499, R505). -/
def State.winAccess (s : State) (j off : Nat) (v : Word) (f : State → State) : State :=
  if !s.glob.ready || !s.hasPers j then s
  else if s.power.state == .dormant then
    { s with power := { s.power with held := s.power.held ++ [(winKey j off, v)] } }.wake 1
  else f s

/-- Committed (R577). -/
def Pers.committed (p : Pers) : Bool := !p.halted && p.state.active && decide (min p.lines 8192 ≤ p.ring)

/-- TL_STATUS (Table 19-5). -/
def Pers.status (p : Pers) : Word :=
  BitVec.ofNat 32 (p.rc + 2 ^ 8 * p.state.code + 2 ^ 11 * b2n p.startPending + 2 ^ 12 * b2n p.committed)

/-- TL_FIFO_LEVEL (Table 19-5). -/
def Pers.level (p : Pers) : Word :=
  BitVec.ofNat 32 (min 1024 p.fifo.length + 2 ^ 11 * b2n p.halted +
    2 ^ 12 * (if p.half.isSome && decide (p.fifo.length < 1024) then 2 else p.part.length))

/-! ## Entries (R571 to R573, R576, R579) -/

/-- OP of an entry. -/
def tlOp (e : Nat) : Nat := bits e 3 0
/-- X0. -/
def tlX (e : Nat) : Int := sext 16 (bits e 31 16)
/-- Y0, DY or LINES. -/
def tlY (e : Nat) : Nat := bits e 63 32
/-- W or NX. -/
def tlW (e : Nat) : Nat := bits e 79 64
/-- H or NY. -/
def tlH (e : Nat) : Nat := bits e 95 80

/-- The bottom width of a TRAP (R572). -/
def tlBottom (e : Nat) : Int := (tlW e : Nat) + (tlSide (bits e 11 10) - tlSide (bits e 9 8)) * (tlH e : Nat)

/-- The entry is well formed (R571, R572). -/
def tlFormatOk (e : Nat) : Bool :=
  decide (e < 2 ^ 96) && (match tlOp e with
    | 1 => bits e 15 8 == 0 && tlW e != 0 && tlH e != 0
    | 2 => bits e 15 12 == 0 && bits e 9 8 != 3 && bits e 11 10 != 3 && tlH e != 0 && decide (0 ≤ tlBottom e) &&
      (tlW e != 0 || decide (0 < tlBottom e))
    | 3 => bits e 7 4 == 0 && bits e 15 8 == 0 && decide (1 ≤ tlW e ∧ tlW e ≤ 4096) && decide (1 ≤ tlH e ∧ tlH e ≤ 4096)
    | 8 => bits e 7 4 == 0 && bits e 31 10 == 0 && bits e 9 8 != 3 && decide (1 ≤ tlY e ∧ tlY e ≤ 134217727) && bits e 95 64 == 0
    | 9 => e == 9
    | 10 => e == 10
    | _ => false)

/-- Table 19-3 accepts an entry in this state. -/
def Pers.accepts (p : Pers) (op : Nat) : Bool :=
  match op with
  | 8 => !p.state.active
  | 9 => p.state == .armed && !p.started
  | _ => p.state.active && !p.ended

/-- Why the entry at the head of the FIFO is not consumed (R579). -/
def Pers.judge (p : Pers) (e : Nat) : Option FaultCode :=
  let op := tlOp e
  let shape := op == 1 || op == 2
  if !tlFormatOk e || (p.array.isSome && !shape) then some .TLM_RECORD_BAD
  else if !p.accepts op then some .TLM_CMD_INVALID
  else if shape && decide (tlY e < p.lastY) then some .TLM_RECORD_BAD
  else none

/-- The FIFO halts at its head entry (R579). -/
def tlHalt (j : Nat) (c : FaultCode) (s : State) : State :=
  let p := s.pers j
  ((s.raise c).setPers j { p with halted := true, errInfo := BitVec.ofNat 32 (min 65535 p.used + 65536 * c.num) }).tlRc j 2

/-- The head entry leaves the FIFO; an overflow's halt follows the last held entry (R580). -/
def Pers.pop (p : Pers) : Pers :=
  let p := { p with fifo := p.fifo.drop 1, used := p.used + 1 }
  if p.haltAfter && p.fifo.isEmpty then { p with halted := true, haltAfter := false } else p

/-- The shape of a RECT or TRAP entry under its ARRAY (R572). -/
def tlShape (e : Nat) (arr : Option Nat) : TlShape :=
  let trap := tlOp e == 2
  let a := arr.getD 0
  { dose := bits e 7 4, sl := if trap then bits e 9 8 else 0, sr := if trap then bits e 11 10 else 0, x := tlX e, y := tlY e,
    w := tlW e, h := tlH e, dx := bits a 31 16, dy := tlY a, nx := if arr.isSome then tlW a else 1,
    ny := if arr.isSome then tlH a else 1 }

/-- A RECT or TRAP is consumed (R572, R573). -/
def tlTakeShape (j e : Nat) (s : State) : State :=
  let p := (s.pers j).pop
  (s.setPers j { p with
    shapes := p.shapes ++ [tlShape e p.array], array := none, lastY := tlY e, ready := tlY e / 8 }).mark (.linesReady j p.ready)

/-- An ARRAY is consumed. -/
def tlTakeArray (j e : Nat) (s : State) : State := s.setPers j { (s.pers j).pop with array := some e }

/-- The levels a STRIPE of this cycle takes: those before a write of TL_DOSE (Table 19-7). -/
def State.doseTaken (s : State) (j : Nat) : Nat :=
  ((s.cyc.filterMap (fun e => match e with
    | .doseWas k old => if k = j then some old else none
    | _ => none)).getLast?).getD (s.pers j).dose

/-- Pipeline j begins a stripe: its bobbins have no work and no strikes, its tiles and counters start again (R186, R189, R194). -/
def startTiles (j : Nat) (s : State) : State :=
  let s1 := (s.eachUnit j (fun _ => BobUnit.empty)).setTiles j { TileQueue.empty with dual := s.fb F.BOB_CFG_DUAL }
  [F.BOB_CACHE_HITS_COUNT, F.BOB_CACHE_MISSES_COUNT, F.BOB_CROSSINGS_LO_COUNT, F.BOB_CROSSINGS_HI_COUNT].foldl
    (fun s f => s.setFd f 0 j) s1

/-- STRIPE (Table 19-3): it acts as RELEASE where needed, and arms the stripe. What bars ARM of the native pipeline does not bar it
(assumption log 77). -/
def tlTakeStripe (j e : Nat) (s : State) : State :=
  let p := (s.pers j).pop
  let s1 := startTiles j (if p.state == .idle then s else settleTaps j (clearLatch s))
  let dose := s.doseTaken j
  s1.setPers j { p with
    state := .armed, lines := tlY e, pixelSel := bits e 9 8
    doses := (List.range 16).map (fun d => bits dose (4 * d + 3) (4 * d))
    startPending := false, started := false, ended := false, array := none, shapes := [], lastY := 0, ready := 0, ring := 0
    beat := 0, sent := 0, lastEdge := none, damping := false, errInfo := 0, abortLine := 0, used := 0 }

/-- START sets START_PENDING (Table 19-3). -/
def tlTakeStart (j : Nat) (s : State) : State :=
  s.setPers j { (s.pers j).pop with startPending := true, started := true }

/-- END: all lines are ready (Table 19-3). -/
def tlTakeEnd (j : Nat) (s : State) : State :=
  let p := (s.pers j).pop
  (s.setPers j { p with ended := true, ready := p.lines }).mark (.linesReady j p.ready)

/-- What an accepted entry does. -/
def tlTake (j e : Nat) (s : State) : State :=
  match tlOp e with
  | 1 | 2 => tlTakeShape j e s
  | 3 => tlTakeArray j e s
  | 8 => tlTakeStripe j e s
  | 9 => tlTakeStart j s
  | _ => tlTakeEnd j s

/-- The FIFO's head is consumed when it is the entry `op`; NOPs before it are consumed, and an entry of no kind halts the
FIFO (R571, R579). `l` bounds the walk: the FIFO's entries. -/
def tlConsume (j op : Nat) (l : List Nat) (s : State) : State :=
  match l with
  | [] => s
  | e :: t =>
    let p := s.pers j
    if p.halted then s
    else if e = 0 then
      if p.array.isSome then tlHalt j .TLM_RECORD_BAD s else tlConsume j op t (s.setPers j p.pop)
    else if tlOp e = op ∨ !([1, 2, 3, 8, 9, 10].contains (tlOp e)) then
      match p.judge e with
      | some c => tlHalt j c s
      | none => tlTake j e s
    else s

/-- The personality consumes an entry (R569). -/
def tlEntry (j op : Nat) (s : State) : State := tlConsume j op (s.pers j).fifo s

/-! ## The FIFO's input (R569, R570, R580) -/

/-- A word written to TL_FIFO (R569, R570, R580); the fourth word of an entry that a FIFO_RESET of this cycle discards goes with it
(Table 19-7). -/
def tlFifoWord (j : Nat) (v : Word) (s : State) : State :=
  let p := s.pers j
  if p.src.isSome then s.raise .TLM_CMD_INVALID
  else if s.saw (.fifoReset j) then { s with cyc := s.cyc.erase (.fifoReset j) }
  else
    let part := p.part ++ [v]
    if part.length < 4 then s.setPers j { p with part := part }
    else if p.fifo.length ≥ 1024 then
      ((s.raise .TLM_FIFO_OVERFLOW).setPers j { p with part := [], haltAfter := !p.halted }).tlRc j 3
    else
      let e := (part.foldr (fun w a => w.toNat + 2 ^ 32 * a) 0)
      s.setPers j { p with part := [], fifo := p.fifo ++ [e] }

/-- CLOSE of the personality's scope 0 (R144, R570). -/
def tlClose (j : Nat) (s : State) : State :=
  let p := s.pers j
  match p.src with
  | none => s
  | some x =>
    if p.state.active then s.raise .LAC_SCOPE_BUSY
    else
      let s1 := s.setPers j { p with src := none, half := none, fifo := p.fifo.take 1024 }
      if x.dma then s1 else sendCtrl x.flow false true 0xFFFF s1

/-- OPEN of the personality's scope 0 (R142, R570). -/
def tlOpen (j : Nat) (s : State) : State :=
  let p := s.pers j
  if p.src.isSome || decide ((s.pipePart j).2 < 2 ^ 26) then s.raise .LAC_SCOPE_BUSY
  else
    let s1 := s.setPers j { p with src := some ⟨p.flow, p.dma, p.flowId, none⟩, half := none }
    if p.dma then s1 else flowOpen p.flow s1

/-- A write to TL_FLOW (Table 19-5). -/
def tlFlow (j : Nat) (v : Word) (s : State) : State :=
  let s1 := s.setPers j { s.pers j with flow := fld v 5 0, dma := wbit v 6 }
  if wbit v 7 then tlOpen j s1 else tlClose j s1

/-! ## Stripe control (R576 to R584) -/

/-- Commitment with START_PENDING set enters RUN_IN (R577). -/
def tlRunIn (j : Nat) (s : State) : State :=
  let p := s.pers j
  if p.state == .armed && p.startPending && p.committed then
    (s.setPers j { p with state := .runIn, startPending := false, beat := 0, sent := 0, lastEdge := none }).mark (.persRunIn j)
  else s

/-- DONE, 2 µs after RUN_OUT (R578). -/
def tlDone (j : Nat) (s : State) : State :=
  let p := s.pers j
  if p.state == .runOut && decide (s.now ≥ p.runOutAt + 2000000) then (s.setPers j { p with state := .done }).tlRc j 0
  else s

/-- ABORT (R584): from RUN_IN to RUN_OUT to ABORTED with the four lanes damped, from ARMED as DISARM. A halt ends (R579). The last
beat's edge of the same cycle comes after it and is no beat of the stripe (Table 19-7, R581), and a tile delivered in it is discarded
(Table 4-4). -/
def tlAbort (j : Nat) (s0 : State) : State :=
  let s := if (s0.pers j).state.active then untile j s0 else s0
  let p := s.pers j
  let s1 :=
    if p.state.running then
      let s2 := tlAborted j (dampLanes s (List.range' (4 * j) 4))
      s2.setPers j { s2.pers j with damping := true, beat24 := if s.persLast j then (p.beat - 2) % 2 ^ 24 else p.beat24 }
    else if p.state == .armed then settleTaps j ((s.stopTiles j).setPers j { p with state := .idle, startPending := false })
    else s
  s1.setPers j { s1.pers j with halted := false }

/-- FIFO_RESET (R584): as ABORT, then the FIFO is emptied and a halt ends. What waits in an open scope's buffer stays. -/
def tlFifoReset (j : Nat) (s : State) : State :=
  let s1 := tlAbort j s
  let p := s1.pers j
  (if p.part.length = 3 then s1.mark (.fifoReset j) else s1).setPers j { p with
    fifo := p.fifo.drop 1024, part := [], half := if p.fifo.length ≤ 1024 then none else p.half
    halted := false, haltAfter := false, array := none }

/-- TL_CMD. -/
def tlCmd (j c : Nat) (s : State) : State :=
  match c with
  | 1 => tlAbort j s
  | 2 => tlFifoReset j s
  | _ => s

/-- A function-level reset of function j + 1 (R585). -/
def tlFlr (j : Nat) (s : State) : State :=
  let s1 := tlFifoReset j (s.raiseIf (s.pers j).state.running .RST_FLR_ABORT)
  let s2 := tlClose j s1
  s2.setPers j { s2.pers j with
    irqMask := 0, dose := 0, flow := 0, dma := false, flowId := 0, errInfo := 0, abortLine := 0, rc := 0, msiOn := false }

/-! ## Beats (R361, R578, R581, R582) -/

/-- An edge finds ARMED with START_PENDING (R581), or the RUN_IN that it entered in this very cycle (Table 19-7). -/
def tlStartLate (s : State) (j : Nat) : State :=
  let p := s.pers j
  if (p.state == .armed && p.startPending) || (p.state == .runIn && s.saw (.persRunIn j)) then tlAborted j ((s.raise .TLM_START_LATE).tlRc j 5) else s

/-- This edge comes less than 600 ns after the edge before it (R582). -/
def Pers.tooFast (p : Pers) (t : Int) : Bool :=
  p.state.running && (match p.lastEdge with
    | some e => decide (t - e < 6000)
    | none => false)

/-- The frame of the beat that this edge executes has not been sent (R583). -/
def Pers.frameMissing (p : Pers) : Bool := (p.state == .runIn || p.state == .exposing) && decide (p.sent ≤ p.beat)

/-- A local damp source of personality j, with its RC bit. -/
def tlDamp (j b : Nat) (c : FaultCode) (s : State) : State := (s.tlRc j b).localDamp c

/-- Beat k executes (R578). -/
def tlBeat (t : Int) (s : State) (j : Nat) : State :=
  let p := s.pers j
  match p.state with
  | .runIn | .exposing =>
    let last := decide (p.beat = p.lines + 1007)
    (if last then s.mark (.persLastBeat j) else s).setPers j { p with
      state := if last then .runOut else .exposing
      runOutAt := if last then s.now else p.runOutAt
      beat := p.beat + 1, beat24 := p.beat % 2 ^ 24, lastEdge := some t }
  | .runOut => s.setPers j { p with lastEdge := some t }
  | _ => s

/-- From EXPOSING on, a line 64 lines ahead that the ring does not hold damps (R45, R577). -/
def tlUnderrun (s : State) (j : Nat) : State :=
  let p := s.pers j
  if p.state == .exposing && decide (p.ring < min p.lines (p.beat + 64)) then tlDamp j 4 .PLN_UNDERRUN_DAMP s else s

/-- A rising edge on BEAT_EXT in TL-40 mode, shared by every personality (R361): what damps is judged first (R36), then
each stripe that still runs takes its beat. -/
def tlEdge (t : Int) (s1 : State) : State :=
  let fast := s1.persList.filter (fun j => (s1.pers j).tooFast t)
  let late := s1.persList.filter (fun j => (s1.pers j).frameMissing)
  let s2 := s1.persList.foldl tlStartLate s1
  let s3 := fast.foldl (fun s j => tlDamp j 6 .TLM_BEAT_OVERSPEED s) s2
  let s4 := late.foldl (fun s j => tlDamp j 4 .CAR_LATE_PEAL s) s3
  let s5 := s4.persList.foldl (tlBeat t) s4
  s5.persList.foldl tlUnderrun s5

/-! ## Frames (R327, R328, R568, R583) -/

/-- The code at line n, band column x of personality j's ring. -/
def State.ringCode (s : State) (j n x : Nat) : Nat :=
  bits (s.dramByte (s.ringAddr j n + x / 2)).toNat (4 * (x % 2) + 3) (4 * (x % 2))

/-- The code of slot b of lane n (0 to 3) at beat k (R568): beam row 16n + b / 64, column b mod 64. -/
def State.tlCode (s : State) (j k n b : Nat) : Nat :=
  let r := 16 * n + b / 64
  let c := b % 64
  if 16 * r ≤ k ∧ k - 16 * r < (s.pers j).lines then s.ringCode j (k - 16 * r) (16 * c + r % 16) else 0

/-- A TL-40 frame (Table 8-12). -/
def tlFrameBytes (k flags : Nat) (codes : List Nat) : List Byte :=
  let body := leBytes 3 k ++ leBytes 1 flags ++ leBytes 4 0 ++
    (List.range 512).map (fun b => BitVec.ofNat 8 (codes.getD (2 * b) 0 + 16 * codes.getD (2 * b + 1) 0))
  body ++ leBytes 4 (crc crcC32 body) ++ leBytes 4 0

/-- A line that beat k exposes reads back poisoned. -/
def State.tlPoison (s : State) (j k : Nat) : Bool :=
  (List.range 64).any (fun r => decide (16 * r ≤ k) && decide (k - 16 * r < (s.pers j).lines) &&
    s.dramBad (s.ringAddr j (k - 16 * r)) 512)

/-- The frame of beat k leaves on the personality's four lanes. -/
def tlSend (j k : Nat) (blank : Bool) (s : State) : State :=
  let flags := b2n blank + 2 * b2n (decide (k = (s.pers j).lines + 1007))
  (List.range 4).foldl (fun s n =>
    let l := s.lane (4 * j + n)
    if l.tx == .data then
      let codes := if blank then [] else (List.range 1024).map (s.tlCode j k n)
      (s.setLane (4 * j + n) { l with wire := if blank then none else some (s.now + 422400) }).emit
        (.tlFrame (4 * j + n) (tlFrameBytes k flags codes))
    else s) s

/-- The frame of the next beat starts (R328, R577, R583). -/
def tlFrame (j : Nat) (s : State) : State :=
  let p := s.pers j
  if !(p.state == .runIn || p.state == .exposing) || p.sent != p.beat then s
  else
    let k := p.beat
    let s1 := s.setPers j { p with sent := k + 1 }
    if s.generatorOn || p.damping then tlSend j k true s1
    else if p.ring < min p.lines (k + 1) then tlDamp j 4 .CAR_LATE_PEAL s1
    else if s.tlPoison j k then tlDamp j 4 .CAR_POISON s1
    else tlSend j k false s1

/-! ## The window -/

/-- A write to a window register of personality j (Table 19-5): other offsets are ignored (R564). -/
def tlWindowWrite (j off : Nat) (v : Word) (s : State) : State :=
  let p := s.pers j
  let dosed (d : Nat) : State := (s.setPers j { p with dose := d }).mark (.doseWas j p.dose)
  if off = 0x04 then s.setPers j { p with irqMask := fld v 7 0 }
  else if off = 0x14 then tlCmd j (fld v 1 0) s
  else if off = 0x18 then dosed (p.dose / 2 ^ 32 * 2 ^ 32 + v.toNat)
  else if off = 0x1C then dosed (p.dose % 2 ^ 32 + 2 ^ 32 * v.toNat)
  else if off = 0x28 then tlFlow j v s
  else if off = 0x2C then s.setPers j { p with flowId := v.toNat }
  else if 0x1000 ≤ off ∧ off < 0x2000 ∧ off % 4 = 0 then tlFifoWord j v s
  else s

/-- A read of a window register (Table 19-5, R564). It changes nothing but at TL_STATUS. -/
def Pers.windowRead (p : Pers) (off : Nat) : Word :=
  match off with
  | 0x00 => 0x00030040
  | 0x04 => BitVec.ofNat 32 p.irqMask
  | 0x08 => p.status
  | 0x0C => p.level
  | 0x10 => BitVec.ofNat 32 p.beat24
  | 0x18 => BitVec.ofNat 32 p.dose
  | 0x1C => BitVec.ofNat 32 (p.dose / 2 ^ 32)
  | 0x20 => p.errInfo
  | 0x24 => BitVec.ofNat 32 p.abortLine
  | 0x28 => BitVec.ofNat 32 (p.flow + 64 * b2n p.dma + 128 * b2n p.src.isSome)
  | 0x2C => BitVec.ofNat 32 p.flowId
  | _ => 0

/-- The RC bits of personality j that an event of this cycle has set; `fresh` those that stood at 0 before. -/
def State.rcNow (s : State) (j : Nat) (fresh : Bool) : Nat :=
  sumN (((List.range 8).filter (fun b => s.saw (.rcSet j b false) || (!fresh && s.saw (.rcSet j b true)))).map (fun b => 2 ^ b))

/-- A read of TL_STATUS returns its value and clears its RC bits; a bit that an event sets in this cycle is not in the value and stays
set (R565). -/
def tlStatusRead (j : Nat) (s : State) : State :=
  let p := s.pers j
  (s.emit (.windowRead j { p with rc := p.rc &&& (255 - s.rcNow j true) }.status)).setPers j { p with rc := p.rc &&& s.rcNow j false }

/-- The offset under which a held read of TL_STATUS waits: no register stands there. -/
def heldRead : Nat := 0xFFFF

/-- An access to a window that DORMANT held is performed (R505): the read of TL_STATUS that waits under `heldRead`, else a
write; one to TL_STATUS itself is ignored (R10). -/
def tlHeld (j off : Nat) (v : Word) (s : State) : State :=
  if !s.hasPers j then s else if off = heldRead then tlStatusRead j s else tlWindowWrite j off v s

/-! ## Meanings -/

/-- TL40_FRAME_START (R328): the next frame of personality j. -/
def execTl40FrameStart (j : Fin 4) (s : State) : Host.Outcome State Fault Refusal := .next (s.whenPers j.val (tlFrame j.val))

/-- BEAT_EXT_EDGE (R360, R578). -/
def execBeatExtEdge (s : State) : Host.Outcome State Fault Refusal :=
  .next (s.whenReady (fun s =>
    if !s.native then countEdge tlEdge s
    else if s.leads && s.fb F.STAGE_BEAT_CFG_SRC then countEdge nativeEdge s else s))

/-- TL_FIFO_WRITE (R569). -/
def execTlFifoWrite (j : Fin 4) (v : BitVec 32) (s : State) : Host.Outcome State Fault Refusal :=
  .next (s.winAccess j.val 0x1000 v (tlFifoWord j.val v))

/-- TL_RECT (R572). -/
def execTlRect (j : Fin 4) (s : State) : Host.Outcome State Fault Refusal := .next (s.whenPers j.val (tlEntry j.val 1))

/-- TL_TRAP (R572). -/
def execTlTrap (j : Fin 4) (s : State) : Host.Outcome State Fault Refusal := .next (s.whenPers j.val (tlEntry j.val 2))

/-- TL_ARRAY (R572). -/
def execTlArray (j : Fin 4) (s : State) : Host.Outcome State Fault Refusal := .next (s.whenPers j.val (tlEntry j.val 3))

/-- TL_STRIPE (R576). -/
def execTlStripe (j : Fin 4) (s : State) : Host.Outcome State Fault Refusal := .next (s.whenPers j.val (tlEntry j.val 8))

/-- TL_START (R576). -/
def execTlStart (j : Fin 4) (s : State) : Host.Outcome State Fault Refusal := .next (s.whenPers j.val (tlEntry j.val 9))

/-- TL_END (R576). -/
def execTlEnd (j : Fin 4) (s : State) : Host.Outcome State Fault Refusal := .next (s.whenPers j.val (tlEntry j.val 10))

/-- TL_COMMIT_RUN_IN (R577). -/
def execTlCommitRunIn (j : Fin 4) (s : State) : Host.Outcome State Fault Refusal := .next (s.whenPers j.val (tlRunIn j.val))

/-- TL_DONE (R578). -/
def execTlDone (j : Fin 4) (s : State) : Host.Outcome State Fault Refusal := .next (s.whenPers j.val (tlDone j.val))

/-- TL_ABORT (R584): TL_CMD written with ABORT. -/
def execTlAbort (j : Fin 4) (s : State) : Host.Outcome State Fault Refusal :=
  .next (s.winAccess j.val 0x14 1 (tlAbort j.val))

/-- FIFO_RESET (R584): TL_CMD written with FIFO_RESET. -/
def execFifoReset (j : Fin 4) (s : State) : Host.Outcome State Fault Refusal :=
  .next (s.winAccess j.val 0x14 2 (tlFifoReset j.val))

/-- TL_STATUS_READ (R565). -/
def execTlStatusRead (j : Fin 4) (s : State) : Host.Outcome State Fault Refusal :=
  .next (s.winAccess j.val heldRead 0 (tlStatusRead j.val))

/-- TL_FLOW_WRITE (R570). -/
def execTlFlowWrite (j : Fin 4) (v : BitVec 32) (s : State) : Host.Outcome State Fault Refusal :=
  .next (s.winAccess j.val 0x28 v (tlFlow j.val v))

/-- FLR_TL40 (R585). -/
def execFlrTl40 (j : Fin 4) (s : State) : Host.Outcome State Fault Refusal :=
  .next (s.whenUp (fun s => if s.hasPers j.val then tlFlr j.val s else s))

end Sys2Proof.Machine
end

