-- ==== Sys2Proof/Machine/Boot.lean ====
section
/-! DEFINITION. The apply of an image with its pricking reset (R90 to R97), what each reset keeps (Tables 18-3, 18-4), the flash
load of a cold boot (R77, R549 to R553) and the release of the engines. -/

namespace Sys2Proof.Machine

/-! ## Registers over a reset -/

/-- The register file with only the entries that `keep` names. -/
def RegFile.only (f : RegFile) (keep : Reg → Nat → Bool) : RegFile :=
  f.filter (fun p => match Reg.at? (p.1 / 65536) with
    | some (r, _) => keep r (p.1 % 65536)
    | none => false)

/-- The registers of block b at their reset values, but for those `keep` names. -/
def resetRegs (b : Nat) (keep : Reg → Nat → Bool) (s : State) : State :=
  { s with regs := s.regs.only (fun r i => decide (r.offset / 0x10000 ≠ b) || keep r i) }

/-- No register is kept. -/
def keepNone : Reg → Nat → Bool := fun _ _ => false

/-- Locked bits of a register (R96, R613). -/
def lockMask (locks : List (Nat × Word)) (r : Reg) : Word :=
  (locks.filter (fun e => e.1 == r.offset)).foldl (fun m e => m ||| e.2) 0

/-- The locked bits of `old` put back into `new` (R615). -/
def RegFile.relock (new : RegFile) (locks : List (Nat × Word)) (old : RegFile) : RegFile :=
  if locks.isEmpty then new
  else (old ++ new).foldl (fun f p => match Reg.at? (p.1 / 65536) with
    | some (r, _) =>
      let m := lockMask locks r
      let i := p.1 % 65536
      if m = 0 then f else f.set r i ((old.get r i &&& m) ||| (new.get r i &&& ~~~m))
    | none => f) new

/-- The active hash masks, which place every DRAM byte (R429). -/
def keepHash (r : Reg) (i : Nat) : Bool :=
  match r with
  | .HBM_HASH_MASK_LO | .HBM_HASH_MASK_HI => decide (16 ≤ i)
  | _ => false

/-- Sticky cells (R508), and counts that only a cold reset clears (Table 14-4). -/
def keepSticky (r : Reg) (_ : Nat) : Bool :=
  match r with
  | .POWER_AON_CAUSE | .CLOCK_PLL_STATUS | .CLOCK_XING_DISCARD => true
  | _ => false

/-- The abort record, kept until the next ARM (R48). -/
def keepAbort (r : Reg) (_ : Nat) : Bool :=
  match r with
  | .PLAN_ABORT_STRIPE | .PLAN_ABORT_WHERE | .PLAN_ABORT_CAUSE => true
  | _ => false

/-- What a cold reset keeps (Table 18-3). -/
def keepCold (r : Reg) (_ : Nat) : Bool :=
  match r with
  | .GLOBAL_RESET_CAUSE | .POWER_AON_CAUSE | .FAULT_TRIP_CAUSE | .FAULT_FIRST | .FAULT_CODE_STATUS | .SNAP_MISSED => true
  | _ => false

/-- What a warm reset keeps (Table 18-3). -/
def keepWarm (r : Reg) (i : Nat) : Bool :=
  keepCold r i || keepHash r i || keepSticky r i || keepAbort r i || (match r with
    | .FAULT_CODE_ACTION | .SNAP_CFG | .LANE_SKEW | .STAGE_MET_PHASE => true
    | _ => false)

/-! ## Registers whose reset value depends on the image -/

/-- POWER_CAP at the image's CAP (Table 15-11). -/
def imageCap (s : State) : State := s.setFd F.POWER_CAP_CAP s.str.cap

/-- STAGE_CAD_HORIZON: 200, or 600 where COLUMN_SIZE is above 24 (Table 9-14). -/
def imageHorizon (s : State) : State := s.setFd F.STAGE_CAD_HORIZON_H_NS (if s.geoN ≤ 24 then 200 else 600)

/-! ## Lanes at release -/

/-- The image taps of every lane (Table 18-4). -/
def imageFfe (s : State) : State :=
  (List.range 18).foldl (fun s n => let t := s.imageTaps n; s.setTaps n t.1 t.2.1 t.2.2) s

/-- Every register with an image-dependent reset value. -/
def imageRegs (s : State) : State := imageHorizon (imageCap (imageFfe s))

/-- Lanes in use begin training, a TL-40 lane's TX goes straight to DATA (R317, R327); under the safe structure TX[0..15] send
hard damp peals (Table 2-15). -/
def lanesStart (s : State) : State :=
  (List.range 18).foldl (fun s n =>
    if s.str.safe then (if n < 16 then txData n s else s)
    else if s.laneInUse n && s.native then startPipelineLane n s
    else if s.tlLane n then txData n s
    else s) s

/-! ## Block resets (Table 2-16) -/

/-- CARIL and LANE: the level of DAMP_N is a pin's, and the beam lanes that were in DATA carry damp peals throughout. -/
def resetCaril (s : State) : State :=
  let s0 := (List.range 16).foldl (fun s n => if (s.lane n).tx = .data then s.emit (.hardDamp n) else s) s
  let s1 := resetRegs 8 keepNone (resetRegs 7 keepNone s0)
  { s1 with caril := { CarilSt.reset with dampN := s.caril.dampN } }

/-- STAGE and TRACK with the cadence link: maps and learning tables return to first use at a cold reset only (Table 10-1). -/
def resetStage (s : State) : State :=
  let s1 := resetRegs 0xA keepNone (resetRegs 9 keepNone s)
  { s1 with
    stage := { StageSt.reset with epoch := s.now }
    cad := CadSt.reset
    track := { TrackSt.reset with tables := s.track.tables, ready := s.track.ready, fill := s.track.fill } }

/-- PLAN. A scan that runs is dropped with no result, and its slot stays BUSY: the model's choice (assumption log 75). -/
def resetPlan (s : State) : State := { resetRegs 6 keepAbort s with plan := PlanSt.reset }
/-- STORE. -/
def resetStore (s : State) : State := { resetRegs 5 keepNone s with store := StoreSt.reset }
/-- CORR. -/
def resetCorr (s : State) : State := { resetRegs 4 keepNone s with corr := CorrSt.reset }
/-- BOB. -/
def resetBob (s : State) : State := { resetRegs 3 keepNone s with bob := BobSt.reset }

/-- NET and TIME: device time becomes invalid; MACs with link keep it. -/
def resetNet (s : State) : State :=
  let s1 := resetRegs 0xC keepNone (resetRegs 0xB keepNone s)
  { s1 with net := { NetSt.reset with link := s.net.link }, time := TimeSt.reset }

/-- HBM; DRAM contents survive (R91), so the mapping does. A scrub that runs is dropped as a scan is. -/
def resetHbm (s : State) : State :=
  { resetRegs 0xD keepHash s with hbm := { HbmSt.reset with filling := s.hbm.filling, held := s.hbm.held } }

/-- CLOCK and POWER: PLLs locked again, every pillow at point 0. -/
def resetClock (s : State) : State :=
  let s1 := resetRegs 0x12 keepSticky (resetRegs 0x11 keepSticky s)
  { s1 with
    clock := { ClockSt.reset.opened with
      locked := Vector.replicate 6 true
      islands := Vector.replicate 24 ⟨false, false, false, false, 0⟩ }
    power := { PowerSt.reset with railMv := s.power.railMv } }

/-! ## Apply (steps 6 and 7 of Table 2-14) -/

/-- The payload an absent optional section compares as (R90, Table 2-3). -/
def defaultPayload (t : Nat) : List Byte :=
  match t with
  | 0x04 => ((List.range 16384).map (leBytes 4)).flatten
  | 0x0A => List.replicate 16384 0#8 ++ (List.replicate 18 [0#8, 31#8, 0#8, 0#8]).flatten ++ List.replicate 16 0#8
  | 0x0B => [3#8, 0#8, 0#8, 0#8] ++ (List.replicate 16384 [0#8, 1#8]).flatten
  | 0x0C => List.replicate 4 0#8
  | 0x0E => (MetPort.defaults.map (fun m => [if m.enable then 1#8 else 0#8, BitVec.ofNat 8 m.func] ++ leBytes 2 m.rateMbps ++
      leBytes 2 m.latchPs ++ leBytes 2 m.sampleKhz)).flatten ++ leBytes 4 100000 ++ leBytes 4 0
  | _ => []

/-- A section's payload differs in some byte between two images (R90). -/
def sectionChanged (old new : List Section) (t : Nat) : Bool :=
  decide ((payloadOf old t).getD (defaultPayload t) ≠ (payloadOf new t).getD (defaultPayload t))

/-- The pricking reset (step 6): the blocks of Table 2-16 that a changed section names. -/
def prickingReset (old new : List Section) (s : State) : State :=
  let ch (l : List Nat) : Bool := l.any (sectionChanged old new)
  let on (b : Bool) (f : State → State) (s : State) : State := if b then f s else s
  let s := on (ch [1, 3, 4, 5, 10, 7]) resetCaril s
  let s := on (ch [2, 14, 10, 7]) resetStage s
  let s := on (ch [1, 2, 3, 4, 5, 6, 7, 8, 9, 10, 11, 14, 0x7FFF]) resetPlan s
  let s := on (ch [3, 5, 6, 7]) resetStore s
  let s := on (ch [3, 5, 2, 7]) resetCorr s
  let s := on (ch [3, 5, 7]) resetBob s
  let s := on (ch [13, 2, 1]) resetNet s
  let s := on (ch [6, 9]) resetHbm s
  let s := on (ch [7, 8]) resetClock s
  on (ch [1]) (fun s => { s with tl := Vector.replicate 4 Pers.reset }) s

/-- Step 7: the structure, remap, trims, defect map, phases and locks of the sections. -/
def writeStructure (l : List Section) (s : State) : State :=
  let s1 := { s with
    str := readStructure l
    prick := { s.prick with applied := l }
    plan := { s.plan with remap := imageRemap l, defActive := imageDefects l, defStaged := imageDefects l }
    caril := { s.caril with trimActive := imageTrims l, trimStaged := imageTrims l } }
  (List.range 4).foldl (fun s n => (s.setFd F.STAGE_MET_PHASE_STAGED (imagePhase l n) n).setChan n
    { s.chan n with phase := imagePhase l n }) s1

/-- Step 6: the pricking reset, and the refill where PARTITION changed (R92). -/
def applyReset (l : List Section) (s : State) : State :=
  let old := s.prick.applied
  let s1 := prickingReset old l s
  if sectionChanged old l 6 then dropLibs (beginFill { s1 with hbm := { s1.hbm with accessible := true } }) else s1

/-- Writes of the cycle of step 7 come after it: they are judged by the new locks (R614, Table 21-7). -/
def rejudgeWrites (old : List (Nat × Word)) (s : State) : State :=
  s.cyc.reverse.foldl (fun s e => match e with
    | .hostWrote r i asked before =>
      let m := lockMask s.str.locks r
      let m0 := lockMask old r
      let freed := m0 &&& ~~~m
      let s1 := s.setRg r (((s.rg r i &&& ~~~(m ||| freed)) ||| (before &&& m)) ||| (asked &&& freed)) i
      if (asked ^^^ before) &&& m = 0 ∨ (asked ^^^ before) &&& m0 ≠ 0 then s1 else (s1.refused r.offset 1).raise .GLB_LOCKED_WRITE
    | _ => s) s

/-- Step 7: the new structure is written; lanes that were reset begin training again, and a changed PERSONALITY retrains the link
(R93), which clears function 0's ASPM control: the model's choice (assumption log 75). -/
def applyWrite (l : List Section) (s : State) : State :=
  let old := s.prick.applied
  let s3 := rejudgeWrites s.str.locks (writeStructure l s)
  let s4 := { s3 with glob := { s3.glob with safeBoot := false, aspm := s3.glob.aspm && !(sectionChanged old l 1) } }
  let s5 := if [7, 8].any (sectionChanged old l) then imageCap s4 else s4
  let s6 := if [2, 14, 10, 7].any (sectionChanged old l) then imageHorizon s5 else s5
  if [1, 3, 4, 5, 10, 7].any (sectionChanged old l) then lanesStart (imageFfe s6) else s6

/-! ## Cold and warm reset (Table 18-3) -/

/-- The result slots over a reset. -/
def slotsReset (keepSeq : Bool) (v : Vector Slot 256) : Vector Slot 256 :=
  v.map (fun x => if keepSeq then { Slot.fresh with seq := x.seq } else Slot.fresh)

/-- The bit of GLOBAL_RESET_CAUSE (Table 18-7). -/
def ResetCause.mask (c : ResetCause) : Nat :=
  match c with
  | .powerOn => 1 | .sysRst => 2 | .brownout => 4 | .thermal => 8 | .coldCmd => 16 | .perst => 32 | .warmCmd => 64

/-- The cause is recorded (R549). -/
def recordCause (c : ResetCause) (s : State) : State :=
  s.setBits .GLOBAL_RESET_CAUSE (BitVec.ofNat 32 c.mask)

/-- What a cold and a warm reset have in common: every island other than AON starts over. -/
def resetIslands (s : State) : State :=
  { s with
    bob := BobSt.reset, corr := CorrSt.reset, store := StoreSt.reset, stage := { StageSt.reset with epoch := s.now }
    cad := CadSt.reset, net := NetSt.reset, time := TimeSt.reset, check := CheckSt.reset, clock := ClockSt.reset
    power := PowerSt.reset, tl := Vector.replicate 4 Pers.reset
    glob := { s.glob with flash := s.glob.flash.abandon, ready := false, halted := false, failCode := 0, linkUp := false,
                          aspm := false, crs := true } }

/-- AON's fault logic: the log and what is on its way stay, its damp output and its timers do not; THERMTRIP_N returns high at a
cold reset (R537). -/
def resetFaults (cold : Bool) (f : FaultSt) : FaultSt :=
  { FaultSt.reset with
    fifo := f.fifo, waiting := f.waiting, log := f.log, logNext := f.logNext, logTotal := f.logTotal
    tripped := !cold && f.tripped, thermtripN := cold || f.thermtripN }

/-- The state a cold reset starts from, before any boot phase. -/
def coldState (s : State) : State :=
  let s1 := resetIslands { s with regs := s.regs.only keepCold }
  { s1 with
    str := Structure.safeStructure, fault := resetFaults true s.fault, smbus := ⟨s.smbus.addr, 0, 0, 0⟩, lace := LaceSt.reset
    plan := PlanSt.reset, caril := { CarilSt.reset with dampN := s.caril.dampN }, track := TrackSt.reset
    hbm := HbmSt.reset, dram := [], dramMark := [], prick := PrickSt.reset
    dma := { DmaSt.reset with slots := slotsReset false s.dma.slots }
    glob := { s1.glob with booting := some true, phase := 0, safeBoot := false } }

/-- Lane n over a warm reset: skew and eye centres stay. -/
def Lane.warm (l : Lane) : Lane :=
  { Lane.asleep with skewActive := l.skewActive, eyeActive := l.eyeActive, eyeStaged := l.eyeStaged }

/-- The state a warm reset starts from (R558). -/
def warmState (s : State) : State :=
  let s0 := imageRegs { s with regs := s.regs.only keepWarm }
  let s1 := resetIslands { s0 with regs := s0.regs.relock s.str.locks s.regs }
  { s1 with
    fault := resetFaults false s.fault
    lace := { LaceSt.reset with libs := s.lace.libs }
    plan := { PlanSt.reset with defActive := s.plan.defActive, defStaged := s.plan.defStaged, remap := s.plan.remap }
    caril := { CarilSt.reset with
      dampN := s.caril.dampN, trimActive := s.caril.trimActive, trimStaged := s.caril.trimStaged
      lanes := s.caril.lanes.map Lane.warm }
    stage := { s1.stage with met := s.stage.met.map (fun m => { MetCh.first with phase := m.phase }) }
    track := { TrackSt.reset with tables := s.track.tables, ready := s.track.ready, fill := s.track.fill }
    hbm := { HbmSt.reset with filling := s.hbm.filling, accessible := s.hbm.accessible, selfRefresh := true }
    prick := { PrickSt.reset with applied := s.prick.applied, imageId := s.prick.imageId, slot := s.prick.slot,
                                  fromHost := s.prick.fromHost }
    dma := { DmaSt.reset with slots := slotsReset true s.dma.slots }
    glob := { s1.glob with booting := some false, phase := 3 } }

/-! ## The flash load (R76, R77, R80) -/

/-- A flash slot's image with its sections, or its verdict. `timeout`: the flash does not answer (R82), which records 0xFF; a slot
shorter than IMAGE_SIZE fails at the section that its bytes reach: both indexes are the model's choice (assumption log 74). -/
def flashSlot (base : Nat) (timeout : Bool) (s : State) : Except Verdict (List Byte × List Section) × State :=
  let avail := min 0x1000000 (s.glob.flash.size - base)
  if timeout then (.error (0xFF, .PRK_FETCH), s)
  else
    let h := flashRead base (min 64 avail) s
    let n := if (headerFault s.glob.fuseEpochMin h.1).isNone then min avail (imgSize h.1) else min 64 avail
    let r := flashRead base n (h.2.emit (.qspi s.glob.flash.readOp base n))
    match scanImage s.glob.fuseEpochMin avail r.1 with
    | .more i => (.error (i, .PRK_FETCH), r.2)
    | .fail i c => (.error (i, c), r.2)
    | .done l => (match verifyFault r.2 r.1 l with
      | some v => (.error v, { r.2 with freeCount := r.2.freeCount + 1 })
      | none => (.ok (r.1, l), r.2))

/-- A load is rejected: PRICK_STATUS records it, the fault is raised (R80, R84), and the completion interrupt (R99). -/
def loadRejected (v : Verdict) (s : State) : State :=
  let s1 := { s with prick := { s.prick with
    phase := .none, staged := [], verdict := none, lastOk := false, failSection := v.1 % 256, failCode := v.2.num } }
  (s1.raise v.2).irq 65

/-- An image from flash slot n is applied. -/
def flashApply (n : Nat) (img : List Byte) (l : List Section) (s : State) : State :=
  let s1 := imageRegs (writeStructure l s)
  { s1 with
    prick := { s1.prick with lastOk := true, fromHost := false, slot := n, imageId := imgId img }
    glob := { s1.glob with phase := 4, safeBoot := false, crs := false } }

/-- Both slots were rejected (R85, R553). -/
def safeApply (s : State) : State :=
  let s1 := imageRegs (s.raise .PRK_SAFE_STRUCTURE)
  { s1 with
    hbm := { s1.hbm with filling := false, accessible := false }
    prick := { s1.prick with slot := 2, imageId := 0, applied := [] }
    glob := { s1.glob with phase := 5, safeBoot := true, crs := false } }

/-- Boot phases 1 to 3 of a cold boot: the flash's SFDP table (R76), slot A, then slot B, then the safe structure. -/
def coldBoot (ta tb : Bool) (s : State) : State :=
  let a := flashSlot 0 ta (s.emit (.qspi 0x5A 0 0))
  match a.1 with
  | .ok (img, l) => (flashApply 0 img l a.2).irq 65
  | .error v =>
    let s1 := loadRejected v a.2
    let b := flashSlot 0x1000000 tb s1
    match b.1 with
    | .ok (img, l) => (flashApply 1 img l b.2).irq 65
    | .error w => safeApply (loadRejected w b.2)

/-- Hottest junction in 1/8 °C. -/
def State.junction (s : State) : Int := sext 12 (s.fd F.FAULT_TEMP_TJ)

/-- A cold reset (R546); after a thermal trip it waits for the junction to fall below 100 °C (R537). `ta` and `tb` say that the
flash does not answer during the load of slot A or B. -/
def coldReset (c : ResetCause) (ta tb : Bool) (s : State) : State :=
  let s1 := recordCause c s
  if s.fault.tripped && decide (800 ≤ s.junction) then s1
  else
    let s2 := coldBoot ta tb (coldState s1)
    { s2 with glob := { s2.glob with linkUp := !s2.glob.perstAsserted } }

/-- A wake event of the reset's own cycle stays latched (Table 18-5). -/
def relatch (s : State) (e : CycleEvent) : State :=
  match e with
  | .woke src => s.setFlag F.POWER_WAKE_STATUS_SRC (2 ^ src)
  | _ => s

/-- A warm reset (R558). After a thermal trip every island but AON is off and none can run. -/
def warmReset (c : ResetCause) (s : State) : State :=
  let s1 := recordCause c s
  if s.fault.tripped then s1
  else
    let s2 := s.cyc.foldl relatch (warmState s1)
    { s2 with glob := { s2.glob with linkUp := !s2.glob.perstAsserted } }

/-- The engines are released (R551): clocks run, islands leave reset, the stage time base starts, and lanes begin training. -/
def bootReady (s : State) : State :=
  if s.glob.booting.isNone || s.glob.phase == 0 || s.glob.halted || s.hbm.filling || s.fault.tripped then s
  else
    let s1 := { s with
      glob := { s.glob with phase := 8, ready := true, booting := none, crs := false, linkUp := !s.glob.perstAsserted,
                            brownout := false }
      clock := { s.clock.opened with
        locked := Vector.replicate 6 true
        islands := s.clock.islands.map (fun x => { x with ownReset := false }) }
      hbm := { s.hbm with selfRefresh := false }
      stage := { s.stage with epoch := s.now } }
    (lanesStart s1).raiseIf s.glob.brownout .PWR_AON_BROWNOUT

/-! ## Load and verify from the host (R87, R99) -/

/-- LOAD or VERIFY (R79, R87): refused unless every stripe is IDLE, no ring operation is in flight and no load runs. -/
def doPrick (isLoad : Bool) (s : State) : State :=
  if !s.allIdle || !s.dma.ops.isEmpty || s.prick.phase != .none then s.raise .PRK_BUSY
  else
    let s1 := checkClaim 8 { s with bob := { s.bob with cache := [] } }
    { s1 with prick := { s1.prick with
      phase := .fetch, isLoad := isLoad, staged := [], avail := s.fd F.PRICK_SRC_SIZE_SIZE, verdict := none } }

/-- PRICK_CMD by its CMD field; other values are ignored. -/
def doPrickCmd (c : Nat) (s : State) : State :=
  match c with
  | 1 => doPrick false s
  | 2 => doPrick true s
  | _ => s

/-- The section being fetched, 0xFF for the header. -/
def State.fetchIndex (s : State) : Nat :=
  match scanImage s.glob.fuseEpochMin s.prick.avail s.prick.staged with
  | .more i | .fail i _ => i
  | .done l => l.length

/-- Bytes of the image arrive (R78, R80 to R82). -/
def imageArrives (bytes : List Byte) (reply : HostReply) (s : State) : State :=
  let p := s.prick
  if p.phase != .fetch || p.verdict.isSome then s
  else if reply != .ok then { s with prick := { p with verdict := some (s.fetchIndex, .PRK_FETCH) } }
  else
    let staged := (p.staged ++ bytes).take p.avail
    match scanImage s.glob.fuseEpochMin p.avail staged with
    | .more _ => { s with prick := { p with staged := staged } }
    | .fail i c => { s with prick := { p with staged := staged, verdict := some (i, c) } }
    | .done _ => { s with prick := { p with staged := staged, phase := .verify } }

/-- The end of a load or verify that passed: LAST_OK, and the completion interrupt (R99). -/
def loadOk (s : State) : State :=
  { s with prick := { s.prick with phase := .none, staged := [], verdict := none, lastOk := true } }.irq 65

/-- Step 7 of a LOAD, and its end. -/
def applyDone (l : List Section) (s : State) : State :=
  let s1 := applyWrite l s
  loadOk { s1 with prick := { s1.prick with fromHost := true, slot := 2, imageId := imgId s.prick.staged } }

/-- The image passes: a VERIFY ends; a LOAD is applied, which waits in APPLY for the refill of a changed PARTITION (step 6). -/
def loadPassed (l : List Section) (s : State) : State :=
  if !s.prick.isLoad then loadOk s
  else
    let s1 := applyReset l s
    if sectionChanged s.prick.applied l 6 then { s1 with prick := { s1.prick with phase := .apply } } else applyDone l s1

/-- LOAD_END (R80, R84, R99): nothing while bytes are still to come. -/
def loadEnd (s : State) : State :=
  let p := s.prick
  match p.phase, p.verdict with
  | .none, _ => s
  | .apply, _ => s
  | _, some v => checkUnclaim 8 (loadRejected v s)
  | _, none => match scanImage s.glob.fuseEpochMin p.avail p.staged with
    | .done l => (match verifyFault s p.staged l with
      | some v => checkUnclaim 8 (loadRejected v { s with freeCount := s.freeCount + 1 })
      | none => checkUnclaim 8 (loadPassed l s))
    | .fail i c => checkUnclaim 8 (loadRejected (i, c) s)
    | .more _ => s

/-! ## Function-level reset of function 0 (R479, R559) -/

/-- Every pipeline's stripe ends (R559): running ones as for a hardware cause, armed ones disarm. -/
def flrStripes (s : State) : State :=
  let run := s.anyRunning
  let s1 := if run then (s.raise .RST_FLR_ABORT).damp true (FaultCode.num .RST_FLR_ABORT) s.node false true else s
  let s2 := if s1.native && s1.plan.state == .armed then toIdle s1 else s1
  (List.range 4).foldl (fun s j => match (s.pers j).state with
    | .armed => settleTaps j (s.setPers j { s.pers j with state := .idle, startPending := false })
    | .runOut => tlAborted j s
    | _ => s) s2

/-- Rings, grants, slots and vectors (R479); scopes are bound to no ring (Table 18-3). -/
def flrHost (s : State) : State :=
  let s1 := (List.range 64).foldl (fun s n => doRingAbort n s) s
  let s2 := (List.range' 1 7).foldl (fun s g => revoke g s) s1
  let s3 := (List.range 256).foldl (fun s k => slotFree k s) s2
  let s4 := resetRegs 0xF keepNone (resetRegs 0xE keepNone s3)
  { s4 with
    dma := { s4.dma with
      rings := Vector.replicate 64 Ring.fresh, ops := [], masked := Vector.replicate 128 true
      pend := Vector.replicate 128 false, bytes := 0 }
    lace := { s4.lace with scopes := s4.lace.scopes.map (fun x => { x with boundRing := none }) }
    tl := s4.tl.map (fun p => { p with src := p.src.map (fun x => { x with boundRing := none }) }) }

/-- FLR_FUNCTION_0. A scan or scrub ends as its ABORT does, in a slot that the reset frees. A load ends with the section being
fetched, or in VERIFY the number of sections, recorded: the model's choice (assumption log 74). An APPLY completes first (R89). -/
def doFlr0 (s : State) : State :=
  if s.prick.phase == .apply then { s with prick := { s.prick with thenFlr := true } }
  else
    let s1 := flrStripes (flrHost s)
    let s2 := doScrubAbort (doScanAbort s1)
    let s3 := (List.range 256).foldl (fun s k => slotFree k s) s2
    if s3.prick.phase != .none then checkUnclaim 8 (loadRejected (s3.fetchIndex, .PRK_FETCH) s3) else s3

/-- The refill of an APPLY has ended: step 7 follows, and then what waited for the end of the load. -/
def applyResume (s : State) : State :=
  if s.prick.phase != .apply then s
  else match scanImage s.glob.fuseEpochMin s.prick.avail s.prick.staged with
    | .done l =>
      let s1 := applyDone l s
      let s2 := { s1 with prick := { s1.prick with thenFlr := false, thenWarm := false } }
      let s3 := if s.prick.thenFlr then doFlr0 s2 else s2
      if s.prick.thenWarm then warmReset .warmCmd s3 else s3
    | _ => s

end Sys2Proof.Machine
end

