-- ==== Sys2Proof/Machine/Observe.lean ====
section
/-! DEFINITION. What a read of a register returns (R13, R556, R605 to R611): the stored word of the instance its select register
names, with the fields that hardware reports taken from the state. -/

namespace Sys2Proof.Machine

/-! ## Instances (R611) -/

/-- Pipeline that a BOB register of Table 4-6 acts on. -/
def State.bobPipe (s : State) : Nat :=
  let p := s.fd F.BOB_PIPE_SEL_PIPE
  if p < s.str.pipes.length then p else 0

/-- The bank a coefficient register shows: the shadow bank, or the active one with VIEW = 1; with the axis. -/
def State.coefInst (s : State) : Nat :=
  let a := s.fd F.TRACK_AXIS_SEL_AXIS
  if s.fb F.TRACK_AXIS_SEL_VIEW then coefOf s.track.bank a else coefOf (1 - s.track.bank) a

/-- Selector of HBM_HASH_MASK: staged masks are instances 0 to 10, active ones 16 to 26. -/
def State.hashInst (s : State) : Nat :=
  min 10 (s.fd F.HBM_HASH_SEL_SEL) + (if s.fb F.HBM_HASH_SEL_VIEW then 16 else 0)

/-- CORR_TERM_SEL; 5 to 7 select term 4. -/
def State.termSel (s : State) : Nat := min 4 (s.fd F.CORR_TERM_SEL_TERM)

/-- The instance an access to register r acts on; `w` is the word number in an array. -/
def State.inst (s : State) (r : Reg) (w : Nat) : Nat :=
  match r with
  | .GLOBAL_FLASH_DATA => w
  | .LACE_STREAM_ID | .LACE_SOURCE | .LACE_BUF_BASE | .LACE_BUF_SIZE | .LACE_REJECT_SEQ | .LACE_REJECT_CODE |
    .LACE_REJECT_STITCH | .LACE_DROP_COUNT => s.scopeSel.val
  | .BOB_LIVE_CFG | .BOB_CACHE_HITS | .BOB_CACHE_MISSES | .BOB_CROSSINGS_LO | .BOB_CROSSINGS_HI => s.bobPipe
  | .CORR_TERM_GEOM | .CORR_TERM_COEF => s.termSel
  | .CORR_KERNEL_DATA => kernelKey s.termSel (min 16 (s.fd F.CORR_KERNEL_SEL_ENTRY))
  | .STORE_MODE_COUNT => s.fd F.STORE_MODE_SEL_MODE
  | .PLAN_PASS_X | .PLAN_PASS_Y | .PLAN_PASS_FEED | .PLAN_PASS_SHARE => s.fd F.PLAN_PASS_SEL_PASS
  | .LANE_FFE | .LANE_RX_EQ | .LANE_RX_DFE | .LANE_SKEW | .LANE_STATUS | .LANE_EYE | .LANE_TEMP_LIMIT | .LANE_TIMEOUT |
    .LANE_DRV_TEMP | .LANE_DRV_CRC_BAD | .LANE_DRV_LOST | .LANE_ECHO_BAD => s.laneSel
  | .STAGE_MET_PHASE | .STAGE_MET_BAD_COUNT => s.metSel
  | .TRACK_KP | .TRACK_KI | .TRACK_KR | .TRACK_REP_Q | .TRACK_SHIFTS | .TRACK_ILIM | .TRACK_ULIM => s.coefInst
  | .TRACK_PARK | .TRACK_REP_CFG | .TRACK_RESID => s.fd F.TRACK_AXIS_SEL_AXIS
  | .TRACK_MAP_BASE_LO | .TRACK_MAP_BASE_HI => s.fd F.TRACK_MAP_SEL_TABLE
  | .NET_PORT_CFG => s.fd F.NET_PORT_SEL_MAC / 4
  | .NET_VLAN | .NET_IP4_ADDR | .NET_IP6_ADDR0 | .NET_IP6_ADDR1 | .NET_IP6_ADDR2 | .NET_IP6_ADDR3 | .NET_PTP_CFG |
    .NET_PTP_TX_LAT | .NET_PTP_RX_LAT | .NET_RX_DISCARD => s.fd F.NET_PORT_SEL_MAC
  | .NET_ADDR_CFG | .NET_ADDR_MAC_LO | .NET_ADDR_MAC_HI | .NET_ADDR_IP0 | .NET_ADDR_IP1 | .NET_ADDR_IP2 | .NET_ADDR_IP3 =>
    s.fd F.NET_ADDR_SEL_ENTRY
  | .NET_FLOW_ORDER_COUNT => s.fd F.NET_FLOW_SEL_FLOW
  | .TIME_TRIG_CFG | .TIME_TRIG_SEC_LO | .TIME_TRIG_SEC_HI | .TIME_TRIG_NS | .TIME_TRIG_STATUS => s.fd F.TIME_TRIG_SEL_TRIG
  | .HBM_HASH_MASK_LO | .HBM_HASH_MASK_HI => s.hashInst
  | .HBM_PC_STATUS | .HBM_PC_CE_COUNT => s.fd F.HBM_PC_SEL_PC
  | .HBM_RH_LOG_ADDR_LO | .HBM_RH_LOG_ADDR_HI | .HBM_RH_LOG_INFO | .HBM_RH_LOG_TIME_LO | .HBM_RH_LOG_TIME_HI =>
    s.fd F.HBM_RH_LOG_SEL_ENTRY
  | .RING_BASE_LO | .RING_BASE_HI | .RING_CFG => s.fd F.RING_SEL_RING
  | .RING_GRANT | .RING_GRANT_BASE | .RING_GRANT_SIZE => max 1 (s.fd F.RING_GRANT_SEL_GROUP)
  | .CHECK_CFG | .CHECK_POLY | .CHECK_INIT | .CHECK_XOROUT | .CHECK_SEQ | .CHECK_BASE_LO | .CHECK_BASE_HI | .CHECK_SIZE_LO |
    .CHECK_SIZE_HI | .CHECK_EXPECT | .CHECK_RESULT | .CHECK_STATUS | .CHECK_LEN_LO | .CHECK_LEN_HI => s.checkSel
  | .CLOCK_PLL_STATUS => min 5 (s.fd F.CLOCK_PLL_SEL_PLL)
  | .CLOCK_ISLAND_FREQ => min 23 (s.fd F.CLOCK_ISLAND_SEL_ISLAND)
  | .CLOCK_XING_STATUS | .CLOCK_XING_DISCARD => min 95 (s.fd F.CLOCK_XING_SEL_XING)
  | .POWER_THROTTLE_COUNT => s.fd F.POWER_THROTTLE_SEL_CLASS
  | .FAULT_CODE_STATUS | .FAULT_CODE_ACTION => s.fd F.FAULT_CODE_SEL_CODE
  | _ => 0

/-! ## Status fields -/

/-- Fields GLOBAL and PRICK report. -/
def State.globalStatus (s : State) (r : Reg) : List (RegField × Nat) :=
  match r with
  | .GLOBAL_TOPOLOGY =>
    [(F.GLOBAL_TOPOLOGY_DEV_INDEX, s.str.devIndex), (F.GLOBAL_TOPOLOGY_COLUMN_ID, s.str.columnId),
     (F.GLOBAL_TOPOLOGY_ROLE, match s.str.role with | .solo => 0 | .lead => 1 | .member => 2),
     (F.GLOBAL_TOPOLOGY_COLUMN_SIZE, s.str.columnSize), (F.GLOBAL_TOPOLOGY_ROWS_SEL, s.str.rowsSel),
     (F.GLOBAL_TOPOLOGY_PITCH_SEL, s.str.pitchSel), (F.GLOBAL_TOPOLOGY_SLANT, b2n s.str.slant),
     (F.GLOBAL_TOPOLOGY_PERSONALITY, s.str.mode)]
  | .GLOBAL_BOOT_STATUS =>
    [(F.GLOBAL_BOOT_STATUS_PHASE, s.glob.phase), (F.GLOBAL_BOOT_STATUS_READY, b2n s.glob.ready),
     (F.GLOBAL_BOOT_STATUS_SAFE, b2n s.glob.safeBoot), (F.GLOBAL_BOOT_STATUS_HALTED, b2n s.glob.halted),
     (F.GLOBAL_BOOT_STATUS_FAIL_CODE, s.glob.failCode)]
  | .GLOBAL_LOCK_MASK =>
    [(F.GLOBAL_LOCK_MASK_MASK, ((s.str.locks.filter (fun e => e.1 == s.fd F.GLOBAL_LOCK_SEL_OFFSET)).foldl
      (fun m e => m ||| e.2) 0#32).toNat)]
  | .GLOBAL_LOCK_COUNT => [(F.GLOBAL_LOCK_COUNT_COUNT, s.str.locks.length)]
  | .GLOBAL_FLASH_STATUS =>
    [(F.GLOBAL_FLASH_STATUS_BUSY, b2n s.glob.flash.running.isSome), (F.GLOBAL_FLASH_STATUS_SIZE_KIB, s.glob.flash.sizeKib)]
  | .PRICK_STATUS =>
    [(F.PRICK_STATUS_PHASE, match s.prick.phase with | .none => 0 | .fetch => 1 | .verify => 2 | .apply => 3),
     (F.PRICK_STATUS_LAST_OK, b2n s.prick.lastOk), (F.PRICK_STATUS_SAFE, b2n s.glob.safeBoot),
     (F.PRICK_STATUS_SOURCE, b2n s.prick.fromHost), (F.PRICK_STATUS_SLOT, s.prick.slot),
     (F.PRICK_STATUS_FAIL_SECTION, s.prick.failSection), (F.PRICK_STATUS_FAIL_CODE, s.prick.failCode)]
  | .PRICK_IMAGE_ID_LO => [(F.PRICK_IMAGE_ID_LO_ID, s.prick.imageId)]
  | .PRICK_IMAGE_ID_HI => [(F.PRICK_IMAGE_ID_HI_ID, s.prick.imageId / 2 ^ 32)]
  | .PRICK_FUSE =>
    [(F.PRICK_FUSE_KEY_SET, b2n s.glob.fuseKeyDigest.isSome), (F.PRICK_FUSE_SIG_REQUIRED, b2n s.glob.fuseSigRequired),
     (F.PRICK_FUSE_EPOCH_MIN, s.glob.fuseEpochMin)]
  | .PRICK_PACKAGE_SERIAL => [(F.PRICK_PACKAGE_SERIAL_SERIAL, s.glob.fuseSerial)]
  | _ => []

/-- The library slot LACE_LIB_SEL names. -/
def State.libSlot (s : State) : LibSlot := (s.lace.libs[s.libSel]?).getD LibSlot.empty

/-- STATE, JOB of a bobbin (Table 4-7). -/
def State.unitStatus (s : State) (b : Nat) : Nat × Nat :=
  if !s.inService b then (3, 0)
  else match (s.unit b).job with
    | .idle => (0, 0)
    | .tile t _ => (1, t)
    | .live br _ => (2, br)

/-- Fields LACE and BOB report. -/
def State.laceStatus (s : State) (r : Reg) : List (RegField × Nat) :=
  let sc := s.scope s.scopeSel
  let b := s.fd F.BOB_UNIT_SEL_UNIT
  match r with
  | .LACE_STATUS =>
    [(F.LACE_STATUS_STATE, if !sc.isOpen then 0 else if sc.stripeClosed then 2 else 1), (F.LACE_STATUS_HEADER_OK, b2n sc.headerOk),
     (F.LACE_STATUS_BOUND, b2n sc.bound)]
  | .LACE_NEXT_SEQ => [(F.LACE_NEXT_SEQ_SEQ, sc.nextSeq)]
  | .LACE_LINES_READY => [(F.LACE_LINES_READY_LINES, sc.linesReady)]
  | .LACE_LIB_STATUS =>
    [(F.LACE_LIB_STATUS_VALID, sumN ((List.range 15).map (fun n => if ((s.lace.libs[n]?).map LibSlot.valid).getD false then 2 ^ n else 0))),
     (F.LACE_LIB_STATUS_BUSY, b2n s.lace.reg.isSome)]
  | .LACE_LIB_ID_LO => [(F.LACE_LIB_ID_LO_ID, if s.libSlot.valid then s.libSlot.libId else 0)]
  | .LACE_LIB_ID_HI => [(F.LACE_LIB_ID_HI_ID, if s.libSlot.valid then s.libSlot.libId / 2 ^ 32 else 0)]
  | .BOB_IN_SERVICE => [(F.BOB_IN_SERVICE_MASK, s.serviceMask)]
  | .BOB_BUSY => [(F.BOB_BUSY_MASK, s.busyMask)]
  | .BOB_UNIT_STATUS =>
    [(F.BOB_UNIT_STATUS_STATE, (s.unitStatus b).1), (F.BOB_UNIT_STATUS_STRIKES, (s.unit b).strikes),
     (F.BOB_UNIT_STATUS_RESERVED_ROLE, b2n (s.unit b).reserved), (F.BOB_UNIT_STATUS_JOB, (s.unitStatus b).2),
     (F.BOB_UNIT_STATUS_PIPE, (s.pipeOfPillow (b / 8)).getD 0)]
  | .BOB_LIVE_CAPACITY => [(F.BOB_LIVE_CAPACITY_K, if s.bobPipe = 0 then s.capK else 0)]
  | .BOB_LIVE_PENDING => [(F.BOB_LIVE_PENDING_COUNT, if s.bobPipe = 0 then s.livePending else 0)]
  | .BOB_TILE_ISSUED => [(F.BOB_TILE_ISSUED_TILE, (s.tiles s.bobPipe).issued)]
  | .BOB_TILE_DELIVERED => [(F.BOB_TILE_DELIVERED_TILE, (s.tiles s.bobPipe).delivered)]
  | _ => []

/-- Fields CORR and STORE report. -/
def State.doseStatus (s : State) (r : Reg) : List (RegField × Nat) :=
  match r with
  | .CORR_PARAM_CRC => [(F.CORR_PARAM_CRC_CRC, s.paramCrc)]
  | .CORR_REACH => [(F.CORR_REACH_G, s.reachG), (F.CORR_REACH_F, s.reachF), (F.CORR_REACH_Q, s.reachQ)]
  | .CORR_PARTNERS => [(F.CORR_PARTNERS_P, s.partnersP)]
  | .CORR_ROWS_FINAL => [(F.CORR_ROWS_FINAL_ROWS, s.corr.rowsFinal)]
  | .CORR_WAIT_MASK_LO => [(F.CORR_WAIT_MASK_LO_MASK, s.waitMask)]
  | .CORR_WAIT_MASK_HI => [(F.CORR_WAIT_MASK_HI_MASK, s.waitMask / 2 ^ 32)]
  | .STORE_STATUS =>
    [(F.STORE_STATUS_HEAD_READY, b2n s.headReady), (F.STORE_STATUS_FEAS_OK, b2n s.store.feasOk),
     (F.STORE_STATUS_ROW_LOST, b2n s.store.lostRow.isSome)]
  | .STORE_ROWS_VERIFIED => [(F.STORE_ROWS_VERIFIED_ROWS, s.store.verified)]
  | .STORE_DELIVERED => [(F.STORE_DELIVERED_LINE, s.store.delivered)]
  | .STORE_FEAS_SLACK => [(F.STORE_FEAS_SLACK_SLACK, wrapU 32 (sat s.store.feasSlack (-2147483648) 2147483647))]
  | _ => []

/-- COLUMN_COMMITTED (Table 1-9). -/
def State.columnCommitted (s : State) : Bool :=
  match s.str.role with
  | .solo => s.committed
  | .lead => s.plan.columnCommitted && !s.cad.unverified && s.committed
  | .member => false

/-- Fields PLAN reports. FAIL_LOOKAHEAD, FAIL_LIVE and FAIL_COMPENSATION show the present condition in ARMED to RUN_OUT, FAIL_CHAIN and
FAIL_MATCH what the last refused START recorded: the model's choice between R43 and Table 1-9 (assumption log 83). -/
def State.planStatus (s : State) (r : Reg) : List (RegField × Nat) :=
  let on := s.plan.state.active
  match r with
  | .PLAN_STRIPE_STATUS =>
    [(F.PLAN_STRIPE_STATUS_STATE, s.plan.state.code), (F.PLAN_STRIPE_STATUS_COMMITTED, b2n s.committed),
     (F.PLAN_STRIPE_STATUS_COLUMN_COMMITTED, b2n s.columnCommitted),
     (F.PLAN_STRIPE_STATUS_FAIL_LOOKAHEAD, b2n (on && !s.lookaheadOk)), (F.PLAN_STRIPE_STATUS_FAIL_LIVE, b2n (on && !s.liveOk)),
     (F.PLAN_STRIPE_STATUS_FAIL_COMPENSATION, b2n (on && !s.compOk)), (F.PLAN_STRIPE_STATUS_FAIL_CHAIN, b2n s.plan.failChain),
     (F.PLAN_STRIPE_STATUS_FAIL_MATCH, b2n s.plan.failMatch), (F.PLAN_STRIPE_STATUS_PASS, s.plan.pass)]
  | .PLAN_DEFECT_DATA =>
    let b := s.fd F.PLAN_DEFECT_SEL_BEAM
    [(F.PLAN_DEFECT_DATA_STAGED, Sparse.get goodEntry s.plan.defStaged b), (F.PLAN_DEFECT_DATA_ACTIVE, s.defEntry b)]
  | .PLAN_SEAM_DEFECT_DATA =>
    [(F.PLAN_SEAM_DEFECT_DATA_ENTRY, Sparse.get 0 s.plan.seamStaged
      (seamKey (s.fd F.PLAN_SEAM_DEFECT_SEL_SIDE) (s.fd F.PLAN_SEAM_DEFECT_SEL_ENTRY)))]
  | .PLAN_REMAP_DATA => [(F.PLAN_REMAP_DATA_ENTRY, s.remapEntry (s.fd F.PLAN_REMAP_SEL_BEAM))]
  | .PLAN_SCAN_STATUS =>
    [(F.PLAN_SCAN_STATUS_BUSY, b2n s.plan.scan.isSome), (F.PLAN_SCAN_STATUS_STALE, b2n s.plan.scan.isSome),
     (F.PLAN_SCAN_STATUS_DONE, match s.plan.scan with | some x => x.entries.length | none => 0)]
  | .PLAN_SHIFT =>
    [(F.PLAN_SHIFT_H, wrapU 6 s.plan.h), (F.PLAN_SHIFT_S, wrapU 6 (s.xi s.plan.pass + s.plan.h))]
  | .PLAN_COMP_STATUS =>
    [(F.PLAN_COMP_STATUS_EDGE_LOW_OK, b2n (!s.hasNeighbour 0 || (s.plan.edgeOk[0]?).getD false)),
     (F.PLAN_COMP_STATUS_EDGE_HIGH_OK, b2n (!s.hasNeighbour 1 || (s.plan.edgeOk[1]?).getD false)),
     (F.PLAN_COMP_STATUS_FAIL, b2n s.compFail), (F.PLAN_COMP_STATUS_LINES, s.compLines)]
  | _ => []

/-- TX_STATE and RX_STATE (Table 8-16). -/
def TxState.code (t : TxState) : Nat :=
  match t with | .sleep => 0 | .waking => 1 | .training => 2 | .data => 3 | .failed => 4
def RxState.code (t : RxState) : Nat :=
  match t with | .sleep => 0 | .acquire => 1 | .data => 2 | .lost => 3

/-- LANE_STATUS of lane n. -/
def State.laneStatus (s : State) (n : Nat) : List (RegField × Nat) :=
  let l := s.lane n
  [(F.LANE_STATUS_TX_STATE, l.tx.code), (F.LANE_STATUS_RX_STATE, l.rx.code), (F.LANE_STATUS_ECHO_OK, b2n l.echoOk),
   (F.LANE_STATUS_LANE_MISMATCH, b2n l.mismatch), (F.LANE_STATUS_TEMP_LEVEL, l.level), (F.LANE_STATUS_EPOCH, l.epoch),
   (F.LANE_STATUS_DRV_EPOCH, l.drvEpoch)]

/-- Fields CARIL and LANE report. -/
def State.carilStatus (s : State) (r : Reg) : List (RegField × Nat) :=
  let l := s.lane s.laneSel
  let b := s.fd F.CARIL_TRIM_SEL_BEAM
  match r with
  | .CARIL_TRIM_DATA =>
    [(F.CARIL_TRIM_DATA_STAGED, Sparse.get 0 s.caril.trimStaged b), (F.CARIL_TRIM_DATA_ACTIVE, Sparse.get 0 s.caril.trimActive b)]
  | .CARIL_DAMP_STATUS =>
    [(F.CARIL_DAMP_STATUS_DAMP_IN, b2n s.caril.dampN), (F.CARIL_DAMP_STATUS_LATCH, b2n s.caril.latch),
     (F.CARIL_DAMP_STATUS_GENERATOR, b2n s.generatorOn), (F.CARIL_DAMP_STATUS_CAUSE, s.caril.cause)]
  | .CARIL_TEMP_LEVEL => [(F.CARIL_TEMP_LEVEL_LEVEL, s.carilLevel.1), (F.CARIL_TEMP_LEVEL_LANE, s.carilLevel.2)]
  | .LANE_SKEW => [(F.LANE_SKEW_ACTIVE, wrapU 8 l.skewActive)]
  | .LANE_STATUS => s.laneStatus s.laneSel
  | .LANE_EYE =>
    [(F.LANE_EYE_ACTIVE, wrapU 6 l.eyeActive), (F.LANE_EYE_STAGED, wrapU 6 l.eyeStaged), (F.LANE_EYE_STALE, b2n l.eyeSweep)]
  | _ => []

/-- The phase an axis is in (Table 9-12). -/
def Axis.phase (x : Axis) : Nat :=
  match x.segs with
  | [] => if x.scan then 9 else 0
  | g :: _ => g.phase

/-- STAGE_POS_LO, STAGE_POS_HI and STAGE_SPEED of a channel. -/
def MetCh.posLo (c : MetCh) : Nat := wrapU 40 c.pos % 2 ^ 32
def MetCh.posHi (c : MetCh) : Nat :=
  wrapU 40 c.pos / 2 ^ 32 + 256 * b2n c.valid + 512 * b2n c.stale + 1024 * b2n c.lost + 65536 * (c.status % 256)
def MetCh.speed (c : MetCh) : Nat := wrapU 32 c.v

/-- Fields STAGE and TRACK report. -/
def State.stageStatus (s : State) (r : Reg) : List (RegField × Nat) :=
  let c := s.chan s.metSel
  let a := s.fd F.TRACK_AXIS_SEL_AXIS
  match r with
  | .STAGE_MET_PHASE => [(F.STAGE_MET_PHASE_ACTIVE, c.phase)]
  | .STAGE_EST_STATUS =>
    if s.metSel = 3 then []
    else [(F.STAGE_EST_STATUS_VALID, b2n c.estValid), (F.STAGE_EST_STATUS_METHOD, b2n c.diff), (F.STAGE_EST_STATUS_DIR, wrapU 2 c.dir)]
  | .STAGE_CMP_STATUS => [(F.STAGE_CMP_STATUS_ARMED, b2n s.stage.cmpArmed)]
  | .STAGE_PROFILE_STATUS =>
    [(F.STAGE_PROFILE_STATUS_PHASE_Y, (s.axis 1).phase), (F.STAGE_PROFILE_STATUS_PHASE_X, (s.axis 0).phase),
     (F.STAGE_PROFILE_STATUS_DERATED, b2n s.stage.derated)]
  | .STAGE_TEMP_STATUS =>
    if s.leads then []
    else [(F.STAGE_TEMP_STATUS_LEVEL, s.deviceLevel), (F.STAGE_TEMP_STATUS_DEV, s.str.devIndex),
          (F.STAGE_TEMP_STATUS_HEADROOM, s.deviceHeadroom)]
  | .STAGE_CAD_STATUS => [(F.STAGE_CAD_STATUS_LOCKED, b2n s.cad.locked)]
  | .STAGE_BEAT_CFG => if s.native then [] else [(F.STAGE_BEAT_CFG_SRC, 1)]
  | .TRACK_BANK_STATUS => [(F.TRACK_BANK_STATUS_ACTIVE, s.track.bank), (F.TRACK_BANK_STATUS_PENDING, b2n s.track.swapPending)]
  | .TRACK_REP_STATUS =>
    [(F.TRACK_REP_STATUS_READY, b2n ((s.track.ready[a]?).getD false)), (F.TRACK_REP_STATUS_FILL, (s.track.fill[a]?).getD 0)]
  | .TRACK_WORD => [(F.TRACK_WORD_WORD, wrapU 32 ((s.track.words[a]?).getD 0))]
  | .TRACK_INTEG => [(F.TRACK_INTEG_I, wrapU 32 ((s.track.integ[a]?).getD 0))]
  | .TRACK_MAP_DATA =>
    [(F.TRACK_MAP_DATA_ENTRY, wrapU 32 (s.track.entry (s.fd F.TRACK_MAP_SEL_TABLE) (s.fd F.TRACK_MAP_INDEX_INDEX)))]
  | .TRACK_SHIFT_STATUS =>
    [(F.TRACK_SHIFT_STATUS_PENDING, b2n s.shiftPending), (F.TRACK_SHIFT_STATUS_H_PEND, wrapU 6 s.track.hPend)]
  | _ => []

/-- The selected channel's words of STAGE (whole registers). -/
def State.stageWord (s : State) (r : Reg) : Option Nat :=
  let c := s.chan s.metSel
  match r with
  | .STAGE_POS_LO => some c.posLo
  | .STAGE_POS_HI => some c.posHi
  | .STAGE_SPEED => some (if s.metSel = 3 then 0 else c.speed)
  | _ => none

/-- FEC alignment of a port: it has link in a mode with FEC (Table 11-1). -/
def State.fecLock (s : State) (p : Nat) : Bool :=
  let m := s.fd F.NET_PORT_CFG_MODE p
  bits s.net.link (4 * p + 3) (4 * p) != 0 && (m == 1 || m == 2 || ((m == 3 || m == 4) && !s.fb F.NET_PORT_CFG_NOFEC25 p))

/-- Word w of the delay entry of the selected pseudo-channel (R64). -/
def State.delayWord (s : State) (w : Nat) : Nat := leVal (slice s.str.delays (16 * s.fd F.HBM_PC_SEL_PC + 4 * w) 4)

/-- Fields NET, HBM and DMA report. -/
def State.netStatus (s : State) (r : Reg) : List (RegField × Nat) :=
  let p := s.fd F.NET_PORT_SEL_MAC / 4
  let f := s.flow (s.fd F.NET_FLOW_SEL_FLOW)
  match r with
  | .NET_PORT_STATUS =>
    [(F.NET_PORT_STATUS_LINK, bits s.net.link (4 * p + 3) (4 * p)), (F.NET_PORT_STATUS_FEC_LOCK, b2n (s.fecLock p))]
  | .NET_FLOW_NEXT => [(F.NET_FLOW_NEXT_DSEQ, f.next)]
  | .NET_FLOW_RECEIVED => [(F.NET_FLOW_RECEIVED_STITCHES, f.received)]
  | .HBM_STATUS =>
    [(F.HBM_STATUS_FILL_BUSY, b2n s.hbm.filling), (F.HBM_STATUS_SCRUB_BUSY, b2n s.hbm.scrub.isSome),
     (F.HBM_STATUS_INJECT_ARMED, b2n s.hbm.inject.isSome), (F.HBM_STATUS_HOT, b2n s.stackHot),
     (F.HBM_STATUS_PC_FAILED, b2n s.anyPcFailed)]
  | .HBM_PC_DELAY0 => [(F.HBM_PC_DELAY0_ENTRY, s.delayWord 0)]
  | .HBM_PC_DELAY1 => [(F.HBM_PC_DELAY1_ENTRY, s.delayWord 1)]
  | .HBM_PC_DELAY2 => [(F.HBM_PC_DELAY2_ENTRY, s.delayWord 2)]
  | .HBM_PC_DELAY3 => [(F.HBM_PC_DELAY3_ENTRY, s.delayWord 3)]
  | .DMA_ACTIVE => [(F.DMA_ACTIVE_MASK, (s.moving.map (fun o => 2 ^ o.chan)).foldl Nat.lor 0)]
  | .DMA_IN_FLIGHT => [(F.DMA_IN_FLIGHT_COUNT, (s.dma.ops.filter (fun o => !o.completed)).length)]
  | .DMA_BYTES_LO => [(F.DMA_BYTES_LO_COUNT, s.dma.bytes)]
  | .DMA_BYTES_HI => [(F.DMA_BYTES_HI_COUNT, s.dma.bytes / 2 ^ 32)]
  | _ => []

/-- RING_HEAD and RING_STATUS of ring n. -/
def State.ringHead (s : State) (n : Nat) : Nat := (s.ring n).head + 65536 * (s.ring n).done
def State.ringStatus (s : State) (n : Nat) : Nat :=
  let r := s.ring n
  (match r.st with | .disabled => 0 | .running => 1 | .stopping => 2 | .stopped => 3) + 4 * b2n r.waitSlot +
    8 * (s.inFlight n).length + 65536 * r.stopCode

/-- Registers of ring n (R622); none for the others. -/
def State.ringWord (s : State) (n : Nat) (r : Reg) : Option Nat :=
  match r with
  | .RING_TAIL => some (s.ring n).tail
  | .RING_HEAD => some (s.ringHead n)
  | .RING_STATUS => some (s.ringStatus n)
  | _ => none

/-- Word of a result slot at byte offset `off` (Table 13-8). -/
def State.slotWord (s : State) (k off : Nat) : Nat :=
  if off = 0 then s.slotStatus k
  else if off = 4 then (s.slot k).tag
  else if 16 ≤ off then (((s.slot k).data[(off - 16) / 4]?).getD 0).toNat
  else 0

/-- Fields CHECK, CLOCK and POWER report. -/
def State.unitFields (s : State) (r : Reg) : List (RegField × Nat) :=
  let u := s.checkSel
  let i := s.island (min 23 (s.fd F.CLOCK_ISLAND_SEL_ISLAND))
  let x := min 95 (s.fd F.CLOCK_XING_SEL_XING)
  match r with
  | .CHECK_STATUS =>
    [(F.CHECK_STATUS_BUSY, b2n ((s.check.run[u]?).getD none).isSome), (F.CHECK_STATUS_CLAIMED, b2n ((s.check.claimed[u]?).getD false))]
  | .CLOCK_PLL_STATUS => [(F.CLOCK_PLL_STATUS_LOCKED, b2n ((s.clock.locked[min 5 (s.fd F.CLOCK_PLL_SEL_PLL)]?).getD false))]
  | .CLOCK_ISLAND_STATUS => [(F.CLOCK_ISLAND_STATUS_IN_RESET, b2n i.inReset), (F.CLOCK_ISLAND_STATUS_FREQ_BAD, b2n i.freqBad)]
  | .CLOCK_XING_INFO =>
    [(F.CLOCK_XING_INFO_SRC, (Config.xingSrc x).val), (F.CLOCK_XING_INFO_DST, (Config.xingDst x).val),
     (F.CLOCK_XING_INFO_KIND, (Config.xingKind x).val)]
  | .CLOCK_XING_STATUS =>
    [(F.CLOCK_XING_STATUS_PEER_IN_RESET, b2n (s.island (Config.xingSrc x).val).inReset),
     (F.CLOCK_XING_STATUS_OPEN, b2n ((s.clock.xOpen[x]?).getD false))]
  | .POWER_ISLAND_STATE => [(F.POWER_ISLAND_STATE_STATE, s.islandState (min 23 (s.fd F.POWER_ISLAND_SEL_ISLAND)))]
  | .POWER_AON_LOAD => [(F.POWER_AON_LOAD_LOAD, s.aonLoad false)]
  | _ => []

/-- Log entry e. -/
def State.logEntry (s : State) (e : Nat) : LogEntry := Sparse.get LogEntry.empty s.fault.log e

/-- FAULT_LOG_CODE of an entry (Table 17-6). -/
def LogEntry.codeWord (e : LogEntry) : Nat := e.code + 65536 * e.count + 2 ^ 31 * b2n e.valid

/-- FAULT_LOG_HEAD. -/
def State.logHead (s : State) : Nat := s.fault.logNext + 64 * min (2 ^ 26 - 1) s.fault.logTotal

/-- SNAP_STATUS. -/
def State.snapStatus (s : State) : Nat := b2n s.snap.held + 2 * b2n s.snap.capturing.isSome + 65536 * s.snap.seq

/-- Whole words POWER, SNAP, FAULT, RING and TL report. -/
def State.wholeWord (s : State) (r : Reg) (w : Nat) : Option Nat :=
  let e := s.logEntry (s.fd F.FAULT_LOG_SEL_ENTRY)
  let k := s.fd F.RING_SLOT_SEL_SLOT
  match r with
  | .POWER_STATE => some s.powerState
  | .POWER_OP_STATUS => some s.opStatus
  | .SNAP_STATUS => some s.snapStatus
  | .SNAP_DATA => some ((s.snap.words[s.fd F.SNAP_SEL_WORD]?).getD 0).toNat
  | .FAULT_LOG_HEAD => some s.logHead
  | .FAULT_LOG_TIME_LO => some e.n
  | .FAULT_LOG_TIME_HI => some (e.n / 2 ^ 32)
  | .FAULT_LOG_CODE => some e.codeWord
  | .FAULT_LOG_STAGE => some e.stage
  | .RING_TAIL | .RING_HEAD | .RING_STATUS => s.ringWord (s.fd F.RING_SEL_RING) r
  | .RING_SLOT_STATUS => some (s.slotWord k 0)
  | .RING_SLOT_TAG => some (s.slotWord k 4)
  | .RING_SLOT_RELEASE => some 0
  | .RING_SLOT_DATA => some (s.slotWord k (16 + 4 * w))
  | .TL_PEEK => some (s.pers (s.fd F.TL_SEL_PERS)).status.toNat
  | _ => s.stageWord r

/-! ## Reading -/

/-- The registers whose island the structure or the role leaves off or gated (R378, R609). -/
def State.regOff (s : State) (r : Reg) : Bool :=
  match r.offset / 0x10000 with
  | 0x3 => !((List.range 4).any (fun p => (s.pipeOfPillow p).isSome))
  | 0x4 => !s.islandUsed 8
  | 0x5 => !s.islandUsed 9
  | 0x8 => decide (16 ≤ s.laneSel) && !s.islandUsed 14 && (match r with
      | .LANE_SEL => false
      | _ => true)
  | 0x9 => (match r with
      | .STAGE_CAD_HORIZON | .STAGE_CAD_LINK_DELAY | .STAGE_CAD_TOL | .STAGE_CAD_STATUS | .STAGE_CAD_RING | .STAGE_CAD_ERR_COUNT =>
        !s.islandUsed 17
      | _ => !s.islandUsed 16)
  | 0xA => !(s.leads && s.native) || s.str.safe
  | 0xB => s.str.safe
  | _ => false

/-- The registers R593 takes away in TL-40 mode. -/
def tlHidden (r : Reg) : Bool :=
  match r with
  | .PLAN_STRIPE_CMD | .PLAN_STRIPE_CFG | .PLAN_EXPOSE | .PLAN_PASS_SEL | .PLAN_PASS_X | .PLAN_PASS_Y | .PLAN_PASS_FEED |
    .PLAN_PASS_SHARE => true
  | _ => false

/-- Accesses to r have no effect and read 0 (R378, R593, R609). -/
def State.regAbsent (s : State) (r : Reg) : Bool := s.regOff r || (!s.native && tlHidden r)

/-- Every field hardware reports in r. -/
def State.statusFields (s : State) (r : Reg) : List (RegField × Nat) :=
  match r.offset / 0x10000 with
  | 0x0 | 0x1 => s.globalStatus r
  | 0x2 | 0x3 => s.laceStatus r
  | 0x4 | 0x5 => s.doseStatus r
  | 0x6 => s.planStatus r
  | 0x7 | 0x8 => s.carilStatus r
  | 0x9 | 0xA => s.stageStatus r
  | 0xB | 0xD | 0xE => s.netStatus r
  | 0x10 | 0x11 | 0x12 => s.unitFields r
  | _ => []

/-- What register r holds, word w of an array, whatever the boot state. -/
def State.readReg (s : State) (r : Reg) (w : Nat := 0) : Word :=
  if s.regAbsent r then 0
  else match s.wholeWord r w with
    | some v => BitVec.ofNat 32 v
    | none => (s.statusFields r).foldl (fun v e => setFld v e.1.hi e.1.lo e.2) (s.rg r (s.inst r w))

/-- The registers a read reaches before READY (R556). -/
def earlyReg (r : Reg) : Bool :=
  match r with
  | .GLOBAL_IDENT | .GLOBAL_BOOT_STATUS | .GLOBAL_RESET_CAUSE | .PRICK_STATUS | .PRICK_IMAGE_ID_LO | .PRICK_IMAGE_ID_HI |
    .PRICK_FUSE => true
  | _ => false

/-- The MSI-X table and the pending-bit array (R603): the word at an offset. -/
def State.msixWord (s : State) (off : Nat) : Nat :=
  if off < 0x01F01000 then
    let v := (off - 0x01F00000) / 16
    match (off - 0x01F00000) % 16 / 4 with
    | 0 => Sparse.get 0 s.dma.msixAddr v % 2 ^ 32
    | 1 => Sparse.get 0 s.dma.msixAddr v / 2 ^ 32
    | 2 => Sparse.get 0 s.dma.msixData v
    | _ => b2n ((s.dma.masked[v]?).getD true)
  else
    let w := (off - 0x01F01000) / 4
    sumN ((List.range 32).map (fun i => if (s.dma.pend[32 * w + i]?).getD false then 2 ^ i else 0))

/-- An offset of the MSI-X table or of the pending-bit array. -/
def msixOffset (off : Nat) : Bool :=
  decide (0x01F00000 ≤ off ∧ off < 0x01F00800) || decide (0x01F01000 ≤ off ∧ off < 0x01F01010)

/-- A read of BAR0 at a byte offset (R13, R556, R605). -/
def State.readBar0 (s : State) (off : Nat) : Word :=
  match Reg.at? off with
  | some (r, w) => if s.glob.ready || earlyReg r then s.readReg r w else 0
  | none => if s.glob.ready && msixOffset off then BitVec.ofNat 32 (s.msixWord off) else 0

/-- A read of ring page n at a page offset (R456, R622). -/
def State.readPage (s : State) (n off : Nat) : Word :=
  if !s.glob.ready || decide (n < 8) || !(s.groupGranted (n / 8)) then 0
  else if off < 0x20 then
    (match Reg.at? (Reg.offset .RING_BASE_LO + off) with
    | some (r, _) => (match s.ringWord n r with
      | some v => BitVec.ofNat 32 v
      | none => s.rg r n)
    | none => 0)
  else if 0x1000 ≤ off ∧ off < 0x1800 then BitVec.ofNat 32 (s.slotWord (32 * (n / 8) + (off - 0x1000) / 64) ((off - 0x1000) % 64))
  else 0

end Sys2Proof.Machine
end

