-- ==== Sys2Proof/Machine/Snap.lean ====
section
/-! DEFINITION. Rimshots and the snapshot (R538 to R541, Table 17-2). -/

namespace Sys2Proof.Machine

/-! ## Words (Table 17-2) -/

/-- Island i is ON and its clock runs, so it captures (R538). -/
def State.captures (s : State) (i : Nat) : Bool :=
  i == 0 || (s.glob.ready && s.islandState i == 0 && !(s.island i).inReset)

/-- The island whose word w of the snapshot is (Table 14-1). -/
def snapIsland (w : Nat) : Nat :=
  if w ≤ 1 then 0
  else if w ≤ 3 then 20
  else if w ≤ 6 then 16
  else if w ≤ 9 then 10
  else if w ≤ 11 then 9
  else if w = 12 then 7
  else if w = 13 then 8
  else if w ≤ 15 then 11
  else if w ≤ 23 then 12
  else if w ≤ 31 then 13
  else if w ≤ 33 then 14
  else if w ≤ 44 then 16
  else if w ≤ 50 then 15
  else if w = 51 then 17
  else if w = 53 then 23
  else if w = 54 then 21
  else 0

/-- Islands that do not capture, for word 56. -/
def State.notCaptured (s : State) : Nat :=
  sumN ((List.range 24).map (fun i => if s.captures i then 0 else 2 ^ i))

/-- Beat and pass of word 6: the last beat at or before stage time t; `none` before the first beat. -/
def State.lastBeat (s : State) (t : Int) : Option Nat :=
  (s.stage.beats.find? (fun b => decide (b.2 ≤ t))).map (fun b => b.1 % 2 ^ 27 + 2 ^ 27 * (s.plan.pass % 8))

/-- LANE_STATUS of lane n whatever LANE_SEL holds. -/
def State.laneStatusWord (s : State) (n : Nat) : Word :=
  (s.laneStatus n).foldl (fun v e => setFld v e.1.hi e.1.lo e.2) (s.rg .LANE_STATUS n)

/-- Word w of a snapshot with sequence number `seq`, of source `src` and fault code `code`; `beat` is word 6. -/
def State.snapWord (s : State) (seq src code beat : Nat) (w : Nat) : Word :=
  let ofN (x : Nat) : Word := BitVec.ofNat 32 x
  let ch := s.chan ((w - 34) / 2)
  if !(s.captures (snapIsland w)) || (w == 54 && !(s.captures 22)) then 0
  else if 16 ≤ w ∧ w ≤ 33 then s.laneStatusWord (w - 16)
  else if 34 ≤ w ∧ w ≤ 41 then ofN (if w % 2 = 0 then ch.posLo else ch.posHi)
  else match w with
    | 0 => ofN (seq % 65536 + 65536 * src + 2 ^ 31)
    | 1 => ofN (code % 65536 + 65536 * (s.node % 16384))
    | 2 => ofN s.stampN
    | 3 => ofN (s.stampN / 2 ^ 32)
    | 4 => ofN s.stageT.toNat
    | 5 => ofN (s.stageT.toNat / 2 ^ 32)
    | 6 => ofN beat
    | 7 => s.readReg .PLAN_STRIPE_STATUS
    | 8 => s.readReg .PLAN_SHIFT
    | 9 => s.readReg .PLAN_COMP_STATUS
    | 10 => s.readReg .STORE_DELIVERED
    | 11 => s.readReg .STORE_ROWS_VERIFIED
    | 12 => s.readReg .BOB_TILE_DELIVERED
    | 13 => s.readReg .CORR_ROWS_FINAL
    | 14 => s.readReg .CARIL_DAMP_STATUS
    | 15 => s.readReg .CARIL_TEMP_LEVEL
    | 42 => ofN (s.chan 0).speed
    | 43 => ofN (s.chan 1).speed
    | 44 => ofN (s.chan 2).speed
    | 45 => s.rg .TRACK_RESID 0
    | 46 => s.rg .TRACK_RESID 1
    | 47 => ofN (wrapU 32 ((s.track.words[0]?).getD 0))
    | 48 => ofN (wrapU 32 ((s.track.words[1]?).getD 0))
    | 49 => ofN (wrapU 32 ((s.track.integ[0]?).getD 0))
    | 50 => ofN (wrapU 32 ((s.track.integ[1]?).getD 0))
    | 51 => s.readReg .STAGE_CAD_STATUS
    | 52 => s.readReg .POWER_STATE
    | 53 => s.readReg .POWER_EST
    | 54 => s.readReg .HBM_STATUS
    | 55 => s.readReg .FAULT_FIRST
    | 56 => ofN s.notCaptured
    | _ => 0

/-- Every word of a snapshot. -/
def State.snapWords (s : State) (seq src code beat : Nat) : Vector Word 64 :=
  Vector.ofFn (fun w => s.snapWord seq src code beat w.val)

/-! ## Rimshots -/

/-- SNAP_CFG enables source src (R538). -/
def State.rimOn (s : State) (src : Nat) : Bool := bit (s.fd F.SNAP_CFG_SRC_EN) src == 1

/-- The 100 ns pulse on RIMSHOT_OUT of an accepted rimshot (R541). -/
def rimPulse (s : State) : State :=
  if s.fb F.SNAP_CFG_OUT_EN then { s with snap := { s.snap with outHigh := true, outUntil := s.now + 100000 } } else s

/-- A rimshot that cannot be captured (R540). -/
def rimMissed (src code : Nat) (t : Int) (s : State) : State :=
  ((s.bump F.SNAP_MISSED_COUNT).raise .SAF_SNAP_MISSED).mark (.missed src code t (s.rg .SNAP_MISSED))

/-- Capture: SEQ rises, HELD is set, the words are taken (R538, R540). `t` is the stage time that word 6 refers to. -/
def snapCapture (src code : Nat) (t : Int) (s : State) : State :=
  let f := match s.lastBeat t with
    | some b => (b, s)
    | none => s.free 30
  let seq := (s.snap.seq + 1) % 65536
  { f.2 with snap := { f.2.snap with
    seq := seq, held := true, capturing := some src, words := s.snapWords seq src code f.1 } }.mark .captured

/-- A rimshot reaches this device's snapshot logic: captured or missed (R540). Of two in one cycle, a fault's is the one captured
(Table 17-5). -/
def rimTake (src code : Nat) (t : Int) (s : State) : State :=
  let s1 := rimPulse s
  if src = 4 ∧ s1.saw .captured = true ∧ s1.snap.capturing ≠ some 4 then
    rimMissed src code t (snapCapture src code t { s1 with snap := { s1.snap with seq := (s1.snap.seq + 65535) % 65536 } })
  else if s1.snap.capturing.isSome || (s1.snap.held && !s1.fb F.SNAP_CFG_OVERWRITE) then rimMissed src code t s1
  else snapCapture src code t s1

/-- The lead passes rimshots of its own to the column (R539). -/
def State.rimColumn (s : State) : Bool := s.str.role == .lead && s.native && s.fb F.SNAP_CFG_COLUMN

/-- A rimshot of source src arises (R538, R539); `code` is the fault of source 4. -/
def rimshot (src code : Nat) (s : State) : State :=
  if !(s.rimOn src) then s
  else if s.rimColumn && src != 3 then (rimPulse s).cadDue ⟨7, 0, 0⟩
  else rimTake src code s.stageT s

/-- The cadence command executes: word 6 refers to its execution instant (Table 17-2). -/
def rimCadence (t : Int) (s : State) : State := if s.rimOn 3 then rimTake 3 0 t s else s

/-- Instant of the first scheduled command with this code, now if there is none. -/
def State.dueAt (s : State) (code : Nat) : Int :=
  match s.cad.scheduled.find? (fun e => e.2.code == code && decide (s.stageT ≥ e.1)) with
  | some e => e.1
  | none => s.stageT

/-- A rimshot missed in this cycle because a snapshot was held, before a RELEASE of the cycle, is captured (Table 17-5). -/
def rimRetake (s : State) (e : CycleEvent) : State :=
  match e with
  | .missed src code t n => if s.snap.held then s else snapCapture src code t (s.setRg .SNAP_MISSED n)
  | _ => s

/-- RELEASE of SNAP_CMD (R540); one that meets a capture of its cycle comes before it (Table 17-5). -/
def snapRelease (s : State) : State :=
  if s.saw .captured then s
  else
    let s1 := { s with snap := { s.snap with held := false } }
    if s.snap.capturing.isSome then s1 else s.cyc.reverse.foldl rimRetake s1

/-- SNAP_CMD by its CMD field (Table 17-6); other values are ignored. -/
def doSnapCmd (c : Nat) (s : State) : State :=
  match c with
  | 1 => rimshot 0 0 s
  | 2 => snapRelease s
  | _ => s

/-- A rising edge on RIMSHOT_IN: a rimshot, and wake source 4 (Table 15-6). -/
def rimEdge (s : State) : State := rimshot 1 0 (if s.glob.ready then s.wake 4 else s)

/-- The capture is complete (R538). -/
def captureDone (s : State) : State := { s with snap := { s.snap with capturing := none } }

/-- RIMSHOT_OUT falls (R541). -/
def rimFall (s : State) : State :=
  if s.snap.outHigh && decide (s.now ≥ s.snap.outUntil) then { s with snap := { s.snap with outHigh := false } } else s

/-! ## Meanings -/

/-- SNAP_RIMSHOT (R538). -/
def execSnapRimshot (s : State) : Host.Outcome State Fault Refusal := .next (s.hostCmd .SNAP_CMD 1 (doSnapCmd 1))

/-- SNAP_RELEASE (R540). -/
def execSnapRelease (s : State) : Host.Outcome State Fault Refusal := .next (s.hostCmd .SNAP_CMD 2 (doSnapCmd 2))

/-- RIMSHOT_IN_EDGE (R538). -/
def execRimshotInEdge (s : State) : Host.Outcome State Fault Refusal := .next (s.whenAon rimEdge)

/-- SNAP_CAPTURE_DONE (R538). -/
def execSnapCaptureDone (s : State) : Host.Outcome State Fault Refusal := .next (s.whenAon captureDone)

/-- RIMSHOT_OUT_FALL (R541). -/
def execRimshotOutFall (s : State) : Host.Outcome State Fault Refusal := .next (s.whenAon rimFall)

/-- CAD_RIMSHOT (R539): with a frame, its arrival at a member; without one, its execution. -/
def execCadRimshot (l : List Byte) (s : State) : Host.Outcome State Fault Refusal :=
  .next (s.whenReady (fun s => cadRow 7 l (fun _ => rimCadence (s.dueAt 7)) s))

end Sys2Proof.Machine
end

