-- ==== Sys2Proof/Machine/Faults.lean ====
section
/-! DEFINITION. AON's handling of a raising (R527 to R529), the stall monitors (R534, R535) and thermal protection (R536, R537). -/

namespace Sys2Proof.Machine

/-! ## Handling of a raising (R528, R529) -/

/-- The oldest raising leaves the FIFO, and the oldest one that waits enters it (R527). -/
def FaultSt.pop (f : FaultSt) : Option ((Nat × Nat) × FaultSt) :=
  match f.fifo with
  | [] => none
  | e :: r => match f.waiting with
    | [] => some (e, { f with fifo := r })
    | w :: ws => some (e, { f with fifo := r ++ [w], waiting := ws })

/-- COUNT, RAISED and FAULT_FIRST. -/
def noteRaised (c n : Nat) (s : State) : State :=
  let s1 := (s.bump F.FAULT_CODE_STATUS_COUNT n c).setFlag F.FAULT_CODE_STATUS_RAISED 1 c
  if s1.fd F.FAULT_FIRST_CODE = 0 then s1.setFlag F.FAULT_FIRST_CODE c else s1

/-- The stage time base in a log entry; the manual gives none while STAGE is not running. -/
def State.stageStamp (s : State) : Nat × State :=
  if s.captures 16 then (s.stageT.toNat % 2 ^ 32, s) else s.free 32

/-- The log entry: the newest entry takes the count where it holds the same code and is less than 1 µs old. -/
def logRaised (c n : Nat) (s : State) : State :=
  let f := s.fault
  let last := (f.logNext + 63) % 64
  let e := s.logEntry last
  if e.valid ∧ e.code = c ∧ s.now < e.stamp + 1000000 then
    { s with fault := { f with log := Sparse.set LogEntry.empty f.log last { e with count := min 255 (e.count + n) } } }
  else
    let t := s.stageStamp
    { t.2 with fault := { f with
      log := Sparse.set LogEntry.empty f.log f.logNext ⟨true, c, min 255 n, s.stampN, t.1, s.now⟩
      logNext := (f.logNext + 1) % 64
      logTotal := min (2 ^ 26 - 1) (f.logTotal + 1) } }

/-- Field x of FAULT_CODE_ACTION of code c, as the cycle found it: a raising uses the selection before a write of its cycle
(Table 17-5). -/
def State.selects (s : State) (x : RegField) (c : Nat) : Bool :=
  match s.cyc.reverse.findSome? (fun e => match e with
    | .stored .FAULT_CODE_ACTION i old _ => if i = c then some old else none
    | _ => none) with
  | some old => wbit old x.lo
  | none => s.fb x c

/-- IRQ (R529): vector 64; CHK_PRIV_MISMATCH raises it whatever its selection (R522). -/
def actIrq (c : Nat) (s : State) : State :=
  if s.selects F.FAULT_CODE_ACTION_IRQ c || c == FaultCode.num .CHK_PRIV_MISMATCH then s.irq 64 else s

/-- DAMP (R529, R530): a local damp source, with AON's damp output. -/
def actDamp (c : Nat) (s : State) : State :=
  if s.selects F.FAULT_CODE_ACTION_DAMP c then
    let s1 := s.damp true c s.node
    { s1 with fault := { s1.fault with aonDamp := true } }
  else s

/-- RIMSHOT (R529): source 4. -/
def actRimshot (c : Nat) (s : State) : State := if s.selects F.FAULT_CODE_ACTION_RIMSHOT c then rimshot 4 c s else s

/-- One raising is handled. -/
def handleFault (s : State) : State :=
  match s.fault.pop with
  | none => s
  | some ((c, n), f) => actRimshot c (actDamp c (actIrq c (logRaised c n (noteRaised c n { s with fault := f }))))

/-! ## Stall monitors -/

/-- LIMIT_US in ps; values below 10 act as 10. -/
def State.stallLimit (s : State) : Nat := 1000000 * max 10 (s.fd F.FAULT_STALL_CFG_LIMIT_US)

/-- Island i has stalled (R534); AON is not monitored, nor is an island that does not run. -/
def doStall (i : Nat) (s : State) : State :=
  if i = 0 ∨ s.captures i = false then s
  else
    let s1 := s.setFlag F.FAULT_STALL_STATUS_ISLANDS (2 ^ i)
    let s2 := { s1 with fault := { s1.fault with stallTimers := Sparse.put s1.fault.stallTimers i s.now } }
    s2.runDamp .SAF_ISLAND_STALL

/-- Island i, still stalled LIMIT_US later, is reset (R535); the timer of an island whose clock has stopped pauses (Table 17-5). -/
def doStallReset (i : Nat) (s : State) : State :=
  match Sparse.find? s.fault.stallTimers i with
  | none => s
  | some t =>
    if !s.fb F.FAULT_STALL_CFG_RESET_EN || !(s.captures i) || i == 21 || i == 22 || decide (s.now < t + s.stallLimit) then s
    else
      let s1 := { s with fault := { s.fault with stallTimers := Sparse.erase s.fault.stallTimers i } }
      islandRelease i (islandReset i (s1.raise .SAF_ISLAND_RESET))

/-! ## Thermal protection -/

/-- Junction levels (R372): reached at 100, 110 and 115 °C, left 2 °C below, in 1/8 °C. -/
def levelUp (t : Int) : Nat := if t ≥ 920 then 3 else if t ≥ 880 then 2 else if t ≥ 800 then 1 else 0
def levelDown (t : Int) : Nat := if t > 904 then 3 else if t > 864 then 2 else if t > 784 then 1 else 0

/-- The sensors report tj: FAULT_TEMP, the level, and the faults of R536 where they are armed. -/
def junctionReads (tj : BitVec 12) (s : State) : State :=
  let t := tj.toInt
  let f := s.fault
  let lvl := max (levelUp t) (min f.junctionLevel (levelDown t))
  let s1 := (s.setFd F.FAULT_TEMP_TJ tj.toNat).setFd F.FAULT_TEMP_LEVEL lvl
  let s2 := { s1 with fault := { f with
    junctionLevel := lvl
    softArmed := if t ≥ 800 then false else f.softArmed || decide (t ≤ 784)
    hardArmed := if t ≥ 880 then false else f.hardArmed || decide (t ≤ 864) } }
  let s3 := s2.raiseIf (f.softArmed && decide (t ≥ 800)) .SAF_JUNCTION_SOFT
  s3.raiseIf (f.hardArmed && decide (t ≥ 880)) .SAF_JUNCTION_HARD

/-- Every island other than AON is OFF and every lane in electrical idle (Table 17-3, step 3). -/
def islandsOff (s : State) : State :=
  { s with
    glob := { s.glob with ready := false, linkUp := false, booting := none }
    caril := { s.caril with lanes := s.caril.lanes.map (fun l => { l with tx := .sleep, rx := .sleep, echoOk := false, wire := none }) }
    clock := { s.clock.closed with
      locked := Vector.replicate 6 false
      islands := s.clock.islands.mapFinIdx (fun i x _ => { x with ownReset := decide (i ≠ 0) }) } }

/-- The thermal trip (R537, Table 17-3). -/
def thermalTrip (s : State) : State :=
  if s.fault.tripped then s
  else
    let s1 := (s.setFlag F.FAULT_TRIP_CAUSE_TRIP).localDamp .SAF_THERMAL_TRIP
    islandsOff { s1 with fault := { s1.fault with tripped := true, thermtripN := false, aonDamp := true } }

/-- The junction reads tj; at 115 °C the device trips. -/
def junctionMoves (tj : BitVec 12) (s : State) : State :=
  let s1 := junctionReads tj s
  if tj.toInt ≥ 920 then thermalTrip s1 else s1

/-- The deferred cold reset of a trip starts below 100 °C (R537). -/
def doTripRecovery (tj : BitVec 12) (ta tb : Bool) (s : State) : State :=
  let s1 := junctionReads tj s
  if s1.fault.tripped && decide (tj.toInt < 800) then coldReset .thermal ta tb s1 else s1

/-! ## Meanings -/

/-- FAULT_HANDLE (R528). -/
def execFaultHandle (s : State) : Host.Outcome State Fault Refusal := .next (s.whenAon handleFault)

/-- SAF_ISLAND_STALL (R534). -/
def execSafIslandStall (i : Fin 24) (s : State) : Host.Outcome State Fault Refusal := .next (s.whenReady (doStall i.val))

/-- SAF_ISLAND_RESET (R535). -/
def execSafIslandReset (i : Fin 24) (s : State) : Host.Outcome State Fault Refusal := .next (s.whenReady (doStallReset i.val))

/-- JUNCTION_TEMP_CROSS (R536): the hottest junction rises to tj, in 1/8 °C. -/
def execJunctionTempCross (tj : BitVec 12) (s : State) : Host.Outcome State Fault Refusal :=
  .next (s.whenAon (fun s => if tj.toInt ≤ s.junction then s else junctionMoves tj s))

/-- JUNCTION_LEVEL_FALL (R372): the hottest junction falls to tj. -/
def execJunctionLevelFall (tj : BitVec 12) (s : State) : Host.Outcome State Fault Refusal :=
  .next (s.whenAon (fun s => if tj.toInt ≥ s.junction then s else junctionReads tj s))

/-- SAF_THERMAL_TRIP (R537): the junction reaches 115 °C. -/
def execSafThermalTrip (s : State) : Host.Outcome State Fault Refusal :=
  .next (s.whenAon (fun s => thermalTrip (if s.junction < 920 then junctionReads 920#12 s else s)))

/-- TRIP_RECOVERY (R537): the junction falls to tj; `ta` and `tb`: the flash does not answer for slot A or B. -/
def execTripRecovery (tj : BitVec 12) (ta tb : Bool) (s : State) : Host.Outcome State Fault Refusal :=
  .next (s.whenAon (doTripRecovery tj ta tb))

end Sys2Proof.Machine
end

