-- ==== Sys2Proof/Machine/Reset.lean ====
section
/-! DEFINITION. The commands of start-up and reset (Chapter 18), of a load from the host (R80, R99), the function-level reset of
function 0 (R559) and the PCIe configuration requests (R453, R555, R563). -/

namespace Sys2Proof.Machine

/-! ## Reset inputs -/

/-- Power-on reset is released (R549, R636): fuses, SMB_ADDR, the cause, then the boot phases; HELD is 0 (Table 18-4), and a low DAMP_N
raises SAF_DAMP_EXTERNAL (Table 22-12). -/
def powerOn (smb : Nat) (ta tb : Bool) (s : State) : State :=
  let s1 := { s with
    glob := { s.glob with aonReset := false, jtag := JtagSt.reset }
    smbus := { s.smbus with addr := smb }, snap := { s.snap with held := false, capturing := none } }
  (coldReset (if s.glob.brownout then .brownout else .powerOn) ta tb s1).raiseIf s.caril.dampN .SAF_DAMP_EXTERNAL

/-- The device state at a brown-out as POWER_AON_CAUSE.STATE reports it. -/
def DevState.code (d : DevState) : Nat :=
  match d with | .run => 0 | .hush => 1 | .dormant => 2

/-- The always-on regulator browns out (R508): the cause goes to its sticky cell, and the device is in power-on reset with every
lane silent. -/
def brownOut (s : State) : State :=
  let lp := s.power.state == .dormant
  let s1 := s.setFlag (if lp then F.POWER_AON_CAUSE_BROWNOUT_LP else F.POWER_AON_CAUSE_BROWNOUT_NORMAL)
  let s2 := s1.setFd F.POWER_AON_CAUSE_STATE s.power.state.code
  { s2 with
    glob := { s2.glob with ready := false, linkUp := false, booting := none, halted := false, brownout := true, aonReset := true }
    caril := { s2.caril with lanes := s2.caril.lanes.map (fun l => { l with tx := .sleep, rx := .sleep, echoOk := false, wire := none }) } }

/-- PERST_N goes low (R546, Table 18-5): a warm reset, or in a cold boot only the link restarts; a boot that has halted stays so until
a cold reset (R552). -/
def perstAssert (s : State) : State :=
  if s.glob.perstAsserted then s
  else
    let s1 := { s with glob := { s.glob with perstAsserted := true, linkUp := false } }
    match s1.glob.booting with
    | some true => s1
    | _ => if s1.glob.halted then recordCause .perst s1 else warmReset .perst s1

/-- PERST_N goes high (R554): link training starts once PCIE runs. -/
def perstDeassert (s : State) : State :=
  { s with glob := { s.glob with
    perstAsserted := false
    linkUp := s.glob.linkUp || (s.glob.perstAsserted && decide (s.glob.phase ≥ 1) && !s.fault.tripped) } }

/-- A write of v to GLOBAL_RESET_CMD (R547, Table 18-7). A warm reset waits for an APPLY to complete (Table 18-5). -/
def doResetCmd (v : Nat) (ta tb : Bool) (s : State) : State :=
  if bits v 15 8 ≠ 0xA5 then s.raise .RST_BAD_REQUEST
  else match bits v 1 0 with
    | 1 => if s.prick.phase == .apply then { s with prick := { s.prick with thenWarm := true } } else warmReset .warmCmd s
    | 2 => coldReset .coldCmd ta tb s
    | _ => s

/-- The boot halts in phase ph (R552). Before the apply is complete no image is in force. -/
def bootHalt (ph : Nat) (s : State) : State :=
  if s.glob.booting.isNone || s.glob.halted || (ph == 4 && s.str.safe) then s
  else
    let s1 := if s.glob.booting = some true ∧ ph ≤ 3 then
        { s with
          str := Structure.safeStructure
          prick := if ph ≤ 1 then PrickSt.reset else { s.prick with applied := [], imageId := 0, lastOk := false }
          glob := { s.glob with crs := true, safeBoot := false } }
      else s
    { s1 with glob := { s1.glob with phase := ph, halted := true, failCode := FaultCode.num .RST_BOOT_HALT } }.raise .RST_BOOT_HALT

/-! ## Configuration requests -/

/-- PCIe function f is present (R453, R555). -/
def State.funcPresent (s : State) (f : Nat) : Bool := f == 0 || decide (f ≤ s.str.mode)

/-- Function f presents the TL-40 identity (R55, Table 19-1). -/
def State.tlIdent (s : State) (f : Nat) : Bool := decide (1 ≤ f) && bit s.str.tlIdentity (f - 1) == 1

/-- What a configuration register of a present function reads (R453, Table 19-1). -/
def State.cfgRead (s : State) (f : Nat) (r : CfgReg) : Nat :=
  let tl := s.tlIdent f
  let vendor := if tl then Config.swiegVendor.toNat else 0x1F64
  match r with
  | .vendorDevice => vendor + 65536 * (if tl then 0x0040 else if f = 0 then 0x6416 else 0x6417)
  | .classRevision => if tl then 0x11800003 else 0x120000A1
  | .subsystem => vendor + 65536 * (if tl then 0x0040 else 0x0001)
  | .linkControl => if f = 0 ∧ s.glob.aspm = true then 2 else 0
  | .msiControl => if f = 0 then 0 else 65536 * b2n (s.pers (f - 1)).msiOn

/-- A write to a configuration register: ASPM L1 of function 0 and the MSI enable of a personality; identities are read-only. -/
def cfgWrite (f : Nat) (r : CfgReg) (v : Word) (s : State) : State :=
  match r with
  | .linkControl => if f = 0 then { s with glob := { s.glob with aspm := wbit v 1 } } else s
  | .msiControl => if f = 0 then s else s.setPers (f - 1) { s.pers (f - 1) with msiOn := wbit v 16 }
  | _ => s

/-- A configuration request (R555): Request Retry Status until the function set is fixed, and no function where none is present;
a request to function 0 in DORMANT is wake source 1. -/
def doConfig (f : Nat) (r : CfgReg) (wr : Option Word) (s : State) : State :=
  if !s.glob.linkUp then s
  else if s.glob.crs then s.emit (.config f true 0)
  else
    let s1 := if s.glob.ready && s.power.state == .dormant && f == 0 then s.wake 1 else s
    if !(s1.funcPresent f) then s1.emit (.config f false (BitVec.allOnes 32))
    else match wr with
      | some v => cfgWrite f r v s1
      | none => s1.emit (.config f false (BitVec.ofNat 32 (s1.cfgRead f r)))

/-! ## Meanings -/

/-- POWER_ON_RESET (R549): `smb` is SMB_ADDR; `ta` and `tb`: the flash does not answer for slot A or B. -/
def execPowerOnReset (smb : BitVec 2) (ta tb : Bool) (s : State) : Host.Outcome State Fault Refusal :=
  .next (powerOn smb.toNat ta tb s)

/-- SYS_RST (R546). -/
def execSysRst (ta tb : Bool) (s : State) : Host.Outcome State Fault Refusal := .next (s.whenAon (coldReset .sysRst ta tb))

/-- PWR_AON_BROWNOUT (R508). -/
def execPwrAonBrownout (s : State) : Host.Outcome State Fault Refusal := .next (brownOut s)

/-- PERST_ASSERT (R558). -/
def execPerstAssert (s : State) : Host.Outcome State Fault Refusal := .next (s.whenAon perstAssert)

/-- PERST_DEASSERT (R554). -/
def execPerstDeassert (s : State) : Host.Outcome State Fault Refusal := .next (s.whenAon perstDeassert)

/-- WARM (R547). -/
def execWarm (key : BitVec 8) (s : State) : Host.Outcome State Fault Refusal :=
  .next (s.hostCmd .GLOBAL_RESET_CMD (1 + 256 * key.toNat) (doResetCmd (1 + 256 * key.toNat) false false))

/-- COLD (R547). -/
def execCold (key : BitVec 8) (ta tb : Bool) (s : State) : Host.Outcome State Fault Refusal :=
  .next (s.hostCmd .GLOBAL_RESET_CMD (2 + 256 * key.toNat) (doResetCmd (2 + 256 * key.toNat) ta tb))

/-- RST_BOOT_HALT (R552): in phase 1, 3 or 4. -/
def execRstBootHalt (ph : Fin 3) (s : State) : Host.Outcome State Fault Refusal :=
  .next (s.whenAon (bootHalt (if ph.val = 0 then 1 else ph.val + 2)))

/-- BOOT_READY (R551). -/
def execBootReady (s : State) : Host.Outcome State Fault Refusal := .next (s.whenAon bootReady)

/-- FLR_FUNCTION_0 (R559). -/
def execFlrFunction0 (s : State) : Host.Outcome State Fault Refusal :=
  .next (s.whenUp (fun s => doFlr0 (if s.power.state == .dormant then s.wake 1 else s)))

/-- CONFIG_REQUEST (R555): a read, or a write of a value, of a register of function f. -/
def execConfigRequest (f : Fin 8) (r : CfgReg) (wr : Option Word) (s : State) : Host.Outcome State Fault Refusal :=
  .next (s.whenAon (doConfig f.val r wr))

/-- LOAD (R80). -/
def execLoad (s : State) : Host.Outcome State Fault Refusal := .next (s.hostCmd .PRICK_CMD 2 (doPrickCmd 2))

/-- VERIFY (R80). -/
def execVerify (s : State) : Host.Outcome State Fault Refusal := .next (s.hostCmd .PRICK_CMD 1 (doPrickCmd 1))

/-- IMAGE_SECTION_ARRIVES (R80): the next bytes of the image, or a failed read. -/
def execImageSectionArrives (bytes : List Byte) (reply : HostReply) (s : State) : Host.Outcome State Fault Refusal :=
  .next (s.whenReady (imageArrives bytes reply))

/-- FILL_DONE (R445): the fill of a re-prick lets its apply go on. -/
def execFillDone (bad : BitVec 64) (s : State) : Host.Outcome State Fault Refusal :=
  .next (if s.hbm.filling then applyResume (doFillDone bad.toNat s) else s)

/-- LOAD_END (R99). -/
def execLoadEnd (s : State) : Host.Outcome State Fault Refusal := .next (s.whenReady loadEnd)

end Sys2Proof.Machine
end

