-- ==== Sys2Proof/Machine/RegWrite.lean ====
section
/-! DEFINITION. Register writes (R10 to R12, R454 to R458, R564, R603 to R615): what a write does to a register, to a command
register, to a ring page and to a window, and the writes that an exit from HUSH or DORMANT performs (R505). -/

namespace Sys2Proof.Machine

/-! ## Command registers -/

/-- One of the commands of a list by its code; other values are ignored. -/
def pickCmd (c : Nat) (l : List (State → State)) (s : State) : State :=
  match c with
  | 0 => s
  | n + 1 => match l[n]? with
    | some f => f s
    | none => s

/-- LANE_CMD. -/
def laneCmd (c : Nat) : State → State := pickCmd c [doRetrain, doEyeCal, doTxSleep, doTxWake, doRxSleep, doRxWake]

/-- RING_CMD of ring n. -/
def ringCmd (c n : Nat) : State → State := pickCmd c [doRingEnable n, doRingDisable n, doRingAbort n, doRingReset n]

/-- CHECK_CMD. -/
def checkCmd (c : Nat) (s : State) : State :=
  if 1 ≤ c ∧ c ≤ 4 then doCheck c s else if c = 7 then doCheckAbort s else s

/-- TIME_SERVO_CMD: RESTART, and APPLY with or without FORCE. -/
def servoCmd (v : Word) (s : State) : State :=
  let s1 := if wbit v 2 then invalidateTime s else s
  if wbit v 0 then doServo (wbit v 1) s1 else s1

/-- TIME_CMD: LATCH, then SET. -/
def timeCmd (v : Word) (s : State) : State :=
  let s1 := if wbit v 0 then doTimeLatch s else s
  if wbit v 1 then doTimeSet s1 else s1

/-- A command register takes a written value; none for the other registers. -/
def commandOf (r : Reg) (v : Word) : Option (State → State) :=
  let c := v.toNat
  match r with
  | .PLAN_STRIPE_CMD => some (pickCmd (c % 8) [doArm, doDisarm, doStart, doAbort, doRelease])
  | .PLAN_SCAN_CMD => some (pickCmd (c % 4) [doScanStart .electrical, doScanStart .gate, scanEnd doScanAbort])
  | .PRICK_CMD => some (doPrickCmd (c % 4))
  | .HBM_CMD => some (pickCmd (c % 2) [doRemap])
  | .HBM_SCRUB_CMD => some (pickCmd (c % 4) [doScrubStart, doScrubAbort])
  | .HBM_INJECT_CMD => some (doInject (c % 4))
  | .LACE_CMD => some (pickCmd (c % 4) [doLaceOpen, doLaceClose])
  | .LACE_LIB_CMD => some (pickCmd (c % 4) [doLibRegister, libUnregister])
  | .LANE_CMD => some (laneCmd (c % 8))
  | .STAGE_MET_CMD => some (pickCmd (c % 2) [doMetCal])
  | .STAGE_CMP_CMD => some (pickCmd (c % 4) [doCmpArm, doCmpDisarm])
  | .STAGE_MOVE_CMD => some (pickCmd (c % 4) [doMove, doStop])
  | .TRACK_BANK_CMD => some (pickCmd (c % 2) [doSwap])
  | .TRACK_REP_CMD => some (pickCmd (c % 2) [doTrackClear])
  | .TRACK_MAP_DATA => some (doMapWrite v)
  | .TRACK_REP_CFG => some (doRepCfgWrite v)
  | .TIME_CMD => some (timeCmd v)
  | .TIME_SERVO_CMD => some (servoCmd v)
  | .TIME_TRIG_CMD => some (pickCmd (c % 4) [doTrigArm, doTrigDisarm])
  | .RING_CMD => some (fun s => ringCmd (c % 8) (s.fd F.RING_SEL_RING) s)
  | .RING_TAIL => some (fun s => doRingTail (s.fd F.RING_SEL_RING) (c % 65536) s)
  | .RING_GRANT => some (doRingGrant c)
  | .RING_SLOT_RELEASE => some (fun s => doSlotRelease (s.fd F.RING_SLOT_SEL_SLOT) c s)
  | .CHECK_CMD => some (checkCmd (c % 8))
  | .POWER_CMD => some (doPowerCmd (c % 4) false)
  | .SNAP_CMD => some (doSnapCmd (c % 4))
  | .GLOBAL_RESET_CMD => some (doResetCmd c false false)
  | .GLOBAL_FLASH_CMD => some (doFlashCmd (c % 8))
  | .BOB_DISABLE => some (serviceWrap (fun s => s.setRg .BOB_DISABLE v))
  | .BOB_FAIL_MASK => some (failMaskClear v)
  | .CARIL_DAMP_STATUS => some (fun s => if wbit v 1 then clearLatch s else s)
  | _ => none

/-! ## When a register cannot be written -/

/-- The coefficient registers of a tracking bank (R390). -/
def coefReg (r : Reg) : Bool :=
  match r with
  | .TRACK_KP | .TRACK_KI | .TRACK_KR | .TRACK_REP_Q | .TRACK_SHIFTS | .TRACK_ILIM | .TRACK_ULIM => true
  | _ => false

/-- The fault with which a write to r is ignored now; none where it acts. -/
def State.writeFault (s : State) (r : Reg) : Option FaultCode :=
  match idleFault r with
  | some c => if s.allIdle then none else some c
  | none => match r with
    | .GLOBAL_FLASH_ADDR | .GLOBAL_FLASH_DATA => if s.glob.flash.running.isSome then some .GLB_FLASH_BUSY else none
    | .TRACK_MAP_SEL | .TRACK_MAP_INDEX | .TRACK_MAP_BASE_LO | .TRACK_MAP_BASE_HI | .TRACK_PARK =>
      if s.plan.state.running then some .TRK_BUSY else none
    | .NET_PORT_CFG | .NET_VLAN | .NET_IP4_ADDR | .NET_IP6_ADDR0 | .NET_IP6_ADDR1 | .NET_IP6_ADDR2 | .NET_IP6_ADDR3 =>
      if s.anyActive then some .NET_CONFIG_BUSY else none
    | .RING_GRANT_BASE | .RING_GRANT_SIZE =>
      if s.groupGranted (max 1 (s.fd F.RING_GRANT_SEL_GROUP)) then some .HST_RING_BUSY else none
    | .CHECK_CFG | .CHECK_POLY | .CHECK_INIT | .CHECK_XOROUT | .CHECK_SEQ | .CHECK_BASE_LO | .CHECK_BASE_HI |
      .CHECK_SIZE_LO | .CHECK_SIZE_HI | .CHECK_EXPECT => if s.checkBusy s.checkSel then some .CHK_BUSY else none
    | _ => if coefReg r && s.track.swapPending then some .TRK_SWAP_BUSY else none

/-- Writes to r are ignored without fault: views of what is active (Tables 10-4, 12-7). -/
def State.writeView (s : State) (r : Reg) : Bool :=
  match r with
  | .HBM_HASH_MASK_LO | .HBM_HASH_MASK_HI => s.fb F.HBM_HASH_SEL_VIEW
  | _ => coefReg r && s.fb F.TRACK_AXIS_SEL_VIEW

/-! ## Plain registers -/

/-- The word a write leaves in a register (R10 to R12): RW bits take the value, W1C bits clear where it is 1, the rest stay. -/
def Reg.written (r : Reg) (old v : Word) : Word :=
  ((old &&& ~~~r.rwMask) ||| (v &&& r.rwMask)) &&& ~~~(v &&& r.w1cMask)

/-- Instance i of register r is written; a W1C bit that the device has set in this cycle stays set (R11). -/
def storeReg (r : Reg) (i : Nat) (v : Word) (s : State) : State :=
  s.setRg r (r.written (s.rg r i) (v &&& ~~~(r.w1cMask &&& s.setNow r i))) i

/-- The write keeps the bits of `keep`; fault c where it would change them. -/
def storeKeeping (r : Reg) (keep : Word) (c : FaultCode) (v : Word) (s : State) : State :=
  let old := s.rg r 0
  let s1 := s.raiseIf (decide ((old ^^^ v) &&& (keep &&& r.rwMask) ≠ 0)) c
  storeReg r 0 ((v &&& ~~~keep) ||| (old &&& keep)) s1

/-! ## Registers with effects of their own -/

/-- The latencies of Table 11-1 for a port mode, TX and RX. -/
def portLatency (mode : Nat) (nofec : Bool) : Nat × Nat :=
  if mode = 1 ∨ mode = 2 then (46400, 138200)
  else if mode = 3 ∨ mode = 4 then (if nofec then (28600, 41300) else (71000, 262500))
  else (0, 0)

/-- A MAC loses its link (Table 11-11). -/
def dropLink (s : State) (mac : Nat) : State :=
  if s.linked mac then ({ s with net := { s.net with link := s.net.link - 2 ^ mac } }).raise .NET_LINK_DOWN else s

/-- NET_PORT_CFG of port p: a change of MODE or NOFEC25 reloads the latencies of its MACs (Table 11-7), and MACs that the mode
does not have lose their link. -/
def portWrite (p : Nat) (v : Word) (s : State) : State :=
  let s1 := storeReg .NET_PORT_CFG p v s
  let m := s1.fd F.NET_PORT_CFG_MODE p
  let nf := s1.fb F.NET_PORT_CFG_NOFEC25 p
  if m = s.fd F.NET_PORT_CFG_MODE p ∧ nf = s.fb F.NET_PORT_CFG_NOFEC25 p then s1
  else
    let lat := portLatency m nf
    let s2 := (List.range 4).foldl (fun s i =>
      (s.setFd F.NET_PTP_TX_LAT_PS lat.1 (4 * p + i)).setFd F.NET_PTP_RX_LAT_PS lat.2 (4 * p + i)) s1
    ((List.range 4).filter (fun i => bit (modeMacs m) i == 0)).foldl (fun s i => dropLink s (4 * p + i)) s2

/-- LANE_FFE of lane n: accepted on a TL-40 lane, and effective while its pipeline is IDLE (R330). -/
def ffeWrite (n : Nat) (v : Word) (s : State) : State :=
  if !s.tlLane n then s
  else if (s.pers (n / 4)).state == .idle then s.setTaps n (fld v 4 0) (fld v 12 8) (fld v 20 16)
  else s.setLane n { s.lane n with ffe := some v }

/-- RING_BASE and RING_CFG of ring n, in DISABLED only (R460). -/
def ringCfgWrite (r : Reg) (n : Nat) (v : Word) (s : State) : State :=
  if (s.ring n).st == .disabled then storeReg r n v s else s.raise .HST_RING_BUSY

/-- Registers whose write goes elsewhere than to a plain word; none for plain registers. -/
def effectOf (r : Reg) (i : Nat) (v : Word) : Option (State → State) :=
  match r with
  | .PLAN_DEFECT_DATA => some (fun s => stageEntry .defects (s.fd F.PLAN_DEFECT_SEL_BEAM) (fld v 15 0) s)
  | .PLAN_SEAM_DEFECT_DATA => some (fun s =>
      stageEntry .seams (seamKey (s.fd F.PLAN_SEAM_DEFECT_SEL_SIDE) (s.fd F.PLAN_SEAM_DEFECT_SEL_ENTRY)) (fld v 15 0) s)
  | .CARIL_TRIM_DATA => some (fun s => stageEntry .trims (s.fd F.CARIL_TRIM_SEL_BEAM) (fld v 7 0) s)
  | .GLOBAL_ACCESS_LOG => some (fun s => relog (storeReg .GLOBAL_ACCESS_LOG 0 v s))
  | .BOB_LIVE_CFG => some (capWrap (storeReg .BOB_LIVE_CFG i v))
  | .LANE_FFE => some (ffeWrite i v)
  | .TRACK_CFG => some (fun s =>
      if s.plan.state.running then storeKeeping .TRACK_CFG (~~~(16#32)) .TRK_BUSY v s else storeReg .TRACK_CFG 0 v s)
  | .STAGE_TEMP_CFG => some (tempCfgWrite v)
  | .NET_PORT_CFG => some (portWrite i v)
  | .POWER_PMBUS_CFG => some (fun s =>
      if s.power.state == .hush then storeReg .POWER_PMBUS_CFG 0 v s else storeKeeping .POWER_PMBUS_CFG 127#32 .PWR_BUSY v s)
  | .FAULT_FIRST => some (fun s => if fld v 15 0 = 0xFFFF ∧ s.setNow .FAULT_FIRST 0 = 0 then s.setFd F.FAULT_FIRST_CODE 0 else s)
  | .RING_BASE_LO | .RING_BASE_HI | .RING_CFG => some (ringCfgWrite r i v)
  | _ => none

/-- A write that access rules let through. -/
def writeThrough (r : Reg) (w : Nat) (v : Word) (s : State) : State :=
  let i := s.inst r w
  match commandOf r v with
  | some f => f s
  | none => match s.writeFault r with
    | some c => s.raise c
    | none =>
      if s.writeView r then s
      else
        let s1 := match effectOf r i v with
          | some f => f s
          | none => storeReg r i v s
        crossWords (r.offset / 0x10000) (if armTakes r || r == .TRACK_CFG || r == .FAULT_CODE_ACTION then s1.mark (.stored r i (s.rg r i) (s1.rg r i)) else s1)

/-- A write of v to word w of register r: absent registers ignore it (R609), locked bits keep their value, and the write is
refused in part where it would change one (R614). -/
def regWrite (r : Reg) (w : Nat) (v : Word) (s : State) : State :=
  if s.regAbsent r then s
  else
    let m := lockMask s.str.locks r
    let cur := s.readReg r w
    let s1 := if (v ^^^ cur) &&& m = 0 then s else (s.refused (r.off w) 1).raise .GLB_LOCKED_WRITE
    writeThrough r w ((v &&& ~~~m) ||| (cur &&& m)) (s1.mark (.hostWrote r (s.inst r w) v (s.rg r (s.inst r w))))

/-! ## The MSI-X table -/

/-- Word k of entry n of the MSI-X table is written. -/
def msixWord (k n : Nat) (v : Word) (s : State) : State :=
  match k with
  | 0 => { s with dma := { s.dma with
      msixAddr := Sparse.set 0 s.dma.msixAddr n (Sparse.get 0 s.dma.msixAddr n / 2 ^ 32 * 2 ^ 32 + v.toNat) } }
  | 1 => { s with dma := { s.dma with
      msixAddr := Sparse.set 0 s.dma.msixAddr n (Sparse.get 0 s.dma.msixAddr n % 2 ^ 32 + 2 ^ 32 * v.toNat) } }
  | 2 => { s with dma := { s.dma with msixData := Sparse.set 0 s.dma.msixData n v.toNat } }
  | _ =>
    if wbit v 0 then { s with dma := { s.dma with masked := s.dma.masked.setIfInBounds n true } }
    else if (s.dma.masked[n]?).getD true then doUnmask n s
    else s

/-- A write to the MSI-X table (R603); the pending-bit array is read-only. -/
def msixWrite (off : Nat) (v : Word) (s : State) : State :=
  if off ≥ 0x01F00800 then s else msixWord ((off - 0x01F00000) % 16 / 4) ((off - 0x01F00000) / 16) v s

/-! ## The three kinds of space -/

/-- A whole-word write to BAR0 is performed. -/
def writeAt (off : Nat) (v : Word) (s : State) : State :=
  match Reg.at? off with
  | some (r, w) => regWrite r w v s
  | none => if msixOffset off then msixWrite off v s else (s.refused off 2).raise .GLB_UNMAPPED

/-- A write to BAR0 arrives; `whole`: its byte enables cover the word (R455). -/
def bar0Write (off : Nat) (v : Word) (whole : Bool) (s : State) : State :=
  if !s.glob.ready then (s.refused off 4).raise .RST_NOT_READY
  else if !whole || decide (off % 4 ≠ 0) then (s.refused off 3).raise .HST_ACCESS
  else match Reg.at? off with
    | some (r, w) => s.hostWrite r w v (regWrite r w v)
    | none =>
      if s.power.state == .dormant then { s with power := { s.power with held := s.power.held ++ [(off, v)] } }.wake 1
      else writeAt off v s

/-- A write to ring page n of BAR2 is performed (R456, Table 13-3). -/
def pageWrite (n off : Nat) (v : Word) (s : State) : State :=
  if n < 8 then s
  else if !(s.groupGranted (n / 8)) then s.raise .HST_UNGRANTED
  else if off < 0x20 then
    (match Reg.at? (Reg.offset .RING_BASE_LO + off) with
    | some (.RING_CMD, _) => ringCmd (v.toNat % 8) n s
    | some (.RING_TAIL, _) => doRingTail n (v.toNat % 65536) s
    | some (.RING_BASE_LO, _) => ringCfgWrite .RING_BASE_LO n v s
    | some (.RING_BASE_HI, _) => ringCfgWrite .RING_BASE_HI n v s
    | some (.RING_CFG, _) => ringCfgWrite .RING_CFG n v s
    | _ => s)
  else if 0x1000 ≤ off ∧ off < 0x1800 ∧ off % 64 = 8 then doSlotRelease (32 * (n / 8) + (off - 0x1000) / 64) v.toNat s
  else s

/-- A write to BAR2 arrives. -/
def bar2Write (off : Nat) (v : Word) (whole : Bool) (s : State) : State :=
  if !s.glob.ready || decide (off ≥ 0x400000) then s
  else if !whole || decide (off % 4 ≠ 0) then s.raise .HST_ACCESS
  else if s.power.state == .dormant then
    { s with power := { s.power with held := s.power.held ++ [(bar2Mark + off, v)] } }.wake 1
  else pageWrite (off / 65536) (off % 65536) v s

/-- A write to the window of personality j arrives (R455, R564). -/
def windowWrite (j off : Nat) (v : Word) (whole : Bool) (s : State) : State :=
  if s.hasPers j && s.glob.ready && (!whole || decide (off % 4 ≠ 0)) then s.raise .HST_ACCESS
  else s.winAccess j off v (tlWindowWrite j off v)

/-- A host write to a space. -/
def hostStore (sp : Space) (off : Nat) (v : Word) (whole : Bool) (s : State) : State :=
  match sp with
  | .bar0 => bar0Write off v whole s
  | .bar2 => bar2Write off v whole s
  | .window j => windowWrite j.val (off % 65536) v whole s

/-! ## Exit to RUN -/

/-- A held write is performed (R504, R505); after a reset among them the rest meet a device that is not READY (R556). -/
def performOne (s : State) (e : Nat × Word) : State :=
  if !s.glob.ready then (if e.1 < bar2Mark then (s.refused e.1 4).raise .RST_NOT_READY else s)
  else if e.1 < bar2Mark then writeAt e.1 e.2 s
  else if e.1 < winKey 0 0 then pageWrite ((e.1 - bar2Mark) / 65536) ((e.1 - bar2Mark) % 65536) e.2 s
  else tlHeld ((e.1 - winKey 0 0) / 65536) ((e.1 - winKey 0 0) % 65536) e.2 s

/-- Every held write is performed, in arrival order. -/
def performHeld (s : State) : State := s.power.held.foldl performOne { s with power := { s.power with held := [] } }

/-- EXIT_DONE (R505). -/
def exitDone (s : State) : State :=
  match s.power.transit with
  | .exitHush => performHeld (hushExited s)
  | .exitDormant => performHeld (dormantExited s)
  | _ => s

/-! ## Meanings -/

/-- REG_WRITE (R606): a host write of one 32-bit word; `whole`: its byte enables cover the word (R455). -/
def execRegWrite (sp : Space) (off : BitVec 32) (v : BitVec 32) (whole : Bool) (s : State) : Host.Outcome State Fault Refusal :=
  .next (hostStore sp off.toNat v whole s)

/-- EXIT_DONE (R505). -/
def execExitDone (s : State) : Host.Outcome State Fault Refusal := .next (s.whenUp exitDone)

/-- The clock of island i runs: it is ON and not in reset (R493). -/
def State.islandRuns (s : State) (i : Nat) : Bool := !(s.island i).inReset && s.islandState i == 0

/-- What 2 ns bring to the blocks outside AON: waiting DRAM requests, the local clock, crossings and a beam check go on. -/
def fabricTick (s : State) : State := beamTick (clockTick (ctrlRise (crossStep s.islandRuns (serveWaiting s))))

/-- CLOCK_STEP (R411): 2 ns of the device's own time pass; the local clock advances while TIME runs, and so do the idle timers. -/
def execClockStep (s : State) : Host.Outcome State Fault Refusal :=
  .next ((({ s with now := s.now + 2000, cyc := [] } : State).whenReady fabricTick).whenUp (idleTick 2))

/-- ALIGN (Table 11-5): the metrology transactions restart on the target, and those in progress are cut; skipped while a stripe runs
or is armed. -/
def alignRefs (s : State) : State :=
  if s.plan.state.active then s.raise .TIM_ALIGN_SKIPPED else { s with stage := { s.stage with gridAt := s.stageT } }

/-- TRIGGER_FIRE (R417): trigger t is armed and its target is reached; it disarms, and its action follows (Table 11-5). -/
def fireTrigger (t : Nat) (s : State) : State :=
  if !s.fb F.TIME_TRIG_STATUS_ARMED t || !s.timeValid || later (s.trigN t) s.timeN then s
  else
    let s1 := (s.setFd F.TIME_TRIG_STATUS_ARMED 0 t).setFlag F.TIME_TRIG_STATUS_FIRED 1 t
    let s2 := s1.irq 67
    match s.trigAction t with
    | 1 => doStart s2
    | 2 => rimshot 2 0 s2
    | 3 => alignRefs s2
    | 4 => ppsPulse s2
    | _ => s2

/-- TRIGGER_FIRE (R417). -/
def execTriggerFire (t : Fin 4) (s : State) : Host.Outcome State Fault Refusal := .next (s.whenReady (fireTrigger t.val))

end Sys2Proof.Machine
end

