-- ==== Sys2Proof/Machine/Sideband.lean ====
section
/-! DEFINITION. The SMBus sideband (R542, Table 17-4) of the always-on island: it answers whatever the other islands do (R533). -/

namespace Sys2Proof.Machine

/-- The address byte of a write; a read's is one higher (R542). -/
def State.smbAddr (s : State) : Nat := 2 * (0x58 + s.smbus.addr % 4)

/-- The PEC of a write: over the address, the command code and the data. -/
def State.smbPec (s : State) (code : Nat) (data : List Byte) : Nat :=
  crc crcPec (leBytes 1 s.smbAddr ++ leBytes 1 code ++ data)

/-- A write or send command arrives: with a wrong PEC it is ignored (R542). -/
def smbWrite (code : Nat) (data : List Byte) (pec : Option (BitVec 8)) (f : State → State) (s : State) : State :=
  match pec with
  | none => f s
  | some p => if p.toNat = s.smbPec code data then f s else s.raise .SAF_SMBUS_PEC

/-- A block read answers with its byte count, its data and the PEC of the whole transfer. -/
def smbRead (code : Nat) (data : List Byte) (s : State) : State :=
  let b := leBytes 1 data.length ++ data
  let p := crc crcPec (leBytes 1 s.smbAddr ++ leBytes 1 code ++ leBytes 1 (s.smbAddr + 1) ++ b)
  s.emit (.smbus (b ++ leBytes 1 p))

/-- 32-bit words, each little-endian. -/
def wordBytes (l : List Word) : List Byte := (l.map (fun w => leBytes 4 w.toNat)).flatten

/-- The words of command 0x01. -/
def State.smbStatus (s : State) : List Word :=
  [s.readReg .POWER_STATE, s.readReg .PLAN_STRIPE_STATUS, s.readReg .FAULT_TEMP, s.readReg .FAULT_FIRST,
   s.readReg .CARIL_DAMP_STATUS, s.readReg .SNAP_STATUS]

/-- The words of command 0x03. -/
def State.smbCode (s : State) : List Word :=
  [s.rg .FAULT_CODE_STATUS s.smbus.codePtr, s.rg .FAULT_CODE_ACTION s.smbus.codePtr]

/-- The words of command 0x05, in the order of Table 17-6. -/
def State.smbLog (s : State) : List Word :=
  let e := s.logEntry s.smbus.logPtr
  [BitVec.ofNat 32 e.n, BitVec.ofNat 32 (e.n / 2 ^ 32), BitVec.ofNat 32 e.codeWord, BitVec.ofNat 32 e.stage]

/-- The words of command 0x07. -/
def State.smbSnap (s : State) : List Word :=
  (List.range 8).map (fun i => (s.snap.words[8 * s.smbus.snapPtr + i]?).getD 0)

/-- The words of command 0x08. -/
def State.smbCause (s : State) : List Word :=
  [s.readReg .POWER_AON_CAUSE, s.readReg .FAULT_TRIP_CAUSE, s.readReg .POWER_WAKE_STATUS]

/-! ## Meanings -/

/-- SMB_STATUS_READ (R542). -/
def execSmbStatusRead (s : State) : Host.Outcome State Fault Refusal := .next (s.whenAon (fun s => smbRead 0x01 (wordBytes s.smbStatus) s))

/-- SMB_FAULT_CODE_SET (R542). -/
def execSmbFaultCodeSet (code : BitVec 16) (pec : Option (BitVec 8)) (s : State) : Host.Outcome State Fault Refusal :=
  .next (s.whenAon (smbWrite 0x02 (leBytes 2 code.toNat) pec (fun s => { s with smbus := { s.smbus with codePtr := code.toNat } })))

/-- SMB_FAULT_CODE_READ (R542). -/
def execSmbFaultCodeRead (s : State) : Host.Outcome State Fault Refusal := .next (s.whenAon (fun s => smbRead 0x03 (wordBytes s.smbCode) s))

/-- SMB_LOG_INDEX_SET (R542): the byte's low six bits. -/
def execSmbLogIndexSet (idx : BitVec 8) (pec : Option (BitVec 8)) (s : State) : Host.Outcome State Fault Refusal :=
  .next (s.whenAon (smbWrite 0x04 [idx] pec (fun s => { s with smbus := { s.smbus with logPtr := idx.toNat % 64 } })))

/-- SMB_LOG_READ (R542). -/
def execSmbLogRead (s : State) : Host.Outcome State Fault Refusal := .next (s.whenAon (fun s => smbRead 0x05 (wordBytes s.smbLog) s))

/-- SMB_SNAP_GROUP_SET (R542): the byte's low three bits. -/
def execSmbSnapGroupSet (g : BitVec 8) (pec : Option (BitVec 8)) (s : State) : Host.Outcome State Fault Refusal :=
  .next (s.whenAon (smbWrite 0x06 [g] pec (fun s => { s with smbus := { s.smbus with snapPtr := g.toNat % 8 } })))

/-- SMB_SNAP_READ (R542). -/
def execSmbSnapRead (s : State) : Host.Outcome State Fault Refusal := .next (s.whenAon (fun s => smbRead 0x07 (wordBytes s.smbSnap) s))

/-- SMB_CAUSE_READ (R542). -/
def execSmbCauseRead (s : State) : Host.Outcome State Fault Refusal := .next (s.whenAon (fun s => smbRead 0x08 (wordBytes s.smbCause) s))

/-- SMB_WAKE (R542): wake source 2. -/
def execSmbWake (pec : Option (BitVec 8)) (s : State) : Host.Outcome State Fault Refusal :=
  .next (s.whenAon (smbWrite 0x10 [] pec (fun s => s.wake 2)))

/-- SMB_RIMSHOT (R542): a rimshot of source 0. -/
def execSmbRimshot (pec : Option (BitVec 8)) (s : State) : Host.Outcome State Fault Refusal :=
  .next (s.whenAon (smbWrite 0x11 [] pec (rimshot 0 0)))

end Sys2Proof.Machine
end

