-- ==== Sys2Proof/Machine/Dispatch.lean ====
section
/-! DEFINITION. One arm per command: each is one direct call of the command's meaning. -/

namespace Sys2Proof.Machine

/-- The effect of a command on everything but the queue. -/
def exec (i : Instr) (s : State) : Host.Outcome State Fault Refusal :=
  match i with
  | .arm => Sys2Proof.Machine.execArm s
  | .disarm => Sys2Proof.Machine.execDisarm s
  | .start => Sys2Proof.Machine.execStart s
  | .abort => Sys2Proof.Machine.execAbort s
  | .release => Sys2Proof.Machine.execRelease s
  | .verifyReturn l => Sys2Proof.Machine.execVerifyReturn l s
  | .verifyTimeout => Sys2Proof.Machine.execVerifyTimeout s
  | .plnUnderrunDamp => Sys2Proof.Machine.execPlnUnderrunDamp s
  | .axesSettled => Sys2Proof.Machine.execAxesSettled s
  | .cadenceSlot => Sys2Proof.Machine.execCadenceSlot s
  | .beatFrame l => Sys2Proof.Machine.execBeatFrame l s
  | .tickFrame l => Sys2Proof.Machine.execTickFrame l s
  | .verifyFrame l => Sys2Proof.Machine.execVerifyFrame l s
  | .cadenceFrameReturn l => Sys2Proof.Machine.execCadenceFrameReturn l s
  | .stgCadenceLost kind => Sys2Proof.Machine.execStgCadenceLost kind s
  | .stripeStart l => Sys2Proof.Machine.execStripeStart l s
  | .passStart l => Sys2Proof.Machine.execPassStart l s
  | .done l => Sys2Proof.Machine.execDone l s
  | .shift l => Sys2Proof.Machine.execShift l s
  | .damp l => Sys2Proof.Machine.execDamp l s
  | .cadAbort l => Sys2Proof.Machine.execCadAbort l s
  | .cadRimshot l => Sys2Proof.Machine.execCadRimshot l s
  | .beamCheck l => Sys2Proof.Machine.execBeamCheck l s
  | .beat => Sys2Proof.Machine.execBeat s
  | .pealStart => Sys2Proof.Machine.execPealStart s
  | .keepAlive n => Sys2Proof.Machine.execKeepAlive n s
  | .tl40FrameStart j => Sys2Proof.Machine.execTl40FrameStart j s
  | .dampSource loc code node => Sys2Proof.Machine.execDampSource loc code node s
  | .dampNAsserted => Sys2Proof.Machine.execDampNAsserted s
  | .dampNDeasserted => Sys2Proof.Machine.execDampNDeasserted s
  | .latchClear => Sys2Proof.Machine.execLatchClear s
  | .statusEcho n complete l => Sys2Proof.Machine.execStatusEcho n complete l s
  | .measureEcho n complete l => Sys2Proof.Machine.execMeasureEcho n complete l s
  | .trainEcho n complete l => Sys2Proof.Machine.execTrainEcho n complete l s
  | .echoTimeout n => Sys2Proof.Machine.execEchoTimeout n s
  | .trainFrame n adapted => Sys2Proof.Machine.execTrainFrame n adapted s
  | .trainTimeout n => Sys2Proof.Machine.execTrainTimeout n s
  | .retrain => Sys2Proof.Machine.execRetrain s
  | .eyeCal => Sys2Proof.Machine.execEyeCal s
  | .eyeCalDone n clear => Sys2Proof.Machine.execEyeCalDone n clear s
  | .txSleep => Sys2Proof.Machine.execTxSleep s
  | .txWake => Sys2Proof.Machine.execTxWake s
  | .rxSleep => Sys2Proof.Machine.execRxSleep s
  | .rxWake => Sys2Proof.Machine.execRxWake s
  | .laneWakeDone n tx => Sys2Proof.Machine.execLaneWakeDone n tx s
  | .metSample c w tref => Sys2Proof.Machine.execMetSample c w tref s
  | .recentreBlock => Sys2Proof.Machine.execRecentreBlock s
  | .metCal => Sys2Proof.Machine.execMetCal s
  | .metCalDone c clear good => Sys2Proof.Machine.execMetCalDone c clear good s
  | .cmpArm => Sys2Proof.Machine.execCmpArm s
  | .cmpDisarm => Sys2Proof.Machine.execCmpDisarm s
  | .profileUpdate => Sys2Proof.Machine.execProfileUpdate s
  | .move => Sys2Proof.Machine.execMove s
  | .stop => Sys2Proof.Machine.execStop s
  | .setpointFrame => Sys2Proof.Machine.execSetpointFrame s
  | .beatExtEdge => Sys2Proof.Machine.execBeatExtEdge s
  | .beatStallTimeout => Sys2Proof.Machine.execBeatStallTimeout s
  | .tempProjection => Sys2Proof.Machine.execTempProjection s
  | .tempHoldTimeout => Sys2Proof.Machine.execTempHoldTimeout s
  | .swap => Sys2Proof.Machine.execSwap s
  | .clear => Sys2Proof.Machine.execClear s
  | .trackMapDataWrite v => Sys2Proof.Machine.execTrackMapDataWrite v s
  | .trackRepCfgWrite v => Sys2Proof.Machine.execTrackRepCfgWrite v s
  | .tileIssue b => Sys2Proof.Machine.execTileIssue b s
  | .tileComplete b wrong refetch => Sys2Proof.Machine.execTileComplete b wrong refetch s
  | .tileDeliver => Sys2Proof.Machine.execTileDeliver s
  | .liveJobComplete b wrong refetch => Sys2Proof.Machine.execLiveJobComplete b wrong refetch s
  | .bobWatchdog b => Sys2Proof.Machine.execBobWatchdog b s
  | .bobSramUncorr b => Sys2Proof.Machine.execBobSramUncorr b s
  | .bobDisableWrite v => Sys2Proof.Machine.execBobDisableWrite v s
  | .bobFailMaskClear v => Sys2Proof.Machine.execBobFailMaskClear v s
  | .corrRowFinal => Sys2Proof.Machine.execCorrRowFinal s
  | .edgingRecord l => Sys2Proof.Machine.execEdgingRecord l s
  | .edgingReply l => Sys2Proof.Machine.execEdgingReply l s
  | .edgingRetry => Sys2Proof.Machine.execEdgingRetry s
  | .corEdgingLost d => Sys2Proof.Machine.execCorEdgingLost d s
  | .storeRowVerify => Sys2Proof.Machine.execStoreRowVerify s
  | .storeLineDeliver => Sys2Proof.Machine.execStoreLineDeliver s
  | .seamRecord l => Sys2Proof.Machine.execSeamRecord l s
  | .plnSeamLost d => Sys2Proof.Machine.execPlnSeamLost d s
  | .electrical => Sys2Proof.Machine.execElectrical s
  | .gate => Sys2Proof.Machine.execGate s
  | .scanAbort => Sys2Proof.Machine.execScanAbort s
  | .scanDone => Sys2Proof.Machine.execScanDone s
  | .laceOpen => Sys2Proof.Machine.execLaceOpen s
  | .laceClose => Sys2Proof.Machine.execLaceClose s
  | .chunkOpenArrives u w => Sys2Proof.Machine.execChunkOpenArrives u w s
  | .chunk u l => Sys2Proof.Machine.execChunk u l s
  | .register => Sys2Proof.Machine.execRegister s
  | .registerDone => Sys2Proof.Machine.execRegisterDone s
  | .unregister => Sys2Proof.Machine.execUnregister s
  | .load => Sys2Proof.Machine.execLoad s
  | .verify => Sys2Proof.Machine.execVerify s
  | .imageSectionArrives bytes reply => Sys2Proof.Machine.execImageSectionArrives bytes reply s
  | .loadEnd => Sys2Proof.Machine.execLoadEnd s
  | .dataDatagram l => Sys2Proof.Machine.execDataDatagram l s
  | .edgeDatagram l => Sys2Proof.Machine.execEdgeDatagram l s
  | .ctrlDatagram l => Sys2Proof.Machine.execCtrlDatagram l s
  | .ctrlPeriodic => Sys2Proof.Machine.execCtrlPeriodic s
  | .ptpFrameRx mac l => Sys2Proof.Machine.execPtpFrameRx mac l s
  | .netLinkDown mac => Sys2Proof.Machine.execNetLinkDown mac s
  | .linkUp mac => Sys2Proof.Machine.execLinkUp mac s
  | .clockStep => Sys2Proof.Machine.execClockStep s
  | .triggerFire t => Sys2Proof.Machine.execTriggerFire t s
  | .ppsOutRise => Sys2Proof.Machine.execPpsOutRise s
  | .ppsOutFall => Sys2Proof.Machine.execPpsOutFall s
  | .ppsInEdge => Sys2Proof.Machine.execPpsInEdge s
  | .apply => Sys2Proof.Machine.execApply s
  | .force => Sys2Proof.Machine.execForce s
  | .restart => Sys2Proof.Machine.execRestart s
  | .set => Sys2Proof.Machine.execSet s
  | .latch => Sys2Proof.Machine.execLatch s
  | .trigArm => Sys2Proof.Machine.execTrigArm s
  | .trigDisarm => Sys2Proof.Machine.execTrigDisarm s
  | .dramRead src a act at_ flipData flipCheck sram => Sys2Proof.Machine.execDramRead src a act at_ flipData flipCheck sram s
  | .dramWrite src a act data => Sys2Proof.Machine.execDramWrite src a act data s
  | .rhWindow => Sys2Proof.Machine.execRhWindow s
  | .rhHoldExpire => Sys2Proof.Machine.execRhHoldExpire s
  | .refresh _stack _bank => Sys2Proof.Machine.execRefresh _stack _bank s
  | .stackTempRead t0 t1 => Sys2Proof.Machine.execStackTempRead t0 t1 s
  | .remap => Sys2Proof.Machine.execRemap s
  | .fillDone bad => Sys2Proof.Machine.execFillDone bad s
  | .scrubStart => Sys2Proof.Machine.execScrubStart s
  | .scrubAbort => Sys2Proof.Machine.execScrubAbort s
  | .scrubDone => Sys2Proof.Machine.execScrubDone s
  | .inject mode => Sys2Proof.Machine.execInject mode s
  | .injectDisarm => Sys2Proof.Machine.execInjectDisarm s
  | .ringEnable page => Sys2Proof.Machine.execRingEnable page s
  | .ringDisable page => Sys2Proof.Machine.execRingDisable page s
  | .ringAbort page => Sys2Proof.Machine.execRingAbort page s
  | .ringReset page => Sys2Proof.Machine.execRingReset page s
  | .ringTailWrite page v => Sys2Proof.Machine.execRingTailWrite page v s
  | .descFetch n host => Sys2Proof.Machine.execDescFetch n host s
  | .copy n => Sys2Proof.Machine.execCopy n s
  | .fill n => Sys2Proof.Machine.execFill n s
  | .compare n => Sys2Proof.Machine.execCompare n s
  | .fence n => Sys2Proof.Machine.execFence n s
  | .notify n => Sys2Proof.Machine.execNotify n s
  | .lacePush n => Sys2Proof.Machine.execLacePush n s
  | .ptpSend n host reply => Sys2Proof.Machine.execPtpSend n host reply s
  | .ptpRecv n => Sys2Proof.Machine.execPtpRecv n s
  | .dmaBurst n c src dst reply => Sys2Proof.Machine.execDmaBurst n c src dst reply s
  | .opComplete n c => Sys2Proof.Machine.execOpComplete n c s
  | .slotRelease page k v => Sys2Proof.Machine.execSlotRelease page k v s
  | .ringGrantWrite v => Sys2Proof.Machine.execRingGrantWrite v s
  | .msixUnmask v => Sys2Proof.Machine.execMsixUnmask v s
  | .flrFunction0 => Sys2Proof.Machine.execFlrFunction0 s
  | .flrTl40 j => Sys2Proof.Machine.execFlrTl40 j s
  | .configRequest f r wr => Sys2Proof.Machine.execConfigRequest f r wr s
  | .regWrite sp off v whole => Sys2Proof.Machine.execRegWrite sp off v whole s
  | .pllUnlock p => Sys2Proof.Machine.execPllUnlock p s
  | .freqCheck u khz => Sys2Proof.Machine.execFreqCheck u khz s
  | .clockRecovered isPll n => Sys2Proof.Machine.execClockRecovered isPll n s
  | .xingReopen x => Sys2Proof.Machine.execXingReopen x s
  | .enterHush => Sys2Proof.Machine.execEnterHush s
  | .enterDormant smb => Sys2Proof.Machine.execEnterDormant smb s
  | .wake => Sys2Proof.Machine.execWake s
  | .hushIdleTimer => Sys2Proof.Machine.execHushIdleTimer s
  | .dormantIdleTimer smb => Sys2Proof.Machine.execDormantIdleTimer smb s
  | .hushEntryDone smb => Sys2Proof.Machine.execHushEntryDone smb s
  | .dormantEntryDone => Sys2Proof.Machine.execDormantEntryDone s
  | .wakeEvent src => Sys2Proof.Machine.execWakeEvent src s
  | .exitDone => Sys2Proof.Machine.execExitDone s
  | .pwrAonBrownout => Sys2Proof.Machine.execPwrAonBrownout s
  | .arbiterWindow fixed d0 d1 d2 d3 => Sys2Proof.Machine.execArbiterWindow fixed d0 d1 d2 d3 s
  | .pmbusReadback mode vout => Sys2Proof.Machine.execPmbusReadback mode vout s
  | .pmbusFailClear => Sys2Proof.Machine.execPmbusFailClear s
  | .compute => Sys2Proof.Machine.execCompute s
  | .append => Sys2Proof.Machine.execAppend s
  | .strip => Sys2Proof.Machine.execStrip s
  | .checkCompare => Sys2Proof.Machine.execCheckCompare s
  | .checkAbort => Sys2Proof.Machine.execCheckAbort s
  | .checkDone u => Sys2Proof.Machine.execCheckDone u s
  | .faultHandle => Sys2Proof.Machine.execFaultHandle s
  | .safIslandStall u => Sys2Proof.Machine.execSafIslandStall u s
  | .safIslandReset u => Sys2Proof.Machine.execSafIslandReset u s
  | .junctionTempCross tj => Sys2Proof.Machine.execJunctionTempCross tj s
  | .safThermalTrip => Sys2Proof.Machine.execSafThermalTrip s
  | .snapRimshot => Sys2Proof.Machine.execSnapRimshot s
  | .rimshotInEdge => Sys2Proof.Machine.execRimshotInEdge s
  | .snapCaptureDone => Sys2Proof.Machine.execSnapCaptureDone s
  | .snapRelease => Sys2Proof.Machine.execSnapRelease s
  | .smbStatusRead => Sys2Proof.Machine.execSmbStatusRead s
  | .smbFaultCodeSet code pec => Sys2Proof.Machine.execSmbFaultCodeSet code pec s
  | .smbFaultCodeRead => Sys2Proof.Machine.execSmbFaultCodeRead s
  | .smbLogIndexSet idx pec => Sys2Proof.Machine.execSmbLogIndexSet idx pec s
  | .smbLogRead => Sys2Proof.Machine.execSmbLogRead s
  | .smbSnapGroupSet g pec => Sys2Proof.Machine.execSmbSnapGroupSet g pec s
  | .smbSnapRead => Sys2Proof.Machine.execSmbSnapRead s
  | .smbCauseRead => Sys2Proof.Machine.execSmbCauseRead s
  | .smbWake pec => Sys2Proof.Machine.execSmbWake pec s
  | .smbRimshot pec => Sys2Proof.Machine.execSmbRimshot pec s
  | .powerOnReset smb ta tb => Sys2Proof.Machine.execPowerOnReset smb ta tb s
  | .sysRst ta tb => Sys2Proof.Machine.execSysRst ta tb s
  | .perstAssert => Sys2Proof.Machine.execPerstAssert s
  | .perstDeassert => Sys2Proof.Machine.execPerstDeassert s
  | .warm key => Sys2Proof.Machine.execWarm key s
  | .cold key ta tb => Sys2Proof.Machine.execCold key ta tb s
  | .rstBootHalt ph => Sys2Proof.Machine.execRstBootHalt ph s
  | .bootReady => Sys2Proof.Machine.execBootReady s
  | .tlFifoWrite j v => Sys2Proof.Machine.execTlFifoWrite j v s
  | .tlRect j => Sys2Proof.Machine.execTlRect j s
  | .tlTrap j => Sys2Proof.Machine.execTlTrap j s
  | .tlArray j => Sys2Proof.Machine.execTlArray j s
  | .tlStripe j => Sys2Proof.Machine.execTlStripe j s
  | .tlStart j => Sys2Proof.Machine.execTlStart j s
  | .tlEnd j => Sys2Proof.Machine.execTlEnd j s
  | .tlCommitRunIn j => Sys2Proof.Machine.execTlCommitRunIn j s
  | .tlDone j => Sys2Proof.Machine.execTlDone j s
  | .tlAbort j => Sys2Proof.Machine.execTlAbort j s
  | .fifoReset j => Sys2Proof.Machine.execFifoReset j s
  | .tlStatusRead j => Sys2Proof.Machine.execTlStatusRead j s
  | .tlFlowWrite j v => Sys2Proof.Machine.execTlFlowWrite j v s
  | .read => Sys2Proof.Machine.execRead s
  | .program => Sys2Proof.Machine.execProgram s
  | .erase4k => Sys2Proof.Machine.execErase4k s
  | .erase64k => Sys2Proof.Machine.execErase64k s
  | .flashDone timeout differs => Sys2Proof.Machine.execFlashDone timeout differs s
  | .cadenceLock => Sys2Proof.Machine.execCadenceLock s
  | .blockLockLost n => Sys2Proof.Machine.execBlockLockLost n s
  | .blockLockRegained n => Sys2Proof.Machine.execBlockLockRegained n s
  | .netFrameDiscard mac => Sys2Proof.Machine.execNetFrameDiscard mac s
  | .rimshotOutFall => Sys2Proof.Machine.execRimshotOutFall s
  | .tripRecovery tj ta tb => Sys2Proof.Machine.execTripRecovery tj ta tb s
  | .junctionLevelFall tj => Sys2Proof.Machine.execJunctionLevelFall tj s

end Sys2Proof.Machine
end

