-- ==== Sys2Proof/Safety.lean ====
section
/-! DEFINITION. What counts as a good state, in the terms the claims use: canonical storage, and the guarantee of Chapter 18
that no beam opens between the start of a reset and READY. -/

namespace Sys2Proof.Machine

/-- Memory is in its canonical form: rising addresses, and no byte that an unlisted address reads as. -/
def Memory.wf (m : Sparse Byte) : Bool := Sparse.wf 0#8 m

/-- The memories that commands write are canonical: DRAM, the marks of its check bits, and the flash. -/
def State.wf (s : State) : Bool :=
  Memory.wf s.dram && Sparse.wf 0 s.dramMark && Sparse.wf 0xFF#8 s.glob.flash.bytes

/-- A lane whose TX drives nothing. -/
def Lane.silent (l : Lane) : Bool := l.tx == .sleep

/-- R548: until READY every lane is in electrical idle. -/
def State.resetSilent (s : State) : Bool := s.glob.ready || s.caril.lanes.toList.all Lane.silent

/-- A beam of the device could open: READY, a lane in DATA, and no damp generator driving the lanes. -/
def State.beamsMayOpen (s : State) : Bool :=
  s.glob.ready && s.caril.lanes.toList.any (fun l => l.tx == .data) && !s.generatorOn

/-- The blocks outside AON run: READY, and not DORMANT. -/
abbrev State.up (s : State) : Prop := s.glob.ready = true ∧ s.power.state ≠ .dormant

/-- Commands act when they are written: READY, in RUN, no power transition running. -/
abbrev State.runs (s : State) : Prop := s.glob.ready = true ∧ s.power.state = .run ∧ s.power.transit = .none

/-- The state with a CMD wake event latched: source 0 of POWER_WAKE_STATUS (R503), noted for the tables of coinciding events. -/
def State.cmdSeen (s : State) : State := (s.setFlag F.POWER_WAKE_STATUS_SRC 1).mark (.woke 0)

/-- R515 holds no unit of class c back: the class was granted its whole demand, or no window has been judged. -/
abbrev State.fullGrant (s : State) (c : Nat) : Prop :=
  s.power.windows = 0 ∨ (0 < (s.power.grants[c]?).getD 0 ∧ (s.power.demand[c]?).getD 0 ≤ (s.power.grants[c]?).getD 0)

/-- The state of a device in RUN whose blocks have left reset. -/
theorem State.up_of_runs {s : State} (h : s.runs) : s.up := ⟨h.1, by rw [h.2.1]; decide⟩

end Sys2Proof.Machine
end

