-- ==== Sys2Proof/Frames.lean ====
section
/-! DEFINITION. Which commands may change a part of the state, in the terms the claims use: whole-machine rules that the chapters give
piece by piece. A command may change a part directly, or through what it sets off (a damp, a reset, a register write). -/

namespace Sys2Proof

/-- The command may change the structure that the image fixes. -/
def Instr.mayChangeStructure (c : Instr) : Bool :=
  match c with
  | .loadEnd .. | .fillDone .. | .regWrite .. | .exitDone .. | .powerOnReset .. | .sysRst .. | .warm .. | .cold ..
    | .rstBootHalt .. | .tripRecovery .. => true
  | _ => false

/-- The command may change the state of loads. -/
def Instr.mayChangePrick (c : Instr) : Bool :=
  match c with
  | .load .. | .verify .. | .imageSectionArrives .. | .loadEnd .. | .fillDone .. | .flrFunction0 .. | .regWrite ..
    | .exitDone .. | .powerOnReset .. | .sysRst .. | .perstAssert .. | .warm .. | .cold .. | .rstBootHalt ..
    | .tripRecovery .. => true
  | _ => false

/-- The command may change the check units. -/
def Instr.mayChangeCheck (c : Instr) : Bool :=
  match c with
  | .register .. | .registerDone .. | .load .. | .verify .. | .loadEnd .. | .fillDone .. | .flrFunction0 .. | .regWrite ..
    | .exitDone .. | .compute .. | .append .. | .strip .. | .checkCompare .. | .checkAbort .. | .checkDone ..
    | .powerOnReset .. | .sysRst .. | .perstAssert .. | .warm .. | .cold .. | .tripRecovery .. => true
  | _ => false

/-- The command may change the snapshot. -/
def Instr.mayChangeSnap (c : Instr) : Bool :=
  match c with
  | .cadRimshot .. | .triggerFire .. | .regWrite .. | .exitDone .. | .faultHandle .. | .snapRimshot .. | .rimshotInEdge ..
    | .snapCaptureDone .. | .snapRelease .. | .smbRimshot .. | .powerOnReset .. | .rimshotOutFall .. => true
  | _ => false

/-- The command may change the sideband's pointers. -/
def Instr.mayChangeSmbus (c : Instr) : Bool :=
  match c with
  | .regWrite .. | .exitDone .. | .smbFaultCodeSet .. | .smbLogIndexSet .. | .smbSnapGroupSet .. | .powerOnReset ..
    | .sysRst .. | .warm .. | .cold .. | .tripRecovery .. => true
  | _ => false

/-- The command may change lace intake and the libraries. -/
def Instr.mayChangeLace (c : Instr) : Bool :=
  match c with
  | .arm .. | .disarm .. | .abort .. | .release .. | .corrRowFinal .. | .storeRowVerify .. | .scanAbort .. | .scanDone ..
    | .laceOpen .. | .laceClose .. | .chunkOpenArrives .. | .chunk .. | .register .. | .registerDone .. | .unregister ..
    | .loadEnd .. | .dataDatagram .. | .edgeDatagram .. | .ctrlDatagram .. | .ptpFrameRx .. | .remap .. | .fillDone ..
    | .lacePush .. | .dmaBurst .. | .flrFunction0 .. | .regWrite .. | .exitDone .. | .powerOnReset .. | .sysRst ..
    | .perstAssert .. | .warm .. | .cold .. | .tripRecovery .. => true
  | _ => false

/-- The command may change the dose store. -/
def Instr.mayChangeStore (c : Instr) : Bool :=
  match c with
  | .arm .. | .disarm .. | .abort .. | .release .. | .stripeStart .. | .passStart .. | .tileComplete ..
    | .liveJobComplete .. | .bobWatchdog .. | .bobSramUncorr .. | .bobDisableWrite .. | .corrRowFinal ..
    | .storeRowVerify .. | .storeLineDeliver .. | .scanAbort .. | .scanDone .. | .loadEnd .. | .fillDone ..
    | .flrFunction0 .. | .regWrite .. | .pllUnlock .. | .freqCheck .. | .clockRecovered .. | .exitDone ..
    | .powerOnReset .. | .sysRst .. | .perstAssert .. | .warm .. | .cold .. | .tripRecovery .. => true
  | _ => false

/-- The command may change the tracking engine. -/
def Instr.mayChangeTrack (c : Instr) : Bool :=
  match c with
  | .arm .. | .verifyReturn .. | .plnUnderrunDamp .. | .cadenceSlot .. | .beatFrame .. | .tickFrame .. | .verifyFrame ..
    | .cadenceFrameReturn .. | .stgCadenceLost .. | .stripeStart .. | .passStart .. | .done .. | .shift .. | .damp ..
    | .cadAbort .. | .cadRimshot .. | .beamCheck .. | .beat .. | .pealStart .. | .tl40FrameStart .. | .dampSource ..
    | .dampNAsserted .. | .statusEcho .. | .measureEcho .. | .trainEcho .. | .echoTimeout .. | .metSample ..
    | .recentreBlock .. | .beatExtEdge .. | .beatStallTimeout .. | .tempProjection .. | .tempHoldTimeout .. | .swap ..
    | .clear .. | .trackMapDataWrite .. | .trackRepCfgWrite .. | .tileComplete .. | .liveJobComplete .. | .bobWatchdog ..
    | .bobSramUncorr .. | .bobDisableWrite .. | .storeRowVerify .. | .storeLineDeliver .. | .seamRecord .. | .scanAbort ..
    | .scanDone .. | .loadEnd .. | .dataDatagram .. | .edgeDatagram .. | .ctrlDatagram .. | .ptpFrameRx ..
    | .stackTempRead .. | .fillDone .. | .flrFunction0 .. | .regWrite .. | .pllUnlock .. | .freqCheck ..
    | .clockRecovered .. | .exitDone .. | .faultHandle .. | .safIslandStall .. | .junctionTempCross .. | .safThermalTrip ..
    | .powerOnReset .. | .sysRst .. | .perstAssert .. | .warm .. | .cold .. | .tripRecovery .. => true
  | _ => false

/-- The command may change the network ports. -/
def Instr.mayChangeNet (c : Instr) : Bool :=
  match c with
  | .laceOpen .. | .laceClose .. | .loadEnd .. | .dataDatagram .. | .edgeDatagram .. | .ctrlDatagram .. | .ctrlPeriodic ..
    | .ptpFrameRx .. | .netLinkDown .. | .linkUp .. | .clockStep .. | .fillDone .. | .flrTl40 .. | .regWrite ..
    | .dormantEntryDone .. | .exitDone .. | .powerOnReset .. | .sysRst .. | .perstAssert .. | .warm .. | .cold ..
    | .tlFlowWrite .. | .tripRecovery .. => true
  | _ => false

/-- The command may change device time. -/
def Instr.mayChangeTime (c : Instr) : Bool :=
  match c with
  | .loadEnd .. | .clockStep .. | .triggerFire .. | .ppsOutRise .. | .ppsOutFall .. | .ppsInEdge .. | .apply .. | .force ..
    | .restart .. | .set .. | .fillDone .. | .regWrite .. | .dormantEntryDone .. | .exitDone .. | .powerOnReset ..
    | .sysRst .. | .perstAssert .. | .warm .. | .cold .. | .tripRecovery .. => true
  | _ => false

/-- The command may change the DRAM controller. -/
def Instr.mayChangeHbm (c : Instr) : Bool :=
  match c with
  | .arm .. | .tileDeliver .. | .liveJobComplete .. | .corrRowFinal .. | .storeRowVerify .. | .seamRecord ..
    | .scanAbort .. | .scanDone .. | .laceOpen .. | .chunkOpenArrives .. | .chunk .. | .loadEnd .. | .dataDatagram ..
    | .edgeDatagram .. | .ctrlDatagram .. | .ptpFrameRx .. | .clockStep .. | .dramRead .. | .dramWrite .. | .rhWindow ..
    | .rhHoldExpire .. | .stackTempRead .. | .remap .. | .fillDone .. | .scrubStart .. | .scrubAbort .. | .scrubDone ..
    | .inject .. | .injectDisarm .. | .descFetch .. | .notify .. | .ptpSend .. | .dmaBurst .. | .flrFunction0 ..
    | .regWrite .. | .dormantEntryDone .. | .exitDone .. | .checkDone .. | .powerOnReset .. | .sysRst .. | .perstAssert ..
    | .warm .. | .cold .. | .bootReady .. | .tripRecovery .. => true
  | _ => false

/-- The command may change a byte of DRAM. -/
def Instr.mayChangeDram (c : Instr) : Bool :=
  match c with
  | .arm .. | .tileDeliver .. | .liveJobComplete .. | .corrRowFinal .. | .storeRowVerify .. | .seamRecord ..
    | .scanAbort .. | .scanDone .. | .laceOpen .. | .chunkOpenArrives .. | .chunk .. | .loadEnd .. | .dataDatagram ..
    | .edgeDatagram .. | .ctrlDatagram .. | .ptpFrameRx .. | .clockStep .. | .dramRead .. | .dramWrite .. | .remap ..
    | .fillDone .. | .descFetch .. | .notify .. | .dmaBurst .. | .regWrite .. | .exitDone .. | .checkDone ..
    | .powerOnReset .. | .sysRst .. | .warm .. | .cold .. | .tripRecovery .. => true
  | _ => false

/-- The command may change clocks, islands and crossings. -/
def Instr.mayChangeClock (c : Instr) : Bool :=
  match c with
  | .beatExtEdge .. | .loadEnd .. | .clockStep .. | .fillDone .. | .regWrite .. | .pllUnlock .. | .freqCheck ..
    | .clockRecovered .. | .xingReopen .. | .dormantEntryDone .. | .exitDone .. | .safIslandReset ..
    | .junctionTempCross .. | .safThermalTrip .. | .powerOnReset .. | .sysRst .. | .perstAssert .. | .warm .. | .cold ..
    | .bootReady .. | .tripRecovery .. => true
  | _ => false

/-- The command may change boot, global and flash state. -/
def Instr.mayChangeGlob (c : Instr) : Bool :=
  match c with
  | .loadEnd .. | .fillDone .. | .configRequest .. | .regWrite .. | .exitDone .. | .pwrAonBrownout ..
    | .junctionTempCross .. | .safThermalTrip .. | .powerOnReset .. | .sysRst .. | .perstAssert .. | .perstDeassert ..
    | .warm .. | .cold .. | .rstBootHalt .. | .bootReady .. | .read .. | .program .. | .erase4k .. | .erase64k ..
    | .flashDone .. | .tripRecovery .. => true
  | _ => false

/-- The command may move a stripe between IDLE, ARMED, running (RUN_IN to ABORTED) and DONE. -/
def Instr.mayMoveStripe (c : Instr) : Bool :=
  match c with
  | .arm .. | .disarm .. | .abort .. | .release .. | .stripeStart .. | .passStart .. | .done .. | .scanAbort ..
    | .scanDone .. | .loadEnd .. | .fillDone .. | .flrFunction0 .. | .regWrite .. | .exitDone .. | .powerOnReset ..
    | .sysRst .. | .perstAssert .. | .warm .. | .cold .. | .tripRecovery .. => true
  | _ => false

/-- IDLE, ARMED, running and DONE as numbers: RUN_IN, EXPOSING, RUN_OUT and ABORTED are one phase. -/
def Machine.StripeState.phase (p : Machine.StripeState) : Nat :=
  match p with
  | .idle => 0
  | .armed => 1
  | .done => 3
  | _ => 2

end Sys2Proof
end

