-- ==== Sys2Proof/Certificates/Slice0/Obligations.lean ====
section
/-! DEFINITION. What the provers are to prove of this model: the rules of the spec, family by family, as statements over every state and
operand. A clause's hypotheses are on the state and the operands alone; its conclusion says the next state whole, or its fields with a frame
that names the parts that change. An event that is not due or does not apply leaves the state as it is, work that the device runs over time
takes effect when its end comes, and no command ends a step: these are the model's choices (assumption log 4, 7 and 8). -/

open Sys2Proof Sys2Proof.Machine

/-- A step takes the command at the front of the queue and is that command's effect with the queue's rest; on an empty queue the
block idles, which is the model's choice (assumption log 2). -/
def Obligations.StepRunsFrontCommand : Prop :=
  (∀ (c : Instr) (s : State), step { s with pending := c :: s.pending } = exec c s) ∧
  (∀ (c : Instr) (rest : List Instr) (s : State), s.pending = c :: rest → step s = exec c { s with pending := rest }) ∧
  (∀ s : State, s.pending = [] → step s = .next s)

/-- R546, R548, R557: the state right after release of power-on reset: not READY, every TX in electrical idle, no stripe and no engine running,
every island other than AON in reset, nothing waiting; the memories in their canonical form, with nothing listed.
Where the rules leave a point open, these clauses are the model's choice: assumption log 9, 13, 14. -/
def Obligations.ResetState : Prop :=
  State.reset.pending = [] ∧ State.reset.glob.ready = false ∧ State.reset.resetSilent = true ∧ State.reset.wf = true ∧ State.reset.dram = [] ∧
  State.reset.allIdle = true ∧ State.reset.dma.ops = [] ∧ State.reset.plan.scan = none ∧ State.reset.beamsMayOpen = false ∧
  (∀ i : Fin 24, (State.reset.island i).inReset = (i != 0))

/-- Every command is answered with a next state that keeps the queue of waiting commands and what the fuses hold.
Where the rules leave a point open, these clauses are the model's choice: assumption log 4, 16. -/
def Obligations.CommandsKeepQueueAndFuses : Prop :=
  ∀ (c : Instr) (s : State), ∃ t, exec c s = .next t ∧ t.pending = s.pending ∧ t.glob.fuseSerial = s.glob.fuseSerial ∧
    t.glob.fuseKeyDigest = s.glob.fuseKeyDigest ∧ t.glob.fuseSigRequired = s.glob.fuseSigRequired ∧ t.glob.fuseEpochMin = s.glob.fuseEpochMin

/-- From every state whose DRAM, check-bit and flash tables are canonical, a step leads to a state whose tables are canonical: no
command lists a default value or an address twice.
Where the rules leave a point open, these clauses are the model's choice: assumption log 5, 53. -/
def Obligations.StepKeepsMemoryCanonical : Prop :=
  ∀ s t : State, s.wf = true → step s = .next t → t.wf = true

/-- R548: a device that holds its lanes silent until READY still does so after any step: no command wakes a TX before READY, and every
reset silences all of them. -/
def Obligations.StepKeepsLanesSilentUntilReady : Prop :=
  ∀ s t : State, s.resetSilent = true → step s = .next t → t.resetSilent = true

/-- Only certain commands change a part of the device, whatever the state: the structure, loads, check units, the snapshot, the
sideband, lace intake, the dose store, tracking, the ports, device time, the DRAM controller, DRAM, the clocks and the global state; and only
certain commands move a stripe between IDLE, ARMED, running and DONE.
Where the rules leave a point open, these clauses are the model's choice: assumption log 34. -/
def Obligations.OnlyTheseCommandsChange : Prop :=
  ∀ (c : Instr) (s t : State), exec c s = .next t →
    (c.mayChangeStructure = false → t.str = s.str) ∧ (c.mayChangePrick = false → t.prick = s.prick) ∧
    (c.mayChangeCheck = false → t.check = s.check) ∧ (c.mayChangeSnap = false → t.snap = s.snap) ∧
    (c.mayChangeSmbus = false → t.smbus = s.smbus) ∧ (c.mayChangeLace = false → t.lace = s.lace) ∧
    (c.mayChangeStore = false → t.store = s.store) ∧ (c.mayChangeTrack = false → t.track = s.track) ∧
    (c.mayChangeNet = false → t.net = s.net) ∧ (c.mayChangeTime = false → t.time = s.time) ∧
    (c.mayChangeHbm = false → t.hbm = s.hbm) ∧ (c.mayChangeDram = false → t.dram = s.dram) ∧
    (c.mayChangeClock = false → t.clock = s.clock) ∧ (c.mayChangeGlob = false → t.glob = s.glob) ∧
    (c ≠ .clockStep → t.now = s.now) ∧ (c.mayMoveStripe = false → t.plan.state.phase = s.plan.state.phase)

/-- R35, Table 1-5: ARM is accepted from IDLE when no ground of refusal holds, and the stripe goes to ARMED; with a ground it
stays IDLE and each ground raises its fault; in another state ARM does nothing. Writes and lane commands of the cycle of an ARM come
after it.
Where the rules leave a point open, these clauses are the model's choice: assumption log 21, 78. -/
def Obligations.ArmAcceptsOrRefuses : Prop :=
  (∀ s : State, s.runs → s.native = true → s.plan.state = .idle → (s.cmdSeen.cyc.foldl undoEvent s.cmdSeen).armBarred = [] →
    (applyStaged (s.cmdSeen.cyc.foldl undoEvent s.cmdSeen)).armRefusals = [] → ∃ t, exec .arm s = .next t ∧ t.plan.state = .armed) ∧
  (∀ s : State, s.runs → s.native = true → s.plan.state = .idle → s.cyc = [] → s.cmdSeen.armBarred = [] →
    (applyStaged s.cmdSeen).armRefusals ≠ [] →
    ∃ t, exec .arm s = .next t ∧ t.plan.state = .idle ∧
      t = { (applyStaged s.cmdSeen) with fault := ((applyStaged s.cmdSeen).raiseAll (applyStaged s.cmdSeen).armRefusals).fault }) ∧
  (∀ s : State, s.runs → s.native = true → s.plan.state = .idle → s.cyc = [] → s.cmdSeen.armBarred ≠ [] →
    ∃ t, exec .arm s = .next t ∧ t = { s.cmdSeen with fault := (s.raiseAll s.cmdSeen.armBarred).fault, cyc := t.cyc }) ∧
  (∀ s : State, s.runs → s.native = true → s.plan.state ≠ .idle → exec .arm s = .next s.cmdSeen)

/-- R35, R23, R192: DISARM, and ABORT in ARMED, return the stripe to IDLE: every job of the stripe stops, no scope stays bound, no
START waits. RELEASE does the same from DONE and ABORTED, and clears LATCH and the AON damp output where no local source
persists (R304).
Where the rules leave a point open, these clauses are the model's choice: assumption log 34, 75. -/
def Obligations.StripeReturnsToIdle : Prop :=
  (∀ (c : Instr) (s : State), (c = .disarm ∨ c = .abort) → s.runs → s.native = true → s.plan.state = .armed →
    ∃ t, exec c s = .next t ∧ t.plan.state = .idle ∧ t.plan.started = none ∧ t.plan.accepted = false ∧
      (∀ i : Fin 2, (t.scope i).bound = false) ∧ (∀ n (h : n < 32), t.bob.units[n].job = .idle ∧ t.bob.units[n].held = none) ∧
      t.bob.live = [] ∧ t.corr.kept = [] ∧
      t = { s with plan := t.plan, lace := t.lace, bob := t.bob, corr := t.corr, store := t.store,
                   stage := t.stage, cad := t.cad }) ∧
  (∀ s : State, s.runs → s.native = true → s.plan.state = .done ∨ s.plan.state = .aborted →
    ∃ t, exec .release s = .next t ∧ t.plan.state = .idle ∧ (∀ i : Fin 2, (t.scope i).bound = false) ∧
      (s.localPersists = false → t.caril.latch = false ∧ t.fault.aonDamp = false) ∧
      t = { s with plan := t.plan, lace := t.lace, bob := t.bob, corr := t.corr, store := t.store,
                   stage := t.stage, cad := t.cad, caril := t.caril, fault := t.fault }) ∧
  (∀ s : State, s.runs → s.native = true → s.plan.state = .idle → s.localPersists = false →
    exec .release s = .next { s with caril := { s.caril with latch := false }, fault := { s.fault with aonDamp := false } })

/-- R42, R43, R44, R23, R597, R352: START on a lead in ARMED asks for a START verification; on a solo device it is accepted when the
device is committed, else refused with PLN_COMMIT_REFUSED; a member raises PLN_ROLE_COMMAND and changes nothing else.
While a calibration runs on channel 0, 1 or 2, START is ignored with STG_BUSY. ABORT on a lead or solo device in a running state
queues the cadence ABORT command, and on a member raises PLN_ROLE_COMMAND. R42, R352, R37, R316, R374: a START verification that has not returned 10 µs after it was issued refuses the START. Once the
axes have settled the lead queues STRIPE_START, PASS_START of the pass it moved for unless the column is at temperature
level 2 or above, or DONE no sooner than R316 allows.
Where the rules leave a point open, these clauses are the model's choice: assumption log 7, 22. -/
def Obligations.StartAbortAndWaits : Prop :=
  ((∀ s : State, s.runs → s.native = true → s.str.role = .lead → s.plan.state = .armed → s.plan.started = none →
    s.plan.accepted = false → (∀ c ∈ [0, 1, 2], (s.chan c).calActive = false) →
    ∃ t, exec .start s = .next t ∧ t.plan = { s.plan with started := some ⟨s.now, none⟩ } ∧ t.cad = { s.cad with startVerify := true } ∧
      t = { s with plan := t.plan, cad := t.cad, cyc := t.cyc }) ∧
  (∀ s : State, s.runs → s.native = true → s.str.role = .solo → s.plan.state = .armed → s.plan.started = none →
    s.plan.accepted = false → (∀ c ∈ [0, 1, 2], (s.chan c).calActive = false) → s.committed = true →
    ∃ t, exec .start s = .next t ∧ t.plan.accepted = true ∧ t.stage.wait = .startSettle ∧ t.stage.spStop = false ∧
      (s.saw .profileTick = false → (t.axis 0).goal = some (.to (s.xTarget 0)) ∧ (t.axis 1).goal = some (.to (s.runInStart 0))) ∧
      t = { s with plan := t.plan, stage := t.stage, cyc := t.cyc }) ∧
  (∀ s : State, s.runs → s.native = true → s.str.role = .solo → s.plan.state = .armed → s.plan.started = none →
    s.plan.accepted = false → (∀ c ∈ [0, 1, 2], (s.chan c).calActive = false) → s.committed = false →
    ∃ t, exec .start s = .next t ∧ t.plan = { s.plan with failChain := false, failMatch := false } ∧
      t = { s.raise .PLN_COMMIT_REFUSED with plan := t.plan, cyc := t.cyc }) ∧
  (∀ s : State, s.runs → s.native = true → s.leads = true → s.plan.state = .armed → s.plan.started = none →
    s.plan.accepted = false → (∃ c ∈ [0, 1, 2], (s.chan c).calActive = true) → exec .start s = .next (s.raise .STG_BUSY)) ∧
  (∀ s : State, s.runs → s.native = true → s.str.role = .member → exec .start s = .next (s.raise .PLN_ROLE_COMMAND)) ∧
  (∀ s : State, s.runs → s.native = true → s.leads = true → s.plan.state.running = true →
    exec .abort s = .next (s.queueCmd ⟨6, 0, 0⟩)) ∧
  (∀ s : State, s.runs → s.native = true → s.leads = false → s.plan.state.running = true →
    exec .abort s = .next (s.raise .PLN_ROLE_COMMAND))) ∧
  ((∀ (s : State) (a q : Nat), s.up → s.plan.started = some ⟨a, some q⟩ → s.plan.state = .armed → a + 10000000 ≤ s.now →
    exec .verifyTimeout s = .next { s.raise .PLN_COMMIT_REFUSED with plan := { s.plan with started := none, failChain := true, failMatch := false } }) ∧
  (∀ s : State, s.up → s.motionOn = true → s.stage.wait = .startSettle → s.settled = true → s.plan.state = .armed → s.plan.accepted = true →
    exec .axesSettled s = .next (({ s with stage := { s.stage with wait := .none, holdFrom := none } } : State).queueCmd ⟨1, 0, 0⟩)) ∧
  (∀ (s : State) (p : Nat), s.up → s.motionOn = true → s.stage.wait = .passSettle p → s.settled = true → s.plan.state = .runOut →
    s.fd F.STAGE_TEMP_STATUS_LEVEL < 2 →
    exec .axesSettled s = .next (({ s with stage := { s.stage with wait := .none, holdFrom := none } } : State).queueCmd ⟨2, p, 0⟩)) ∧
  (∀ (s : State) (p : Nat), s.up → s.motionOn = true → s.stage.wait = .passSettle p → s.settled = true → s.plan.state = .runOut →
    2 ≤ s.fd F.STAGE_TEMP_STATUS_LEVEL → s.stage.holdFrom = none →
    exec .axesSettled s = .next { s with stage := { s.stage with holdFrom := some s.stageT } }) ∧
  (∀ s : State, s.up → s.motionOn = true → s.stage.wait = .doneSettle → s.settled = true → s.plan.state = .runOut → s.doneAllowed = true →
    exec .axesSettled s = .next (({ s with stage := { s.stage with wait := .none, holdFrom := none } } : State).queueCmd ⟨3, 0, 0⟩)))

/-- R364 to R366: a CMD frame that meets R367 is forwarded by a member with HOP + 1, and its command waits there for issue + H.
Where the rules leave a point open, these clauses are the model's choice: assumption log 46. -/
def Obligations.CommandFramesAreScheduled : Prop :=
  ∀ (s : State) (l : List Byte) (k : Nat) (mk : List Byte → Instr),
    (k, mk) ∈ [(1, Instr.stripeStart), (2, .passStart), (3, .done), (4, .shift), (5, .damp), (6, .cadAbort), (7, .cadRimshot), (8, .beamCheck)] →
    s.up → s.onChain = true → s.cad.struck = false → frTyp l = 2 → byteAt l 4 = k → s.frameOk l s.str.devIndex = true →
    ∃ t, exec (mk l) s = .next t ∧
      t.cad.scheduled = s.cad.scheduled ++ [(s.stageT - (frElapsed l : Nat) + s.horizon, cmdOf l)] ∧
      t.cad.lastSof = some s.stageT ∧ t.cad.lastSeq = some (frSeq l) ∧
      t.out = .cadence (cadFrame 2 (frSeq l) (frHop l + 1) (frPayload l) (frElapsed l + Config.forwardLatency + s.linkDelay) false) :: s.out ∧
      t = { s with out := t.out, cad := t.cad }

/-- R366, R266, R267, R37: a scheduled command whose instant has come executes. STRIPE_START takes ARMED to RUN_IN of pass 0, PASS_START
takes RUN_OUT to RUN_IN of the next pass, DONE takes RUN_OUT of the last pass to DONE, and SHIFT is noted for its beat, refused where
it would take |h| above T, and no longer pending (R385). A persisting damp source at the entry to RUN_IN aborts the stripe.
Where the rules leave a point open, these clauses are the model's choice: assumption log 7, 43. -/
def Obligations.ScheduledStripeCommands : Prop :=
  (∀ (s s1 : State) (c : CadCmd), s.up → s.native = true → takeScheduled 1 s = some (c, s1) → s.plan.state = .armed →
    ∃ t, exec (.stripeStart []) s = .next t ∧ t = enterRunIn 0 s1 ∧ (t.plan.state.running = true ∨ t.plan.state = .aborted)) ∧
  (∀ (s s1 : State) (c : CadCmd), s.up → s.native = true → takeScheduled 2 s = some (c, s1) → s.plan.state = .runOut →
    c.arg = s.plan.pass + 1 → c.arg < s.passes →
    ∃ t, exec (.passStart []) s = .next t ∧ t = enterRunIn (s.plan.pass + 1) s1 ∧ (t.plan.state.running = true ∨ t.plan.state = .aborted)) ∧
  (∀ (s s1 : State) (c : CadCmd), s.up → s.native = true → takeScheduled 3 s = some (c, s1) → s.plan.state = .runOut →
    s.passes ≤ s.plan.pass + 1 →
    ∃ t, exec (.done []) s = .next t ∧ t.plan.state = .done ∧ t.plan.underruns = [] ∧ t.stage.wait = .none ∧ t.stage.issued = [] ∧
      (∀ n (h : n < 32), t.bob.units[n].job = .idle) ∧
      t = { s1 with plan := t.plan, stage := t.stage, bob := t.bob, corr := t.corr }) ∧
  (∀ (s s1 : State) (c : CadCmd), s.up → s.native = true → takeScheduled 4 s = some (c, s1) → s.plan.state = .exposing → s.plan.shifts = [] →
    exec (.shift []) s = .next { s1 with
      plan := { s1.plan with
        shifts := [(c.beat, if c.arg = 1 then -1 else 1, decide ((s.plan.h + (if c.arg = 1 then -1 else 1)).natAbs > s.shiftMax))] }
      track := { s.track with shifts := s.track.shifts.filter (fun e => e.beat != c.beat) } })

/-- R303, R304, R36, R39, R48, R366: a DAMP command that executes in a running state other than RUN_OUT of the last pass sends the stripe
to ABORTED and records its fault and node; a cadence ABORT does the same with the lead's node, its fault field being a free
value: ABORT has no fault code. R285: an executed BEAM_CHECK starts the beam check on its TARGET device, and opens the window of the device whose gate scan waits
for it. The first internal beat falls at once: the named lane carries the code where it sends data and no damp drives it.
Where the rules leave a point open, these clauses are the model's choice: assumption log 43, 70, 80. -/
def Obligations.CadenceDampsAndBeamChecks : Prop :=
  ((∀ (s s1 : State) (c : CadCmd), s.up → s.native = true → takeScheduled 5 s = some (c, s1) → s.plan.state = .runIn ∨ s.plan.state = .exposing →
    ∃ t, exec (.damp []) s = .next t ∧ t.plan.state = .aborted ∧ t.plan.abortAt = s.now ∧
      t.fd F.PLAN_ABORT_CAUSE_FAULT = c.arg % 65536 ∧ t.fd F.PLAN_ABORT_CAUSE_NODE = c.beat % 16384 ∧
      t.fd F.PLAN_ABORT_WHERE_PASS = s.plan.pass % 2 ^ (F.PLAN_ABORT_WHERE_PASS.hi + 1 - F.PLAN_ABORT_WHERE_PASS.lo) ∧
      t.rg .PLAN_ABORT_STRIPE = s.rg .PLAN_STRIPE_ID) ∧
  (∀ (s s1 : State) (c : CadCmd), s.up → s.native = true → takeScheduled 6 s = some (c, s1) → s.plan.state = .runIn ∨ s.plan.state = .exposing →
    ∃ t, exec (.cadAbort []) s = .next t ∧ t.plan.state = .aborted ∧ t.freeCount = s.freeCount + 1 ∧
      t.fd F.PLAN_ABORT_CAUSE_FAULT = Config.freeValue s.freeCount % 65536 ∧ t.fd F.PLAN_ABORT_CAUSE_NODE = s.nodeOf 0 % 16384)) ∧
  ((∀ (s s1 : State) (c : CadCmd), s.up → s.native = true → takeScheduled 8 s = some (c, s1) → bits c.arg 5 0 = s.str.devIndex → s.plan.scan = none →
    0 < bits c.beat 23 8 →
    ∃ t, exec (.beamCheck []) s = .next t ∧
      t.cad = { s1.cad with beamCheck := some ⟨bits c.arg 9 6, bits c.arg 19 10, bit c.arg 20 == 1, bits c.beat 7 0, 1, bits c.beat 23 8, s.stageT + 10000⟩ } ∧
      t = { s1 with regs := t.regs, out := t.out, caril := t.caril, cad := t.cad, cyc := t.cyc }) ∧
  (∀ (s s1 : State) (c : CadCmd) (sc : ScanSt), s.up → s.native = true → s.leads = true → takeScheduled 8 s = some (c, s1) →
    bits c.arg 5 0 ≠ s.str.devIndex → s.plan.scan = some sc → sc.kind = .gate → sc.window = none → sc.finished = false →
    exec (.beamCheck []) s = .next { s1 with plan := { s1.plan with
      scan := some { sc with window := some (s.stageT + s.windowLen), sum := 0 } } }))

/-- R362, R357, R359, R366, R370: the lead sends a due DAMP or ABORT before all else, then a beat that may be issued, then another due
command, then a VERIFY that is due, else a TICK; a frame takes the next SEQ, and a command is scheduled for issue + H on the lead
too. A solo device paces itself the same way without a link. R364 to R367, R369, R370: a member forwards a BEAT, TICK or VERIFY that meets R367; beat k lies at its issue + DT; VERIFY tells
the member whether its configuration matches. A frame that fails R367 is forwarded with its CRC8 inverted, raises
STG_CADENCE_LOST, is counted, and leaves the chain unverified while no stripe runs; while one runs it damps.
Where the rules leave a point open, these clauses are the model's choice: assumption log 46. -/
def Obligations.CadenceSlotsAndMemberFrames : Prop :=
  ((∀ (s : State) (c : CadCmd), s.up → s.native = true → s.leads = true → s.plan.scan = none → (∀ x, s.beatPlan ≠ .fault x) →
    s.cad.due.find? (fun c => c.code == 5 || c.code == 6) = some c →
    ∃ t, exec .cadenceSlot s = .next t ∧ t.cad.due = s.cad.due.erase c ∧
      t.cad.scheduled = s.cad.scheduled ++ [(s.stageT + s.horizon, c)] ∧
      (s.str.role = .lead → t.cad.seq = (s.cad.seq + 1) % 256 ∧
        t.out = .cadence (cadFrame 2 s.cad.seq 1 c.payload (Config.leadLatency + s.linkDelay) false) :: s.out) ∧
      t = { s with out := t.out, cad := t.cad }) ∧
  (∀ (s : State) (tb : Int), s.up → s.native = true → s.leads = true → s.plan.scan = none → s.beatPlan = .issue tb →
    (∀ c ∈ s.cad.due, c.code ≠ 5 ∧ c.code ≠ 6) →
    ∃ t, exec .cadenceSlot s = .next t ∧ t.stage.nextBeat = s.stage.nextBeat + 1 ∧
      t.stage.issued = s.stage.issued ++ [⟨s.stage.nextBeat, s.plan.pass, tb, false⟩] ∧
      (s.str.role = .lead → t.out = .cadence (cadFrame 1 s.cad.seq 1
        (leBytes 4 s.stage.nextBeat ++ leBytes 2 (tb - s.stageT).toNat ++ leBytes 1 s.plan.pass ++ [0]) (Config.leadLatency + s.linkDelay) false) :: s.out) ∧
      t = { s with regs := t.regs, stage := t.stage, cad := t.cad, out := t.out }) ∧
  (∀ (s : State) (c : CadCmd), s.up → s.native = true → s.leads = true → s.plan.scan = none → s.beatPlan = .wait → s.cad.due = [c] →
    c.code ≠ 4 → s.cmdStands c = true → s.cmdHeld c = false →
    ∃ t, exec .cadenceSlot s = .next t ∧ t.cad.due = [] ∧ t.cad.scheduled = s.cad.scheduled ++ [(s.stageT + s.horizon, c)] ∧
      (s.str.role = .lead →
        t.out = .cadence (cadFrame 2 s.cad.seq 1 c.payload (Config.leadLatency + s.linkDelay) false) :: s.out) ∧
      t = { s with out := t.out, cad := t.cad }) ∧
  (∀ s : State, s.up → s.native = true → s.str.role = .lead → s.plan.scan = none → s.beatPlan = .wait → s.cad.due = [] → s.verifyDue = false →
    ∃ t, exec .cadenceSlot s = .next t ∧
      t.out = .cadence (cadFrame 0 s.cad.seq 1 (s.mergeTick [0, 255, 0, 0, 0, 0, 0, 0]) (Config.leadLatency + s.linkDelay) false) :: s.out ∧
      t.cad.seq = (s.cad.seq + 1) % 256 ∧ t = { s with out := t.out, cad := t.cad }) ∧
  (∀ s : State, s.up → s.native = true → s.str.role = .solo → s.plan.scan = none → s.beatPlan = .wait → s.cad.due = [] →
    s.deviceLevel = 0 →
    ∃ t, exec .cadenceSlot s = .next t ∧ t.fd F.STAGE_TEMP_STATUS_LEVEL = 0 ∧ t.fd F.STAGE_TEMP_STATUS_DEV = s.str.devIndex % 64 ∧
      t.fd F.STAGE_TEMP_STATUS_HEADROOM = s.deviceHeadroom % 256 ∧ t.stage.holdFrom = none ∧
      t = { s with regs := t.regs, stage := t.stage }) ∧
  (∀ s : State, s.up → s.native = true → s.str.role = .lead → s.plan.scan = none → s.beatPlan = .wait → s.cad.due = [] → s.verifyDue = true →
    ∃ t, exec .cadenceSlot s = .next t ∧
      t.out = .cadence (cadFrame 3 s.cad.seq 1 (leBytes 4 s.stripeId ++ leBytes 2 (s.cfgDigest % 65536) ++ [0, 0])
        (Config.leadLatency + s.linkDelay) false) :: s.out ∧
      t.cad.verifyAt = some s.stageT ∧ t.cad.startVerify = false ∧ t = { s with out := t.out, cad := t.cad, plan := t.plan })) ∧
  ((∀ (s : State) (l : List Byte), s.up → s.onChain = true → s.cad.struck = false → frTyp l = 1 → s.frameOk l s.str.devIndex = true →
    s.plan.state.running = true →
    ∃ t, exec (.beatFrame l) s = .next t ∧
      t.stage.issued = s.stage.issued ++ [⟨leAt l 4 4, byteAt l 10, s.stageT - (frElapsed l : Nat) + (leAt l 8 2 : Nat), false⟩] ∧
      t.cad = { s.cad with lastSof := some s.stageT, lastSeq := some (frSeq l) } ∧
      t.out = .cadence (cadFrame 1 (frSeq l) (frHop l + 1) (frPayload l) (frElapsed l + Config.forwardLatency + s.linkDelay) false) :: s.out ∧
      t = { s with out := t.out, cad := t.cad, stage := t.stage }) ∧
  (∀ (s : State) (l : List Byte), s.up → s.onChain = true → s.cad.struck = false → frTyp l = 0 → s.frameOk l s.str.devIndex = true →
    exec (.tickFrame l) s = .next { s with
      cad := { s.cad with lastSof := some s.stageT, lastSeq := some (frSeq l) }
      out := .cadence (cadFrame 0 (frSeq l) (frHop l + 1) (s.mergeTick (frPayload l)) (frElapsed l + Config.forwardLatency + s.linkDelay) false) :: s.out }) ∧
  (∀ (s : State) (l : List Byte), s.up → s.onChain = true → s.cad.struck = false → frTyp l = 3 → s.frameOk l s.str.devIndex = true →
    exec (.verifyFrame l) s = .next { s with
      cad := { s.cad with lastSof := some s.stageT, lastSeq := some (frSeq l) }
      plan := { s.plan with failMatch := s.plan.state.active && s.verifyMismatch (frPayload l) }
      out := .cadence (cadFrame 3 (frSeq l) (frHop l + 1) (s.mergeVerify (frPayload l) (frHop l))
        (frElapsed l + Config.forwardLatency + s.linkDelay) false) :: s.out }) ∧
  (∀ (s : State) (l : List Byte), s.up → s.onChain = true → frTyp l = 0 → s.frameOk l s.str.devIndex = false → s.plan.state.running = false →
    ∃ t, exec (.tickFrame l) s = .next t ∧ t.cad.unverified = true ∧ t.cad.lastSof = some s.stageT ∧ t.cad.struck = false ∧
      t = { ((({ s with out := .cadence (cadFrame 0 (frSeq l) (frHop l + 1) (s.mergeTick (frPayload l))
        (frElapsed l + Config.forwardLatency + s.linkDelay) true) :: s.out } : State).raise .STG_CADENCE_LOST).bump F.STAGE_CAD_ERR_COUNT_COUNT) with
        cad := t.cad }) ∧
  (∀ (s : State) (l : List Byte), s.up → s.onChain = true → s.frameOk l s.str.devIndex = false → s.plan.state = .exposing →
    ∃ t, exec (.tickFrame l) s = .next t ∧ t.plan.state = .aborted ∧ t.plan.abortAt = s.now ∧
      t.fd F.PLAN_ABORT_CAUSE_FAULT = FaultCode.num .STG_CADENCE_LOST))

/-- R368, R370, R371: at the lead a returning TICK sets the column's temperature, a returning BEAT or CMD only its place on the link, a
returning VERIFY sets the chain's round trip and what the members found, and one sent for a START lets an accepted START move the
stage. While no stripe runs a frame that does not return raises STG_RING_FAIL, is counted and leaves the chain unverified and the
column not committed. R362, R367, R33, R45, R352: CADENCE_LOCK gains alignment and forgets the frames seen; an error on CAD_IN outside a running stripe
raises STG_CADENCE_LOST on a member and is counted, a symbol error marks its frame, comma loss ends alignment; a beat that executes
takes RUN_IN to EXPOSING, and the last beat of a pass takes EXPOSING to RUN_OUT; a waiting cause whose instant has come damps with
PLN_UNDERRUN_DAMP.
Where the rules leave a point open, these clauses are the model's choice: assumption log 24, 47. -/
def Obligations.ReturningFramesAndBeats : Prop :=
  ((∀ (s : State) (l : List Byte) (f : SentFrame) (r : List SentFrame), s.up → s.native = true → s.str.role = .lead →
    s.cad.flight = f :: r → s.returnOk f l = true → f.typ = 0 → s.deviceLevel = 0 → byteAt l 4 = 0 →
    ∃ t, exec (.cadenceFrameReturn l) s = .next t ∧ t.cad.flight = r ∧ t.fd F.STAGE_TEMP_STATUS_LEVEL = 0 ∧
      t.fd F.STAGE_TEMP_STATUS_DEV = byteAt l 6 % 64 ∧ t.fd F.STAGE_TEMP_STATUS_HEADROOM = min (byteAt l 5) s.deviceHeadroom ∧
      t.stage.holdFrom = none ∧ t = { s with regs := t.regs, stage := t.stage, cad := t.cad }) ∧
  (∀ (s : State) (l : List Byte) (f : SentFrame) (r : List SentFrame), s.up → s.native = true → s.str.role = .lead →
    s.cad.flight = f :: r → s.returnOk f l = true → (f.typ = 1 ∨ f.typ = 2) →
    exec (.cadenceFrameReturn l) s = .next { s with
      cad := { s.cad with flight := r, lastSof := some s.stageT, lastSeq := some f.seq } }) ∧
  (∀ (s : State) (l : List Byte) (f : SentFrame) (r : List SentFrame), s.up → s.native = true → s.str.role = .lead →
    s.cad.flight = f :: r → s.returnOk f l = true → f.typ = 3 → f.start = false →
    ∃ t, exec (.verifyReturn l) s = .next t ∧ t.cad.unverified = false ∧ t.cad.flight = r ∧
      t.plan.columnCommitted = (!f.old && !(bit (byteAt l 11) 0 == 1) && s.plan.state.active) ∧
      t.fd F.STAGE_CAD_RING_ELAPSED = frElapsed l % 65536 ∧
      t.fd F.STAGE_CAD_RING_ROUND_TRIP = min 65535 (s.stageT - f.issuedAt).toNat ∧
      t.fd F.STAGE_CAD_STATUS_NOT_COMMITTED = bit (byteAt l 11) 0 ∧
      t.fd F.STAGE_CAD_STATUS_ORDER_BAD = bit (byteAt l 11) 1 ∧ t.fd F.STAGE_CAD_STATUS_MISMATCH = bit (byteAt l 11) 2 ∧
      t = { s with regs := t.regs, cad := t.cad, plan := t.plan }) ∧
  (∀ (s : State) (l : List Byte) (f : SentFrame) (r : List SentFrame), s.up → s.native = true → s.str.role = .lead →
    s.cad.flight = f :: r → s.returnOk f l = true → f.typ = 3 → f.start = true → f.old = false →
    s.plan.state = .armed → s.plan.started ≠ none → s.committed = true → byteAt l 11 % 8 = 0 →
    ((frElapsed l : Int) - ((s.stageT - f.issuedAt).toNat : Int)).natAbs ≤ s.fd F.STAGE_CAD_TOL_TOL →
    (frElapsed l : Int) + 800 ≤ s.horizon → (s.stageT - f.issuedAt).toNat ≤ 100000 →
    ∃ t, exec (.verifyReturn l) s = .next t ∧ t.plan.accepted = true ∧ t.plan.started = none ∧ t.stage.wait = .startSettle ∧
      (s.saw .profileTick = false → (t.axis 0).goal = some (.to (s.xTarget 0)) ∧ (t.axis 1).goal = some (.to (s.runInStart 0))) ∧
      t = { s with regs := t.regs, cad := t.cad, plan := t.plan, stage := t.stage }) ∧
  (∀ (s : State) (f : SentFrame) (r : List SentFrame), s.up → s.native = true → s.str.role = .lead →
    s.cad.struck = false → s.cad.flight = f :: r → f.typ ≠ 3 → s.plan.state.running = false →
    ∃ t, exec (.cadenceFrameReturn []) s = .next t ∧ t.cad.unverified = true ∧ t.plan.columnCommitted = false ∧ t.cad.flight = r ∧
      t = { (s.raise .STG_RING_FAIL).bump F.STAGE_CAD_ERR_COUNT_COUNT with cad := t.cad, plan := t.plan })) ∧
  ((∀ s : State, s.up → s.native = true → s.str.role ≠ .solo →
    exec .cadenceLock s = .next { s with cad := { s.cad with locked := true, struck := false, lastSeq := none, lastSof := none } }) ∧
  (∀ (s : State) (k : Fin 3), s.up → s.native = true → s.str.role = .member → s.cad.locked = true → s.plan.state.running = false →
    (k.val = 2 → ∃ t, s.cad.lastSof = some t ∧ t + 800 ≤ s.stageT) →
    ∃ t, exec (.stgCadenceLost k) s = .next t ∧ (t.cad.locked = false ↔ k.val = 1) ∧ (t.cad.struck = true ↔ k.val ≠ 1) ∧
      t.cad.unverified = true ∧
      t = { (s.raise .STG_CADENCE_LOST).bump F.STAGE_CAD_ERR_COUNT_COUNT with cad := t.cad }) ∧
  (∀ (s : State) (b : IssuedBeat) (r : List IssuedBeat), s.up → s.native = true → s.stage.issued = b :: r → b.tb ≤ s.stageT →
    b.pass = s.plan.pass → s.plan.state = .exposing ∨ (s.plan.state = .runIn ∧ b.k = 0) → s.shiftRefused b.k = false → s.plan.underruns = [] →
    s.marginBad b.k = false → b.k + 1 < s.passBeats →
    exec .beat s = .next { s with
      stage := { s.stage with issued := r }
      plan := { s.plan with state := .exposing, beat := b.k + 1, h := s.hAt b.k, shifts := s.plan.shifts.filter (fun e => decide (e.1 > b.k)) } }) ∧
  (∀ (s : State) (b : IssuedBeat) (r : List IssuedBeat), s.up → s.native = true → s.stage.issued = b :: r → b.tb ≤ s.stageT →
    b.pass = s.plan.pass → s.plan.state = .exposing → s.shiftRefused b.k = false → s.plan.underruns = [] → s.marginBad b.k = false →
    s.passBeats ≤ b.k + 1 →
    ∃ t, exec .beat s = .next t ∧ t.plan.state = .runOut ∧ t.plan.beat = b.k + 1 ∧ t.plan.outAt = s.stage.epoch + 100 * b.tb.toNat ∧
      t = { s with stage := t.stage, plan := t.plan, cyc := t.cyc }) ∧
  (∀ s : State, s.up → s.native = true → s.plan.underruns.any s.underrunDue = true →
    ∃ t, exec .plnUnderrunDamp s = .next t ∧ t.plan.state = .aborted ∧ t.plan.underruns = [] ∧ t.caril.latch = true ∧
      t.fd F.PLAN_ABORT_CAUSE_FAULT = FaultCode.num .PLN_UNDERRUN_DAMP ∧ t = s.localDamp .PLN_UNDERRUN_DAMP))

/-- R331, R338, R339: a good sample of an enabled channel of a lead or solo device becomes its position, valid and not lost; a bad one
raises STG_METRO_BAD, is counted and changes neither; STAGE_MET_CFG.BAD_LIMIT bad ones in a row, or an unlocked one, lose channel
0, 1 or 2 with STG_METRO_LOST, the estimator restarting. A port that is off takes no word, and a transaction cut by ALIGN gives none. R342, R331, R353: CAL puts the selected channel of a lead or solo device into calibration and marks its position stale, and is
turned away with STG_BUSY while a stripe runs, on a member and in TL-40 mode; at its end the middle of the longest run of clear offsets
becomes the staged phase when the run is at least 16 long and 250 of the 256 words at it passed, and else STG_MET_CAL_IMPLAUSIBLE is
raised.
Where the rules leave a point open, these clauses are the model's choice: assumption log 45. -/
def Obligations.MetrologySamplesAndPhase : Prop :=
  ((∀ (s : State) (c : Fin 4) (w r : BitVec 64), s.up → s.metOn c = true → s.stage.gridAt ≤ (r.toNat : Int) → (s.chan c).calActive = false →
    s.anyRunning = false → s.stage.cmpArmed = false → s.stage.inner = none → s.metGood c w.toNat = true →
    ∃ t, exec (.metSample c w r) s = .next t ∧ (t.chan c).pos = metPos w.toNat ∧ (t.chan c).valid = true ∧ (t.chan c).lost = false ∧
      (t.chan c).hasPrev = true ∧ (t.chan c).badRun = 0 ∧ (t.chan c).goodAt = some (s.sampleAt c w.toNat r.toNat) ∧
      t = { s with stage := t.stage, track := t.track, out := t.out, dma := t.dma, fault := t.fault, plan := t.plan, snap := t.snap,
                   regs := t.regs, caril := t.caril, cyc := t.cyc }) ∧
  (∀ (s : State) (c : Fin 4) (w r : BitVec 64), s.up → s.metOn c = true → s.stage.gridAt ≤ (r.toNat : Int) → (s.chan c).calActive = false →
    s.anyRunning = false → s.metGood c w.toNat = false →
    (c = 3 ∨ (bit w.toNat 21 = 0 ∧ (s.chan c).badRun + 1 < max 1 (s.fd F.STAGE_MET_CFG_BAD_LIMIT))) →
    ∃ t, exec (.metSample c w r) s = .next t ∧ t.chan c = { s.chan c with badRun := (s.chan c).badRun + 1, settle := 0 } ∧
      t.fd F.STAGE_MET_BAD_COUNT_COUNT c = min (2 ^ 32 - 1) (s.fd F.STAGE_MET_BAD_COUNT_COUNT c + 1) ∧
      (c = 1 ∨ c = 3 → t = { (s.bump F.STAGE_MET_BAD_COUNT_COUNT 1 c).raise .STG_METRO_BAD with stage := t.stage })) ∧
  (∀ (s : State) (c : Fin 4) (w r : BitVec 64), s.up → s.metOn c = true → s.stage.gridAt ≤ (r.toNat : Int) → c < 3 → (s.chan c).calActive = false →
    s.anyRunning = false → s.metGood c w.toNat = false → (s.chan c).lost = false →
    (bit w.toNat 21 = 1 ∨ max 1 (s.fd F.STAGE_MET_CFG_BAD_LIMIT) ≤ (s.chan c).badRun + 1) →
    ∃ t, exec (.metSample c w r) s = .next t ∧ (t.chan c).lost = true ∧ (t.chan c).hasPrev = false ∧ (t.chan c).estValid = false ∧
      (t.chan c).dir = 0 ∧ t.fd F.STAGE_MET_BAD_COUNT_COUNT c = min (2 ^ 32 - 1) (s.fd F.STAGE_MET_BAD_COUNT_COUNT c + 1) ∧
      (c = 1 → t = { ((s.bump F.STAGE_MET_BAD_COUNT_COUNT 1 c).raise .STG_METRO_BAD).raise .STG_METRO_LOST with stage := t.stage })) ∧
  (∀ (s : State) (c : Fin 4) (w r : BitVec 64), s.up → s.metOn c = false ∨ (r.toNat : Int) < s.stage.gridAt → exec (.metSample c w r) s = .next s)) ∧
  ((∀ s : State, s.runs → s.str.safe = false → s.leads = true → s.native = true → s.plan.state.running = false →
    (s.chan s.metSel).calActive = false → s.cyc = [] →
    ∃ t, exec .metCal s = .next t ∧ t.chan s.metSel = { s.chan s.metSel with calActive := true, stale := true } ∧
      (∀ c, c ≠ s.metSel → c < 4 → t.chan c = s.chan c) ∧ t = { s with stage := { s.stage with met := t.stage.met }, cyc := t.cyc }) ∧
  (∀ s : State, s.runs → s.str.safe = false → s.plan.state.running = true ∨ s.leads = false ∨ s.native = false →
    exec .metCal s = .next (s.raise .STG_BUSY)) ∧
  (∀ (s s1 : State) (c : Fin 4) (clear : BitVec 64) (good : BitVec 9) (a n : Nat), s.up → s.cyc = [] → (s.chan c).calActive = true →
    longestRun clear.toNat s = (some (a, n), s1) → 16 ≤ n → 250 ≤ good.toNat →
    ∃ t, exec (.metCalDone c clear good) s = .next t ∧ t.chan c = { s.chan c with calActive := false, stale := false } ∧
      t.fd F.STAGE_MET_PHASE_STAGED c = (sat (((s.chan c).phase : Int) + ((a + (n - 1) / 2 : Nat) - 32)) 0 511).toNat ∧
      t = { s1 with stage := { s.stage with met := t.stage.met }, regs := t.regs }) ∧
  (∀ (s s1 : State) (c : Fin 4) (clear : BitVec 64) (good : BitVec 9), s.up → (s.chan c).calActive = true →
    longestRun clear.toNat s = (none, s1) →
    exec (.metCalDone c clear good) s = .next ((s1.setChan c { s.chan c with calActive := false, stale := false }).raise .STG_MET_CAL_IMPLAUSIBLE)) ∧
  (∀ (s s1 : State) (c : Fin 4) (clear : BitVec 64) (good : BitVec 9) (a n : Nat), s.up → (s.chan c).calActive = true →
    longestRun clear.toNat s = (some (a, n), s1) → n < 16 ∨ good.toNat < 250 →
    exec (.metCalDone c clear good) s = .next ((s1.setChan c { s.chan c with calActive := false, stale := false }).raise .STG_MET_CAL_IMPLAUSIBLE)))

/-- R346, R347: ARM arms the compare when the target lies ahead in its direction of the latest good position, and else, or with no good
sample, sets BEHIND and raises STG_COMPARE_BEHIND; DISARM ends it. R359, R360, R361, R374: a beat that was not issued for STALL_US while the stripe exposes damps with STG_BEAT_STALL and aborts; at
level 2 a projected headroom below HARD_MARGIN does with STG_TEMP_HARD; a PASS_START held for HOLD_MS does with STG_TEMP_HOLD. An
edge on BEAT_EXT of a lead or solo device with SRC = 1 is counted and stamped and, in RUN_IN and EXPOSING, kept for its beat; less
than 5 ns after the last one it sets EXT_SAT and raises STG_BEAT_BURST. Where in the present 2 ns an edge falls is a free value.
Where the rules leave a point open, these clauses are the model's choice: assumption log 7, 10, 45, 72. -/
def Obligations.CompareBeatsAndTemperature : Prop :=
  ((∀ s : State, s.runs → s.str.safe = false → s.cyc = [] → (s.chan (s.fd F.STAGE_CMP_CFG_CH)).hasPrev = true →
    0 < (sext 40 (s.pair F.STAGE_CMP_TARGET_LO_TARGET F.STAGE_CMP_TARGET_HI_TARGET) - (s.chan (s.fd F.STAGE_CMP_CFG_CH)).pos) *
      (if s.fb F.STAGE_CMP_CFG_DIR then -1 else 1) →
    exec .cmpArm s = .next { s with stage := { s.stage with cmpArmed := true } }) ∧
  (∀ s : State, s.runs → s.str.safe = false → s.cyc = [] → (s.chan (s.fd F.STAGE_CMP_CFG_CH)).hasPrev = false ∨
      (sext 40 (s.pair F.STAGE_CMP_TARGET_LO_TARGET F.STAGE_CMP_TARGET_HI_TARGET) - (s.chan (s.fd F.STAGE_CMP_CFG_CH)).pos) *
        (if s.fb F.STAGE_CMP_CFG_DIR then -1 else 1) ≤ 0 →
    exec .cmpArm s = .next ((({ s with stage := { s.stage with cmpArmed := false } } : State).setFlag F.STAGE_CMP_STATUS_BEHIND 1).raise
      .STG_COMPARE_BEHIND)) ∧
  (∀ s : State, s.runs → s.str.safe = false → exec .cmpDisarm s = .next { s with stage := { s.stage with cmpArmed := false } })) ∧
  ((∀ (s : State) (b : Nat × Int) (r : List (Nat × Int)), s.up → s.motionOn = true → s.plan.state = .exposing → s.stage.beats = b :: r →
    s.stage.nextBeat < s.passBeats → b.2 + s.stallT ≤ s.stageT →
    ∃ t, exec .beatStallTimeout s = .next t ∧ t = s.localDamp .STG_BEAT_STALL ∧ t.plan.state = .aborted ∧ t.caril.latch = true) ∧
  (∀ (s : State) (q : Rat), s.up → s.motionOn = true → s.plan.state = .exposing → s.fd F.STAGE_TEMP_STATUS_LEVEL = 2 → s.projection = some q →
    q < (s.fd F.STAGE_TEMP_CFG_HARD_MARGIN : Rat) →
    ∃ t, exec .tempProjection s = .next t ∧ t = s.localDamp .STG_TEMP_HARD ∧ t.plan.state = .aborted ∧ t.caril.latch = true) ∧
  (∀ (s : State) (q : Rat), s.up → s.motionOn = true → s.plan.state = .exposing → s.fd F.STAGE_TEMP_STATUS_LEVEL = 2 → s.projection = some q →
    (s.fd F.STAGE_TEMP_CFG_HARD_MARGIN : Rat) ≤ q → exec .tempProjection s = .next s) ∧
  (∀ (s : State) (h : Int), s.up → s.motionOn = true → s.plan.state = .runOut → s.plan.pass + 1 < s.passes → s.stage.holdFrom = some h →
    h + (10000000 * s.fd F.STAGE_TEMP_CFG_HOLD_MS : Nat) ≤ s.stageT →
    ∃ t, exec .tempHoldTimeout s = .next t ∧ t = s.localDamp .STG_TEMP_HOLD ∧ t.plan.state = .aborted ∧ t.caril.latch = true) ∧
  (∀ s : State, s.up → s.native = true → s.leads = true → s.fb F.STAGE_BEAT_CFG_SRC = true →
    (∀ e, s.stage.extLast = some e → e + 50 ≤ s.stageT) → s.clock.edges.isOpen = true → s.clock.edges.event ≠ none →
    s.plan.state = .runIn ∨ s.plan.state = .exposing →
    ∃ (t : State) (e : Int), exec .beatExtEdge s = .next t ∧ s.stageT ≤ e ∧ e < s.stageT + 20 ∧ t.stage.extLast = some e ∧
      t.stage.extEdges = s.stage.extEdges ++ [e] ∧ t.regs = (s.bumpWrap F.STAGE_EXT_COUNT_COUNT).regs ∧
      t = { s with stage := t.stage, regs := t.regs, clock := t.clock, freeCount := s.freeCount + 1 }) ∧
  (∀ s : State, s.up → s.native = true → s.leads = true → s.fb F.STAGE_BEAT_CFG_SRC = true →
    (∃ e, s.stage.extLast = some e ∧ s.stageT + 20 ≤ e + 50) →
    ∃ t, exec .beatExtEdge s = .next t ∧ t.fd F.STAGE_BEAT_STATUS_EXT_SAT = 1 ∧ t.freeCount = s.freeCount + 1 ∧
      t.stage.extEdges = s.stage.extEdges ∧ t.stage.extLast = s.stage.extLast ∧
      (s.anyRunning = false → t = (({ s with freeCount := s.freeCount + 1 } : State).setFlag F.STAGE_BEAT_STATUS_EXT_SAT 1).raise .STG_BEAT_BURST) ∧
      (s.plan.state = .exposing → t.plan.state = .aborted)))

/-- R349, R351, R353, R354, R377: each update moves both axes by one step of their plans, a new target being planned from that update;
MOVE and STOP give both axes new targets, and while a stripe runs both are turned away with STG_BUSY; a set-point frame leaves with
the planned state of the instant at which the next one begins, takes the next SEQ, and SP_SEQ shows its own.
Where the rules leave a point open, these clauses are the model's choice: assumption log 7, 45. -/
def Obligations.StageMotion : Prop :=
  (∀ s : State, s.up → s.motionOn = true → (s.axis 0).goal = none → (s.axis 1).goal = none →
    ∃ t, exec .profileUpdate s = .next t ∧ t.axis 0 = (s.axis 0).step ∧ t.axis 1 = (s.axis 1).step ∧
      t.stage.planHist = ((s.stageT, (s.axis 0).step.setPoint, (s.axis 1).step.setPoint) :: s.stage.planHist).take 16 ∧
      t = { s with stage := t.stage, cyc := t.cyc }) ∧
  (∀ (s : State) (g : AxisGoal), s.up → s.motionOn = true → (s.axis 0).goal = some g →
    ∃ t, exec .profileUpdate s = .next t ∧ (t.axis 0).goal = none ∧
      t.axis 0 = (({ s.axis 0 with goal := none }).planFor s.limits s.vmaxK g).step ∧ t = { s with stage := t.stage, cyc := t.cyc }) ∧
  (∀ s : State, s.runs → s.str.safe = false → s.motionOn = true → s.plan.state.running = false → s.saw .profileTick = false →
    ∃ t, exec .move s = .next t ∧ t.stage.spStop = false ∧
      t.axis 0 = { s.axis 0 with goal := some (.to (sext 40 (s.pair F.STAGE_MOVE_X_LO_POS F.STAGE_MOVE_X_HI_POS))) } ∧
      t.axis 1 = { s.axis 1 with goal := some (.to (sext 40 (s.pair F.STAGE_MOVE_Y_LO_POS F.STAGE_MOVE_Y_HI_POS))) } ∧
      t = { s with stage := { s.stage with axes := t.stage.axes, spStop := false } }) ∧
  (∀ s : State, s.runs → s.str.safe = false → s.motionOn = true → s.plan.state.running = false → s.saw .profileTick = false →
    ∃ t, exec .stop s = .next t ∧ t.axis 0 = { s.axis 0 with goal := some .stop } ∧ t.axis 1 = { s.axis 1 with goal := some .stop } ∧
      t = { s with stage := { s.stage with axes := t.stage.axes } }) ∧
  (∀ (s : State) (c : Instr), (c = .move ∨ c = .stop) → s.runs → s.str.safe = false → s.motionOn = true → s.plan.state.running = true →
    exec c s = .next (s.raise .STG_BUSY)) ∧
  (∀ s : State, s.up → s.motionOn = true →
    ∃ t, exec .setpointFrame s = .next t ∧ t.stage.spSeq = (s.stage.spSeq + 1) % 256 ∧
      t.fd F.STAGE_PROFILE_STATUS_SP_SEQ = s.stage.spSeq % 256 ∧
      (let x := (s.axis 0).updates s.limits s.vmaxK s.spUpdates
       let y := (s.axis 1).updates s.limits s.vmaxK s.spUpdates
       t.out = .setPoint (setPointBytes s.stage.spSeq (s.spFlags x y) x.setPoint y.setPoint (spAcc x y)) :: s.out) ∧
      t = { s with stage := { s.stage with spSeq := t.stage.spSeq, spPhase := t.stage.spPhase }, regs := t.regs, out := t.out })

/-- R384, R390, R391, R395, R396: SWAP makes the shadow bank active at once while no stripe runs, at the next cycle while one runs, and is
turned away with TRK_SWAP_BUSY while one waits; CLEAR and a write to TRACK_REP_CFG empty the selected axis's learning table;
a write to TRACK_MAP_DATA stores an entry, steps the index and makes a learning table ready; the last two are turned
away with TRK_BUSY while a stripe runs. R386: at the instant of a re-centre of a running stripe the engine takes its step into h_dfl and sends an extra DEFL block on TX[16] with
the clamped word; with none due the event does nothing.
Where the rules leave a point open, these clauses are the model's choice: assumption log 48. -/
def Obligations.TrackingTablesAndBlocks : Prop :=
  ((∀ s : State, s.runs → s.str.safe = false → s.trackOn = true → s.track.swapPending = false → s.plan.state.active = false →
    exec .swap s = .next (applySwap s) ∧ (applySwap s).track.bank = 1 - s.track.bank ∧ (applySwap s).track.swapPending = false) ∧
  (∀ s : State, s.runs → s.str.safe = false → s.trackOn = true → s.track.swapPending = false → s.plan.state.running = true →
    s.ulimOk (1 - s.track.bank) = true →
    ∃ t, exec .swap s = .next t ∧ t = { s with track := { s.track with swapPending := true }, cyc := t.cyc }) ∧
  (∀ s : State, s.runs → s.str.safe = false → s.trackOn = true → s.track.swapPending = true → exec .swap s = .next (s.raise .TRK_SWAP_BUSY)) ∧
  (∀ s : State, s.runs → s.str.safe = false → s.trackOn = true →
    ∃ t, exec .clear s = .next t ∧ (∀ j, t.track.entry (2 + s.fd F.TRACK_AXIS_SEL_AXIS) j = 0) ∧
      (∀ k j, k ≠ 2 + s.fd F.TRACK_AXIS_SEL_AXIS → t.track.entry k j = s.track.entry k j) ∧
      (t.track.ready[s.fd F.TRACK_AXIS_SEL_AXIS]?).getD false = false ∧
      t = { s with track := { s.track with tables := t.track.tables, fill := t.track.fill, ready := t.track.ready } }) ∧
  (∀ (s : State) (v : BitVec 32), s.runs → s.str.safe = false → s.trackOn = true → s.plan.state.running = false →
    ∃ t, exec (.trackMapDataWrite v) s = .next t ∧
      (∀ k j, t.track.entry k j = if k = s.fd F.TRACK_MAP_SEL_TABLE ∧ j % 65536 = s.fd F.TRACK_MAP_INDEX_INDEX then sext 32 v.toNat else s.track.entry k j) ∧
      t.regs = (s.setFd F.TRACK_MAP_INDEX_INDEX (s.fd F.TRACK_MAP_INDEX_INDEX + 1)).regs ∧
      t = { s with regs := t.regs, track := { s.track with tables := t.track.tables, ready := t.track.ready } }) ∧
  (∀ (s : State) (v : BitVec 32), s.runs → s.str.safe = false → s.trackOn = true → s.plan.state.running = false →
    ∃ t, exec (.trackRepCfgWrite v) s = .next t ∧ t.regs = (s.setRg .TRACK_REP_CFG v (s.fd F.TRACK_AXIS_SEL_AXIS)).regs ∧
      (∀ j, t.track.entry (2 + s.fd F.TRACK_AXIS_SEL_AXIS) j = 0) ∧
      t = { s with regs := t.regs, track := { s.track with tables := t.track.tables, fill := t.track.fill, ready := t.track.ready } }) ∧
  (∀ (s : State) (v : BitVec 32) (c : Instr), (c = .trackMapDataWrite v ∨ c = .trackRepCfgWrite v) → s.runs → s.str.safe = false →
    s.trackOn = true → s.plan.state.running = true → exec c s = .next (s.raise .TRK_BUSY))) ∧
  ((∀ (s : State) (x : PendShift) (b : Nat × Int), s.up → s.trackOn = true → s.plan.state.running = true → s.track.recentre = [x] →
    s.stage.beats.find? (fun b => b.1 == x.beat) = some b → b.2 - (10 * s.fd F.TRACK_RECENTRE_ADV_NS : Nat) ≤ s.stageT →
    ∃ t, exec .recentreBlock s = .next t ∧ t.track.recentre = [] ∧ t.track.hDfl = s.track.hDfl + x.step ∧
      t.track.words[0] = (s.clampWord 0 (s.track.base + (s.track.hDfl + x.step) * (s.pixel * 4096 : Nat))).1 ∧
      t.track.words[1] = s.track.words[1] ∧ t = sendDefl 16 t.track.words[0] false true { s with track := t.track }) ∧
  (∀ s : State, s.up → s.trackOn = true → s.track.recentre = [] → exec .recentreBlock s = .next s))

/-- R295, R297, R298: at the START of the next beat's peals, with every code it needs in hand and no damp, the peals leave the lanes in DATA
and the beat counts as started: each such lane takes the next SEQ and TSLOT and records its peal, which carries a firing beat in EXPOSE
alone. A line that has not been delivered, or a seam row that is missing, damps with CAR_LATE_PEAL, and poison in a seam row with
CAR_POISON, in every mode. While a damp generator drives the lanes nothing leaves. R296, R300, R312: a keep-alive that is due leaves an idle lane in DATA with no beat in its BEAT field, blank codes, COMMIT while no
stripe runs, and the measure command that is asked of the lane; its fire delay is a free value. A lane that is not in DATA sends
none, nor one that a damp generator drives.
Where the rules leave a point open, these clauses are the model's choice: assumption log 42, 43, 44, 82. -/
def Obligations.PealsAndKeepAlives : Prop :=
  ((∀ (s : State) (b : IssuedBeat), s.up → s.native = true → s.stage.issued.find? (fun x => !x.peals) = some b →
    s.plan.state = .runIn ∨ s.plan.state = .exposing → s.startAt b ≤ s.stageT → s.shiftRefused b.k = false → s.generatorOn = false →
    s.codesHeld b.k = true → s.seamCodesBad b.k (s.xi b.pass + s.hAt b.k) = (false, false) →
    ∃ t, exec .pealStart s = .next t ∧ t.stage = (markPeals b s).stage ∧
      (∀ n : Fin 16, (s.lane n).tx = .data → s.laneInUse n = true →
        (t.lane n).seq = ((s.lane n).seq + 1) % 65535 ∧ (t.lane n).tslot = ((s.lane n).tslot + 8) % 1024 ∧
        (t.lane n).peals.head? = some ⟨(s.lane n).seq, b.k, s.plan.pass, s.exposeMode == 0, false,
          s.stage.epoch + 100 * (s.startAt b).toNat + 312107⟩) ∧
      (∀ n : Fin 18, (s.lane n).tx ≠ .data → t.lane n = s.lane n) ∧
      t = sendBeatPeals b (s.stage.epoch + 100 * (s.startAt b).toNat) (markPeals b s) ∧
      t = { s with regs := t.regs, out := t.out, caril := t.caril, stage := t.stage }) ∧
  (∀ (s : State) (b : IssuedBeat), s.up → s.native = true → s.stage.issued.find? (fun x => !x.peals) = some b →
    s.plan.state = .runIn ∨ s.plan.state = .exposing → s.startAt b ≤ s.stageT → s.shiftRefused b.k = false → s.generatorOn = false →
    (s.codesHeld b.k = false ∨ (s.seamCodesBad b.k (s.xi b.pass + s.hAt b.k)).1 = true) →
    ∃ t, exec .pealStart s = .next t ∧ t = (markPeals b s).localDamp .CAR_LATE_PEAL ∧ t.plan.state = .aborted ∧ t.caril.latch = true) ∧
  (∀ (s : State) (b : IssuedBeat), s.up → s.native = true → s.stage.issued.find? (fun x => !x.peals) = some b →
    s.plan.state = .runIn ∨ s.plan.state = .exposing → s.startAt b ≤ s.stageT → s.shiftRefused b.k = false → s.generatorOn = false →
    s.codesHeld b.k = true → s.seamCodesBad b.k (s.xi b.pass + s.hAt b.k) = (false, true) →
    ∃ t, exec .pealStart s = .next t ∧ t = (markPeals b s).localDamp .CAR_POISON ∧ t.plan.state = .aborted ∧ t.caril.latch = true) ∧
  (∀ (s : State) (b : IssuedBeat), s.up → s.native = true → s.stage.issued.find? (fun x => !x.peals) = some b →
    s.plan.state = .runIn ∨ s.plan.state = .exposing → s.startAt b ≤ s.stageT → s.shiftRefused b.k = false → s.generatorOn = true →
    exec .pealStart s = .next (markPeals b s))) ∧
  ((∀ (s : State) (n : Fin 16), s.up → s.native = true → (s.lane n).tx = .data → s.laneInUse n = true → s.generatorOn = false →
    (s.lane n).wire = none → s.stage.issued = [] → s.keepAliveDue n = true →
    ∃ t, exec (.keepAlive n) s = .next t ∧ (t.lane n).seq = ((s.lane n).seq + 1) % 65535 ∧ t.freeCount = s.freeCount + 1 ∧
      (t.lane n).peals.head? = some ⟨(s.lane n).seq, 0xFFFFFFFF, s.plan.pass, false, false, s.now + 312107⟩ ∧
      t = sendPeal n 0xFFFFFFFF (Config.freeValue s.freeCount % 65536) (1 + (if s.plan.state.running then 0 else 4))
        (if bit s.caril.measureReq n = 1 then 1 else if bit s.caril.measureAbort n = 1 then 2 else 0) blankCodes false s.now
        { s with freeCount := s.freeCount + 1 } ∧
      t = { s with caril := t.caril, out := t.out, freeCount := t.freeCount }) ∧
  (∀ (s : State) (n : Fin 16), s.up → (s.lane n).tx ≠ .data ∨ s.generatorOn = true → exec (.keepAlive n) s = .next s))

/-- R303, R304, R532, R39, R48: a local damp source sets LATCH with its cause, takes the lanes, and aborts a native stripe in RUN_IN or
EXPOSING with its fault and node in the abort record; a source from outside does not set LATCH. DAMP_N low raises
SAF_DAMP_EXTERNAL where LATCH is clear and AON runs; the pin follows its level. LATCH stays where a local source persists.
Where the rules leave a point open, these clauses are the model's choice: assumption log 43, 63. -/
def Obligations.DampSources : Prop :=
  (∀ (s : State) (loc : Bool) (code : BitVec 16) (node : BitVec 14), s.native = true → s.plan.state = .runIn ∨ s.plan.state = .exposing →
    ∃ t, exec (.dampSource loc code node) s = .next t ∧ t.plan.state = .aborted ∧ t.plan.abortAt = s.now ∧
      t.fd F.PLAN_ABORT_CAUSE_FAULT = code.toNat ∧ t.fd F.PLAN_ABORT_CAUSE_NODE = node.toNat ∧
      t.caril.latch = (s.caril.latch || loc) ∧ t.caril.cause = (if loc && !s.caril.latch then code.toNat else s.caril.cause)) ∧
  (∀ (s : State) (loc : Bool) (code : BitVec 16) (node : BitVec 14), s.native = true → s.plan.state = .idle → s.str.role ≠ .lead →
    ∃ t, exec (.dampSource loc code node) s = .next t ∧ t.caril.latch = (s.caril.latch || loc) ∧
      t.caril.cause = (if loc && !s.caril.latch then code.toNat else s.caril.cause) ∧
      (∀ n : Fin 18, (s.lane n).tx = .data → (t.lane n).wire = none) ∧ (∀ n : Fin 18, (s.lane n).tx ≠ .data → t.lane n = s.lane n) ∧
      t = { s with caril := t.caril, regs := t.regs, out := t.out, cyc := t.cyc }) ∧
  (∀ s : State, s.native = true → s.plan.state = .idle → s.caril.dampN = false → s.caril.latch = false →
    ∃ t, exec .dampNAsserted s = .next t ∧ t.caril.dampN = true ∧ t.caril.latch = false ∧
      (∀ n : Fin 18, (s.lane n).tx = .data → (t.lane n).wire = none) ∧
      t = { s.raiseIf (!s.glob.aonReset) .SAF_DAMP_EXTERNAL with caril := t.caril, regs := t.regs, out := t.out }) ∧
  (∀ s : State, s.caril.dampN = true → exec .dampNAsserted s = .next s) ∧
  (∀ s : State, exec .dampNDeasserted s = .next { s with caril := { s.caril with dampN := false } }) ∧
  (∀ s : State, s.runs → s.localPersists = false → s.saw .localSource = false →
    exec .latchClear s = .next { s with caril := { s.caril with latch := false }, fault := { s.fault with aonDamp := false } }) ∧
  (∀ s : State, s.runs → s.localPersists = true ∨ s.saw .localSource = true → exec .latchClear s = .next s)

/-- R312 to R315, R326, R284, R321: a complete STATUS echo with a correct CRC and a level that does not change gives the lane ECHO_OK and
its driver's words; a MEASURE echo of a lane enters its readings in a running electrical scan; any echo that is incomplete or fails
its checks is counted and raises CAR_ECHO_BAD. A lane in use without an echo for its timeout raises CAR_ECHO_LOST and loses ECHO_OK,
and while a stripe runs it damps. The equaliser that adapts while an echo arrives in DATA holds free values.
Where the rules leave a point open, these clauses are the model's choice: assumption log 70, 79. -/
def Obligations.EchoFrames : Prop :=
  (∀ (s : State) (n : Fin 18) (l : List Byte), s.up → s.native = true → (s.lane n).rx = .acquire ∨ (s.lane n).rx = .data →
    echoGood n l = true → byteAt l 0 = 1 →
    max (min 3 (byteAt l 6)) (s.tempLevelOf n (sext 16 (leAt l 4 2)) (s.lane n).tempLevel) = (s.lane n).level → (s.lane n).statusAt = 0 →
    ∃ t, exec (.statusEcho n true l) s = .next t ∧ (t.lane n).echoOk = true ∧ (t.lane n).statusAt = s.now ∧ (t.lane n).echoFrom = s.now ∧
      (t.lane n).lost = leAt l 0x0C 4 ∧ (t.lane n).drvEpoch = byteAt l 0x14 % 16 ∧ (t.lane n).level = (s.lane n).level ∧
      t.fd F.LANE_DRV_TEMP_TEMP n = leAt l 4 2 ∧ t.fd F.LANE_DRV_LOST_COUNT n = leAt l 0x0C 4 ∧
      t = { s with regs := t.regs, caril := t.caril, freeCount := t.freeCount }) ∧
  (∀ (s : State) (n : Fin 18) (l : List Byte) (sc : ScanSt), s.up → s.native = true → (s.lane n).rx = .acquire ∨ (s.lane n).rx = .data →
    echoGood n l = true → byteAt l 0 = 2 → n.val < 16 → s.plan.scan = some sc → sc.kind = .electrical → byteAt l 7 = 1 →
    bit sc.lanesDone n = 0 →
    ∃ (t : State) (sc' : ScanSt), exec (.measureEcho n true l) s = .next t ∧ t.plan = { s.plan with scan := some sc' } ∧
      sc'.lanesDone = sc.lanesDone + 2 ^ n.val ∧ (t.lane n).echoFrom = s.now ∧ (t.lane n).echoDead = false ∧
      t = { s with regs := t.regs, caril := t.caril, plan := t.plan, freeCount := t.freeCount }) ∧
  (∀ (s : State) (n : Fin 18) (l : List Byte), s.up → s.native = true → (s.lane n).rx = .acquire → echoGood n l = true → byteAt l 0 = 3 →
    (s.lane n).tx = .training → s.trainOver n = false → (s.lane n).train.pendingHold = false → byteAt l 4 % 64 = 0 → byteAt l 5 = 4 →
    ∃ t, exec (.trainEcho n true l) s = .next t ∧ (t.lane n).train = { (s.lane n).train with rxReady := (s.lane n).train.rxReady + 1 } ∧
      (t.lane n).mismatch = false ∧ (t.lane n).echoFrom = s.now ∧ t = { s with caril := t.caril }) ∧
  (∀ (s : State) (n : Fin 18) (c : Bool) (l : List Byte) (i : Instr), i ∈ [Instr.statusEcho n c l, .measureEcho n c l, .trainEcho n c l] → s.up →
    s.native = true → (s.lane n).rx = .acquire ∨ (s.lane n).rx = .data → (c && echoGood n l) = false →
    exec i s = .next ((s.bump F.LANE_ECHO_BAD_COUNT 1 n).raise .CAR_ECHO_BAD)) ∧
  (∀ (s : State) (n : Fin 18), s.up → s.native = true → (s.lane n).echoOn = true → (s.lane n).rx ≠ .sleep → (s.lane n).echoDead = false →
    s.laneInUse n = true → (s.lane n).echoFrom + 1000000 * clampN 25 80 (s.fd F.LANE_TIMEOUT_ECHO_US n) < s.now → s.plan.state.running = false →
    exec (.echoTimeout n) s = .next ((s.setLane n { s.lane n with echoOk := false, echoDead := true }).raise .CAR_ECHO_LOST)) ∧
  (∀ (s : State) (n : Fin 18), s.up → s.native = true → (s.lane n).echoOn = true → (s.lane n).rx ≠ .sleep → (s.lane n).echoDead = false →
    s.laneInUse n = true → (s.lane n).echoFrom + 1000000 * clampN 25 80 (s.fd F.LANE_TIMEOUT_ECHO_US n) < s.now → s.plan.state = .exposing →
    ∃ t, exec (.echoTimeout n) s = .next t ∧ (t.lane n).echoOk = false ∧ t.plan.state = .aborted ∧ t.caril.latch = true ∧
      t.fd F.PLAN_ABORT_CAUSE_FAULT = FaultCode.num .CAR_ECHO_LOST)

/-- R317, R319, R320, R321: a lane in TRAINING sends train frames with its taps and statuses, DONE once its receiver has adapted and four
RX_READY have come, and goes to DATA with the sixteenth DONE; the equaliser that has adapted holds free values. After TRAIN_MS the lane
goes to FAILED with CAR_TRAIN_FAIL; RETRAIN starts training on a lane in use outside an active stripe, and within one is turned
away with CAR_LANE_BUSY. R323 to R325, R291: the sleep and wake commands move the selected lane's TX or RX outside an active stripe; a woken TX reaches DATA
after 2 µs of IDLE blocks and a woken RX once it has acquired; a sweep of the eye is asked for, and its result becomes the staged
offset; within an active stripe the sleep and EYE_CAL commands raise CAR_LANE_BUSY. Block lock lost and regained move the RX between
DATA and LOST.
Where the rules leave a point open, these clauses are the model's choice: assumption log 7, 42, 79. -/
def Obligations.LaneTrainingAndSleep : Prop :=
  ((∀ (s : State) (n : Fin 18), s.up → (s.lane n).tx = .training → (s.lane n).train.doneFrames = 0 → (s.lane n).train.rxAdapted = false →
    exec (.trainFrame n false) s = .next (s.emit (.trainFrame n (trainBytes n s.node (s.taps n).1 (s.taps n).2.1 (s.taps n).2.2
      ((s.lane n).train.statPre + 4 * (s.lane n).train.statMain + 16 * (s.lane n).train.statPost) 0)))) ∧
  (∀ (s : State) (n : Fin 18), s.up → (s.lane n).tx = .training → (s.lane n).train.doneFrames = 0 → (s.lane n).train.rxAdapted = false →
    (s.lane n).train.rxReady < 4 →
    ∃ t, exec (.trainFrame n true) s = .next t ∧ (t.lane n).train = { (s.lane n).train with rxAdapted := true } ∧
      t.out = (s.emit (.trainFrame n (trainBytes n s.node (s.taps n).1 (s.taps n).2.1 (s.taps n).2.2
        ((s.lane n).train.statPre + 4 * (s.lane n).train.statMain + 16 * (s.lane n).train.statPost) 1))).out ∧
      t = { s with out := t.out, caril := t.caril, regs := t.regs, freeCount := s.freeCount + 2 }) ∧
  (∀ (s : State) (n : Fin 18), s.up → (s.lane n).tx = .training → (s.lane n).rx = .acquire → (s.lane n).train.doneFrames = 15 →
    (s.lane n).train.rxAdapted = true → s.generatorOn = false → s.plan.state.running = false →
    ∃ t, exec (.trainFrame n false) s = .next t ∧ (t.lane n).tx = .data ∧ (t.lane n).rx = .data ∧ (t.lane n).echoOk = false ∧
      (t.lane n).echoFrom = s.now ∧ t.out = (s.emit (.trainFrame n (trainBytes n s.node (s.taps n).1 (s.taps n).2.1 (s.taps n).2.2
        ((s.lane n).train.statPre + 4 * (s.lane n).train.statMain + 16 * (s.lane n).train.statPost) 3))).out ∧
      t = { s with out := t.out, caril := t.caril }) ∧
  (∀ (s : State) (n : Fin 18), s.up → (s.lane n).tx = .training →
    (s.lane n).train.enteredAt + 1000000000 * clampN 10 1000 (s.fd F.LANE_TIMEOUT_TRAIN_MS n) ≤ s.now →
    exec (.trainTimeout n) s = .next ((s.setLane n { s.lane n with tx := .failed }).raise .CAR_TRAIN_FAIL)) ∧
  (∀ s : State, s.runs → s.str.safe = false → s.native = true → s.plan.state.active = false → s.laneInUse s.laneSel = true →
    ∃ t, exec .retrain s = .next t ∧ (t.lane s.laneSel).tx = .training ∧ (t.lane s.laneSel).train = { TrainSt.fresh with enteredAt := s.now } ∧
      (t.lane s.laneSel).rx = (if (s.lane s.laneSel).rx = .sleep then .sleep else .acquire) ∧ t = { s.cmdSeen with caril := t.caril }) ∧
  (∀ s : State, s.runs → s.str.safe = false → s.native = true → s.plan.state.active = true →
    exec .retrain s = .next (s.cmdSeen.raise .CAR_LANE_BUSY))) ∧
  ((∀ s : State, s.runs → s.str.safe = false → s.native = true → s.laneBusy s.laneSel = false →
    ∃ t, exec .txSleep s = .next t ∧ t = { s.setLane s.laneSel { s.lane s.laneSel with tx := .sleep, wire := none } with cyc := t.cyc }) ∧
  (∀ s : State, s.runs → s.str.safe = false → s.native = true → s.laneBusy s.laneSel = false →
    ∃ t, exec .rxSleep s = .next t ∧ t = { s.setLane s.laneSel { s.lane s.laneSel with rx := .sleep, echoOk := false } with cyc := t.cyc }) ∧
  (∀ (s : State) (c : Instr), (c = .txSleep ∨ c = .rxSleep ∨ c = .eyeCal) → s.runs → s.str.safe = false → s.native = true →
    s.laneBusy s.laneSel = true → exec c s = .next (s.raise .CAR_LANE_BUSY)) ∧
  (∀ s : State, s.runs → s.str.safe = false → s.native = true → s.laneInUse s.laneSel = true →
    (s.lane s.laneSel).tx = .sleep → exec .txWake s = .next (s.cmdSeen.setLane s.laneSel { s.lane s.laneSel with tx := .waking, txWakeAt := s.now })) ∧
  (∀ s : State, s.runs → s.str.safe = false → s.native = true → s.laneInUse s.laneSel = true →
    (s.lane s.laneSel).rx = .sleep →
    exec .rxWake s = .next (s.cmdSeen.setLane s.laneSel { s.lane s.laneSel with rx := .acquire, echoFrom := s.now })) ∧
  (∀ (s : State) (n : Fin 18), s.up → (s.lane n).tx = .waking → (s.lane n).txWakeAt + 2000000 ≤ s.now → s.generatorOn = false → s.plan.state.running = false →
    exec (.laneWakeDone n true) s = .next (s.setLane n { s.lane n with
      tx := .data, echoOk := false, echoSeen := false, echoOn := true, echoFrom := s.now, echoDead := false, wire := none })) ∧
  (∀ (s : State) (n : Fin 18), s.up → (s.lane n).rx = .acquire → (s.lane n).tx ≠ .training →
    exec (.laneWakeDone n false) s = .next (s.setLane n { s.lane n with rx := .data })) ∧
  (∀ s : State, s.runs → s.str.safe = false → s.native = true → s.plan.state.active = false → s.laneSel < 16 ∨ s.leads = true →
    ∃ t, exec .eyeCal s = .next t ∧ t = { s.setLane s.laneSel { s.lane s.laneSel with eyeSweep := true } with cyc := t.cyc }) ∧
  (∀ (s s1 : State) (n : Fin 18) (clear : BitVec 64) (a k : Nat), s.up → (s.lane n).eyeSweep = true → longestRun clear.toNat s = (some (a, k), s1) →
    16 ≤ k → (((a + (k - 1) / 2 : Nat) : Int) - 32 - (s.lane n).eyeActive).natAbs ≤ 16 →
    exec (.eyeCalDone n clear) s = .next ((s1.setLane n { s.lane n with eyeSweep := false, eyeStaged := ((a + (k - 1) / 2 : Nat) : Int) - 32 }).setFd
      F.LANE_EYE_WIDTH k n)) ∧
  (∀ (s s1 : State) (n : Fin 18) (clear : BitVec 64) (a k : Nat), s.up → (s.lane n).eyeSweep = true → longestRun clear.toNat s = (some (a, k), s1) →
    k < 16 → exec (.eyeCalDone n clear) s = .next ((s1.setLane n { s.lane n with eyeSweep := false }).raise .CAR_EYE_IMPLAUSIBLE)) ∧
  (∀ (s : State) (n : Fin 18), s.up → (s.lane n).rx = .data → exec (.blockLockLost n) s = .next (s.setLane n { s.lane n with rx := .lost })) ∧
  (∀ (s : State) (n : Fin 18), s.up → (s.lane n).rx = .lost → exec (.blockLockRegained n) s = .next (s.setLane n { s.lane n with rx := .data })))

/-- R283 to R287, R312, R475: an accepted scan claims its result slot and runs: the electrical scan asks lanes 0 to 15 to measure, the gate
scan opens its baseline window. A scan that may not start raises PLN_SCAN_BUSY, one whose slot is taken HST_SLOT_BUSY. ABORT fills the
slot, raises PLN_SCAN_IMPLAUSIBLE and leaves no scan running. A scan that is complete and plausible writes its table, fills its slot
with what it found and, with APPLY = 1 on its own device, stages its results.
Where the rules leave a point open, these clauses are the model's choice: assumption log 42, 70. -/
def Obligations.BeamScans : Prop :=
  (∀ s : State, s.runs → s.cmdSeen.scanOk .electrical = true → (s.slot (s.fd F.PLAN_SCAN_SLOT_SLOT)).st = .free →
    ∃ t sc, exec .electrical s = .next t ∧ t.plan.scan = some sc ∧ sc.kind = .electrical ∧ sc.startedAt = s.now ∧ sc.slot = s.fd F.PLAN_SCAN_SLOT_SLOT ∧
      t.caril.measureReq = 0xFFFF ∧ t.dma = (slotClaim (s.fd F.PLAN_SCAN_SLOT_SLOT) 1 0 s).dma ∧
      t = { s.cmdSeen with plan := t.plan, caril := t.caril, dma := t.dma, cyc := t.cyc }) ∧
  (∀ s : State, s.runs → s.cmdSeen.scanOk .gate = true → (s.slot (s.fd F.PLAN_SCAN_SLOT_SLOT)).st = .free →
    ∃ t sc, exec .gate s = .next t ∧ t.plan.scan = some sc ∧ sc.kind = .gate ∧ sc.window = some (s.stageT + s.windowLen) ∧ sc.baseline = none ∧
      t.dma = (slotClaim (s.fd F.PLAN_SCAN_SLOT_SLOT) 1 0 s).dma ∧ t = { s.cmdSeen with plan := t.plan, dma := t.dma, cyc := t.cyc }) ∧
  (∀ s : State, s.runs → s.cmdSeen.scanOk .electrical = false → exec .electrical s = .next (s.cmdSeen.raise .PLN_SCAN_BUSY)) ∧
  (∀ s : State, s.runs → s.cmdSeen.scanOk .gate = true → (s.slot (s.fd F.PLAN_SCAN_SLOT_SLOT)).st ≠ .free →
    exec .gate s = .next (s.cmdSeen.raise .HST_SLOT_BUSY)) ∧
  (∀ (s : State) (sc : ScanSt), s.runs → s.cyc = [] → s.plan.scan = some sc → sc.slot < 256 →
    ∃ t, exec .scanAbort s = .next t ∧ t.plan = { s.plan with scan := none } ∧
      t.caril = { s.caril with measureReq := 0, measureAbort := if sc.kind = .electrical then 0xFFFF else s.caril.measureAbort } ∧
      t.slot sc.slot = { s.slot sc.slot with st := .ready, data := s.scanPayload sc FaultCode.PLN_SCAN_IMPLAUSIBLE.num false } ∧
      t = { s.cmdSeen.raise .PLN_SCAN_IMPLAUSIBLE with plan := t.plan, caril := t.caril, dma := t.dma, out := t.out }) ∧
  (∀ (s : State) (sc : ScanSt), s.up → s.cyc = [] → s.plan.scan = some sc → sc.slot < 256 → sc.kind = .electrical → sc.lanesDone = 0xFFFF → sc.fault = 0 →
    (sc.entries.filter (fun e => bit e.2.2.2.1 1 == 1)).length ≤ s.fd F.PLAN_SCAN_LEAK_MAX_CHANGE → s.fb F.PLAN_SCAN_CFG_APPLY = true →
    ∃ t, exec .scanDone s = .next t ∧ t.plan = { (applyScan sc s).plan with scan := none } ∧
      t.caril = { (applyScan sc s).caril with measureReq := 0 } ∧
      t.slot sc.slot = { s.slot sc.slot with st := .ready, data := s.scanPayload sc 0 true } ∧
      t = { dramWrite s.scanTableBase (s.scanTable sc) s with plan := t.plan, caril := t.caril, dma := t.dma, out := t.out }) ∧
  (∀ s : State, s.up → s.plan.scan = none → s.saw .armInScan = false → exec .scanDone s = .next s)

/-- R519 to R524: COMPUTE, APPEND, STRIP and COMPARE start on the selected unit; a unit that runs or is claimed raises CHK_BUSY, parameters
that may not run CHK_CONFIG_INVALID; ABORT ends a running command ABORTED. A command ends over good DRAM with the CRC of its range as
the result: COMPUTE OK, APPEND with the CRC written behind the range, STRIP and COMPARE OK or MISMATCH by the bytes behind the range
and by EXPECT. Over poison the result is 0 and the outcome POISON.
Where the rules leave a point open, these clauses are the model's choice: assumption log 8. -/
def Obligations.CheckUnits : Prop :=
  (∀ (s : State) (c : Instr) (k : Nat), (c, k) ∈ [(Instr.compute, 1), (.append, 2), (.strip, 3), (.checkCompare, 4)] → s.runs →
    s.checkBusy s.checkSel = false → s.checkInvalid s.checkSel k = false →
    ∃ t, exec c s = .next t ∧ t.check.run[s.checkSel]? = some (some k) ∧ t = { s.setRun s.checkSel (some k) with cyc := t.cyc }) ∧
  (∀ (s : State) (c : Instr), c ∈ [Instr.compute, .append, .strip, .checkCompare] → s.runs → s.checkBusy s.checkSel = true →
    exec c s = .next (s.raise .CHK_BUSY)) ∧
  (∀ (s : State) (c : Instr) (k : Nat), (c, k) ∈ [(Instr.compute, 1), (.append, 2), (.strip, 3), (.checkCompare, 4)] → s.runs →
    s.checkBusy s.checkSel = false → s.checkInvalid s.checkSel k = true → exec c s = .next (s.raise .CHK_CONFIG_INVALID)) ∧
  (∀ (s : State) (k : Nat), s.runs → s.check.run[s.checkSel]? = some (some k) →
    ∃ t, exec .checkAbort s = .next t ∧ t.check.run[s.checkSel]? = some none ∧
      t = { (s.setFd F.CHECK_STATUS_OUTCOME 4 s.checkSel).setRun s.checkSel none with cyc := t.cyc }) ∧
  (∀ (s : State) (u : Fin 10), s.up → s.hbm.filling = false → s.cyc = [] → s.anyPcFailed = false → s.dramMark = [] → s.check.run[u] = some 1 →
    s.dramBad (s.checkBase u) (s.checkSize u) = false → s.fb F.CHECK_CFG_AUTO_INC u = false →
    ∃ t, exec (.checkDone u) s = .next t ∧ t.rg .CHECK_RESULT u = BitVec.ofNat 32 (crc (s.checkFolded u) (s.dramBytes (s.checkBase u) (s.checkSize u))) ∧
      t.fd F.CHECK_STATUS_OUTCOME u = 1 ∧ t.check.run[u] = none ∧ t = { s with regs := t.regs, check := t.check }) ∧
  (∀ (s : State) (u : Fin 10), s.up → s.hbm.filling = false → s.cyc = [] → s.check.run[u] = some 1 →
    s.dramBad (s.checkBase u) (s.checkSize u) = true →
    ∃ t, exec (.checkDone u) s = .next t ∧ t.rg .CHECK_RESULT u = 0 ∧ t.fd F.CHECK_STATUS_OUTCOME u = 3 ∧ t.check.run[u] = none ∧
      t.dram = s.dram) ∧
  (∀ (s : State) (u : Fin 10), s.up → s.hbm.filling = false → s.cyc = [] → s.anyPcFailed = false → s.dramMark = [] → s.check.run[u] = some 2 →
    s.dramBad (s.checkBase u) (s.checkSize u) = false → s.fb F.CHECK_CFG_AUTO_INC u = false →
    s.libraryProtects (s.checkBase u + s.checkSize u) (s.checkFolded u).bytes = false →
    s.storeProtects (s.checkBase u + s.checkSize u) (s.checkFolded u).bytes = false →
    ∃ t, exec (.checkDone u) s = .next t ∧ t.fd F.CHECK_STATUS_OUTCOME u = 1 ∧ t.check.run[u] = none ∧
      t = { dramWrite (s.checkBase u + s.checkSize u) (leBytes (s.checkFolded u).bytes
        (crc (s.checkFolded u) (s.dramBytes (s.checkBase u) (s.checkSize u)))) s with regs := t.regs, check := t.check, cyc := t.cyc }) ∧
  (∀ (s : State) (u : Fin 10), s.up → s.hbm.filling = false → s.cyc = [] → s.anyPcFailed = false → s.dramMark = [] → s.check.run[u] = some 3 →
    s.dramBad (s.checkBase u) (s.checkSize u) = false → s.fb F.CHECK_CFG_AUTO_INC u = false →
    s.dramLe (s.checkBase u + (s.checkSize u - (s.checkFolded u).bytes)) (s.checkFolded u).bytes =
      crc (s.checkFolded u) (s.dramBytes (s.checkBase u) (s.checkSize u - (s.checkFolded u).bytes)) →
    ∃ t, exec (.checkDone u) s = .next t ∧ t.fd F.CHECK_STATUS_OUTCOME u = 1 ∧ t.check.run[u] = none ∧
      t.fd F.CHECK_LEN_LO_LEN u = (s.checkSize u - (s.checkFolded u).bytes) % 2 ^ 32 ∧ t = { s with regs := t.regs, check := t.check }) ∧
  (∀ (s : State) (u : Fin 10), s.up → s.hbm.filling = false → s.cyc = [] → s.anyPcFailed = false → s.dramMark = [] → s.check.run[u] = some 4 →
    s.dramBad (s.checkBase u) (s.checkSize u) = false → s.fb F.CHECK_CFG_AUTO_INC u = false →
    ∃ t, exec (.checkDone u) s = .next t ∧ t.check.run[u] = none ∧
      (s.fd F.CHECK_EXPECT_VALUE u % 2 ^ (s.checkFolded u).width = crc (s.checkFolded u) (s.dramBytes (s.checkBase u) (s.checkSize u)) →
        t.fd F.CHECK_STATUS_OUTCOME u = 1 ∧ t = { s with regs := t.regs, check := t.check }) ∧
      (s.fd F.CHECK_EXPECT_VALUE u % 2 ^ (s.checkFolded u).width ≠ crc (s.checkFolded u) (s.dramBytes (s.checkBase u) (s.checkSize u)) →
        t.fd F.CHECK_STATUS_OUTCOME u = 2 ∧
        t = { s.raise (if u.val < 8 then .CHK_MISMATCH else .CHK_PRIV_MISMATCH) with regs := t.regs, check := t.check }))

/-- R538 to R541: an enabled rimshot from the command, the pin or the cadence link captures the snapshot, SEQ rising and HELD set, or is counted
as missed with SAF_SNAP_MISSED where a snapshot is held and may not be overwritten; a lead whose rimshots go to the column sends
one instead. RELEASE clears HELD, the end of the capture frees the logic, and RIMSHOT_OUT falls after 100 ns.
Where the rules leave a point open, these clauses are the model's choice: assumption log 61, 62. -/
def Obligations.Snapshots : Prop :=
  (∀ s : State, s.runs → s.rimOn 0 = true → s.rimColumn = false → s.snap.capturing = none → s.snap.held = false →
    ∃ t, exec .snapRimshot s = .next t ∧ t.snap.held = true ∧ t.snap.seq = (s.snap.seq + 1) % 65536 ∧ t.snap.capturing = some 0 ∧
      t.snap.words[0] = BitVec.ofNat 32 ((s.snap.seq + 1) % 65536 + 2 ^ 31) ∧
      t = { s with snap := t.snap, freeCount := t.freeCount, cyc := t.cyc }) ∧
  (∀ s : State, s.runs → s.rimOn 0 = true → s.rimColumn = false → s.snap.capturing = none → s.snap.held = true → s.fb F.SNAP_CFG_OVERWRITE = false →
    s.fb F.SNAP_CFG_OUT_EN = false →
    ∃ t, exec .snapRimshot s = .next t ∧ t = { (s.bump F.SNAP_MISSED_COUNT).raise .SAF_SNAP_MISSED with cyc := t.cyc }) ∧
  (∀ s : State, s.glob.aonReset = false → s.glob.ready = true → s.wakeOn 4 = false → s.rimOn 1 = true → s.rimColumn = false → s.snap.capturing = none →
    s.snap.held = false →
    ∃ t, exec .rimshotInEdge s = .next t ∧ t.snap.held = true ∧ t.snap.seq = (s.snap.seq + 1) % 65536 ∧ t.snap.capturing = some 1 ∧
      t.snap.words[0] = BitVec.ofNat 32 ((s.snap.seq + 1) % 65536 + 65536 + 2 ^ 31) ∧
      t = { s with snap := t.snap, freeCount := t.freeCount, cyc := t.cyc }) ∧
  (∀ (s s1 : State) (c : CadCmd), s.up → s.native = true → takeScheduled 7 s = some (c, s1) → s.rimOn 3 = true → s.snap.capturing = none →
    s.snap.held = false →
    ∃ t, exec (.cadRimshot []) s = .next t ∧ t.snap.held = true ∧ t.snap.seq = (s.snap.seq + 1) % 65536 ∧ t.snap.capturing = some 3 ∧
      t.snap.words[0] = BitVec.ofNat 32 ((s.snap.seq + 1) % 65536 + 3 * 65536 + 2 ^ 31) ∧
      t = { s1 with snap := t.snap, freeCount := t.freeCount, cyc := t.cyc }) ∧
  (∀ s : State, s.runs → s.rimOn 0 = true → s.rimColumn = true → s.fb F.SNAP_CFG_OUT_EN = false →
    exec .snapRimshot s = .next { s with cad := { s.cad with due := s.cad.due ++ [⟨7, 0, 0⟩] } }) ∧
  (∀ s : State, s.runs → s.cyc = [] → exec .snapRelease s = .next { s with snap := { s.snap with held := false } }) ∧
  (∀ s : State, s.glob.aonReset = false → exec .snapCaptureDone s = .next { s with snap := { s.snap with capturing := none } }) ∧
  (∀ s : State, s.glob.aonReset = false → s.snap.outHigh = true → s.snap.outUntil ≤ s.now →
    exec .rimshotOutFall s = .next { s with snap := { s.snap with outHigh := false } })

/-- R164, R166, R181, R186, R187, R515, R574: a free bobbin in service takes the next tile that may be issued: one that is to be issued again
first, a live job that waits before any tile; a bobbin that may take no job, runs or holds one is given none. With DUAL_RUN = 1 a tile is
asked for twice, the second time of another bobbin. A run that ends leaves its coverage on the bobbin, which holds it; over a poisoned
read BOB_POISON is raised and the tile is never delivered (R190). The next tile of the stripe, once its result stands ready, is
delivered: its words reach correction, and every bobbin that held it is free.
Where the rules leave a point open, these clauses are the model's choice: assumption log 8, 38, 81. -/
def Obligations.TilesRunAndDeliver : Prop :=
  (∀ (s : State) (b : Fin 32), s.up → s.native = true → s.plan.state.active = true → s.fromStore = false → s.takesJobs b = true →
    (s.unit b).busy = false → (s.unit b).held = none → s.bob.live = [] → s.mayIssue classBob b = true → s.pipeOf b < 4 →
    (s.tiles (s.pipeOf b)).again = [] → (s.tiles (s.pipeOf b)).dual = false → s.tileReady (s.pipeOf b) (s.tiles (s.pipeOf b)).issued = true →
    ∃ t, exec (.tileIssue b) s = .next t ∧
      t.tiles (s.pipeOf b) = { s.tiles (s.pipeOf b) with issued := (s.tiles (s.pipeOf b)).issued + 1 } ∧
      t.unit b = { s.unit b with job := .tile (s.tiles (s.pipeOf b)).issued (s.tileUnits (s.pipeOf b) (s.tiles (s.pipeOf b)).issued).length, startedAt := s.now } ∧
      (∀ k, k < 32 → k ≠ b.val → t.unit k = s.unit k) ∧ t = { s with bob := { s.bob with queues := t.bob.queues, units := t.bob.units }, power := t.power }) ∧
  (∀ (s : State) (b : Fin 32), s.up → s.native = false → (s.pers (s.pipeOf b)).state.active = true → s.takesJobs b = true →
    (s.unit b).busy = false → (s.unit b).held = none → s.bob.live = [] → s.mayIssue classBob b = true → s.pipeOf b < 4 →
    (s.tiles (s.pipeOf b)).again = [] → (s.tiles (s.pipeOf b)).dual = false → s.tileReady (s.pipeOf b) (s.tiles (s.pipeOf b)).issued = true →
    ∃ t, exec (.tileIssue b) s = .next t ∧
      t.tiles (s.pipeOf b) = { s.tiles (s.pipeOf b) with issued := (s.tiles (s.pipeOf b)).issued + 1 } ∧
      t.unit b = { s.unit b with job := .tile (s.tiles (s.pipeOf b)).issued (s.tileUnits (s.pipeOf b) (s.tiles (s.pipeOf b)).issued).length, startedAt := s.now } ∧
      (∀ k, k < 32 → k ≠ b.val → t.unit k = s.unit k) ∧ t = { s with bob := { s.bob with queues := t.bob.queues, units := t.bob.units }, power := t.power }) ∧
  (∀ (s : State) (b : Fin 32) (k x : Nat), s.up → s.native = true → s.plan.state.active = true → s.fromStore = false → s.takesJobs b = true →
    (s.unit b).busy = false → (s.unit b).held = none → s.bob.live = [] → s.mayIssue classBob b = true → s.pipeOf b < 4 →
    (s.tiles (s.pipeOf b)).again = [(k, [x])] → (s.tiles (s.pipeOf b)).dual = false → x ≠ b.val →
    ∃ t, exec (.tileIssue b) s = .next t ∧ t.tiles (s.pipeOf b) = { s.tiles (s.pipeOf b) with again := [] } ∧
      t.unit b = { s.unit b with job := .tile k (s.tileUnits (s.pipeOf b) k).length, startedAt := s.now } ∧
      t = { s with bob := { s.bob with queues := t.bob.queues, units := t.bob.units }, power := t.power }) ∧
  (∀ (s : State) (b : Fin 32), s.up → s.native = true → s.plan.state.active = true → s.fromStore = false → s.takesJobs b = true →
    (s.unit b).busy = false → (s.unit b).held = none → (s.unit b).reserved = false → s.bob.live = [] → s.mayIssue classBob b = true → s.pipeOf b < 4 →
    (s.tiles (s.pipeOf b)).again = [] → (s.tiles (s.pipeOf b)).dual = true → s.tileReady (s.pipeOf b) (s.tiles (s.pipeOf b)).issued = true →
    ∃ t, exec (.tileIssue b) s = .next t ∧ t.tiles (s.pipeOf b) = { s.tiles (s.pipeOf b) with
        issued := (s.tiles (s.pipeOf b)).issued + 1, again := [((s.tiles (s.pipeOf b)).issued, [])] } ∧
      t.unit b = { s.unit b with job := .tile (s.tiles (s.pipeOf b)).issued (s.tileUnits (s.pipeOf b) (s.tiles (s.pipeOf b)).issued).length, startedAt := s.now } ∧
      t = { s with bob := { s.bob with queues := t.bob.queues, units := t.bob.units }, power := t.power }) ∧
  (∀ (s : State) (b : Fin 32) (br bc : Nat), s.up → s.tilesOn (s.pipeOf b) = true → s.takesJobs b = true → (s.unit b).busy = false → (s.unit b).held = none →
    s.bob.live = [⟨br, bc, none⟩] → s.mayLive b = true → (∀ k, k < b.val → s.takesJobs k = false ∨ (s.unit k).busy = true) →
    ∃ t, exec (.tileIssue b) s = .next t ∧ t.bob.live = [] ∧ t.unit b = { s.unit b with job := .live br bc, startedAt := s.now } ∧
      t = { s with bob := { s.bob with live := [], units := t.bob.units }, power := t.power }) ∧
  (∀ (s : State) (b : Fin 32), s.up → (s.takesJobs b = false ∨ (s.unit b).busy = true ∨ (s.unit b).held ≠ none) → exec (.tileIssue b) s = .next s) ∧
  (∀ (s : State) (b : Fin 32) (k run : Nat) (wrong : List (Nat × Nat)) (refetch : Bool) (sc : LaceScope), s.up → s.native = true → s.hbm.filling = false →
    s.hbm.accessible = true → s.dramMark = [] → s.anyPcFailed = false →
    (s.unit b).job = .tile k run → s.pipeOf b < 4 → (s.tiles (s.pipeOf b)).dual = false → s.bob.live = [] → s.useScope = some sc →
    (∀ e ∈ s.jobReads sc (s.tileFirst k) (s.tileFirst k + 32) (s.tileResult k wrong).2.1.lines, e.1 + e.2 ≤ dramEnd) →
    ∃ t, exec (.tileComplete b wrong refetch) s = .next t ∧ t.unit b = { s.unit b with job := .idle, held := some k } ∧
      t.tiles (s.pipeOf b) = { s.tiles (s.pipeOf b) with results := (s.tiles (s.pipeOf b)).results ++ [⟨k, b, (s.tileResult k wrong).1⟩] } ∧
      t.pair F.BOB_CROSSINGS_LO_COUNT F.BOB_CROSSINGS_HI_COUNT (s.pipeOf b) =
        satInc 48 (s.pair F.BOB_CROSSINGS_LO_COUNT F.BOB_CROSSINGS_HI_COUNT (s.pipeOf b)) (s.tileResult k wrong).2.2 ∧
      t.fault = (if refetch then (s.raise .MEM_SRAM_UNCORR).raise .BOB_CACHE_REFETCH else s).fault ∧
      t = { s with regs := t.regs, bob := t.bob, fault := t.fault }) ∧
  (∀ (s : State) (b : Fin 32) (k run : Nat) (wrong : List (Nat × Nat)) (refetch : Bool), s.up → s.native = false → s.hbm.filling = false →
    (s.unit b).job = .tile k run → s.pipeOf b < 4 → (s.tiles (s.pipeOf b)).dual = false → s.bob.live = [] → wrong = [] →
    ∃ t, exec (.tileComplete b wrong refetch) s = .next t ∧ t.unit b = { s.unit b with job := .idle, held := some k } ∧
      t.tiles (s.pipeOf b) = { s.tiles (s.pipeOf b) with results := (s.tiles (s.pipeOf b)).results ++ [⟨k, b, (s.pers (s.pipeOf b)).tileWords k⟩] } ∧
      t = { s with regs := t.regs, bob := t.bob }) ∧
  (∀ (s : State) (b : Fin 32) (k run : Nat) (sc : LaceScope), s.up → s.native = true → s.hbm.filling = false → (s.unit b).job = .tile k run →
    s.pipeOf b < 4 → s.bob.live = [] → s.useScope = some sc → (s.tileResult k []).2.1.lines = [] →
    s.readsBad (s.jobReads sc (s.tileFirst k) (s.tileFirst k + 32) []) = true →
    ∃ t, exec (.tileComplete b [] false) s = .next t ∧ t.unit b = { s.unit b with job := .idle } ∧
      t.tiles (s.pipeOf b) = { s.tiles (s.pipeOf b) with stuck := (s.tiles (s.pipeOf b)).stuck ++ [k] } ∧
      t.fault = (((s.jobReads sc (s.tileFirst k) (s.tileFirst k + 32) []).foldl (fun s e => engineRead b e.1 e.2 s) s).raise .BOB_POISON).fault) ∧
  (∀ (s : State) (r : TileRun), s.up → s.native = true → s.plan.state.active = true → s.fromStore = false → s.str.pipes.length = 1 →
    (s.tiles 0).delivered ∉ (s.tiles 0).stuck → (s.tiles 0).results.find? (fun r => r.tile == (s.tiles 0).delivered) = some r →
    ∃ t, exec .tileDeliver s = .next t ∧ t.tiles 0 = { s.tiles 0 with
        delivered := (s.tiles 0).delivered + 1, results := (s.tiles 0).results.filter (fun x => !(x.tile == (s.tiles 0).delivered)) } ∧
      (∀ k, k < 32 → t.unit k = if s.pipeOf k = 0 ∧ (s.unit k).held = some (s.tiles 0).delivered then { s.unit k with held := none } else s.unit k) ∧
      t.corr.cov = r.words.foldl (fun m (e : Nat × Nat) => Sparse.set 0 m ((s.tileFirst (s.tiles 0).delivered + e.1 / s.tileW) * 4096 +
        ((s.tiles 0).delivered % s.tileCols) * s.tileW + e.1 % s.tileW) e.2) s.corr.cov ∧
      t = { s with bob := t.bob, corr := t.corr, fault := t.fault, out := t.out, cyc := t.cyc }) ∧
  (∀ (s : State) (r : TileRun), s.up → s.native = false → s.str.pipes.length = 1 → (s.pers 0).state.active = true → s.hbm.filling = false →
    (s.tiles 0).delivered ∉ (s.tiles 0).stuck → (s.tiles 0).results.find? (fun r => r.tile == (s.tiles 0).delivered) = some r →
    ∃ t, exec .tileDeliver s = .next t ∧ (t.tiles 0).delivered = (s.tiles 0).delivered + 1 ∧
      t.pers 0 = { s.pers 0 with ring := 32 * (s.tiles 0).delivered + min 32 ((s.pers 0).lines - 32 * (s.tiles 0).delivered) } ∧
      (∀ k, k < 32 → s.pipeOf k = 0 → (t.unit k).held ≠ some (s.tiles 0).delivered)) ∧
  (∀ s : State, s.up → s.str.pipes.length = 1 → (s.tiles 0).results.find? (fun r => r.tile == (s.tiles 0).delivered) = none → exec .tileDeliver s = .next s)

/-- R182, R187 to R189, R254, Table 4-5: a job that has run longer than LIMIT_US is abandoned with BOB_WATCHDOG, as one on a bobbin whose SRAM
has an uncorrectable error is with BOB_SRAM_UNCORR: the bobbin takes a strike, and a tile is issued again to another bobbin, a live job
waits for another. The second strike puts the bobbin out of service. A live job that ends leaves its block in the live buffer where both
checks of its descriptor hold, and raises STO_LIVE_MISMATCH else. A write to BOB_DISABLE sets the mask, and BOB_FAIL_MASK is cleared by
ones while every pipeline is IDLE only.
Where the rules leave a point open, these clauses are the model's choice: assumption log 8, 38, 81. -/
def Obligations.BobbinsFailAndServe : Prop :=
  (∀ (s : State) (b : Fin 32) (k run : Nat), s.up → (s.unit b).job = .tile k run → (s.unit b).suspended = none → s.bob.live = [] → s.pipeOf b < 4 →
    (s.unit b).strikes = 0 → (s.unit b).startedAt + 1000000 * max 100 (s.fd F.BOB_WATCHDOG_LIMIT_US) < s.now →
    ∃ t, exec (.bobWatchdog b) s = .next t ∧ t.unit b = { s.unit b with job := .idle, strikes := 1 } ∧
      t.tiles (s.pipeOf b) = { s.tiles (s.pipeOf b) with again := (s.tiles (s.pipeOf b)).again ++ [(k, [b.val])] } ∧
      t.fault = (s.raise .BOB_WATCHDOG).fault ∧ t = { s with bob := t.bob, fault := t.fault }) ∧
  (∀ (s : State) (b : Fin 32) (br bc : Nat), s.up → s.plan.state.active = false → (s.unit b).job = .live br bc → (s.unit b).suspended = none → s.bob.live = [] →
    (s.unit b).strikes = 0 → (s.unit b).startedAt + 1000000 * max 100 (s.fd F.BOB_WATCHDOG_LIMIT_US) < s.now →
    ∃ t, exec (.bobWatchdog b) s = .next t ∧ (t.unit b).job = .idle ∧ (t.unit b).strikes = 1 ∧
      (t.bob.live = [⟨br, bc, some b.val⟩] ∨ ∃ k : Fin 32, k ≠ b ∧ (t.unit k).job = .live br bc)) ∧
  (∀ (s : State) (b : Fin 32), s.up → s.now ≤ (s.unit b).startedAt + 1000000 * max 100 (s.fd F.BOB_WATCHDOG_LIMIT_US) →
    exec (.bobWatchdog b) s = .next s) ∧
  (∀ (s : State) (b : Fin 32), s.up → (s.unit b).job = .idle →
    ∃ t, exec (.bobSramUncorr b) s = .next t ∧ t.regs = (s.bump F.HBM_SRAM_UE_COUNT_COUNT).regs ∧ t.fault = (s.raise .MEM_SRAM_UNCORR).fault ∧
      t = { s with regs := t.regs, fault := t.fault }) ∧
  (∀ (s : State) (b : Fin 32) (k run : Nat), s.up → (s.unit b).job = .tile k run → (s.unit b).suspended = none → s.bob.live = [] → s.pipeOf b < 4 →
    (s.unit b).strikes = 0 →
    ∃ t, exec (.bobSramUncorr b) s = .next t ∧ t.unit b = { s.unit b with job := .idle, strikes := 1 } ∧
      t.tiles (s.pipeOf b) = { s.tiles (s.pipeOf b) with again := (s.tiles (s.pipeOf b)).again ++ [(k, [b.val])] } ∧
      t.regs = (s.bump F.HBM_SRAM_UE_COUNT_COUNT).regs ∧ t.fault = ((s.raise .MEM_SRAM_UNCORR).raise .BOB_SRAM_UNCORR).fault ∧
      t = { s with regs := t.regs, bob := t.bob, fault := t.fault }) ∧
  (∀ (s : State) (b : Fin 32) (k run : Nat), s.up → (s.unit b).job = .tile k run → (s.unit b).suspended = none → s.bob.live = [] →
    (s.unit b).strikes = 1 →
    ∃ t, exec (.bobSramUncorr b) s = .next t ∧ (t.unit b).job = .idle ∧ (t.unit b).strikes = 2 ∧ bit (t.fd F.BOB_FAIL_MASK_FAILED) b = 1 ∧
      t.takesJobs b = false) ∧
  (∀ (s : State) (b : Fin 32) (br bc : Nat) (sc : LaceScope) (wrong : List (Nat × Nat)) (r : List Nat × Nat) (w : Sparse Nat) (d : LiveDesc), s.up → s.native = true →
    s.hbm.filling = false → s.hbm.accessible = true → s.dramMark = [] → s.anyPcFailed = false → (s.unit b).job = .live br bc →
    (s.unit b).suspended = none → s.bob.live = [] → s.useScope = some sc → s.corrOn = false →
    (s.jobShapes sc (32 * br) (32 * br + 32) (32 * bc) (32 * bc + 32)).lines = [] →
    (∀ e ∈ s.jobReads sc (32 * br) (32 * br + 32) [], e.1 + e.2 ≤ dramEnd) → s.slotAddr (s.blockIndex br bc) + s.slotSize ≤ dramEnd →
    s.liveAddr s.freeEntry + 2048 ≤ dramEnd → 0 < s.slotSize →
    w = wrong.foldl (fun m e => Sparse.set 0 m e.1 (e.2 % 2 ^ 36)) (s.blockWords br bc) → r = s.liveDoses w br bc →
    d = readLive s.slotSize (s.dramBytes (s.slotAddr (s.blockIndex br bc)) s.slotSize) →
    ∃ t, exec (.liveJobComplete b wrong false) s = .next t ∧ t.unit b = { s.unit b with job := .idle } ∧
      (if crc crcC32C (checkBytes (s.prefixOf (s.blockIndex br bc)) r.1) = d.expect ∧ crc crcC16 (checkBytes (s.prefixOf (s.blockIndex br bc)) r.1) = d.check
        then t.store = { s.store with liveEntry := s.store.liveEntry ++ [(s.blockIndex br bc, s.freeEntry)] } ∧
          t.dram = (dramWrite (s.liveAddr s.freeEntry) ((r.1.map (leBytes 2)).flatten) s).dram
        else t.store = { s.store with mismatched := s.store.mismatched ++ [s.blockIndex br bc] } ∧ t.dram = s.dram)) ∧
  (∀ (s : State) (v : BitVec 32), s.runs → ∃ t, exec (.bobDisableWrite v) s = .next t ∧ t.rg .BOB_DISABLE = v ∧
      (s.plan.state.active = false → t = s.setRg .BOB_DISABLE v)) ∧
  (∀ (s : State) (v : BitVec 32), s.runs → s.cyc = [] → s.allIdle = true →
    exec (.bobFailMaskClear v) s = .next (s.setRg .BOB_FAIL_MASK (s.rg .BOB_FAIL_MASK &&& ~~~v))) ∧
  (∀ (s : State) (v : BitVec 32), s.runs → s.allIdle = false → exec (.bobFailMaskClear v) s = .next s)

/-- R209 to R214, R278, R645: an edging or seam record that fails its checks is counted and raises its fault; one with another CORR_PARAM_CRC
is answered with code 2 and its sender is lost for the stripe; one of the stripe is stored and answered with code 0, one of a stripe not
yet armed is answered with code 1, one of an unknown stripe is counted. A seam row is stored in the seam area, an edge record sets its
side's match. A reply drops the kept record it answers; a kept record is sent again after the retry period; a partner that stays silent
for longer than CORR_EDGING_TIMEOUT is marked lost with COR_EDGING_LOST, a neighbour with PLN_SEAM_LOST, once per wait.
Where the rules leave a point open, these clauses are the model's choice: assumption log 49, 78. -/
def Obligations.EdgingAndSeamRecords : Prop :=
  (∀ (s : State) (l : List Byte), s.up → s.native = true → s.devOfNode (leAt l 2 2) = none →
    exec (.edgingRecord l) s = .next ((s.bump F.CORR_EDGING_BAD_COUNT_COUNT).raise .COR_EDGING_BAD)) ∧
  (∀ (s : State) (l : List Byte) (d : Nat), s.up → s.native = true → s.devOfNode (leAt l 2 2) = some d →
    (recordCrcOk l = false ∨ l.length < 0x1C ∨ leAt l 4 2 ≠ s.node ∨ s.edgingOk l d = false) →
    exec (.edgingRecord l) s = .next ((s.bump F.CORR_EDGING_BAD_COUNT_COUNT).raise .COR_EDGING_BAD)) ∧
  (∀ (s : State) (l : List Byte) (d : Nat), s.up → s.native = true → (byteAt l 0 = 1 ∨ byteAt l 0 = 2) → s.devOfNode (leAt l 2 2) = some d →
    recordCrcOk l = true → 0x1C ≤ l.length → leAt l 4 2 = s.node → s.edgingOk l d = true → leAt l 0x14 4 ≠ s.paramCrc →
    ∃ t, exec (.edgingRecord l) s = .next t ∧ t.corr = { s.corr with lost := s.corr.lost ||| 2 ^ d } ∧
      (if d < 32 then t.fd F.CORR_LOST_MASK_LO_MASK = (s.fd F.CORR_LOST_MASK_LO_MASK ||| 2 ^ d)
        else t.fd F.CORR_LOST_MASK_HI_MASK = (s.fd F.CORR_LOST_MASK_HI_MASK ||| 2 ^ (d - 32))) ∧
      t = { sendReply l d 2 (s.raise .COR_PARAM_MISMATCH) with corr := t.corr, regs := t.regs, cyc := t.cyc }) ∧
  (∀ (s : State) (l : List Byte) (d : Nat), s.up → s.native = true → byteAt l 0 = 1 → s.devOfNode (leAt l 2 2) = some d →
    recordCrcOk l = true → 0x1C ≤ l.length → leAt l 4 2 = s.node → s.edgingOk l d = true → leAt l 0x14 4 = s.paramCrc →
    s.ourStripe (leAt l 8 4) = true → bit s.corr.lost d = 0 → s.nearHeld d (leAt l 0xC 4) = false →
    ∃ t, exec (.edgingRecord l) s = .next t ∧ t.corr.nearHave = s.corr.nearHave ++ [(d, leAt l 0xC 4)] ∧
      (∀ j i, j < leAt l 6 2 → i < leAt l 0x12 2 → Sparse.get 0 t.corr.near (nearKey (leAt l 0xC 4 + j) (leAt l 0x10 2 + i)) =
        leAt l (0x18 + 2 * (j * leAt l 0x12 2 + i)) 2) ∧ t = { sendReply l d 0 s with corr := t.corr }) ∧
  (∀ (s : State) (l : List Byte) (d : Nat), s.up → s.native = true → byteAt l 0 = 2 → s.devOfNode (leAt l 2 2) = some d →
    recordCrcOk l = true → 0x1C ≤ l.length → leAt l 4 2 = s.node → s.edgingOk l d = true → leAt l 0x14 4 = s.paramCrc →
    s.ourStripe (leAt l 8 4) = true → bit s.corr.lost d = 0 → (d, leAt l 0xC 4) ∉ s.corr.fogHave →
    ∃ t, exec (.edgingRecord l) s = .next t ∧ t.corr.fogHave = s.corr.fogHave ++ [(d, leAt l 0xC 4)] ∧
      (∀ i, i < leAt l 0x12 2 → Sparse.get 0 t.corr.fog (fogKey (leAt l 0xC 4) d (leAt l 0x10 2 + i)) = leAt l (0x18 + 4 * i) 4) ∧
      t = { sendReply l d 0 s with corr := t.corr }) ∧
  (∀ (s : State) (l : List Byte) (d : Nat), s.up → s.native = true → (byteAt l 0 = 1 ∨ byteAt l 0 = 2) → s.devOfNode (leAt l 2 2) = some d →
    recordCrcOk l = true → 0x1C ≤ l.length → leAt l 4 2 = s.node → s.edgingOk l d = true → leAt l 0x14 4 = s.paramCrc →
    s.ourStripe (leAt l 8 4) = true → bit s.corr.lost d = 1 → exec (.edgingRecord l) s = .next (sendReply l d 0 s)) ∧
  (∀ (s : State) (l : List Byte) (d : Nat), s.up → s.native = true → (byteAt l 0 = 1 ∨ byteAt l 0 = 2) → s.devOfNode (leAt l 2 2) = some d →
    recordCrcOk l = true → 0x1C ≤ l.length → leAt l 4 2 = s.node → s.edgingOk l d = true → leAt l 0x14 4 = s.paramCrc →
    s.ourStripe (leAt l 8 4) = false →
    exec (.edgingRecord l) s = .next (if s.notReadyFor (leAt l 8 4) then sendReply l d 1 s else s.bump F.CORR_EDGING_UNKNOWN_COUNT_COUNT)) ∧
  (∀ (s : State) (l : List Byte), s.up → s.native = true → s.devOfNode (leAt l 2 2) = none →
    exec (.seamRecord l) s = .next ((s.bump F.PLAN_SEAM_BAD_COUNT_COUNT).raise .PLN_SEAM_BAD)) ∧
  (∀ (s : State) (l : List Byte) (d : Nat), s.up → s.native = true → s.devOfNode (leAt l 2 2) = some d →
    (recordCrcOk l = false ∨ l.length < 0x1C ∨ byteAt l 0 ≠ 3 ∨ leAt l 4 2 ≠ s.node ∨ s.seamOk l d = false) →
    exec (.seamRecord l) s = .next ((s.bump F.PLAN_SEAM_BAD_COUNT_COUNT).raise .PLN_SEAM_BAD)) ∧
  (∀ (s : State) (l : List Byte) (d : Nat), s.up → s.native = true → s.devOfNode (leAt l 2 2) = some d → recordCrcOk l = true → 0x1C ≤ l.length →
    byteAt l 0 = 3 → leAt l 4 2 = s.node → s.seamOk l d = true → s.ourStripe (leAt l 8 4) = false →
    exec (.seamRecord l) s = .next (if s.notReadyFor (leAt l 8 4) then sendReply l d 1 s else s.bump F.CORR_EDGING_UNKNOWN_COUNT_COUNT)) ∧
  (∀ (s : State) (l : List Byte) (d : Nat) (ok : Bool), s.up → s.native = true → s.devOfNode (leAt l 2 2) = some d → recordCrcOk l = true → 0x1C ≤ l.length →
    byteAt l 0 = 3 → leAt l 4 2 = s.node → s.seamOk l d = true → s.ourStripe (leAt l 8 4) = true → leAt l 0xC 4 = 0xFFFFFFFF → s.rowsToCheck = [] →
    ok = (leAt l 0x14 4 == s.planCrc && leAt l 0x10 4 == s.seamTableCrc (1 - byteAt l 1)) →
    ∃ t, exec (.seamRecord l) s = .next t ∧ t.plan = { s.plan with
        edgeOk := s.plan.edgeOk.setIfInBounds (1 - byteAt l 1) ok, edgeGot := s.plan.edgeGot.setIfInBounds (1 - byteAt l 1) true, seamWait := t.plan.seamWait } ∧
      t = { sendReply l d 0 (s.raiseIf (!ok) .PLN_SEAM_MISMATCH) with plan := t.plan }) ∧
  (∀ (s : State) (l : List Byte) (d : Nat), s.up → s.native = true → s.devOfNode (leAt l 2 2) = some d → recordCrcOk l = true → 0x1C ≤ l.length →
    byteAt l 0 = 3 → leAt l 4 2 = s.node → s.seamOk l d = true → s.ourStripe (leAt l 8 4) = true → leAt l 0xC 4 ≠ 0xFFFFFFFF →
    leAt l 0x14 4 = s.planCrc → leAt l 0x10 4 = s.seamTableCrc (1 - byteAt l 1) → s.seamRowHeld (byteAt l 1) (leAt l 0xC 4) = false →
    s.store.verified = 0 → (byteAt l 1, leAt l 0xC 4) ∉ s.plan.seamHave →
    ∃ t, exec (.seamRecord l) s = .next t ∧ t.plan.seamHave = s.plan.seamHave ++ [(byteAt l 1, leAt l 0xC 4)] ∧
      (s.seamComplete = false → ({ s with plan := { s.plan with seamHave := t.plan.seamHave } } : State).seamComplete = false →
        t = { sendReply l d 0 (dramWrite (s.seamAddr (byteAt l 1) (32 * leAt l 0xC 4) 0) (slice l 0x18 (64 * s.cols)) s) with plan := t.plan })) ∧
  (∀ (s : State) (l : List Byte) (d : Nat), s.up → s.native = true → (byteAt l 0 = 0x81 ∨ byteAt l 0 = 0x82 ∨ byteAt l 0 = 0x83) →
    s.devOfNode (leAt l 2 2) = some d → l.length = 28 → recordCrcOk l = true → leAt l 4 2 = s.node → d ≠ s.str.devIndex → byteAt l 1 = 0 →
    exec (.edgingReply l) s = .next { s with corr := { s.corr with kept := s.corr.kept.filter (fun r =>
      !(decide (r.typ + 0x80 = byteAt l 0 ∧ r.dst = d ∧ r.stripe = leAt l 8 4 ∧ r.row = leAt l 0xC 4 ∧ r.count = leAt l 6 2))) } }) ∧
  (∀ (s : State) (l : List Byte) (d : Nat) (r : KeptRecord), s.up → s.native = true → (byteAt l 0 = 0x81 ∨ byteAt l 0 = 0x82) →
    s.devOfNode (leAt l 2 2) = some d → l.length = 28 → recordCrcOk l = true → leAt l 4 2 = s.node → d ≠ s.str.devIndex → byteAt l 1 = 2 →
    s.corr.kept = [r] → r.typ + 0x80 = byteAt l 0 → r.dst = d → r.stripe = leAt l 8 4 → r.row = leAt l 0xC 4 → r.count = leAt l 6 2 →
    exec (.edgingReply l) s = .next { s.raise .COR_PARAM_MISMATCH with corr := { s.corr with kept := [] } }) ∧
  (∀ (s : State) (r : KeptRecord), s.up → s.native = true → s.corr.kept = [r] → r.dueAt ≤ s.now →
    ∃ t, exec .edgingRetry s = .next t ∧ t.corr.kept = [{ r with dueAt := s.now + 1000000 * max 10 (s.fd F.CORR_EDGING_RETRY_PERIOD_US) }] ∧
      t = { sendRecord r.dst r.bytes s with corr := { s.corr with kept := t.corr.kept } }) ∧
  (∀ (s : State), s.up → s.native = true → (∀ r ∈ s.corr.kept, s.now < r.dueAt) → exec .edgingRetry s = .next s) ∧
  (∀ (s : State) (d : Fin 64) (a : Nat), s.up → s.native = true → Sparse.find? s.rewait.corr.waitUntil d = some a → bit s.rewait.corr.waitRaised d = 0 →
    a < s.now →
    ∃ t, exec (.corEdgingLost d) s = .next t ∧ t.corr.waitRaised = s.rewait.corr.waitRaised + 2 ^ d.val ∧ t.fault = (s.raise .COR_EDGING_LOST).fault ∧
      (if d.val < 32 then t.fd F.CORR_LOST_MASK_LO_MASK = (s.fd F.CORR_LOST_MASK_LO_MASK ||| 2 ^ d.val)
        else t.fd F.CORR_LOST_MASK_HI_MASK = (s.fd F.CORR_LOST_MASK_HI_MASK ||| 2 ^ (d.val - 32))) ∧
      t = { s with corr := t.corr, regs := t.regs, fault := t.fault, cyc := t.cyc }) ∧
  (∀ (s : State) (d : Fin 2) (a : Nat), s.up → s.native = true → s.reseam.plan.seamWait[d] = some (a, false) → a < s.now →
    ∃ t, exec (.plnSeamLost d) s = .next t ∧ t.plan.seamWait[d] = some (a, true) ∧ t.fault = (s.raise .PLN_SEAM_LOST).fault ∧
      t.fd F.PLAN_SEAM_LOST_SIDE = (s.fd F.PLAN_SEAM_LOST_SIDE ||| 2 ^ d.val) ∧
      t = { s with plan := { s.plan with seamWait := t.plan.seamWait }, regs := t.regs, fault := t.fault, cyc := t.cyc })

/-- R207, R219, R221, R246 to R248, R251, R256, R260: a row whose factors are final enters the factor map, a block row with its coverage and
factors at hand is coded in the store, until correction stops. A coded row of a live source whose slots all read back is verified, one
that does not read back even as live blocks is lost with STO_ROW_LOST; with nothing coded the read-back waits. A line that is verified
and whose beat has come within 96 lines is delivered; a row whose live blocks are not in the live buffer when the delivery point reaches
it fails with STO_LIVE_LATE.
Where the rules leave a point open, these clauses are the model's choice: assumption log 8, 39, 81. -/
def Obligations.RowsAndLines : Prop :=
  (∀ (s : State) (y : Nat), s.up → s.native = true → s.plan.state.active = true → s.fromStore = false → s.corr.stopped = false → s.corr.densityMissing = false →
    s.hbm.filling = false → s.hbm.accessible = true → s.fullGrant classCorr → s.fmapBase + 64 + 2 * s.fmapCols * s.fmapRows ≤ dramEnd →
    s.corr.rowsFinal = y → y < s.cellRows → s.rowFinal y = true → s.rowFinal (y + 1) = false → s.covLines < min s.lines (32 * s.store.coded + 32) →
    ∃ t, exec .corrRowFinal s = .next t ∧ t.corr.rowsFinal = y + 1 ∧
      (∀ i, i < s.fmapCols → t.dramLe (s.fmapAddr ((s.cellCol0 s.str.devIndex : Nat) - 1 + i) y) 2 =
        s.phi2 s.boundHeader ((s.cellCol0 s.str.devIndex : Nat) - 1 + i) y) ∧
      t = { s with corr := t.corr, dram := t.dram, dramMark := t.dramMark, regs := t.regs, fault := t.fault, power := t.power }) ∧
  (∀ (s : State) (br : Nat), s.up → s.native = true → s.plan.state.active = true → s.fromStore = false → s.corr.stopped = false → s.corr.densityMissing = false →
    s.hbm.filling = false → s.fullGrant classCorr → s.fullGrant classStore → s.corr.rowsFinal = s.cellRows + 1 → s.store.coded = br → br + 1 = s.blockRows → s.lines ≤ s.covLines →
    s.factorsBad br = false →
    ∃ t, exec .corrRowFinal s = .next t ∧ t.store.coded = br + 1 ∧
      (∀ bc p, bc < s.blockCols → p < 1024 → Sparse.get 0 t.store.pixels ((32 * br + p / 32) * 4096 + 32 * bc + p % 32) =
        ((((s.rowDoses br)[bc]?).getD ([], 0)).1[p]?).getD 0)) ∧
  (∀ s : State, s.up → s.native = true → (s.corr.stopped = true ∨ s.fromStore = true) → exec .corrRowFinal s = .next s) ∧
  (∀ (s s1 : State), s.up → s.native = true → s.plan.state.active = true → s.fromStore = false → s.hbm.filling = false → s.mayIssue classStore verifierUnit = true →
    s.store.verified < s.store.coded → s.store.lostRow = none →
    ((List.range s.blockCols).map (s.blockIndex s.store.verified)).foldl verifyBlock (true, charge classStore verifierUnit s) = (true, s1) →
    ∃ t, exec .storeRowVerify s = .next t ∧ t.store.verified = s.store.verified + 1 ∧ t = rowVerified s.store.verified s1) ∧
  (∀ (s s1 : State), s.up → s.native = true → s.plan.state.active = true → s.fromStore = false → s.hbm.filling = false → s.mayIssue classStore verifierUnit = true →
    s.store.verified < s.store.coded → s.store.lostRow = none →
    ((List.range s.blockCols).map (s.blockIndex s.store.verified)).foldl verifyBlock (true, charge classStore verifierUnit s) = (false, s1) →
    exec .storeRowVerify s = .next (({ s1 with store := { s1.store with lostRow := some s.store.verified } } : State).underrun .STO_ROW_LOST
      s1.plan.pass (32 * s.store.verified))) ∧
  (∀ s : State, s.up → s.native = true → s.store.coded ≤ s.store.verified → exec .storeRowVerify s = .next s) ∧
  (∀ s : State, s.up → s.native = true → s.hbm.filling = false → s.plan.state.running = true → s.store.delivered < s.lines → s.store.delivered < s.plan.beat + 96 →
    s.store.delivered / 32 < s.store.verified → s.store.failed = false → s.store.delivered % 32 ≠ 0 → (s.store.delivered + 1) % 32 ≠ 0 →
    s.store.delivered + 1 ≠ s.lines → (s.blockRows ≤ s.store.released ∨ s.store.delivered + 1 + 32 * s.lead < 32 * s.store.released) →
    s.store.feasDampAt = none →
    exec .storeLineDeliver s = .next { s with store := { s.store with delivered := s.store.delivered + 1 } }) ∧
  (∀ (s s1 : State), s.up → s.native = true → s.hbm.filling = false → s.plan.state.running = true → s.store.delivered < s.lines → s.store.delivered < s.plan.beat + 96 →
    s.store.delivered / 32 < s.store.verified → s.store.failed = false → s.store.delivered % 32 = 0 → s.store.delivered + 1 ≠ s.lines →
    (s.blockRows ≤ s.store.released ∨ s.store.delivered + 1 + 32 * s.lead < 32 * s.store.released) → s.store.feasDampAt = none →
    decodeRow (s.store.delivered / 32) s = (true, s1) →
    ∃ t, exec .storeLineDeliver s = .next t ∧ t.store = { s.store with delivered := s.store.delivered + 1 } ∧ t.plan.doses = s1.plan.doses ∧
      t = { s with store := t.store, plan := { s.plan with doses := t.plan.doses } }) ∧
  (∀ (s s1 : State), s.up → s.native = true → s.hbm.filling = false → s.plan.state.running = true → s.store.delivered < s.lines → s.store.delivered < s.plan.beat + 96 →
    s.store.delivered / 32 < s.store.verified → s.store.failed = false → s.store.delivered % 32 = 0 → decodeRow (s.store.delivered / 32) s = (false, s1) →
    exec .storeLineDeliver s = .next (({ s with store := { s.store with failed := true } } : State).underrun .STO_DECODE_FAIL s.plan.pass s.store.delivered
      (some s.plan.beat))) ∧
  (∀ s : State, s.up → s.native = true → s.hbm.filling = false → s.plan.state.running = true → s.store.delivered < s.plan.beat + 96 →
    s.store.delivered / 32 < s.store.verified → s.store.failed = false → (s.store.delivered + 1) % 32 = 0 → s.store.delivered + 1 < s.lines →
    s.store.delivered % 32 ≠ 0 → s.blockRows ≤ s.store.released →
    ((s.liveOf ((s.store.delivered + 1) / 32)).any (fun i => !(s.inLiveBuffer i))) = true →
    ∃ t, exec .storeLineDeliver s = .next t ∧ t.store.delivered = s.store.delivered + 1 ∧ t.store.failed = true ∧
      (s.plan.state ≠ .runOut → t.plan.state = .aborted) ∧ t.fault = (((s.raise .STO_LIVE_LATE).underrunDamp).fault)) ∧
  (∀ s : State, s.up → s.native = true → s.plan.state.running = true → s.plan.beat + 96 ≤ s.store.delivered → exec .storeLineDeliver s = .next s)

/-- R142, R144, R404, R405: OPEN of a closed scope with a buffer of 16 MiB to 8 GiB inside the partition opens it with its registers' STREAM_ID,
source and buffer and clears LACE_REJECT_CODE and LACE_DROP_COUNT; a scope of a UDP flow starts the flow afresh. CLOSE of a scope that no
stripe in flight is bound to closes it. Anything else raises LAC_SCOPE_BUSY and changes nothing else.
Where the rules leave a point open, these clauses are the model's choice: assumption log 34. -/
def Obligations.LaceScopesOpenAndClose : Prop :=
  (∀ (s : State) (i : Fin 2), s.runs → s.cyc = [] → s.native = true → i = s.scopeSel → (s.scope i).isOpen = false → 16 ≤ s.fd F.LACE_BUF_SIZE_SIZE_MB i.val →
    s.fd F.LACE_BUF_SIZE_SIZE_MB i.val ≤ 8192 → (s.fd F.LACE_BUF_BASE_BASE_MB i.val + s.fd F.LACE_BUF_SIZE_SIZE_MB i.val) * 2 ^ 20 ≤ s.partSize →
    ∃ t, exec .laceOpen s = .next t ∧ t.scope i = { LaceScope.closed with
        isOpen := true, streamId := s.fd F.LACE_STREAM_ID_ID i.val, dma := s.fb F.LACE_SOURCE_DMA i.val,
        flow := s.fd F.LACE_SOURCE_FLOW i.val, bufBaseMb := s.fd F.LACE_BUF_BASE_BASE_MB i.val, bufSizeMb := s.fd F.LACE_BUF_SIZE_SIZE_MB i.val } ∧
      (∀ j, j ≠ i → t.scope j = s.scope j) ∧ t.rg .LACE_REJECT_CODE i.val = 0 ∧ t.rg .LACE_DROP_COUNT i.val = 0 ∧
      t.rg .LACE_REJECT_SEQ i.val = s.rg .LACE_REJECT_SEQ i.val ∧ t.rg .LACE_REJECT_STITCH i.val = s.rg .LACE_REJECT_STITCH i.val ∧
      (s.fb F.LACE_SOURCE_DMA i.val = false → (t.flow (s.fd F.LACE_SOURCE_FLOW i.val)).next = 0 ∧
        (t.flow (s.fd F.LACE_SOURCE_FLOW i.val)).received = 0 ∧ t.rg .NET_FLOW_ORDER_COUNT (s.fd F.LACE_SOURCE_FLOW i.val) = 0) ∧
      t = { s with lace := t.lace, regs := t.regs, net := t.net, out := t.out, cyc := t.cyc } ∧
      (s.fb F.LACE_SOURCE_DMA i.val = true → t = { s with lace := t.lace, regs := t.regs })) ∧
  (∀ (s : State) (i : Fin 2), s.runs → i = s.scopeSel → (s.native = false ∨ (s.scope i).isOpen = true ∨ s.fd F.LACE_BUF_SIZE_SIZE_MB i.val < 16 ∨
      8192 < s.fd F.LACE_BUF_SIZE_SIZE_MB i.val ∨ s.partSize < (s.fd F.LACE_BUF_BASE_BASE_MB i.val + s.fd F.LACE_BUF_SIZE_SIZE_MB i.val) * 2 ^ 20) →
    exec .laceOpen s = .next (s.raise .LAC_SCOPE_BUSY)) ∧
  (∀ (s : State) (i : Fin 2), s.runs → s.cyc = [] → i = s.scopeSel → ((s.scope i).bound = false ∨ s.plan.state.active = false) →
    ∃ t, exec .laceClose s = .next t ∧ t.scope i = LaceScope.closed ∧ (∀ j, j ≠ i → t.scope j = s.scope j) ∧
      t = { s with lace := t.lace, bob := { s.bob with cache := t.bob.cache }, net := t.net, out := t.out, cyc := t.cyc } ∧
      ((s.scope i).dma = true → t.net = s.net ∧ t.out = s.out)) ∧
  (∀ (s : State), s.runs → (s.scope s.scopeSel).bound = true → s.plan.state.active = true → exec .laceClose s = .next (s.raise .LAC_SCOPE_BUSY))

/-- R146 to R149, R151, R155: stitches for a closed scope are counted as dropped with LAC_NO_SCOPE; the head of a chunk that fits finds a place
in the scope's buffer, where the chunk's stitches are stored as they arrive; a chunk of a UDP flow that does not fit the free buffer is
rejected at its head and its stitches pass unused; a whole chunk is judged, an accepted one joining the scope with the next SEQ, a
rejected one leaving SEQ, code and offset in the reject registers.
Where the rules leave a point open, these clauses are the model's choice: assumption log 35, 36, 77. -/
def Obligations.ChunksAreAcceptedOrRejected : Prop :=
  (∀ (s : State) (i : Fin 2) (w : Stitch), s.up → (s.scope i).isOpen = false →
    exec (.chunkOpenArrives i w) s = .next ((s.bump F.LACE_DROP_COUNT_COUNT 1 i.val).raise .LAC_NO_SCOPE)) ∧
  (∀ (s : State) (i : Fin 2) (w : Stitch), s.up → s.hbm.filling = false → s.hbm.accessible = true → (s.scope i).isOpen = true →
    (s.scope i).intake = ⟨0, [], 0, 0⟩ → bits w.toNat 5 0 = 1 → 1 < bits w.toNat 23 6 → 8 * bits w.toNat 23 6 ≤ (s.scope i).free →
    s.partBase + ((s.scope i).bufBaseMb + (s.scope i).bufSizeMb) * 2 ^ 20 ≤ dramEnd →
    ∃ t, exec (.chunkOpenArrives i w) s = .next t ∧
      t.scope i = { s.scope i with intake := ⟨(t.scope i).intake.at_, [w], bits w.toNat 23 6, 0⟩ } ∧ (∀ j, j ≠ i → t.scope j = s.scope j) ∧
      s.partBase + (s.scope i).bufBaseMb * 2 ^ 20 ≤ (t.scope i).intake.at_ ∧
      (t.scope i).intake.at_ + 8 * bits w.toNat 23 6 ≤ s.partBase + ((s.scope i).bufBaseMb + (s.scope i).bufSizeMb) * 2 ^ 20 ∧
      t.dramLe (t.scope i).intake.at_ 8 = w.toNat ∧
      t = { s with lace := t.lace, dram := t.dram, dramMark := t.dramMark, hbm := t.hbm, freeCount := s.freeCount + 1 }) ∧
  (∀ (s : State) (i : Fin 2) (w : Stitch), s.up → s.hbm.filling = false → s.hbm.accessible = true → (s.scope i).isOpen = true →
    (s.scope i).intake.discard = 0 → (s.scope i).intake.stitches ≠ [] → (s.scope i).intake.stitches.length + 1 < (s.scope i).intake.length →
    (s.scope i).intake.at_ + 8 * (s.scope i).intake.length ≤ dramEnd →
    ∃ t, exec (.chunkOpenArrives i w) s = .next t ∧
      t.scope i = { s.scope i with intake := { (s.scope i).intake with stitches := (s.scope i).intake.stitches ++ [w] } } ∧
      t.dramLe ((s.scope i).intake.at_ + 8 * (s.scope i).intake.stitches.length) 8 = w.toNat ∧
      t = { s with lace := t.lace, dram := t.dram, dramMark := t.dramMark, hbm := t.hbm }) ∧
  (∀ (s : State) (i : Fin 2) (w : Stitch), s.up → s.hbm.filling = false → s.hbm.accessible = true → (s.scope i).isOpen = true →
    (s.scope i).intake.discard = 0 → (s.scope i).intake.stitches ≠ [] → (s.scope i).intake.stitches.length + 1 = (s.scope i).intake.length →
    (s.scope i).intake.at_ + 8 * (s.scope i).intake.length ≤ dramEnd →
    ∃ t, exec (.chunkOpenArrives i w) s = .next t ∧
      t.scope i = { s.scope i with
        intake := ⟨0, [], 0, 0⟩, whole := (s.scope i).whole ++ [((s.scope i).intake.at_, (s.scope i).intake.stitches ++ [w])] } ∧
      t = { s with lace := t.lace, dram := t.dram, dramMark := t.dramMark, hbm := t.hbm }) ∧
  (∀ (s : State) (i : Fin 2) (w : Stitch), s.up → (s.scope i).isOpen = true → (s.scope i).dma = false → (s.scope i).intake = ⟨0, [], 0, 0⟩ →
    bits w.toNat 5 0 = 1 → (s.scope i).free < 8 * bits w.toNat 23 6 →
    ∃ t, exec (.chunkOpenArrives i w) s = .next t ∧ t.scope i = { s.scope i with intake := ⟨0, [], 0, bits w.toNat 23 6 - 1⟩ } ∧
      (∀ j, j ≠ i → t.scope j = s.scope j) ∧ t.fault = (s.raise .LAC_BUFFER).fault ∧
      t.fd F.LACE_REJECT_CODE_FAULT i.val = FaultCode.num .LAC_BUFFER ∧ t = { s with lace := t.lace, regs := t.regs, fault := t.fault }) ∧
  (∀ (s : State) (i : Fin 2) (w : Stitch), s.up → (s.scope i).isOpen = true → 0 < (s.scope i).intake.discard →
    exec (.chunkOpenArrives i w) s = .next (s.setScope i { s.scope i with intake := { (s.scope i).intake with discard := (s.scope i).intake.discard - 1 } })) ∧
  (∀ (s : State) (i : Fin 2), s.up → s.plan.state.active = false → (s.scope i).whole = [] → exec (.chunk i []) s = .next s) ∧
  (∀ (s s1 : State) (i : Fin 2) (l : List Stitch) (c : Nat × List Stitch) (rest : List (Nat × List Stitch)) (recs : List LaceRec), s.up →
    (s.plan.state.active = false ∨ (s.scope 0).bound = true ∨ (s.scope 1).bound = true) →
    s1 = laceIntake i l s → (s1.scope i).whole = c :: rest →
    judgeChunk (s1.setScope i { s1.scope i with whole := rest }) i (c.2.map (·.toNat)) = .inr recs →
    ∃ t, exec (.chunk i l) s = .next t ∧ (t.scope i).nextSeq = (s1.scope i).nextSeq + 1 ∧ (t.scope i).headerOk = true ∧ (t.scope i).whole = rest ∧
      (t.scope i).chunks = (s1.scope i).chunks ++ [⟨c.1, (s1.scope i).nextSeq, bits ((recs.headD ⟨0, 0, 0, []⟩).b 1) 26 0,
        bits ((recs.headD ⟨0, 0, 0, []⟩).b 1) 38 27, bits ((recs.headD ⟨0, 0, 0, []⟩).b 1) 50 39, c.2.length,
        (recs.drop 1).filter (fun r => r.op != 0), false, false⟩] ∧
      ((s1.scope i).nextSeq = 0 → (t.scope i).linesReady = 0) ∧
      t = { s1 with lace := t.lace, cyc := t.cyc }) ∧
  (∀ (s s1 : State) (i : Fin 2) (l : List Stitch) (c : Nat × List Stitch) (rest : List (Nat × List Stitch)) (f : Nat × FaultCode), s.up →
    (s.plan.state.active = false ∨ (s.scope 0).bound = true ∨ (s.scope 1).bound = true) →
    s1 = laceIntake i l s → (s1.scope i).whole = c :: rest →
    judgeChunk (s1.setScope i { s1.scope i with whole := rest }) i (c.2.map (·.toNat)) = .inl f →
    ∃ t, exec (.chunk i l) s = .next t ∧ t.scope i = { s1.scope i with whole := rest } ∧ t.fd F.LACE_REJECT_CODE_FAULT i.val = f.2.num ∧
      t.rg .LACE_REJECT_SEQ i.val = BitVec.ofNat 32 (s1.scope i).nextSeq ∧ t.fd F.LACE_REJECT_STITCH_OFFSET i.val = f.1 % 2 ^ 17 ∧
      t.fd F.LACE_REJECT_CODE_COUNT i.val = satInc 16 (s1.fd F.LACE_REJECT_CODE_COUNT i.val) 1 ∧ t.fault = (s1.raise f.2).fault ∧
      t = { s1 with lace := t.lace, regs := t.regs, fault := t.fault })

/-- R137, R138, R159, R172, R523: REGISTER of a slot that is free, with no scope open and no registration running, starts one and claims
CHECK unit 9; its end makes the slot VALID or leaves the fault and offset in the status, with the interrupt; UNREGISTER empties
the slot.
Where the rules leave a point open, these clauses are the model's choice: assumption log 8, 77. -/
def Obligations.LibrariesRegister : Prop :=
  (∀ (s : State) (h : s.libSel < 15), s.runs → s.cyc = [] → s.anyScopeOpen = false → s.lace.reg = none → s.lace.libs[s.libSel].valid = false →
    (s.check.run[9]? = some none) → s.fd F.LACE_LIB_BASE_LO_ADDR % 4096 = 0 → s.fd F.LACE_LIB_SIZE_SIZE % 8 = 0 →
    exec .register s = .next { s with
      lace := { s.lace with reg := some ⟨s.libSel, s.pair F.LACE_LIB_BASE_LO_ADDR F.LACE_LIB_BASE_HI_ADDR,
        s.fd F.LACE_LIB_SIZE_SIZE, s.fd F.LACE_LIB_CRC_CRC⟩ }
      check := { s.check with claimed := s.check.claimed.setIfInBounds 9 true } }) ∧
  (∀ s : State, s.up → s.lace.reg = none → exec .registerDone s = .next s) ∧
  (∀ (s : State) (r : LibReg) (m : List LaceMotif), s.up → s.hbm.filling = false → s.dramMark = [] → s.anyPcFailed = false → s.lace.reg = some r → r.slot < 15 →
    judgeLib s r.slot r.base r.size r.crc = .inr m →
    ∃ t, exec .registerDone s = .next t ∧ t.lace.reg = none ∧ t.lace.libs[r.slot]? = some ⟨true, r.base, r.size, s.dramLe (r.base + 8) 8, m⟩ ∧
      t.dma = (s.irq 66).dma ∧ t.check.claimed = s.check.claimed.setIfInBounds 9 false ∧
      t = { s with lace := t.lace, dma := t.dma, out := t.out, check := t.check }) ∧
  (∀ (s : State) (r : LibReg) (f : FaultCode × Nat), s.up → s.hbm.filling = false → s.dramMark = [] → s.anyPcFailed = false → r.base + r.size ≤ dramEnd →
    s.lace.reg = some r → judgeLib s r.slot r.base r.size r.crc = .inl f →
    ∃ t, exec .registerDone s = .next t ∧ t.lace = { s.lace with reg := none } ∧ t.fd F.LACE_LIB_STATUS_FAIL_CODE = f.1.num ∧
      t.fd F.LACE_LIB_FAIL_OFFSET_OFFSET = f.2 % 2 ^ 32 ∧ t.fault = (s.raise f.1).fault ∧
      t = { s with lace := t.lace, regs := t.regs, fault := t.fault, dma := t.dma, out := t.out, check := t.check }) ∧
  (∀ (s : State) (r : LibReg), s.up → s.hbm.filling = false → s.lace.reg = some r → s.dramBad r.base r.size = true →
    ∃ t, exec .registerDone s = .next t ∧ t.lace = { s.lace with reg := none } ∧ t.fd F.LACE_LIB_STATUS_FAIL_CODE = FaultCode.num .LAC_LIB_CRC ∧
      t.fd F.LACE_LIB_FAIL_OFFSET_OFFSET = 0xFFFFFFFF) ∧
  (∀ (s : State) (h : s.libSel < 15), s.runs → s.anyScopeOpen = false → s.lace.reg = none →
    ∃ t, exec .unregister s = .next t ∧ t.lace = { s.lace with libs := s.lace.libs.set s.libSel LibSlot.empty } ∧
      t = { s with lace := t.lace, bob := { s.bob with cache := t.bob.cache } })

/-- R139: REGISTER and UNREGISTER of a slot are refused with LAC_LIB_BUSY, and change nothing else, while a scope is open or a registration
runs; so is REGISTER of a slot that is VALID. -/
def Obligations.BusyLibrariesRefuse : Prop :=
  (∀ (c : Instr) (s : State), (c = .register ∨ c = .unregister) → s.libSel < 15 → s.runs →
    (s.anyScopeOpen = true ∨ s.lace.reg.isSome = true) → exec c s = .next (s.raise .LAC_LIB_BUSY)) ∧
  (∀ (s : State) (h : s.libSel < 15), s.runs → s.lace.libs[s.libSel].valid = true → exec .register s = .next (s.raise .LAC_LIB_BUSY))

/-- R79 to R84, R87, R99: LOAD and VERIFY with every pipeline IDLE, no ring operation and no load running start the fetch; else PRK_BUSY.
Arriving bytes are walked section by section: a failed read or a failed section is the verdict, a complete image goes to
verification. The end of a load with a verdict rejects it, recording section and fault; an image that passes ends a VERIFY with LAST_OK,
and a LOAD is applied at once, or after the refill that a changed PARTITION asks for.
Where the rules leave a point open, these clauses are the model's choice: assumption log 8, 26, 74. -/
def Obligations.ImagesAreFetchedAndJudged : Prop :=
  (∀ (c : Instr) (b : Bool) (s : State), (c, b) ∈ [(Instr.verify, false), (.load, true)] → s.runs → s.cyc = [] → s.cmdSeen.allIdle = true → s.dma.ops = [] →
    s.prick.phase = .none → s.check.run[8]? = some none →
    ∃ t, exec c s = .next t ∧ t.prick = { s.prick with phase := .fetch, isLoad := b, staged := [], avail := s.fd F.PRICK_SRC_SIZE_SIZE, verdict := none } ∧
      t.bob = { s.bob with cache := [] } ∧ t = { s.cmdSeen with
        prick := t.prick, bob := t.bob, check := { s.check with claimed := s.check.claimed.setIfInBounds 8 true } }) ∧
  (∀ (c : Instr) (s : State), c ∈ [Instr.verify, .load] → s.runs → (s.cmdSeen.allIdle = false ∨ s.dma.ops ≠ [] ∨ s.prick.phase ≠ .none) →
    exec c s = .next (s.cmdSeen.raise .PRK_BUSY)) ∧
  (∀ (s : State) (l : List Byte) (r : HostReply), s.up → s.prick.phase = .fetch → s.prick.verdict = none → r ≠ .ok →
    exec (.imageSectionArrives l r) s = .next { s with prick := { s.prick with verdict := some (s.fetchIndex, .PRK_FETCH) } }) ∧
  (∀ (s : State) (l : List Byte), s.up → s.prick.phase = .fetch → s.prick.verdict = none →
    exec (.imageSectionArrives l .ok) s = .next (match scanImage s.glob.fuseEpochMin s.prick.avail ((s.prick.staged ++ l).take s.prick.avail) with
      | .more _ => { s with prick := { s.prick with staged := (s.prick.staged ++ l).take s.prick.avail } }
      | .fail i c => { s with prick := { s.prick with staged := (s.prick.staged ++ l).take s.prick.avail, verdict := some (i, c) } }
      | .done _ => { s with prick := { s.prick with staged := (s.prick.staged ++ l).take s.prick.avail, phase := .verify } })) ∧
  (∀ s : State, s.up → (s.prick.phase = .none ∨ s.prick.phase = .apply) → exec .loadEnd s = .next s) ∧
  (∀ (s : State) (v : Verdict), s.up → (s.prick.phase = .fetch ∨ s.prick.phase = .verify) → s.prick.verdict = some v →
    ∃ t, exec .loadEnd s = .next t ∧ t.prick = { s.prick with
        phase := .none, staged := [], verdict := none, lastOk := false, failSection := v.1 % 256, failCode := v.2.num } ∧
      t.fault = (s.raise v.2).fault ∧ t.dma = (s.irq 65).dma ∧ t = { s with
        prick := t.prick, fault := t.fault, dma := t.dma, out := t.out, check := { s.check with claimed := s.check.claimed.setIfInBounds 8 false } }) ∧
  (∀ (s : State) (l : List Section) (v : Verdict), s.up → (s.prick.phase = .fetch ∨ s.prick.phase = .verify) → s.prick.verdict = none →
    scanImage s.glob.fuseEpochMin s.prick.avail s.prick.staged = .done l → verifyFault s s.prick.staged l = some v →
    ∃ t, exec .loadEnd s = .next t ∧ t.prick = { s.prick with
        phase := .none, staged := [], lastOk := false, failSection := v.1 % 256, failCode := v.2.num } ∧
      t.fault = (s.raise v.2).fault ∧ t.dma = (s.irq 65).dma ∧ t = { s with
        prick := t.prick, fault := t.fault, dma := t.dma, out := t.out, freeCount := s.freeCount + 1
        check := { s.check with claimed := s.check.claimed.setIfInBounds 8 false } }) ∧
  (∀ (s : State) (l : List Section), s.up → (s.prick.phase = .fetch ∨ s.prick.phase = .verify) → s.prick.verdict = none → s.prick.isLoad = false →
    scanImage s.glob.fuseEpochMin s.prick.avail s.prick.staged = .done l → verifyFault s s.prick.staged l = none →
    ∃ t, exec .loadEnd s = .next t ∧ t.prick = { s.prick with phase := .none, staged := [], lastOk := true } ∧ t.dma = (s.irq 65).dma ∧
      t = { s with prick := t.prick, dma := t.dma, out := t.out, check := { s.check with claimed := s.check.claimed.setIfInBounds 8 false } }) ∧
  (∀ (s : State) (l : List Section), s.up → (s.prick.phase = .fetch ∨ s.prick.phase = .verify) → s.prick.verdict = none → s.prick.isLoad = true →
    scanImage s.glob.fuseEpochMin s.prick.avail s.prick.staged = .done l → verifyFault s s.prick.staged l = none → sectionChanged s.prick.applied l 6 = false →
    ∃ t, exec .loadEnd s = .next t ∧ t.prick = { s.prick with
        phase := .none, staged := [], lastOk := true, applied := l, fromHost := true, slot := 2, imageId := imgId s.prick.staged } ∧
      t.str = readStructure l ∧ t.plan.remap = imageRemap l ∧ t.plan.defActive = imageDefects l ∧ t.caril.trimActive = imageTrims l ∧
      t.dma = ((prickingReset s.prick.applied l s).irq 65).dma ∧ t.glob.safeBoot = false) ∧
  (∀ (s : State) (l : List Section), s.up → (s.prick.phase = .fetch ∨ s.prick.phase = .verify) → s.prick.verdict = none → s.prick.isLoad = true →
    scanImage s.glob.fuseEpochMin s.prick.avail s.prick.staged = .done l → verifyFault s s.prick.staged l = none → sectionChanged s.prick.applied l 6 = true →
    ∃ t, exec .loadEnd s = .next t ∧ t.prick = { s.prick with phase := .apply } ∧ t.hbm.filling = true ∧ t.str = s.str)

/-- R618 to R620, Table 21-4, Table 21-5: a flash command with an address that fits, and WRITE_EN where it changes the flash, is sent on the
bus, a program or an erase after Write Enable, and runs; its end programs the page, erases the sector or block, or fills the page buffer.
A command while one runs raises GLB_FLASH_BUSY; one that WRITE_EN forbids sets RESULT 3 and GLB_FLASH_PROTECT; one whose address does
not fit RESULT 4, an erase of a size the flash lacks RESULT 6, with GLB_FLASH_FAIL; a page that reads back otherwise leaves RESULT 5, and a time-out
leaves the bytes it was changing undefined with RESULT 2.
Where the rules leave a point open, these clauses are the model's choice: assumption log 71. -/
def Obligations.FlashCommands : Prop :=
  (∀ (c : Instr) (o : FlashOp) (s : State), (c, o) ∈ [(Instr.read, FlashOp.read), (.program, .program), (.erase4k, .erase4k), (.erase64k, .erase64k)] → s.runs →
    s.glob.flash.running = none → (o = .read ∨ s.fb F.GLOBAL_FLASH_CFG_WRITE_EN = true) → s.glob.flash.addrOk o (s.fd F.GLOBAL_FLASH_ADDR_ADDR) = true →
    (o ≠ .erase64k ∨ s.glob.flash.opcode o ≠ 0) →
    ∃ t, exec c s = .next t ∧ t.glob = { s.glob with flash := { s.glob.flash with running := some (o, s.fd F.GLOBAL_FLASH_ADDR_ADDR) } } ∧
      t = { ((if o = .read then s else s.emit (.qspi 0x06 0 0)).emit (.qspi (s.glob.flash.opcode o) (s.fd F.GLOBAL_FLASH_ADDR_ADDR)
        (if o = .read ∨ o = .program then 256 else 0))) with glob := t.glob }) ∧
  (∀ (c : Instr) (o : FlashOp) (s : State), (c, o) ∈ [(Instr.read, FlashOp.read), (.program, .program), (.erase4k, .erase4k), (.erase64k, .erase64k)] → s.runs →
    s.glob.flash.running.isSome = true →
    ∃ t, exec c s = .next t ∧ t.fault = (s.raise .GLB_FLASH_BUSY).fault ∧ t = { s with fault := t.fault, cyc := t.cyc }) ∧
  (∀ (c : Instr) (o : FlashOp) (s : State), (c, o) ∈ [(Instr.read, FlashOp.read), (.program, .program), (.erase4k, .erase4k), (.erase64k, .erase64k)] → s.runs →
    s.glob.flash.running = none → o ≠ .read → s.fb F.GLOBAL_FLASH_CFG_WRITE_EN = false →
    exec c s = .next ((s.setFd F.GLOBAL_FLASH_STATUS_RESULT 3).raise .GLB_FLASH_PROTECT)) ∧
  (∀ (c : Instr) (o : FlashOp) (s : State), (c, o) ∈ [(Instr.read, FlashOp.read), (.program, .program), (.erase4k, .erase4k), (.erase64k, .erase64k)] → s.runs →
    s.glob.flash.running = none → (o = .read ∨ s.fb F.GLOBAL_FLASH_CFG_WRITE_EN = true) → s.glob.flash.addrOk o (s.fd F.GLOBAL_FLASH_ADDR_ADDR) = false →
    exec c s = .next ((s.setFd F.GLOBAL_FLASH_STATUS_RESULT 4).raise .GLB_FLASH_FAIL)) ∧
  (∀ s : State, s.runs → s.glob.flash.running = none → s.fb F.GLOBAL_FLASH_CFG_WRITE_EN = true →
    s.glob.flash.addrOk .erase64k (s.fd F.GLOBAL_FLASH_ADDR_ADDR) = true → s.glob.flash.opcode .erase64k = 0 →
    exec .erase64k s = .next ((s.setFd F.GLOBAL_FLASH_STATUS_RESULT 6).raise .GLB_FLASH_FAIL)) ∧
  (∀ (s : State) (x y : Bool), s.glob.flash.running = none → exec (.flashDone x y) s = .next s) ∧
  (∀ (s : State) (o : FlashOp) (a : Nat) (y : Bool), s.cyc = [] → s.glob.flash.running = some (o, a) →
    exec (.flashDone true y) s = .next (((s.setFd F.GLOBAL_FLASH_STATUS_RESULT 2).setFlash
      (({ s.glob.flash with running := none } : FlashSt).lost a o.bytes)).raise .GLB_FLASH_FAIL)) ∧
  (∀ (s : State) (a : Nat), s.cyc = [] → s.glob.flash.running = some (.program, a) →
    exec (.flashDone false false) s = .next ((s.setFd F.GLOBAL_FLASH_STATUS_RESULT 1).setFlash
      { s.glob.flash with running := none, bytes := Sparse.setRange 0xFF#8 s.glob.flash.bytes a s.pageBuffer })) ∧
  (∀ (s : State) (a : Nat), s.cyc = [] → s.glob.flash.running = some (.program, a) →
    exec (.flashDone false true) s = .next (((s.setFd F.GLOBAL_FLASH_STATUS_RESULT 5).setFlash
      { s.glob.flash with running := none, undef := s.glob.flash.undef ++ [(a, 256)] }).raise .GLB_FLASH_FAIL)) ∧
  (∀ (s : State) (a : Nat) (y : Bool) (o : FlashOp) (n : Nat), (o, n) ∈ [(FlashOp.erase4k, 4096), (.erase64k, 65536)] → s.cyc = [] →
    s.glob.flash.running = some (o, a) →
    exec (.flashDone false y) s = .next ((s.setFd F.GLOBAL_FLASH_STATUS_RESULT 1).setFlash (({ s.glob.flash with running := none } : FlashSt).erased a n))) ∧
  (∀ (s : State) (a : Nat) (y : Bool), s.cyc = [] → s.glob.flash.running = some (.read, a) →
    ∃ t, exec (.flashDone false y) s = .next t ∧ t.fd F.GLOBAL_FLASH_STATUS_RESULT = 1 ∧
      (∀ n, n < 256 → s.glob.flash.isUndef (a + n) = false → bits (t.rg .GLOBAL_FLASH_DATA (n / 4)).toNat (8 * (n % 4) + 7) (8 * (n % 4)) =
        (Sparse.get 0xFF#8 s.glob.flash.bytes (a + n)).toNat) ∧
      t = { s with regs := t.regs, glob := { s.glob with flash := { s.glob.flash with running := none } }, freeCount := t.freeCount })

/-- R399, R403, R404, R407: a frame that arrives at a MAC is what its bytes say, whatever row brings it. One that R399 does not accept is
counted as discarded; a malformed transport datagram is counted and raises NET_TRANSPORT_BAD; a CTRL is taken without fault. A DATA
datagram of a native scope's flow with the expected stream, the next sequence number and credit moves its flow on; one over credit raises
NET_CREDIT_VIOLATION, one ahead of the sequence is counted with NET_FLOW_ORDER, and neither moves the flow; one of another stream is
counted alone, and one of no open scope raises LAC_NO_SCOPE. An EDGE datagram's record is taken as that record.
Where the rules leave a point open, these clauses are the model's choice: assumption log 49. -/
def Obligations.TransportDatagrams : Prop :=
  (∀ (c : RxFrame → Instr) (f : RxFrame) (s : State), c ∈ [Instr.dataDatagram, .ctrlDatagram, .edgeDatagram, fun f => .ptpFrameRx f.mac f.bytes] →
    s.netOpen = true → s.rxFrame f.mac.val f.bytes = .discarded →
    exec (c f) s = .next (s.bump F.NET_RX_DISCARD_COUNT 1 f.mac.val)) ∧
  (∀ (c : RxFrame → Instr) (f : RxFrame) (s : State), c ∈ [Instr.dataDatagram, .ctrlDatagram, .edgeDatagram, fun f => .ptpFrameRx f.mac f.bytes] →
    s.netOpen = true → (s.linked f.mac.val = false ∨ s.mtu < f.bytes.length + 4) →
    exec (c f) s = .next (s.bump F.NET_RX_DISCARD_COUNT 1 f.mac.val)) ∧
  (∀ (c : RxFrame → Instr) (f : RxFrame) (s : State) (p : List Byte), c ∈ [Instr.dataDatagram, .ctrlDatagram, .edgeDatagram] →
    s.netOpen = true → s.rxFrame f.mac.val f.bytes = .transport p → s.transportBad p = true →
    exec (c f) s = .next ((s.bump F.NET_XPORT_BAD_COUNT).raise .NET_TRANSPORT_BAD)) ∧
  (∀ (f : RxFrame) (s : State) (p : List Byte), s.netOpen = true → s.rxFrame f.mac.val f.bytes = .transport p →
    s.transportBad p = false → byteAt p 1 = 2 → exec (.ctrlDatagram f) s = .next s) ∧
  (∀ (f : RxFrame) (s : State) (p : List Byte) (i : Fin 2), s.netOpen = true → s.rxFrame f.mac.val f.bytes = .transport p →
    s.transportBad p = false → byteAt p 1 = 1 → s.flowOwner (byteAt p 2) = some (.native i) → leAt p 8 4 = (s.scope i).streamId →
    leAt p 0xC 4 = (s.flow (byteAt p 2)).next → (s.flow (byteAt p 2)).received + (payloadStitches p).length ≤ s.flowLimit (byteAt p 2) →
    ∃ t, exec (.dataDatagram f) s = .next t ∧
      (t.flow (byteAt p 2)).next = ((s.flow (byteAt p 2)).next + 1) % 2 ^ 32 ∧
      (t.flow (byteAt p 2)).received = (s.flow (byteAt p 2)).received + leAt p 0x10 2 / 8 ∧
      (t.flow (byteAt p 2)).opened = false ∧ (t.flow (byteAt p 2)).nakDue = false ∧ t.bob = s.bob ∧ t.plan = s.plan ∧ t.str = s.str ∧
      t.time = s.time ∧ t.dma = s.dma ∧ t.power = s.power ∧ t.stage = s.stage ∧ t.caril = s.caril) ∧
  (∀ (f : RxFrame) (s : State) (p : List Byte) (i : Fin 2), s.netOpen = true → s.rxFrame f.mac.val f.bytes = .transport p →
    s.transportBad p = false → byteAt p 1 = 1 → s.flowOwner (byteAt p 2) = some (.native i) → leAt p 8 4 = (s.scope i).streamId →
    leAt p 0xC 4 = (s.flow (byteAt p 2)).next → s.flowLimit (byteAt p 2) < (s.flow (byteAt p 2)).received + (payloadStitches p).length →
    ∃ t, exec (.dataDatagram f) s = .next t ∧ t.fault = (s.raise .NET_CREDIT_VIOLATION).fault ∧
      (t.flow (byteAt p 2)).next = (s.flow (byteAt p 2)).next ∧ (t.flow (byteAt p 2)).received = (s.flow (byteAt p 2)).received ∧
      t = { s.raise .NET_CREDIT_VIOLATION with net := t.net, out := t.out, cyc := t.cyc }) ∧
  (∀ (f : RxFrame) (s : State) (p : List Byte) (i : Fin 2) (d : Nat), s.netOpen = true → s.rxFrame f.mac.val f.bytes = .transport p →
    s.transportBad p = false → byteAt p 1 = 1 → s.flowOwner (byteAt p 2) = some (.native i) → leAt p 8 4 = (s.scope i).streamId →
    d = (leAt p 0xC 4 + 2 ^ 32 - (s.flow (byteAt p 2)).next) % 2 ^ 32 → 0 < d → d < 2 ^ 31 →
    ∃ t, exec (.dataDatagram f) s = .next t ∧ t.regs = (s.bump F.NET_FLOW_ORDER_COUNT_COUNT 1 (byteAt p 2)).regs ∧
      (t.flow (byteAt p 2)).next = (s.flow (byteAt p 2)).next ∧ (t.flow (byteAt p 2)).received = (s.flow (byteAt p 2)).received ∧
      t = { (s.bump F.NET_FLOW_ORDER_COUNT_COUNT 1 (byteAt p 2)).raise .NET_FLOW_ORDER with net := t.net, out := t.out, cyc := t.cyc }) ∧
  (∀ (f : RxFrame) (s : State) (p : List Byte) (i : Fin 2), s.netOpen = true → s.rxFrame f.mac.val f.bytes = .transport p →
    s.transportBad p = false → byteAt p 1 = 1 → s.flowOwner (byteAt p 2) = some (.native i) → leAt p 8 4 = (s.scope i).streamId →
    2 ^ 31 ≤ (leAt p 0xC 4 + 2 ^ 32 - (s.flow (byteAt p 2)).next) % 2 ^ 32 →
    exec (.dataDatagram f) s = .next (s.bump F.NET_FLOW_ORDER_COUNT_COUNT 1 (byteAt p 2))) ∧
  (∀ (f : RxFrame) (s : State) (p : List Byte) (i : Fin 2), s.netOpen = true → s.rxFrame f.mac.val f.bytes = .transport p →
    s.transportBad p = false → byteAt p 1 = 1 → s.flowOwner (byteAt p 2) = some (.native i) → leAt p 8 4 ≠ (s.scope i).streamId →
    exec (.dataDatagram f) s = .next (s.bump F.NET_XPORT_BAD_COUNT)) ∧
  (∀ (f : RxFrame) (s : State) (p : List Byte), s.netOpen = true → s.rxFrame f.mac.val f.bytes = .transport p →
    s.transportBad p = false → byteAt p 1 = 1 → s.flowOwner (byteAt p 2) = none →
    ∃ t, exec (.dataDatagram f) s = .next t ∧
      t.regs = (s.bump F.LACE_DROP_COUNT_COUNT (leAt p 0x10 2 / 8) (s.dropScope (byteAt p 2))).regs ∧ t.fault = (s.raise .LAC_NO_SCOPE).fault ∧
      t = { s.raise .LAC_NO_SCOPE with regs := t.regs, net := t.net, out := t.out, cyc := t.cyc }) ∧
  (∀ (f : RxFrame) (s : State) (p r : List Byte), s.netOpen = true → s.native = true → s.rxFrame f.mac.val f.bytes = .transport p →
    s.transportBad p = false → byteAt p 1 = 3 → r = slice p 0x14 (leAt p 0x10 2) → (byteAt r 0 = 1 ∨ byteAt r 0 = 2) →
    exec (.edgeDatagram f) s = exec (.edgingRecord r) s) ∧
  (∀ (f : RxFrame) (s : State) (p r : List Byte), s.netOpen = true → s.native = true → s.rxFrame f.mac.val f.bytes = .transport p →
    s.transportBad p = false → byteAt p 1 = 3 → r = slice p 0x14 (leAt p 0x10 2) → byteAt r 0 = 3 →
    exec (.edgeDatagram f) s = exec (.seamRecord r) s) ∧
  (∀ (f : RxFrame) (s : State) (p r : List Byte), s.netOpen = true → s.native = true → s.rxFrame f.mac.val f.bytes = .transport p →
    s.transportBad p = false → byteAt p 1 = 3 → r = slice p 0x14 (leAt p 0x10 2) → (byteAt r 0 = 0x81 ∨ byteAt r 0 = 0x82 ∨ byteAt r 0 = 0x83) →
    exec (.edgeDatagram f) s = exec (.edgingReply r) s) ∧
  (∀ (f : RxFrame) (s : State) (p r : List Byte), s.netOpen = true → s.native = true → s.rxFrame f.mac.val f.bytes = .transport p →
    s.transportBad p = false → byteAt p 1 = 3 → r = slice p 0x14 (leAt p 0x10 2) → byteAt r 0 = 0 →
    exec (.edgeDatagram f) s = .next ((s.bump F.CORR_EDGING_BAD_COUNT_COUNT).raise .COR_EDGING_BAD))

/-- R397, R399, R405, R407, R408, R470: CTRL goes out for every owned flow whose period has passed and for no other; a MAC's link falls with
NET_LINK_DOWN and rises where its port's mode has that MAC; discarded frames are counted; a PTP frame goes to the oldest waiting
PTP_RECV of its MAC, into host memory or DRAM, or is dropped and counted.
Where the rules leave a point open, these clauses are the model's choice: assumption log 49. -/
def Obligations.PortsAndPtpFrames : Prop :=
  (∀ s : State, s.netOpen = true → ∃ t, exec .ctrlPeriodic s = .next t ∧
    (∀ f, f < 64 → (s.flowOwner f).isSome = true → (s.flow f).ctrlAt + s.ctrlPs ≤ s.now → (t.flow f).ctrlAt = s.now ∧ (t.flow f).limitSent = s.flowLimit f) ∧
    (∀ f, f < 64 → ((s.flowOwner f).isSome = false ∨ s.now < (s.flow f).ctrlAt + s.ctrlPs) → t.flow f = s.flow f) ∧
    (∀ f, f < 64 → (t.flow f).next = (s.flow f).next ∧ (t.flow f).received = (s.flow f).received) ∧
    t = { s with net := t.net, out := t.out, cyc := t.cyc }) ∧
  (∀ (s : State) (m : Fin 8), s.up → bit s.net.link m = 1 →
    exec (.netLinkDown m) s = .next (({ s with net := { s.net with link := s.net.link - 2 ^ m.val } } : State).raise .NET_LINK_DOWN)) ∧
  (∀ (s : State) (m : Fin 8), s.up → bit s.net.link m = 0 → exec (.netLinkDown m) s = .next s) ∧
  (∀ (s : State) (m : Fin 8), s.up → bit s.net.link m = 0 → (s.fd F.NET_PORT_CFG_MODE (m.val / 4) = 3 ∨ s.fd F.NET_PORT_CFG_MODE (m.val / 4) = 4 ∨
      ((s.fd F.NET_PORT_CFG_MODE (m.val / 4) = 1 ∨ s.fd F.NET_PORT_CFG_MODE (m.val / 4) = 2) ∧ m.val % 4 = 0)) →
    exec (.linkUp m) s = .next { s with net := { s.net with link := s.net.link + 2 ^ m.val } }) ∧
  (∀ (s : State) (m : Fin 8), s.up → (s.fd F.NET_PORT_CFG_MODE (m.val / 4) = 0 ∨ bit s.net.link m = 1 ∨
      ((s.fd F.NET_PORT_CFG_MODE (m.val / 4) = 1 ∨ s.fd F.NET_PORT_CFG_MODE (m.val / 4) = 2) ∧ m.val % 4 ≠ 0)) →
    exec (.linkUp m) s = .next s) ∧
  (∀ (s : State) (m : Fin 8), s.netOpen = true → exec (.netFrameDiscard m) s = .next (s.bump F.NET_RX_DISCARD_COUNT 1 m.val)) ∧
  (∀ (s : State) (m : Fin 8) (l : List Byte), s.netOpen = true → s.rxFrame m.val l = .ptp → s.dma.ops = [] →
    ∃ t, exec (.ptpFrameRx m l) s = .next t ∧ t.regs = (s.bump F.DMA_PTP_DROP_COUNT).regs ∧ t = { s with regs := t.regs, cyc := t.cyc }) ∧
  (∀ (s : State) (m : Fin 8) (l : List Byte) (o : DmaOp), s.netOpen = true → s.rxFrame m.val l = .ptp → s.dma.ops = [o] →
    o.started = true → o.result = none → opcodeOf o.head = 0x12 → bits (paramOf o.head) 2 0 = m.val → flagOf o.head 3 = false →
    ∃ t, exec (.ptpFrameRx m l) s = .next t ∧ t.out = .hostWrite (dstOf o.head) (l.take (lenOf o.head)) :: s.out ∧
      t.dma.ops = [{ o with stamp := if s.ptpEvent m.val l then s.stampAt (-(s.fd F.NET_PTP_RX_LAT_PS m.val : Nat)) else (0, 0, 0),
                            frame := min l.length (lenOf o.head), event := s.ptpEvent m.val l, elems := [],
                            result := some (if lenOf o.head < l.length then 9 else 0, 0) }] ∧
      t = { s with dma := t.dma, out := t.out }) ∧
  (∀ (s : State) (m : Fin 8) (l : List Byte) (o : DmaOp), s.netOpen = true → s.rxFrame m.val l = .ptp → s.dma.ops = [o] →
    o.started = true → o.result = none → opcodeOf o.head = 0x12 → bits (paramOf o.head) 2 0 = m.val → flagOf o.head 3 = true →
    s.burstFail (o.ring / 8) (dstOf o.head) (min l.length (lenOf o.head)) true = none → s.hbm.filling = false → s.hbm.accessible = true →
    dstOf o.head + lenOf o.head ≤ dramEnd →
    ∃ t, exec (.ptpFrameRx m l) s = .next t ∧ t.dramBytes (dstOf o.head) (min l.length (lenOf o.head)) = l.take (lenOf o.head) ∧
      (t.dma.ops.map (·.result)) = [some (if lenOf o.head < l.length then 9 else 0, 0)] ∧
      t = { s with dma := t.dma, dram := t.dram, dramMark := t.dramMark, hbm := t.hbm })

/-- R411, R412, R416, R417, Table 11-5: a step of the clock adds 2 ns and ADJ to the local time; a trigger that is armed and whose target is not later than the time fires, with the interrupt and its action; ARM of a valid future target arms
it, a past one and an invalid one are refused with their faults.
Where the rules leave a point open, these clauses are the model's choice: assumption log 10, 50, 51. -/
def Obligations.ClockAndTriggers : Prop :=
  (∀ s : State, s.up → s.hbm.waiting = [] → s.openFlows = [] → s.cad.beamCheck = none → ∃ t, exec .clockStep s = .next t ∧
    t.now = s.now + 2000 ∧ t.time = { s.time.advance (2 ^ 41 + s.adj) with prevSec := s.time.sec, prevNs := s.time.ns } ∧
    t = { s with now := t.now, cyc := [], time := t.time, clock := t.clock,
                 power := { s.power with hushNs := t.power.hushNs, dormNs := t.power.dormNs } }) ∧
  (∀ s : State, s.glob.ready = false → exec .clockStep s = .next { s with now := s.now + 2000, cyc := [] }) ∧
  (∀ (s : State) (k : Fin 4), s.up → (s.fb F.TIME_TRIG_STATUS_ARMED k = false ∨ s.timeValid = false ∨ later (s.trigN k) s.timeN = true) →
    exec (.triggerFire k) s = .next s) ∧
  (∀ (s u : State) (k : Fin 4), s.up → s.fb F.TIME_TRIG_STATUS_ARMED k = true → s.timeValid = true → later (s.trigN k) s.timeN = false →
    u = ((s.setFd F.TIME_TRIG_STATUS_ARMED 0 k).setFlag F.TIME_TRIG_STATUS_FIRED 1 k).irq 67 → s.trigAction k = 0 →
    exec (.triggerFire k) s = .next u) ∧
  (∀ (s u : State) (k : Fin 4), s.up → s.fb F.TIME_TRIG_STATUS_ARMED k = true → s.timeValid = true → later (s.trigN k) s.timeN = false →
    u = ((s.setFd F.TIME_TRIG_STATUS_ARMED 0 k).setFlag F.TIME_TRIG_STATUS_FIRED 1 k).irq 67 → s.trigAction k = 3 →
    exec (.triggerFire k) s = .next (if s.plan.state.active then u.raise .TIM_ALIGN_SKIPPED else { u with stage := { u.stage with gridAt := s.stageT } })) ∧
  (∀ (s u : State) (k : Fin 4), s.up → s.fb F.TIME_TRIG_STATUS_ARMED k = true → s.timeValid = true → later (s.trigN k) s.timeN = false →
    u = ((s.setFd F.TIME_TRIG_STATUS_ARMED 0 k).setFlag F.TIME_TRIG_STATUS_FIRED 1 k).irq 67 → s.trigAction k = 4 →
    exec (.triggerFire k) s = .next { u with time := { u.time with ppsOut := true, ppsFallAt := u.now + s.ppsWidth * 1000000 } }) ∧
  (∀ (s : State), s.runs → s.timeValid = true → s.actionAllowed (s.trigAction (s.fd F.TIME_TRIG_SEL_TRIG)) = true →
    later (s.trigN (s.fd F.TIME_TRIG_SEL_TRIG)) s.timeN = true →
    exec .trigArm s = .next (s.setFd F.TIME_TRIG_STATUS_ARMED 1 (s.fd F.TIME_TRIG_SEL_TRIG))) ∧
  (∀ (s : State), s.runs → s.timeValid = true → s.actionAllowed (s.trigAction (s.fd F.TIME_TRIG_SEL_TRIG)) = true →
    later (s.trigN (s.fd F.TIME_TRIG_SEL_TRIG)) s.timeN = false →
    exec .trigArm s = .next ((s.setFlag F.TIME_TRIG_STATUS_PAST 1 (s.fd F.TIME_TRIG_SEL_TRIG)).raise .TIM_TRIGGER_PAST)) ∧
  (∀ (s : State), s.runs → (s.timeValid = false ∨ s.actionAllowed (s.trigAction (s.fd F.TIME_TRIG_SEL_TRIG)) = false) →
    exec .trigArm s = .next (s.raise .TIM_TRIGGER_INVALID)) ∧
  (∀ (s : State), s.runs → exec .trigDisarm s = .next (s.setFd F.TIME_TRIG_STATUS_ARMED 0 (s.fd F.TIME_TRIG_SEL_TRIG)))

/-- R413 to R416: APPLY within TIME_STEP_NS of a servo that has its first offset slews: FI and ADJ follow the gains, limited, ADJ_SAT where a
limit cut; beyond it TIM_STEP_REFUSED. FORCE and SET step the clock: with no trigger armed, FIRST clears, VALID sets and the step counter
advances. RESTART makes the time invalid and zeroes FI and ADJ. R418 to R420: LATCH copies the local time and the stage time into its registers; PPS_OUT rises for WIDTH_US where NS reaches TIME_PPS_OFFSET
in the last 2 ns step and falls when the width is over; an edge of PPS_IN at least 1 µs after the last is captured and numbered, a closer one
is not.
Where the rules leave a point open, these clauses are the model's choice: assumption log 7, 50, 78. -/
def Obligations.ServoLatchAndPulses : Prop :=
  ((∀ (s : State) (a b lim fi adj : Int), s.runs → s.cyc = [] → s.fb F.TIME_STATUS_FIRST = false →
    s.servoOffset.natAbs ≤ s.fd F.TIME_STEP_NS_NS * 2 ^ 16 → lim = (s.fd F.TIME_ADJ_LIM_LIM : Nat) →
    a = sext 32 (s.rg .TIME_FI).toNat - rshiftRound (sext 32 (s.fd F.TIME_SERVO_KI_KI) * s.servoOffset) (s.fd F.TIME_SERVO_SHIFT_SI) →
    fi = max (-lim) (min lim a) →
    b = fi - rshiftRound (sext 32 (s.fd F.TIME_SERVO_KP_KP) * s.servoOffset) (s.fd F.TIME_SERVO_SHIFT_SP) →
    adj = max (-lim) (min lim b) →
    ∃ t, exec .apply s = .next t ∧ t.rg .TIME_FI = BitVec.ofInt 32 fi ∧ t.rg .TIME_ADJ = BitVec.ofInt 32 adj ∧
      t.fb F.TIME_STATUS_ADJ_SAT = (s.fb F.TIME_STATUS_ADJ_SAT || decide (fi ≠ a ∨ adj ≠ b)) ∧
      t = { s with regs := t.regs, cyc := t.cyc }) ∧
  (∀ s : State, s.runs → s.cyc = [] → s.fb F.TIME_STATUS_FIRST = false → s.fd F.TIME_STEP_NS_NS * 2 ^ 16 < s.servoOffset.natAbs →
    ∃ t, exec .apply s = .next t ∧ t.regs = (s.setFd F.TIME_STATUS_REFUSED 1).regs ∧ t.fault = (s.raise .TIM_STEP_REFUSED).fault ∧
      t = { s.raise .TIM_STEP_REFUSED with regs := t.regs, cyc := t.cyc }) ∧
  (∀ s : State, s.runs → s.cyc = [] → (∀ k, k < 4 → s.fb F.TIME_TRIG_STATUS_ARMED k = false) →
    ∃ t, exec .force s = .next t ∧ t.time.sec = (s.time.advance (-(s.servoOffset * 2 ^ 24))).sec ∧
      t.time.ns = (s.time.advance (-(s.servoOffset * 2 ^ 24))).ns ∧ t.time.fr = (s.time.advance (-(s.servoOffset * 2 ^ 24))).fr ∧
      t.fd F.TIME_STATUS_FIRST = 0 ∧ t.fd F.TIME_STATUS_VALID = 1 ∧ t.fd F.TIME_STATUS_STEPS = (s.fd F.TIME_STATUS_STEPS + 1) % 65536 ∧
      t.rg .TIME_ADJ = s.rg .TIME_FI ∧ t.rg .TIME_FI = s.rg .TIME_FI ∧ t = { s with time := t.time, regs := t.regs, cyc := t.cyc }) ∧
  (∀ s : State, s.runs → s.cyc = [] → (∀ k, k < 4 → s.fb F.TIME_TRIG_STATUS_ARMED k = false) →
    ∃ t, exec .set s = .next t ∧ t.time.sec = s.fd F.TIME_SET_SEC_LO_SEC + 2 ^ 32 * s.fd F.TIME_SET_SEC_HI_SEC ∧
      t.time.ns = min 999999999 (s.fd F.TIME_SET_NS_NS) ∧ t.time.fr = 0 ∧ t.fd F.TIME_STATUS_FIRST = 0 ∧ t.fd F.TIME_STATUS_VALID = 1 ∧
      t.fd F.TIME_STATUS_STEPS = (s.fd F.TIME_STATUS_STEPS + 1) % 65536 ∧ t = { s with time := t.time, regs := t.regs, cyc := t.cyc }) ∧
  (∀ s : State, s.runs → (∀ k, k < 4 → s.fb F.TIME_TRIG_STATUS_ARMED k = false) →
    exec .restart s = .next (({ s with time := { s.time with ppsOut := false } } : State).setFd F.TIME_STATUS_VALID 0 |>.setFd F.TIME_STATUS_FIRST 1
      |>.setRg .TIME_FI 0 |>.setRg .TIME_ADJ 0)) ∧
  (∀ s : State, s.runs → s.fb F.TIME_TRIG_STATUS_ARMED 0 = true → (∀ k, k < 4 → k ≠ 0 → s.fb F.TIME_TRIG_STATUS_ARMED k = false) →
    ∃ t, exec .restart s = .next t ∧ t.fb F.TIME_TRIG_STATUS_ARMED 0 = false ∧ t.fault = (s.raise .TIM_TRIGGER_STEPPED).fault ∧
      t.fd F.TIME_STATUS_VALID = 0 ∧ t.fd F.TIME_STATUS_FIRST = 1 ∧ t.rg .TIME_FI = 0 ∧ t.rg .TIME_ADJ = 0 ∧ t.time.ppsOut = false)) ∧
  ((∀ s : State, s.runs → ∃ t, exec .latch s = .next t ∧ t.fd F.TIME_LATCH_SEC_LO_SEC = s.time.sec % 2 ^ 32 ∧
    t.fd F.TIME_LATCH_SEC_HI_SEC = s.time.sec / 2 ^ 32 % 2 ^ 16 ∧ t.fd F.TIME_LATCH_SEC_HI_FRAC = s.time.fr / 2 ^ 24 % 2 ^ 16 ∧
    t.fd F.TIME_LATCH_NS_NS = s.time.ns % 2 ^ 30 ∧
    t.fd F.TIME_LATCH_STAGE_LO_T = s.stageT.toNat % 2 ^ 32 ∧ t.fd F.TIME_LATCH_STAGE_HI_T = s.stageT.toNat / 2 ^ 32 % 2 ^ 32 ∧
    t = { s with regs := t.regs }) ∧
  (∀ s : State, s.up → s.fb F.TIME_PPS_CFG_OUT_EN = true → s.timeValid = true → s.fd F.TIME_PPS_OFFSET_NS < 1000000000 →
    s.time.ns < 1000000000 → s.time.prevNs < s.fd F.TIME_PPS_OFFSET_NS → s.fd F.TIME_PPS_OFFSET_NS ≤ s.time.ns →
    exec .ppsOutRise s = .next { s with time := { s.time with ppsOut := true, ppsFallAt := s.now + s.ppsWidth * 1000000 } }) ∧
  (∀ s : State, s.up → (s.fb F.TIME_PPS_CFG_OUT_EN = false ∨ s.timeValid = false ∨
      (s.time.prevNs ≤ s.time.ns ∧ s.time.ns < 1000000000 ∧ (s.time.ns < s.fd F.TIME_PPS_OFFSET_NS ∨
        (s.fd F.TIME_PPS_OFFSET_NS ≤ s.time.prevNs ∧ s.fd F.TIME_PPS_OFFSET_NS < s.time.ns)))) →
    exec .ppsOutRise s = .next s) ∧
  (∀ s : State, s.time.ppsOut = true → s.time.ppsFallAt ≤ s.now → exec .ppsOutFall s = .next { s with time := { s.time with ppsOut := false } }) ∧
  (∀ s : State, s.now < s.time.ppsFallAt → exec .ppsOutFall s = .next s) ∧
  (∀ s : State, s.up → s.wakeOn 3 = false → s.time.ppsInAt = none →
    ∃ t, exec .ppsInEdge s = .next t ∧ t.time = { s.time with ppsInAt := some s.now } ∧ t.fd F.TIME_PPS_IN_SEC_LO_SEC = s.time.sec % 2 ^ 32 ∧
      t.fd F.TIME_PPS_IN_NS_NS = s.time.ns % 2 ^ 30 ∧ t.fd F.TIME_PPS_IN_SEQ_SEQ = (s.fd F.TIME_PPS_IN_SEQ_SEQ + 1) % 2 ^ 32 ∧
      t = { s with time := t.time, regs := t.regs }) ∧
  (∀ (s : State) (a : Nat), s.up → s.wakeOn 3 = false → s.time.ppsInAt = some a → a + 1000000 ≤ s.now →
    ∃ t, exec .ppsInEdge s = .next t ∧ t.time = { s.time with ppsInAt := some s.now } ∧ t.fd F.TIME_PPS_IN_SEC_LO_SEC = s.time.sec % 2 ^ 32 ∧
      t.fd F.TIME_PPS_IN_NS_NS = s.time.ns % 2 ^ 30 ∧ t.fd F.TIME_PPS_IN_SEQ_SEQ = (s.fd F.TIME_PPS_IN_SEQ_SEQ + 1) % 2 ^ 32 ∧
      t = { s with time := t.time, regs := t.regs }) ∧
  (∀ (s : State) (a : Nat), s.up → s.wakeOn 3 = false → s.time.ppsInAt = some a → s.now < a + 1000000 →
    exec .ppsInEdge s = .next { s with time := { s.time with ppsInAt := some s.now } }))

/-- R426, R432, R433, R435, R437 to R439, R441, R444: a write that activates no row stores its bytes, changes no other byte of DRAM and leaves
its source admitted; one beyond the last address is discarded with MEM_ADDR_RANGE, one during a fill is held. A read is classified by
its syndrome: a clean one changes nothing but the admission, a corrected one is counted, an address fault or an uncorrectable
one is counted, logged and raised. A request of a throttled source waits, and is admitted at a later step. A request that activates a row
below the threshold is counted by its bank's tracker.
Where the rules leave a point open, these clauses are the model's choice: assumption log 52, 53, 76. -/
def Obligations.DramReadsAndWrites : Prop :=
  (∀ (s : State) (src : BitVec 8) (a : BitVec 36) (l : List Byte), s.up → s.throttled src.toNat = false → s.hbm.waiting = [] → l ≠ [] →
    a.toNat + l.length ≤ dramEnd → s.hbm.filling = false → s.hbm.accessible = true →
    ∃ t, exec (.dramWrite src a false l) s = .next t ∧ (∀ k, k < l.length → Sparse.get 0 t.dram (a.toNat + k) = (l[k]?).getD 0) ∧
      (∀ x, (x < a.toNat ∨ a.toNat + l.length ≤ x) → Sparse.get 0 t.dram x = Sparse.get 0 s.dram x) ∧
      t = { admitted src.toNat s with dram := t.dram, dramMark := t.dramMark, hbm := { (admitted src.toNat s).hbm with inject := t.hbm.inject } } ∧
      (s.hbm.inject = none → t.hbm.inject = none)) ∧
  (∀ (s : State) (src : BitVec 8) (a : BitVec 36) (act : Bool) (l : List Byte), s.up → l ≠ [] → dramEnd < a.toNat + l.length →
    exec (.dramWrite src a act l) s = .next (s.raise .MEM_ADDR_RANGE)) ∧
  (∀ (s : State) (src : BitVec 8) (a : BitVec 36) (act : Bool) (l : List Byte), s.up → l ≠ [] → a.toNat + l.length ≤ dramEnd → s.hbm.accessible = true →
    s.hbm.filling = true →
    exec (.dramWrite src a act l) s = .next { s with hbm := { s.hbm with held := s.hbm.held ++ [.write src.toNat a.toNat act l] } }) ∧
  (∀ (s : State) (src : BitVec 8) (a : BitVec 36) (act : Bool) (l : List Byte), s.up → l ≠ [] → a.toNat + l.length ≤ dramEnd → s.hbm.accessible = true →
    s.hbm.filling = false → s.throttled src.toNat = true →
    exec (.dramWrite src a act l) s = .next { s with hbm := { s.hbm with waiting := s.hbm.waiting ++ [.write src.toNat a.toNat act l] } }) ∧
  (∀ (s : State) (src : BitVec 8) (a b : BitVec 36) (act : Bool) (x : BitVec 128) (y : BitVec 16) (sram : Bool), s.up → a.toNat < dramEnd →
    s.hbm.accessible = true → s.hbm.filling = false → s.throttled src.toNat = true →
    exec (.dramRead src a act b x y sram) s = .next { s with hbm := { s.hbm with
      waiting := s.hbm.waiting ++ [.read src.toNat a.toNat act b.toNat x.toNat y.toNat sram] } }) ∧
  (∀ (s : State) (src : BitVec 8) (a : BitVec 36) (l : List Byte) (row bank : Nat), s.up → s.throttled src.toNat = false → s.hbm.waiting = [] → l ≠ [] →
    a.toNat + l.length ≤ dramEnd → s.hbm.filling = false → s.hbm.accessible = true → s.hbm.hammers = [] → s.hbm.trackers = [] →
    1 < s.fd F.HBM_RH_CFG_THRESHOLD → row = bits a.toNat 35 21 → bank = s.bankOf a.toNat →
    ∃ t, exec (.dramWrite src a true l) s = .next t ∧ t.hbm.trackers = [(bank, [(row, 1)])] ∧
      (∀ k, k < l.length → Sparse.get 0 t.dram (a.toNat + k) = (l[k]?).getD 0) ∧ t.regs = s.regs) ∧
  (∀ (s : State) (src : BitVec 8) (a b : BitVec 36) (x : BitVec 128) (y : BitVec 16) (n : Nat), s.up → s.throttled src.toNat = false →
    s.hbm.waiting = [] → s.hbm.filling = false → s.hbm.accessible = true → corrSource src.toNat = false → a.toNat < dramEnd →
    s.pcFailed (s.pcOf (a.toNat / 16 * 16)) = false → n = s.syndrome (a.toNat / 16 * 16) (b.toNat / 16 * 16) x.toNat y.toNat →
    classOf n = .clean → exec (.dramRead src a false b x y false) s = .next (admitted src.toNat s)) ∧
  (∀ (s : State) (src : BitVec 8) (a b : BitVec 36) (x : BitVec 128) (y : BitVec 16) (n q : Nat), s.up → s.throttled src.toNat = false →
    s.hbm.waiting = [] → s.hbm.filling = false → s.hbm.accessible = true → corrSource src.toNat = false → a.toNat < dramEnd →
    q = s.pcOf (a.toNat / 16 * 16) → s.pcFailed q = false → n = s.syndrome (a.toNat / 16 * 16) (b.toNat / 16 * 16) x.toNat y.toNat →
    classOf n = .corrected → s.fd F.HBM_CE_COUNT_COUNT + 1 < 2 ^ 32 →
    (s.fd F.HBM_CE_THRESH_COUNT = 0 ∨ (s.fd F.HBM_CE_COUNT_COUNT + 1) % s.fd F.HBM_CE_THRESH_COUNT ≠ 0) →
    exec (.dramRead src a false b x y false) s =
      .next (((admitted src.toNat s).bump F.HBM_CE_COUNT_COUNT).bump F.HBM_PC_CE_COUNT_COUNT 1 q)) ∧
  (∀ (s : State) (src : BitVec 8) (a b : BitVec 36) (x : BitVec 128) (y : BitVec 16) (n q : Nat), s.up → s.throttled src.toNat = false →
    s.hbm.waiting = [] → s.hbm.filling = false → s.hbm.accessible = true → corrSource src.toNat = false → a.toNat < dramEnd →
    q = s.pcOf (a.toNat / 16 * 16) → s.pcFailed q = false → n = s.syndrome (a.toNat / 16 * 16) (b.toNat / 16 * 16) x.toNat y.toNat →
    classOf n = .corrected → s.fd F.HBM_CE_COUNT_COUNT + 1 < 2 ^ 32 → s.fd F.HBM_CE_THRESH_COUNT ≠ 0 →
    (s.fd F.HBM_CE_COUNT_COUNT + 1) % s.fd F.HBM_CE_THRESH_COUNT = 0 →
    exec (.dramRead src a false b x y false) s =
      .next ((((admitted src.toNat s).bump F.HBM_CE_COUNT_COUNT).bump F.HBM_PC_CE_COUNT_COUNT 1 q).raise .MEM_CE_THRESHOLD)) ∧
  (∀ (s : State) (src : BitVec 8) (a b : BitVec 36) (x : BitVec 128) (y : BitVec 16) (n : Nat), s.up → s.throttled src.toNat = false →
    s.hbm.waiting = [] → s.hbm.filling = false → s.hbm.accessible = true → corrSource src.toNat = false → a.toNat < dramEnd →
    s.pcFailed (s.pcOf (a.toNat / 16 * 16)) = false → n = s.syndrome (a.toNat / 16 * 16) (b.toNat / 16 * 16) x.toNat y.toNat →
    classOf n = .addressFault →
    exec (.dramRead src a false b x y false) s = .next
      ((errLog (a.toNat / 16 * 16) n 2 src.toNat ((admitted src.toNat s).bump F.HBM_AF_COUNT_COUNT)).raise .MEM_ADDRESS_FAULT)) ∧
  (∀ (s : State) (src : BitVec 8) (a b : BitVec 36) (x : BitVec 128) (y : BitVec 16) (n : Nat), s.up → s.throttled src.toNat = false →
    s.hbm.waiting = [] → s.hbm.filling = false → s.hbm.accessible = true → corrSource src.toNat = false → a.toNat < dramEnd →
    s.pcFailed (s.pcOf (a.toNat / 16 * 16)) = false → n = s.syndrome (a.toNat / 16 * 16) (b.toNat / 16 * 16) x.toNat y.toNat →
    classOf n = .uncorrectable →
    exec (.dramRead src a false b x y false) s = .next
      ((errLog (a.toNat / 16 * 16) n 1 src.toNat ((admitted src.toNat s).bump F.HBM_UE_COUNT_COUNT)).raise .MEM_UNCORRECTABLE)) ∧
  (∀ (s : State) (src : BitVec 8) (a b : BitVec 36) (act : Bool) (x : BitVec 128) (y : BitVec 16), s.up → corrSource src.toNat = false →
    dramEnd ≤ a.toNat →
    exec (.dramRead src a act b x y false) s = .next (s.raise .MEM_ADDR_RANGE))

/-- R430 to R434: the window clears every tracker once WINDOW_MS have passed since it last did, holds end when their time has run, a refresh
changes nothing, and a temperature reading sets each stack's rate code: 2 from 95 °C, 1 from 85 °C, 0 below, for a first reading. R428, R429, R443 to R445: REMAP with valid masks and nothing using the DRAM makes the staged masks active, empties the DRAM by a fill and drops
every library and the records of every chunk; its end marks the pseudo-channels that returned a non-clean codeword as failed, each with
MEM_PC_FAILED. Masks that are not valid raise MEM_CONFIG_INVALID, a busy device MEM_CONFIG_BUSY.
Where the rules leave a point open, these clauses are the model's choice: assumption log 52, 53. -/
def Obligations.RowsRemapAndFill : Prop :=
  ((∀ s : State, s.hbm.windowAt + 1000000000 * max 1 (s.fd F.HBM_RH_CFG_WINDOW_MS) ≤ s.now →
    exec .rhWindow s = .next { s with hbm := { s.hbm with trackers := [], windowAt := s.now } }) ∧
  (∀ s : State, s.now < s.hbm.windowAt + 1000000000 * max 1 (s.fd F.HBM_RH_CFG_WINDOW_MS) → exec .rhWindow s = .next s) ∧
  (∀ s : State, ∃ t, exec .rhHoldExpire s = .next t ∧ t.hbm.holds = s.hbm.holds.filter (fun h => decide (s.now < h.until_)) ∧
    t = { s with hbm := { s.hbm with holds := t.hbm.holds } }) ∧
  (∀ (s : State) (k : Fin 2) (b : Fin 1024), exec (.refresh k b) s = .next s) ∧
  (∀ (s : State) (x y : BitVec 8), s.up → s.hbm.selfRefresh = true → exec (.stackTempRead x y) s = .next s) ∧
  (∀ (s : State) (x y : BitVec 8), s.up → s.hbm.selfRefresh = false → s.hbm.tempSeen = Vector.replicate 2 false → s.hbm.hot = Vector.replicate 2 false →
    x.toNat < 105 → y.toNat < 105 →
    ∃ t, exec (.stackTempRead x y) s = .next t ∧ t.fd F.HBM_TEMP_STACK0 = x.toNat ∧ t.fd F.HBM_TEMP_STACK1 = y.toNat ∧
      t.fd F.HBM_STATUS_RATE0 = (if 95 ≤ x.toNat then 2 else if 85 ≤ x.toNat then 1 else 0) ∧
      t.fd F.HBM_STATUS_RATE1 = (if 95 ≤ y.toNat then 2 else if 85 ≤ y.toNat then 1 else 0) ∧ t.hbm.hot = Vector.replicate 2 false ∧
      t = { s with regs := t.regs, hbm := { s.hbm with hot := t.hbm.hot, tempSeen := Vector.replicate 2 true } }) ∧
  (∀ (s : State) (x y : BitVec 8), s.up → s.hbm.selfRefresh = false → s.hbm.hot = Vector.replicate 2 false → 105 ≤ x.toNat →
    ∃ t, exec (.stackTempRead x y) s = .next t ∧ t.stackHot = true ∧ t.fd F.HBM_STATUS_RATE0 = 2 ∧ t.fd F.HBM_TEMP_STACK0 = x.toNat)) ∧
  ((∀ s : State, s.runs → s.cyc = [] → (∀ k, k < 11 → maskValid k (s.hashMask false k) = true) → s.allIdle = true → s.dma.ops = [] → s.hbm.scrub = none →
    s.hbm.filling = false →
    ∃ t, exec .remap s = .next t ∧ t.dram = [] ∧ t.dramMark = [] ∧ t.hbm = { s.hbm with filling := true } ∧
      (∀ k, k < 11 → t.hashMask true k = s.hashMask false k) ∧ t.lace.libs = Vector.replicate 15 LibSlot.empty ∧ t.lace.reg = none ∧
      (∀ i, i < 2 → (t.lace.scopes.toList.getD i LaceScope.closed).chunks =
        (s.lace.scopes.toList.getD i LaceScope.closed).chunks.map (fun c => { c with recs := [] })) ∧ t.bob.cache = [] ∧
      t = { s with regs := t.regs, dram := [], dramMark := [], hbm := t.hbm, lace := t.lace, bob := { s.bob with cache := [] }, cyc := t.cyc }) ∧
  (∀ (s : State) (k : Nat), s.runs → k < 11 → maskValid k (s.hashMask false k) = false → exec .remap s = .next (s.cmdSeen.raise .MEM_CONFIG_INVALID)) ∧
  (∀ s : State, s.runs → s.cyc = [] → (∀ k, k < 11 → maskValid k (s.hashMask false k) = true) → (s.allIdle = false ∨ s.dma.ops ≠ [] ∨ s.hbm.scrub ≠ none ∨
      s.hbm.filling = true) →
    exec .remap s = .next (s.cmdSeen.raise .MEM_CONFIG_BUSY)) ∧
  (∀ (s : State) (bad : BitVec 64), s.hbm.filling = false → exec (.fillDone bad) s = .next s) ∧
  (∀ (s : State) (bad : BitVec 64), s.glob.ready = true → s.hbm.filling = true → s.hbm.held = [] → s.prick.phase ≠ .apply →
    ∃ t, exec (.fillDone bad) s = .next t ∧ t.hbm = { s.hbm with filling := false } ∧
      (∀ q, q < 64 → t.pcFailed q = bad.getLsbD q) ∧ t = { s with hbm := t.hbm, regs := t.regs, fault := t.fault } ∧ (bad = 0 → t.fault = s.fault)))

/-- R446 to R448: START of a scrub over a span of whole 32-byte units in DRAM, with its slot free and no scrub or fill running, claims the slot and runs; its
end fills the slot, a span without marked codewords leaving every byte and count as it was. ABORT ends it with a free value for how far it
came (assumption log 42). R449: INJECT arms an injection of its mode on the codeword of HBM_INJECT with every pipeline IDLE, else raises MEM_CONFIG_BUSY; mode 0 and
INJECT_DISARM disarm; the next write that covers the codeword leaves its check difference and disarms.
Where the rules leave a point open, these clauses are the model's choice: assumption log 8, 42, 75. -/
def Obligations.ScrubsAndInjection : Prop :=
  ((∀ (s : State) (base size slot : Nat), s.runs → s.cyc = [] → base = s.pair F.HBM_SCRUB_BASE_LO_ADDR F.HBM_SCRUB_BASE_HI_ADDR →
    size = s.pair F.HBM_SCRUB_SIZE_LO_SIZE F.HBM_SCRUB_SIZE_HI_SIZE → slot = s.fd F.HBM_SCRUB_CFG_SLOT →
    s.hbm.scrub = none → s.hbm.filling = false → base % 32 = 0 → size % 32 = 0 → 0 < size → base + size ≤ dramEnd → (s.slot slot).st = .free →
    ∃ t, exec .scrubStart s = .next t ∧ t.hbm = { s.hbm with scrub := some ⟨base, base + size, slot, s.fb F.HBM_SCRUB_CFG_REPAIR, 0, 0, 0, none, 0, 0⟩ } ∧
      (t.slot slot).st = .busy ∧ (t.slot slot).seq = ((s.slot slot).seq + 1) % 65536 ∧
      t = { s with hbm := t.hbm, dma := { s.dma with slots := t.dma.slots }, cyc := t.cyc }) ∧
  (∀ s : State, s.runs → (s.hbm.scrub.isSome = true ∨ s.hbm.filling = true) → exec .scrubStart s = .next (s.raise .MEM_SCRUB_BUSY)) ∧
  (∀ s : State, s.runs → s.hbm.scrub = none → s.hbm.filling = false → s.pair F.HBM_SCRUB_SIZE_LO_SIZE F.HBM_SCRUB_SIZE_HI_SIZE = 0 →
    exec .scrubStart s = .next (s.raise .MEM_CONFIG_INVALID)) ∧
  (∀ (s : State) (base size : Nat), s.runs → base = s.pair F.HBM_SCRUB_BASE_LO_ADDR F.HBM_SCRUB_BASE_HI_ADDR →
    size = s.pair F.HBM_SCRUB_SIZE_LO_SIZE F.HBM_SCRUB_SIZE_HI_SIZE → s.hbm.scrub = none → s.hbm.filling = false → base % 32 = 0 → size % 32 = 0 →
    0 < size → base + size ≤ dramEnd → (s.slot (s.fd F.HBM_SCRUB_CFG_SLOT)).st ≠ .free →
    exec .scrubStart s = .next (s.raise .HST_SLOT_BUSY)) ∧
  (∀ s : State, s.up → s.hbm.scrub = none → exec .scrubDone s = .next s) ∧
  (∀ (s : State) (x : Scrub), s.up → s.hbm.scrub = some x → s.dramMark = [] → s.anyPcFailed = false → x.slot < 256 →
    ∃ t, exec .scrubDone s = .next t ∧ t.hbm = { s.hbm with scrub := none } ∧ (t.slot x.slot).st = .ready ∧
      (t.slot x.slot).data = scrubPayload { x with ce := 0, ue := 0, af := 0, first := none, last := 0, count := (x.stop - x.addr) / 16 } false 0 ∧
      t = { s with hbm := t.hbm, dma := t.dma, out := t.out, cyc := t.cyc }) ∧
  (∀ s : State, s.runs → s.hbm.scrub = none → exec .scrubAbort s = .next s) ∧
  (∀ (s : State) (x : Scrub), s.runs → s.hbm.scrub = some x → s.dramMark = [] → s.anyPcFailed = false → x.slot < 256 →
    ∃ t, exec .scrubAbort s = .next t ∧ t.hbm = { s.hbm with scrub := none } ∧ (t.slot x.slot).st = .ready ∧
      t = { s with hbm := t.hbm, dma := t.dma, out := t.out, freeCount := s.freeCount + 1, cyc := t.cyc })) ∧
  ((∀ (s : State) (m : BitVec 2), s.runs → m ≠ 0 → s.allIdle = true → exec (.inject m) s = .next { s with
    hbm := { s.hbm with inject := some (m.toNat, s.pair F.HBM_INJECT_LO_ADDR F.HBM_INJECT_HI_ADDR / 16 * 16) } }) ∧
  (∀ (s : State) (m : BitVec 2), s.runs → m ≠ 0 → s.allIdle = false → exec (.inject m) s = .next (s.raise .MEM_CONFIG_BUSY)) ∧
  (∀ (s : State) (c : Instr), c ∈ [Instr.inject 0, .injectDisarm] → s.runs → exec c s = .next { s with hbm := { s.hbm with inject := none } }) ∧
  (∀ (s : State) (src : BitVec 8) (a : BitVec 36) (l : List Byte) (m : Nat), s.up → s.throttled src.toNat = false → s.hbm.waiting = [] → l.length = 16 → a.toNat % 16 = 0 →
    a.toNat + 16 ≤ dramEnd → s.hbm.filling = false → s.hbm.accessible = true → s.hbm.inject = some (m, a.toNat) →
    ∃ t, exec (.dramWrite src a false l) s = .next t ∧ t.hbm.inject = none ∧
      Sparse.get 0 t.dramMark (a.toNat / 16) = (if m = 1 then colData 0 else if m = 2 then Nat.xor (colData 0) (colData 1) else colAddr 4)))

/-- R456, R459, R460, R462, R473: a ring is reached through BAR0 by RING_SEL, or through its page where its group is granted. ENABLE
takes a DISABLED or STOPPED ring to RUNNING; DISABLE of one whose DONE equals HEAD to DISABLED; ABORT of one with nothing in flight to STOPPED with
its vector; RESET zeroes the counts of a DISABLED ring and is otherwise HST_RING_BUSY; a TAIL beyond the ring's size stops it with HST_RING_OVERRUN.
Pages 0 to 7 ignore writes, a page without grant raises HST_UNGRANTED.
Where the rules leave a point open, these clauses are the model's choice: assumption log 54, 55. -/
def Obligations.RingCommands : Prop :=
  (∀ (s : State) (page : Option (Fin 64)) (n : Fin 64),
    ((page = none ∧ s.runs ∧ s.fd F.RING_SEL_RING = n.val) ∨ (page = some n ∧ 8 ≤ n.val ∧ s.up ∧ s.groupGranted (n.val / 8) = true)) →
    ((s.ring n).st = .disabled ∨ (s.ring n).st = .stopped) →
    exec (.ringEnable page) s = .next (s.setRing n { s.ring n with st := .running, stopCode := 0, disableReq := false })) ∧
  (∀ (s : State) (page : Option (Fin 64)) (n : Fin 64),
    ((page = none ∧ s.runs ∧ s.fd F.RING_SEL_RING = n.val) ∨ (page = some n ∧ 8 ≤ n.val ∧ s.up ∧ s.groupGranted (n.val / 8) = true)) →
    ((s.ring n).st = .running ∨ (s.ring n).st = .stopping) → exec (.ringEnable page) s = .next s) ∧
  (∀ (s : State) (page : Option (Fin 64)) (n : Fin 64) (c : Option (Fin 64) → Instr), c ∈ [Instr.ringDisable, .ringAbort] →
    ((page = none ∧ s.runs ∧ s.fd F.RING_SEL_RING = n.val) ∨ (page = some n ∧ 8 ≤ n.val ∧ s.up ∧ s.groupGranted (n.val / 8) = true)) →
    (s.ring n).st = .disabled → exec (c page) s = .next s) ∧
  (∀ (s : State) (page : Option (Fin 64)) (n : Fin 64),
    ((page = none ∧ s.runs ∧ s.fd F.RING_SEL_RING = n.val) ∨ (page = some n ∧ 8 ≤ n.val ∧ s.up ∧ s.groupGranted (n.val / 8) = true)) →
    (s.ring n).st = .disabled → exec (.ringReset page) s = .next (s.setRing n { s.ring n with tail := 0, head := 0, done := 0 })) ∧
  (∀ (s : State) (page : Option (Fin 64)) (n : Fin 64),
    ((page = none ∧ s.runs ∧ s.fd F.RING_SEL_RING = n.val) ∨ (page = some n ∧ 8 ≤ n.val ∧ s.up ∧ s.groupGranted (n.val / 8) = true)) →
    (s.ring n).st ≠ .disabled → exec (.ringReset page) s = .next (s.raise .HST_RING_BUSY)) ∧
  (∀ (s : State) (page : Option (Fin 64)) (n : Fin 64),
    ((page = none ∧ s.runs ∧ s.fd F.RING_SEL_RING = n.val) ∨ (page = some n ∧ 8 ≤ n.val ∧ s.up ∧ s.groupGranted (n.val / 8) = true)) →
    (s.ring n).st ≠ .disabled → (s.ring n).done = (s.ring n).head →
    exec (.ringDisable page) s = .next (s.setRing n { s.ring n with st := .disabled, disableReq := false, waitSlot := false })) ∧
  (∀ (s : State) (page : Option (Fin 64)) (n : Fin 64),
    ((page = none ∧ s.runs ∧ s.fd F.RING_SEL_RING = n.val) ∨ (page = some n ∧ 8 ≤ n.val ∧ s.up ∧ s.groupGranted (n.val / 8) = true)) →
    (s.ring n).st ≠ .disabled → (s.ring n).done ≠ (s.ring n).head →
    exec (.ringDisable page) s = .next (s.setRing n { s.ring n with st := .stopping, disableReq := true, waitSlot := false })) ∧
  (∀ (s : State) (page : Option (Fin 64)) (n : Fin 64),
    ((page = none ∧ s.runs ∧ s.fd F.RING_SEL_RING = n.val) ∨ (page = some n ∧ 8 ≤ n.val ∧ s.up ∧ s.groupGranted (n.val / 8) = true)) →
    (s.ring n).st ≠ .disabled → s.inFlight n = [] →
    exec (.ringAbort page) s = .next ((s.setRing n { s.ring n with st := .stopped, disableReq := false, waitSlot := false }).irq n)) ∧
  (∀ (s : State) (page : Option (Fin 64)) (n : Fin 64) (v : BitVec 16),
    ((page = none ∧ s.runs ∧ s.fd F.RING_SEL_RING = n.val) ∨ (page = some n ∧ 8 ≤ n.val ∧ s.up ∧ s.groupGranted (n.val / 8) = true)) →
    ((s.ring n).st ≠ .running ∨ (v.toNat + 65536 - (s.ring n).done) % 65536 ≤ 2 ^ s.ringLog n) →
    exec (.ringTailWrite page v) s = .next (s.setRing n { s.ring n with tail := v.toNat })) ∧
  (∀ (s : State) (page : Option (Fin 64)) (n : Fin 64) (v : BitVec 16),
    ((page = none ∧ s.runs ∧ s.fd F.RING_SEL_RING = n.val) ∨ (page = some n ∧ 8 ≤ n.val ∧ s.up ∧ s.groupGranted (n.val / 8) = true)) →
    (s.ring n).st = .running → 2 ^ s.ringLog n < (v.toNat + 65536 - (s.ring n).done) % 65536 → (s.ring n).done ≠ (s.ring n).head →
    exec (.ringTailWrite page v) s = .next ((s.raise .HST_RING_OVERRUN).setRing n
      { s.ring n with tail := v.toNat, st := .stopping, stopCode := FaultCode.num .HST_RING_OVERRUN, waitSlot := false })) ∧
  (∀ (s : State) (n : Fin 64) (c : Option (Fin 64) → Instr), c ∈ [Instr.ringEnable, .ringDisable, .ringAbort, .ringReset] →
    n.val < 8 → exec (c (some n)) s = .next s) ∧
  (∀ (s : State) (n : Fin 64) (c : Option (Fin 64) → Instr), c ∈ [Instr.ringEnable, .ringDisable, .ringAbort, .ringReset] →
    8 ≤ n.val → s.up → s.groupGranted (n.val / 8) = false → exec (c (some n)) s = .next (s.raise .HST_UNGRANTED))

/-- R461, R463, R465, R466, R468 to R470: a ring that may fetch takes the descriptor that host memory answers, and HEAD advances; an invalid one ends
with DESC_INVALID and its fault. With at most 16 operations unfinished, the oldest waiting operation of a ring takes a channel and starts: COPY,
FILL and COMPARE wait for bursts; NOTIFY writes PARAM; LACE_PUSH binds its scope to the ring; PTP_SEND sends its frame. A PTP_RECV, which
takes no channel, waits for its frame, and a FENCE alone in its ring ends.
Where the rules leave a point open, these clauses are the model's choice: assumption log 54. -/
def Obligations.RingOperationsStart : Prop :=
  (∀ (s : State) (n : Fin 64) (host : List (List Byte)), s.up → s.cyc = [] → s.mayFetch n = false → exec (.descFetch n host) s = .next s) ∧
  (∀ (s : State) (n : Fin 64) (d : List Byte) (o : DmaOp), s.up → s.cyc = [] → s.mayFetch n = true → s.fb F.RING_CFG_LOC n = false → d.length = 64 →
    flagOf d 1 = false → nextOf d = 0 → s.elemOk (n.val / 8) (opcodeOf d) true d = true → s.opAllowed (n.val / 8) (opcodeOf d) = true →
    o = ⟨n.val, (s.ring n).head, d, [d], none, false, 0, 0, 0, 0, none, false, (0, 0, 0), 0, false, none, none, false⟩ →
    ∃ t, exec (.descFetch n [d]) s = .next t ∧ t.ring n = { s.ring n with head := ((s.ring n).head + 1) % 65536, waitSlot := false } ∧
      t.dma.ops = s.dma.ops ++ [o] ∧ t = { s with dma := t.dma, cyc := t.cyc }) ∧
  (∀ (s : State) (n : Fin 64) (d : List Byte), s.up → s.cyc = [] → s.mayFetch n = true → s.fb F.RING_CFG_LOC n = false → d.length = 64 →
    flagOf d 1 = false → nextOf d = 0 → s.elemOk (n.val / 8) (opcodeOf d) true d = false → s.dma.ops = [] →
    ∃ t, exec (.descFetch n [d]) s = .next t ∧ t.ring n = { s.ring n with head := ((s.ring n).head + 1) % 65536, waitSlot := false } ∧
      t.dma.ops.map (·.result) = [some (2, FaultCode.num .HST_DESC_INVALID)] ∧ t.fault = (s.raise .HST_DESC_INVALID).fault ∧
      t = { s.raise .HST_DESC_INVALID with dma := t.dma, cyc := t.cyc }) ∧
  (∀ (s : State) (n : Fin 64) (o : DmaOp) (c : Fin 64 → Instr) (op : Nat), (c, op) ∈ [(Instr.copy, 0x01), (.fill, 0x02), (.compare, 0x03)] →
    s.waiting n = some o → opcodeOf o.head = op → (s.dma.ops.filter (fun o => o.result.isNone)).length ≤ 16 →
    ∃ t, exec (c n) s = .next t ∧
      t.dma.ops = s.dma.ops.map (fun p => if p.ring = o.ring ∧ p.count = o.count then { o with started := true, chan := s.freeChannel } else p) ∧
      t.dma.turn = n.val ∧ t = { s with dma := { s.dma with ops := t.dma.ops, turn := t.dma.turn } }) ∧
  (∀ (s : State) (n : Fin 64) (o : DmaOp), s.waiting n = some o → opcodeOf o.head = 0x12 →
    ∃ t, exec (.ptpRecv n) s = .next t ∧
      t.dma.ops = s.dma.ops.map (fun p => if p.ring = o.ring ∧ p.count = o.count then { o with started := true } else p) ∧
      t = { s with dma := { s.dma with ops := t.dma.ops } }) ∧
  (∀ (s : State) (n : Fin 64) (l : List Byte) (r : HostReply) (c : Instr), s.waiting n = none →
    c ∈ [Instr.copy n, .fill n, .compare n, .ptpRecv n, .fence n, .notify n, .lacePush n, .ptpSend n l r] → exec c s = .next s) ∧
  (∀ (s : State) (n : Fin 64) (o : DmaOp), s.waiting n = some o → opcodeOf o.head = 4 → s.inFlight n = [o] → o.poison = false → o.mism = 0 →
    ∃ t, exec (.fence n) s = .next t ∧
      t.dma.ops = s.dma.ops.map (fun p => if p.ring = o.ring ∧ p.count = o.count then { o with started := true, result := some (0, 0) } else p) ∧
      t = { s with dma := { s.dma with ops := t.dma.ops } }) ∧
  (∀ (s : State) (n : Fin 64) (o : DmaOp), s.waiting n = some o → opcodeOf o.head = 5 → s.dma.ops = [o] → o.poison = false →
    o.mism = 0 → flagOf o.head 3 = false → dstOf o.head ≠ 0 →
    ∃ t, exec (.notify n) s = .next t ∧ t.out = .hostWrite (dstOf o.head) (leBytes 8 (paramOf o.head)) :: s.out ∧
      t.dma.ops = [{ o with started := true, result := some (0, 0) }] ∧ t = { s with out := t.out, dma := { s.dma with ops := t.dma.ops, turn := n.val } }) ∧
  (∀ (s : State) (n : Fin 64) (o : DmaOp), s.waiting n = some o → opcodeOf o.head = 0x10 → s.dma.ops = [o] → s.native = true →
    bits (paramOf o.head) 1 0 = 0 → bit (paramOf o.head) 2 = 0 → (s.scope 0).isOpen = true → (s.scope 0).dma = true →
    ((s.scope 0).boundRing = none ∨ (s.scope 0).boundRing = some n.val) →
    ∃ t, exec (.lacePush n) s = .next t ∧ t.scope 0 = { s.scope 0 with boundRing := some n.val } ∧ t.scope 1 = s.scope 1 ∧
      t.dma.ops = [{ o with started := true }] ∧ t = { s with lace := { s.lace with scopes := t.lace.scopes }, dma := { s.dma with ops := t.dma.ops, turn := n.val } }) ∧
  (∀ (s : State) (n : Fin 64) (o : DmaOp), s.waiting n = some o → opcodeOf o.head = 0x10 → s.dma.ops = [o] → s.native = true →
    bits (paramOf o.head) 1 0 = 0 → bit (paramOf o.head) 2 = 0 → ((s.scope 0).isOpen = false ∨ (s.scope 0).dma = false) →
    ∃ t, exec (.lacePush n) s = .next t ∧ t.dma.ops.map (·.result) = [some (3, FaultCode.num .HST_NOT_PERMITTED)] ∧
      t = { s.raise .HST_NOT_PERMITTED with dma := t.dma }) ∧
  (∀ (s : State) (n : Fin 64) (o : DmaOp) (host l : List Byte) (m : Nat), s.waiting n = some o → opcodeOf o.head = 0x11 → s.dma.ops = [o] → s.cyc = [] →
    flagOf o.head 2 = false → lenOf o.head ≤ host.length → m = bits (paramOf o.head) 2 0 → s.linked m = true → s.ptpVlan m = none →
    l = host.take (lenOf o.head) → frameType l = 0x88F7 → s.ptpEvent m l = false →
    ∃ t, exec (.ptpSend n host .ok) s = .next t ∧ t.out = .ptpFrame m l :: s.out ∧
      t.dma.ops = [{ o with started := true, stamp := (0, 0, 0), elems := [], result := some (0, 0) }] ∧
      t = { s with out := t.out, dma := { s.dma with ops := t.dma.ops, turn := n.val } }) ∧
  (∀ (s : State) (n : Fin 64) (o : DmaOp) (host l : List Byte) (m : Nat), s.waiting n = some o → opcodeOf o.head = 0x11 → s.dma.ops = [o] → s.cyc = [] →
    flagOf o.head 2 = false → lenOf o.head ≤ host.length → m = bits (paramOf o.head) 2 0 → s.linked m = true → s.ptpVlan m = none →
    l = host.take (lenOf o.head) → frameType l = 0x88F7 → s.ptpEvent m l = true → s.fb F.NET_PTP_CFG_ONE_STEP m = false →
    ∃ t, exec (.ptpSend n host .ok) s = .next t ∧ t.out = .ptpFrame m l :: s.out ∧
      t.dma.ops = [{ o with started := true, stamp := s.stampAt (s.fd F.NET_PTP_TX_LAT_PS m : Nat), elems := [], result := some (0, 0) }] ∧
      t = { s with out := t.out, dma := { s.dma with ops := t.dma.ops, turn := n.val } })

/-- R457, R458, R463, R464, R467, R474, R475, R478: a burst of a FILL into host memory writes PARAM over its bytes and counts them, the power
budget allowing it; an operation that ends OK at the front of a running ring leaves it with DONE past it, its slot READY with the payload of
Table 13-7; RING_GRANT of an ungranted group sets its enable and mask; unmasking a vector delivers what was pending.
Where the rules leave a point open, these clauses are the model's choice: assumption log 52, 54, 81. -/
def Obligations.BurstsCompletionsAndGrants : Prop :=
  (∀ (s : State) (n : Fin 64) (c : BitVec 16) (x y : List Byte) (o : DmaOp), s.dma.ops = [o] → o.ring = n.val → o.count = c.toNat → o.started = true →
    o.result = none → o.code = 2 → s.elemOk (n.val / 8) 2 (decide (o.nDone = 0)) o.cur = true → lenOf o.cur ≠ 0 → flagOf o.cur 3 = false →
    o.cur ∈ o.elems → s.mayIssue classDma o.chan = true →
    ∃ t, exec (.dmaBurst n c x y .ok) s = .next t ∧ t.out = .hostWrite o.dstAt o.constBytes :: s.out ∧ t.dma.ops = [o.advance o.burstLen] ∧
      t.dma.bytes = (s.dma.bytes + o.burstLen) % 2 ^ 64 ∧
      t = { s with out := t.out, dma := { s.dma with ops := t.dma.ops, bytes := t.dma.bytes }, power := t.power }) ∧
  (∀ (s : State) (n : Fin 64) (c : BitVec 16) (x y : List Byte) (o : DmaOp), s.dma.ops = [o] → o.ring = n.val → o.count = c.toNat → o.started = true →
    o.result = none → o.code = 2 → s.elemOk (n.val / 8) 2 (decide (o.nDone = 0)) o.cur = true → lenOf o.cur ≠ 0 → flagOf o.cur 3 = true →
    o.cur ∈ o.elems → s.hbm.filling = true → s.burstFail (n.val / 8) o.dstAt o.burstLen true = none →
    exec (.dmaBurst n c x y .ok) s = .next s) ∧
  (∀ (s : State) (n : Fin 64) (c : BitVec 16) (x y : List Byte) (r : HostReply) (i : Instr), i ∈ [.dmaBurst n c x y r, .opComplete n c] →
    s.dma.ops = [] → exec i s = .next s) ∧
  (∀ (s : State) (n : Fin 64) (c : BitVec 16) (o : DmaOp), s.dma.ops = [o] → o.ring = n.val → o.count = c.toNat → o.completed = false →
    o.result = some (0, 0) → flagOf o.head 0 = false → (s.ring n).st = .running → (s.ring n).disableReq = false → o.slot = none →
    ∃ t, exec (.opComplete n c) s = .next t ∧ t.dma.ops = [] ∧ t.ring n = { s.ring n with done := (c.toNat + 1) % 65536 } ∧ t = { s with dma := t.dma }) ∧
  (∀ (s : State) (n : Fin 64) (c : BitVec 16) (o : DmaOp) (k : Nat), s.dma.ops = [o] → o.ring = n.val → o.count = c.toNat → o.completed = false →
    o.result = some (0, 0) → flagOf o.head 0 = false → (s.ring n).st = .running → (s.ring n).disableReq = false → k < 256 → o.slot = some k →
    ∃ t, exec (.opComplete n c) s = .next t ∧ (t.slot k).st = .ready ∧ (t.slot k).data = opPayload o ∧
      (t.slot k).seq = (s.slot k).seq ∧ t.dma.ops = [] ∧ t.ring n = { s.ring n with done := (c.toNat + 1) % 65536 } ∧ t = { s with dma := t.dma }) ∧
  (∀ (s : State) (n : Fin 64) (c : BitVec 16) (o : DmaOp) (r f : Nat), s.dma.ops = [o] → o.ring = n.val → o.count = c.toNat → o.completed = false →
    o.result = some (r, f) → 2 ≤ r → r ≤ 6 → flagOf o.head 0 = false → (s.ring n).st = .running → (s.ring n).disableReq = false → o.slot = none →
    (c.toNat + 1) % 65536 ≠ (s.ring n).head →
    ∃ t, exec (.opComplete n c) s = .next t ∧ t.dma.ops = [] ∧
      t.ring n = { s.ring n with done := (c.toNat + 1) % 65536, st := .stopping, stopCode := f, waitSlot := false } ∧ t = { s with dma := t.dma }) ∧
  (∀ (s : State) (v : BitVec 32) (g : Nat), s.runs → g = max 1 (s.fd F.RING_GRANT_SEL_GROUP) → s.fb F.RING_GRANT_ENABLE g = false →
    exec (.ringGrantWrite v) s = .next ((s.setFd F.RING_GRANT_ENABLE (bit v.toNat 0) g).setFd F.RING_GRANT_OPMASK (bits v.toNat 15 8) g)) ∧
  (∀ (s : State) (v : BitVec 32) (g : Nat), s.runs → g = max 1 (s.fd F.RING_GRANT_SEL_GROUP) → s.fb F.RING_GRANT_ENABLE g = true → bit v.toNat 0 = 1 →
    bits v.toNat 15 8 ≠ s.fd F.RING_GRANT_OPMASK g → exec (.ringGrantWrite v) s = .next (s.raise .HST_RING_BUSY)) ∧
  (∀ (s : State) (v : Fin 128), s.up → s.dma.pend[v] = true →
    exec (.msixUnmask v) s = .next (({ s with dma := { s.dma with
      masked := s.dma.masked.set v false, pend := s.dma.pend.set v false } } : State).emit (.msix 0 v.val))) ∧
  (∀ (s : State) (v : Fin 128), s.up → s.dma.pend[v] = false →
    exec (.msixUnmask v) s = .next { s with dma := { s.dma with masked := s.dma.masked.set v false } })

/-- R477: a write to RELEASE of a slot, through BAR0 or through a granted page, frees it only when it is READY and the value is its SEQ: the slot's words then read 0,
the SEQ kept; any other write changes nothing and raises HST_SLOT_RELEASE. -/
def Obligations.ReleaseFreesOnlyTheReadySlot : Prop :=
  (∀ (s : State) (page : Option (Fin 64)) (k : Fin 32) (v : BitVec 32) (n : Nat),
    ((page = none ∧ s.runs ∧ n = s.fd F.RING_SLOT_SEL_SLOT) ∨
      (∃ p : Fin 64, page = some p ∧ 8 ≤ p.val ∧ s.up ∧ s.groupGranted (p.val / 8) = true ∧ n = 32 * (p.val / 8) + k.val)) → n < 256 →
    (s.slot n).st = .ready → v.toNat = (s.slot n).seq →
    ∃ t, exec (.slotRelease page k v) s = .next t ∧ (t.slot n).st = .free ∧ (t.slot n).seq = (s.slot n).seq ∧
      (∀ w, w < 12 → t.slotWord n (16 + 4 * w) = 0) ∧ (∀ m, m < 256 → m ≠ n → t.slot m = s.slot m) ∧
      t = { s with dma := { s.dma with slots := t.dma.slots } }) ∧
  (∀ (s : State) (page : Option (Fin 64)) (k : Fin 32) (v : BitVec 32) (n : Nat),
    ((page = none ∧ s.runs ∧ n = s.fd F.RING_SLOT_SEL_SLOT) ∨
      (∃ p : Fin 64, page = some p ∧ 8 ≤ p.val ∧ s.up ∧ s.groupGranted (p.val / 8) = true ∧ n = 32 * (p.val / 8) + k.val)) → n < 256 →
    ((s.slot n).st ≠ .ready ∨ v.toNat ≠ (s.slot n).seq) → exec (.slotRelease page k v) s = .next (s.raise .HST_SLOT_RELEASE))

/-- R10, R12, R455, R456, R556, R603, R605, R606, R614: before READY a write to BAR0 is refused; one that is not a whole aligned word is refused with
HST_ACCESS and one to no register with GLB_UNMAPPED, each counted and logged. A plain register takes the RW bits, clears the W1C bits written with 1 and
keeps the others, its crossings being open; its locked bits stay as they are, and GLB_LOCKED_WRITE is raised where a write would change one. In DORMANT the write is
held and wakes the device. The pages of BAR2 refuse in the same way what is not granted, and the windows what is not a whole word.
Where the rules leave a point open, these clauses are the model's choice: assumption log 5, 55, 57, 72. -/
def Obligations.RegisterWrites : Prop :=
  (∀ (s : State) (off v : BitVec 32) (whole : Bool), s.glob.ready = false →
    exec (.regWrite .bar0 off v whole) s = .next ((s.refused off.toNat 4).raise .RST_NOT_READY)) ∧
  (∀ (s : State) (off v : BitVec 32) (whole : Bool) (sp : Space), sp ≠ .bar0 → s.glob.ready = false →
    exec (.regWrite sp off v whole) s = .next s) ∧
  (∀ (s : State) (off v : BitVec 32) (whole : Bool), s.glob.ready = true → (whole = false ∨ off.toNat % 4 ≠ 0) →
    exec (.regWrite .bar0 off v whole) s = .next ((s.refused off.toNat 3).raise .HST_ACCESS)) ∧
  (∀ (s : State) (off v : BitVec 32) (whole : Bool), s.glob.ready = true → (whole = false ∨ off.toNat % 4 ≠ 0) → off.toNat < 0x400000 →
    exec (.regWrite .bar2 off v whole) s = .next (s.raise .HST_ACCESS)) ∧
  (∀ (s : State) (off v : BitVec 32) (whole : Bool) (j : Fin 4), s.glob.ready = true → (whole = false ∨ off.toNat % 4 ≠ 0) →
    s.hasPers j.val = true → off.toNat < 0x10000 → exec (.regWrite (.window j) off v whole) s = .next (s.raise .HST_ACCESS)) ∧
  (∀ (s : State) (off v : BitVec 32), s.up → off.toNat % 4 = 0 → Reg.at? off.toNat = none → msixOffset off.toNat = false →
    exec (.regWrite .bar0 off v true) s = .next ((s.refused off.toNat 2).raise .GLB_UNMAPPED)) ∧
  (∀ (s : State) (off v : BitVec 32), s.up → off.toNat % 4 = 0 → Reg.at? off.toNat = none → 0x01F01000 ≤ off.toNat → msixOffset off.toNat = true →
    exec (.regWrite .bar0 off v true) s = .next s) ∧
  (∀ (s : State) (off v : BitVec 32) (n : Nat), s.up → n < 128 → off.toNat = 0x01F00000 + 16 * n + 8 →
    exec (.regWrite .bar0 off v true) s = .next { s with dma := { s.dma with msixData := Sparse.set 0 s.dma.msixData n v.toNat } }) ∧
  (∀ (s : State) (off v : BitVec 32) (r : Reg) (w : Nat), s.up → off.toNat % 4 = 0 → Reg.at? off.toNat = some (r, w) → commandOf r v = none →
    s.regAbsent r = true → exec (.regWrite .bar0 off v true) s = .next s) ∧
  (∀ (s : State) (off v : BitVec 32) (r : Reg) (w : Nat) (c : FaultCode), s.up → off.toNat % 4 = 0 → Reg.at? off.toNat = some (r, w) →
    commandOf r v = none → s.regAbsent r = false → lockMask s.str.locks r = 0 → s.writeFault r = some c →
    ∃ t, exec (.regWrite .bar0 off v true) s = .next t ∧ t = { s.raise c with cyc := t.cyc }) ∧
  (∀ (s : State) (off v : BitVec 32) (r : Reg) (w : Nat), s.up → s.cyc = [] → off.toNat % 4 = 0 → Reg.at? off.toNat = some (r, w) →
    (∀ i, i < 24 → islandBlock i = some (r.offset / 0x10000) → (s.wordXing i).isOpen = true) →
    commandOf r v = none → s.regAbsent r = false → lockMask s.str.locks r = 0 → s.writeFault r = none → s.writeView r = false →
    effectOf r (s.inst r w) v = none →
    ∃ t, exec (.regWrite .bar0 off v true) s = .next t ∧
      t.regs = (s.setRg r (((s.rg r (s.inst r w) &&& ~~~r.rwMask) ||| (v &&& r.rwMask)) &&& ~~~(v &&& r.w1cMask)) (s.inst r w)).regs ∧
      t = { s with regs := t.regs, clock := t.clock, cyc := t.cyc }) ∧
  (∀ (s : State) (off v : BitVec 32) (r : Reg) (w : Nat) (m : Word), s.up → s.cyc = [] → off.toNat % 4 = 0 → Reg.at? off.toNat = some (r, w) →
    (∀ i, i < 24 → islandBlock i = some (r.offset / 0x10000) → (s.wordXing i).isOpen = true) →
    commandOf r v = none → s.regAbsent r = false → m = lockMask s.str.locks r → r ≠ .GLOBAL_ACCESS_LOG → r ≠ .GLOBAL_ACCESS_COUNT →
    s.writeFault r = none → s.writeView r = false → effectOf r (s.inst r w) ((v &&& ~~~m) ||| (s.readReg r w &&& m)) = none →
    (v ^^^ s.readReg r w) &&& m = 0 →
    ∃ t, exec (.regWrite .bar0 off v true) s = .next t ∧
      t.rg r (s.inst r w) = r.written (s.rg r (s.inst r w)) ((v &&& ~~~m) ||| (s.readReg r w &&& m)) ∧
      t = { s with regs := t.regs, clock := t.clock, cyc := t.cyc }) ∧
  (∀ (s : State) (off v : BitVec 32) (r : Reg) (w : Nat) (m : Word), s.up → s.cyc = [] → off.toNat % 4 = 0 → Reg.at? off.toNat = some (r, w) →
    (∀ i, i < 24 → islandBlock i = some (r.offset / 0x10000) → (s.wordXing i).isOpen = true) →
    commandOf r v = none → s.regAbsent r = false → m = lockMask s.str.locks r → r ≠ .GLOBAL_ACCESS_LOG → r ≠ .GLOBAL_ACCESS_COUNT →
    s.writeFault r = none → s.writeView r = false → effectOf r (s.inst r w) ((v &&& ~~~m) ||| (s.readReg r w &&& m)) = none →
    (v ^^^ s.readReg r w) &&& m ≠ 0 → s.fb F.GLOBAL_ACCESS_LOG_VALID = false →
    ∃ t, exec (.regWrite .bar0 off v true) s = .next t ∧
      t.rg r (s.inst r w) = r.written (s.rg r (s.inst r w)) ((v &&& ~~~m) ||| (s.readReg r w &&& m)) ∧
      t.fault = (s.raise .GLB_LOCKED_WRITE).fault ∧ t.fb F.GLOBAL_ACCESS_LOG_VALID = true ∧ t.fd F.GLOBAL_ACCESS_LOG_KIND = 1 ∧
      t = { s.raise .GLB_LOCKED_WRITE with regs := t.regs, clock := t.clock, cyc := t.cyc }) ∧
  (∀ (s : State) (off v : BitVec 32) (r : Reg) (w : Nat), s.glob.ready = true → s.power.state = .dormant → off.toNat % 4 = 0 →
    Reg.at? off.toNat = some (r, w) → cmdWake r v = false →
    exec (.regWrite .bar0 off v true) s = .next (({ s with power := { s.power with held := s.power.held ++ [(r.off w, v)] } } : State).wake 1)) ∧
  (∀ (s : State) (off v : BitVec 32), s.up → off.toNat % 4 = 0 → off.toNat < 8 * 65536 → exec (.regWrite .bar2 off v true) s = .next s) ∧
  (∀ (s : State) (off v : BitVec 32), s.up → off.toNat < 0x400000 → off.toNat % 4 = 0 → 8 * 65536 ≤ off.toNat →
    s.groupGranted (off.toNat / 65536 / 8) = false → exec (.regWrite .bar2 off v true) s = .next (s.raise .HST_UNGRANTED))

/-- R606: a write of a command's value to its command register, in any state, is that command: the write and the command's row have one
effect, refused, held and absent writes with them; only the notes of the present cycle, which also keep the write, differ.
Where the rules leave a point open, these clauses are the model's choice: assumption log 57. -/
def Obligations.CommandRegistersAct : Prop :=
  (∀ (r : Reg) (v : Nat) (c : Instr) (s : State), (r, v, c) ∈ [
      (Reg.PLAN_STRIPE_CMD, 1, Instr.arm), (.PLAN_STRIPE_CMD, 2, .disarm), (.PLAN_STRIPE_CMD, 3, .start), (.PLAN_STRIPE_CMD, 4, .abort),
      (.PLAN_STRIPE_CMD, 5, .release), (.PLAN_SCAN_CMD, 1, .electrical), (.PLAN_SCAN_CMD, 2, .gate), (.PLAN_SCAN_CMD, 3, .scanAbort),
      (.PRICK_CMD, 1, .verify), (.PRICK_CMD, 2, .load), (.HBM_CMD, 1, .remap), (.HBM_SCRUB_CMD, 1, .scrubStart),
      (.HBM_SCRUB_CMD, 2, .scrubAbort), (.HBM_INJECT_CMD, 0, .injectDisarm), (.LACE_CMD, 1, .laceOpen), (.LACE_CMD, 2, .laceClose),
      (.LACE_LIB_CMD, 1, .register), (.LACE_LIB_CMD, 2, .unregister), (.LANE_CMD, 1, .retrain), (.LANE_CMD, 2, .eyeCal),
      (.LANE_CMD, 3, .txSleep), (.LANE_CMD, 4, .txWake), (.LANE_CMD, 5, .rxSleep), (.LANE_CMD, 6, .rxWake),
      (.STAGE_MET_CMD, 1, .metCal), (.STAGE_CMP_CMD, 1, .cmpArm), (.STAGE_CMP_CMD, 2, .cmpDisarm), (.STAGE_MOVE_CMD, 1, .move),
      (.STAGE_MOVE_CMD, 2, .stop), (.TRACK_BANK_CMD, 1, .swap), (.TRACK_REP_CMD, 1, .clear), (.TIME_CMD, 1, .latch), (.TIME_CMD, 2, .set),
      (.TIME_SERVO_CMD, 1, .apply), (.TIME_SERVO_CMD, 3, .force), (.TIME_SERVO_CMD, 4, .restart), (.TIME_TRIG_CMD, 1, .trigArm),
      (.TIME_TRIG_CMD, 2, .trigDisarm), (.CHECK_CMD, 1, .compute), (.CHECK_CMD, 2, .append), (.CHECK_CMD, 3, .strip),
      (.CHECK_CMD, 4, .checkCompare), (.CHECK_CMD, 7, .checkAbort), (.POWER_CMD, 1, .enterHush), (.POWER_CMD, 2, .enterDormant false),
      (.POWER_CMD, 3, .wake), (.SNAP_CMD, 1, .snapRimshot), (.SNAP_CMD, 2, .snapRelease), (.GLOBAL_FLASH_CMD, 1, .read),
      (.GLOBAL_FLASH_CMD, 2, .program), (.GLOBAL_FLASH_CMD, 3, .erase4k), (.GLOBAL_FLASH_CMD, 4, .erase64k), (.CARIL_DAMP_STATUS, 2, .latchClear),
      (.RING_CMD, 1, .ringEnable none), (.RING_CMD, 2, .ringDisable none), (.RING_CMD, 3, .ringAbort none), (.RING_CMD, 4, .ringReset none)] →
    s.regAbsent r = false → lockMask s.str.locks r = 0 →
    ∃ t u, exec (.regWrite .bar0 (BitVec.ofNat 32 r.offset) (BitVec.ofNat 32 v) true) s = .next t ∧ exec c s = .next u ∧ t = { u with cyc := t.cyc }) ∧
  (∀ (s : State) (key : BitVec 8), s.regAbsent .GLOBAL_RESET_CMD = false → lockMask s.str.locks .GLOBAL_RESET_CMD = 0 →
    ∃ t u, exec (.regWrite .bar0 (BitVec.ofNat 32 (Reg.offset .GLOBAL_RESET_CMD)) (BitVec.ofNat 32 (1 + 256 * key.toNat)) true) s = .next t ∧
      exec (.warm key) s = .next u ∧ t = { u with cyc := t.cyc }) ∧
  (∀ (s : State) (key : BitVec 8), s.regAbsent .GLOBAL_RESET_CMD = false → lockMask s.str.locks .GLOBAL_RESET_CMD = 0 →
    ∃ t u, exec (.regWrite .bar0 (BitVec.ofNat 32 (Reg.offset .GLOBAL_RESET_CMD)) (BitVec.ofNat 32 (2 + 256 * key.toNat)) true) s = .next t ∧
      exec (.cold key false false) s = .next u ∧ t = { u with cyc := t.cyc })

/-- R500, R501, R502, R499: a request for HUSH in RUN by command starts the entry when no condition of Table 15-3 fails, and is otherwise
refused with the lowest refuser recorded; the idle timer asks only while none fails. A request for DORMANT does so in HUSH, and in RUN asks
for HUSH first. At the end of the entry to HUSH the staged values are active and every TX sleeps; at the end of the entry to DORMANT every lane
sleeps, DRAM refreshes itself, and what lies in OFF islands is lost.
Where the rules leave a point open, these clauses are the model's choice: assumption log 34, 59, 78. -/
def Obligations.PowerEntries : Prop :=
  (∀ (s : State) (c : Instr) (d smb : Bool), s.runs → s.cyc = [] → lowestFail s.hushConds = none →
    ((c = .enterHush ∧ d = false) ∨ (c = .enterDormant smb ∧ d = true) ∨ (c = .hushIdleTimer ∧ d = false ∧ s.hushExpired = true)) →
    ∃ t, exec c s = .next t ∧ t = { s with power := { s.power with transit := .enterHush, thenDormant := d }, cyc := t.cyc }) ∧
  (∀ (s : State) (id : Nat) (c : Instr) (smb : Bool), s.runs → lowestFail s.hushConds = some id → (c = .enterHush ∨ c = .enterDormant smb) →
    exec c s = .next (((s.bump F.POWER_REFUSE_COUNT_COUNT).setFd F.POWER_LAST_REFUSAL_REFUSER id).setFd F.POWER_LAST_REFUSAL_TARGET 1)) ∧
  (∀ (s : State) (smb : Bool) (c : Instr), s.glob.ready = true → s.power.state = .hush → s.power.transit = .none → s.cyc = [] →
    lowestFail (s.hushConds ++ s.dormantConds smb) = none →
    (c = .enterDormant smb ∨ (c = .dormantIdleTimer smb ∧ s.dormantExpired = true ∧ lowestFail (s.hushConds ++ s.dormantConds false) = none)) →
    ∃ t, exec c s = .next t ∧ t = { s with power := { s.power with transit := .enterDormant }, cyc := t.cyc }) ∧
  (∀ (s : State) (smb : Bool) (c : Instr) (id : Nat), s.glob.ready = true → s.power.state = .hush → s.power.transit = .none →
    lowestFail (s.hushConds ++ s.dormantConds smb) = some id →
    (c = .enterDormant smb ∨ (c = .dormantIdleTimer smb ∧ s.dormantExpired = true ∧ lowestFail (s.hushConds ++ s.dormantConds false) = none)) →
    exec c s = .next (((s.bump F.POWER_REFUSE_COUNT_COUNT).setFd F.POWER_LAST_REFUSAL_REFUSER id).setFd F.POWER_LAST_REFUSAL_TARGET 2)) ∧
  (∀ (s : State) (smb : Bool) (c : Instr), s.up → s.power.transit ≠ .none → (c = .enterHush ∨ c = .enterDormant smb) → exec c s = .next s) ∧
  (∀ s : State, s.up → (s.hushExpired = false ∨ (lowestFail s.hushConds).isSome = true) → exec .hushIdleTimer s = .next s) ∧
  (∀ (s : State) (smb : Bool), s.up → (s.dormantExpired = false ∨ (lowestFail (s.hushConds ++ s.dormantConds false)).isSome = true) →
    exec (.dormantIdleTimer smb) s = .next s) ∧
  (∀ (s : State) (smb : Bool), s.cyc = [] → (s.power.transit ≠ .enterHush ∨ s.power.railSet.isSome = true) → exec (.hushEntryDone smb) s = .next s) ∧
  (∀ (s : State) (smb : Bool), s.cyc = [] → s.power.transit = .enterHush → s.power.railSet = none → s.power.thenDormant = false →
    ∃ t, exec (.hushEntryDone smb) s = .next t ∧ t.power.state = .hush ∧ t.power.transit = .none ∧ t.power.thenDormant = false ∧
      t.power.txData = s.laneMask (fun l => l.tx == .data) ∧ (∀ n, n < 18 → (t.lane n).tx = .sleep ∧ (t.lane n).wire = none) ∧
      t = { applyStaged s with
        caril := t.caril
        power := { s.power with
          state := .hush, transit := .none, thenDormant := false, txData := t.power.txData, hushNs := 0, dormNs := 0 } }) ∧
  (∀ (s u : State) (smb : Bool), s.cyc = [] → s.power.transit = .enterHush → s.power.railSet = none → s.power.thenDormant = true →
    exec (.hushEntryDone smb) { s with power := { s.power with thenDormant := false } } = .next u →
    lowestFail (u.hushConds ++ u.dormantConds smb) = none →
    ∃ t, exec (.hushEntryDone smb) s = .next t ∧ t = { u with power := { u.power with transit := .enterDormant }, cyc := t.cyc }) ∧
  (∀ (s u : State) (smb : Bool) (id : Nat), s.cyc = [] → s.power.transit = .enterHush → s.power.railSet = none → s.power.thenDormant = true →
    exec (.hushEntryDone smb) { s with power := { s.power with thenDormant := false } } = .next u →
    lowestFail (u.hushConds ++ u.dormantConds smb) = some id →
    exec (.hushEntryDone smb) s =
      .next (((u.bump F.POWER_REFUSE_COUNT_COUNT).setFd F.POWER_LAST_REFUSAL_REFUSER id).setFd F.POWER_LAST_REFUSAL_TARGET 2)) ∧
  (∀ s : State, s.cyc = [] → s.power.transit ≠ .enterDormant → exec .dormantEntryDone s = .next s) ∧
  (∀ s : State, s.cyc = [] → s.power.transit = .enterDormant → (∀ k, k < 4 → s.fb F.TIME_TRIG_STATUS_ARMED k = false) →
    ∃ t, exec .dormantEntryDone s = .next t ∧ t.power.state = .dormant ∧ t.power.transit = .none ∧ t.timeValid = false ∧
      t.power.rxAwake = s.laneMask (fun l => l.rx != .sleep) ∧ t.power.txData = s.power.txData ∧
      t.fault = (s.losesPower.foldl (fun u _ => u.raise .CLK_PEER_RESET) s).fault ∧
      (∀ n, n < 18 → (t.lane n).tx = .sleep ∧ (t.lane n).rx = .sleep ∧ (t.lane n).wire = none) ∧
      t = { s with
        regs := t.regs, time := t.time, stage := t.stage, caril := t.caril, clock := t.clock, cad := CadSt.reset, fault := t.fault
        power := { s.power with state := .dormant, transit := .none, rxAwake := t.power.rxAwake, hushNs := 0, dormNs := 0 }
        bob := { s.bob with cache := [] }, net := { s.net with link := 0 }, hbm := { s.hbm with selfRefresh := true } })

/-- R503 to R506, R499: an enabled wake event is latched in POWER_WAKE_STATUS. In RUN it does no more; in HUSH sources 0 and 2 start the exit, in
DORMANT every one does; an entry is aborted before its point of no return and counted, to HUSH by sources 0 and 2 alone. At the end of the exit the device is
in RUN, and a held write is performed as a write in RUN is.
Where the rules leave a point open, these clauses are the model's choice: assumption log 57, 58. -/
def Obligations.WakesAndExits : Prop :=
  (∀ s : State, s.runs → exec .wake s = .next s.cmdSeen) ∧
  (∀ s : State, s.glob.ready = true → s.power.transit = .none → s.power.state = .hush →
    ∃ t, exec .wake s = .next t ∧ t = { s.cmdSeen with
      power := { s.power with held := s.power.held ++ [(Reg.off .POWER_CMD, 3#32)], transit := .exitHush } }) ∧
  (∀ s : State, s.glob.ready = true → s.power.transit = .none → s.power.state = .dormant →
    ∃ t, exec .wake s = .next t ∧ t = { s.setRg .POWER_WAKE_STATUS (s.rg .POWER_WAKE_STATUS ||| 3#32) with
      power := { s.power with held := s.power.held ++ [(Reg.off .POWER_CMD, 3#32)], transit := .exitDormant }, cyc := t.cyc }) ∧
  (∀ (s : State) (src : Fin 8), (s.wakeOn src.val = false ∨ (src.val = 1 ∧ s.power.state ≠ .dormant)) → exec (.wakeEvent src) s = .next s) ∧
  (∀ (s : State) (src : Fin 8), s.wakeOn src.val = true → src.val ≠ 1 → s.power.transit = .none →
    (s.power.state = .run ∨ (s.power.state = .hush ∧ src.val ≠ 0 ∧ src.val ≠ 2)) →
    ∃ t, exec (.wakeEvent src) s = .next t ∧
      t = { s.setRg .POWER_WAKE_STATUS (s.rg .POWER_WAKE_STATUS ||| BitVec.ofNat 32 (2 ^ src.val)) with cyc := t.cyc }) ∧
  (∀ (s : State) (src : Fin 8), s.wakeOn src.val = true → (src.val = 0 ∨ src.val = 2) → s.power.transit = .none → s.power.state = .hush →
    ∃ t, exec (.wakeEvent src) s = .next t ∧
      t = { s.setRg .POWER_WAKE_STATUS (s.rg .POWER_WAKE_STATUS ||| BitVec.ofNat 32 (2 ^ src.val)) with
        power := { s.power with transit := .exitHush }, cyc := t.cyc }) ∧
  (∀ (s : State) (src : Fin 8), s.wakeOn src.val = true → s.power.transit = .none → s.power.state = .dormant →
    ∃ t, exec (.wakeEvent src) s = .next t ∧
      t = { s.setRg .POWER_WAKE_STATUS (s.rg .POWER_WAKE_STATUS ||| BitVec.ofNat 32 (2 ^ src.val)) with
        power := { s.power with transit := .exitDormant }, cyc := t.cyc }) ∧
  (∀ (s : State) (src : Fin 8), s.wakeOn src.val = true → s.power.transit = .enterHush → src.val ≠ 0 → src.val ≠ 1 → src.val ≠ 2 →
    ∃ t, exec (.wakeEvent src) s = .next t ∧
      t = { s.setRg .POWER_WAKE_STATUS (s.rg .POWER_WAKE_STATUS ||| BitVec.ofNat 32 (2 ^ src.val)) with cyc := t.cyc }) ∧
  (∀ (s l : State) (src : Fin 8), s.wakeOn src.val = true → s.power.transit = .enterHush → (src.val = 0 ∨ src.val = 2) →
    l = s.setRg .POWER_WAKE_STATUS (s.rg .POWER_WAKE_STATUS ||| BitVec.ofNat 32 (2 ^ src.val)) →
    ∃ t, exec (.wakeEvent src) s = .next t ∧
      t = { (((l.bump F.POWER_ABORT_COUNT_COUNT).setFd F.POWER_LAST_REFUSAL_REFUSER 14).setFd F.POWER_LAST_REFUSAL_TARGET 1).setFd
          F.POWER_LAST_REFUSAL_WAKE_SRC (2 ^ src.val) with power := { l.power with transit := .none, thenDormant := false }, cyc := t.cyc }) ∧
  (∀ (s l : State) (src : Fin 8), s.wakeOn src.val = true → s.power.transit = .enterDormant → src.val ≠ 1 →
    l = s.setRg .POWER_WAKE_STATUS (s.rg .POWER_WAKE_STATUS ||| BitVec.ofNat 32 (2 ^ src.val)) →
    ∃ t, exec (.wakeEvent src) s = .next t ∧
      t = { (((l.bump F.POWER_ABORT_COUNT_COUNT).setFd F.POWER_LAST_REFUSAL_REFUSER 14).setFd F.POWER_LAST_REFUSAL_TARGET 2).setFd
          F.POWER_LAST_REFUSAL_WAKE_SRC (2 ^ src.val) with
        power := { l.power with transit := if src.val = 0 ∨ src.val = 2 then .exitHush else .none, thenDormant := false }, cyc := t.cyc }) ∧
  (∀ s : State, s.power.transit ≠ .exitHush → s.power.transit ≠ .exitDormant → exec .exitDone s = .next s) ∧
  (∀ s : State, s.glob.ready = true → s.power.held = [] → s.power.transit = .exitHush →
    ∃ t, exec .exitDone s = .next t ∧ (∀ n, n < 18 → bit s.power.txData n = 1 → (t.lane n).tx = .data) ∧
      (∀ n, n < 18 → bit s.power.txData n ≠ 1 → t.lane n = s.lane n) ∧
      t = { s with caril := t.caril, out := t.out, power := { s.power with state := .run, transit := .none, hushNs := 0 } }) ∧
  (∀ s : State, s.glob.ready = true → s.power.held = [] → s.power.transit = .exitDormant →
    ∃ t, exec .exitDone s = .next t ∧
      (∀ n, n < 18 → bit s.power.txData n = 1 → (s.lane n).tx = .sleep → (t.lane n).tx = .waking ∧ (t.lane n).txWakeAt = s.now) ∧
      (∀ n, n < 18 → bit s.power.rxAwake n = 1 → (s.lane n).rx = .sleep → (t.lane n).rx = .acquire) ∧
      t = { (s.setFd F.HBM_STATUS_RATE0 2).setFd F.HBM_STATUS_RATE1 2 with
        caril := t.caril, hbm := { s.hbm with selfRefresh := false, tempSeen := Vector.replicate 2 false }
        stage := { s.stage with epoch := s.now }, power := { s.power with state := .run, transit := .none, hushNs := 0 } }) ∧
  (∀ (s u : State) (off v : BitVec 32) (r : Reg) (w : Nat), s.glob.ready = true → (s.power.transit = .exitHush ∨ s.power.transit = .exitDormant) →
    s.power.held = [(off.toNat, v)] → off.toNat % 4 = 0 → Reg.at? off.toNat = some (r, w) → cmdWake r v = false → s.cmdAbsent r = false →
    exec .exitDone { s with power := { s.power with held := [] } } = .next u → exec .exitDone s = exec (.regWrite .bar0 off v true) u)

/-- R512 to R515: the arbiter grants no class more than its demand and all of them no more than the cap leaves after the fixed share, raising
PWR_CAP_EXCEEDED where the cap lies below it, reports both, and counts a window for each class that got less; a new window begins with nothing
issued in it. The first readings give the rail, or PMBUS_FAIL; a reading before SETTLE_US is over does nothing,
one within 10 mV of the target ends the change, another repeats up to five readings, and then PMBUS_FAIL is set until it is
cleared by a write.
Where the rules leave a point open, these clauses are the model's choice: assumption log 20, 59, 60, 81. -/
def Obligations.BudgetAndPmbus : Prop :=
  (∀ (s : State) (f d0 d1 d2 d3 : BitVec 16), s.up → s.bob.live = [] →
    ∃ t, exec (.arbiterWindow f d0 d1 d2 d3) s = .next t ∧
      t.power.grants[0] ≤ d0.toNat ∧ t.power.grants[1] ≤ d1.toNat ∧ t.power.grants[2] ≤ d2.toNat ∧ t.power.grants[3] ≤ d3.toNat ∧
      t.power.grants[0] + t.power.grants[1] + t.power.grants[2] + t.power.grants[3] ≤ s.capA - f.toNat ∧
      t.power.grants.toList = arbitrate s.capA f.toNat s.str.prio [d0.toNat, d1.toNat, d2.toNat, d3.toNat] ∧
      t.power.demand = #v[d0.toNat, d1.toNat, d2.toNat, d3.toNat] ∧ t.power.windows = s.power.windows + 1 ∧ t.power.spent = [] ∧
      t.fd F.POWER_EST_FIXED = min 2047 f.toNat ∧
      t.fd F.POWER_EST_GRANTED = min 2047 (t.power.grants[0] + t.power.grants[1] + t.power.grants[2] + t.power.grants[3]) ∧
      (t.power.grants[0] = d0.toNat → t.fd F.POWER_THROTTLE_COUNT_COUNT 0 = s.fd F.POWER_THROTTLE_COUNT_COUNT 0) ∧
      (t.power.grants[0] < d0.toNat →
        t.fd F.POWER_THROTTLE_COUNT_COUNT 0 = (s.bump F.POWER_THROTTLE_COUNT_COUNT 1 0).fd F.POWER_THROTTLE_COUNT_COUNT 0) ∧
      t.fault = (s.raiseIf (decide (s.capA < f.toNat)) .PWR_CAP_EXCEEDED).fault ∧
      t = { s with regs := t.regs, fault := t.fault, power := t.power, out := t.out, dma := t.dma }) ∧
  (∀ (s : State) (m : BitVec 8) (v : BitVec 16), s.up → s.power.railSet = none → s.power.voutMode = none → m.toNat / 32 = 0 →
    exec (.pmbusReadback (some m) (some v)) s = .next { s with power := { s.power with
      voutMode := some m.toNat, railMv := (linear16Mv m.toNat v.toNat).floor.toNat } }) ∧
  (∀ (s : State) (v : Option (BitVec 16)), s.up → s.power.railSet = none → s.power.voutMode = none →
    ∃ t, exec (.pmbusReadback none v) s = .next t ∧ t.fb F.POWER_STATE_PMBUS_FAIL = true ∧ t.fault = (s.raise .PWR_PMBUS_FAIL).fault ∧
      t = { s.raise .PWR_PMBUS_FAIL with regs := t.regs, power := { s.power with points := t.power.points }, cyc := t.cyc }) ∧
  (∀ (s : State) (r : RailSet) (m : Option (BitVec 8)) (v : Option (BitVec 16)), s.up → s.power.railSet = some r →
    s.now < r.since + 1000000 * max 1 (s.fd F.POWER_PMBUS_CFG_SETTLE_US) → exec (.pmbusReadback m v) s = .next s) ∧
  (∀ (s : State) (r : RailSet) (m : Option (BitVec 8)) (v : BitVec 16), s.up → s.power.railSet = some r →
    r.since + 1000000 * max 1 (s.fd F.POWER_PMBUS_CFG_SETTLE_US) ≤ s.now →
    rabs (linear16Mv (s.power.voutMode.getD 0) v.toNat - (r.mv : Rat)) ≤ 10 → r.pillow = none →
    (∀ p, p < 4 → s.pillowServes p = true → s.floorOp p ≤ s.point p) →
    exec (.pmbusReadback m (some v)) s = .next { s with power := { s.power with railSet := none, railMv := r.mv } }) ∧
  (∀ (s : State) (r : RailSet) (m : Option (BitVec 8)) (v : BitVec 16), s.up → s.power.railSet = some r →
    r.since + 1000000 * max 1 (s.fd F.POWER_PMBUS_CFG_SETTLE_US) ≤ s.now →
    ¬ rabs (linear16Mv (s.power.voutMode.getD 0) v.toNat - (r.mv : Rat)) ≤ 10 → r.tries < 4 →
    exec (.pmbusReadback m (some v)) s = .next { s with power := { s.power with
      railSet := some { r with tries := r.tries + 1, since := s.now } } }) ∧
  (∀ (s : State) (r : RailSet) (m : Option (BitVec 8)) (v : BitVec 16), s.up → s.power.railSet = some r →
    r.since + 1000000 * max 1 (s.fd F.POWER_PMBUS_CFG_SETTLE_US) ≤ s.now →
    ¬ rabs (linear16Mv (s.power.voutMode.getD 0) v.toNat - (r.mv : Rat)) ≤ 10 → 4 ≤ r.tries →
    ∃ t, exec (.pmbusReadback m (some v)) s = .next t ∧ t.power.railSet = none ∧ t.fb F.POWER_STATE_PMBUS_FAIL = true ∧
      t.fault = (s.raise .PWR_PMBUS_FAIL).fault ∧ (∀ p, p < 4 → t.point p ≤ s.point p) ∧
      t = { s.raise .PWR_PMBUS_FAIL with regs := t.regs, power := { s.power with railSet := none, points := t.power.points }, cyc := t.cyc }) ∧
  (∀ s : State, s.runs → s.cyc = [] → exec .pmbusFailClear s = .next (s.setFd F.POWER_STATE_PMBUS_FAIL 0))

/-- R486, R494, R495: a PLL that loses lock is counted, its islands go into reset and CLK_PLL_UNLOCK is raised; the clock of an island that is
ON, where it is more than 1 % off its planned frequency, resets the island with CLK_FREQ_ERROR, and within it is only recorded. A clock that has been
correct for 100 µs releases its island. A crossing reopens
once neither of its islands is in reset. While a stripe runs, either fault of islands 3 to 22 damps and the stripe ends as ABORTED.
Where the rules leave a point open, these clauses are the model's choice: assumption log 12, 34, 72. -/
def Obligations.ClocksAndIslands : Prop :=
  (∀ (s : State) (p : Fin 6), s.up → s.plan.state.active = false → s.anyRunning = false →
    ∃ t, exec (.pllUnlock p) s = .next t ∧ t.clock.locked[p] = false ∧
      t.fd F.CLOCK_PLL_STATUS_UNLOCKS p = (s.bump F.CLOCK_PLL_STATUS_UNLOCKS 1 p).fd F.CLOCK_PLL_STATUS_UNLOCKS p ∧
      (∀ i ∈ s.pllIslands p, (t.island i).inReset = true) ∧ (∀ i, i < 24 → i ∉ s.pllIslands p → t.island i = s.island i) ∧
      t = { s with clock := t.clock, regs := t.regs, fault := t.fault, out := t.out, dma := t.dma, bob := t.bob, caril := t.caril }) ∧
  (∀ (s : State) (p : Fin 6), s.up → s.plan.state.active = false → s.anyRunning = false → (∀ i ∈ s.pllIslands p, (s.island i).inReset = true) →
    ∃ t, exec (.pllUnlock p) s = .next t ∧ t.fault = (s.raise .CLK_PLL_UNLOCK).fault ∧
      t = { s.raise .CLK_PLL_UNLOCK with clock := t.clock, regs := t.regs }) ∧
  (∀ (s : State) (p : Fin 6) (i : Nat), s.up → s.native = true → (s.plan.state = .runIn ∨ s.plan.state = .exposing) → i ∈ s.pllIslands p → 3 ≤ i → i ≤ 22 →
    ∃ t, exec (.pllUnlock p) s = .next t ∧ t.plan.state = .aborted ∧ t.caril.latch = true) ∧
  (∀ (s : State) (i : Fin 24) (khz : BitVec 21), s.up →
    (s.islandState i ≠ 0 ∨ (rabs ((khz.toNat : Rat) - s.plannedKhz i) * 100 ≤ s.plannedKhz i ∧ (s.island i).freqBad = false)) →
    exec (.freqCheck i khz) s = .next (s.setFd F.CLOCK_ISLAND_FREQ_KHZ khz.toNat i)) ∧
  (∀ (s : State) (i : Fin 24) (khz : BitVec 21), s.up → s.plan.state.active = false → s.islandState i = 0 →
    rabs ((khz.toNat : Rat) - s.plannedKhz i) * 100 ≤ s.plannedKhz i → (s.island i).freqBad = true →
    exec (.freqCheck i khz) s = .next ((s.setFd F.CLOCK_ISLAND_FREQ_KHZ khz.toNat i).setIsland i { s.island i with freqBad := false, okFrom := s.now })) ∧
  (∀ (s : State) (i : Fin 24) (khz : BitVec 21), s.up → s.plan.state.active = false → s.anyRunning = false → s.islandState i = 0 →
    s.plannedKhz i < rabs ((khz.toNat : Rat) - s.plannedKhz i) * 100 →
    ∃ t, exec (.freqCheck i khz) s = .next t ∧ t.island i = { s.island i with freqBad := true, freqReset := true, okFrom := s.now } ∧
      t.fd F.CLOCK_ISLAND_FREQ_KHZ i = khz.toNat ∧ (∀ j, j < 24 → j ≠ i.val → t.island j = s.island j) ∧
      t = { s with clock := t.clock, regs := t.regs, fault := t.fault, out := t.out, dma := t.dma, bob := t.bob, caril := t.caril }) ∧
  (∀ (s : State) (i : Fin 24) (khz : BitVec 21), s.up → s.plan.state.active = false → s.anyRunning = false → s.islandState i = 0 →
    s.plannedKhz i < rabs ((khz.toNat : Rat) - s.plannedKhz i) * 100 → (s.island i).inReset = true →
    ∃ t, exec (.freqCheck i khz) s = .next t ∧ t.fault = (s.raise .CLK_FREQ_ERROR).fault) ∧
  (∀ (s : State) (i : Fin 24) (khz : BitVec 21), s.up → s.plan.state.active = false → s.anyRunning = false → s.islandState i = 0 →
    s.plannedKhz i < rabs ((khz.toNat : Rat) - s.plannedKhz i) * 100 → (s.island i).inReset = false →
    ∃ t, exec (.freqCheck i khz) s = .next t ∧ t.fault = ((s.raise .CLK_PEER_RESET).raise .CLK_FREQ_ERROR).fault ∧
      (∀ x, x < 96 → xingTouches x i = true → t.clock.xOpen.toList.getD x true = false)) ∧
  (∀ (s : State) (i : Fin 24), s.up → s.plan.state.active = false → (s.island i).freqReset = true → (s.island i).freqBad = false →
    s.now < (s.island i).okFrom + 100000000 → exec (.clockRecovered false i) s = .next s) ∧
  (∀ (s : State) (i : Fin 24), s.up → s.plan.state.active = false → (s.island i).freqReset = true → (s.island i).freqBad = false →
    (s.island i).okFrom + 100000000 ≤ s.now →
    ∃ t, exec (.clockRecovered false i) s = .next t ∧ t.clock = (s.setIsland i { s.island i with freqReset := false }).clock ∧
      t = { s with clock := t.clock, caril := t.caril, stage := t.stage, out := t.out }) ∧
  (∀ (s : State) (p : Fin 24), s.up → s.plan.state.active = false → p.val < 6 →
    ∃ t, exec (.clockRecovered true p) s = .next t ∧ t.clock.locked[p.val]? = some true ∧
      (∀ i ∈ s.pllIslands p, t.island i = { s.island i with pllReset := false }) ∧ (∀ i, i < 24 → i ∉ s.pllIslands p → t.island i = s.island i) ∧
      t = { s with clock := t.clock, caril := t.caril, stage := t.stage, out := t.out }) ∧
  (∀ (s : State) (x : Fin 96), s.up → (s.island (Config.xingSrc x).val).inReset = false → (s.island (Config.xingDst x).val).inReset = false →
    ∃ t, exec (.xingReopen x) s = .next t ∧ t.clock.xOpen = s.clock.xOpen.set x true ∧ t.clock.islands = s.clock.islands ∧
      t.clock.locked = s.clock.locked ∧ t = { s with clock := t.clock }) ∧
  (∀ (s : State) (x : Fin 96), s.up → ((s.island (Config.xingSrc x).val).inReset = true ∨ (s.island (Config.xingDst x).val).inReset = true) →
    exec (.xingReopen x) s = .next s)

/-- R527 to R529, R534, R535: AON takes the oldest raising: its code is counted and marked RAISED, FAULT_FIRST takes it if it is the first, a new
log entry holds code, number and stamps, and the selected actions follow: the interrupt, the damp with LATCH, the rimshot. An island that
stalls sets its bit with SAF_ISLAND_STALL; still stalled LIMIT_US later, and where resets are enabled, it is reset once and
starts again.
Where the rules leave a point open, these clauses are the model's choice: assumption log 34, 63, 78. -/
def Obligations.FaultHandling : Prop :=
  (∀ s : State, s.glob.aonReset = false → s.fault.fifo = [] → exec .faultHandle s = .next s) ∧
  (∀ (s : State) (c n : Nat) (r : List (Nat × Nat)), s.glob.aonReset = false → s.cyc = [] → s.fault.fifo = (c, n) :: r → s.fault.waiting = [] → 0 < c →
    c < 65536 → c ≠ FaultCode.num .CHK_PRIV_MISMATCH → s.captures 16 = true →
    ((s.logEntry ((s.fault.logNext + 63) % 64)).code ≠ c ∨ (s.logEntry ((s.fault.logNext + 63) % 64)).stamp + 1000000 ≤ s.now) →
    s.fb F.FAULT_CODE_ACTION_IRQ c = false → s.fb F.FAULT_CODE_ACTION_DAMP c = false → s.fb F.FAULT_CODE_ACTION_RIMSHOT c = false →
    ∃ t, exec .faultHandle s = .next t ∧ t.fault.fifo = r ∧ t.fault.waiting = [] ∧ t.fb F.FAULT_CODE_STATUS_RAISED c = true ∧
      t.fd F.FAULT_CODE_STATUS_COUNT c = (s.bump F.FAULT_CODE_STATUS_COUNT n c).fd F.FAULT_CODE_STATUS_COUNT c ∧
      t.fd F.FAULT_FIRST_CODE = (if s.fd F.FAULT_FIRST_CODE = 0 then c else s.fd F.FAULT_FIRST_CODE) ∧
      t.logEntry s.fault.logNext = ⟨true, c, min 255 n, s.stampN, s.stageT.toNat % 2 ^ 32, s.now⟩ ∧ t.fault.logNext = (s.fault.logNext + 1) % 64 ∧
      t = { s with regs := t.regs, cyc := t.cyc, fault := { s.fault with
        fifo := r, log := t.fault.log, logNext := t.fault.logNext, logTotal := t.fault.logTotal } }) ∧
  (∀ (s : State) (c n : Nat) (r : List (Nat × Nat)), s.glob.aonReset = false → s.cyc = [] → s.fault.fifo = (c, n) :: r → c < 65536 →
    c ≠ FaultCode.num .CHK_PRIV_MISMATCH → s.fb F.FAULT_CODE_ACTION_IRQ c = true → s.fb F.FAULT_CODE_ACTION_DAMP c = false →
    s.fb F.FAULT_CODE_ACTION_RIMSHOT c = false →
    ∃ t, exec .faultHandle s = .next t ∧ t.dma = (s.irq 64).dma ∧ t.out = (s.irq 64).out ∧ t.fb F.FAULT_CODE_STATUS_RAISED c = true) ∧
  (∀ (s : State) (c n : Nat) (r : List (Nat × Nat)), s.glob.aonReset = false → s.cyc = [] → s.fault.fifo = (c, n) :: r → c < 65536 →
    s.fb F.FAULT_CODE_ACTION_DAMP c = true →
    ∃ t, exec .faultHandle s = .next t ∧ t.fault.aonDamp = true ∧ t.caril.latch = true ∧ t.generatorOn = true ∧
      t.fb F.FAULT_CODE_STATUS_RAISED c = true) ∧
  (∀ (s : State) (c n : Nat) (r : List (Nat × Nat)), s.glob.aonReset = false → s.cyc = [] → s.fault.fifo = (c, n) :: r → c < 65536 →
    s.fb F.FAULT_CODE_ACTION_DAMP c = true → s.native = true → s.plan.state = .exposing →
    ∃ t, exec .faultHandle s = .next t ∧ t.plan.state = .aborted ∧ t.fd F.PLAN_ABORT_CAUSE_FAULT = c) ∧
  (∀ (s : State) (i : Fin 24), s.up → (i.val = 0 ∨ s.captures i = false) → exec (.safIslandStall i) s = .next s) ∧
  (∀ (s : State) (i : Fin 24), s.up → i.val ≠ 0 → s.captures i = true → s.anyRunning = false →
    ∃ t, exec (.safIslandStall i) s = .next t ∧
      t.rg .FAULT_STALL_STATUS = s.rg .FAULT_STALL_STATUS ||| BitVec.ofNat 32 (2 ^ i.val) ∧
      t.fault = { (s.raise .SAF_ISLAND_STALL).fault with stallTimers := Sparse.put s.fault.stallTimers i.val s.now } ∧
      t = { s with regs := t.regs, fault := t.fault, cyc := t.cyc }) ∧
  (∀ (s : State) (i : Fin 24), s.up → Sparse.find? s.fault.stallTimers i.val = none → exec (.safIslandReset i) s = .next s) ∧
  (∀ (s : State) (i : Fin 24) (a : Nat), s.up → Sparse.find? s.fault.stallTimers i.val = some a →
    (s.fb F.FAULT_STALL_CFG_RESET_EN = false ∨ s.captures i.val = false ∨ i.val = 21 ∨ i.val = 22 ∨ s.now < a + s.stallLimit) →
    exec (.safIslandReset i) s = .next s) ∧
  (∀ (s : State) (i : Fin 24) (a : Nat), s.up → Sparse.find? s.fault.stallTimers i.val = some a → s.fb F.FAULT_STALL_CFG_RESET_EN = true →
    s.captures i.val = true → i.val ≠ 21 → i.val ≠ 22 → a + s.stallLimit ≤ s.now →
    ∃ t, exec (.safIslandReset i) s = .next t ∧
      t.fault = { ((s.raise .SAF_ISLAND_RESET).raise .CLK_PEER_RESET).fault with stallTimers := Sparse.erase s.fault.stallTimers i.val } ∧
      (∀ x, x < 96 → t.clock.xOpen.toList.getD x true = (s.clock.xOpen.toList.getD x true && !(xingTouches x i.val))) ∧
      t = { s with fault := t.fault, regs := t.regs, bob := t.bob, caril := t.caril, stage := t.stage, out := t.out,
                   clock := { s.clock with xOpen := t.clock.xOpen, words := t.clock.words, edges := t.clock.edges } })

/-- R372, R536, R537: a junction that rises is reported with its level, and its soft and hard faults are raised where they are armed; at 115 °C
the device trips: THERMTRIP_N low, every island but AON in reset, every lane in electrical idle, the cause recorded, once. A junction that
falls is reported. Below 100 °C a tripped device starts the cold reset that the trip holds back.
Where the rules leave a point open, these clauses are the model's choice: assumption log 30, 65. -/
def Obligations.ThermalProtection : Prop :=
  (∀ (s : State) (tj : BitVec 12), s.glob.aonReset = false → tj.toInt ≤ s.junction → exec (.junctionTempCross tj) s = .next s) ∧
  (∀ (s : State) (tj : BitVec 12), s.glob.aonReset = false → s.junction ≤ tj.toInt → exec (.junctionLevelFall tj) s = .next s) ∧
  (∀ (s : State) (tj : BitVec 12), s.glob.aonReset = false → s.junction < tj.toInt → tj.toInt < 920 →
    ∃ t, exec (.junctionTempCross tj) s = .next t ∧ t.junction = tj.toInt ∧ t.fault.junctionLevel = t.fd F.FAULT_TEMP_LEVEL ∧
      levelUp tj.toInt ≤ t.fault.junctionLevel ∧
      t.fault.fifo = ((s.raiseIf (s.fault.softArmed && decide (800 ≤ tj.toInt)) .SAF_JUNCTION_SOFT).raiseIf
        (s.fault.hardArmed && decide (880 ≤ tj.toInt)) .SAF_JUNCTION_HARD).fault.fifo ∧
      (800 ≤ tj.toInt → t.fault.softArmed = false) ∧ (880 ≤ tj.toInt → t.fault.hardArmed = false) ∧
      t.fault.tripped = s.fault.tripped ∧ t = { s with regs := t.regs, fault := t.fault }) ∧
  (∀ (s : State) (tj : BitVec 12), s.glob.aonReset = false → tj.toInt < s.junction →
    ∃ t, exec (.junctionLevelFall tj) s = .next t ∧ t.junction = tj.toInt ∧ t.fault.tripped = s.fault.tripped ∧
      (tj.toInt ≤ 784 → t.fault.junctionLevel = 0 ∧ t.fault.softArmed = true ∧ t.fault.hardArmed = true) ∧
      t = { s with regs := t.regs, fault := t.fault }) ∧
  (∀ (s : State) (c : Instr) (tj : BitVec 12), s.glob.aonReset = false → s.fault.tripped = false →
    (c = .safThermalTrip ∨ (c = .junctionTempCross tj ∧ s.junction < tj.toInt ∧ 920 ≤ tj.toInt)) →
    ∃ t, exec c s = .next t ∧ t.fault.tripped = true ∧ t.fault.thermtripN = false ∧ t.fault.aonDamp = true ∧ t.fb F.FAULT_TRIP_CAUSE_TRIP = true ∧
      t.caril.latch = true ∧ t.glob.ready = false ∧ t.glob.linkUp = false ∧ (∀ n, n < 18 → (t.lane n).tx = .sleep ∧ (t.lane n).rx = .sleep) ∧
      (∀ i, i < 24 → i ≠ 0 → (t.island i).inReset = true) ∧ t.clock.locked = Vector.replicate 6 false ∧ 800 ≤ t.junction ∧ t.dram = s.dram) ∧
  (∀ s : State, s.glob.aonReset = false → s.fault.tripped = true → 920 ≤ s.junction → exec .safThermalTrip s = .next s) ∧
  (∀ (s : State) (tj : BitVec 12) (ta tb : Bool), s.glob.aonReset = false → (s.fault.tripped = false ∨ 800 ≤ tj.toInt) →
    ∃ t, exec (.tripRecovery tj ta tb) s = .next t ∧ t.junction = tj.toInt ∧ t.fault.tripped = s.fault.tripped ∧
      t = { s with regs := t.regs, fault := t.fault }) ∧
  (∀ (s : State) (tj : BitVec 12) (ta tb : Bool), s.glob.aonReset = false → s.fault.tripped = true → tj.toInt < 800 →
    ∃ t, exec (.tripRecovery tj ta tb) s = .next t ∧ t.fault.tripped = false ∧ t.fault.thermtripN = true ∧ t.glob.ready = false ∧
      t.glob.booting = some true ∧ bit (t.rg .GLOBAL_RESET_CAUSE).toNat 3 = 1 ∧ (∀ n, n < 18 → (t.lane n).tx = .sleep))

/-- R542, R533: the sideband answers whatever the other islands do. A read answers with its byte count, its words and the PEC; a write with a
wrong PEC is ignored with SAF_SMBUS_PEC, and without a PEC or with the right one it sets its pointer, wakes or arises as a
rimshot.
Where the rules leave a point open, these clauses are the model's choice: assumption log 60, 64. -/
def Obligations.Sideband : Prop :=
  (∀ (s : State) (c : Instr) (code a : Nat) (l b : List Byte), (c, code, l) ∈ [(Instr.smbStatusRead, 0x01, wordBytes s.smbStatus),
      (.smbFaultCodeRead, 0x03, wordBytes s.smbCode), (.smbLogRead, 0x05, wordBytes s.smbLog), (.smbSnapRead, 0x07, wordBytes s.smbSnap),
      (.smbCauseRead, 0x08, wordBytes s.smbCause)] →
    s.glob.aonReset = false → a = 2 * (0x58 + s.smbus.addr % 4) → b = leBytes 1 l.length ++ l →
    exec c s = .next { s with out := .smbus (b ++ leBytes 1 (crc crcPec (leBytes 1 a ++ leBytes 1 code ++ leBytes 1 (a + 1) ++ b))) :: s.out }) ∧
  (∀ s : State, s.smbStatus.length = 6 ∧ s.smbCode.length = 2 ∧ s.smbLog.length = 4 ∧ s.smbSnap.length = 8 ∧ s.smbCause.length = 3) ∧
  (∀ (s : State) (c : Instr) (code : BitVec 16) (b p : BitVec 8) (k : Nat) (l : List Byte),
    (c, k, l) ∈ [(Instr.smbFaultCodeSet code (some p), 0x02, leBytes 2 code.toNat), (.smbLogIndexSet b (some p), 0x04, [b]),
      (.smbSnapGroupSet b (some p), 0x06, [b]), (.smbWake (some p), 0x10, []), (.smbRimshot (some p), 0x11, [])] →
    s.glob.aonReset = false → p.toNat ≠ s.smbPec k l → exec c s = .next (s.raise .SAF_SMBUS_PEC)) ∧
  (∀ (s : State) (code : BitVec 16) (pec : Option (BitVec 8)), s.glob.aonReset = false →
    (pec = none ∨ pec = some (BitVec.ofNat 8 (s.smbPec 0x02 (leBytes 2 code.toNat)))) →
    exec (.smbFaultCodeSet code pec) s = .next { s with smbus := { s.smbus with codePtr := code.toNat } }) ∧
  (∀ (s : State) (b : BitVec 8) (pec : Option (BitVec 8)), s.glob.aonReset = false → (pec = none ∨ pec = some (BitVec.ofNat 8 (s.smbPec 0x04 [b]))) →
    exec (.smbLogIndexSet b pec) s = .next { s with smbus := { s.smbus with logPtr := b.toNat % 64 } }) ∧
  (∀ (s : State) (b : BitVec 8) (pec : Option (BitVec 8)), s.glob.aonReset = false → (pec = none ∨ pec = some (BitVec.ofNat 8 (s.smbPec 0x06 [b]))) →
    exec (.smbSnapGroupSet b pec) s = .next { s with smbus := { s.smbus with snapPtr := b.toNat % 8 } }) ∧
  (∀ (s : State) (pec : Option (BitVec 8)), s.glob.aonReset = false → (pec = none ∨ pec = some (BitVec.ofNat 8 (s.smbPec 0x10 []))) →
    s.power.state = .hush → s.power.transit = .none →
    ∃ t, exec (.smbWake pec) s = .next t ∧ t = { s.setRg .POWER_WAKE_STATUS (s.rg .POWER_WAKE_STATUS ||| 4#32) with
      power := { s.power with transit := .exitHush }, cyc := t.cyc }) ∧
  (∀ (s : State) (pec : Option (BitVec 8)), s.glob.aonReset = false → (pec = none ∨ pec = some (BitVec.ofNat 8 (s.smbPec 0x10 []))) →
    s.power.state = .run → s.power.transit = .none →
    ∃ t, exec (.smbWake pec) s = .next t ∧ t = { s.setRg .POWER_WAKE_STATUS (s.rg .POWER_WAKE_STATUS ||| 4#32) with cyc := t.cyc }) ∧
  (∀ (s : State) (pec : Option (BitVec 8)), s.glob.aonReset = false → (pec = none ∨ pec = some (BitVec.ofNat 8 (s.smbPec 0x11 []))) →
    s.rimOn 0 = true → s.rimColumn = false → s.snap.capturing = none → s.snap.held = false →
    ∃ t, exec (.smbRimshot pec) s = .next t ∧ t.snap.held = true ∧ t.snap.seq = (s.snap.seq + 1) % 65536 ∧ t.snap.capturing = some 0 ∧
      t = { s with snap := t.snap, freeCount := t.freeCount, cyc := t.cyc }) ∧
  (∀ (s : State) (pec : Option (BitVec 8)), s.glob.aonReset = false → (pec = none ∨ pec = some (BitVec.ofNat 8 (s.smbPec 0x11 []))) →
    s.rimOn 0 = false → exec (.smbRimshot pec) s = .next s)

/-- R508, R546, R547, R549, R553, R557, R558, R537: a reset command with a wrong key is refused with RST_BAD_REQUEST. A warm reset, by command or by PERST_N outside
a cold boot, keeps the structure, DRAM, the libraries, the slots' SEQ, the log and the snapshot, and starts in phase 3; a cold
reset, by command, SYS_RST or power-on reset, forgets all but the log and the causes and ends, where the flash answers for neither slot, in the safe structure. Either
records its cause, and no lane drives until READY. A warm reset waits for the end of an APPLY, and a boot that has halted stays halted at PERST_N. A tripped device at 100 °C or more
only records the cause. In a brown-out of AON's regulator
every lane falls silent and AON's events do nothing until power-on reset, at whose release a low DAMP_N raises SAF_DAMP_EXTERNAL
without LATCH.
Where the rules leave a point open, these clauses are the model's choice: assumption log 25, 29, 30, 66. -/
def Obligations.ResetsStart : Prop :=
  (∀ (s : State) (key : BitVec 8) (ta tb : Bool), s.runs → key ≠ 0xA5#8 →
    exec (.warm key) s = .next (s.raise .RST_BAD_REQUEST) ∧ exec (.cold key ta tb) s = .next (s.raise .RST_BAD_REQUEST)) ∧
  (∀ (s : State) (c : Instr) (b : Nat), s.fault.tripped = false →
    ((c = .warm 0xA5 ∧ b = 6 ∧ s.runs ∧ s.prick.phase ≠ .apply) ∨
      (c = .perstAssert ∧ b = 5 ∧ s.glob.aonReset = false ∧ s.glob.perstAsserted = false ∧ s.glob.booting ≠ some true ∧
        s.glob.halted = false)) →
    ∃ t, exec c s = .next t ∧ bit (t.rg .GLOBAL_RESET_CAUSE).toNat b = 1 ∧ t.glob.ready = false ∧ t.glob.booting = some false ∧ t.glob.phase = 3 ∧
      (b = 6 → t.glob.linkUp = !s.glob.perstAsserted) ∧ (b = 5 → t.glob.perstAsserted = true ∧ t.glob.linkUp = false) ∧
      (∀ n, n < 18 → (t.lane n).tx = .sleep ∧ (t.lane n).rx = .sleep) ∧ (∀ i : Fin 24, i.val ≠ 0 → (t.island i).inReset = true) ∧
      t.plan.state = .idle ∧ (∀ j, j < 4 → (t.pers j).state = .idle) ∧ t.power.state = .run ∧ t.power.held = [] ∧ t.time = TimeSt.reset ∧
      t.str = s.str ∧ t.dram = s.dram ∧ t.dramMark = s.dramMark ∧ t.lace.libs = s.lace.libs ∧ t.prick.applied = s.prick.applied ∧
      (∀ k, k < 256 → (t.slot k).st = .free ∧ (t.slot k).seq = (s.slot k).seq) ∧ (∀ n, n < 64 → t.ring n = Ring.fresh) ∧
      t.fault.log = s.fault.log ∧ t.fault.fifo = s.fault.fifo ∧ t.snap = s.snap ∧ t.smbus = s.smbus ∧ t.now = s.now) ∧
  (∀ s : State, s.runs → s.prick.phase = .apply →
    exec (.warm 0xA5) s = .next { s with prick := { s.prick with thenWarm := true } }) ∧
  (∀ (s : State) (c : Instr) (b : Nat) (smb : BitVec 2) (ta tb : Bool), s.fault.tripped = false →
    ((c = .cold 0xA5 ta tb ∧ b = 4 ∧ s.runs) ∨ (c = .sysRst ta tb ∧ b = 1 ∧ s.glob.aonReset = false) ∨
      (c = .powerOnReset smb ta tb ∧ b = if s.glob.brownout then 2 else 0)) →
    ∃ t, exec c s = .next t ∧ bit (t.rg .GLOBAL_RESET_CAUSE).toNat b = 1 ∧ t.glob.ready = false ∧ t.glob.booting = some true ∧
      t.glob.linkUp = !s.glob.perstAsserted ∧
      (∀ n, n < 18 → (t.lane n).tx = .sleep ∧ (t.lane n).rx = .sleep) ∧ (∀ i : Fin 24, i.val ≠ 0 → (t.island i).inReset = true) ∧
      t.plan.state = .idle ∧ (∀ j, j < 4 → (t.pers j).state = .idle) ∧ t.power.state = .run ∧ t.power.held = [] ∧ t.timeValid = false ∧
      t.dram = [] ∧ t.dramMark = [] ∧ t.lace = LaceSt.reset ∧ (∀ k, k < 256 → t.slot k = Slot.fresh) ∧ (∀ n, n < 64 → t.ring n = Ring.fresh) ∧
      t.fault.log = s.fault.log ∧ t.fault.logNext = s.fault.logNext ∧ t.now = s.now ∧ t.glob.fuseSerial = s.glob.fuseSerial ∧
      (ta = true → tb = true → t.str = Structure.safeStructure ∧ t.glob.safeBoot = true ∧ t.glob.phase = 5 ∧ t.glob.crs = false ∧ t.prick.applied = [])) ∧
  (∀ (s : State) (smb : BitVec 2) (ta tb : Bool), ∃ t, exec (.powerOnReset smb ta tb) s = .next t ∧ t.smbus.addr = smb.toNat ∧ t.snap.held = false ∧
    t.glob.aonReset = false ∧ t.glob.jtag = JtagSt.reset ∧ t.caril.dampN = s.caril.dampN ∧ t.caril.latch = false ∧
    (s.caril.dampN = true → ∃ e ∈ t.fault.fifo ++ t.fault.waiting, e.1 = FaultCode.num .SAF_DAMP_EXTERNAL)) ∧
  (∀ (s : State) (ta tb : Bool), s.glob.aonReset = false → s.fault.tripped = true → 800 ≤ s.junction →
    ∃ t, exec (.sysRst ta tb) s = .next t ∧ t = { s.setRg .GLOBAL_RESET_CAUSE (s.rg .GLOBAL_RESET_CAUSE ||| 2#32) with cyc := t.cyc }) ∧
  (∀ s : State, s.glob.aonReset = false →
    (s.glob.perstAsserted = true → exec .perstAssert s = .next s) ∧
    (s.glob.perstAsserted = false → s.glob.booting = some true →
      exec .perstAssert s = .next { s with glob := { s.glob with perstAsserted := true, linkUp := false } }) ∧
    (s.glob.perstAsserted = false → s.glob.booting = some false → s.glob.halted = true →
      exec .perstAssert s = .next { (s.setBits .GLOBAL_RESET_CAUSE 32#32) with glob := { s.glob with perstAsserted := true, linkUp := false } }) ∧
    exec .perstDeassert s = .next { s with glob := { s.glob with
      perstAsserted := false
      linkUp := s.glob.linkUp || (s.glob.perstAsserted && decide (1 ≤ s.glob.phase) && !s.fault.tripped) } }) ∧
  (∀ s : State, ∃ t, exec .pwrAonBrownout s = .next t ∧ t.glob.aonReset = true ∧ t.glob.brownout = true ∧ t.glob.ready = false ∧
    (s.power.state = .dormant → t.fb F.POWER_AON_CAUSE_BROWNOUT_LP = true) ∧ (s.power.state ≠ .dormant → t.fb F.POWER_AON_CAUSE_BROWNOUT_NORMAL = true) ∧
    t.fd F.POWER_AON_CAUSE_STATE = s.power.state.code ∧ (∀ n, n < 18 → (t.lane n).tx = .sleep ∧ (t.lane n).rx = .sleep) ∧
    t = { s with regs := t.regs, caril := t.caril, cyc := t.cyc, glob := { s.glob with
      ready := false, linkUp := false, booting := none, halted := false, brownout := true, aonReset := true } }) ∧
  (∀ (s : State) (tj : BitVec 12) (ta tb : Bool) (f : Fin 8) (r : CfgReg) (w : Option Word) (p : Option (BitVec 8)) (c : Instr), s.glob.aonReset = true →
    c ∈ [Instr.faultHandle, .junctionTempCross tj, .junctionLevelFall tj, .safThermalTrip, .tripRecovery tj ta tb, .sysRst ta tb, .perstAssert,
      .perstDeassert, .bootReady, .configRequest f r w, .smbStatusRead, .smbCauseRead, .smbWake p, .smbRimshot p, .rimshotInEdge] → exec c s = .next s)

/-- R55, R453, R551, R552, R555, R559, R479: a boot whose phase fails halts there; one that does not is released at READY, with its clocks, islands, crossings and
lanes, and nothing else releases it. A configuration request is answered with Request Retry Status until the function set is fixed, then by the functions that are
present. A function-level reset of function 0 aborts the rings, ends the grants, frees the slots, ends every stripe and ends a load, but for an
APPLY, for whose end it waits.
Where the rules leave a point open, these clauses are the model's choice: assumption log 15, 31, 32, 33, 74, 78. -/
def Obligations.BootAndConfiguration : Prop :=
  (∀ (s : State) (ph : Fin 3), s.glob.aonReset = false → (s.glob.booting = none ∨ s.glob.halted = true ∨ (ph.val = 2 ∧ s.str.safe = true)) →
    exec (.rstBootHalt ph) s = .next s) ∧
  (∀ (s : State) (ph : Fin 3), s.glob.aonReset = false → s.glob.booting = some false → s.glob.halted = false → ph.val ≠ 2 →
    exec (.rstBootHalt ph) s = .next (({ s with glob := { s.glob with
      phase := if ph.val = 0 then 1 else 3, halted := true, failCode := FaultCode.num .RST_BOOT_HALT } } : State).raise .RST_BOOT_HALT)) ∧
  (∀ (s : State) (ph : Fin 3), s.glob.aonReset = false → s.glob.booting.isSome = true → s.glob.halted = false → ph.val = 2 → s.str.safe = false →
    exec (.rstBootHalt ph) s = .next (({ s with glob := { s.glob with
      phase := 4, halted := true, failCode := FaultCode.num .RST_BOOT_HALT } } : State).raise .RST_BOOT_HALT)) ∧
  (∀ (s : State) (ph : Fin 3), s.glob.aonReset = false → s.glob.booting = some true → s.glob.halted = false → ph.val ≠ 2 →
    ∃ t, exec (.rstBootHalt ph) s = .next t ∧ t.str = Structure.safeStructure ∧ t.prick.applied = [] ∧ t.glob.halted = true ∧
      t.glob.phase = (if ph.val = 0 then 1 else 3) ∧ t.glob.crs = true ∧ t.glob.ready = s.glob.ready ∧
      t.fault = (s.raise .RST_BOOT_HALT).fault ∧ t = { s with str := t.str, prick := t.prick, glob := t.glob, fault := t.fault }) ∧
  (∀ s : State, s.glob.aonReset = false →
    (s.glob.booting = none ∨ s.glob.phase = 0 ∨ s.glob.halted = true ∨ s.hbm.filling = true ∨ s.fault.tripped = true) → exec .bootReady s = .next s) ∧
  (∀ s : State, s.glob.aonReset = false → s.glob.booting.isSome = true → s.glob.phase ≠ 0 → s.glob.halted = false → s.hbm.filling = false →
    s.fault.tripped = false →
    ∃ t, exec .bootReady s = .next t ∧ (∀ i, i < 24 → t.island i = { s.island i with ownReset := false }) ∧ (∀ x : Fin 96, t.clock.xOpen[x] = true) ∧
      (∀ p : Fin 6, t.clock.locked[p] = true) ∧
      (s.native = true → s.str.safe = false → (∀ n, n < 18 →
        (s.laneInUse n = true → (t.lane n).tx = .training ∧ (t.lane n).rx = .acquire) ∧ (s.laneInUse n = false → t.lane n = s.lane n))) ∧
      t.fault = (s.raiseIf s.glob.brownout .PWR_AON_BROWNOUT).fault ∧
      t = { s with
        clock := t.clock, caril := t.caril, fault := t.fault, out := t.out
        hbm := { s.hbm with selfRefresh := false }, stage := { s.stage with epoch := s.now }
        glob := { s.glob with
          phase := 8, ready := true, booting := none, crs := false, linkUp := !s.glob.perstAsserted, brownout := false } }) ∧
  (∀ (s : State) (f : Fin 8) (r : CfgReg) (w : Option Word), s.glob.aonReset = false → s.glob.linkUp = false →
    exec (.configRequest f r w) s = .next s) ∧
  (∀ (s : State) (f : Fin 8) (r : CfgReg) (w : Option Word), s.glob.aonReset = false → s.glob.linkUp = true → s.glob.crs = true →
    exec (.configRequest f r w) s = .next { s with out := .config f true 0 :: s.out }) ∧
  (∀ (s : State) (f : Fin 8) (r : CfgReg) (w : Option Word), s.glob.aonReset = false → s.glob.linkUp = true → s.glob.crs = false →
    s.power.state ≠ .dormant → f.val ≠ 0 → s.str.mode < f.val →
    exec (.configRequest f r w) s = .next { s with out := .config f false 0xFFFFFFFF#32 :: s.out }) ∧
  (∀ (s : State) (v : Word), s.glob.aonReset = false → s.glob.linkUp = true → s.glob.crs = false → s.power.state ≠ .dormant →
    exec (.configRequest 0 .vendorDevice none) s = .next { s with out := .config 0 false 0x64161F64#32 :: s.out } ∧
    exec (.configRequest 0 .classRevision none) s = .next { s with out := .config 0 false 0x120000A1#32 :: s.out } ∧
    exec (.configRequest 0 .vendorDevice (some v)) s = .next s ∧
    exec (.configRequest 0 .linkControl (some v)) s = .next { s with glob := { s.glob with aspm := wbit v 1 } }) ∧
  (∀ (s : State) (v : Word), s.glob.aonReset = false → s.glob.linkUp = true → s.glob.crs = false → s.power.state ≠ .dormant → 1 ≤ s.str.mode →
    exec (.configRequest 1 .msiControl (some v)) s = .next (s.setPers 0 { s.pers 0 with msiOn := wbit v 16 })) ∧
  (∀ s : State, s.up → s.native = true → s.tlQuiet = true → s.plan.state.active = false → s.plan.scan = none → s.hbm.scrub = none → s.prick.phase = .none →
    ∃ t, exec .flrFunction0 s = .next t ∧ (∀ n, n < 64 → t.ring n = Ring.fresh) ∧ t.dma.ops = [] ∧
      (∀ g, g < 8 → t.fb F.RING_GRANT_ENABLE g = false) ∧ (∀ k, k < 256 → (t.slot k).st = .free ∧ (t.slot k).seq = (s.slot k).seq) ∧
      (∀ v : Fin 128, t.dma.masked[v] = true ∧ t.dma.pend[v] = false) ∧
      t.lace = { s.lace with scopes := s.lace.scopes.map (fun x => { x with boundRing := none }) } ∧
      t = { s with regs := t.regs, dma := t.dma, out := t.out, lace := t.lace, tl := t.tl, cyc := t.cyc }) ∧
  (∀ s : State, s.up → s.native = true → s.plan.state = .armed → s.prick.phase = .none →
    ∃ t, exec .flrFunction0 s = .next t ∧ t.plan.state = .idle ∧ (∀ n, n < 64 → t.ring n = Ring.fresh)) ∧
  (∀ s : State, s.up → s.native = true → s.plan.state.running = true → s.plan.state ≠ .runOut → s.prick.phase = .none →
    ∃ t, exec .flrFunction0 s = .next t ∧ t.plan.state = .aborted ∧ t.fd F.PLAN_ABORT_CAUSE_FAULT = FaultCode.num .RST_FLR_ABORT ∧
      t.caril.latch = true ∧ (∀ n, n < 64 → t.ring n = Ring.fresh)) ∧
  (∀ s : State, s.up → s.prick.phase = .apply → exec .flrFunction0 s = .next { s with prick := { s.prick with thenFlr := true } }) ∧
  (∀ s : State, s.up → (s.prick.phase = .fetch ∨ s.prick.phase = .verify) →
    ∃ t, exec .flrFunction0 s = .next t ∧ t.prick.phase = .none ∧ t.prick.lastOk = false ∧ t.prick.failCode = FaultCode.num .PRK_FETCH ∧
      t.prick.applied = s.prick.applied ∧ (∀ n, n < 64 → t.ring n = Ring.fresh))

/-- R55, R569, R571 to R573, R576, R579, R580: four words make an entry of a personality's FIFO; a word beyond 1,024 entries raises TLM_FIFO_OVERFLOW, and one
written while the scope is open TLM_CMD_INVALID. The head entry is consumed in its turn: a RECT or TRAP adds its shape and readies the lines below it, an ARRAY
waits for its shape, STRIPE arms with its tiles and their counters at their start, START asks for RUN_IN, END readies every line. An entry that is malformed or
not accepted stays in the FIFO, which halts with ERR set.
Where the rules leave a point open, these clauses are the model's choice: assumption log 67, 77, 78. -/
def Obligations.TlEntries : Prop :=
  (∀ (s : State) (j : Fin 4) (v : BitVec 32), s.up → s.hasPers j = true → (s.pers j).src.isSome = true →
    exec (.tlFifoWrite j v) s = .next (s.raise .TLM_CMD_INVALID)) ∧
  (∀ (s : State) (j : Fin 4) (v : BitVec 32) (p : Pers), s.up → s.hasPers j = true → s.cyc = [] → p = s.pers j → p.src = none → p.part.length < 3 →
    exec (.tlFifoWrite j v) s = .next (s.setPers j { p with part := p.part ++ [v] })) ∧
  (∀ (s : State) (j : Fin 4) (v a b c : BitVec 32) (p : Pers), s.up → s.hasPers j = true → s.cyc = [] → p = s.pers j → p.src = none →
    p.part = [a, b, c] → p.fifo.length < 1024 → exec (.tlFifoWrite j v) s = .next (s.setPers j { p with
      part := [], fifo := p.fifo ++ [a.toNat + 2 ^ 32 * (b.toNat + 2 ^ 32 * (c.toNat + 2 ^ 32 * v.toNat))] })) ∧
  (∀ (s : State) (j : Fin 4) (v : BitVec 32) (p : Pers), s.up → s.hasPers j = true → s.cyc = [] → p = s.pers j → p.src = none → p.part.length = 3 →
    1024 ≤ p.fifo.length → ∃ t, exec (.tlFifoWrite j v) s = .next t ∧ (t.pers j).fifo = p.fifo ∧ (t.pers j).part = [] ∧
      (t.pers j).haltAfter = !p.halted ∧ bit (t.pers j).rc 3 = 1 ∧ (∀ i : Fin 4, i ≠ j → t.pers i = s.pers i) ∧
      t = { s with fault := (s.raise .TLM_FIFO_OVERFLOW).fault, tl := t.tl, out := t.out, cyc := t.cyc }) ∧
  (∀ (s : State) (j : Fin 4) (c : Instr) (op : Nat), s.up → s.hasPers j = true →
    (c, op) ∈ [(Instr.tlRect j, 1), (.tlTrap j, 2), (.tlArray j, 3), (.tlStripe j, 8), (.tlStart j, 9), (.tlEnd j, 10)] →
    ((s.pers j).fifo = [] ∨ (s.pers j).halted = true) → exec c s = .next s) ∧
  (∀ (s : State) (j : Fin 4) (c : Instr) (op e : Nat) (l : List Nat), s.up → s.hasPers j = true →
    (c, op) ∈ [(Instr.tlRect j, 1), (.tlTrap j, 2), (.tlArray j, 3), (.tlStripe j, 8), (.tlStart j, 9), (.tlEnd j, 10)] →
    (s.pers j).fifo = e :: l → (s.pers j).halted = false → tlOp e ∈ [1, 2, 3, 8, 9, 10] → tlOp e ≠ op → exec c s = .next s) ∧
  (∀ (s : State) (j : Fin 4) (c : Instr) (op e : Nat) (l : List Nat) (f : FaultCode), s.up → s.hasPers j = true →
    (c, op) ∈ [(Instr.tlRect j, 1), (.tlTrap j, 2), (.tlArray j, 3), (.tlStripe j, 8), (.tlStart j, 9), (.tlEnd j, 10)] →
    (s.pers j).fifo = e :: l → (s.pers j).halted = false → e ≠ 0 → tlOp e = op → (s.pers j).judge e = some f →
    ∃ t, exec c s = .next t ∧ (t.pers j).fifo = e :: l ∧ (t.pers j).halted = true ∧ bit (t.pers j).rc 2 = 1 ∧
      (t.pers j).errInfo = BitVec.ofNat 32 (min 65535 (s.pers j).used + 65536 * f.num) ∧ (∀ i : Fin 4, i ≠ j → t.pers i = s.pers i) ∧
      t = { s with fault := (s.raise f).fault, tl := t.tl, out := t.out, cyc := t.cyc }) ∧
  (∀ (s : State) (j : Fin 4) (c : Instr) (p : Pers) (e : Nat) (l : List Nat), s.up → s.hasPers j = true → p = s.pers j → p.fifo = e :: l →
    p.halted = false → p.haltAfter = false → p.judge e = none → (c = .tlRect j ∧ tlOp e = 1 ∨ c = .tlTrap j ∧ tlOp e = 2) →
    ∃ t, exec c s = .next t ∧
      t.pers j = { p with fifo := l, used := p.used + 1, shapes := p.shapes ++ [tlShape e p.array], array := none, lastY := tlY e, ready := tlY e / 8 } ∧
      (∀ i : Fin 4, i ≠ j → t.pers i = s.pers i) ∧ t = { s with tl := t.tl, cyc := t.cyc }) ∧
  (∀ (s : State) (j : Fin 4) (p : Pers) (e : Nat) (l : List Nat), s.up → s.hasPers j = true → p = s.pers j → p.fifo = e :: l → p.halted = false →
    p.haltAfter = false → p.judge e = none → tlOp e = 3 →
    exec (.tlArray j) s = .next (s.setPers j { p with fifo := l, used := p.used + 1, array := some e })) ∧
  (∀ (s : State) (j : Fin 4) (p : Pers) (e : Nat) (l : List Nat), s.up → s.hasPers j = true → p = s.pers j → p.fifo = e :: l → p.halted = false →
    p.haltAfter = false → p.judge e = none → tlOp e = 9 →
    exec (.tlStart j) s = .next (s.setPers j { p with fifo := l, used := p.used + 1, startPending := true, started := true })) ∧
  (∀ (s : State) (j : Fin 4) (p : Pers) (e : Nat) (l : List Nat), s.up → s.hasPers j = true → p = s.pers j → p.fifo = e :: l → p.halted = false →
    p.haltAfter = false → p.judge e = none → tlOp e = 10 →
    ∃ t, exec (.tlEnd j) s = .next t ∧ t.pers j = { p with fifo := l, used := p.used + 1, ended := true, ready := p.lines } ∧
      (∀ i : Fin 4, i ≠ j → t.pers i = s.pers i) ∧ t = { s with tl := t.tl, cyc := t.cyc }) ∧
  (∀ (s : State) (j : Fin 4) (p : Pers) (e : Nat) (l : List Nat), s.up → s.hasPers j = true → s.cyc = [] → p = s.pers j → p.fifo = e :: l →
    p.halted = false → p.haltAfter = false → p.judge e = none → tlOp e = 8 → p.state = .idle →
    ∃ t, exec (.tlStripe j) s = .next t ∧ t.pers j = { p with
        fifo := l, state := .armed, lines := tlY e, pixelSel := bits e 9 8, doses := (List.range 16).map (fun d => bits p.dose (4 * d + 3) (4 * d))
        startPending := false, started := false, ended := false, array := none, shapes := [], lastY := 0, ready := 0, ring := 0, beat := 0, sent := 0
        lastEdge := none, damping := false, errInfo := 0, abortLine := 0, used := 0 } ∧
      t.tiles j = { TileQueue.empty with dual := s.fb F.BOB_CFG_DUAL } ∧ t.fd F.BOB_CACHE_HITS_COUNT j = 0 ∧ t.fd F.BOB_CROSSINGS_LO_COUNT j = 0 ∧
      (∀ i : Fin 4, i ≠ j → t.pers i = s.pers i ∧ t.tiles i = s.tiles i) ∧ t = { s with tl := t.tl, bob := t.bob, regs := t.regs, cyc := t.cyc }) ∧
  (∀ (s : State) (j : Fin 4) (p : Pers) (e : Nat) (l : List Nat), s.up → s.hasPers j = true → s.cyc = [] → p = s.pers j → p.fifo = e :: l →
    p.halted = false → p.haltAfter = false → p.judge e = none → tlOp e = 8 → (p.state = .done ∨ p.state = .aborted) →
    ∃ t, exec (.tlStripe j) s = .next t ∧ (t.pers j).state = .armed ∧ (t.pers j).lines = tlY e ∧ (t.pers j).fifo = l ∧ (t.pers j).shapes = [] ∧
      t.tiles j = { TileQueue.empty with dual := s.fb F.BOB_CFG_DUAL } ∧ (s.localPersists = false → t.caril.latch = false ∧ t.fault.aonDamp = false) ∧
      t = { s with tl := t.tl, bob := t.bob, regs := t.regs, caril := t.caril, cyc := t.cyc, fault := { s.fault with aonDamp := t.fault.aonDamp } })

/-- R577, R578, R581 to R584, R327, R328: a committed personality with START_PENDING enters RUN_IN; each edge executes its beat and the first one moves it to
EXPOSING; the frame of the next beat leaves on its four lanes, from the line ring, or the device damps where the ring does not hold its line; DONE follows 2 µs
after entry to RUN_OUT. ABORT and FIFO_RESET end the stripe and a halt, and the second empties the FIFO.
Where the rules leave a point open, these clauses are the model's choice: assumption log 7, 10, 67, 68, 82. -/
def Obligations.TlStripes : Prop :=
  (∀ (s : State) (j : Fin 4) (p : Pers), s.up → s.hasPers j = true → p = s.pers j → p.state = .armed → p.startPending = true → p.committed = true →
    ∃ t, exec (.tlCommitRunIn j) s = .next t ∧
      t.pers j = { p with state := .runIn, startPending := false, beat := 0, sent := 0, lastEdge := none } ∧
      (∀ i : Fin 4, i ≠ j → t.pers i = s.pers i) ∧ t = { s with tl := t.tl, cyc := t.cyc }) ∧
  (∀ (s : State) (j : Fin 4) (p : Pers), s.up → s.hasPers j = true → p = s.pers j →
    (p.state ≠ .armed ∨ p.startPending = false ∨ p.committed = false) → exec (.tlCommitRunIn j) s = .next s) ∧
  (∀ (s : State) (j : Fin 4) (p : Pers), s.up → s.hasPers j = true → p = s.pers j → p.state = .runOut → p.runOutAt + 2000000 ≤ s.now →
    ∃ t, exec (.tlDone j) s = .next t ∧ (t.pers j).state = .done ∧ bit (t.pers j).rc 0 = 1 ∧ (∀ i : Fin 4, i ≠ j → t.pers i = s.pers i) ∧
      t = { s with tl := t.tl, out := t.out, cyc := t.cyc }) ∧
  (∀ (s : State) (j : Fin 4) (p : Pers), s.up → s.hasPers j = true → p = s.pers j → (p.state ≠ .runOut ∨ s.now < p.runOutAt + 2000000) →
    exec (.tlDone j) s = .next s) ∧
  (∀ (s : State) (p : Pers), s.up → s.hasPers 0 = true → s.str.mode = 1 → s.cyc = [] → p = s.pers 0 → p.state = .runIn → p.lastEdge = none → p.beat < p.sent →
    s.stage.extLast = none → s.clock.edges.isOpen = true → s.clock.edges.event ≠ none → p.beat < p.lines + 1007 → min p.lines (p.beat + 65) ≤ p.ring →
    ∃ t, exec .beatExtEdge s = .next t ∧ (t.pers 0).state = .exposing ∧ (t.pers 0).beat = p.beat + 1 ∧ (t.pers 0).beat24 = p.beat % 2 ^ 24 ∧
      (t.pers 0).lastEdge = t.stage.extLast ∧ (t.pers 0).ring = p.ring ∧ t.freeCount = s.freeCount + 1 ∧
      t = { s with regs := t.regs, stage := { s.stage with extLast := t.stage.extLast }, tl := t.tl, clock := t.clock, freeCount := t.freeCount }) ∧
  (∀ (s : State) (j : Fin 4) (p : Pers), s.up → s.hasPers j = true → p = s.pers j →
    ((p.state ≠ .runIn ∧ p.state ≠ .exposing) ∨ p.sent ≠ p.beat) → exec (.tl40FrameStart j) s = .next s) ∧
  (∀ (s : State) (j : Fin 4) (p : Pers), s.up → s.hasPers j = true → p = s.pers j → (p.state = .runIn ∨ p.state = .exposing) → p.sent = p.beat →
    s.generatorOn = false → p.damping = false → p.ring < min p.lines (p.beat + 1) →
    ∃ t, exec (.tl40FrameStart j) s = .next t ∧ (t.pers j).state = .aborted ∧ t.caril.latch = true ∧ t.fault = (s.raise .CAR_LATE_PEAL).fault ∧
      bit (t.pers j).rc 4 = 1 ∧ bit (t.pers j).rc 1 = 1 ∧ t.fd F.PLAN_ABORT_CAUSE_FAULT = FaultCode.num .CAR_LATE_PEAL) ∧
  (∀ (s : State) (j : Fin 4) (p : Pers), s.up → s.hasPers j = true → p = s.pers j → (p.state = .runIn ∨ p.state = .exposing) → p.sent = p.beat →
    s.generatorOn = false → p.damping = false → min p.lines (p.beat + 1) ≤ p.ring → s.tlPoison j p.beat = false → s.glob.jtag.drives = false →
    (∀ n, n < 4 → (s.lane (4 * j + n)).tx = .data) →
    ∃ t, exec (.tl40FrameStart j) s = .next t ∧ t.pers j = { p with sent := p.beat + 1 } ∧
      (∀ n, n < 4 → (t.lane (4 * j + n)).wire = some (s.now + 422400)) ∧
      t.out = ([3, 2, 1, 0].map (fun n => Out.tlFrame (4 * j + n) (tlFrameBytes p.beat (if p.beat = p.lines + 1007 then 2 else 0)
        ((List.range 1024).map (s.tlCode j p.beat n))))) ++ s.out ∧
      t = { s with tl := t.tl, caril := t.caril, out := t.out }) ∧
  (∀ (s : State) (j : Fin 4) (p : Pers) (c : Instr), s.up → s.hasPers j = true → s.cyc = [] → p = s.pers j → (c = .tlAbort j ∨ c = .fifoReset j) →
    p.state.running = true →
    ∃ t, exec c s = .next t ∧ (t.pers j).state = .aborted ∧ (t.pers j).halted = false ∧ (t.pers j).damping = true ∧
      (t.pers j).startPending = false ∧ bit (t.pers j).rc 1 = 1 ∧ (t.tiles j).runs = [] ∧
      (c = .fifoReset j → (t.pers j).fifo = p.fifo.drop 1024 ∧ (t.pers j).part = []) ∧ (∀ i : Fin 4, i ≠ j → t.pers i = s.pers i) ∧
      t = { s with tl := t.tl, bob := t.bob, regs := t.regs, caril := t.caril, out := t.out, cyc := t.cyc }) ∧
  (∀ (s : State) (j : Fin 4) (p : Pers) (c : Instr), s.up → s.hasPers j = true → s.cyc = [] → p = s.pers j → (c = .tlAbort j ∨ c = .fifoReset j) →
    p.state = .armed →
    ∃ t, exec c s = .next t ∧ (t.pers j).state = .idle ∧ (t.pers j).startPending = false ∧ (t.pers j).halted = false ∧ (t.tiles j).runs = [] ∧
      (c = .fifoReset j → (t.pers j).fifo = p.fifo.drop 1024 ∧ (t.pers j).part = []) ∧ (∀ i : Fin 4, i ≠ j → t.pers i = s.pers i) ∧
      t = { s with tl := t.tl, bob := t.bob, regs := t.regs, caril := t.caril, cyc := t.cyc }) ∧
  (∀ (s : State) (j : Fin 4) (p : Pers), s.up → s.hasPers j = true → p = s.pers j → p.state.active = false →
    exec (.tlAbort j) s = .next (s.setPers j { p with halted := false })) ∧
  (∀ (s : State) (j : Fin 4) (p : Pers), s.up → s.hasPers j = true → p = s.pers j → p.state.active = false →
    ∃ t, exec (.fifoReset j) s = .next t ∧ t.pers j = { p with
        halted := false, haltAfter := false, fifo := p.fifo.drop 1024, part := [], array := none
        half := if p.fifo.length ≤ 1024 then none else p.half } ∧
      (∀ i : Fin 4, i ≠ j → t.pers i = s.pers i) ∧ t = { s with tl := t.tl, cyc := t.cyc })

/-- R565, R570, R585, R564: a read of TL_STATUS answers with it and clears its RC bits. A write of TL_FLOW opens and closes the scope 0 of the personality, or
raises LAC_SCOPE_BUSY. A function-level reset aborts, empties and closes. The window of a personality that does not exist does nothing.
Where the rules leave a point open, these clauses are the model's choice: assumption log 34, 55. -/
def Obligations.TlWindow : Prop :=
  (∀ (s : State) (j : Fin 4) (v : BitVec 32) (c : Instr), (s.hasPers j = false ∨ s.glob.ready = false) →
    c ∈ [Instr.tlFifoWrite j v, .tlAbort j, .fifoReset j, .tlStatusRead j, .tlFlowWrite j v, .flrTl40 j, .tlRect j, .tlTrap j, .tlArray j, .tlStripe j,
      .tlStart j, .tlEnd j, .tlCommitRunIn j, .tlDone j, .tl40FrameStart j] → exec c s = .next s) ∧
  (∀ (s : State) (j : Fin 4), s.up → s.hasPers j = true → s.cyc = [] →
    exec (.tlStatusRead j) s = .next ({ s with out := .windowRead j (s.pers j).status :: s.out }.setPers j { s.pers j with rc := 0 })) ∧
  (∀ (s : State) (j : Fin 4) (v : BitVec 32) (p : Pers), s.up → s.hasPers j = true → p = { s.pers j with flow := fld v 5 0, dma := wbit v 6 } →
    wbit v 7 = false → p.src = none → exec (.tlFlowWrite j v) s = .next (s.setPers j p)) ∧
  (∀ (s : State) (j : Fin 4) (v : BitVec 32) (p : Pers), s.up → s.hasPers j = true → p = { s.pers j with flow := fld v 5 0, dma := wbit v 6 } →
    wbit v 7 = false → p.src.isSome = true → p.state.active = true → exec (.tlFlowWrite j v) s = .next ((s.setPers j p).raise .LAC_SCOPE_BUSY)) ∧
  (∀ (s : State) (j : Fin 4) (v : BitVec 32) (p : Pers) (x : TlSource), s.up → s.hasPers j = true →
    p = { s.pers j with flow := fld v 5 0, dma := wbit v 6 } → wbit v 7 = false → p.src = some x → x.dma = true → p.state.active = false →
    exec (.tlFlowWrite j v) s = .next (s.setPers j { p with src := none, half := none, fifo := p.fifo.take 1024 })) ∧
  (∀ (s : State) (j : Fin 4) (v : BitVec 32) (p : Pers), s.up → s.hasPers j = true → p = { s.pers j with flow := fld v 5 0, dma := wbit v 6 } →
    wbit v 7 = true → (p.src.isSome = true ∨ (s.pipePart j).2 < 2 ^ 26) → exec (.tlFlowWrite j v) s = .next ((s.setPers j p).raise .LAC_SCOPE_BUSY)) ∧
  (∀ (s : State) (j : Fin 4) (v : BitVec 32) (p : Pers), s.up → s.hasPers j = true → p = { s.pers j with flow := fld v 5 0, dma := wbit v 6 } →
    wbit v 7 = true → p.src = none → 2 ^ 26 ≤ (s.pipePart j).2 → wbit v 6 = true →
    exec (.tlFlowWrite j v) s = .next (s.setPers j { p with src := some ⟨p.flow, true, p.flowId, none⟩, half := none })) ∧
  (∀ (s : State) (j : Fin 4) (v : BitVec 32) (p : Pers), s.up → s.hasPers j = true → s.cyc = [] → p = { s.pers j with flow := fld v 5 0, dma := wbit v 6 } →
    wbit v 7 = true → p.src = none → 2 ^ 26 ≤ (s.pipePart j).2 → wbit v 6 = false →
    ∃ t, exec (.tlFlowWrite j v) s = .next t ∧ t.pers j = { p with src := some ⟨p.flow, false, p.flowId, none⟩, half := none } ∧
      (∀ i : Fin 4, i ≠ j → t.pers i = s.pers i) ∧
      t = { s with tl := t.tl, regs := t.regs, net := t.net, out := t.out, cyc := t.cyc }) ∧
  (∀ (s : State) (j : Fin 4) (p : Pers), s.up → s.hasPers j = true → p = s.pers j → p.state.active = false → p.src = none →
    ∃ t, exec (.flrTl40 j) s = .next t ∧ t.pers j = { p with
        halted := false, haltAfter := false, fifo := p.fifo.drop 1024, part := [], array := none
        half := if p.fifo.length ≤ 1024 then none else p.half
        irqMask := 0, dose := 0, flow := 0, dma := false, flowId := 0, errInfo := 0, abortLine := 0, rc := 0, msiOn := false } ∧
      (∀ i : Fin 4, i ≠ j → t.pers i = s.pers i) ∧ t = { s with tl := t.tl, cyc := t.cyc }) ∧
  (∀ (s : State) (j : Fin 4) (p : Pers), s.up → s.hasPers j = true → p = s.pers j → p.state.running = true →
    ∃ t, exec (.flrTl40 j) s = .next t ∧ (t.pers j).state = .aborted ∧ (t.pers j).src = none ∧ (t.pers j).rc = 0 ∧ (t.pers j).damping = true ∧
      (∀ i : Fin 4, i ≠ j → t.pers i = s.pers i) ∧ t.fault = (s.raise .RST_FLR_ABORT).fault)
end

