-- ==== Sys2Proof/Laws/Sparse.lean ====
section
/-! SUPPORT. The laws of sparse tables: a read after a write gives what was written, a write leaves every other index alone, and
every operation keeps the canonical form. -/

namespace Sys2Proof.Machine

variable {α : Type}

/-! ## Bounds -/

theorem Sparse.above_iff {n : Nat} {t : Sparse α} : Sparse.above n t = true ↔ ∀ p ∈ t, n ≤ p.1 := by
  simp [Sparse.above]

theorem Sparse.sorted_cons {i : Nat} {v : α} {r : Sparse α} :
    Sparse.sorted ((i, v) :: r) = true ↔ Sparse.above (i + 1) r = true ∧ Sparse.sorted r = true := by
  simp [Sparse.sorted]

theorem Sparse.wf_iff [DecidableEq α] {d : α} {t : Sparse α} :
    Sparse.wf d t = true ↔ Sparse.sorted t = true ∧ ∀ p ∈ t, p.2 ≠ d := by
  simp [Sparse.wf]

/-- The entries of a sorted table have different indexes. -/
theorem Sparse.sorted_iff {t : Sparse α} : Sparse.sorted t = true ↔ t.Pairwise (fun a b => a.1 < b.1) := by
  induction t with
  | nil => simp [Sparse.sorted]
  | cons a r ih =>
    rw [show a = (a.1, a.2) from rfl, Sparse.sorted_cons, List.pairwise_cons, ih, Sparse.above_iff]
    exact and_congr (forall₂_congr fun p _ => Nat.succ_le_iff) Iff.rfl

/-! ## Put and erase -/

theorem Sparse.put_mem {t : Sparse α} {k : Nat} {v : α} {p : Nat × α} (h : p ∈ Sparse.put t k v) : p = (k, v) ∨ p ∈ t := by
  induction t with
  | nil => simpa [Sparse.put] using h
  | cons a r ih =>
    simp only [Sparse.put] at h
    split at h
    · simpa using h
    split at h
    · rcases List.mem_cons.1 h with h | h
      · exact .inl h
      · exact .inr (List.mem_cons_of_mem _ h)
    · rcases List.mem_cons.1 h with h | h
      · exact .inr (h ▸ List.mem_cons_self)
      · exact (ih h).imp id (List.mem_cons_of_mem _)

theorem Sparse.erase_mem {t : Sparse α} {k : Nat} {p : Nat × α} (h : p ∈ Sparse.erase t k) : p ∈ t := (List.mem_filter.1 h).1

theorem Sparse.put_sorted {t : Sparse α} (k : Nat) (v : α) (h : Sparse.sorted t = true) : Sparse.sorted (Sparse.put t k v) = true := by
  induction t with
  | nil => simp [Sparse.put, Sparse.sorted, Sparse.above]
  | cons a r ih =>
    obtain ⟨ha, hr⟩ := Sparse.sorted_cons.1 h
    simp only [Sparse.put]
    split
    · rename_i hk
      refine Sparse.sorted_cons.2 ⟨Sparse.above_iff.2 fun p hp => ?_, h⟩
      rcases List.mem_cons.1 hp with hp | hp
      · subst hp; exact hk
      · have := Sparse.above_iff.1 ha p hp; omega
    split
    · rename_i _ hk
      exact Sparse.sorted_cons.2 ⟨hk ▸ ha, hr⟩
    · rename_i h1 h2
      refine Sparse.sorted_cons.2 ⟨Sparse.above_iff.2 fun p hp => ?_, ih hr⟩
      rcases Sparse.put_mem hp with hp | hp
      · subst hp; simp only; omega
      · exact Sparse.above_iff.1 ha p hp

theorem Sparse.filter_sorted {t : Sparse α} (f : Nat × α → Bool) (h : Sparse.sorted t = true) : Sparse.sorted (t.filter f) = true := by
  rw [Sparse.sorted_iff] at *
  exact h.filter f

theorem Sparse.erase_sorted {t : Sparse α} (k : Nat) (h : Sparse.sorted t = true) : Sparse.sorted (Sparse.erase t k) = true :=
  Sparse.filter_sorted _ h

theorem Sparse.find?_put (t : Sparse α) (k : Nat) (v : α) (j : Nat) :
    Sparse.find? (Sparse.put t k v) j = if j = k then some v else Sparse.find? t j := by
  induction t with
  | nil => simp [Sparse.put, Sparse.find?]
  | cons a r ih =>
    simp only [Sparse.put]
    split
    · simp [Sparse.find?]
    split
    · rename_i hk
      simp only [Sparse.find?, ← hk]
      split <;> simp_all
    · rename_i h2
      simp only [Sparse.find?, ih]
      by_cases hj : j = k
      · rw [if_neg (by omega)]; simp [hj]
      · simp [hj]

/-- Dropping entries of other indexes changes no read. -/
theorem Sparse.find?_filter (t : Sparse α) (f : Nat × α → Bool) (j : Nat) (hf : ∀ v, f (j, v) = true) :
    Sparse.find? (t.filter f) j = Sparse.find? t j := by
  induction t with
  | nil => rfl
  | cons a r ih =>
    simp only [List.filter_cons, Sparse.find?]
    split
    · simp only [Sparse.find?, ih]
    · rename_i h
      have : ¬ j = a.1 := by rintro rfl; exact h (hf a.2)
      rw [if_neg this, ih]

/-- Nothing is read where every entry of the index has been dropped. -/
theorem Sparse.find?_filter_none (t : Sparse α) (f : Nat × α → Bool) (j : Nat) (hf : ∀ v, f (j, v) = false) :
    Sparse.find? (t.filter f) j = none := by
  induction t with
  | nil => rfl
  | cons a r ih =>
    simp only [List.filter_cons]
    split
    · rename_i h
      have : ¬ j = a.1 := by rintro rfl; rw [hf a.2] at h; cases h
      simp only [Sparse.find?, if_neg this, ih]
    · exact ih

theorem Sparse.find?_erase (t : Sparse α) (k j : Nat) :
    Sparse.find? (Sparse.erase t k) j = if j = k then none else Sparse.find? t j := by
  split
  · rename_i h; exact Sparse.find?_filter_none _ _ _ (fun v => by simp [h])
  · rename_i h; exact Sparse.find?_filter _ _ _ (fun v => by simp [h])

/-! ## Get and set -/

/-- A read after a write. -/
theorem Sparse.get_set [DecidableEq α] (d : α) (t : Sparse α) (k : Nat) (v : α) (j : Nat) :
    Sparse.get d (Sparse.set d t k v) j = if j = k then v else Sparse.get d t j := by
  simp only [Sparse.get, Sparse.set]
  split
  · rename_i hv
    rw [Sparse.find?_erase]
    split <;> simp_all
  · rw [Sparse.find?_put]
    split <;> simp_all

theorem Sparse.wf_set [DecidableEq α] {d : α} {t : Sparse α} (k : Nat) (v : α) (h : Sparse.wf d t = true) :
    Sparse.wf d (Sparse.set d t k v) = true := by
  rw [Sparse.wf_iff] at *
  simp only [Sparse.set]
  split
  · exact ⟨Sparse.erase_sorted k h.1, fun p hp => h.2 p (Sparse.erase_mem hp)⟩
  · rename_i hv
    refine ⟨Sparse.put_sorted k v h.1, fun p hp => ?_⟩
    rcases Sparse.put_mem hp with hp | hp
    · subst hp; exact hv
    · exact h.2 p hp

theorem Sparse.wf_filter [DecidableEq α] {d : α} {t : Sparse α} (f : Nat × α → Bool) (h : Sparse.wf d t = true) :
    Sparse.wf d (t.filter f) = true := by
  rw [Sparse.wf_iff] at *
  exact ⟨Sparse.filter_sorted f h.1, fun p hp => h.2 p ((List.mem_filter.1 hp).1)⟩

theorem Sparse.wf_clear [DecidableEq α] {d : α} {t : Sparse α} (k n : Nat) (h : Sparse.wf d t = true) :
    Sparse.wf d (Sparse.clear t k n) = true := Sparse.wf_filter _ h

theorem Sparse.wf_nil [DecidableEq α] (d : α) : Sparse.wf d ([] : Sparse α) = true := rfl

/-! ## Runs of values -/

theorem Sparse.listed_mem [DecidableEq α] {d : α} {k : Nat} {l : List α} {p : Nat × α} (h : p ∈ Sparse.listed d k l) :
    k ≤ p.1 ∧ p.1 < k + l.length ∧ p.2 ≠ d := by
  induction l generalizing k with
  | nil => simp [Sparse.listed] at h
  | cons v r ih =>
    simp only [Sparse.listed] at h
    simp only [List.length_cons]
    split at h
    · have := ih h; exact ⟨by omega, by omega, this.2.2⟩
    · rename_i hv
      rcases List.mem_cons.1 h with h | h
      · subst h; exact ⟨Nat.le_refl _, by simp, hv⟩
      · have := ih h; exact ⟨by omega, by omega, this.2.2⟩

theorem Sparse.listed_sorted [DecidableEq α] (d : α) (k : Nat) (l : List α) : Sparse.sorted (Sparse.listed d k l) = true := by
  induction l generalizing k with
  | nil => rfl
  | cons v r ih =>
    simp only [Sparse.listed]
    split
    · exact ih (k + 1)
    · exact Sparse.sorted_cons.2 ⟨Sparse.above_iff.2 fun p hp => (Sparse.listed_mem hp).1, ih (k + 1)⟩

theorem Sparse.append_sorted {a b : Sparse α} (ha : Sparse.sorted a = true) (hb : Sparse.sorted b = true)
    (h : ∀ p ∈ a, ∀ q ∈ b, p.1 < q.1) : Sparse.sorted (a ++ b) = true := by
  rw [Sparse.sorted_iff] at *
  exact List.pairwise_append.2 ⟨ha, hb, h⟩

theorem Sparse.wf_setRange [DecidableEq α] {d : α} {t : Sparse α} (k : Nat) (l : List α) (h : Sparse.wf d t = true) :
    Sparse.wf d (Sparse.setRange d t k l) = true := by
  rw [Sparse.wf_iff] at *
  simp only [Sparse.setRange]
  constructor
  · refine Sparse.append_sorted (Sparse.filter_sorted _ h.1)
      (Sparse.append_sorted (Sparse.listed_sorted d k l) (Sparse.filter_sorted _ h.1) ?_) ?_
    · intro p hp q hq
      have := Sparse.listed_mem hp
      have := of_decide_eq_true (List.mem_filter.1 hq).2
      omega
    · intro p hp q hq
      have := of_decide_eq_true (List.mem_filter.1 hp).2
      rcases List.mem_append.1 hq with hq | hq
      · have := (Sparse.listed_mem hq).1; omega
      · have := of_decide_eq_true (List.mem_filter.1 hq).2; omega
  · intro p hp
    rcases List.mem_append.1 hp with hp | hp
    · exact h.2 p ((List.mem_filter.1 hp).1)
    rcases List.mem_append.1 hp with hp | hp
    · exact (Sparse.listed_mem hp).2.2
    · exact h.2 p ((List.mem_filter.1 hp).1)

theorem Sparse.find?_append (a b : Sparse α) (j : Nat) :
    Sparse.find? (a ++ b) j = (Sparse.find? a j).or (Sparse.find? b j) := by
  induction a with
  | nil => simp [Sparse.find?]
  | cons x r ih =>
    simp only [List.cons_append, Sparse.find?, ih]
    split <;> simp

theorem Sparse.get_listed [DecidableEq α] (d : α) (k : Nat) (l : List α) (j : Nat) :
    Sparse.get d (Sparse.listed d k l) j = if k ≤ j then l.getD (j - k) d else d := by
  induction l generalizing k with
  | nil => simp [Sparse.listed, Sparse.get, Sparse.find?]
  | cons v r ih =>
    simp only [Sparse.listed]
    by_cases hj : j = k
    · subst hj
      split
      · rename_i hv
        rw [ih, if_neg (by omega)]; simp [hv]
      · simp [Sparse.get, Sparse.find?]
    · split
      · rw [ih]
        by_cases hk : k ≤ j
        · rw [if_pos (by omega), if_pos hk, show j - k = (j - (k + 1)) + 1 from by omega]; rfl
        · rw [if_neg (by omega), if_neg hk]
      · have e : Sparse.get d ((k, v) :: Sparse.listed d (k + 1) r) j = Sparse.get d (Sparse.listed d (k + 1) r) j := by
          simp only [Sparse.get, Sparse.find?, if_neg hj]
        rw [e, ih]
        by_cases hk : k ≤ j
        · rw [if_pos (by omega), if_pos hk, show j - k = (j - (k + 1)) + 1 from by omega]; rfl
        · rw [if_neg (by omega), if_neg hk]

/-- A read after a run of values is stored: the values of the run inside it, the old value outside it. -/
theorem Sparse.get_setRange [DecidableEq α] (d : α) (t : Sparse α) (k : Nat) (l : List α) (j : Nat) :
    Sparse.get d (Sparse.setRange d t k l) j = if k ≤ j ∧ j < k + l.length then l.getD (j - k) d else Sparse.get d t j := by
  have hl := Sparse.get_listed d k l j
  simp only [Sparse.get] at hl
  have hn : ∀ {n : Nat} (x : List α), (∀ v, (j, v) ∉ Sparse.listed d n x) → Sparse.find? (Sparse.listed d n x) j = none := by
    intro n x hx
    induction x generalizing n with
    | nil => rfl
    | cons v r ih =>
      simp only [Sparse.listed] at hx ⊢
      split at hx
      · rw [if_pos ‹_›]; exact ih hx
      · rw [if_neg ‹_›]
        have h1 : ¬ j = n := by rintro rfl; exact hx v List.mem_cons_self
        simp only [Sparse.find?, if_neg h1]
        exact ih fun w hw => hx w (List.mem_cons_of_mem _ hw)
  simp only [Sparse.get, Sparse.setRange, Sparse.find?_append]
  by_cases h1 : j < k
  · rw [if_neg (by omega), Sparse.find?_filter _ _ _ (fun v => by simpa using h1),
      hn l (fun v hv => by have := Sparse.listed_mem hv; simp only at this; omega),
      Sparse.find?_filter_none _ _ _ (fun v => by simp; omega)]
    simp
  · rw [Sparse.find?_filter_none _ _ _ (fun v => by simpa using h1)]
    by_cases h2 : j < k + l.length
    · rw [if_pos ⟨by omega, h2⟩, Sparse.find?_filter_none _ _ j (fun v => by simp; omega)]
      rw [if_pos (by omega)] at hl
      simpa using hl
    · rw [if_neg (by omega), hn l (fun v hv => by have := Sparse.listed_mem hv; simp only at this; omega),
        Sparse.find?_filter _ _ j (fun v => by simp; omega)]
      simp

end Sys2Proof.Machine
end

