-- ==== Sys2Proof/Laws/RegFile.lean ====
section
/-! SUPPORT. The laws of the register file: a write to one instance of a register is read back there and leaves every other
register and instance alone; every write keeps the canonical form; fields of one word are independent. -/

namespace Sys2Proof.Machine

set_option maxRecDepth 4000 in
/-- The register map gives every register back at its own offset (Table 21-6). -/
theorem Reg.at?_offset (r : Reg) : Reg.at? r.offset = some (r, 0) := by cases r <;> rfl

theorem Reg.offset_inj {r q : Reg} (h : r.offset = q.offset) : r = q := by
  have h1 := Reg.at?_offset r
  rw [h, Reg.at?_offset q] at h1
  simpa using h1.symm

theorem Reg.key_div (r : Reg) (i : Nat) : r.key i / 65536 = r.offset := by
  simp only [Reg.key]; omega

theorem Reg.key_mod (r : Reg) (i : Nat) : r.key i % 65536 = i % 65536 := by
  simp only [Reg.key]; omega

theorem Reg.key_inj {r q : Reg} {i j : Nat} : r.key i = q.key j ↔ r = q ∧ i % 65536 = j % 65536 := by
  constructor
  · intro h
    have hd := congrArg (· / 65536) h
    have hm := congrArg (· % 65536) h
    simp only [Reg.key_div, Reg.key_mod] at hd hm
    exact ⟨Reg.offset_inj hd, hm⟩
  · rintro ⟨rfl, h⟩
    simp only [Reg.key, h]

theorem RegFile.wf_iff {f : RegFile} : f.wf = true ↔ Sparse.sorted f = true ∧ ∀ p ∈ f, ∃ r w, Reg.at? (p.1 / 65536) = some (r, w) ∧
    r.key (p.1 % 65536) = p.1 ∧ p.2 ≠ r.reset (p.1 % 65536) := by
  simp only [RegFile.wf, Bool.and_eq_true, List.all_eq_true]
  refine and_congr Iff.rfl (forall₂_congr fun p _ => ?_)
  split
  · rename_i r w h
    simp only [h, Bool.and_eq_true, decide_eq_true_eq, Option.some.injEq, Prod.mk.injEq]
    constructor
    · intro e; exact ⟨r, w, ⟨rfl, rfl⟩, e⟩
    · rintro ⟨r', w', ⟨rfl, rfl⟩, e⟩; exact e
  · rename_i h
    simp [h]

theorem RegFile.wf_nil : RegFile.wf [] = true := rfl

/-- Writing a word keeps the canonical form. -/
theorem RegFile.wf_set {f : RegFile} (r : Reg) (i : Nat) (w : Word) (h : f.wf = true) : (f.set r i w).wf = true := by
  rw [RegFile.wf_iff] at *
  simp only [RegFile.set]
  split
  · exact ⟨Sparse.erase_sorted _ h.1, fun p hp => h.2 p (Sparse.erase_mem hp)⟩
  · rename_i hw
    refine ⟨Sparse.put_sorted _ _ h.1, fun p hp => ?_⟩
    rcases Sparse.put_mem hp with hp | hp
    · subst hp
      refine ⟨r, 0, ?_, ?_, ?_⟩
      · simp only [Reg.key_div, Reg.at?_offset]
      · simp [Reg.key]
      · simpa only [Reg.key_mod] using hw
    · exact h.2 p hp

theorem RegFile.wf_setFld {f : RegFile} (x : RegField) (i v : Nat) (h : f.wf = true) : (f.setFld x i v).wf = true :=
  RegFile.wf_set _ _ _ h

theorem RegFile.wf_filter {f : RegFile} (g : Nat × Word → Bool) (h : f.wf = true) : RegFile.wf (f.filter g) = true := by
  rw [RegFile.wf_iff] at *
  exact ⟨Sparse.filter_sorted g h.1, fun p hp => h.2 p (List.mem_filter.1 hp).1⟩

/-- A read after a write. -/
theorem RegFile.get_set (f : RegFile) (r : Reg) (i : Nat) (w : Word) (q : Reg) (j : Nat) :
    (f.set r i w).get q j = if q = r ∧ j % 65536 = i % 65536 then w else f.get q j := by
  simp only [RegFile.get, RegFile.set]
  split
  · rename_i hw
    rw [Sparse.find?_erase]
    by_cases hq : q = r ∧ j % 65536 = i % 65536
    · rw [if_pos (Reg.key_inj.2 hq), if_pos hq, hw, hq.1, hq.2]; rfl
    · rw [if_neg (fun e => hq (Reg.key_inj.1 e)), if_neg hq]
  · rw [Sparse.find?_put]
    by_cases hq : q = r ∧ j % 65536 = i % 65536
    · rw [if_pos (Reg.key_inj.2 hq), if_pos hq]; rfl
    · rw [if_neg (fun e => hq (Reg.key_inj.1 e)), if_neg hq]

/-- Another register, or another instance, is left alone. -/
theorem RegFile.get_set_ne (f : RegFile) {r q : Reg} {i j : Nat} (w : Word)
    (hq : ¬ (q = r ∧ j % 65536 = i % 65536)) : (f.set r i w).get q j = f.get q j := by
  rw [RegFile.get_set, if_neg hq]

/-! ## Fields -/

theorem testBit_bits (x hi lo i : Nat) : (bits x hi lo).testBit i = (decide (i < hi + 1 - lo) && x.testBit (lo + i)) := by
  simp only [bits, Nat.testBit_mod_two_pow, Nat.testBit_div_two_pow, Nat.add_comm]

theorem getLsbD_setFld (w : Word) (hi lo v i : Nat) (hi32 : i < 32) :
    (setFld w hi lo v).getLsbD i = if lo ≤ i ∧ i < hi + 1 then v.testBit (i - lo) else w.getLsbD i := by
  simp only [setFld, BitVec.getLsbD_or, BitVec.getLsbD_and, BitVec.getLsbD_not, BitVec.getLsbD_ofNat, hi32, decide_true,
    Bool.true_and, Nat.testBit_mul_two_pow, Nat.testBit_mod_two_pow]
  by_cases h1 : lo ≤ i
  · by_cases h2 : i < hi + 1
    · rw [if_pos ⟨h1, h2⟩]
      have h3 : i - lo < hi + 1 - lo := by omega
      simp [h1, h3]
    · rw [if_neg (fun e => h2 e.2)]
      have h3 : ¬ (i - lo < hi + 1 - lo) := by omega
      simp [h3]
  · rw [if_neg (fun e => h1 e.1)]
    simp [h1]

/-- A field reads back what was written to it. -/
theorem bits_setFld_same (w : Word) {hi lo : Nat} (v : Nat) (h : hi < 32) :
    bits (setFld w hi lo v).toNat hi lo = v % 2 ^ (hi + 1 - lo) := by
  apply Nat.eq_of_testBit_eq
  intro i
  rw [testBit_bits, Nat.testBit_mod_two_pow, BitVec.testBit_toNat]
  by_cases hi' : i < hi + 1 - lo
  · rw [getLsbD_setFld _ _ _ _ _ (by omega), if_pos (by omega), Nat.add_sub_cancel_left]
  · simp [hi']

/-- A field outside the written one keeps its value. -/
theorem bits_setFld_other (w : Word) {hi lo hi' lo' : Nat} (v : Nat) (h : hi' < 32) (hd : hi' < lo ∨ hi < lo') :
    bits (setFld w hi lo v).toNat hi' lo' = bits w.toNat hi' lo' := by
  apply Nat.eq_of_testBit_eq
  intro i
  rw [testBit_bits, testBit_bits, BitVec.testBit_toNat, BitVec.testBit_toNat]
  by_cases hi'' : i < hi' + 1 - lo'
  · rw [getLsbD_setFld _ _ _ _ _ (by omega), if_neg (by omega)]
  · simp [hi'']

end Sys2Proof.Machine
end

