-- ==== Sys2Proof/Laws/State.lean ====
section
/-! SUPPORT. What each update of the state leaves alone: one lemma per field and update, so that no proof unfolds an update. -/

namespace Sys2Proof.Machine

variable (s : State)

/-! ### setFd -/
@[simp] theorem State.setFd_pending (x : RegField) (v i : Nat) : (s.setFd x v i).pending = s.pending := rfl
@[simp] theorem State.setFd_now (x : RegField) (v i : Nat) : (s.setFd x v i).now = s.now := rfl
@[simp] theorem State.setFd_cyc (x : RegField) (v i : Nat) : (s.setFd x v i).cyc = s.cyc := rfl
@[simp] theorem State.setFd_freeCount (x : RegField) (v i : Nat) : (s.setFd x v i).freeCount = s.freeCount := rfl
@[simp] theorem State.setFd_out (x : RegField) (v i : Nat) : (s.setFd x v i).out = s.out := rfl
@[simp] theorem State.setFd_str (x : RegField) (v i : Nat) : (s.setFd x v i).str = s.str := rfl
@[simp] theorem State.setFd_glob (x : RegField) (v i : Nat) : (s.setFd x v i).glob = s.glob := rfl
@[simp] theorem State.setFd_prick (x : RegField) (v i : Nat) : (s.setFd x v i).prick = s.prick := rfl
@[simp] theorem State.setFd_fault (x : RegField) (v i : Nat) : (s.setFd x v i).fault = s.fault := rfl
@[simp] theorem State.setFd_snap (x : RegField) (v i : Nat) : (s.setFd x v i).snap = s.snap := rfl
@[simp] theorem State.setFd_smbus (x : RegField) (v i : Nat) : (s.setFd x v i).smbus = s.smbus := rfl
@[simp] theorem State.setFd_lace (x : RegField) (v i : Nat) : (s.setFd x v i).lace = s.lace := rfl
@[simp] theorem State.setFd_bob (x : RegField) (v i : Nat) : (s.setFd x v i).bob = s.bob := rfl
@[simp] theorem State.setFd_corr (x : RegField) (v i : Nat) : (s.setFd x v i).corr = s.corr := rfl
@[simp] theorem State.setFd_store (x : RegField) (v i : Nat) : (s.setFd x v i).store = s.store := rfl
@[simp] theorem State.setFd_plan (x : RegField) (v i : Nat) : (s.setFd x v i).plan = s.plan := rfl
@[simp] theorem State.setFd_caril (x : RegField) (v i : Nat) : (s.setFd x v i).caril = s.caril := rfl
@[simp] theorem State.setFd_stage (x : RegField) (v i : Nat) : (s.setFd x v i).stage = s.stage := rfl
@[simp] theorem State.setFd_cad (x : RegField) (v i : Nat) : (s.setFd x v i).cad = s.cad := rfl
@[simp] theorem State.setFd_track (x : RegField) (v i : Nat) : (s.setFd x v i).track = s.track := rfl
@[simp] theorem State.setFd_net (x : RegField) (v i : Nat) : (s.setFd x v i).net = s.net := rfl
@[simp] theorem State.setFd_time (x : RegField) (v i : Nat) : (s.setFd x v i).time = s.time := rfl
@[simp] theorem State.setFd_hbm (x : RegField) (v i : Nat) : (s.setFd x v i).hbm = s.hbm := rfl
@[simp] theorem State.setFd_check (x : RegField) (v i : Nat) : (s.setFd x v i).check = s.check := rfl
@[simp] theorem State.setFd_dma (x : RegField) (v i : Nat) : (s.setFd x v i).dma = s.dma := rfl
@[simp] theorem State.setFd_clock (x : RegField) (v i : Nat) : (s.setFd x v i).clock = s.clock := rfl
@[simp] theorem State.setFd_power (x : RegField) (v i : Nat) : (s.setFd x v i).power = s.power := rfl
@[simp] theorem State.setFd_tl (x : RegField) (v i : Nat) : (s.setFd x v i).tl = s.tl := rfl
@[simp] theorem State.setFd_dram (x : RegField) (v i : Nat) : (s.setFd x v i).dram = s.dram := rfl
@[simp] theorem State.setFd_dramMark (x : RegField) (v i : Nat) : (s.setFd x v i).dramMark = s.dramMark := rfl

/-! ### setRg -/
@[simp] theorem State.setRg_pending (r : Reg) (w : Word) (i : Nat) : (s.setRg r w i).pending = s.pending := rfl
@[simp] theorem State.setRg_now (r : Reg) (w : Word) (i : Nat) : (s.setRg r w i).now = s.now := rfl
@[simp] theorem State.setRg_cyc (r : Reg) (w : Word) (i : Nat) : (s.setRg r w i).cyc = s.cyc := rfl
@[simp] theorem State.setRg_freeCount (r : Reg) (w : Word) (i : Nat) : (s.setRg r w i).freeCount = s.freeCount := rfl
@[simp] theorem State.setRg_out (r : Reg) (w : Word) (i : Nat) : (s.setRg r w i).out = s.out := rfl
@[simp] theorem State.setRg_str (r : Reg) (w : Word) (i : Nat) : (s.setRg r w i).str = s.str := rfl
@[simp] theorem State.setRg_glob (r : Reg) (w : Word) (i : Nat) : (s.setRg r w i).glob = s.glob := rfl
@[simp] theorem State.setRg_prick (r : Reg) (w : Word) (i : Nat) : (s.setRg r w i).prick = s.prick := rfl
@[simp] theorem State.setRg_fault (r : Reg) (w : Word) (i : Nat) : (s.setRg r w i).fault = s.fault := rfl
@[simp] theorem State.setRg_snap (r : Reg) (w : Word) (i : Nat) : (s.setRg r w i).snap = s.snap := rfl
@[simp] theorem State.setRg_smbus (r : Reg) (w : Word) (i : Nat) : (s.setRg r w i).smbus = s.smbus := rfl
@[simp] theorem State.setRg_lace (r : Reg) (w : Word) (i : Nat) : (s.setRg r w i).lace = s.lace := rfl
@[simp] theorem State.setRg_bob (r : Reg) (w : Word) (i : Nat) : (s.setRg r w i).bob = s.bob := rfl
@[simp] theorem State.setRg_corr (r : Reg) (w : Word) (i : Nat) : (s.setRg r w i).corr = s.corr := rfl
@[simp] theorem State.setRg_store (r : Reg) (w : Word) (i : Nat) : (s.setRg r w i).store = s.store := rfl
@[simp] theorem State.setRg_plan (r : Reg) (w : Word) (i : Nat) : (s.setRg r w i).plan = s.plan := rfl
@[simp] theorem State.setRg_caril (r : Reg) (w : Word) (i : Nat) : (s.setRg r w i).caril = s.caril := rfl
@[simp] theorem State.setRg_stage (r : Reg) (w : Word) (i : Nat) : (s.setRg r w i).stage = s.stage := rfl
@[simp] theorem State.setRg_cad (r : Reg) (w : Word) (i : Nat) : (s.setRg r w i).cad = s.cad := rfl
@[simp] theorem State.setRg_track (r : Reg) (w : Word) (i : Nat) : (s.setRg r w i).track = s.track := rfl
@[simp] theorem State.setRg_net (r : Reg) (w : Word) (i : Nat) : (s.setRg r w i).net = s.net := rfl
@[simp] theorem State.setRg_time (r : Reg) (w : Word) (i : Nat) : (s.setRg r w i).time = s.time := rfl
@[simp] theorem State.setRg_hbm (r : Reg) (w : Word) (i : Nat) : (s.setRg r w i).hbm = s.hbm := rfl
@[simp] theorem State.setRg_check (r : Reg) (w : Word) (i : Nat) : (s.setRg r w i).check = s.check := rfl
@[simp] theorem State.setRg_dma (r : Reg) (w : Word) (i : Nat) : (s.setRg r w i).dma = s.dma := rfl
@[simp] theorem State.setRg_clock (r : Reg) (w : Word) (i : Nat) : (s.setRg r w i).clock = s.clock := rfl
@[simp] theorem State.setRg_power (r : Reg) (w : Word) (i : Nat) : (s.setRg r w i).power = s.power := rfl
@[simp] theorem State.setRg_tl (r : Reg) (w : Word) (i : Nat) : (s.setRg r w i).tl = s.tl := rfl
@[simp] theorem State.setRg_dram (r : Reg) (w : Word) (i : Nat) : (s.setRg r w i).dram = s.dram := rfl
@[simp] theorem State.setRg_dramMark (r : Reg) (w : Word) (i : Nat) : (s.setRg r w i).dramMark = s.dramMark := rfl

/-! ### bump -/
@[simp] theorem State.bump_pending (x : RegField) (n i : Nat) : (s.bump x n i).pending = s.pending := rfl
@[simp] theorem State.bump_now (x : RegField) (n i : Nat) : (s.bump x n i).now = s.now := rfl
@[simp] theorem State.bump_cyc (x : RegField) (n i : Nat) : (s.bump x n i).cyc = s.cyc := rfl
@[simp] theorem State.bump_freeCount (x : RegField) (n i : Nat) : (s.bump x n i).freeCount = s.freeCount := rfl
@[simp] theorem State.bump_out (x : RegField) (n i : Nat) : (s.bump x n i).out = s.out := rfl
@[simp] theorem State.bump_str (x : RegField) (n i : Nat) : (s.bump x n i).str = s.str := rfl
@[simp] theorem State.bump_glob (x : RegField) (n i : Nat) : (s.bump x n i).glob = s.glob := rfl
@[simp] theorem State.bump_prick (x : RegField) (n i : Nat) : (s.bump x n i).prick = s.prick := rfl
@[simp] theorem State.bump_fault (x : RegField) (n i : Nat) : (s.bump x n i).fault = s.fault := rfl
@[simp] theorem State.bump_snap (x : RegField) (n i : Nat) : (s.bump x n i).snap = s.snap := rfl
@[simp] theorem State.bump_smbus (x : RegField) (n i : Nat) : (s.bump x n i).smbus = s.smbus := rfl
@[simp] theorem State.bump_lace (x : RegField) (n i : Nat) : (s.bump x n i).lace = s.lace := rfl
@[simp] theorem State.bump_bob (x : RegField) (n i : Nat) : (s.bump x n i).bob = s.bob := rfl
@[simp] theorem State.bump_corr (x : RegField) (n i : Nat) : (s.bump x n i).corr = s.corr := rfl
@[simp] theorem State.bump_store (x : RegField) (n i : Nat) : (s.bump x n i).store = s.store := rfl
@[simp] theorem State.bump_plan (x : RegField) (n i : Nat) : (s.bump x n i).plan = s.plan := rfl
@[simp] theorem State.bump_caril (x : RegField) (n i : Nat) : (s.bump x n i).caril = s.caril := rfl
@[simp] theorem State.bump_stage (x : RegField) (n i : Nat) : (s.bump x n i).stage = s.stage := rfl
@[simp] theorem State.bump_cad (x : RegField) (n i : Nat) : (s.bump x n i).cad = s.cad := rfl
@[simp] theorem State.bump_track (x : RegField) (n i : Nat) : (s.bump x n i).track = s.track := rfl
@[simp] theorem State.bump_net (x : RegField) (n i : Nat) : (s.bump x n i).net = s.net := rfl
@[simp] theorem State.bump_time (x : RegField) (n i : Nat) : (s.bump x n i).time = s.time := rfl
@[simp] theorem State.bump_hbm (x : RegField) (n i : Nat) : (s.bump x n i).hbm = s.hbm := rfl
@[simp] theorem State.bump_check (x : RegField) (n i : Nat) : (s.bump x n i).check = s.check := rfl
@[simp] theorem State.bump_dma (x : RegField) (n i : Nat) : (s.bump x n i).dma = s.dma := rfl
@[simp] theorem State.bump_clock (x : RegField) (n i : Nat) : (s.bump x n i).clock = s.clock := rfl
@[simp] theorem State.bump_power (x : RegField) (n i : Nat) : (s.bump x n i).power = s.power := rfl
@[simp] theorem State.bump_tl (x : RegField) (n i : Nat) : (s.bump x n i).tl = s.tl := rfl
@[simp] theorem State.bump_dram (x : RegField) (n i : Nat) : (s.bump x n i).dram = s.dram := rfl
@[simp] theorem State.bump_dramMark (x : RegField) (n i : Nat) : (s.bump x n i).dramMark = s.dramMark := rfl

/-! ### bumpWrap -/
@[simp] theorem State.bumpWrap_pending (x : RegField) (n i : Nat) : (s.bumpWrap x n i).pending = s.pending := rfl
@[simp] theorem State.bumpWrap_now (x : RegField) (n i : Nat) : (s.bumpWrap x n i).now = s.now := rfl
@[simp] theorem State.bumpWrap_cyc (x : RegField) (n i : Nat) : (s.bumpWrap x n i).cyc = s.cyc := rfl
@[simp] theorem State.bumpWrap_freeCount (x : RegField) (n i : Nat) : (s.bumpWrap x n i).freeCount = s.freeCount := rfl
@[simp] theorem State.bumpWrap_out (x : RegField) (n i : Nat) : (s.bumpWrap x n i).out = s.out := rfl
@[simp] theorem State.bumpWrap_str (x : RegField) (n i : Nat) : (s.bumpWrap x n i).str = s.str := rfl
@[simp] theorem State.bumpWrap_glob (x : RegField) (n i : Nat) : (s.bumpWrap x n i).glob = s.glob := rfl
@[simp] theorem State.bumpWrap_prick (x : RegField) (n i : Nat) : (s.bumpWrap x n i).prick = s.prick := rfl
@[simp] theorem State.bumpWrap_fault (x : RegField) (n i : Nat) : (s.bumpWrap x n i).fault = s.fault := rfl
@[simp] theorem State.bumpWrap_snap (x : RegField) (n i : Nat) : (s.bumpWrap x n i).snap = s.snap := rfl
@[simp] theorem State.bumpWrap_smbus (x : RegField) (n i : Nat) : (s.bumpWrap x n i).smbus = s.smbus := rfl
@[simp] theorem State.bumpWrap_lace (x : RegField) (n i : Nat) : (s.bumpWrap x n i).lace = s.lace := rfl
@[simp] theorem State.bumpWrap_bob (x : RegField) (n i : Nat) : (s.bumpWrap x n i).bob = s.bob := rfl
@[simp] theorem State.bumpWrap_corr (x : RegField) (n i : Nat) : (s.bumpWrap x n i).corr = s.corr := rfl
@[simp] theorem State.bumpWrap_store (x : RegField) (n i : Nat) : (s.bumpWrap x n i).store = s.store := rfl
@[simp] theorem State.bumpWrap_plan (x : RegField) (n i : Nat) : (s.bumpWrap x n i).plan = s.plan := rfl
@[simp] theorem State.bumpWrap_caril (x : RegField) (n i : Nat) : (s.bumpWrap x n i).caril = s.caril := rfl
@[simp] theorem State.bumpWrap_stage (x : RegField) (n i : Nat) : (s.bumpWrap x n i).stage = s.stage := rfl
@[simp] theorem State.bumpWrap_cad (x : RegField) (n i : Nat) : (s.bumpWrap x n i).cad = s.cad := rfl
@[simp] theorem State.bumpWrap_track (x : RegField) (n i : Nat) : (s.bumpWrap x n i).track = s.track := rfl
@[simp] theorem State.bumpWrap_net (x : RegField) (n i : Nat) : (s.bumpWrap x n i).net = s.net := rfl
@[simp] theorem State.bumpWrap_time (x : RegField) (n i : Nat) : (s.bumpWrap x n i).time = s.time := rfl
@[simp] theorem State.bumpWrap_hbm (x : RegField) (n i : Nat) : (s.bumpWrap x n i).hbm = s.hbm := rfl
@[simp] theorem State.bumpWrap_check (x : RegField) (n i : Nat) : (s.bumpWrap x n i).check = s.check := rfl
@[simp] theorem State.bumpWrap_dma (x : RegField) (n i : Nat) : (s.bumpWrap x n i).dma = s.dma := rfl
@[simp] theorem State.bumpWrap_clock (x : RegField) (n i : Nat) : (s.bumpWrap x n i).clock = s.clock := rfl
@[simp] theorem State.bumpWrap_power (x : RegField) (n i : Nat) : (s.bumpWrap x n i).power = s.power := rfl
@[simp] theorem State.bumpWrap_tl (x : RegField) (n i : Nat) : (s.bumpWrap x n i).tl = s.tl := rfl
@[simp] theorem State.bumpWrap_dram (x : RegField) (n i : Nat) : (s.bumpWrap x n i).dram = s.dram := rfl
@[simp] theorem State.bumpWrap_dramMark (x : RegField) (n i : Nat) : (s.bumpWrap x n i).dramMark = s.dramMark := rfl

/-! ### raise -/
@[simp] theorem State.raise_pending (c : FaultCode) : (s.raise c).pending = s.pending := by simp only [State.raise]; split <;> rfl
@[simp] theorem State.raise_now (c : FaultCode) : (s.raise c).now = s.now := by simp only [State.raise]; split <;> rfl
@[simp] theorem State.raise_cyc (c : FaultCode) : (s.raise c).cyc = s.cyc := by simp only [State.raise]; split <;> rfl
@[simp] theorem State.raise_freeCount (c : FaultCode) : (s.raise c).freeCount = s.freeCount := by simp only [State.raise]; split <;> rfl
@[simp] theorem State.raise_regs (c : FaultCode) : (s.raise c).regs = s.regs := by simp only [State.raise]; split <;> rfl
@[simp] theorem State.raise_out (c : FaultCode) : (s.raise c).out = s.out := by simp only [State.raise]; split <;> rfl
@[simp] theorem State.raise_str (c : FaultCode) : (s.raise c).str = s.str := by simp only [State.raise]; split <;> rfl
@[simp] theorem State.raise_glob (c : FaultCode) : (s.raise c).glob = s.glob := by simp only [State.raise]; split <;> rfl
@[simp] theorem State.raise_prick (c : FaultCode) : (s.raise c).prick = s.prick := by simp only [State.raise]; split <;> rfl
@[simp] theorem State.raise_snap (c : FaultCode) : (s.raise c).snap = s.snap := by simp only [State.raise]; split <;> rfl
@[simp] theorem State.raise_smbus (c : FaultCode) : (s.raise c).smbus = s.smbus := by simp only [State.raise]; split <;> rfl
@[simp] theorem State.raise_lace (c : FaultCode) : (s.raise c).lace = s.lace := by simp only [State.raise]; split <;> rfl
@[simp] theorem State.raise_bob (c : FaultCode) : (s.raise c).bob = s.bob := by simp only [State.raise]; split <;> rfl
@[simp] theorem State.raise_corr (c : FaultCode) : (s.raise c).corr = s.corr := by simp only [State.raise]; split <;> rfl
@[simp] theorem State.raise_store (c : FaultCode) : (s.raise c).store = s.store := by simp only [State.raise]; split <;> rfl
@[simp] theorem State.raise_plan (c : FaultCode) : (s.raise c).plan = s.plan := by simp only [State.raise]; split <;> rfl
@[simp] theorem State.raise_caril (c : FaultCode) : (s.raise c).caril = s.caril := by simp only [State.raise]; split <;> rfl
@[simp] theorem State.raise_stage (c : FaultCode) : (s.raise c).stage = s.stage := by simp only [State.raise]; split <;> rfl
@[simp] theorem State.raise_cad (c : FaultCode) : (s.raise c).cad = s.cad := by simp only [State.raise]; split <;> rfl
@[simp] theorem State.raise_track (c : FaultCode) : (s.raise c).track = s.track := by simp only [State.raise]; split <;> rfl
@[simp] theorem State.raise_net (c : FaultCode) : (s.raise c).net = s.net := by simp only [State.raise]; split <;> rfl
@[simp] theorem State.raise_time (c : FaultCode) : (s.raise c).time = s.time := by simp only [State.raise]; split <;> rfl
@[simp] theorem State.raise_hbm (c : FaultCode) : (s.raise c).hbm = s.hbm := by simp only [State.raise]; split <;> rfl
@[simp] theorem State.raise_check (c : FaultCode) : (s.raise c).check = s.check := by simp only [State.raise]; split <;> rfl
@[simp] theorem State.raise_dma (c : FaultCode) : (s.raise c).dma = s.dma := by simp only [State.raise]; split <;> rfl
@[simp] theorem State.raise_clock (c : FaultCode) : (s.raise c).clock = s.clock := by simp only [State.raise]; split <;> rfl
@[simp] theorem State.raise_power (c : FaultCode) : (s.raise c).power = s.power := by simp only [State.raise]; split <;> rfl
@[simp] theorem State.raise_tl (c : FaultCode) : (s.raise c).tl = s.tl := by simp only [State.raise]; split <;> rfl
@[simp] theorem State.raise_dram (c : FaultCode) : (s.raise c).dram = s.dram := by simp only [State.raise]; split <;> rfl
@[simp] theorem State.raise_dramMark (c : FaultCode) : (s.raise c).dramMark = s.dramMark := by simp only [State.raise]; split <;> rfl

/-! ### raiseIf -/
@[simp] theorem State.raiseIf_pending (b : Bool) (c : FaultCode) : (s.raiseIf b c).pending = s.pending := by cases b <;> simp [State.raiseIf]
@[simp] theorem State.raiseIf_now (b : Bool) (c : FaultCode) : (s.raiseIf b c).now = s.now := by cases b <;> simp [State.raiseIf]
@[simp] theorem State.raiseIf_cyc (b : Bool) (c : FaultCode) : (s.raiseIf b c).cyc = s.cyc := by cases b <;> simp [State.raiseIf]
@[simp] theorem State.raiseIf_freeCount (b : Bool) (c : FaultCode) : (s.raiseIf b c).freeCount = s.freeCount := by cases b <;> simp [State.raiseIf]
@[simp] theorem State.raiseIf_regs (b : Bool) (c : FaultCode) : (s.raiseIf b c).regs = s.regs := by cases b <;> simp [State.raiseIf]
@[simp] theorem State.raiseIf_out (b : Bool) (c : FaultCode) : (s.raiseIf b c).out = s.out := by cases b <;> simp [State.raiseIf]
@[simp] theorem State.raiseIf_str (b : Bool) (c : FaultCode) : (s.raiseIf b c).str = s.str := by cases b <;> simp [State.raiseIf]
@[simp] theorem State.raiseIf_glob (b : Bool) (c : FaultCode) : (s.raiseIf b c).glob = s.glob := by cases b <;> simp [State.raiseIf]
@[simp] theorem State.raiseIf_prick (b : Bool) (c : FaultCode) : (s.raiseIf b c).prick = s.prick := by cases b <;> simp [State.raiseIf]
@[simp] theorem State.raiseIf_snap (b : Bool) (c : FaultCode) : (s.raiseIf b c).snap = s.snap := by cases b <;> simp [State.raiseIf]
@[simp] theorem State.raiseIf_smbus (b : Bool) (c : FaultCode) : (s.raiseIf b c).smbus = s.smbus := by cases b <;> simp [State.raiseIf]
@[simp] theorem State.raiseIf_lace (b : Bool) (c : FaultCode) : (s.raiseIf b c).lace = s.lace := by cases b <;> simp [State.raiseIf]
@[simp] theorem State.raiseIf_bob (b : Bool) (c : FaultCode) : (s.raiseIf b c).bob = s.bob := by cases b <;> simp [State.raiseIf]
@[simp] theorem State.raiseIf_corr (b : Bool) (c : FaultCode) : (s.raiseIf b c).corr = s.corr := by cases b <;> simp [State.raiseIf]
@[simp] theorem State.raiseIf_store (b : Bool) (c : FaultCode) : (s.raiseIf b c).store = s.store := by cases b <;> simp [State.raiseIf]
@[simp] theorem State.raiseIf_plan (b : Bool) (c : FaultCode) : (s.raiseIf b c).plan = s.plan := by cases b <;> simp [State.raiseIf]
@[simp] theorem State.raiseIf_caril (b : Bool) (c : FaultCode) : (s.raiseIf b c).caril = s.caril := by cases b <;> simp [State.raiseIf]
@[simp] theorem State.raiseIf_stage (b : Bool) (c : FaultCode) : (s.raiseIf b c).stage = s.stage := by cases b <;> simp [State.raiseIf]
@[simp] theorem State.raiseIf_cad (b : Bool) (c : FaultCode) : (s.raiseIf b c).cad = s.cad := by cases b <;> simp [State.raiseIf]
@[simp] theorem State.raiseIf_track (b : Bool) (c : FaultCode) : (s.raiseIf b c).track = s.track := by cases b <;> simp [State.raiseIf]
@[simp] theorem State.raiseIf_net (b : Bool) (c : FaultCode) : (s.raiseIf b c).net = s.net := by cases b <;> simp [State.raiseIf]
@[simp] theorem State.raiseIf_time (b : Bool) (c : FaultCode) : (s.raiseIf b c).time = s.time := by cases b <;> simp [State.raiseIf]
@[simp] theorem State.raiseIf_hbm (b : Bool) (c : FaultCode) : (s.raiseIf b c).hbm = s.hbm := by cases b <;> simp [State.raiseIf]
@[simp] theorem State.raiseIf_check (b : Bool) (c : FaultCode) : (s.raiseIf b c).check = s.check := by cases b <;> simp [State.raiseIf]
@[simp] theorem State.raiseIf_dma (b : Bool) (c : FaultCode) : (s.raiseIf b c).dma = s.dma := by cases b <;> simp [State.raiseIf]
@[simp] theorem State.raiseIf_clock (b : Bool) (c : FaultCode) : (s.raiseIf b c).clock = s.clock := by cases b <;> simp [State.raiseIf]
@[simp] theorem State.raiseIf_power (b : Bool) (c : FaultCode) : (s.raiseIf b c).power = s.power := by cases b <;> simp [State.raiseIf]
@[simp] theorem State.raiseIf_tl (b : Bool) (c : FaultCode) : (s.raiseIf b c).tl = s.tl := by cases b <;> simp [State.raiseIf]
@[simp] theorem State.raiseIf_dram (b : Bool) (c : FaultCode) : (s.raiseIf b c).dram = s.dram := by cases b <;> simp [State.raiseIf]
@[simp] theorem State.raiseIf_dramMark (b : Bool) (c : FaultCode) : (s.raiseIf b c).dramMark = s.dramMark := by cases b <;> simp [State.raiseIf]

/-! ### mark -/
@[simp] theorem State.mark_pending (e : CycleEvent) : (s.mark e).pending = s.pending := rfl
@[simp] theorem State.mark_now (e : CycleEvent) : (s.mark e).now = s.now := rfl
@[simp] theorem State.mark_freeCount (e : CycleEvent) : (s.mark e).freeCount = s.freeCount := rfl
@[simp] theorem State.mark_regs (e : CycleEvent) : (s.mark e).regs = s.regs := rfl
@[simp] theorem State.mark_out (e : CycleEvent) : (s.mark e).out = s.out := rfl
@[simp] theorem State.mark_str (e : CycleEvent) : (s.mark e).str = s.str := rfl
@[simp] theorem State.mark_glob (e : CycleEvent) : (s.mark e).glob = s.glob := rfl
@[simp] theorem State.mark_prick (e : CycleEvent) : (s.mark e).prick = s.prick := rfl
@[simp] theorem State.mark_fault (e : CycleEvent) : (s.mark e).fault = s.fault := rfl
@[simp] theorem State.mark_snap (e : CycleEvent) : (s.mark e).snap = s.snap := rfl
@[simp] theorem State.mark_smbus (e : CycleEvent) : (s.mark e).smbus = s.smbus := rfl
@[simp] theorem State.mark_lace (e : CycleEvent) : (s.mark e).lace = s.lace := rfl
@[simp] theorem State.mark_bob (e : CycleEvent) : (s.mark e).bob = s.bob := rfl
@[simp] theorem State.mark_corr (e : CycleEvent) : (s.mark e).corr = s.corr := rfl
@[simp] theorem State.mark_store (e : CycleEvent) : (s.mark e).store = s.store := rfl
@[simp] theorem State.mark_plan (e : CycleEvent) : (s.mark e).plan = s.plan := rfl
@[simp] theorem State.mark_caril (e : CycleEvent) : (s.mark e).caril = s.caril := rfl
@[simp] theorem State.mark_stage (e : CycleEvent) : (s.mark e).stage = s.stage := rfl
@[simp] theorem State.mark_cad (e : CycleEvent) : (s.mark e).cad = s.cad := rfl
@[simp] theorem State.mark_track (e : CycleEvent) : (s.mark e).track = s.track := rfl
@[simp] theorem State.mark_net (e : CycleEvent) : (s.mark e).net = s.net := rfl
@[simp] theorem State.mark_time (e : CycleEvent) : (s.mark e).time = s.time := rfl
@[simp] theorem State.mark_hbm (e : CycleEvent) : (s.mark e).hbm = s.hbm := rfl
@[simp] theorem State.mark_check (e : CycleEvent) : (s.mark e).check = s.check := rfl
@[simp] theorem State.mark_dma (e : CycleEvent) : (s.mark e).dma = s.dma := rfl
@[simp] theorem State.mark_clock (e : CycleEvent) : (s.mark e).clock = s.clock := rfl
@[simp] theorem State.mark_power (e : CycleEvent) : (s.mark e).power = s.power := rfl
@[simp] theorem State.mark_tl (e : CycleEvent) : (s.mark e).tl = s.tl := rfl
@[simp] theorem State.mark_dram (e : CycleEvent) : (s.mark e).dram = s.dram := rfl
@[simp] theorem State.mark_dramMark (e : CycleEvent) : (s.mark e).dramMark = s.dramMark := rfl

/-! ### setBits -/
@[simp] theorem State.setBits_pending (r : Reg) (m : Word) (i : Nat) : (s.setBits r m i).pending = s.pending := rfl
@[simp] theorem State.setBits_now (r : Reg) (m : Word) (i : Nat) : (s.setBits r m i).now = s.now := rfl
@[simp] theorem State.setBits_freeCount (r : Reg) (m : Word) (i : Nat) : (s.setBits r m i).freeCount = s.freeCount := rfl
@[simp] theorem State.setBits_out (r : Reg) (m : Word) (i : Nat) : (s.setBits r m i).out = s.out := rfl
@[simp] theorem State.setBits_str (r : Reg) (m : Word) (i : Nat) : (s.setBits r m i).str = s.str := rfl
@[simp] theorem State.setBits_glob (r : Reg) (m : Word) (i : Nat) : (s.setBits r m i).glob = s.glob := rfl
@[simp] theorem State.setBits_prick (r : Reg) (m : Word) (i : Nat) : (s.setBits r m i).prick = s.prick := rfl
@[simp] theorem State.setBits_fault (r : Reg) (m : Word) (i : Nat) : (s.setBits r m i).fault = s.fault := rfl
@[simp] theorem State.setBits_snap (r : Reg) (m : Word) (i : Nat) : (s.setBits r m i).snap = s.snap := rfl
@[simp] theorem State.setBits_smbus (r : Reg) (m : Word) (i : Nat) : (s.setBits r m i).smbus = s.smbus := rfl
@[simp] theorem State.setBits_lace (r : Reg) (m : Word) (i : Nat) : (s.setBits r m i).lace = s.lace := rfl
@[simp] theorem State.setBits_bob (r : Reg) (m : Word) (i : Nat) : (s.setBits r m i).bob = s.bob := rfl
@[simp] theorem State.setBits_corr (r : Reg) (m : Word) (i : Nat) : (s.setBits r m i).corr = s.corr := rfl
@[simp] theorem State.setBits_store (r : Reg) (m : Word) (i : Nat) : (s.setBits r m i).store = s.store := rfl
@[simp] theorem State.setBits_plan (r : Reg) (m : Word) (i : Nat) : (s.setBits r m i).plan = s.plan := rfl
@[simp] theorem State.setBits_caril (r : Reg) (m : Word) (i : Nat) : (s.setBits r m i).caril = s.caril := rfl
@[simp] theorem State.setBits_stage (r : Reg) (m : Word) (i : Nat) : (s.setBits r m i).stage = s.stage := rfl
@[simp] theorem State.setBits_cad (r : Reg) (m : Word) (i : Nat) : (s.setBits r m i).cad = s.cad := rfl
@[simp] theorem State.setBits_track (r : Reg) (m : Word) (i : Nat) : (s.setBits r m i).track = s.track := rfl
@[simp] theorem State.setBits_net (r : Reg) (m : Word) (i : Nat) : (s.setBits r m i).net = s.net := rfl
@[simp] theorem State.setBits_time (r : Reg) (m : Word) (i : Nat) : (s.setBits r m i).time = s.time := rfl
@[simp] theorem State.setBits_hbm (r : Reg) (m : Word) (i : Nat) : (s.setBits r m i).hbm = s.hbm := rfl
@[simp] theorem State.setBits_check (r : Reg) (m : Word) (i : Nat) : (s.setBits r m i).check = s.check := rfl
@[simp] theorem State.setBits_dma (r : Reg) (m : Word) (i : Nat) : (s.setBits r m i).dma = s.dma := rfl
@[simp] theorem State.setBits_clock (r : Reg) (m : Word) (i : Nat) : (s.setBits r m i).clock = s.clock := rfl
@[simp] theorem State.setBits_power (r : Reg) (m : Word) (i : Nat) : (s.setBits r m i).power = s.power := rfl
@[simp] theorem State.setBits_tl (r : Reg) (m : Word) (i : Nat) : (s.setBits r m i).tl = s.tl := rfl
@[simp] theorem State.setBits_dram (r : Reg) (m : Word) (i : Nat) : (s.setBits r m i).dram = s.dram := rfl
@[simp] theorem State.setBits_dramMark (r : Reg) (m : Word) (i : Nat) : (s.setBits r m i).dramMark = s.dramMark := rfl

/-! ### setFlag -/
@[simp] theorem State.setFlag_pending (x : RegField) (v i : Nat) : (s.setFlag x v i).pending = s.pending := rfl
@[simp] theorem State.setFlag_now (x : RegField) (v i : Nat) : (s.setFlag x v i).now = s.now := rfl
@[simp] theorem State.setFlag_freeCount (x : RegField) (v i : Nat) : (s.setFlag x v i).freeCount = s.freeCount := rfl
@[simp] theorem State.setFlag_out (x : RegField) (v i : Nat) : (s.setFlag x v i).out = s.out := rfl
@[simp] theorem State.setFlag_str (x : RegField) (v i : Nat) : (s.setFlag x v i).str = s.str := rfl
@[simp] theorem State.setFlag_glob (x : RegField) (v i : Nat) : (s.setFlag x v i).glob = s.glob := rfl
@[simp] theorem State.setFlag_prick (x : RegField) (v i : Nat) : (s.setFlag x v i).prick = s.prick := rfl
@[simp] theorem State.setFlag_fault (x : RegField) (v i : Nat) : (s.setFlag x v i).fault = s.fault := rfl
@[simp] theorem State.setFlag_snap (x : RegField) (v i : Nat) : (s.setFlag x v i).snap = s.snap := rfl
@[simp] theorem State.setFlag_smbus (x : RegField) (v i : Nat) : (s.setFlag x v i).smbus = s.smbus := rfl
@[simp] theorem State.setFlag_lace (x : RegField) (v i : Nat) : (s.setFlag x v i).lace = s.lace := rfl
@[simp] theorem State.setFlag_bob (x : RegField) (v i : Nat) : (s.setFlag x v i).bob = s.bob := rfl
@[simp] theorem State.setFlag_corr (x : RegField) (v i : Nat) : (s.setFlag x v i).corr = s.corr := rfl
@[simp] theorem State.setFlag_store (x : RegField) (v i : Nat) : (s.setFlag x v i).store = s.store := rfl
@[simp] theorem State.setFlag_plan (x : RegField) (v i : Nat) : (s.setFlag x v i).plan = s.plan := rfl
@[simp] theorem State.setFlag_caril (x : RegField) (v i : Nat) : (s.setFlag x v i).caril = s.caril := rfl
@[simp] theorem State.setFlag_stage (x : RegField) (v i : Nat) : (s.setFlag x v i).stage = s.stage := rfl
@[simp] theorem State.setFlag_cad (x : RegField) (v i : Nat) : (s.setFlag x v i).cad = s.cad := rfl
@[simp] theorem State.setFlag_track (x : RegField) (v i : Nat) : (s.setFlag x v i).track = s.track := rfl
@[simp] theorem State.setFlag_net (x : RegField) (v i : Nat) : (s.setFlag x v i).net = s.net := rfl
@[simp] theorem State.setFlag_time (x : RegField) (v i : Nat) : (s.setFlag x v i).time = s.time := rfl
@[simp] theorem State.setFlag_hbm (x : RegField) (v i : Nat) : (s.setFlag x v i).hbm = s.hbm := rfl
@[simp] theorem State.setFlag_check (x : RegField) (v i : Nat) : (s.setFlag x v i).check = s.check := rfl
@[simp] theorem State.setFlag_dma (x : RegField) (v i : Nat) : (s.setFlag x v i).dma = s.dma := rfl
@[simp] theorem State.setFlag_clock (x : RegField) (v i : Nat) : (s.setFlag x v i).clock = s.clock := rfl
@[simp] theorem State.setFlag_power (x : RegField) (v i : Nat) : (s.setFlag x v i).power = s.power := rfl
@[simp] theorem State.setFlag_tl (x : RegField) (v i : Nat) : (s.setFlag x v i).tl = s.tl := rfl
@[simp] theorem State.setFlag_dram (x : RegField) (v i : Nat) : (s.setFlag x v i).dram = s.dram := rfl
@[simp] theorem State.setFlag_dramMark (x : RegField) (v i : Nat) : (s.setFlag x v i).dramMark = s.dramMark := rfl

/-! ### emit -/
@[simp] theorem State.emit_pending (o : Out) : (s.emit o).pending = s.pending := by simp only [State.emit]; split <;> rfl
@[simp] theorem State.emit_now (o : Out) : (s.emit o).now = s.now := by simp only [State.emit]; split <;> rfl
@[simp] theorem State.emit_cyc (o : Out) : (s.emit o).cyc = s.cyc := by simp only [State.emit]; split <;> rfl
@[simp] theorem State.emit_freeCount (o : Out) : (s.emit o).freeCount = s.freeCount := by simp only [State.emit]; split <;> rfl
@[simp] theorem State.emit_regs (o : Out) : (s.emit o).regs = s.regs := by simp only [State.emit]; split <;> rfl
@[simp] theorem State.emit_str (o : Out) : (s.emit o).str = s.str := by simp only [State.emit]; split <;> rfl
@[simp] theorem State.emit_glob (o : Out) : (s.emit o).glob = s.glob := by simp only [State.emit]; split <;> rfl
@[simp] theorem State.emit_prick (o : Out) : (s.emit o).prick = s.prick := by simp only [State.emit]; split <;> rfl
@[simp] theorem State.emit_fault (o : Out) : (s.emit o).fault = s.fault := by simp only [State.emit]; split <;> rfl
@[simp] theorem State.emit_snap (o : Out) : (s.emit o).snap = s.snap := by simp only [State.emit]; split <;> rfl
@[simp] theorem State.emit_smbus (o : Out) : (s.emit o).smbus = s.smbus := by simp only [State.emit]; split <;> rfl
@[simp] theorem State.emit_lace (o : Out) : (s.emit o).lace = s.lace := by simp only [State.emit]; split <;> rfl
@[simp] theorem State.emit_bob (o : Out) : (s.emit o).bob = s.bob := by simp only [State.emit]; split <;> rfl
@[simp] theorem State.emit_corr (o : Out) : (s.emit o).corr = s.corr := by simp only [State.emit]; split <;> rfl
@[simp] theorem State.emit_store (o : Out) : (s.emit o).store = s.store := by simp only [State.emit]; split <;> rfl
@[simp] theorem State.emit_plan (o : Out) : (s.emit o).plan = s.plan := by simp only [State.emit]; split <;> rfl
@[simp] theorem State.emit_caril (o : Out) : (s.emit o).caril = s.caril := by simp only [State.emit]; split <;> rfl
@[simp] theorem State.emit_stage (o : Out) : (s.emit o).stage = s.stage := by simp only [State.emit]; split <;> rfl
@[simp] theorem State.emit_cad (o : Out) : (s.emit o).cad = s.cad := by simp only [State.emit]; split <;> rfl
@[simp] theorem State.emit_track (o : Out) : (s.emit o).track = s.track := by simp only [State.emit]; split <;> rfl
@[simp] theorem State.emit_net (o : Out) : (s.emit o).net = s.net := by simp only [State.emit]; split <;> rfl
@[simp] theorem State.emit_time (o : Out) : (s.emit o).time = s.time := by simp only [State.emit]; split <;> rfl
@[simp] theorem State.emit_hbm (o : Out) : (s.emit o).hbm = s.hbm := by simp only [State.emit]; split <;> rfl
@[simp] theorem State.emit_check (o : Out) : (s.emit o).check = s.check := by simp only [State.emit]; split <;> rfl
@[simp] theorem State.emit_dma (o : Out) : (s.emit o).dma = s.dma := by simp only [State.emit]; split <;> rfl
@[simp] theorem State.emit_clock (o : Out) : (s.emit o).clock = s.clock := by simp only [State.emit]; split <;> rfl
@[simp] theorem State.emit_power (o : Out) : (s.emit o).power = s.power := by simp only [State.emit]; split <;> rfl
@[simp] theorem State.emit_tl (o : Out) : (s.emit o).tl = s.tl := by simp only [State.emit]; split <;> rfl
@[simp] theorem State.emit_dram (o : Out) : (s.emit o).dram = s.dram := by simp only [State.emit]; split <;> rfl
@[simp] theorem State.emit_dramMark (o : Out) : (s.emit o).dramMark = s.dramMark := by simp only [State.emit]; split <;> rfl

/-! ### irq -/
@[simp] theorem State.irq_pending (v : Nat) : (s.irq v).pending = s.pending := by simp only [State.irq]; split <;> simp
@[simp] theorem State.irq_now (v : Nat) : (s.irq v).now = s.now := by simp only [State.irq]; split <;> simp
@[simp] theorem State.irq_cyc (v : Nat) : (s.irq v).cyc = s.cyc := by simp only [State.irq]; split <;> simp
@[simp] theorem State.irq_freeCount (v : Nat) : (s.irq v).freeCount = s.freeCount := by simp only [State.irq]; split <;> simp
@[simp] theorem State.irq_regs (v : Nat) : (s.irq v).regs = s.regs := by simp only [State.irq]; split <;> simp
@[simp] theorem State.irq_str (v : Nat) : (s.irq v).str = s.str := by simp only [State.irq]; split <;> simp
@[simp] theorem State.irq_glob (v : Nat) : (s.irq v).glob = s.glob := by simp only [State.irq]; split <;> simp
@[simp] theorem State.irq_prick (v : Nat) : (s.irq v).prick = s.prick := by simp only [State.irq]; split <;> simp
@[simp] theorem State.irq_fault (v : Nat) : (s.irq v).fault = s.fault := by simp only [State.irq]; split <;> simp
@[simp] theorem State.irq_snap (v : Nat) : (s.irq v).snap = s.snap := by simp only [State.irq]; split <;> simp
@[simp] theorem State.irq_smbus (v : Nat) : (s.irq v).smbus = s.smbus := by simp only [State.irq]; split <;> simp
@[simp] theorem State.irq_lace (v : Nat) : (s.irq v).lace = s.lace := by simp only [State.irq]; split <;> simp
@[simp] theorem State.irq_bob (v : Nat) : (s.irq v).bob = s.bob := by simp only [State.irq]; split <;> simp
@[simp] theorem State.irq_corr (v : Nat) : (s.irq v).corr = s.corr := by simp only [State.irq]; split <;> simp
@[simp] theorem State.irq_store (v : Nat) : (s.irq v).store = s.store := by simp only [State.irq]; split <;> simp
@[simp] theorem State.irq_plan (v : Nat) : (s.irq v).plan = s.plan := by simp only [State.irq]; split <;> simp
@[simp] theorem State.irq_caril (v : Nat) : (s.irq v).caril = s.caril := by simp only [State.irq]; split <;> simp
@[simp] theorem State.irq_stage (v : Nat) : (s.irq v).stage = s.stage := by simp only [State.irq]; split <;> simp
@[simp] theorem State.irq_cad (v : Nat) : (s.irq v).cad = s.cad := by simp only [State.irq]; split <;> simp
@[simp] theorem State.irq_track (v : Nat) : (s.irq v).track = s.track := by simp only [State.irq]; split <;> simp
@[simp] theorem State.irq_net (v : Nat) : (s.irq v).net = s.net := by simp only [State.irq]; split <;> simp
@[simp] theorem State.irq_time (v : Nat) : (s.irq v).time = s.time := by simp only [State.irq]; split <;> simp
@[simp] theorem State.irq_hbm (v : Nat) : (s.irq v).hbm = s.hbm := by simp only [State.irq]; split <;> simp
@[simp] theorem State.irq_check (v : Nat) : (s.irq v).check = s.check := by simp only [State.irq]; split <;> simp
@[simp] theorem State.irq_clock (v : Nat) : (s.irq v).clock = s.clock := by simp only [State.irq]; split <;> simp
@[simp] theorem State.irq_power (v : Nat) : (s.irq v).power = s.power := by simp only [State.irq]; split <;> simp
@[simp] theorem State.irq_tl (v : Nat) : (s.irq v).tl = s.tl := by simp only [State.irq]; split <;> simp
@[simp] theorem State.irq_dram (v : Nat) : (s.irq v).dram = s.dram := by simp only [State.irq]; split <;> simp
@[simp] theorem State.irq_dramMark (v : Nat) : (s.irq v).dramMark = s.dramMark := by simp only [State.irq]; split <;> simp

/-! ### free -/
@[simp] theorem State.free_pending (w : Nat) : ((s.free w).2).pending = s.pending := rfl
@[simp] theorem State.free_now (w : Nat) : ((s.free w).2).now = s.now := rfl
@[simp] theorem State.free_cyc (w : Nat) : ((s.free w).2).cyc = s.cyc := rfl
@[simp] theorem State.free_regs (w : Nat) : ((s.free w).2).regs = s.regs := rfl
@[simp] theorem State.free_out (w : Nat) : ((s.free w).2).out = s.out := rfl
@[simp] theorem State.free_str (w : Nat) : ((s.free w).2).str = s.str := rfl
@[simp] theorem State.free_glob (w : Nat) : ((s.free w).2).glob = s.glob := rfl
@[simp] theorem State.free_prick (w : Nat) : ((s.free w).2).prick = s.prick := rfl
@[simp] theorem State.free_fault (w : Nat) : ((s.free w).2).fault = s.fault := rfl
@[simp] theorem State.free_snap (w : Nat) : ((s.free w).2).snap = s.snap := rfl
@[simp] theorem State.free_smbus (w : Nat) : ((s.free w).2).smbus = s.smbus := rfl
@[simp] theorem State.free_lace (w : Nat) : ((s.free w).2).lace = s.lace := rfl
@[simp] theorem State.free_bob (w : Nat) : ((s.free w).2).bob = s.bob := rfl
@[simp] theorem State.free_corr (w : Nat) : ((s.free w).2).corr = s.corr := rfl
@[simp] theorem State.free_store (w : Nat) : ((s.free w).2).store = s.store := rfl
@[simp] theorem State.free_plan (w : Nat) : ((s.free w).2).plan = s.plan := rfl
@[simp] theorem State.free_caril (w : Nat) : ((s.free w).2).caril = s.caril := rfl
@[simp] theorem State.free_stage (w : Nat) : ((s.free w).2).stage = s.stage := rfl
@[simp] theorem State.free_cad (w : Nat) : ((s.free w).2).cad = s.cad := rfl
@[simp] theorem State.free_track (w : Nat) : ((s.free w).2).track = s.track := rfl
@[simp] theorem State.free_net (w : Nat) : ((s.free w).2).net = s.net := rfl
@[simp] theorem State.free_time (w : Nat) : ((s.free w).2).time = s.time := rfl
@[simp] theorem State.free_hbm (w : Nat) : ((s.free w).2).hbm = s.hbm := rfl
@[simp] theorem State.free_check (w : Nat) : ((s.free w).2).check = s.check := rfl
@[simp] theorem State.free_dma (w : Nat) : ((s.free w).2).dma = s.dma := rfl
@[simp] theorem State.free_clock (w : Nat) : ((s.free w).2).clock = s.clock := rfl
@[simp] theorem State.free_power (w : Nat) : ((s.free w).2).power = s.power := rfl
@[simp] theorem State.free_tl (w : Nat) : ((s.free w).2).tl = s.tl := rfl
@[simp] theorem State.free_dram (w : Nat) : ((s.free w).2).dram = s.dram := rfl
@[simp] theorem State.free_dramMark (w : Nat) : ((s.free w).2).dramMark = s.dramMark := rfl

/-! ### setLane -/
@[simp] theorem State.setLane_pending (n : Nat) (l : Lane) : (s.setLane n l).pending = s.pending := rfl
@[simp] theorem State.setLane_now (n : Nat) (l : Lane) : (s.setLane n l).now = s.now := rfl
@[simp] theorem State.setLane_cyc (n : Nat) (l : Lane) : (s.setLane n l).cyc = s.cyc := rfl
@[simp] theorem State.setLane_freeCount (n : Nat) (l : Lane) : (s.setLane n l).freeCount = s.freeCount := rfl
@[simp] theorem State.setLane_regs (n : Nat) (l : Lane) : (s.setLane n l).regs = s.regs := rfl
@[simp] theorem State.setLane_out (n : Nat) (l : Lane) : (s.setLane n l).out = s.out := rfl
@[simp] theorem State.setLane_str (n : Nat) (l : Lane) : (s.setLane n l).str = s.str := rfl
@[simp] theorem State.setLane_glob (n : Nat) (l : Lane) : (s.setLane n l).glob = s.glob := rfl
@[simp] theorem State.setLane_prick (n : Nat) (l : Lane) : (s.setLane n l).prick = s.prick := rfl
@[simp] theorem State.setLane_fault (n : Nat) (l : Lane) : (s.setLane n l).fault = s.fault := rfl
@[simp] theorem State.setLane_snap (n : Nat) (l : Lane) : (s.setLane n l).snap = s.snap := rfl
@[simp] theorem State.setLane_smbus (n : Nat) (l : Lane) : (s.setLane n l).smbus = s.smbus := rfl
@[simp] theorem State.setLane_lace (n : Nat) (l : Lane) : (s.setLane n l).lace = s.lace := rfl
@[simp] theorem State.setLane_bob (n : Nat) (l : Lane) : (s.setLane n l).bob = s.bob := rfl
@[simp] theorem State.setLane_corr (n : Nat) (l : Lane) : (s.setLane n l).corr = s.corr := rfl
@[simp] theorem State.setLane_store (n : Nat) (l : Lane) : (s.setLane n l).store = s.store := rfl
@[simp] theorem State.setLane_plan (n : Nat) (l : Lane) : (s.setLane n l).plan = s.plan := rfl
@[simp] theorem State.setLane_stage (n : Nat) (l : Lane) : (s.setLane n l).stage = s.stage := rfl
@[simp] theorem State.setLane_cad (n : Nat) (l : Lane) : (s.setLane n l).cad = s.cad := rfl
@[simp] theorem State.setLane_track (n : Nat) (l : Lane) : (s.setLane n l).track = s.track := rfl
@[simp] theorem State.setLane_net (n : Nat) (l : Lane) : (s.setLane n l).net = s.net := rfl
@[simp] theorem State.setLane_time (n : Nat) (l : Lane) : (s.setLane n l).time = s.time := rfl
@[simp] theorem State.setLane_hbm (n : Nat) (l : Lane) : (s.setLane n l).hbm = s.hbm := rfl
@[simp] theorem State.setLane_check (n : Nat) (l : Lane) : (s.setLane n l).check = s.check := rfl
@[simp] theorem State.setLane_dma (n : Nat) (l : Lane) : (s.setLane n l).dma = s.dma := rfl
@[simp] theorem State.setLane_clock (n : Nat) (l : Lane) : (s.setLane n l).clock = s.clock := rfl
@[simp] theorem State.setLane_power (n : Nat) (l : Lane) : (s.setLane n l).power = s.power := rfl
@[simp] theorem State.setLane_tl (n : Nat) (l : Lane) : (s.setLane n l).tl = s.tl := rfl
@[simp] theorem State.setLane_dram (n : Nat) (l : Lane) : (s.setLane n l).dram = s.dram := rfl
@[simp] theorem State.setLane_dramMark (n : Nat) (l : Lane) : (s.setLane n l).dramMark = s.dramMark := rfl

/-! ### setChan -/
@[simp] theorem State.setChan_pending (c : Nat) (m : MetCh) : (s.setChan c m).pending = s.pending := rfl
@[simp] theorem State.setChan_now (c : Nat) (m : MetCh) : (s.setChan c m).now = s.now := rfl
@[simp] theorem State.setChan_cyc (c : Nat) (m : MetCh) : (s.setChan c m).cyc = s.cyc := rfl
@[simp] theorem State.setChan_freeCount (c : Nat) (m : MetCh) : (s.setChan c m).freeCount = s.freeCount := rfl
@[simp] theorem State.setChan_regs (c : Nat) (m : MetCh) : (s.setChan c m).regs = s.regs := rfl
@[simp] theorem State.setChan_out (c : Nat) (m : MetCh) : (s.setChan c m).out = s.out := rfl
@[simp] theorem State.setChan_str (c : Nat) (m : MetCh) : (s.setChan c m).str = s.str := rfl
@[simp] theorem State.setChan_glob (c : Nat) (m : MetCh) : (s.setChan c m).glob = s.glob := rfl
@[simp] theorem State.setChan_prick (c : Nat) (m : MetCh) : (s.setChan c m).prick = s.prick := rfl
@[simp] theorem State.setChan_fault (c : Nat) (m : MetCh) : (s.setChan c m).fault = s.fault := rfl
@[simp] theorem State.setChan_snap (c : Nat) (m : MetCh) : (s.setChan c m).snap = s.snap := rfl
@[simp] theorem State.setChan_smbus (c : Nat) (m : MetCh) : (s.setChan c m).smbus = s.smbus := rfl
@[simp] theorem State.setChan_lace (c : Nat) (m : MetCh) : (s.setChan c m).lace = s.lace := rfl
@[simp] theorem State.setChan_bob (c : Nat) (m : MetCh) : (s.setChan c m).bob = s.bob := rfl
@[simp] theorem State.setChan_corr (c : Nat) (m : MetCh) : (s.setChan c m).corr = s.corr := rfl
@[simp] theorem State.setChan_store (c : Nat) (m : MetCh) : (s.setChan c m).store = s.store := rfl
@[simp] theorem State.setChan_plan (c : Nat) (m : MetCh) : (s.setChan c m).plan = s.plan := rfl
@[simp] theorem State.setChan_caril (c : Nat) (m : MetCh) : (s.setChan c m).caril = s.caril := rfl
@[simp] theorem State.setChan_cad (c : Nat) (m : MetCh) : (s.setChan c m).cad = s.cad := rfl
@[simp] theorem State.setChan_track (c : Nat) (m : MetCh) : (s.setChan c m).track = s.track := rfl
@[simp] theorem State.setChan_net (c : Nat) (m : MetCh) : (s.setChan c m).net = s.net := rfl
@[simp] theorem State.setChan_time (c : Nat) (m : MetCh) : (s.setChan c m).time = s.time := rfl
@[simp] theorem State.setChan_hbm (c : Nat) (m : MetCh) : (s.setChan c m).hbm = s.hbm := rfl
@[simp] theorem State.setChan_check (c : Nat) (m : MetCh) : (s.setChan c m).check = s.check := rfl
@[simp] theorem State.setChan_dma (c : Nat) (m : MetCh) : (s.setChan c m).dma = s.dma := rfl
@[simp] theorem State.setChan_clock (c : Nat) (m : MetCh) : (s.setChan c m).clock = s.clock := rfl
@[simp] theorem State.setChan_power (c : Nat) (m : MetCh) : (s.setChan c m).power = s.power := rfl
@[simp] theorem State.setChan_tl (c : Nat) (m : MetCh) : (s.setChan c m).tl = s.tl := rfl
@[simp] theorem State.setChan_dram (c : Nat) (m : MetCh) : (s.setChan c m).dram = s.dram := rfl
@[simp] theorem State.setChan_dramMark (c : Nat) (m : MetCh) : (s.setChan c m).dramMark = s.dramMark := rfl

/-! ### setPers -/
@[simp] theorem State.setPers_pending (j : Nat) (p : Pers) : (s.setPers j p).pending = s.pending := rfl
@[simp] theorem State.setPers_now (j : Nat) (p : Pers) : (s.setPers j p).now = s.now := rfl
@[simp] theorem State.setPers_cyc (j : Nat) (p : Pers) : (s.setPers j p).cyc = s.cyc := rfl
@[simp] theorem State.setPers_freeCount (j : Nat) (p : Pers) : (s.setPers j p).freeCount = s.freeCount := rfl
@[simp] theorem State.setPers_regs (j : Nat) (p : Pers) : (s.setPers j p).regs = s.regs := rfl
@[simp] theorem State.setPers_out (j : Nat) (p : Pers) : (s.setPers j p).out = s.out := rfl
@[simp] theorem State.setPers_str (j : Nat) (p : Pers) : (s.setPers j p).str = s.str := rfl
@[simp] theorem State.setPers_glob (j : Nat) (p : Pers) : (s.setPers j p).glob = s.glob := rfl
@[simp] theorem State.setPers_prick (j : Nat) (p : Pers) : (s.setPers j p).prick = s.prick := rfl
@[simp] theorem State.setPers_fault (j : Nat) (p : Pers) : (s.setPers j p).fault = s.fault := rfl
@[simp] theorem State.setPers_snap (j : Nat) (p : Pers) : (s.setPers j p).snap = s.snap := rfl
@[simp] theorem State.setPers_smbus (j : Nat) (p : Pers) : (s.setPers j p).smbus = s.smbus := rfl
@[simp] theorem State.setPers_lace (j : Nat) (p : Pers) : (s.setPers j p).lace = s.lace := rfl
@[simp] theorem State.setPers_bob (j : Nat) (p : Pers) : (s.setPers j p).bob = s.bob := rfl
@[simp] theorem State.setPers_corr (j : Nat) (p : Pers) : (s.setPers j p).corr = s.corr := rfl
@[simp] theorem State.setPers_store (j : Nat) (p : Pers) : (s.setPers j p).store = s.store := rfl
@[simp] theorem State.setPers_plan (j : Nat) (p : Pers) : (s.setPers j p).plan = s.plan := rfl
@[simp] theorem State.setPers_caril (j : Nat) (p : Pers) : (s.setPers j p).caril = s.caril := rfl
@[simp] theorem State.setPers_stage (j : Nat) (p : Pers) : (s.setPers j p).stage = s.stage := rfl
@[simp] theorem State.setPers_cad (j : Nat) (p : Pers) : (s.setPers j p).cad = s.cad := rfl
@[simp] theorem State.setPers_track (j : Nat) (p : Pers) : (s.setPers j p).track = s.track := rfl
@[simp] theorem State.setPers_net (j : Nat) (p : Pers) : (s.setPers j p).net = s.net := rfl
@[simp] theorem State.setPers_time (j : Nat) (p : Pers) : (s.setPers j p).time = s.time := rfl
@[simp] theorem State.setPers_hbm (j : Nat) (p : Pers) : (s.setPers j p).hbm = s.hbm := rfl
@[simp] theorem State.setPers_check (j : Nat) (p : Pers) : (s.setPers j p).check = s.check := rfl
@[simp] theorem State.setPers_dma (j : Nat) (p : Pers) : (s.setPers j p).dma = s.dma := rfl
@[simp] theorem State.setPers_clock (j : Nat) (p : Pers) : (s.setPers j p).clock = s.clock := rfl
@[simp] theorem State.setPers_power (j : Nat) (p : Pers) : (s.setPers j p).power = s.power := rfl
@[simp] theorem State.setPers_dram (j : Nat) (p : Pers) : (s.setPers j p).dram = s.dram := rfl
@[simp] theorem State.setPers_dramMark (j : Nat) (p : Pers) : (s.setPers j p).dramMark = s.dramMark := rfl

/-! ### setIsland -/
@[simp] theorem State.setIsland_pending (i : Nat) (x : Island) : (s.setIsland i x).pending = s.pending := rfl
@[simp] theorem State.setIsland_now (i : Nat) (x : Island) : (s.setIsland i x).now = s.now := rfl
@[simp] theorem State.setIsland_cyc (i : Nat) (x : Island) : (s.setIsland i x).cyc = s.cyc := rfl
@[simp] theorem State.setIsland_freeCount (i : Nat) (x : Island) : (s.setIsland i x).freeCount = s.freeCount := rfl
@[simp] theorem State.setIsland_regs (i : Nat) (x : Island) : (s.setIsland i x).regs = s.regs := rfl
@[simp] theorem State.setIsland_out (i : Nat) (x : Island) : (s.setIsland i x).out = s.out := rfl
@[simp] theorem State.setIsland_str (i : Nat) (x : Island) : (s.setIsland i x).str = s.str := rfl
@[simp] theorem State.setIsland_glob (i : Nat) (x : Island) : (s.setIsland i x).glob = s.glob := rfl
@[simp] theorem State.setIsland_prick (i : Nat) (x : Island) : (s.setIsland i x).prick = s.prick := rfl
@[simp] theorem State.setIsland_fault (i : Nat) (x : Island) : (s.setIsland i x).fault = s.fault := rfl
@[simp] theorem State.setIsland_snap (i : Nat) (x : Island) : (s.setIsland i x).snap = s.snap := rfl
@[simp] theorem State.setIsland_smbus (i : Nat) (x : Island) : (s.setIsland i x).smbus = s.smbus := rfl
@[simp] theorem State.setIsland_lace (i : Nat) (x : Island) : (s.setIsland i x).lace = s.lace := rfl
@[simp] theorem State.setIsland_bob (i : Nat) (x : Island) : (s.setIsland i x).bob = s.bob := rfl
@[simp] theorem State.setIsland_corr (i : Nat) (x : Island) : (s.setIsland i x).corr = s.corr := rfl
@[simp] theorem State.setIsland_store (i : Nat) (x : Island) : (s.setIsland i x).store = s.store := rfl
@[simp] theorem State.setIsland_plan (i : Nat) (x : Island) : (s.setIsland i x).plan = s.plan := rfl
@[simp] theorem State.setIsland_caril (i : Nat) (x : Island) : (s.setIsland i x).caril = s.caril := rfl
@[simp] theorem State.setIsland_stage (i : Nat) (x : Island) : (s.setIsland i x).stage = s.stage := rfl
@[simp] theorem State.setIsland_cad (i : Nat) (x : Island) : (s.setIsland i x).cad = s.cad := rfl
@[simp] theorem State.setIsland_track (i : Nat) (x : Island) : (s.setIsland i x).track = s.track := rfl
@[simp] theorem State.setIsland_net (i : Nat) (x : Island) : (s.setIsland i x).net = s.net := rfl
@[simp] theorem State.setIsland_time (i : Nat) (x : Island) : (s.setIsland i x).time = s.time := rfl
@[simp] theorem State.setIsland_hbm (i : Nat) (x : Island) : (s.setIsland i x).hbm = s.hbm := rfl
@[simp] theorem State.setIsland_check (i : Nat) (x : Island) : (s.setIsland i x).check = s.check := rfl
@[simp] theorem State.setIsland_dma (i : Nat) (x : Island) : (s.setIsland i x).dma = s.dma := rfl
@[simp] theorem State.setIsland_power (i : Nat) (x : Island) : (s.setIsland i x).power = s.power := rfl
@[simp] theorem State.setIsland_tl (i : Nat) (x : Island) : (s.setIsland i x).tl = s.tl := rfl
@[simp] theorem State.setIsland_dram (i : Nat) (x : Island) : (s.setIsland i x).dram = s.dram := rfl
@[simp] theorem State.setIsland_dramMark (i : Nat) (x : Island) : (s.setIsland i x).dramMark = s.dramMark := rfl

/-! ### setAxis -/
@[simp] theorem State.setAxis_pending (i : Fin 2) (x : Axis) : (s.setAxis i x).pending = s.pending := rfl
@[simp] theorem State.setAxis_now (i : Fin 2) (x : Axis) : (s.setAxis i x).now = s.now := rfl
@[simp] theorem State.setAxis_cyc (i : Fin 2) (x : Axis) : (s.setAxis i x).cyc = s.cyc := rfl
@[simp] theorem State.setAxis_freeCount (i : Fin 2) (x : Axis) : (s.setAxis i x).freeCount = s.freeCount := rfl
@[simp] theorem State.setAxis_regs (i : Fin 2) (x : Axis) : (s.setAxis i x).regs = s.regs := rfl
@[simp] theorem State.setAxis_out (i : Fin 2) (x : Axis) : (s.setAxis i x).out = s.out := rfl
@[simp] theorem State.setAxis_str (i : Fin 2) (x : Axis) : (s.setAxis i x).str = s.str := rfl
@[simp] theorem State.setAxis_glob (i : Fin 2) (x : Axis) : (s.setAxis i x).glob = s.glob := rfl
@[simp] theorem State.setAxis_prick (i : Fin 2) (x : Axis) : (s.setAxis i x).prick = s.prick := rfl
@[simp] theorem State.setAxis_fault (i : Fin 2) (x : Axis) : (s.setAxis i x).fault = s.fault := rfl
@[simp] theorem State.setAxis_snap (i : Fin 2) (x : Axis) : (s.setAxis i x).snap = s.snap := rfl
@[simp] theorem State.setAxis_smbus (i : Fin 2) (x : Axis) : (s.setAxis i x).smbus = s.smbus := rfl
@[simp] theorem State.setAxis_lace (i : Fin 2) (x : Axis) : (s.setAxis i x).lace = s.lace := rfl
@[simp] theorem State.setAxis_bob (i : Fin 2) (x : Axis) : (s.setAxis i x).bob = s.bob := rfl
@[simp] theorem State.setAxis_corr (i : Fin 2) (x : Axis) : (s.setAxis i x).corr = s.corr := rfl
@[simp] theorem State.setAxis_store (i : Fin 2) (x : Axis) : (s.setAxis i x).store = s.store := rfl
@[simp] theorem State.setAxis_plan (i : Fin 2) (x : Axis) : (s.setAxis i x).plan = s.plan := rfl
@[simp] theorem State.setAxis_caril (i : Fin 2) (x : Axis) : (s.setAxis i x).caril = s.caril := rfl
@[simp] theorem State.setAxis_cad (i : Fin 2) (x : Axis) : (s.setAxis i x).cad = s.cad := rfl
@[simp] theorem State.setAxis_track (i : Fin 2) (x : Axis) : (s.setAxis i x).track = s.track := rfl
@[simp] theorem State.setAxis_net (i : Fin 2) (x : Axis) : (s.setAxis i x).net = s.net := rfl
@[simp] theorem State.setAxis_time (i : Fin 2) (x : Axis) : (s.setAxis i x).time = s.time := rfl
@[simp] theorem State.setAxis_hbm (i : Fin 2) (x : Axis) : (s.setAxis i x).hbm = s.hbm := rfl
@[simp] theorem State.setAxis_check (i : Fin 2) (x : Axis) : (s.setAxis i x).check = s.check := rfl
@[simp] theorem State.setAxis_dma (i : Fin 2) (x : Axis) : (s.setAxis i x).dma = s.dma := rfl
@[simp] theorem State.setAxis_clock (i : Fin 2) (x : Axis) : (s.setAxis i x).clock = s.clock := rfl
@[simp] theorem State.setAxis_power (i : Fin 2) (x : Axis) : (s.setAxis i x).power = s.power := rfl
@[simp] theorem State.setAxis_tl (i : Fin 2) (x : Axis) : (s.setAxis i x).tl = s.tl := rfl
@[simp] theorem State.setAxis_dram (i : Fin 2) (x : Axis) : (s.setAxis i x).dram = s.dram := rfl
@[simp] theorem State.setAxis_dramMark (i : Fin 2) (x : Axis) : (s.setAxis i x).dramMark = s.dramMark := rfl

/-! ### stopAxes -/
@[simp] theorem State.stopAxes_pending : (s.stopAxes).pending = s.pending := rfl
@[simp] theorem State.stopAxes_now : (s.stopAxes).now = s.now := rfl
@[simp] theorem State.stopAxes_cyc : (s.stopAxes).cyc = s.cyc := rfl
@[simp] theorem State.stopAxes_freeCount : (s.stopAxes).freeCount = s.freeCount := rfl
@[simp] theorem State.stopAxes_regs : (s.stopAxes).regs = s.regs := rfl
@[simp] theorem State.stopAxes_out : (s.stopAxes).out = s.out := rfl
@[simp] theorem State.stopAxes_str : (s.stopAxes).str = s.str := rfl
@[simp] theorem State.stopAxes_glob : (s.stopAxes).glob = s.glob := rfl
@[simp] theorem State.stopAxes_prick : (s.stopAxes).prick = s.prick := rfl
@[simp] theorem State.stopAxes_fault : (s.stopAxes).fault = s.fault := rfl
@[simp] theorem State.stopAxes_snap : (s.stopAxes).snap = s.snap := rfl
@[simp] theorem State.stopAxes_smbus : (s.stopAxes).smbus = s.smbus := rfl
@[simp] theorem State.stopAxes_lace : (s.stopAxes).lace = s.lace := rfl
@[simp] theorem State.stopAxes_bob : (s.stopAxes).bob = s.bob := rfl
@[simp] theorem State.stopAxes_corr : (s.stopAxes).corr = s.corr := rfl
@[simp] theorem State.stopAxes_store : (s.stopAxes).store = s.store := rfl
@[simp] theorem State.stopAxes_plan : (s.stopAxes).plan = s.plan := rfl
@[simp] theorem State.stopAxes_caril : (s.stopAxes).caril = s.caril := rfl
@[simp] theorem State.stopAxes_cad : (s.stopAxes).cad = s.cad := rfl
@[simp] theorem State.stopAxes_track : (s.stopAxes).track = s.track := rfl
@[simp] theorem State.stopAxes_net : (s.stopAxes).net = s.net := rfl
@[simp] theorem State.stopAxes_time : (s.stopAxes).time = s.time := rfl
@[simp] theorem State.stopAxes_hbm : (s.stopAxes).hbm = s.hbm := rfl
@[simp] theorem State.stopAxes_check : (s.stopAxes).check = s.check := rfl
@[simp] theorem State.stopAxes_dma : (s.stopAxes).dma = s.dma := rfl
@[simp] theorem State.stopAxes_clock : (s.stopAxes).clock = s.clock := rfl
@[simp] theorem State.stopAxes_power : (s.stopAxes).power = s.power := rfl
@[simp] theorem State.stopAxes_tl : (s.stopAxes).tl = s.tl := rfl
@[simp] theorem State.stopAxes_dram : (s.stopAxes).dram = s.dram := rfl
@[simp] theorem State.stopAxes_dramMark : (s.stopAxes).dramMark = s.dramMark := rfl

/-! ### dramPut -/
@[simp] theorem State.dramPut_pending (a : Nat) (l : List Byte) : (s.dramPut a l).pending = s.pending := rfl
@[simp] theorem State.dramPut_now (a : Nat) (l : List Byte) : (s.dramPut a l).now = s.now := rfl
@[simp] theorem State.dramPut_cyc (a : Nat) (l : List Byte) : (s.dramPut a l).cyc = s.cyc := rfl
@[simp] theorem State.dramPut_freeCount (a : Nat) (l : List Byte) : (s.dramPut a l).freeCount = s.freeCount := rfl
@[simp] theorem State.dramPut_regs (a : Nat) (l : List Byte) : (s.dramPut a l).regs = s.regs := rfl
@[simp] theorem State.dramPut_out (a : Nat) (l : List Byte) : (s.dramPut a l).out = s.out := rfl
@[simp] theorem State.dramPut_str (a : Nat) (l : List Byte) : (s.dramPut a l).str = s.str := rfl
@[simp] theorem State.dramPut_glob (a : Nat) (l : List Byte) : (s.dramPut a l).glob = s.glob := rfl
@[simp] theorem State.dramPut_prick (a : Nat) (l : List Byte) : (s.dramPut a l).prick = s.prick := rfl
@[simp] theorem State.dramPut_fault (a : Nat) (l : List Byte) : (s.dramPut a l).fault = s.fault := rfl
@[simp] theorem State.dramPut_snap (a : Nat) (l : List Byte) : (s.dramPut a l).snap = s.snap := rfl
@[simp] theorem State.dramPut_smbus (a : Nat) (l : List Byte) : (s.dramPut a l).smbus = s.smbus := rfl
@[simp] theorem State.dramPut_lace (a : Nat) (l : List Byte) : (s.dramPut a l).lace = s.lace := rfl
@[simp] theorem State.dramPut_bob (a : Nat) (l : List Byte) : (s.dramPut a l).bob = s.bob := rfl
@[simp] theorem State.dramPut_corr (a : Nat) (l : List Byte) : (s.dramPut a l).corr = s.corr := rfl
@[simp] theorem State.dramPut_store (a : Nat) (l : List Byte) : (s.dramPut a l).store = s.store := rfl
@[simp] theorem State.dramPut_plan (a : Nat) (l : List Byte) : (s.dramPut a l).plan = s.plan := rfl
@[simp] theorem State.dramPut_caril (a : Nat) (l : List Byte) : (s.dramPut a l).caril = s.caril := rfl
@[simp] theorem State.dramPut_stage (a : Nat) (l : List Byte) : (s.dramPut a l).stage = s.stage := rfl
@[simp] theorem State.dramPut_cad (a : Nat) (l : List Byte) : (s.dramPut a l).cad = s.cad := rfl
@[simp] theorem State.dramPut_track (a : Nat) (l : List Byte) : (s.dramPut a l).track = s.track := rfl
@[simp] theorem State.dramPut_net (a : Nat) (l : List Byte) : (s.dramPut a l).net = s.net := rfl
@[simp] theorem State.dramPut_time (a : Nat) (l : List Byte) : (s.dramPut a l).time = s.time := rfl
@[simp] theorem State.dramPut_hbm (a : Nat) (l : List Byte) : (s.dramPut a l).hbm = s.hbm := rfl
@[simp] theorem State.dramPut_check (a : Nat) (l : List Byte) : (s.dramPut a l).check = s.check := rfl
@[simp] theorem State.dramPut_dma (a : Nat) (l : List Byte) : (s.dramPut a l).dma = s.dma := rfl
@[simp] theorem State.dramPut_clock (a : Nat) (l : List Byte) : (s.dramPut a l).clock = s.clock := rfl
@[simp] theorem State.dramPut_power (a : Nat) (l : List Byte) : (s.dramPut a l).power = s.power := rfl
@[simp] theorem State.dramPut_tl (a : Nat) (l : List Byte) : (s.dramPut a l).tl = s.tl := rfl
@[simp] theorem State.dramPut_dramMark (a : Nat) (l : List Byte) : (s.dramPut a l).dramMark = s.dramMark := rfl

/-! ### setTransit -/
@[simp] theorem State.setTransit_pending (t : Transit) : (s.setTransit t).pending = s.pending := rfl
@[simp] theorem State.setTransit_now (t : Transit) : (s.setTransit t).now = s.now := rfl
@[simp] theorem State.setTransit_cyc (t : Transit) : (s.setTransit t).cyc = s.cyc := rfl
@[simp] theorem State.setTransit_freeCount (t : Transit) : (s.setTransit t).freeCount = s.freeCount := rfl
@[simp] theorem State.setTransit_regs (t : Transit) : (s.setTransit t).regs = s.regs := rfl
@[simp] theorem State.setTransit_out (t : Transit) : (s.setTransit t).out = s.out := rfl
@[simp] theorem State.setTransit_str (t : Transit) : (s.setTransit t).str = s.str := rfl
@[simp] theorem State.setTransit_glob (t : Transit) : (s.setTransit t).glob = s.glob := rfl
@[simp] theorem State.setTransit_prick (t : Transit) : (s.setTransit t).prick = s.prick := rfl
@[simp] theorem State.setTransit_fault (t : Transit) : (s.setTransit t).fault = s.fault := rfl
@[simp] theorem State.setTransit_snap (t : Transit) : (s.setTransit t).snap = s.snap := rfl
@[simp] theorem State.setTransit_smbus (t : Transit) : (s.setTransit t).smbus = s.smbus := rfl
@[simp] theorem State.setTransit_lace (t : Transit) : (s.setTransit t).lace = s.lace := rfl
@[simp] theorem State.setTransit_bob (t : Transit) : (s.setTransit t).bob = s.bob := rfl
@[simp] theorem State.setTransit_corr (t : Transit) : (s.setTransit t).corr = s.corr := rfl
@[simp] theorem State.setTransit_store (t : Transit) : (s.setTransit t).store = s.store := rfl
@[simp] theorem State.setTransit_plan (t : Transit) : (s.setTransit t).plan = s.plan := rfl
@[simp] theorem State.setTransit_caril (t : Transit) : (s.setTransit t).caril = s.caril := rfl
@[simp] theorem State.setTransit_stage (t : Transit) : (s.setTransit t).stage = s.stage := rfl
@[simp] theorem State.setTransit_cad (t : Transit) : (s.setTransit t).cad = s.cad := rfl
@[simp] theorem State.setTransit_track (t : Transit) : (s.setTransit t).track = s.track := rfl
@[simp] theorem State.setTransit_net (t : Transit) : (s.setTransit t).net = s.net := rfl
@[simp] theorem State.setTransit_time (t : Transit) : (s.setTransit t).time = s.time := rfl
@[simp] theorem State.setTransit_hbm (t : Transit) : (s.setTransit t).hbm = s.hbm := rfl
@[simp] theorem State.setTransit_check (t : Transit) : (s.setTransit t).check = s.check := rfl
@[simp] theorem State.setTransit_dma (t : Transit) : (s.setTransit t).dma = s.dma := rfl
@[simp] theorem State.setTransit_clock (t : Transit) : (s.setTransit t).clock = s.clock := rfl
@[simp] theorem State.setTransit_tl (t : Transit) : (s.setTransit t).tl = s.tl := rfl
@[simp] theorem State.setTransit_dram (t : Transit) : (s.setTransit t).dram = s.dram := rfl
@[simp] theorem State.setTransit_dramMark (t : Transit) : (s.setTransit t).dramMark = s.dramMark := rfl

/-! ### refused -/
@[simp] theorem State.refused_pending (off kind : Nat) : (s.refused off kind).pending = s.pending := by simp only [State.refused]; split <;> rfl
@[simp] theorem State.refused_now (off kind : Nat) : (s.refused off kind).now = s.now := by simp only [State.refused]; split <;> rfl
@[simp] theorem State.refused_freeCount (off kind : Nat) : (s.refused off kind).freeCount = s.freeCount := by simp only [State.refused]; split <;> rfl
@[simp] theorem State.refused_out (off kind : Nat) : (s.refused off kind).out = s.out := by simp only [State.refused]; split <;> rfl
@[simp] theorem State.refused_str (off kind : Nat) : (s.refused off kind).str = s.str := by simp only [State.refused]; split <;> rfl
@[simp] theorem State.refused_glob (off kind : Nat) : (s.refused off kind).glob = s.glob := by simp only [State.refused]; split <;> rfl
@[simp] theorem State.refused_prick (off kind : Nat) : (s.refused off kind).prick = s.prick := by simp only [State.refused]; split <;> rfl
@[simp] theorem State.refused_fault (off kind : Nat) : (s.refused off kind).fault = s.fault := by simp only [State.refused]; split <;> rfl
@[simp] theorem State.refused_snap (off kind : Nat) : (s.refused off kind).snap = s.snap := by simp only [State.refused]; split <;> rfl
@[simp] theorem State.refused_smbus (off kind : Nat) : (s.refused off kind).smbus = s.smbus := by simp only [State.refused]; split <;> rfl
@[simp] theorem State.refused_lace (off kind : Nat) : (s.refused off kind).lace = s.lace := by simp only [State.refused]; split <;> rfl
@[simp] theorem State.refused_bob (off kind : Nat) : (s.refused off kind).bob = s.bob := by simp only [State.refused]; split <;> rfl
@[simp] theorem State.refused_corr (off kind : Nat) : (s.refused off kind).corr = s.corr := by simp only [State.refused]; split <;> rfl
@[simp] theorem State.refused_store (off kind : Nat) : (s.refused off kind).store = s.store := by simp only [State.refused]; split <;> rfl
@[simp] theorem State.refused_plan (off kind : Nat) : (s.refused off kind).plan = s.plan := by simp only [State.refused]; split <;> rfl
@[simp] theorem State.refused_caril (off kind : Nat) : (s.refused off kind).caril = s.caril := by simp only [State.refused]; split <;> rfl
@[simp] theorem State.refused_stage (off kind : Nat) : (s.refused off kind).stage = s.stage := by simp only [State.refused]; split <;> rfl
@[simp] theorem State.refused_cad (off kind : Nat) : (s.refused off kind).cad = s.cad := by simp only [State.refused]; split <;> rfl
@[simp] theorem State.refused_track (off kind : Nat) : (s.refused off kind).track = s.track := by simp only [State.refused]; split <;> rfl
@[simp] theorem State.refused_net (off kind : Nat) : (s.refused off kind).net = s.net := by simp only [State.refused]; split <;> rfl
@[simp] theorem State.refused_time (off kind : Nat) : (s.refused off kind).time = s.time := by simp only [State.refused]; split <;> rfl
@[simp] theorem State.refused_hbm (off kind : Nat) : (s.refused off kind).hbm = s.hbm := by simp only [State.refused]; split <;> rfl
@[simp] theorem State.refused_check (off kind : Nat) : (s.refused off kind).check = s.check := by simp only [State.refused]; split <;> rfl
@[simp] theorem State.refused_dma (off kind : Nat) : (s.refused off kind).dma = s.dma := by simp only [State.refused]; split <;> rfl
@[simp] theorem State.refused_clock (off kind : Nat) : (s.refused off kind).clock = s.clock := by simp only [State.refused]; split <;> rfl
@[simp] theorem State.refused_power (off kind : Nat) : (s.refused off kind).power = s.power := by simp only [State.refused]; split <;> rfl
@[simp] theorem State.refused_tl (off kind : Nat) : (s.refused off kind).tl = s.tl := by simp only [State.refused]; split <;> rfl
@[simp] theorem State.refused_dram (off kind : Nat) : (s.refused off kind).dram = s.dram := by simp only [State.refused]; split <;> rfl
@[simp] theorem State.refused_dramMark (off kind : Nat) : (s.refused off kind).dramMark = s.dramMark := by simp only [State.refused]; split <;> rfl

/-! ### setLatch -/
@[simp] theorem State.setLatch_pending (cause : Nat) : (s.setLatch cause).pending = s.pending := by simp only [State.setLatch]; split <;> rfl
@[simp] theorem State.setLatch_now (cause : Nat) : (s.setLatch cause).now = s.now := by simp only [State.setLatch]; split <;> rfl
@[simp] theorem State.setLatch_cyc (cause : Nat) : (s.setLatch cause).cyc = s.cyc := by simp only [State.setLatch]; split <;> rfl
@[simp] theorem State.setLatch_freeCount (cause : Nat) : (s.setLatch cause).freeCount = s.freeCount := by simp only [State.setLatch]; split <;> rfl
@[simp] theorem State.setLatch_regs (cause : Nat) : (s.setLatch cause).regs = s.regs := by simp only [State.setLatch]; split <;> rfl
@[simp] theorem State.setLatch_out (cause : Nat) : (s.setLatch cause).out = s.out := by simp only [State.setLatch]; split <;> rfl
@[simp] theorem State.setLatch_str (cause : Nat) : (s.setLatch cause).str = s.str := by simp only [State.setLatch]; split <;> rfl
@[simp] theorem State.setLatch_glob (cause : Nat) : (s.setLatch cause).glob = s.glob := by simp only [State.setLatch]; split <;> rfl
@[simp] theorem State.setLatch_prick (cause : Nat) : (s.setLatch cause).prick = s.prick := by simp only [State.setLatch]; split <;> rfl
@[simp] theorem State.setLatch_fault (cause : Nat) : (s.setLatch cause).fault = s.fault := by simp only [State.setLatch]; split <;> rfl
@[simp] theorem State.setLatch_snap (cause : Nat) : (s.setLatch cause).snap = s.snap := by simp only [State.setLatch]; split <;> rfl
@[simp] theorem State.setLatch_smbus (cause : Nat) : (s.setLatch cause).smbus = s.smbus := by simp only [State.setLatch]; split <;> rfl
@[simp] theorem State.setLatch_lace (cause : Nat) : (s.setLatch cause).lace = s.lace := by simp only [State.setLatch]; split <;> rfl
@[simp] theorem State.setLatch_bob (cause : Nat) : (s.setLatch cause).bob = s.bob := by simp only [State.setLatch]; split <;> rfl
@[simp] theorem State.setLatch_corr (cause : Nat) : (s.setLatch cause).corr = s.corr := by simp only [State.setLatch]; split <;> rfl
@[simp] theorem State.setLatch_store (cause : Nat) : (s.setLatch cause).store = s.store := by simp only [State.setLatch]; split <;> rfl
@[simp] theorem State.setLatch_plan (cause : Nat) : (s.setLatch cause).plan = s.plan := by simp only [State.setLatch]; split <;> rfl
@[simp] theorem State.setLatch_stage (cause : Nat) : (s.setLatch cause).stage = s.stage := by simp only [State.setLatch]; split <;> rfl
@[simp] theorem State.setLatch_cad (cause : Nat) : (s.setLatch cause).cad = s.cad := by simp only [State.setLatch]; split <;> rfl
@[simp] theorem State.setLatch_track (cause : Nat) : (s.setLatch cause).track = s.track := by simp only [State.setLatch]; split <;> rfl
@[simp] theorem State.setLatch_net (cause : Nat) : (s.setLatch cause).net = s.net := by simp only [State.setLatch]; split <;> rfl
@[simp] theorem State.setLatch_time (cause : Nat) : (s.setLatch cause).time = s.time := by simp only [State.setLatch]; split <;> rfl
@[simp] theorem State.setLatch_hbm (cause : Nat) : (s.setLatch cause).hbm = s.hbm := by simp only [State.setLatch]; split <;> rfl
@[simp] theorem State.setLatch_check (cause : Nat) : (s.setLatch cause).check = s.check := by simp only [State.setLatch]; split <;> rfl
@[simp] theorem State.setLatch_dma (cause : Nat) : (s.setLatch cause).dma = s.dma := by simp only [State.setLatch]; split <;> rfl
@[simp] theorem State.setLatch_clock (cause : Nat) : (s.setLatch cause).clock = s.clock := by simp only [State.setLatch]; split <;> rfl
@[simp] theorem State.setLatch_power (cause : Nat) : (s.setLatch cause).power = s.power := by simp only [State.setLatch]; split <;> rfl
@[simp] theorem State.setLatch_tl (cause : Nat) : (s.setLatch cause).tl = s.tl := by simp only [State.setLatch]; split <;> rfl
@[simp] theorem State.setLatch_dram (cause : Nat) : (s.setLatch cause).dram = s.dram := by simp only [State.setLatch]; split <;> rfl
@[simp] theorem State.setLatch_dramMark (cause : Nat) : (s.setLatch cause).dramMark = s.dramMark := by simp only [State.setLatch]; split <;> rfl

/-! ### setUnit -/
@[simp] theorem State.setUnit_pending (b : Nat) (u : BobUnit) : (s.setUnit b u).pending = s.pending := rfl
@[simp] theorem State.setUnit_now (b : Nat) (u : BobUnit) : (s.setUnit b u).now = s.now := rfl
@[simp] theorem State.setUnit_cyc (b : Nat) (u : BobUnit) : (s.setUnit b u).cyc = s.cyc := rfl
@[simp] theorem State.setUnit_freeCount (b : Nat) (u : BobUnit) : (s.setUnit b u).freeCount = s.freeCount := rfl
@[simp] theorem State.setUnit_regs (b : Nat) (u : BobUnit) : (s.setUnit b u).regs = s.regs := rfl
@[simp] theorem State.setUnit_out (b : Nat) (u : BobUnit) : (s.setUnit b u).out = s.out := rfl
@[simp] theorem State.setUnit_str (b : Nat) (u : BobUnit) : (s.setUnit b u).str = s.str := rfl
@[simp] theorem State.setUnit_glob (b : Nat) (u : BobUnit) : (s.setUnit b u).glob = s.glob := rfl
@[simp] theorem State.setUnit_prick (b : Nat) (u : BobUnit) : (s.setUnit b u).prick = s.prick := rfl
@[simp] theorem State.setUnit_fault (b : Nat) (u : BobUnit) : (s.setUnit b u).fault = s.fault := rfl
@[simp] theorem State.setUnit_snap (b : Nat) (u : BobUnit) : (s.setUnit b u).snap = s.snap := rfl
@[simp] theorem State.setUnit_smbus (b : Nat) (u : BobUnit) : (s.setUnit b u).smbus = s.smbus := rfl
@[simp] theorem State.setUnit_lace (b : Nat) (u : BobUnit) : (s.setUnit b u).lace = s.lace := rfl
@[simp] theorem State.setUnit_corr (b : Nat) (u : BobUnit) : (s.setUnit b u).corr = s.corr := rfl
@[simp] theorem State.setUnit_store (b : Nat) (u : BobUnit) : (s.setUnit b u).store = s.store := rfl
@[simp] theorem State.setUnit_plan (b : Nat) (u : BobUnit) : (s.setUnit b u).plan = s.plan := rfl
@[simp] theorem State.setUnit_caril (b : Nat) (u : BobUnit) : (s.setUnit b u).caril = s.caril := rfl
@[simp] theorem State.setUnit_stage (b : Nat) (u : BobUnit) : (s.setUnit b u).stage = s.stage := rfl
@[simp] theorem State.setUnit_cad (b : Nat) (u : BobUnit) : (s.setUnit b u).cad = s.cad := rfl
@[simp] theorem State.setUnit_track (b : Nat) (u : BobUnit) : (s.setUnit b u).track = s.track := rfl
@[simp] theorem State.setUnit_net (b : Nat) (u : BobUnit) : (s.setUnit b u).net = s.net := rfl
@[simp] theorem State.setUnit_time (b : Nat) (u : BobUnit) : (s.setUnit b u).time = s.time := rfl
@[simp] theorem State.setUnit_hbm (b : Nat) (u : BobUnit) : (s.setUnit b u).hbm = s.hbm := rfl
@[simp] theorem State.setUnit_check (b : Nat) (u : BobUnit) : (s.setUnit b u).check = s.check := rfl
@[simp] theorem State.setUnit_dma (b : Nat) (u : BobUnit) : (s.setUnit b u).dma = s.dma := rfl
@[simp] theorem State.setUnit_clock (b : Nat) (u : BobUnit) : (s.setUnit b u).clock = s.clock := rfl
@[simp] theorem State.setUnit_power (b : Nat) (u : BobUnit) : (s.setUnit b u).power = s.power := rfl
@[simp] theorem State.setUnit_tl (b : Nat) (u : BobUnit) : (s.setUnit b u).tl = s.tl := rfl
@[simp] theorem State.setUnit_dram (b : Nat) (u : BobUnit) : (s.setUnit b u).dram = s.dram := rfl
@[simp] theorem State.setUnit_dramMark (b : Nat) (u : BobUnit) : (s.setUnit b u).dramMark = s.dramMark := rfl

/-! ### setTiles -/
@[simp] theorem State.setTiles_pending (j : Nat) (q : TileQueue) : (s.setTiles j q).pending = s.pending := rfl
@[simp] theorem State.setTiles_now (j : Nat) (q : TileQueue) : (s.setTiles j q).now = s.now := rfl
@[simp] theorem State.setTiles_cyc (j : Nat) (q : TileQueue) : (s.setTiles j q).cyc = s.cyc := rfl
@[simp] theorem State.setTiles_freeCount (j : Nat) (q : TileQueue) : (s.setTiles j q).freeCount = s.freeCount := rfl
@[simp] theorem State.setTiles_regs (j : Nat) (q : TileQueue) : (s.setTiles j q).regs = s.regs := rfl
@[simp] theorem State.setTiles_out (j : Nat) (q : TileQueue) : (s.setTiles j q).out = s.out := rfl
@[simp] theorem State.setTiles_str (j : Nat) (q : TileQueue) : (s.setTiles j q).str = s.str := rfl
@[simp] theorem State.setTiles_glob (j : Nat) (q : TileQueue) : (s.setTiles j q).glob = s.glob := rfl
@[simp] theorem State.setTiles_prick (j : Nat) (q : TileQueue) : (s.setTiles j q).prick = s.prick := rfl
@[simp] theorem State.setTiles_fault (j : Nat) (q : TileQueue) : (s.setTiles j q).fault = s.fault := rfl
@[simp] theorem State.setTiles_snap (j : Nat) (q : TileQueue) : (s.setTiles j q).snap = s.snap := rfl
@[simp] theorem State.setTiles_smbus (j : Nat) (q : TileQueue) : (s.setTiles j q).smbus = s.smbus := rfl
@[simp] theorem State.setTiles_lace (j : Nat) (q : TileQueue) : (s.setTiles j q).lace = s.lace := rfl
@[simp] theorem State.setTiles_corr (j : Nat) (q : TileQueue) : (s.setTiles j q).corr = s.corr := rfl
@[simp] theorem State.setTiles_store (j : Nat) (q : TileQueue) : (s.setTiles j q).store = s.store := rfl
@[simp] theorem State.setTiles_plan (j : Nat) (q : TileQueue) : (s.setTiles j q).plan = s.plan := rfl
@[simp] theorem State.setTiles_caril (j : Nat) (q : TileQueue) : (s.setTiles j q).caril = s.caril := rfl
@[simp] theorem State.setTiles_stage (j : Nat) (q : TileQueue) : (s.setTiles j q).stage = s.stage := rfl
@[simp] theorem State.setTiles_cad (j : Nat) (q : TileQueue) : (s.setTiles j q).cad = s.cad := rfl
@[simp] theorem State.setTiles_track (j : Nat) (q : TileQueue) : (s.setTiles j q).track = s.track := rfl
@[simp] theorem State.setTiles_net (j : Nat) (q : TileQueue) : (s.setTiles j q).net = s.net := rfl
@[simp] theorem State.setTiles_time (j : Nat) (q : TileQueue) : (s.setTiles j q).time = s.time := rfl
@[simp] theorem State.setTiles_hbm (j : Nat) (q : TileQueue) : (s.setTiles j q).hbm = s.hbm := rfl
@[simp] theorem State.setTiles_check (j : Nat) (q : TileQueue) : (s.setTiles j q).check = s.check := rfl
@[simp] theorem State.setTiles_dma (j : Nat) (q : TileQueue) : (s.setTiles j q).dma = s.dma := rfl
@[simp] theorem State.setTiles_clock (j : Nat) (q : TileQueue) : (s.setTiles j q).clock = s.clock := rfl
@[simp] theorem State.setTiles_power (j : Nat) (q : TileQueue) : (s.setTiles j q).power = s.power := rfl
@[simp] theorem State.setTiles_tl (j : Nat) (q : TileQueue) : (s.setTiles j q).tl = s.tl := rfl
@[simp] theorem State.setTiles_dram (j : Nat) (q : TileQueue) : (s.setTiles j q).dram = s.dram := rfl
@[simp] theorem State.setTiles_dramMark (j : Nat) (q : TileQueue) : (s.setTiles j q).dramMark = s.dramMark := rfl

/-! ### stopTiles -/
@[simp] theorem State.stopTiles_pending (j : Nat) : (s.stopTiles j).pending = s.pending := rfl
@[simp] theorem State.stopTiles_now (j : Nat) : (s.stopTiles j).now = s.now := rfl
@[simp] theorem State.stopTiles_cyc (j : Nat) : (s.stopTiles j).cyc = s.cyc := rfl
@[simp] theorem State.stopTiles_freeCount (j : Nat) : (s.stopTiles j).freeCount = s.freeCount := rfl
@[simp] theorem State.stopTiles_regs (j : Nat) : (s.stopTiles j).regs = s.regs := rfl
@[simp] theorem State.stopTiles_out (j : Nat) : (s.stopTiles j).out = s.out := rfl
@[simp] theorem State.stopTiles_str (j : Nat) : (s.stopTiles j).str = s.str := rfl
@[simp] theorem State.stopTiles_glob (j : Nat) : (s.stopTiles j).glob = s.glob := rfl
@[simp] theorem State.stopTiles_prick (j : Nat) : (s.stopTiles j).prick = s.prick := rfl
@[simp] theorem State.stopTiles_fault (j : Nat) : (s.stopTiles j).fault = s.fault := rfl
@[simp] theorem State.stopTiles_snap (j : Nat) : (s.stopTiles j).snap = s.snap := rfl
@[simp] theorem State.stopTiles_smbus (j : Nat) : (s.stopTiles j).smbus = s.smbus := rfl
@[simp] theorem State.stopTiles_lace (j : Nat) : (s.stopTiles j).lace = s.lace := rfl
@[simp] theorem State.stopTiles_corr (j : Nat) : (s.stopTiles j).corr = s.corr := rfl
@[simp] theorem State.stopTiles_store (j : Nat) : (s.stopTiles j).store = s.store := rfl
@[simp] theorem State.stopTiles_plan (j : Nat) : (s.stopTiles j).plan = s.plan := rfl
@[simp] theorem State.stopTiles_caril (j : Nat) : (s.stopTiles j).caril = s.caril := rfl
@[simp] theorem State.stopTiles_stage (j : Nat) : (s.stopTiles j).stage = s.stage := rfl
@[simp] theorem State.stopTiles_cad (j : Nat) : (s.stopTiles j).cad = s.cad := rfl
@[simp] theorem State.stopTiles_track (j : Nat) : (s.stopTiles j).track = s.track := rfl
@[simp] theorem State.stopTiles_net (j : Nat) : (s.stopTiles j).net = s.net := rfl
@[simp] theorem State.stopTiles_time (j : Nat) : (s.stopTiles j).time = s.time := rfl
@[simp] theorem State.stopTiles_hbm (j : Nat) : (s.stopTiles j).hbm = s.hbm := rfl
@[simp] theorem State.stopTiles_check (j : Nat) : (s.stopTiles j).check = s.check := rfl
@[simp] theorem State.stopTiles_dma (j : Nat) : (s.stopTiles j).dma = s.dma := rfl
@[simp] theorem State.stopTiles_clock (j : Nat) : (s.stopTiles j).clock = s.clock := rfl
@[simp] theorem State.stopTiles_power (j : Nat) : (s.stopTiles j).power = s.power := rfl
@[simp] theorem State.stopTiles_tl (j : Nat) : (s.stopTiles j).tl = s.tl := rfl
@[simp] theorem State.stopTiles_dram (j : Nat) : (s.stopTiles j).dram = s.dram := rfl
@[simp] theorem State.stopTiles_dramMark (j : Nat) : (s.stopTiles j).dramMark = s.dramMark := rfl

/-! ### stopJobs -/
@[simp] theorem State.stopJobs_pending : (s.stopJobs).pending = s.pending := rfl
@[simp] theorem State.stopJobs_now : (s.stopJobs).now = s.now := rfl
@[simp] theorem State.stopJobs_cyc : (s.stopJobs).cyc = s.cyc := rfl
@[simp] theorem State.stopJobs_freeCount : (s.stopJobs).freeCount = s.freeCount := rfl
@[simp] theorem State.stopJobs_regs : (s.stopJobs).regs = s.regs := rfl
@[simp] theorem State.stopJobs_out : (s.stopJobs).out = s.out := rfl
@[simp] theorem State.stopJobs_str : (s.stopJobs).str = s.str := rfl
@[simp] theorem State.stopJobs_glob : (s.stopJobs).glob = s.glob := rfl
@[simp] theorem State.stopJobs_prick : (s.stopJobs).prick = s.prick := rfl
@[simp] theorem State.stopJobs_fault : (s.stopJobs).fault = s.fault := rfl
@[simp] theorem State.stopJobs_snap : (s.stopJobs).snap = s.snap := rfl
@[simp] theorem State.stopJobs_smbus : (s.stopJobs).smbus = s.smbus := rfl
@[simp] theorem State.stopJobs_lace : (s.stopJobs).lace = s.lace := rfl
@[simp] theorem State.stopJobs_store : (s.stopJobs).store = s.store := rfl
@[simp] theorem State.stopJobs_caril : (s.stopJobs).caril = s.caril := rfl
@[simp] theorem State.stopJobs_stage : (s.stopJobs).stage = s.stage := rfl
@[simp] theorem State.stopJobs_cad : (s.stopJobs).cad = s.cad := rfl
@[simp] theorem State.stopJobs_track : (s.stopJobs).track = s.track := rfl
@[simp] theorem State.stopJobs_net : (s.stopJobs).net = s.net := rfl
@[simp] theorem State.stopJobs_time : (s.stopJobs).time = s.time := rfl
@[simp] theorem State.stopJobs_hbm : (s.stopJobs).hbm = s.hbm := rfl
@[simp] theorem State.stopJobs_check : (s.stopJobs).check = s.check := rfl
@[simp] theorem State.stopJobs_dma : (s.stopJobs).dma = s.dma := rfl
@[simp] theorem State.stopJobs_clock : (s.stopJobs).clock = s.clock := rfl
@[simp] theorem State.stopJobs_power : (s.stopJobs).power = s.power := rfl
@[simp] theorem State.stopJobs_tl : (s.stopJobs).tl = s.tl := rfl
@[simp] theorem State.stopJobs_dram : (s.stopJobs).dram = s.dram := rfl
@[simp] theorem State.stopJobs_dramMark : (s.stopJobs).dramMark = s.dramMark := rfl

end Sys2Proof.Machine
end

