-- ==== Sys2Proof/Laws/Ops.lean ====
section
/-! SUPPORT. What the shared operations do: reading a field after a write, the gates of events, and the host port. -/

namespace Sys2Proof.Machine

variable {s : State}

/-! ## Registers -/

theorem State.rg_setRg (s : State) (r q : Reg) (w : Word) (i j : Nat) :
    (s.setRg r w i).rg q j = if q = r ∧ j % 65536 = i % 65536 then w else s.rg q j := RegFile.get_set _ _ _ _ _ _

@[simp] theorem State.rg_setRg_same (s : State) (r : Reg) (w : Word) (i : Nat) : (s.setRg r w i).rg r i = w := by
  simp [State.rg_setRg]

theorem State.rg_setFd (s : State) (x : RegField) (v i : Nat) (q : Reg) (j : Nat) :
    (s.setFd x v i).rg q j = if q = x.reg ∧ j % 65536 = i % 65536 then setFld (s.rg x.reg i) x.hi x.lo v else s.rg q j :=
  RegFile.get_set _ _ _ _ _ _

/-- A field reads back what was written, cut to its width. -/
theorem State.fd_setFd_same (s : State) (x : RegField) (v i : Nat) (h : x.hi < 32) :
    (s.setFd x v i).fd x i = v % 2 ^ (x.hi + 1 - x.lo) := by
  simp only [State.fd, State.setFd, RegFile.fld, RegFile.setFld, RegFile.get_set, and_self, if_true]
  exact bits_setFld_same _ _ h

/-- A field of another register, or of another instance, keeps its value. -/
theorem State.fd_setFd_reg (s : State) (x y : RegField) (v i j : Nat) (h : ¬ (y.reg = x.reg ∧ j % 65536 = i % 65536)) :
    (s.setFd x v i).fd y j = s.fd y j := by
  simp only [State.fd, State.setFd, RegFile.fld, RegFile.setFld, RegFile.get_set_ne _ _ h]

/-- Another field of the same register keeps its value. -/
theorem State.fd_setFd_other (s : State) (x y : RegField) (v i : Nat) (h : y.hi < 32) (hr : y.reg = x.reg)
    (hd : y.hi < x.lo ∨ x.hi < y.lo) : (s.setFd x v i).fd y i = s.fd y i := by
  simp only [State.fd, State.setFd, RegFile.fld, RegFile.setFld, RegFile.get_set, hr, and_self, if_true]
  exact bits_setFld_other _ _ h hd

/-! ## Gates -/

theorem State.whenReady_up (h : s.up) (f : State → State) : s.whenReady f = f s := by
  simp [State.whenReady, h.1, h.2]

theorem State.whenUp_ready (h : s.glob.ready = true) (f : State → State) : s.whenUp f = f s := by
  simp [State.whenUp, h]

theorem State.whenAon_up (h : s.glob.aonReset = false) (f : State → State) : s.whenAon f = f s := by
  simp [State.whenAon, State.aonUp, h]

/-! ## The host port -/

/-- In RUN a CMD wake event is only latched. -/
theorem State.wake_runs (h : s.runs) : s.wake 0 = s.cmdSeen := by
  have h1 : s.wakeOn 0 = true := rfl
  simp only [State.wake, h1, State.cmdSeen]
  simp [h.2.1, h.2.2]

/-- In RUN a write that starts a wake latches the CMD wake event. -/
theorem State.wakeBy_runs (h : s.runs) (r : Reg) : s.wakeBy r = s.cmdSeen := by
  simp [State.wakeBy, hushYields, h.2.2, State.wake_runs h]

/-- A write in RUN to a register that is present and starts a wake. -/
theorem State.hostCmd_wake (h : s.runs) {r : Reg} {v : Nat} (f : State → State) (hw : cmdWake r (BitVec.ofNat 32 v) = true)
    (ha : s.cmdSeen.cmdAbsent r = false) : s.hostCmd r v f = f s.cmdSeen := by
  simp [State.hostCmd, State.hostWrite, h.1, h.2.1, hw, State.wakeBy_runs h, ha]

/-- A write in RUN to a register that is present and starts no wake. -/
theorem State.hostCmd_plain (h : s.runs) {r : Reg} {v : Nat} (f : State → State) (hw : cmdWake r (BitVec.ofNat 32 v) = false)
    (ha : s.cmdAbsent r = false) : s.hostCmd r v f = f s := by
  simp [State.hostCmd, State.hostWrite, h.1, h.2.1, hw, ha]

/-- Before READY a write is refused, logged and raised. -/
theorem State.hostCmd_notReady (h : s.glob.ready = false) (r : Reg) (v : Nat) (f : State → State) :
    s.hostCmd r v f = (s.refused (r.off 0) 4).raise .RST_NOT_READY := by
  simp [State.hostCmd, State.hostWrite, h]

end Sys2Proof.Machine
end

