-- ==== Sys2Proof/WellFormed.lean ====
section
/-! DEFINITION. Which operands the outside world can bring: the sizes of frames and datagrams (R364, NET_MTU of R399), of memory
requests (R437) and of the windows (Table 21-1). No meaning relies on it: every command has its effect on every operand. -/

namespace Sys2Proof

/-- The command's operands are ones that the outside can bring. -/
def Instr.wf (c : Instr) : Bool :=
  match c with
  | .arm => true
  | .disarm => true
  | .start => true
  | .abort => true
  | .release => true
  | .verifyReturn l => l.isEmpty || decide (l.length = 16)
  | .verifyTimeout => true
  | .plnUnderrunDamp => true
  | .axesSettled => true
  | .cadenceSlot => true
  | .beatFrame l => decide (l.length = 16)
  | .tickFrame l => decide (l.length = 16)
  | .verifyFrame l => decide (l.length = 16)
  | .cadenceFrameReturn l => l.isEmpty || decide (l.length = 16)
  | .stgCadenceLost _ => true
  | .stripeStart l => l.isEmpty || decide (l.length = 16)
  | .passStart l => l.isEmpty || decide (l.length = 16)
  | .done l => l.isEmpty || decide (l.length = 16)
  | .shift l => l.isEmpty || decide (l.length = 16)
  | .damp l => l.isEmpty || decide (l.length = 16)
  | .cadAbort l => l.isEmpty || decide (l.length = 16)
  | .cadRimshot l => l.isEmpty || decide (l.length = 16)
  | .beamCheck l => l.isEmpty || decide (l.length = 16)
  | .beat => true
  | .pealStart => true
  | .keepAlive _ => true
  | .tl40FrameStart _ => true
  | .dampSource _ _ _ => true
  | .dampNAsserted => true
  | .dampNDeasserted => true
  | .latchClear => true
  | .statusEcho _ _ _ => true
  | .measureEcho _ _ _ => true
  | .trainEcho _ _ _ => true
  | .echoTimeout _ => true
  | .trainFrame _ _ => true
  | .trainTimeout _ => true
  | .retrain => true
  | .eyeCal => true
  | .eyeCalDone _ _ => true
  | .txSleep => true
  | .txWake => true
  | .rxSleep => true
  | .rxWake => true
  | .laneWakeDone _ _ => true
  | .metSample _ _ _ => true
  | .recentreBlock => true
  | .metCal => true
  | .metCalDone _ _ _ => true
  | .cmpArm => true
  | .cmpDisarm => true
  | .profileUpdate => true
  | .move => true
  | .stop => true
  | .setpointFrame => true
  | .beatExtEdge => true
  | .beatStallTimeout => true
  | .tempProjection => true
  | .tempHoldTimeout => true
  | .swap => true
  | .clear => true
  | .trackMapDataWrite _ => true
  | .trackRepCfgWrite _ => true
  | .tileIssue _ => true
  | .tileComplete _ wrong _ => wrong.all (fun e => decide (e.2 < 2 ^ 36))
  | .tileDeliver => true
  | .liveJobComplete _ wrong _ => wrong.all (fun e => decide (e.2 < 2 ^ 36))
  | .bobWatchdog _ => true
  | .bobSramUncorr _ => true
  | .bobDisableWrite _ => true
  | .bobFailMaskClear _ => true
  | .corrRowFinal => true
  | .edgingRecord l => decide (l.length ≤ 9216)
  | .edgingReply l => decide (l.length ≤ 9216)
  | .edgingRetry => true
  | .corEdgingLost _ => true
  | .storeRowVerify => true
  | .storeLineDeliver => true
  | .seamRecord l => decide (l.length ≤ 9216)
  | .plnSeamLost _ => true
  | .electrical => true
  | .gate => true
  | .scanAbort => true
  | .scanDone => true
  | .laceOpen => true
  | .laceClose => true
  | .chunkOpenArrives _ _ => true
  | .chunk _ _ => true
  | .register => true
  | .registerDone => true
  | .unregister => true
  | .load => true
  | .verify => true
  | .imageSectionArrives bytes _ => decide (bytes.length ≤ 0x1000000)
  | .loadEnd => true
  | .dataDatagram l => decide (l.bytes.length ≤ 9216)
  | .edgeDatagram l => decide (l.bytes.length ≤ 9216)
  | .ctrlDatagram l => decide (l.bytes.length ≤ 9216)
  | .ctrlPeriodic => true
  | .ptpFrameRx _ l => decide (l.length ≤ 9216)
  | .netLinkDown _ => true
  | .linkUp _ => true
  | .clockStep => true
  | .triggerFire _ => true
  | .ppsOutRise => true
  | .ppsOutFall => true
  | .ppsInEdge => true
  | .apply => true
  | .force => true
  | .restart => true
  | .set => true
  | .latch => true
  | .trigArm => true
  | .trigDisarm => true
  | .dramRead _ _ _ _ _ _ _ => true
  | .dramWrite _ _ _ data => decide (1 ≤ data.length ∧ data.length ≤ 512)
  | .rhWindow => true
  | .rhHoldExpire => true
  | .refresh _ _ => true
  | .stackTempRead _ _ => true
  | .remap => true
  | .fillDone _ => true
  | .scrubStart => true
  | .scrubAbort => true
  | .scrubDone => true
  | .inject _ => true
  | .injectDisarm => true
  | .ringEnable _ => true
  | .ringDisable _ => true
  | .ringAbort _ => true
  | .ringReset _ => true
  | .ringTailWrite _ _ => true
  | .descFetch _ host => host.all (fun d => decide (d.length = 64 ∨ d = []))
  | .copy _ => true
  | .fill _ => true
  | .compare _ => true
  | .fence _ => true
  | .notify _ => true
  | .lacePush _ => true
  | .ptpSend _ host _ => decide (host.length ≤ 9216)
  | .ptpRecv _ => true
  | .dmaBurst _ _ src dst _ => decide (src.length ≤ 4096 ∧ dst.length ≤ 4096)
  | .opComplete _ _ => true
  | .slotRelease _ _ _ => true
  | .ringGrantWrite _ => true
  | .msixUnmask _ => true
  | .flrFunction0 => true
  | .flrTl40 _ => true
  | .configRequest _ _ _ => true
  | .regWrite sp off _ _ => match sp with
    | .bar0 => decide (off.toNat < 0x2000000)
    | .bar2 => decide (off.toNat < 0x400000)
    | .window _ => decide (off.toNat < 0x10000)
  | .pllUnlock _ => true
  | .freqCheck _ _ => true
  | .clockRecovered isPll n => !isPll || decide (n.val < 6)
  | .xingReopen _ => true
  | .enterHush => true
  | .enterDormant _ => true
  | .wake => true
  | .hushIdleTimer => true
  | .dormantIdleTimer _ => true
  | .hushEntryDone _ => true
  | .dormantEntryDone => true
  | .wakeEvent _ => true
  | .exitDone => true
  | .pwrAonBrownout => true
  | .arbiterWindow _ _ _ _ _ => true
  | .pmbusReadback _ _ => true
  | .pmbusFailClear => true
  | .compute => true
  | .append => true
  | .strip => true
  | .checkCompare => true
  | .checkAbort => true
  | .checkDone _ => true
  | .faultHandle => true
  | .safIslandStall _ => true
  | .safIslandReset _ => true
  | .junctionTempCross _ => true
  | .safThermalTrip => true
  | .snapRimshot => true
  | .rimshotInEdge => true
  | .snapCaptureDone => true
  | .snapRelease => true
  | .smbStatusRead => true
  | .smbFaultCodeSet _ _ => true
  | .smbFaultCodeRead => true
  | .smbLogIndexSet _ _ => true
  | .smbLogRead => true
  | .smbSnapGroupSet _ _ => true
  | .smbSnapRead => true
  | .smbCauseRead => true
  | .smbWake _ => true
  | .smbRimshot _ => true
  | .powerOnReset _ _ _ => true
  | .sysRst _ _ => true
  | .perstAssert => true
  | .perstDeassert => true
  | .warm _ => true
  | .cold _ _ _ => true
  | .rstBootHalt _ => true
  | .bootReady => true
  | .tlFifoWrite _ _ => true
  | .tlRect _ => true
  | .tlTrap _ => true
  | .tlArray _ => true
  | .tlStripe _ => true
  | .tlStart _ => true
  | .tlEnd _ => true
  | .tlCommitRunIn _ => true
  | .tlDone _ => true
  | .tlAbort _ => true
  | .fifoReset _ => true
  | .tlStatusRead _ => true
  | .tlFlowWrite _ _ => true
  | .read => true
  | .program => true
  | .erase4k => true
  | .erase64k => true
  | .flashDone _ _ => true
  | .cadenceLock => true
  | .blockLockLost _ => true
  | .blockLockRegained _ => true
  | .netFrameDiscard _ => true
  | .rimshotOutFall => true
  | .tripRecovery _ _ _ => true
  | .junctionLevelFall _ => true

end Sys2Proof
end

