-- ==== Sys2Proof/Tests/Slice0.lean ====
section
/-! SUPPORT. Tests: ill-formed commands, the step, and for every statement states and operands that meet the hypotheses of its clauses.
The theorems are elaborated one after another, so that few of them are in memory at once. -/

set_option Elab.async false

open Sys2Proof Sys2Proof.Machine

namespace Sys2Proof.Tests

/-- A solo device in RUN whose structure gives it one pipeline without lanes and a partition of 16 GiB. -/
def dev : State :=
  { State.reset with
    glob := { GlobalSt.reset with ready := true, booting := none, crs := false }
    str := { Structure.safeStructure with safe := false, pipes := [⟨15, 15, 0, 0⟩], parts := [(0, 2 ^ 34)] } }

/-- The device with fields set, all at instance 0. -/
def withFds (s : State) (l : List (RegField × Nat)) : State := l.foldl (fun s e => s.setFd e.1 e.2) s

/-- The device as a member, and as the lead of two devices. -/
def memberDev : State := { dev with str := { dev.str with role := .member, devIndex := 1, columnSize := 2 } }
def leadDev : State := { dev with str := { dev.str with role := .lead, columnSize := 2 } }

/-- A member whose stripe of 16,384 lines may be armed. -/
def armable : State :=
  withFds memberDev [(F.PLAN_STRIPE_LINES_LINES, 16384), (F.PLAN_PASS_SHARE_SHARE, 65536), (F.CORR_PEND_BASE_BASE_MB, 8192), (F.CORR_PEND_SIZE_SIZE_MB, 64),
    (F.CORR_FMAP_BASE_BASE_MB, 9000), (F.CORR_FMAP_SIZE_SIZE_MB, 64), (F.STORE_BASE_BASE_MB, 10000), (F.STORE_SIZE_SIZE_MB, 2048),
    (F.STORE_LIVE_LEAD_LEAD, 8), (F.PLAN_SEAM_CFG_COLS, 0), (F.PLAN_SEAM_CFG_T, 0)]

/-- A stripe in a state. -/
def inState (s : State) (p : StripeState) : State := { s with plan := { s.plan with state := p } }

/-- A memory that holds the bytes l from address a on, and 0 elsewhere. -/
def dramBytesOf (a : Nat) (l : List Byte) : Sparse Byte := (l.zipIdx a).foldl (fun d e => Sparse.set 0 d e.2 e.1) []

/-- The hypotheses of ArmAcceptsOrRefuses are met: an accepted ARM, a refused one, one turned away, one outside IDLE. -/
theorem test_witness_ArmAcceptsOrRefuses :
    (armable.runs ∧ armable.native = true ∧ armable.plan.state = .idle ∧
      (armable.cmdSeen.cyc.foldl undoEvent armable.cmdSeen).armBarred = [] ∧
      (applyStaged (armable.cmdSeen.cyc.foldl undoEvent armable.cmdSeen)).armRefusals = []) ∧
    (let s := withFds memberDev [(F.PLAN_SEAM_CFG_COLS, 0)]
     s.runs ∧ s.native = true ∧ s.plan.state = .idle ∧ s.cyc = [] ∧ s.cmdSeen.armBarred = [] ∧ (applyStaged s.cmdSeen).armRefusals ≠ []) ∧
    (let s := { memberDev with str := { memberDev.str with safe := true } }
     s.runs ∧ s.native = true ∧ s.plan.state = .idle ∧ s.cyc = [] ∧ s.cmdSeen.armBarred ≠ []) ∧
    (let s := inState dev .aborted; s.runs ∧ s.native = true ∧ s.plan.state ≠ .idle) := by decide +kernel

/-- The hypotheses of StripeReturnsToIdle are met. -/
theorem test_witness_StripeReturnsToIdle :
    (let s := inState dev .armed; s.runs ∧ s.native = true ∧ s.plan.state = .armed) ∧
    (let s := inState dev .done; s.runs ∧ s.native = true ∧ s.plan.state = .done ∧ s.localPersists = false) ∧
    (dev.runs ∧ dev.native = true ∧ dev.plan.state = .idle ∧ dev.localPersists = false) := by decide +kernel

/-- The hypotheses of StartAbortAndWaits are met (StartAndAbort). -/
theorem test_witness_StartAbortAndWaits_StartAndAbort :
    (let s := inState leadDev .armed
     s.runs ∧ s.native = true ∧ s.str.role = .lead ∧ s.plan.state = .armed ∧ s.plan.started = none ∧ s.plan.accepted = false ∧
      ∀ c ∈ [0, 1, 2], (s.chan c).calActive = false) ∧
    (let s := inState dev .armed
     s.runs ∧ s.native = true ∧ s.str.role = .solo ∧ s.plan.state = .armed ∧ s.plan.started = none ∧ s.plan.accepted = false ∧
      (∀ c ∈ [0, 1, 2], (s.chan c).calActive = false) ∧ s.committed = false) ∧
    (let s := { withFds (inState dev .armed) [(F.PLAN_STRIPE_LINES_LINES, 32)] with
        store := { StoreSt.reset with feasOk := true, verified := 1 }, plan := { PlanSt.reset with state := .armed, compRows := [0] } }
     s.runs ∧ s.native = true ∧ s.str.role = .solo ∧ s.plan.state = .armed ∧ s.plan.started = none ∧ s.plan.accepted = false ∧
      (∀ c ∈ [0, 1, 2], (s.chan c).calActive = false) ∧ s.committed = true) ∧
    (let s0 := inState dev .armed; let s := s0.setChan 1 { s0.chan 1 with calActive := true }
     s.runs ∧ s.native = true ∧ s.leads = true ∧ s.plan.state = .armed ∧ s.plan.started = none ∧ s.plan.accepted = false ∧
      (∃ c ∈ [0, 1, 2], (s.chan c).calActive = true)) ∧
    (memberDev.runs ∧ memberDev.native = true ∧ memberDev.str.role = .member) ∧
    (let s := inState leadDev .exposing; s.runs ∧ s.native = true ∧ s.leads = true ∧ s.plan.state.running = true) ∧
    (let s := inState memberDev .runOut; s.runs ∧ s.native = true ∧ s.leads = false ∧ s.plan.state.running = true) := by
  decide +kernel

/-- A lead that waits on its stage, both axes settled. -/
def waiting (w : StageWait) (p : StripeState) : State :=
  { inState leadDev p with
    now := 1000000000
    stage := { StageSt.reset with wait := w, met := Vector.replicate 4 { MetCh.first with settle := 10 } } }

/-- The hypotheses of StartAbortAndWaits are met (WaitsOfTheLead). -/
theorem test_witness_StartAbortAndWaits_WaitsOfTheLead :
    (let s := { inState leadDev .armed with now := 10000000, plan := { PlanSt.reset with state := .armed, started := some ⟨0, some 3⟩ } }
     s.up ∧ s.plan.started = some ⟨0, some 3⟩ ∧ s.plan.state = .armed ∧ 0 + 10000000 ≤ s.now) ∧
    (let s := { waiting .startSettle .armed with plan := { PlanSt.reset with state := .armed, accepted := true } }
     s.up ∧ s.motionOn = true ∧ s.stage.wait = .startSettle ∧ s.settled = true ∧ s.plan.state = .armed ∧ s.plan.accepted = true) ∧
    (let s := waiting (.passSettle 1) .runOut
     s.up ∧ s.motionOn = true ∧ s.stage.wait = .passSettle 1 ∧ s.settled = true ∧ s.plan.state = .runOut ∧
      s.fd F.STAGE_TEMP_STATUS_LEVEL < 2) ∧
    (let s := (waiting (.passSettle 1) .runOut).setFd F.STAGE_TEMP_STATUS_LEVEL 2
     s.up ∧ s.motionOn = true ∧ s.stage.wait = .passSettle 1 ∧ s.settled = true ∧ s.plan.state = .runOut ∧
      2 ≤ s.fd F.STAGE_TEMP_STATUS_LEVEL ∧ s.stage.holdFrom = none) ∧
    (let s := waiting .doneSettle .runOut
     s.up ∧ s.motionOn = true ∧ s.stage.wait = .doneSettle ∧ s.settled = true ∧ s.plan.state = .runOut ∧ s.doneAllowed = true) := by
  decide +kernel

/-- A member that has recovered CAD_IN, and a lead whose returning link is aligned. -/
def chainDev : State := { memberDev with cad := { CadSt.reset with locked := true, lastSeq := some 255 } }
def ringDev (f : SentFrame) : State := { leadDev with cad := { CadSt.reset with locked := true, lastSeq := some 4, flight := [f] } }
/-- A CMD frame with CODE 1, SEQ 0, HOP 1. -/
def cmdBytes (code : Nat) : List Byte := cadFrame 2 0 1 (CadCmd.payload ⟨code, 0, 0⟩) 0 false
/-- A device with one scheduled command, due. -/
def sched (s : State) (p : StripeState) (c : CadCmd) : State := { inState s p with cad := { CadSt.reset with scheduled := [(0, c)] } }

/-- The hypotheses of CommandFramesAreScheduled are met, here for STRIPE_START and for BEAM_CHECK. -/
theorem test_witness_CommandFramesAreScheduled :
    chainDev.up ∧ chainDev.onChain = true ∧ chainDev.cad.struck = false ∧ frTyp (cmdBytes 1) = 2 ∧ byteAt (cmdBytes 1) 4 = 1 ∧ chainDev.frameOk (cmdBytes 1) 1 = true ∧
      byteAt (cmdBytes 8) 4 = 8 ∧ chainDev.frameOk (cmdBytes 8) chainDev.str.devIndex = true := by decide +kernel

/-- The hypotheses of ScheduledStripeCommands are met. -/
theorem test_witness_ScheduledStripeCommands :
    (let s := sched memberDev .armed ⟨1, 0, 0⟩; s.up ∧ s.native = true ∧ (takeScheduled 1 s).isSome ∧ s.plan.state = .armed) ∧
    (let s := (sched memberDev .runOut ⟨2, 1, 0⟩).setFd F.PLAN_STRIPE_CFG_PASSES_M1 1
     s.up ∧ s.native = true ∧ (takeScheduled 2 s).isSome ∧ s.plan.state = .runOut ∧ 1 = s.plan.pass + 1 ∧ 1 < s.passes) ∧
    (let s := sched memberDev .runOut ⟨3, 0, 0⟩
     s.up ∧ s.native = true ∧ (takeScheduled 3 s).isSome ∧ s.plan.state = .runOut ∧ s.passes ≤ s.plan.pass + 1) ∧
    (let s := sched memberDev .exposing ⟨4, 1, 9⟩
     s.up ∧ s.native = true ∧ (takeScheduled 4 s).isSome ∧ s.plan.state = .exposing ∧ s.plan.shifts = []) := by decide +kernel

/-- The hypotheses of CadenceDampsAndBeamChecks are met (CadenceDampAndAbort). -/
theorem test_witness_CadenceDampsAndBeamChecks_CadenceDampAndAbort :
    (let s := sched memberDev .runIn ⟨5, 0x80B, 64⟩; s.up ∧ s.native = true ∧ (takeScheduled 5 s).isSome ∧ s.plan.state = .runIn) ∧
    (let s := sched memberDev .exposing ⟨6, 0, 0⟩; s.up ∧ s.native = true ∧ (takeScheduled 6 s).isSome ∧ s.plan.state = .exposing) := by
  decide +kernel

/-- A gate scan that has asked for a measurement. -/
def gateScan : ScanSt :=
  { kind := .gate, startedAt := 0, slot := 0, entries := [], lanesDone := 0, baseline := none, item := 0, sub := 0, failing := [], d1 := 0,
    window := none, sum := 0, finished := false, fault := 0 }

/-- The hypotheses of CadenceDampsAndBeamChecks are met (BeamCheckOpensBeams). -/
theorem test_witness_CadenceDampsAndBeamChecks_BeamCheckOpensBeams :
    (let s := sched memberDev .idle ⟨8, 1, 0x1FF⟩
     s.up ∧ s.native = true ∧ (takeScheduled 8 s).isSome ∧ bits 1 5 0 = s.str.devIndex ∧ s.plan.scan = none ∧ 0 < bits 0x1FF 23 8) ∧
    (let s := { sched leadDev .idle ⟨8, 1, 255⟩ with plan := { PlanSt.reset with scan := some gateScan } }
     s.up ∧ s.native = true ∧ s.leads = true ∧ (takeScheduled 8 s).isSome ∧ bits 1 5 0 ≠ s.str.devIndex ∧ s.plan.scan = some gateScan ∧
      gateScan.kind = .gate ∧ gateScan.window = none ∧ gateScan.finished = false) := by decide +kernel

/-- A solo device in EXPOSING with one external edge waiting. -/
def edgeDev : State :=
  { (withFds (inState leadDev .exposing) [(F.PLAN_STRIPE_LINES_LINES, 16384), (F.STAGE_BEAT_CFG_SRC, 1), (F.STAGE_BEAT_CFG_EXT_DELAY_NS, 0)]) with
    stage := { StageSt.reset with extEdges := [0], nextBeat := 1 } }

/-- The hypotheses of CadenceSlotsAndMemberFrames are met (SlotPriority). -/
theorem test_witness_CadenceSlotsAndMemberFrames_SlotPriority :
    (let s := { leadDev with cad := { CadSt.reset with due := [⟨1, 0, 0⟩, ⟨5, 0x80B, 0⟩] } }
     s.up ∧ s.native = true ∧ s.leads = true ∧ s.plan.scan = none ∧ s.beatPlan = .wait ∧
      s.cad.due.find? (fun c => c.code == 5 || c.code == 6) = some ⟨5, 0x80B, 0⟩) ∧
    (edgeDev.up ∧ edgeDev.native = true ∧ edgeDev.leads = true ∧ edgeDev.plan.scan = none ∧
      edgeDev.beatPlan = .issue (edgeDev.stageT + edgeDev.tBeat) ∧ ∀ c ∈ edgeDev.cad.due, c.code ≠ 5 ∧ c.code ≠ 6) ∧
    (let s := { inState leadDev .armed with cad := { CadSt.reset with due := [⟨1, 0, 0⟩] } }
     s.up ∧ s.native = true ∧ s.leads = true ∧ s.plan.scan = none ∧ s.beatPlan = .wait ∧ s.cad.due = [⟨1, 0, 0⟩] ∧
      s.cmdStands ⟨1, 0, 0⟩ = true ∧ s.cmdHeld ⟨1, 0, 0⟩ = false) ∧
    (leadDev.up ∧ leadDev.native = true ∧ leadDev.str.role = .lead ∧ leadDev.plan.scan = none ∧ leadDev.beatPlan = .wait ∧
      leadDev.cad.due = [] ∧ leadDev.verifyDue = false) ∧
    (dev.up ∧ dev.native = true ∧ dev.str.role = .solo ∧ dev.plan.scan = none ∧ dev.beatPlan = .wait ∧ dev.cad.due = [] ∧
      dev.deviceLevel = 0) ∧
    (let s := inState leadDev .armed
     s.up ∧ s.native = true ∧ s.str.role = .lead ∧ s.plan.scan = none ∧ s.beatPlan = .wait ∧ s.cad.due = [] ∧ s.verifyDue = true) := by
  decide +kernel

/-- The hypotheses of CadenceSlotsAndMemberFrames are met (MemberFrames). -/
theorem test_witness_CadenceSlotsAndMemberFrames_MemberFrames :
    (let s := inState chainDev .exposing; let l := cadFrame 1 0 1 [9, 0, 0, 0, 32, 0, 0, 0] 0 false
     s.up ∧ s.onChain = true ∧ s.cad.struck = false ∧ frTyp l = 1 ∧ s.frameOk l s.str.devIndex = true ∧ s.plan.state.running = true) ∧
    (let l := cadFrame 0 0 1 [0, 255, 0, 0, 0, 0, 0, 0] 0 false
     chainDev.up ∧ chainDev.onChain = true ∧ chainDev.cad.struck = false ∧ frTyp l = 0 ∧ chainDev.frameOk l 1 = true) ∧
    (let l := cadFrame 3 0 1 [0, 0, 0, 0, 0, 0, 0, 0] 0 false
     chainDev.up ∧ chainDev.onChain = true ∧ frTyp l = 3 ∧ chainDev.frameOk l 1 = true) ∧
    (let l := cadFrame 0 9 1 [0, 255, 0, 0, 0, 0, 0, 0] 0 false; let s := inState chainDev .exposing
     chainDev.up ∧ chainDev.onChain = true ∧ frTyp l = 0 ∧ chainDev.frameOk l 1 = false ∧ chainDev.plan.state.running = false ∧
      s.up ∧ s.onChain = true ∧ s.frameOk l s.str.devIndex = false ∧ s.plan.state = .exposing) := by
  decide +kernel

/-- A lead in ARMED, committed, whose START verification is on the chain. -/
def startDev : State :=
  { withFds leadDev [(F.PLAN_STRIPE_LINES_LINES, 32), (F.STAGE_CAD_HORIZON_H_NS, 1000)] with
    store := { StoreSt.reset with feasOk := true, verified := 1 }
    plan := { PlanSt.reset with state := .armed, compRows := [0], edgeOk := Vector.replicate 2 true, started := some ⟨0, some 5⟩ }
    cad := { CadSt.reset with locked := true, lastSeq := some 4, flight := [⟨3, 5, [], 0, true, false⟩] } }

/-- The hypotheses of ReturningFramesAndBeats are met (FramesReturnToTheLead). -/
theorem test_witness_ReturningFramesAndBeats_FramesReturnToTheLead :
    (let s := ringDev ⟨0, 5, [], 0, false, false⟩; let l := cadFrame 0 5 2 [0, 255, 0, 0, 0, 0, 0, 0] 0 false
     s.up ∧ s.native = true ∧ s.str.role = .lead ∧ s.returnOk ⟨0, 5, [], 0, false, false⟩ l = true ∧ s.deviceLevel = 0 ∧ byteAt l 4 = 0) ∧
    (let f : SentFrame := ⟨1, 5, [9, 0, 0, 0, 32, 0, 0, 0], 0, false, false⟩; let s := ringDev f
     s.up ∧ s.native = true ∧ s.returnOk f (cadFrame 1 5 2 [9, 0, 0, 0, 32, 0, 0, 0] 0 false) = true) ∧
    (let f : SentFrame := ⟨3, 5, [], 0, false, false⟩; let s := ringDev f
     s.up ∧ s.native = true ∧ s.returnOk f (cadFrame 3 5 2 [0, 0, 0, 0, 0, 0, 0, 0] 0 false) = true) ∧
    (let f : SentFrame := ⟨3, 5, [], 0, true, false⟩; let s := startDev; let l := cadFrame 3 5 2 [0, 0, 0, 0, 0, 0, 0, 0] 0 false
     s.up ∧ s.native = true ∧ s.str.role = .lead ∧ s.cad.flight = [f] ∧ s.returnOk f l = true ∧ s.plan.state = .armed ∧ s.plan.started ≠ none ∧
      s.committed = true ∧ byteAt l 11 % 8 = 0 ∧
      ((frElapsed l : Int) - ((s.stageT - f.issuedAt).toNat : Int)).natAbs ≤ s.fd F.STAGE_CAD_TOL_TOL ∧
      (frElapsed l : Int) + 800 ≤ s.horizon ∧ (s.stageT - f.issuedAt).toNat ≤ 100000) ∧
    (let f : SentFrame := ⟨1, 5, [], 0, false, false⟩; let s := ringDev f
     s.up ∧ s.native = true ∧ s.cad.struck = false ∧ s.cad.flight = [f] ∧ f.typ ≠ 3 ∧ s.plan.state.running = false) := by decide +kernel

/-- A stripe of 16,384 lines with one issued beat, due. -/
def beatDev (p : StripeState) (k : Nat) : State :=
  { (inState leadDev p).setFd F.PLAN_STRIPE_LINES_LINES 16384 with stage := { StageSt.reset with issued := [⟨k, 0, 0, false⟩] } }

/-- The hypotheses of ReturningFramesAndBeats are met (LockLossAndBeats). -/
theorem test_witness_ReturningFramesAndBeats_LockLossAndBeats :
    (memberDev.up ∧ memberDev.native = true ∧ memberDev.str.role ≠ .solo) ∧
    (chainDev.up ∧ chainDev.native = true ∧ chainDev.str.role = .member ∧ chainDev.cad.locked = true ∧ chainDev.plan.state.running = false) ∧
    (let s := { chainDev with now := 80000, cad := { chainDev.cad with lastSof := some 0 } }
     s.up ∧ s.cad.locked = true ∧ s.cad.lastSof = some 0 ∧ 0 + 800 ≤ s.stageT) ∧
    (let s := beatDev .exposing 16320
     s.up ∧ s.native = true ∧ (0 : Int) ≤ s.stageT ∧ 0 = s.plan.pass ∧ s.plan.state = .exposing ∧ s.shiftRefused 16320 = false ∧
      s.plan.underruns = [] ∧ s.marginBad 16320 = false ∧ 16320 + 1 < s.passBeats) ∧
    (let s := beatDev .exposing 32735
     s.up ∧ s.native = true ∧ s.plan.state = .exposing ∧ s.plan.underruns = [] ∧ s.marginBad 32735 = false ∧ s.passBeats ≤ 32735 + 1) ∧
    (let s := { inState dev .exposing with plan := { PlanSt.reset with state := .exposing, underruns := [⟨0, 63, none⟩] } }
     s.up ∧ s.native = true ∧ s.plan.underruns.any s.underrunDue = true) := by decide +kernel

/-- A metrology word of position 0 with its CRC8, and one whose CRC8 is wrong. -/
def metWord (good : Bool) : Nat := if good then crc crcC8A (beBytes 7 0) else crc crcC8A (beBytes 7 0) + 1

/-- The hypotheses of MetrologySamplesAndPhase are met (MetrologySamples). -/
theorem test_witness_MetrologySamplesAndPhase_MetrologySamples :
    (dev.up ∧ dev.metOn 2 = true ∧ dev.stage.gridAt ≤ 7 ∧ (dev.chan 2).calActive = false ∧ dev.anyRunning = false ∧ dev.stage.cmpArmed = false ∧
      dev.stage.inner = none ∧ dev.metGood 2 (metWord true) = true) ∧
    (dev.metGood 1 (metWord false) = false ∧ bit (metWord false) 21 = 0 ∧ (dev.chan 1).badRun + 1 < max 1 (dev.fd F.STAGE_MET_CFG_BAD_LIMIT)) ∧
    (let s := withFds dev [(F.STAGE_MET_CFG_BAD_LIMIT, 1)]
     s.up ∧ s.metOn 0 = true ∧ s.stage.gridAt ≤ 0 ∧ (s.chan 0).calActive = false ∧ s.anyRunning = false ∧ s.metGood 0 (metWord false) = false ∧
      (s.chan 0).lost = false ∧ max 1 (s.fd F.STAGE_MET_CFG_BAD_LIMIT) ≤ (s.chan 0).badRun + 1) ∧
    (dev.up ∧ dev.metOn 3 = false) := by decide +kernel

/-- A device whose channel 0 calibrates. -/
def calDev : State := { dev with stage := { StageSt.reset with met := Vector.replicate 4 { MetCh.first with calActive := true } } }

/-- The hypotheses of MetrologySamplesAndPhase are met (PhaseCalibration). -/
theorem test_witness_MetrologySamplesAndPhase_PhaseCalibration :
    (dev.runs ∧ dev.str.safe = false ∧ dev.leads = true ∧ dev.native = true ∧ dev.plan.state.running = false ∧
      (dev.chan dev.metSel).calActive = false ∧ dev.cyc = []) ∧
    (memberDev.runs ∧ memberDev.str.safe = false ∧ memberDev.leads = false) ∧
    (calDev.up ∧ calDev.cyc = [] ∧ (calDev.chan 0).calActive = true ∧ longestRun 0xFFFF calDev = (some (0, 16), calDev) ∧
      longestRun 0 calDev = (none, calDev) ∧ longestRun 0x7FFF calDev = (some (0, 15), calDev)) := by
  decide +kernel

/-- The hypotheses of CompareBeatsAndTemperature are met (PositionCompare). -/
theorem test_witness_CompareBeatsAndTemperature_PositionCompare :
    (let s := { withFds dev [(F.STAGE_CMP_TARGET_LO_TARGET, 1)] with
        stage := { StageSt.reset with met := Vector.replicate 4 { MetCh.first with hasPrev := true } } }
     s.runs ∧ s.str.safe = false ∧ s.cyc = [] ∧ (s.chan (s.fd F.STAGE_CMP_CFG_CH)).hasPrev = true ∧
      0 < (sext 40 (s.pair F.STAGE_CMP_TARGET_LO_TARGET F.STAGE_CMP_TARGET_HI_TARGET) - (s.chan (s.fd F.STAGE_CMP_CFG_CH)).pos) *
        (if s.fb F.STAGE_CMP_CFG_DIR then -1 else 1)) ∧
    (dev.runs ∧ dev.str.safe = false ∧ dev.cyc = [] ∧ (dev.chan (dev.fd F.STAGE_CMP_CFG_CH)).hasPrev = false) := by decide +kernel

/-- The hypotheses of StageMotion are met. -/
theorem test_witness_StageMotion :
    (dev.up ∧ dev.runs ∧ dev.str.safe = false ∧ dev.motionOn = true ∧ dev.plan.state.running = false ∧ dev.saw .profileTick = false ∧
      (dev.axis 0).goal = none ∧ (dev.axis 1).goal = none) ∧
    (let s := dev.setAxis 0 { dev.axis 0 with goal := some .stop }; s.up ∧ s.motionOn = true ∧ (s.axis 0).goal = some .stop) ∧
    ((inState dev .runIn).runs ∧ (inState dev .runIn).motionOn = true ∧ (inState dev .runIn).plan.state.running = true) := by decide +kernel

/-- A lead that exposes, its beat 0 issued at 0, at 1 ms of the stage time base. -/
def exposing : State :=
  { inState leadDev .exposing with
    now := 1000000000, regs := (withFds leadDev [(F.PLAN_STRIPE_LINES_LINES, 16384), (F.STAGE_TEMP_STATUS_LEVEL, 2)]).regs
    stage := { StageSt.reset with beats := [(0, 0)], nextBeat := 1 } }

/-- The hypotheses of CompareBeatsAndTemperature are met (BeatAndTemperatureTimers). -/
theorem test_witness_CompareBeatsAndTemperature_BeatAndTemperatureTimers :
    (exposing.up ∧ exposing.motionOn = true ∧ exposing.plan.state = .exposing ∧ exposing.stage.nextBeat < exposing.passBeats ∧
      0 + exposing.stallT ≤ exposing.stageT) ∧
    (exposing.fd F.STAGE_TEMP_STATUS_LEVEL = 2 ∧ exposing.projection = some 255 ∧ (exposing.fd F.STAGE_TEMP_CFG_HARD_MARGIN : Rat) ≤ 255) ∧
    (let s := withFds exposing [(F.STAGE_TEMP_STATUS_HEADROOM, 3), (F.STAGE_TEMP_CFG_HARD_MARGIN, 4)]
     s.up ∧ s.projection = some 3 ∧ (3 : Rat) < (s.fd F.STAGE_TEMP_CFG_HARD_MARGIN : Rat)) ∧
    (let s := { (withFds (inState leadDev .runOut) [(F.PLAN_STRIPE_CFG_PASSES_M1, 1), (F.STAGE_TEMP_CFG_HOLD_MS, 1)]) with
        now := 1000000000, stage := { StageSt.reset with holdFrom := some 0 } }
     s.up ∧ s.motionOn = true ∧ s.plan.state = .runOut ∧ s.plan.pass + 1 < s.passes ∧ s.stage.holdFrom = some 0 ∧
      (0 : Int) + (10000000 * s.fd F.STAGE_TEMP_CFG_HOLD_MS : Nat) ≤ s.stageT) ∧
    (let s := { edgeDev with clock := edgeDev.clock.opened }
     s.up ∧ s.native = true ∧ s.leads = true ∧ s.fb F.STAGE_BEAT_CFG_SRC = true ∧ s.stage.extLast = none ∧ s.clock.edges.isOpen = true ∧
      s.clock.edges.event ≠ none ∧ s.plan.state = .exposing) ∧
    (let s := { edgeDev with stage := { StageSt.reset with extLast := some 0 } }
     s.up ∧ s.fb F.STAGE_BEAT_CFG_SRC = true ∧ s.stage.extLast = some 0 ∧ s.stageT + 20 ≤ 0 + 50) := by decide +kernel

/-- The hypotheses of TrackingTablesAndBlocks are met (TrackingTables). -/
theorem test_witness_TrackingTablesAndBlocks_TrackingTables :
    (dev.runs ∧ dev.str.safe = false ∧ dev.trackOn = true ∧ dev.track.swapPending = false ∧ dev.plan.state.active = false) ∧
    (let s := (inState dev .exposing).setFd F.TRACK_ULIM_ULIM (2 ^ 31 - 1) 2 |>.setFd F.TRACK_ULIM_ULIM (2 ^ 31 - 1) 3
     s.runs ∧ s.trackOn = true ∧ s.track.swapPending = false ∧ s.plan.state.running = true ∧ s.ulimOk (1 - s.track.bank) = true) ∧
    (let s := { dev with track := { TrackSt.reset with swapPending := true } }; s.runs ∧ s.trackOn = true ∧ s.track.swapPending = true) := by
  decide +kernel

/-- The hypotheses of TrackingTablesAndBlocks are met (RecentreBlock). -/
theorem test_witness_TrackingTablesAndBlocks_RecentreBlock :
    (let s := { inState dev .exposing with stage := { StageSt.reset with beats := [(5, 0)] }, track := { TrackSt.reset with recentre := [⟨5, 1⟩] } }
     s.up ∧ s.trackOn = true ∧ s.plan.state.running = true ∧ s.track.recentre = [⟨5, 1⟩] ∧
      s.stage.beats.find? (fun b : Nat × Int => b.1 == 5) = some (5, 0) ∧ (0 : Int) - (10 * s.fd F.TRACK_RECENTRE_ADV_NS : Nat) ≤ s.stageT) ∧
    (dev.up ∧ dev.trackOn = true ∧ dev.track.recentre = []) := by decide +kernel

/-- A device whose pipeline has all 16 lanes, in a TX and RX state, none of them silent for long. -/
def laneDev (tx : TxState) (rx : RxState) : State :=
  { dev with
    str := { dev.str with pipes := [⟨15, 15, 0xFFFF, 0⟩] }
    caril := { CarilSt.reset with lanes := Vector.replicate 18 { Lane.asleep with tx := tx, rx := rx, echoOk := true } } }

/-- Its stripe in EXPOSING with one issued beat whose START has come. -/
def pealDev : State :=
  { inState (laneDev .data .data) .exposing with now := 10 ^ 9, stage := { StageSt.reset with issued := [⟨0, 0, 4000, false⟩] } }

/-- A lead whose stripe has shifted by one beam, with poison in the first seam row that its neighbour sent. -/
def poisonDev : State :=
  let s := withFds leadDev [(F.PLAN_STRIPE_CFG_SOURCE, 1), (F.PLAN_STRIPE_LINES_LINES, 16384), (F.PLAN_SEAM_CFG_COLS, 8)]
  { s with
    now := 10 ^ 9, plan := { PlanSt.reset with state := .exposing, h := 1 }, store := { StoreSt.reset with delivered := 1 }
    caril := (laneDev .data .data).caril, stage := pealDev.stage, dramMark := [(4, 3)] }

/-- The hypotheses of PealsAndKeepAlives are met (BeatPeals). -/
theorem test_witness_PealsAndKeepAlives_BeatPeals :
    (pealDev.up ∧ pealDev.native = true ∧ (pealDev.stage.issued.find? (fun x => !x.peals)).isSome ∧ pealDev.plan.state = .exposing ∧
      pealDev.startAt ⟨0, 0, 4000, false⟩ ≤ pealDev.stageT ∧ pealDev.shiftRefused 0 = false ∧ pealDev.generatorOn = false ∧
      pealDev.codesHeld 0 = true ∧ pealDev.seamCodesBad 0 (pealDev.xi 0 + pealDev.hAt 0) = (false, false)) ∧
    ((pealDev.setFd F.PLAN_STRIPE_LINES_LINES 16384).codesHeld 0 = false ∧ (pealDev.setFd F.PLAN_STRIPE_LINES_LINES 16384).generatorOn = false) ∧
    (poisonDev.generatorOn = false ∧ poisonDev.codesHeld 0 = true ∧
      poisonDev.seamCodesBad 0 (poisonDev.xi 0 + poisonDev.hAt 0) = (false, true)) ∧
    ({ pealDev with caril := { pealDev.caril with latch := true } } : State).generatorOn = true := by decide +kernel

/-- The hypotheses of PealsAndKeepAlives are met (KeepAlives). -/
theorem test_witness_PealsAndKeepAlives_KeepAlives :
    (let s := laneDev .data .data
     s.up ∧ s.native = true ∧ (s.lane 15).tx = .data ∧ s.laneInUse 15 = true ∧ s.generatorOn = false ∧ (s.lane 15).wire = none ∧ s.stage.issued = [] ∧
      s.keepAliveDue 15 = true) ∧
    (dev.up ∧ (dev.lane 0).tx ≠ .data) := by decide +kernel

/-- The hypotheses of DampSources are met. -/
theorem test_witness_DampSources :
    ((inState dev .runIn).native = true ∧ (inState dev .runIn).plan.state = .runIn) ∧
    (let s := laneDev .data .data
     s.native = true ∧ s.plan.state = .idle ∧ s.str.role ≠ .lead ∧ (s.lane 17).tx = .data ∧ s.caril.dampN = false ∧ s.caril.latch = false) ∧
    ({ dev with caril := { CarilSt.reset with dampN := true } } : State).caril.dampN = true ∧
    (dev.runs ∧ dev.localPersists = false ∧ dev.saw .localSource = false) ∧
    ({ dev with fault := { FaultSt.reset with tripped := true } } : State).localPersists = true := by decide +kernel

/-- A complete echo frame of TYPE t for lane 0 with bytes 5 and 7, its CRC32 correct. -/
def echoBytes (t b5 b7 : Nat) : List Byte :=
  let b := leBytes 1 t ++ List.replicate 4 0 ++ leBytes 1 b5 ++ [0] ++ leBytes 1 b7 ++ List.replicate 52 0
  b ++ leBytes 4 (crc crcC32 (leBytes 4 0 ++ b))

/-- Lanes in TRAINING with a training history. -/
def trainDev (t : TrainSt) : State :=
  { laneDev .training .acquire with
    now := 10 ^ 13, caril := { CarilSt.reset with lanes := Vector.replicate 18 { Lane.asleep with tx := .training, rx := .acquire, train := t } } }

/-- A running electrical scan. -/
def lanScan : ScanSt := { gateScan with kind := .electrical }

/-- The hypotheses of EchoFrames are met. -/
theorem test_witness_EchoFrames :
    (let s := laneDev .data .acquire; let l := echoBytes 1 0 0
     s.up ∧ s.native = true ∧ (s.lane 0).rx = .acquire ∧ echoGood 0 l = true ∧ byteAt l 0 = 1 ∧
      max (min 3 (byteAt l 6)) (s.tempLevelOf 0 (sext 16 (leAt l 4 2)) (s.lane 0).tempLevel) = (s.lane 0).level ∧ (s.lane 0).statusAt = 0) ∧
    (let s := { laneDev .data .data with plan := { PlanSt.reset with scan := some lanScan } }; let l := echoBytes 2 0 1
     s.up ∧ (s.lane 0).rx = .data ∧ echoGood 0 l = true ∧ byteAt l 0 = 2 ∧ s.plan.scan = some lanScan ∧ lanScan.kind = .electrical ∧
      byteAt l 7 = 1 ∧ bit lanScan.lanesDone 0 = 0) ∧
    (let s := { trainDev TrainSt.fresh with now := 0 }; let l := echoBytes 3 4 0
     s.up ∧ s.native = true ∧ (s.lane 0).rx = .acquire ∧ echoGood 0 l = true ∧ byteAt l 0 = 3 ∧ (s.lane 0).tx = .training ∧
      s.trainOver 0 = false ∧ (s.lane 0).train.pendingHold = false ∧ byteAt l 4 % 64 = 0 ∧ byteAt l 5 = 4) ∧
    (true && echoGood 17 []) = false ∧
    (let s := (laneDev .data .data).setLane 0 { (laneDev .data .data).lane 0 with echoOn := true }
     let t := { s with now := 10 ^ 9 }; let u := inState t .exposing
     t.up ∧ t.native = true ∧ (t.lane 0).echoOn = true ∧ (t.lane 0).rx ≠ .sleep ∧ (t.lane 0).echoDead = false ∧ t.laneInUse 0 = true ∧
      (t.lane 0).echoFrom + 1000000 * clampN 25 80 (t.fd F.LANE_TIMEOUT_ECHO_US 0) < t.now ∧ t.plan.state.running = false ∧
      u.up ∧ u.laneInUse 0 = true ∧ u.plan.state = .exposing) := by decide +kernel

/-- The hypotheses of LaneTrainingAndSleep are met (LaneTraining). -/
theorem test_witness_LaneTrainingAndSleep_LaneTraining :
    (let s := trainDev TrainSt.fresh; s.up ∧ (s.lane 17).tx = .training ∧ (s.lane 17).train.doneFrames = 0 ∧ (s.lane 17).train.rxAdapted = false ∧
      (s.lane 17).train.enteredAt + 1000000000 * clampN 10 1000 (s.fd F.LANE_TIMEOUT_TRAIN_MS 17) ≤ s.now) ∧
    (let s := trainDev { TrainSt.fresh with doneFrames := 15, rxAdapted := true }
     s.up ∧ (s.lane 0).tx = .training ∧ (s.lane 0).rx = .acquire ∧ (s.lane 0).train.doneFrames = 15 ∧ (s.lane 0).train.rxAdapted = true ∧
      s.generatorOn = false ∧ s.plan.state.running = false) ∧
    (let s := laneDev .data .data
     s.runs ∧ s.str.safe = false ∧ s.native = true ∧ s.plan.state.active = false ∧ s.laneInUse s.laneSel = true) ∧
    ((inState dev .runOut).runs ∧ (inState dev .runOut).plan.state.active = true) := by decide +kernel

/-- The hypotheses of LaneTrainingAndSleep are met (LaneSleepAndEye). -/
theorem test_witness_LaneTrainingAndSleep_LaneSleepAndEye :
    (let s := laneDev .sleep .sleep
     s.runs ∧ s.str.safe = false ∧ s.native = true ∧ s.laneBusy s.laneSel = false ∧ s.laneInUse s.laneSel = true ∧
      (s.lane s.laneSel).tx = .sleep ∧ (s.lane s.laneSel).rx = .sleep ∧ s.plan.state.active = false ∧ s.laneSel < 16) ∧
    (let s := inState (laneDev .data .data) .armed; s.runs ∧ s.str.safe = false ∧ s.native = true ∧ s.laneBusy s.laneSel = true) ∧
    (let s := { laneDev .waking .acquire with now := 2000000 }
     s.up ∧ (s.lane 0).tx = .waking ∧ (s.lane 0).txWakeAt + 2000000 ≤ s.now ∧ s.generatorOn = false ∧ s.plan.state.running = false ∧ (s.lane 0).rx = .acquire ∧ (s.lane 0).tx ≠ .training) ∧
    (let s := { dev with caril := { CarilSt.reset with lanes := Vector.replicate 18 { Lane.asleep with eyeSweep := true } } }
     s.up ∧ (s.lane 17).eyeSweep = true ∧ longestRun (0xFFFF <<< 24) s = (some (24, 16), s) ∧ longestRun 0x7FFF s = (some (0, 15), s) ∧
      (((24 + (16 - 1) / 2 : Nat) : Int) - 32 - (s.lane 17).eyeActive).natAbs ≤ 16) ∧
    ((laneDev .data .data).up ∧ ((laneDev .data .data).lane 17).rx = .data ∧ ((laneDev .data .lost).lane 17).rx = .lost) := by decide +kernel

/-- A scan that runs, in slot 255; an electrical scan whose lanes have all reported. -/
def elecScan : ScanSt := { gateScan with kind := .electrical, slot := 255, lanesDone := 0xFFFF }
/-- A solo device whose metrology port 3 measures the detector gate. -/
def gateDev : State :=
  (withFds dev [(F.PLAN_SCAN_REF_REF, 1000)]) |> fun s => { s with str := { s.str with met := List.replicate 4 ⟨true, 1, 800, 0, 5000⟩ } }

/-- The hypotheses of BeamScans are met. -/
theorem test_witness_BeamScans :
    (dev.runs ∧ dev.cmdSeen.scanOk .electrical = true ∧ (dev.slot (dev.fd F.PLAN_SCAN_SLOT_SLOT)).st = .free) ∧
    (gateDev.runs ∧ gateDev.cmdSeen.scanOk .gate = true ∧ (gateDev.slot (gateDev.fd F.PLAN_SCAN_SLOT_SLOT)).st = .free) ∧
    ((inState dev .armed).runs ∧ (inState dev .armed).cmdSeen.scanOk .electrical = false) ∧
    (let s := gateDev.setSlot 0 { Slot.fresh with st := .busy }
     s.runs ∧ s.cmdSeen.scanOk .gate = true ∧ (s.slot (s.fd F.PLAN_SCAN_SLOT_SLOT)).st ≠ .free) ∧
    (let s := { dev with plan := { PlanSt.reset with scan := some elecScan } }
     s.runs ∧ s.up ∧ s.cyc = [] ∧ s.plan.scan = some elecScan ∧ elecScan.slot < 256 ∧ elecScan.kind = .electrical ∧
      elecScan.lanesDone = 0xFFFF ∧ elecScan.fault = 0) ∧
    (let s := withFds dev [(F.PLAN_SCAN_CFG_APPLY, 1)]
     (elecScan.entries.filter (fun e => bit e.2.2.2.1 1 == 1)).length ≤ s.fd F.PLAN_SCAN_LEAK_MAX_CHANGE ∧ s.fb F.PLAN_SCAN_CFG_APPLY = true) ∧
    dev.plan.scan = none ∧ dev.saw .armInScan = false := by decide +kernel

/-- Unit u runs cmd over 16 bytes from address 0 with the preset CRC-32C and EXPECT at the CRC of 16 zero bytes. -/
def checkDev (u cmd : Nat) : State :=
  ((((dev.setFd F.CHECK_SIZE_LO_SIZE 16 u).setFd F.CHECK_CFG_PRESET 1 u).setFd F.CHECK_EXPECT_VALUE (crc crcC32C (List.replicate 16 0)) u).setFd
    F.CHECK_CFG_AUTO_INC 0 u).setRun u (some cmd) |> fun s => { s with hbm := { s.hbm with filling := false } }

/-- The same over 12 bytes whose CRC stands in the four bytes behind them. -/
def stripDev : State :=
  { checkDev 0 3 with dram := dramBytesOf 12 (leBytes 4 (crc crcC32C (List.replicate 12 0))) }

/-- The hypotheses of CheckUnits are met. -/
theorem test_witness_CheckUnits :
    (let s := (checkDev 0 1).setRun 0 none
     s.runs ∧ s.checkSel = 0 ∧ s.checkBusy 0 = false ∧ [1, 4].all (fun k => !(s.checkInvalid 0 k)) = true ∧ s.checkInvalid 0 2 = false ∧
      s.checkInvalid 0 3 = false) ∧
    (let s := checkDev 0 1; s.runs ∧ s.checkBusy s.checkSel = true ∧ s.check.run[s.checkSel]? = some (some 1)) ∧
    (dev.runs ∧ dev.checkBusy dev.checkSel = false ∧ [1, 2, 3, 4].all (fun k => dev.checkInvalid dev.checkSel k) = true) ∧
    (let s := checkDev 9 1
     s.up ∧ s.hbm.filling = false ∧ s.cyc = [] ∧ s.anyPcFailed = false ∧ s.dramMark = [] ∧ s.check.run[9] = some 1 ∧
      s.dramBad (s.checkBase 9) (s.checkSize 9) = false ∧ s.fb F.CHECK_CFG_AUTO_INC 9 = false) ∧
    (let s := { checkDev 0 1 with dramMark := [(0, 3)] }
     s.up ∧ s.hbm.filling = false ∧ s.check.run[0] = some 1 ∧ s.dramBad (s.checkBase 0) (s.checkSize 0) = true) ∧
    (let s := checkDev 0 2
     s.check.run[0] = some 2 ∧ s.dramBad (s.checkBase 0) (s.checkSize 0) = false ∧
      s.libraryProtects (s.checkBase 0 + s.checkSize 0) (s.checkFolded 0).bytes = false ∧
      s.storeProtects (s.checkBase 0 + s.checkSize 0) (s.checkFolded 0).bytes = false) ∧
    (let s := stripDev
     s.check.run[0] = some 3 ∧ s.dramBad (s.checkBase 0) (s.checkSize 0) = false ∧ s.fb F.CHECK_CFG_AUTO_INC 0 = false ∧
      s.dramLe (s.checkBase 0 + (s.checkSize 0 - (s.checkFolded 0).bytes)) (s.checkFolded 0).bytes =
        crc (s.checkFolded 0) (s.dramBytes (s.checkBase 0) (s.checkSize 0 - (s.checkFolded 0).bytes))) ∧
    (let s := checkDev 0 4
     s.check.run[0] = some 4 ∧
      s.fd F.CHECK_EXPECT_VALUE 0 % 2 ^ (s.checkFolded 0).width = crc (s.checkFolded 0) (s.dramBytes (s.checkBase 0) (s.checkSize 0))) ∧
    (let s := (checkDev 8 4).setFd F.CHECK_EXPECT_VALUE 5 8
     s.fd F.CHECK_EXPECT_VALUE 8 % 2 ^ (s.checkFolded 8).width ≠ crc (s.checkFolded 8) (s.dramBytes (s.checkBase 8) (s.checkSize 8))) := by
  decide +kernel

/-- The hypotheses of Snapshots are met. -/
theorem test_witness_Snapshots :
    (let s := withFds dev [(F.SNAP_CFG_SRC_EN, 0x1F)]
     s.runs ∧ s.rimOn 0 = true ∧ s.rimOn 1 = true ∧ s.rimOn 3 = true ∧ s.rimColumn = false ∧ s.snap.capturing = none ∧ s.snap.held = false ∧
      s.glob.aonReset = false ∧ s.wakeOn 4 = false ∧ s.cyc = []) ∧
    (let s := { withFds dev [(F.SNAP_CFG_SRC_EN, 1), (F.SNAP_CFG_OVERWRITE, 0), (F.SNAP_CFG_OUT_EN, 0)] with snap := { SnapSt.reset with held := true } }
     s.runs ∧ s.rimOn 0 = true ∧ s.rimColumn = false ∧ s.snap.held = true ∧ s.fb F.SNAP_CFG_OVERWRITE = false ∧ s.fb F.SNAP_CFG_OUT_EN = false) ∧
    (let s := withFds (sched memberDev .idle ⟨7, 0, 0⟩) [(F.SNAP_CFG_SRC_EN, 8)]
     s.up ∧ s.native = true ∧ (takeScheduled 7 s).isSome ∧ s.rimOn 3 = true ∧ s.snap.capturing = none ∧ s.snap.held = false) ∧
    (let s := withFds leadDev [(F.SNAP_CFG_SRC_EN, 1), (F.SNAP_CFG_COLUMN, 1), (F.SNAP_CFG_OUT_EN, 0)]
     s.runs ∧ s.rimOn 0 = true ∧ s.rimColumn = true ∧ s.fb F.SNAP_CFG_OUT_EN = false) ∧
    (let s := { dev with now := 100000, snap := { SnapSt.reset with outHigh := true, outUntil := 100000 } }
     s.glob.aonReset = false ∧ s.snap.outHigh = true ∧ s.snap.outUntil ≤ s.now) := by decide +kernel

/-- A state whose DRAM answers and no fill runs. -/
def nofill (s : State) : State := { s with hbm := { s.hbm with filling := false, accessible := true } }

/-- A live-source stripe of n lines in a state, with a bound lace scope whose first 64 lines are ready. -/
def bobDev (n : Nat) : State :=
  let s := inState (withFds dev [(F.PLAN_STRIPE_LINES_LINES, n)]) .armed
  { nofill s with
    clock := { s.clock with islands := Vector.replicate 24 ⟨false, false, false, false, 0⟩ }
    lace := { s.lace with scopes := s.lace.scopes.set 0 { LaceScope.closed with bound := true, linesReady := 64 } } }

/-- Unit 0 with a job. -/
def jobDev (s : State) (j : BobJob) : State := s.setUnit 0 { BobUnit.empty with job := j }

/-- The tiles of pipeline 0 changed; live jobs that wait. -/
def tileDev (s : State) (f : TileQueue → TileQueue) : State := s.setTiles 0 (f (s.tiles 0))
def liveWait (s : State) (l : List LiveWait) : State := { s with bob := { s.bob with live := l } }

/-- A TL-40 device with a personality in ARMED with n lines, all ready. -/
def tlBob (n : Nat) : State :=
  let s := bobDev 64
  { s with str := { s.str with mode := 1 }, plan := dev.plan
           tl := s.tl.set 0 { Pers.reset with state := .armed, lines := n, ready := n, doses := List.replicate 16 1 } }

/-- The hypotheses of TilesRunAndDeliver are met: issue. -/
theorem test_witness_TilesRunAndDeliver :
    (let s := bobDev 64
     s.up ∧ s.native = true ∧ s.plan.state.active = true ∧ s.fromStore = false ∧ s.takesJobs 0 = true ∧ (s.unit 0).busy = false ∧
      (s.unit 0).held = none ∧ s.bob.live = [] ∧ s.mayIssue classBob 0 = true ∧ s.pipeOf 0 < 4 ∧ (s.tiles (s.pipeOf 0)).again = [] ∧
      (s.tiles (s.pipeOf 0)).dual = false ∧ s.tileReady (s.pipeOf 0) (s.tiles (s.pipeOf 0)).issued = true) ∧
    (let s := tlBob 32
     s.up ∧ s.native = false ∧ (s.pers (s.pipeOf 0)).state.active = true ∧ s.takesJobs 0 = true ∧ (s.unit 0).busy = false ∧
      (s.unit 0).held = none ∧ s.bob.live = [] ∧ s.mayIssue classBob 0 = true ∧ s.pipeOf 0 < 4 ∧ (s.tiles (s.pipeOf 0)).again = [] ∧
      (s.tiles (s.pipeOf 0)).dual = false ∧ s.tileReady (s.pipeOf 0) (s.tiles (s.pipeOf 0)).issued = true) ∧
    (let s := tileDev (bobDev 64) (fun q => { q with again := [(0, [1])] })
     (s.tiles (s.pipeOf 0)).again = [(0, [1])] ∧ (s.tiles (s.pipeOf 0)).dual = false ∧ s.takesJobs 0 = true ∧ (s.unit 0).busy = false) ∧
    (let s := tileDev (bobDev 64) (fun q => { q with dual := true })
     (s.tiles (s.pipeOf 0)).again = [] ∧ (s.tiles (s.pipeOf 0)).dual = true ∧ (s.unit 0).reserved = false ∧
      s.tileReady (s.pipeOf 0) (s.tiles (s.pipeOf 0)).issued = true) ∧
    (let s := liveWait (bobDev 64) [⟨0, 0, none⟩]
     s.tilesOn (s.pipeOf 0) = true ∧ s.takesJobs 0 = true ∧ (s.unit 0).busy = false ∧ s.bob.live = [⟨0, 0, none⟩] ∧ s.mayLive 0 = true) ∧
    (let s := jobDev (bobDev 64) (.tile 0 0)
     s.up ∧ (s.unit 0).busy = true) := by decide +kernel

/-- Completion and delivery. -/
theorem test_witness_TilesRunAndDeliver_ends :
    (let s := jobDev (bobDev 64) (.tile 0 0)
     s.up ∧ s.native = true ∧ s.hbm.filling = false ∧ s.hbm.accessible = true ∧ s.dramMark = [] ∧ s.anyPcFailed = false ∧
      (s.unit 0).job = .tile 0 0 ∧ (s.tiles (s.pipeOf 0)).dual = false ∧ s.bob.live = [] ∧
      s.useScope = some { LaceScope.closed with bound := true, linesReady := 64 } ∧
      s.jobReads { LaceScope.closed with bound := true, linesReady := 64 } (s.tileFirst 0) (s.tileFirst 0 + 32) (s.tileResult 0 []).2.1.lines = []) ∧
    (let s := jobDev (tlBob 32) (.tile 0 0)
     s.up ∧ s.native = false ∧ s.hbm.filling = false ∧ (s.unit 0).job = .tile 0 0 ∧ (s.tiles (s.pipeOf 0)).dual = false ∧ s.bob.live = []) ∧
    (let s := tileDev (bobDev 64) (fun q => { q with results := [⟨0, 0, []⟩] })
     s.up ∧ s.native = true ∧ s.plan.state.active = true ∧ s.fromStore = false ∧ s.str.pipes.length = 1 ∧ (s.tiles 0).stuck = [] ∧
      (s.tiles 0).results.find? (fun r => r.tile == (s.tiles 0).delivered) = some ⟨0, 0, []⟩) ∧
    (let s := tileDev (tlBob 32) (fun q => { q with results := [⟨0, 0, []⟩] })
     s.up ∧ s.native = false ∧ s.str.pipes.length = 1 ∧ (s.pers 0).state.active = true ∧ s.hbm.filling = false ∧
      (s.tiles 0).results.find? (fun r => r.tile == (s.tiles 0).delivered) = some ⟨0, 0, []⟩) ∧
    ((bobDev 64).tiles 0).results.find? (fun r => r.tile == ((bobDev 64).tiles 0).delivered) = none := by decide +kernel

/-- A tile whose chunk's codeword is poisoned. -/
def chunkAt (seq : Nat) : LaceChunk := { seq := seq, winStart := 0, winBlocks := 2, reachBlocks := 0, length := 8, recs := [], pinned := false, freed := false, at_ := 0 }
def poisonJob : State :=
  let s := jobDev (bobDev 64) (.tile 0 0)
  { s with
    dramMark := [(0, poisonMark)]
    lace := { s.lace with scopes := s.lace.scopes.set 0 { LaceScope.closed with bound := true, linesReady := 64, chunks := [chunkAt 1] } } }

/-- A poisoned read. -/
theorem test_witness_TilesRunAndDeliver_poison :
    (let s := poisonJob
     s.up ∧ s.native = true ∧ s.hbm.filling = false ∧ (s.unit 0).job = .tile 0 0 ∧ s.bob.live = [] ∧
      s.useScope = some { LaceScope.closed with bound := true, linesReady := 64, chunks := [chunkAt 1] } ∧ (s.tileResult 0 []).2.1.lines = [] ∧
      s.readsBad (s.jobReads { LaceScope.closed with bound := true, linesReady := 64, chunks := [chunkAt 1] } (s.tileFirst 0) (s.tileFirst 0 + 32) []) =
        true) := by decide +kernel

/-- The hypotheses of BobbinsFailAndServe are met. -/
theorem test_witness_BobbinsFailAndServe :
    (let s := { jobDev (bobDev 64) (.tile 0 0) with now := 10 ^ 11 }
     s.up ∧ (s.unit 0).job = .tile 0 0 ∧ (s.unit 0).suspended = none ∧ s.bob.live = [] ∧ s.pipeOf 0 < 4 ∧ (s.unit 0).strikes = 0 ∧
      (s.unit 0).startedAt + 1000000 * max 100 (s.fd F.BOB_WATCHDOG_LIMIT_US) < s.now) ∧
    (let s := { jobDev dev (.live 0 0) with now := 10 ^ 11 }
     s.up ∧ s.plan.state.active = false ∧ (s.unit 0).job = .live 0 0 ∧ (s.unit 0).suspended = none ∧ s.bob.live = [] ∧ (s.unit 0).strikes = 0 ∧
      (s.unit 0).startedAt + 1000000 * max 100 (s.fd F.BOB_WATCHDOG_LIMIT_US) < s.now) ∧
    (let s := { jobDev dev (.tile 0 0) with now := 10 }
     s.up ∧ s.now ≤ (s.unit 0).startedAt + 1000000 * max 100 (s.fd F.BOB_WATCHDOG_LIMIT_US)) ∧
    ((dev.setUnit 0 { BobUnit.empty with job := .tile 0 0, strikes := 1 }).unit 0).strikes = 1 ∧
    (dev.up ∧ dev.runs ∧ dev.cyc = [] ∧ (dev.unit 0).job = .idle ∧ dev.allIdle = true) ∧
    ((inState dev .armed).runs ∧ (inState dev .armed).allIdle = false) := by decide +kernel

/-- A live job that can be judged. -/
theorem test_witness_BobbinsFailAndServe_live :
    (let s := jobDev (bobDev 64) (.live 0 0)
     s.up ∧ s.native = true ∧ s.hbm.filling = false ∧ s.hbm.accessible = true ∧ s.dramMark = [] ∧ s.anyPcFailed = false ∧
      (s.unit 0).job = .live 0 0 ∧ (s.unit 0).suspended = none ∧ s.bob.live = [] ∧ s.corrOn = false ∧
      s.useScope = some { LaceScope.closed with bound := true, linesReady := 64 } ∧
      (s.jobShapes { LaceScope.closed with bound := true, linesReady := 64 } 0 32 0 32).lines = [] ∧
      s.jobReads { LaceScope.closed with bound := true, linesReady := 64 } 0 32 [] = [] ∧
      s.slotAddr (s.blockIndex 0 0) + s.slotSize ≤ dramEnd ∧ s.liveAddr s.freeEntry + 2048 ≤ dramEnd ∧ 0 < s.slotSize) := by decide +kernel

/-- Device 0 of two with the fog term on, in ARMED with a stripe of one line; one with a Gaussian term; the other end of the column. -/
def fogDev : State :=
  let s := inState (withFds leadDev [(F.PLAN_STRIPE_LINES_LINES, 1), (F.CORR_CFG_ENABLE, 1), (F.CORR_CFG_FOG_EN, 1)]) .armed
  (s.setFd F.CORR_TERM_GEOM_LEVEL 7 4).setFd F.CORR_TERM_GEOM_RADIUS 1 4
def nearDev : State :=
  inState ((withFds leadDev [(F.PLAN_STRIPE_LINES_LINES, 1), (F.CORR_CFG_ENABLE, 1), (F.CORR_CFG_TERM_EN, 1)]).setFd F.CORR_TERM_GEOM_RADIUS 1 0) .armed
/-- Fog row 0 of device 1 to device 0, with a parameter CRC; the near record of row 0. -/
def fogRec (crcP : Nat) (id : Nat := 0) : List Byte :=
  sealRecord ([2, 7] ++ leBytes 2 (fogDev.nodeOf 1) ++ leBytes 2 fogDev.node ++ leBytes 2 1 ++ leBytes 4 (fogDev.stripeId + id) ++ leBytes 4 0 ++
    leBytes 2 (fogDev.fogSpan 1).1 ++ leBytes 2 (fogDev.fogSpan 1).2 ++ leBytes 4 crcP ++ List.replicate (4 * (fogDev.fogSpan 1).2) 0)
def nearRec : List Byte :=
  sealRecord ([1, 0] ++ leBytes 2 (nearDev.nodeOf 1) ++ leBytes 2 nearDev.node ++ leBytes 2 1 ++ leBytes 4 nearDev.stripeId ++ leBytes 4 0 ++
    leBytes 2 (nearDev.cellCol0 1) ++ leBytes 2 nearDev.cellCols ++ leBytes 4 nearDev.paramCrc ++ List.replicate ((2 * nearDev.cellCols + 3) / 4 * 4) 3)
/-- An edge record of SIDE 0 from device 1 to device 0 for stripe `id`, or a row of it; a device with a seam column. -/
def seamRec (id : Nat) (row : Nat := 0xFFFFFFFF) (e p : Nat := 0) : List Byte :=
  sealRecord ([3, 0] ++ leBytes 2 (leadDev.nodeOf 1) ++ leBytes 2 leadDev.node ++ leBytes 2 1 ++ leBytes 4 id ++ leBytes 4 row ++ leBytes 4 e ++
    leBytes 4 p ++ (if row = 0xFFFFFFFF then [] else List.replicate 64 7))
def seamDev : State := nofill (inState (withFds leadDev [(F.PLAN_SEAM_CFG_COLS, 1), (F.PLAN_SEAM_CFG_T, 1), (F.PLAN_STRIPE_LINES_LINES, 64)]) .armed)
/-- The reply of device 1 to a near record of row 0. -/
def nearReply (c : Byte) : List Byte :=
  sealRecord ([0x81, c] ++ leBytes 2 (leadDev.nodeOf 1) ++ leBytes 2 leadDev.node ++ leBytes 2 8 ++ leBytes 4 0 ++ leBytes 4 0 ++ leBytes 4 0 ++ leBytes 4 0)
def keptOne (s : State) : State := { s with corr := { s.corr with kept := [⟨1, 1, 0, 0, 8, [], 0⟩] }, now := 1000000000000 }

set_option maxRecDepth 10000 in
/-- The hypotheses of EdgingAndSeamRecords are met: bad and mismatching records. -/
theorem test_witness_EdgingAndSeamRecords :
    (leadDev.up ∧ leadDev.native = true ∧ leadDev.devOfNode (leAt ([1] ++ List.replicate 3 0xFF) 2 2) = none) ∧
    (let l := (fogRec 7).take 20; fogDev.devOfNode (leAt l 2 2) = some 1 ∧ l.length < 0x1C) ∧
    (let s := fogDev; let l := fogRec 7
     s.up ∧ s.native = true ∧ byteAt l 0 = 2 ∧ s.devOfNode (leAt l 2 2) = some 1 ∧ recordCrcOk l = true ∧ 0x1C ≤ l.length ∧ leAt l 4 2 = s.node ∧
      s.edgingOk l 1 = true ∧ leAt l 0x14 4 ≠ s.paramCrc) := by decide +kernel

set_option maxRecDepth 10000 in
/-- A fog record with this device's parameters, of the stripe and of another. -/
theorem test_witness_EdgingAndSeamRecords_fog :
    (let s := fogDev; let l := fogRec s.paramCrc
     byteAt l 0 = 2 ∧ s.devOfNode (leAt l 2 2) = some 1 ∧ recordCrcOk l = true ∧ 0x1C ≤ l.length ∧ leAt l 4 2 = s.node ∧
      s.edgingOk l 1 = true ∧ leAt l 0x14 4 = s.paramCrc ∧ s.ourStripe (leAt l 8 4) = true ∧ bit s.corr.lost 1 = 0 ∧
      (1, leAt l 0xC 4) ∉ s.corr.fogHave) ∧
    (let s := fogDev; let l := fogRec s.paramCrc 1
     recordCrcOk l = true ∧ s.edgingOk l 1 = true ∧ leAt l 0x14 4 = s.paramCrc ∧ s.ourStripe (leAt l 8 4) = false) ∧
    bit ({ fogDev with corr := { fogDev.corr with lost := 2 } } : State).corr.lost 1 = 1 := by decide +kernel

set_option maxRecDepth 10000 in
/-- A near record with this device's parameters. -/
theorem test_witness_EdgingAndSeamRecords_near :
    (let s := nearDev; let l := nearRec
     s.up ∧ s.native = true ∧ byteAt l 0 = 1 ∧ s.devOfNode (leAt l 2 2) = some 1 ∧ recordCrcOk l = true ∧ 0x1C ≤ l.length ∧ leAt l 4 2 = s.node ∧
      s.edgingOk l 1 = true ∧ leAt l 0x14 4 = s.paramCrc ∧ s.ourStripe (leAt l 8 4) = true ∧ bit s.corr.lost 1 = 0 ∧
      s.nearHeld 1 (leAt l 0xC 4) = false) := by decide +kernel

set_option maxRecDepth 10000 in
/-- Seam records: of an unknown stripe, an edge record and a row of the stripe. -/
theorem test_witness_EdgingAndSeamRecords_seam :
    (let l := (seamRec 0).take 20; seamDev.devOfNode (leAt l 2 2) = some 1 ∧ l.length < 0x1C) ∧
    (let s := seamDev; let l := seamRec 1
     s.up ∧ s.native = true ∧ s.devOfNode (leAt l 2 2) = some 1 ∧ recordCrcOk l = true ∧ 0x1C ≤ l.length ∧ byteAt l 0 = 3 ∧ leAt l 4 2 = s.node ∧
      s.seamOk l 1 = true ∧ s.ourStripe (leAt l 8 4) = false) ∧
    (let s := seamDev; let l := seamRec 0
     recordCrcOk l = true ∧ s.seamOk l 1 = true ∧ s.ourStripe (leAt l 8 4) = true ∧ leAt l 0xC 4 = 0xFFFFFFFF ∧ s.rowsToCheck = []) ∧
    (let s := seamDev; let l := seamRec 0 0 (s.seamTableCrc 1) s.planCrc
     recordCrcOk l = true ∧ s.seamOk l 1 = true ∧ s.ourStripe (leAt l 8 4) = true ∧ leAt l 0xC 4 ≠ 0xFFFFFFFF ∧ leAt l 0x14 4 = s.planCrc ∧
      leAt l 0x10 4 = s.seamTableCrc (1 - byteAt l 1) ∧ s.seamRowHeld (byteAt l 1) (leAt l 0xC 4) = false ∧ s.store.verified = 0 ∧
      (byteAt l 1, leAt l 0xC 4) ∉ s.plan.seamHave) := by decide +kernel

/-- Replies to a kept record, and its sending again. -/
theorem test_witness_EdgingAndSeamRecords_reply :
    (let s := keptOne leadDev; let l := nearReply 0
     s.up ∧ s.native = true ∧ byteAt l 0 = 0x81 ∧ s.devOfNode (leAt l 2 2) = some 1 ∧ l.length = 28 ∧ recordCrcOk l = true ∧ leAt l 4 2 = s.node ∧
      1 ≠ s.str.devIndex ∧ byteAt l 1 = 0) ∧
    (let s := keptOne leadDev; let l := nearReply 2
     byteAt l 0 = 0x81 ∧ s.devOfNode (leAt l 2 2) = some 1 ∧ recordCrcOk l = true ∧ byteAt l 1 = 2 ∧ s.corr.kept = [⟨1, 1, 0, 0, 8, [], 0⟩] ∧
      1 + 0x80 = byteAt l 0 ∧ 0 = leAt l 8 4 ∧ 0 = leAt l 0xC 4 ∧ 8 = leAt l 6 2 ∧ 0 ≤ s.now) ∧
    leadDev.corr.kept = [] := by decide +kernel

/-- Correction waits on device 1; a neighbour owes its edge record. -/
theorem test_witness_EdgingAndSeamRecords_waits :
    (let s := { tileDev fogDev (fun q => { q with delivered := 4 }) with now := 1000000000000, corr := { fogDev.corr with waitUntil := [(1, 0)] } }
     s.up ∧ s.native = true ∧ Sparse.find? s.rewait.corr.waitUntil 1 = some 0 ∧ bit s.rewait.corr.waitRaised 1 = 0 ∧ 0 < s.now) ∧
    (let s := { seamDev with
        now := 1000000000000, plan := { seamDev.plan with seamWait := seamDev.plan.seamWait.set 1 (some (0, false)), edgeGot := Vector.replicate 2 false } }
     s.up ∧ s.native = true ∧ s.reseam.plan.seamWait[1] = some (0, false) ∧ 0 < s.now) := by decide +kernel

/-- A row with one block row coded; a running stripe whose rows are verified, at a line. -/
def codedDev (n : Nat) : State :=
  let s := bobDev n
  { s with store := { s.store with coded := 1 } }
def lineDev (n : Nat) : State :=
  let s := inState (withFds dev [(F.PLAN_STRIPE_LINES_LINES, 64)]) .exposing
  { nofill s with store := { s.store with verified := 2, delivered := n, released := 2 } }
/-- The tiles of the first two tile rows of n lines are delivered. -/
def rowDev (n : Nat) : State := let s := bobDev n; tileDev s (fun q => { q with delivered := 2 * s.tileCols })

/-- The hypotheses of RowsAndLines are met: final rows and the read-back. -/
theorem test_witness_RowsAndLines :
    (let s := { rowDev 128 with store := { StoreSt.reset with coded := 2 } }
     s.up ∧ s.native = true ∧ s.plan.state.active = true ∧ s.fromStore = false ∧ s.corr.stopped = false ∧ s.corr.densityMissing = false ∧
      s.hbm.filling = false ∧ s.hbm.accessible = true ∧ s.fullGrant classCorr ∧ s.fmapBase + 64 + 2 * s.fmapCols * s.fmapRows ≤ dramEnd ∧
      s.corr.rowsFinal = 0 ∧ 0 < s.cellRows ∧ s.rowFinal 0 = true ∧ s.rowFinal (0 + 1) = false ∧ s.covLines < min s.lines (32 * s.store.coded + 32)) ∧
    (let s := { rowDev 32 with corr := { CorrSt.reset with rowsFinal := (rowDev 32).cellRows + 1 } }
     s.up ∧ s.native = true ∧ s.plan.state.active = true ∧ s.fromStore = false ∧ s.corr.stopped = false ∧ s.corr.densityMissing = false ∧
      s.hbm.filling = false ∧ s.fullGrant classCorr ∧ s.fullGrant classStore ∧ s.corr.rowsFinal = s.cellRows + 1 ∧ 0 + 1 = s.blockRows ∧
      s.lines ≤ s.covLines ∧ s.factorsBad 0 = false) ∧
    ({ dev with corr := { dev.corr with stopped := true } } : State).corr.stopped = true ∧
    (let s := codedDev 64
     s.up ∧ s.native = true ∧ s.plan.state.active = true ∧ s.fromStore = false ∧ s.hbm.filling = false ∧ s.mayIssue classStore verifierUnit = true ∧
      s.store.verified < s.store.coded ∧ s.store.lostRow = none) ∧
    dev.store.coded ≤ dev.store.verified := by decide +kernel

/-- Lines: in the middle and at the start of a block row, before one whose live block is late, and ahead of the beat. -/
theorem test_witness_RowsAndLines_lines :
    (let s := lineDev 1
     s.up ∧ s.native = true ∧ s.hbm.filling = false ∧ s.plan.state.running = true ∧ s.store.delivered < s.lines ∧
      s.store.delivered < s.plan.beat + 96 ∧ s.store.delivered / 32 < s.store.verified ∧ s.store.failed = false ∧ s.store.delivered % 32 ≠ 0 ∧
      (s.store.delivered + 1) % 32 ≠ 0 ∧ s.store.delivered + 1 ≠ s.lines ∧ s.blockRows ≤ s.store.released ∧ s.store.feasDampAt = none) ∧
    (lineDev 32).store.delivered % 32 = 0 ∧
    (let s := { lineDev 31 with store := { (lineDev 31).store with live := [((lineDev 31).blockCols, ⟨0, 0, 0, 0, 0, 0⟩)] } }
     s.plan.state.running = true ∧ s.store.delivered < s.plan.beat + 96 ∧ s.store.delivered / 32 < s.store.verified ∧ s.store.failed = false ∧
      (s.store.delivered + 1) % 32 = 0 ∧ s.store.delivered + 1 < s.lines ∧ s.blockRows ≤ s.store.released ∧
      ((s.liveOf ((s.store.delivered + 1) / 32)).any (fun i => !(s.inLiveBuffer i))) = true) ∧
    (let s := lineDev 96; s.up ∧ s.plan.state.running = true ∧ s.plan.beat + 96 ≤ s.store.delivered) := by decide +kernel

/-- The device with lace scope 0 as given. -/
def scopeDev (sc : LaceScope) : State := { nofill dev with lace := { dev.lace with scopes := dev.lace.scopes.set 0 sc } }
/-- An open scope of stream 0 with a buffer of 16 MiB. -/
def openScope : LaceScope := { LaceScope.closed with isOpen := true, bufSizeMb := 16 }

/-- The hypotheses of LaceScopesOpenAndClose are met, for a scope of a ring and one of a UDP flow. -/
theorem test_witness_LaceScopesOpenAndClose :
    (let s := withFds dev [(F.LACE_BUF_SIZE_SIZE_MB, 16), (F.LACE_SOURCE_DMA, 1)]
     s.runs ∧ s.cyc = [] ∧ s.native = true ∧ 0 = s.scopeSel ∧ (s.scope 0).isOpen = false ∧ 16 ≤ s.fd F.LACE_BUF_SIZE_SIZE_MB 0 ∧ s.fd F.LACE_BUF_SIZE_SIZE_MB 0 ≤ 8192 ∧
      (s.fd F.LACE_BUF_BASE_BASE_MB 0 + s.fd F.LACE_BUF_SIZE_SIZE_MB 0) * 2 ^ 20 ≤ s.partSize ∧ s.fb F.LACE_SOURCE_DMA 0 = true ∧
      (s.setFd F.LACE_SOURCE_DMA 0).fb F.LACE_SOURCE_DMA 0 = false) ∧
    (let s := withFds dev [(F.LACE_BUF_SIZE_SIZE_MB, 15)]; s.runs ∧ 0 = s.scopeSel ∧ s.fd F.LACE_BUF_SIZE_SIZE_MB 0 < 16) ∧
    (let s := scopeDev openScope; s.runs ∧ 0 = s.scopeSel ∧ (s.scope 0).bound = false) ∧
    (let s := inState (scopeDev { openScope with bound := true }) .armed
     s.runs ∧ (s.scope s.scopeSel).bound = true ∧ s.plan.state.active = true) := by decide +kernel

/-- A header chunk for the reset configuration with one class, its CRC at the end. -/
def headerChunk (crcWord : Nat) : List Nat := [1 + 64 * 8, 0, 0, 4 + 64, 2 ^ 59, 6, 8, 2 + 2 ^ 32 * crcWord]
def goodChunk : List Nat := headerChunk (crc crcC32C (chunkCrcBytes dev openScope ((headerChunk 0).take 7)))
/-- Scope 0 has a whole chunk. -/
def wholeDev (l : List Nat) : State := scopeDev { openScope with whole := [(0, l.map (BitVec.ofNat 64))] }

/-- The hypotheses of ChunksAreAcceptedOrRejected are met. -/
theorem test_witness_ChunksAreAcceptedOrRejected :
    (dev.up ∧ (dev.scope 0).isOpen = false) ∧
    (let s := scopeDev openScope; let w : Stitch := 513#64
     s.up ∧ s.hbm.filling = false ∧ s.hbm.accessible = true ∧ (s.scope 0).isOpen = true ∧ (s.scope 0).dma = false ∧ (s.scope 0).intake = ⟨0, [], 0, 0⟩ ∧
      bits w.toNat 5 0 = 1 ∧ 1 < bits w.toNat 23 6 ∧ 8 * bits w.toNat 23 6 ≤ (s.scope 0).free ∧
      s.partBase + ((s.scope 0).bufBaseMb + (s.scope 0).bufSizeMb) * 2 ^ 20 ≤ dramEnd) ∧
    (let s := scopeDev { openScope with intake := ⟨64, [1, 7], 8, 0⟩ }
     (s.scope 0).isOpen = true ∧ (s.scope 0).intake.discard = 0 ∧ (s.scope 0).intake.stitches ≠ [] ∧
      (s.scope 0).intake.stitches.length + 1 < (s.scope 0).intake.length ∧ (s.scope 0).intake.at_ + 8 * (s.scope 0).intake.length ≤ dramEnd) ∧
    (let s := scopeDev { openScope with intake := ⟨64, [1, 7], 3, 0⟩ }; (s.scope 0).intake.stitches.length + 1 = (s.scope 0).intake.length) ∧
    (let s := scopeDev { openScope with bufSizeMb := 0 }; let w : Stitch := 513#64
     s.up ∧ (s.scope 0).isOpen = true ∧ (s.scope 0).dma = false ∧ (s.scope 0).intake = ⟨0, [], 0, 0⟩ ∧ bits w.toNat 5 0 = 1 ∧
      (s.scope 0).free < 8 * bits w.toNat 23 6) ∧
    0 < ((scopeDev { openScope with intake := ⟨0, [], 0, 5⟩ }).scope 0).intake.discard ∧
    (dev.plan.state.active = false ∧ (dev.scope 0).whole = []) ∧
    (let s := wholeDev (headerChunk 0); let c : List Stitch := (headerChunk 0).map (BitVec.ofNat 64)
     let s1 := laceIntake 0 [] s
     s.up ∧ s.plan.state.active = false ∧ (s1.scope 0).whole = (0, c) :: [] ∧
      judgeChunk (s1.setScope 0 { s1.scope 0 with whole := [] }) 0 (c.map (·.toNat)) = .inl (7, .LAC_CHUNK_CRC)) := by decide +kernel

/-- A good header chunk is accepted: its five records, none of them a failure. -/
theorem test_witness_ChunksAreAcceptedOrRejected_accept :
    (let s := wholeDev goodChunk; let c : List Stitch := goodChunk.map (BitVec.ofNat 64)
     let s1 := laceIntake 0 [] s
     s.up ∧ s.plan.state.active = false ∧ (s1.scope 0).whole = (0, c) :: [] ∧
      judgeChunk (s1.setScope 0 { s1.scope 0 with whole := [] }) 0 (c.map (·.toNat)) =
        .inr [⟨0, 1, 513, [0, 0]⟩, ⟨3, 4, 68, [2 ^ 59]⟩, ⟨5, 6, 6, []⟩, ⟨6, 8, 8, []⟩]) := by decide +kernel

/-- A registration of an empty library in slot 0. -/
def regDev : State := { nofill dev with lace := { dev.lace with reg := some ⟨0, 0, 0, 0⟩ } }

/-- The hypotheses of LibrariesRegister are met, but for the successful end of the next theorem. -/
theorem test_witness_LibrariesRegister :
    (let s := withFds dev [(F.LACE_LIB_SEL_SLOT, 0)]
     s.runs ∧ s.cyc = [] ∧ s.libSel = 0 ∧ s.anyScopeOpen = false ∧ s.lace.reg = none ∧ s.lace.libs[0].valid = false ∧ s.check.run[9]? = some none ∧
      s.fd F.LACE_LIB_BASE_LO_ADDR % 4096 = 0 ∧ s.fd F.LACE_LIB_SIZE_SIZE % 8 = 0) ∧
    (let s := withFds regDev [(F.LACE_LIB_SEL_SLOT, 0)]; s.runs ∧ s.libSel < 15 ∧ s.lace.reg.isSome = true) ∧
    (dev.up ∧ dev.lace.reg = none) ∧
    (regDev.up ∧ regDev.hbm.filling = false ∧ regDev.dramMark = [] ∧ regDev.anyPcFailed = false ∧ regDev.lace.reg = some ⟨0, 0, 0, 0⟩ ∧ judgeLib regDev 0 0 0 0 = .inl (.LAC_LIB_FORMAT, 0xFFFFFFFF)) := by decide +kernel

/-- A library of one motif with one rectangle, at DRAM address 0. -/
def libBytes : List Byte :=
  leBytes 4 0x424C5745 ++ leBytes 2 1 ++ leBytes 2 0 ++ leBytes 8 77 ++ leBytes 4 1 ++ leBytes 4 64 ++ leBytes 4 128 ++ leBytes 4 9 ++
    List.replicate 32 0 ++ leBytes 4 1 ++ leBytes 4 7 ++ List.replicate 56 0 ++
    ([0x20, 0x10, 0, 1 + 2 ^ 32, 0x14, 0, 1 + 2 ^ 32, 0x11, 0x21].map (leBytes 8)).flatten
def libDev : State :=
  { nofill dev with dram := dramBytesOf 0 libBytes, lace := { dev.lace with reg := some ⟨0, 0, 200, 169106541⟩ } }

set_option maxRecDepth 10000 in
/-- The registration of a good library passes. -/
theorem test_witness_LibrariesRegister_pass :
    libDev.up ∧ libDev.dramMark = [] ∧ libDev.anyPcFailed = false ∧ libDev.lace.reg = some ⟨0, 0, 200, 169106541⟩ ∧
      judgeLib libDev 0 0 200 169106541 =
        .inr [⟨0, 0, 0, 1, 1, 1, [⟨4, 0x14, 0x14, [0, 1 + 2 ^ 32]⟩]⟩] ∧
      ({ libDev with dramMark := [(3, 3)] } : State).dramBad 0 200 = true := by decide +kernel

/-- An image of one information section. -/
def infoImage : List Byte :=
  let h := leBytes 4 0x4B505745 ++ leBytes 2 1 ++ leBytes 2 64 ++ leBytes 4 80 ++ leBytes 2 1 ++ leBytes 2 0 ++ leBytes 4 0x6416 ++ leBytes 2 0xA0 ++
    leBytes 2 0 ++ leBytes 8 5 ++ List.replicate 28 0
  let g := leBytes 2 0x4000 ++ [1, 0] ++ leBytes 8 0
  h ++ leBytes 4 (crc crcC32C h) ++ g ++ leBytes 4 (crc crcC32C g)
/-- A fetch with bytes received. -/
def fetchDev (l : List Byte) : State := { dev with prick := { dev.prick with phase := .fetch, staged := l, avail := 80 } }

/-- A section of an image, with its CRC and its padding; an image of nine sections for a native solo device. -/
def secOf (t : Nat) (p : List Byte) : List Byte :=
  let h := leBytes 2 t ++ [1, 0] ++ leBytes 4 p.length ++ leBytes 4 0
  h ++ leBytes 4 (crc crcC32C (h ++ p)) ++ p ++ List.replicate ((16 - p.length % 16) % 16) 0
def imagePlls : List Byte := ([(0, 0, 80, 1), (1, 0, 100, 1), (2, 1, 16, 1), (3, 1, 18, 1), (4, 1, 165, 16), (5, 0, 64, 1)].map
  (fun (e : Nat × Nat × Nat × Nat) => leBytes 1 e.1 ++ leBytes 1 e.2.1 ++ leBytes 2 e.2.2.1 ++ leBytes 2 e.2.2.2 ++ leBytes 2 0)).flatten
def imageIslands : List Byte := ([(255, 1), (0, 2), (0, 2), (1, 2), (1, 2), (1, 2), (1, 2), (0, 2), (0, 2), (0, 2), (0, 2), (2, 2), (3, 4), (3, 4),
  (3, 4), (2, 5), (2, 4), (2, 10), (4, 4), (4, 4), (2, 5), (5, 2), (5, 2), (0, 2)].zipIdx.map
  (fun (e : (Nat × Nat) × Nat) => leBytes 1 e.2 ++ leBytes 1 e.1.1 ++ leBytes 1 e.1.2 ++ leBytes 1 0)).flatten
def imageOps : List Byte := ([(400, 650), (525, 680), (650, 710), (775, 740), (900, 770), (1000, 800), (1125, 850), (1250, 900)].map
  (fun (e : Nat × Nat) => leBytes 2 e.1 ++ leBytes 2 e.2)).flatten
def sectionsOf (part : List Byte) : List Section :=
  [(1, [0, 0, 0, 0]), (2, [0, 0, 1, 0, 0, 0, 0, 0]), (3, [0, 0, 0, 0]), (5, [1, 0, 0, 0, 0xF, 0xFF, 0xFF, 0xFF, 0, 0, 0, 0]), (6, part),
   (7, imagePlls ++ imageIslands), (8, leBytes 2 1350 ++ [0, 0, 1, 1, 2, 0] ++ imageOps),
   (9, leBytes 4 0x16416 ++ leBytes 4 6400 ++ List.replicate 1032 0),
   (13, ((List.range 8).map (fun i => [2, 0, 0, 0, 0, BitVec.ofNat 8 (i + 1), 0, 0])).flatten)]
def partOf : List Byte := [1] ++ List.replicate 7 0 ++ leBytes 8 0 ++ leBytes 8 (48 * 2 ^ 30)
def imageOf (l : List Section) : List Byte :=
  let b := (l.map (fun e => secOf e.1 e.2)).flatten
  let h := leBytes 4 0x4B505745 ++ leBytes 2 1 ++ leBytes 2 64 ++ leBytes 4 (64 + b.length) ++ leBytes 2 l.length ++ leBytes 2 0 ++ leBytes 4 0x6416 ++
    leBytes 2 0xA1 ++ leBytes 2 0 ++ leBytes 8 1 ++ List.replicate 28 0
  h ++ leBytes 4 (crc crcC32C h) ++ b
/-- A complete image at the end of its fetch, of a load or a verify. -/
def ldDev (ld : Bool) : State :=
  let img := imageOf (sectionsOf partOf)
  { nofill dev with prick := { dev.prick with phase := .verify, isLoad := ld, staged := img, avail := img.length } }

/-- The hypotheses of ImagesAreFetchedAndJudged are met; the image's one section is found, and its verdict is a missing one. -/
theorem test_witness_ImagesAreFetchedAndJudged :
    (dev.runs ∧ dev.cyc = [] ∧ dev.cmdSeen.allIdle = true ∧ dev.dma.ops = [] ∧ dev.prick.phase = .none ∧ dev.check.run[8]? = some none) ∧
    ((inState dev .armed).runs ∧ (inState dev .armed).cmdSeen.allIdle = false) ∧
    ((fetchDev []).up ∧ (fetchDev []).prick.phase = .fetch ∧ (fetchDev []).prick.verdict = none) ∧
    (let s := { fetchDev [] with prick := { (fetchDev []).prick with verdict := some (0xFF, .PRK_FETCH) } }
     s.up ∧ s.prick.phase = .fetch ∧ s.prick.verdict = some (0xFF, .PRK_FETCH)) ∧
    (let s := fetchDev infoImage
     s.up ∧ s.prick.phase = .fetch ∧ s.prick.verdict = none ∧
      scanImage s.glob.fuseEpochMin s.prick.avail s.prick.staged = .done [(0x4000, [])] ∧
      verifyFault s s.prick.staged [(0x4000, [])] = some (0, .PRK_SECTION_MISSING)) := by
  decide +kernel

set_option maxRecDepth 20000 in
/-- A whole image passes, its PARTITION changed or not. -/
theorem test_witness_ImagesAreFetchedAndJudged_pass :
    (let s := ldDev true
     s.up ∧ s.prick.phase = .verify ∧ s.prick.verdict = none ∧ s.prick.isLoad = true ∧ (ldDev false).prick.isLoad = false ∧
      scanImage s.glob.fuseEpochMin s.prick.avail s.prick.staged = .done (sectionsOf partOf) ∧
      verifyFault s s.prick.staged (sectionsOf partOf) = none) ∧
    sectionChanged [(6, partOf)] (sectionsOf partOf) 6 = false ∧ sectionChanged [(6, [])] (sectionsOf partOf) 6 = true := by decide +kernel

/-- The device with a flash of 32 MiB that may have a command running; one whose SFDP table lists no 64 KiB erase. -/
def flashDev (r : Option (FlashOp × Nat)) : State := dev.setFlash { dev.glob.flash with sfdp := none, running := r }
def noErase64 : State := withFds (dev.setFlash { dev.glob.flash with sfdp := some ⟨32768, none, none, 2, 0x21, none⟩ }) [(F.GLOBAL_FLASH_CFG_WRITE_EN, 1)]

/-- The hypotheses of FlashCommands are met. -/
theorem test_witness_FlashCommands :
    (let s := withFds (flashDev none) [(F.GLOBAL_FLASH_CFG_WRITE_EN, 1)]
     s.runs ∧ s.glob.flash.running = none ∧ s.fb F.GLOBAL_FLASH_CFG_WRITE_EN = true ∧
      [FlashOp.read, .program, .erase4k, .erase64k].all (fun o => s.glob.flash.addrOk o (s.fd F.GLOBAL_FLASH_ADDR_ADDR)) = true ∧
      s.glob.flash.opcode .erase64k ≠ 0) ∧
    ((flashDev (some (.read, 0))).runs ∧ (flashDev (some (.read, 0))).cyc = [] ∧ (flashDev (some (.read, 0))).glob.flash.running = some (.read, 0)) ∧
    (let s := withFds (flashDev none) [(F.GLOBAL_FLASH_CFG_WRITE_EN, 0)]
     s.runs ∧ s.glob.flash.running = none ∧ s.fb F.GLOBAL_FLASH_CFG_WRITE_EN = false) ∧
    (let s := withFds (flashDev none) [(F.GLOBAL_FLASH_CFG_WRITE_EN, 1), (F.GLOBAL_FLASH_ADDR_ADDR, 0xFFFFFFFF)]
     s.runs ∧ s.fb F.GLOBAL_FLASH_CFG_WRITE_EN = true ∧
      [FlashOp.read, .program, .erase4k, .erase64k].all (fun o => !(s.glob.flash.addrOk o (s.fd F.GLOBAL_FLASH_ADDR_ADDR))) = true) ∧
    (noErase64.runs ∧ noErase64.glob.flash.running = none ∧ noErase64.fb F.GLOBAL_FLASH_CFG_WRITE_EN = true ∧
      noErase64.glob.flash.addrOk .erase64k (noErase64.fd F.GLOBAL_FLASH_ADDR_ADDR) = true ∧ noErase64.glob.flash.opcode .erase64k = 0) ∧
    (flashDev (some (.program, 256))).glob.flash.running = some (.program, 256) ∧
    (flashDev (some (.erase64k, 65536))).glob.flash.running = some (.erase64k, 65536) := by decide +kernel

/-- The hypotheses of BusyLibrariesRefuse are met: a registration runs for slot 14, and slot 14 is VALID. -/
theorem test_witness_BusyLibrariesRefuse :
    (let s := withFds regDev [(F.LACE_LIB_SEL_SLOT, 14)]; s.libSel = 14 ∧ s.runs ∧ s.lace.reg.isSome = true) ∧
    (let s := withFds { dev with lace := { dev.lace with libs := dev.lace.libs.set 14 { LibSlot.empty with valid := true } } } [(F.LACE_LIB_SEL_SLOT, 14)]
     s.libSel = 14 ∧ s.runs ∧ s.lace.libs[14].valid = true) := by decide +kernel

/-- MAC 0 of a device has link. -/
def linkedDev (s : State) : State := { s with net := { s.net with link := 5 } }
/-- A device whose open scope 0 of stream 0 takes UDP flow 0. -/
def flowDev : State := linkedDev (scopeDev openScope)
/-- A transport datagram of a kind to this device with a flow, a stream, a sequence number and a payload. -/
def datagram (s : State) (kind stream seq : Nat) (pay : List Byte) : List Byte :=
  let b := leBytes 1 1 ++ leBytes 1 kind ++ leBytes 2 0 ++ leBytes 2 1 ++ leBytes 2 s.node ++ leBytes 4 stream ++ leBytes 4 seq ++
    leBytes 2 pay.length ++ leBytes 2 0 ++ pay
  b ++ leBytes 4 (crc crcC32C b)
/-- A frame to MAC 0 with a datagram in UDP over IPv4, its UDP checksum 0. -/
def udpFrame (s : State) (p : List Byte) : RxFrame :=
  ⟨0, beBytes 6 (s.macAddr 0) ++ beBytes 6 0 ++ beBytes 2 0x0800 ++ [0x45, 0] ++ beBytes 2 (28 + p.length) ++ [0, 0, 0, 0, 64, 17, 0, 0] ++
    List.replicate 8 0 ++ beBytes 2 0 ++ beBytes 2 (s.fd F.NET_UDP_PORT_PORT) ++ beBytes 2 (8 + p.length) ++ [0, 0] ++ p⟩
/-- A frame of layer-2 PTP, a Sync of version 2. -/
def ptpSync : List Byte := beBytes 6 0x011B19000000 ++ beBytes 6 0 ++ beBytes 2 0x88F7 ++ [0, 2] ++ List.replicate 42 0

/-- The hypotheses of TransportDatagrams are met. -/
theorem test_witness_TransportDatagrams :
    (flowDev.netOpen = true ∧ flowDev.rxFrame 0 [] = .discarded ∧ flowDev.linked 1 = false) ∧
    (let p := datagram flowDev 1 0 0 []; flowDev.rxFrame 0 (udpFrame flowDev p).bytes = .transport p ∧ flowDev.transportBad p = true) ∧
    (let p := datagram flowDev 2 0 0 (List.replicate 16 0)
     flowDev.rxFrame 0 (udpFrame flowDev p).bytes = .transport p ∧ flowDev.transportBad p = false ∧ byteAt p 1 = 2) ∧
    (let s := flowDev; let p := datagram s 1 0 0 (List.replicate 8 0)
     s.netOpen = true ∧ s.rxFrame 0 (udpFrame s p).bytes = .transport p ∧ s.transportBad p = false ∧ byteAt p 1 = 1 ∧ byteAt p 2 = 0 ∧
      s.flowOwner 0 = some (.native 0) ∧ leAt p 8 4 = (s.scope 0).streamId ∧ leAt p 0xC 4 = (s.flow 0).next ∧
      (s.flow 0).received + (payloadStitches p).length ≤ s.flowLimit 0) ∧
    (let s := linkedDev (scopeDev { openScope with bufSizeMb := 0 }); let p := datagram s 1 0 0 (List.replicate 8 0)
     s.flowOwner 0 = some (.native 0) ∧ s.flowLimit 0 < (s.flow 0).received + (payloadStitches p).length) := by decide +kernel

/-- The hypotheses of TransportDatagrams are met for the other sequence numbers, streams and owners, and for EDGE records. -/
theorem test_witness_TransportDatagrams_others :
    ([1, 2 ^ 31 - 1, 2 ^ 31, 2 ^ 32 - 1].all (fun q => let s := flowDev; let p := datagram s 1 0 q (List.replicate 8 0)
     s.rxFrame 0 (udpFrame s p).bytes == .transport p && !(s.transportBad p) &&
      decide ((leAt p 0xC 4 + 2 ^ 32 - (s.flow 0).next) % 2 ^ 32 < 2 ^ 31) == decide (q < 2 ^ 31))) = true ∧
    (let s := flowDev; let p := datagram s 1 9 0 (List.replicate 8 0)
     s.rxFrame 0 (udpFrame s p).bytes = .transport p ∧ s.transportBad p = false ∧ leAt p 8 4 ≠ (s.scope 0).streamId) ∧
    (let s := linkedDev (nofill dev); let p := datagram s 1 0 0 (List.replicate 8 0)
     s.netOpen = true ∧ s.rxFrame 0 (udpFrame s p).bytes = .transport p ∧ s.transportBad p = false ∧ s.flowOwner (byteAt p 2) = none) ∧
    ([0, 1, 3, 0x81].all (fun b => let s := flowDev; let p := datagram s 3 0 0 [BitVec.ofNat 8 b]
     s.rxFrame 0 (udpFrame s p).bytes == .transport p && !(s.transportBad p) && byteAt p 1 == 3 &&
      byteAt (slice p 0x14 (leAt p 0x10 2)) 0 == b)) = true ∧ flowDev.native = true := by decide +kernel

/-- A PTP_RECV of MAC 0 that has started. -/
def recvOp : DmaOp :=
  { ring := 0, count := 0
    head := [0x12] ++ List.replicate 23 0 ++ [64] ++ List.replicate 39 0
    elems := [], brk := none, started := true, chan := 0, off := 0, nDone := 0, mism := 0, firstMism := none, poison := false
    stamp := (0, 0, 0), frame := 0, event := false, slot := none, result := none, completed := false }
/-- The same into DRAM. -/
def recvDram : DmaOp := { recvOp with head := [0x12, 8] ++ List.replicate 22 0 ++ [64] ++ List.replicate 39 0 }
/-- A device with PTP over layer 2 on MAC 0, and operations. -/
def ptpDev (l : List DmaOp) : State :=
  let s := withFds (linkedDev (nofill dev)) [(F.NET_PTP_CFG_L2, 1)]
  { s with dma := { s.dma with ops := l } }

/-- The hypotheses of PortsAndPtpFrames are met. -/
theorem test_witness_PortsAndPtpFrames :
    (let s := { flowDev with now := 1000000000 }
     s.netOpen = true ∧ (s.flowOwner 0).isSome = true ∧ (s.flow 0).ctrlAt + s.ctrlPs ≤ s.now ∧ (s.flowOwner 1).isSome = false) ∧
    (let s := { dev with net := { dev.net with link := 4 } }; s.up ∧ bit s.net.link 2 = 1) ∧
    (let s := dev.setFd F.NET_PORT_CFG_MODE 3; s.up ∧ bit s.net.link 2 = 0 ∧ s.fd F.NET_PORT_CFG_MODE 0 = 3) ∧
    (dev.up ∧ dev.fd F.NET_PORT_CFG_MODE 1 = 0 ∧ dev.netOpen = true) ∧
    (let s := ptpDev []; s.netOpen = true ∧ s.rxFrame 0 ptpSync = .ptp ∧ s.dma.ops = []) ∧
    (let s := ptpDev [recvOp]; s.rxFrame 0 ptpSync = .ptp ∧ recvOp.started = true ∧ recvOp.result = none ∧ opcodeOf recvOp.head = 0x12 ∧
      bits (paramOf recvOp.head) 2 0 = 0 ∧ flagOf recvOp.head 3 = false ∧ lenOf recvOp.head = 64) ∧
    (let s := ptpDev [recvDram]; s.rxFrame 0 ptpSync = .ptp ∧ opcodeOf recvDram.head = 0x12 ∧ flagOf recvDram.head 3 = true ∧
      s.burstFail (recvDram.ring / 8) (dstOf recvDram.head) (min ptpSync.length (lenOf recvDram.head)) true = none ∧
      s.hbm.filling = false ∧ s.hbm.accessible = true ∧ dstOf recvDram.head + lenOf recvDram.head ≤ dramEnd) := by decide +kernel

/-- A device with valid time at 5 s and trigger 0 armed for a target, with an action. -/
def trigDev (armed at_ act : Nat) : State :=
  { withFds dev [(F.TIME_STATUS_VALID, 1), (F.TIME_TRIG_STATUS_ARMED, armed), (F.TIME_TRIG_SEC_LO_SEC, at_), (F.TIME_TRIG_CFG_ACTION, act),
      (F.TIME_PPS_CFG_OUT_EN, 0)] with time := { dev.time with sec := 5 } }

/-- The hypotheses of ClockAndTriggers are met. -/
theorem test_witness_ClockAndTriggers :
    (dev.up ∧ dev.hbm.waiting = [] ∧ dev.openFlows = [] ∧ dev.cad.beamCheck = none ∧
      dev.fb F.TIME_TRIG_STATUS_ARMED 0 = false ∧ dev.timeValid = false ∧ State.reset.glob.ready = false) ∧
    ([0, 3, 4].all (fun a => let s := trigDev 1 5 a
      s.fb F.TIME_TRIG_STATUS_ARMED 0 && s.timeValid && !(later (s.trigN 0) s.timeN) && s.trigAction 0 == a)) = true ∧
    (let s := trigDev 0 6 0
     s.runs ∧ s.timeValid = true ∧ s.fd F.TIME_TRIG_SEL_TRIG = 0 ∧ s.actionAllowed (s.trigAction 0) = true ∧ later (s.trigN 0) s.timeN = true) ∧
    (let s := trigDev 0 4 0; s.runs ∧ later (s.trigN 0) s.timeN = false) := by decide +kernel

/-- The hypotheses of ServoLatchAndPulses are met (ServoSetsTheClock): with zero offset, and with one beyond TIME_STEP_NS. -/
theorem test_witness_ServoLatchAndPulses_ServoSetsTheClock :
    (let s := withFds dev [(F.TIME_STATUS_FIRST, 0)]
     s.runs ∧ s.cyc = [] ∧ s.fb F.TIME_STATUS_FIRST = false ∧ s.servoOffset.natAbs ≤ s.fd F.TIME_STEP_NS_NS * 2 ^ 16 ∧
      (0 : Int) = sext 32 (s.rg .TIME_FI).toNat - rshiftRound (sext 32 (s.fd F.TIME_SERVO_KI_KI) * s.servoOffset) (s.fd F.TIME_SERVO_SHIFT_SI) ∧
      (0 : Int) = 0 - rshiftRound (sext 32 (s.fd F.TIME_SERVO_KP_KP) * s.servoOffset) (s.fd F.TIME_SERVO_SHIFT_SP) ∧
      (∀ k, k < 4 → s.fb F.TIME_TRIG_STATUS_ARMED k = false)) ∧
    (let s := withFds dev [(F.TIME_STATUS_FIRST, 0), (F.TIME_SERVO_OFFSET_HI_OFF, 0x4000)]
     s.runs ∧ s.fb F.TIME_STATUS_FIRST = false ∧ s.fd F.TIME_STEP_NS_NS * 2 ^ 16 < s.servoOffset.natAbs) ∧
    (let s := trigDev 1 9 0
     s.runs ∧ s.fb F.TIME_TRIG_STATUS_ARMED 0 = true ∧ (∀ k, k < 4 → k ≠ 0 → s.fb F.TIME_TRIG_STATUS_ARMED k = false)) := by decide +kernel

/-- The hypotheses of ServoLatchAndPulses are met (LatchAndPulses). -/
theorem test_witness_ServoLatchAndPulses_LatchAndPulses :
    (let s := { withFds dev [(F.TIME_STATUS_VALID, 1), (F.TIME_PPS_CFG_OUT_EN, 1), (F.TIME_PPS_OFFSET_NS, 6)] with
       time := { dev.time with ns := 7, prevNs := 5 } }
     s.runs ∧ s.up ∧ s.fb F.TIME_PPS_CFG_OUT_EN = true ∧ s.timeValid = true ∧ s.fd F.TIME_PPS_OFFSET_NS < 1000000000 ∧ s.time.ns < 1000000000 ∧
      s.time.prevNs < s.fd F.TIME_PPS_OFFSET_NS ∧ s.fd F.TIME_PPS_OFFSET_NS ≤ s.time.ns) ∧
    (dev.up ∧ dev.timeValid = false ∧ dev.wakeOn 3 = false ∧ dev.time.ppsInAt = none) ∧
    (let s := { dev with time := { dev.time with ppsOut := true, ppsFallAt := 7 }, now := 7 }; s.time.ppsOut = true ∧ s.time.ppsFallAt ≤ s.now) ∧
    (let s := { dev with time := { dev.time with ppsOut := true, ppsFallAt := 7 } }; s.now < s.time.ppsFallAt) ∧
    ([5, 1000000].all (fun n => let s := { dev with time := { dev.time with ppsInAt := some 0 }, now := n }
      decide s.up && !s.wakeOn 3 && s.time.ppsInAt == some 0 && decide (s.now < 0 + 1000000) == (n == 5))) = true := by decide +kernel

/-- The device with its fill done and its stacks awake. -/
def memDev : State := { dev with hbm := { dev.hbm with filling := false, selfRefresh := false } }
/-- Source 5 is held until 9,000 ns. -/
def heldDev : State := { memDev with hbm := { memDev.hbm with holds := [⟨5, 9000000, 0⟩] } }

/-- The hypotheses of DramReadsAndWrites are met: a write, one beyond the end, one during a fill, a throttled source; reads of each class. -/
theorem test_witness_DramReadsAndWrites :
    (memDev.up ∧ memDev.throttled 5 = false ∧ memDev.hbm.waiting = [] ∧ memDev.hbm.filling = false ∧ memDev.hbm.accessible = true ∧
      memDev.hbm.inject = none ∧ dev.hbm.filling = true ∧ dev.hbm.accessible = true ∧ heldDev.up ∧ heldDev.throttled 5 = true ∧ heldDev.hbm.filling = false) ∧
    (let s := memDev.setFd F.HBM_RH_CFG_THRESHOLD 9
     s.up ∧ s.throttled 5 = false ∧ s.hbm.hammers = [] ∧ s.hbm.trackers = [] ∧ 1 < s.fd F.HBM_RH_CFG_THRESHOLD) ∧
    (corrSource 5 = false ∧ memDev.pcFailed (memDev.pcOf 32) = false ∧ (0x20#36).toNat < dramEnd ∧ dramEnd ≤ (0xC00000000#36).toNat ∧
      (memDev.fd F.HBM_CE_COUNT_COUNT + 1) % memDev.fd F.HBM_CE_THRESH_COUNT ≠ 0) ∧
    (let s := memDev.setFd F.HBM_CE_COUNT_COUNT 1023; (s.fd F.HBM_CE_COUNT_COUNT + 1) % s.fd F.HBM_CE_THRESH_COUNT = 0) ∧
    (classOf (memDev.syndrome 32 32 0 0) = .clean ∧ classOf (memDev.syndrome 32 32 1 0) = .corrected ∧
      classOf (memDev.syndrome 32 48 0 0) = .addressFault ∧ classOf (memDev.syndrome 32 32 0 3) = .uncorrectable) := by decide +kernel

/-- The hypotheses of RowsRemapAndFill are met (RowsHoldsAndTemperature). -/
theorem test_witness_RowsRemapAndFill_RowsHoldsAndTemperature :
    (memDev.up ∧ memDev.hbm.selfRefresh = false ∧ memDev.hbm.tempSeen = Vector.replicate 2 false ∧ memDev.hbm.hot = Vector.replicate 2 false) ∧
    (let s := { memDev with hbm := { memDev.hbm with selfRefresh := true } }; s.up ∧ s.hbm.selfRefresh = true) ∧
    (let s := { memDev with now := 64000000000 }; s.hbm.windowAt + 1000000000 * max 1 (s.fd F.HBM_RH_CFG_WINDOW_MS) ≤ s.now) ∧
    memDev.now < memDev.hbm.windowAt + 1000000000 * max 1 (memDev.fd F.HBM_RH_CFG_WINDOW_MS) := by decide +kernel

/-- The hypotheses of RowsRemapAndFill are met (RemapAndFill). -/
theorem test_witness_RowsRemapAndFill_RemapAndFill :
    (memDev.runs ∧ memDev.cyc = [] ∧ (∀ k, k < 11 → maskValid k (memDev.hashMask false k) = true) ∧ memDev.allIdle = true ∧ memDev.dma.ops = [] ∧
      memDev.hbm.scrub = none ∧ memDev.hbm.filling = false) ∧
    (let s := memDev.setRg .HBM_HASH_MASK_LO 0 3; s.runs ∧ maskValid 3 (s.hashMask false 3) = false) ∧
    ((inState memDev .armed).runs ∧ (∀ k, k < 11 → maskValid k ((inState memDev .armed).hashMask false k) = true) ∧
      (inState memDev .armed).allIdle = false) ∧
    (dev.glob.ready = true ∧ dev.hbm.filling = true ∧ dev.hbm.held = [] ∧ dev.prick.phase ≠ .apply) := by decide +kernel

/-- A scrub of the first 4,096 bytes into slot 3. -/
def scrubbing : State := { memDev with hbm := { memDev.hbm with scrub := some ⟨0, 4096, 3, false, 0, 0, 0, none, 0, 0⟩ } }
/-- A device whose scrub registers name those bytes and that slot. -/
def scrubDev : State := (memDev.setFd F.HBM_SCRUB_SIZE_LO_SIZE 4096).setFd F.HBM_SCRUB_CFG_SLOT 3

/-- The hypotheses of ScrubsAndInjection are met (Scrubs). -/
theorem test_witness_ScrubsAndInjection_Scrubs :
    (let s := scrubDev
     s.runs ∧ s.cyc = [] ∧ s.pair F.HBM_SCRUB_BASE_LO_ADDR F.HBM_SCRUB_BASE_HI_ADDR = 0 ∧ s.pair F.HBM_SCRUB_SIZE_LO_SIZE F.HBM_SCRUB_SIZE_HI_SIZE = 4096 ∧
      s.fd F.HBM_SCRUB_CFG_SLOT = 3 ∧ s.hbm.scrub = none ∧ s.hbm.filling = false ∧ 0 + 4096 ≤ dramEnd ∧ (s.slot 3).st = .free) ∧
    (let s := slotClaim 3 0 0 scrubDev; s.runs ∧ s.hbm.scrub = none ∧ (s.slot 3).st ≠ .free) ∧
    (memDev.pair F.HBM_SCRUB_SIZE_LO_SIZE F.HBM_SCRUB_SIZE_HI_SIZE = 0 ∧ memDev.up) ∧
    (scrubbing.runs ∧ scrubbing.up ∧ scrubbing.hbm.scrub = some ⟨0, 4096, 3, false, 0, 0, 0, none, 0, 0⟩ ∧ scrubbing.dramMark = [] ∧
      scrubbing.anyPcFailed = false) := by decide +kernel

/-- The hypotheses of ScrubsAndInjection are met (Injection). -/
theorem test_witness_ScrubsAndInjection_Injection :
    (memDev.runs ∧ memDev.allIdle = true ∧ (inState memDev .armed).runs ∧ (inState memDev .armed).allIdle = false) ∧
    (let s := { memDev with hbm := { memDev.hbm with inject := some (1, 32) } }
     s.up ∧ s.throttled 5 = false ∧ s.hbm.waiting = [] ∧ s.hbm.filling = false ∧ s.hbm.accessible = true ∧ s.hbm.inject = some (1, (32#36).toNat) ∧ (32#36).toNat + 16 ≤ dramEnd) := by decide +kernel

/-- Table 12-8: a REMAP in the cycle of a scrub START takes the START back: no scrub runs, its slot is free, the refill runs. -/
theorem test_remap_before_scrub_start :
    (match Machine.exec .scrubStart scrubDev with
     | .next t => (match Machine.exec .remap t with
       | .next u => t.hbm.scrub.isSome && u.hbm.scrub.isNone && (u.slot 3).st == .free && u.hbm.filling
       | _ => false)
     | _ => false) = true := by decide +kernel

/-- A descriptor without chain, slot or tag. -/
def desc (op flags src dst len param : Nat) : List Byte :=
  leBytes 1 op ++ leBytes 1 flags ++ leBytes 2 0 ++ leBytes 4 0 ++ leBytes 8 src ++ leBytes 8 dst ++ leBytes 4 len ++ leBytes 4 0 ++ leBytes 8 0 ++
    leBytes 8 param ++ leBytes 8 0 ++ leBytes 8 0
/-- A waiting operation of ring 0 and count 0, and a device whose ring 0 has it in flight. -/
def opOf (d : List Byte) : DmaOp :=
  { ring := 0, count := 0, head := d, elems := [d], brk := none, started := false, chan := 0, off := 0, nDone := 0, mism := 0, firstMism := none, poison := false,
    stamp := (0, 0, 0), frame := 0, event := false, slot := none, result := none, completed := false }
def opDev (o : DmaOp) : State := { dev with dma := { dev.dma with ops := [o] } }
/-- Ring n as given. -/
def hostRingDev (n : Nat) (r : Ring) : State := { dev with dma := { dev.dma with rings := dev.dma.rings.setIfInBounds n r } }
def ringOf (st : RingState) (tail head done : Nat) : Ring := ⟨st, tail, head, done, false, 0, false⟩

/-- The hypotheses of RingCommands are met, through BAR0 and through a page, and for every clause. -/
theorem test_witness_RingCommands :
    (dev.runs ∧ dev.fd F.RING_SEL_RING = 0 ∧ (dev.ring 0).st = .disabled) ∧
    (let s := withFds dev [(F.RING_GRANT_ENABLE, 1)]; let p := s.setFd F.RING_GRANT_ENABLE 1 1
     p.up ∧ p.groupGranted 1 = true ∧ (p.ring 8).st = .disabled) ∧
    ((hostRingDev 0 (ringOf .stopped 0 0 0)).ring 0).st = .stopped ∧ ((hostRingDev 0 (ringOf .stopping 1 1 0)).ring 0).st = .stopping ∧
    (let s := hostRingDev 0 (ringOf .running 3 3 3); s.runs ∧ s.inFlight 0 = [] ∧ (s.ring 0).st ≠ .disabled ∧ (s.ring 0).done = (s.ring 0).head) ∧
    (let s := hostRingDev 0 (ringOf .running 3 3 2)
     (s.ring 0).done ≠ (s.ring 0).head ∧ (s.ring 0).st = .running ∧ (18 + 65536 - (s.ring 0).done) % 65536 ≤ 2 ^ s.ringLog 0 ∧
      2 ^ s.ringLog 0 < (19 + 65536 - (s.ring 0).done) % 65536) ∧
    (dev.up ∧ dev.groupGranted (63 / 8) = false ∧ dev.groupGranted (8 / 8) = false) := by decide +kernel

/-- The hypotheses of RingOperationsStart are met: a fetch, a fetch of an invalid descriptor, and each operation. -/
theorem test_witness_RingOperationsStart :
    (dev.up ∧ dev.cyc = [] ∧ dev.mayFetch 0 = false) ∧
    (let s := hostRingDev 0 (ringOf .running 1 0 0); let d := desc 2 0 0 64 16 7
     s.up ∧ s.cyc = [] ∧ s.mayFetch 0 = true ∧ s.fb F.RING_CFG_LOC 0 = false ∧ d.length = 64 ∧ flagOf d 1 = false ∧ nextOf d = 0 ∧ s.dma.ops = [] ∧
      s.elemOk 0 (opcodeOf d) true d = true ∧ s.opAllowed 0 (opcodeOf d) = true ∧ s.elemOk 0 2 true (desc 2 0 0 64 15 7) = false) ∧
    ([1, 2, 3, 4, 5, 0x10, 0x11, 0x12].all (fun c => let o := opOf (desc c 0 0 64 64 7); let s := opDev o
     s.waiting 0 == some o && opcodeOf o.head == c && decide ((s.dma.ops.filter (fun o => o.result.isNone)).length ≤ 16) &&
      s.inFlight 0 == [o] && s.waiting 1 == none)) = true ∧
    (let o := opOf (desc 5 0 0 64 0 7); flagOf o.head 3 = false ∧ dstOf o.head ≠ 0) := by decide +kernel

/-- The hypotheses of RingOperationsStart are met for a push into an open scope of a ring and into a closed one, and for a PTP frame that is an
event and one that is none. -/
theorem test_witness_RingOperationsStart_others :
    (let o := opOf (desc 0x10 0 0 0 64 0); let s := { opDev o with lace := { dev.lace with
        scopes := dev.lace.scopes.set 0 { openScope with dma := true } } }
     s.waiting 0 = some o ∧ s.native = true ∧ bits (paramOf o.head) 1 0 = 0 ∧ bit (paramOf o.head) 2 = 0 ∧ (s.scope 0).isOpen = true ∧
      (s.scope 0).dma = true ∧ (s.scope 0).boundRing = none ∧ ((opDev o).scope 0).isOpen = false) ∧
    ([false, true].all (fun ev => let o := opOf (desc 0x11 0 0 0 60 0); let h := ptpSync ++ List.replicate 4 0
     let s := { ptpDev [o] with net := { dev.net with link := 1 } }
     let s := if ev then s else s.setFd F.NET_PTP_CFG_L2 0
     s.waiting 0 == some o && s.dma.ops == [o] && s.cyc == [] && !(flagOf o.head 2) && decide (lenOf o.head ≤ h.length) && s.linked 0 &&
      s.ptpVlan 0 == none && frameType (h.take (lenOf o.head)) == 0x88F7 && s.ptpEvent 0 (h.take (lenOf o.head)) == ev &&
      !(s.fb F.NET_PTP_CFG_ONE_STEP 0))) = true := by decide +kernel

/-- The hypotheses of BurstsCompletionsAndGrants are met. -/
theorem test_witness_BurstsCompletionsAndGrants :
    ([0, 8].all (fun f => let o := { opOf (desc 2 f 0 64 16 7) with started := true }; let s := opDev o
     s.dma.ops == [o] && o.result == none && o.code == 2 && s.elemOk 0 2 (decide (o.nDone = 0)) o.cur && lenOf o.cur != 0 &&
      flagOf o.cur 3 == (f == 8) && o.elems.contains o.cur && s.power.windows == 0 && s.hbm.filling && s.burstFail 0 o.dstAt o.burstLen true == none)) = true ∧
    dev.dma.ops = [] ∧
    (let o := { opOf (desc 2 0 0 64 16 7) with result := some (0, 0) }; let s := { hostRingDev 0 (ringOf .running 1 1 0) with
        dma := { (hostRingDev 0 (ringOf .running 1 1 0)).dma with ops := [o] } }
     s.dma.ops = [o] ∧ o.completed = false ∧ o.slot = none ∧ flagOf o.head 0 = false ∧ (s.ring 0).st = .running ∧ (s.ring 0).disableReq = false ∧
      { o with slot := some 255 }.slot = some 255) ∧
    ((0 + 1) % 65536 ≠ ((hostRingDev 0 (ringOf .running 3 3 0)).ring 0).head) ∧
    (dev.runs ∧ 1 = max 1 (dev.fd F.RING_GRANT_SEL_GROUP) ∧ dev.fb F.RING_GRANT_ENABLE 1 = false) ∧
    (let s := dev.setFd F.RING_GRANT_ENABLE 1 1
     s.runs ∧ 1 = max 1 (s.fd F.RING_GRANT_SEL_GROUP) ∧ s.fb F.RING_GRANT_ENABLE 1 = true ∧ bits 0x101 15 8 ≠ s.fd F.RING_GRANT_OPMASK 1) ∧
    (dev.up ∧ dev.dma.pend[(127 : Fin 128)] = false ∧
      ({ dev with dma := { dev.dma with pend := dev.dma.pend.set 127 true } } : State).dma.pend[(127 : Fin 128)] = true) := by decide +kernel

/-- A device whose slot 0, and slot 63 of a granted group 1, is READY with SEQ 5. -/
def slotDev : State :=
  let s := dev.setFd F.RING_GRANT_ENABLE 1 1
  (s.setSlot 0 ⟨.ready, 5, 0, 0, List.replicate 12 9⟩).setSlot 63 ⟨.ready, 5, 0, 0, List.replicate 12 9⟩

/-- The hypotheses of ReleaseFreesOnlyTheReadySlot are met, through BAR0 and through a page. -/
theorem test_witness_ReleaseFreesOnlyTheReadySlot :
    (slotDev.runs ∧ 0 = slotDev.fd F.RING_SLOT_SEL_SLOT ∧ (slotDev.slot 0).st = .ready ∧ (5#32 : BitVec 32).toNat = (slotDev.slot 0).seq) ∧
    (slotDev.up ∧ slotDev.groupGranted (15 / 8) = true ∧ 63 = 32 * (15 / 8) + 31 ∧ (slotDev.slot 63).st = .ready) ∧
    (dev.slot 255).st ≠ .ready := by decide +kernel

/-- The crossings of register words are open. -/
def opened (s : State) : State := { s with clock := { s.clock with words := Vector.replicate 24 (HeldXing.fresh true) } }
/-- A device whose image locks bits 7 to 0 of NET_MTU. -/
def lockDev : State := { opened dev with str := { dev.str with locks := [(Reg.offset .NET_MTU, 0xFF#32)] } }
/-- The device asleep. -/
def dormDev : State := { dev with power := { dev.power with state := .dormant } }

/-- The hypotheses of RegisterWrites are met, clause by clause. -/
theorem test_witness_RegisterWrites :
    State.reset.glob.ready = false ∧ dev.cyc = [] ∧ lockDev.cyc = [] ∧
    (let d := { dev with str := { dev.str with mode := 4 } }; d.glob.ready = true ∧ d.hasPers 3 = true) ∧
    (dev.up ∧ Reg.at? 0x01FFFFFC = none ∧ msixOffset 0x01FFFFFC = false ∧ Reg.at? 0x01F01000 = none ∧ msixOffset 0x01F01000 = true ∧
      0x01F00000 + 16 * 127 + 8 < 2 ^ 32) ∧
    (Reg.at? (Reg.offset .NET_MTU) = some (.NET_MTU, 0) ∧ Reg.offset .NET_MTU % 4 = 0 ∧ (commandOf .NET_MTU 1500#32).isNone = true ∧
      dev.regAbsent .NET_MTU = false ∧ lockMask dev.str.locks .NET_MTU = 0 ∧ dev.writeFault .NET_MTU = none ∧ dev.writeView .NET_MTU = false ∧
      (effectOf .NET_MTU (dev.inst .NET_MTU 0) 1500#32).isNone = true) ∧
    (let d := { dev with str := { dev.str with safe := true } }; d.up ∧ d.regAbsent .STAGE_VMAX = true ∧ (commandOf .STAGE_VMAX 0).isNone = true ∧
      Reg.at? (Reg.offset .STAGE_VMAX) = some (.STAGE_VMAX, 0)) ∧
    (let d := inState dev .armed; d.up ∧ d.writeFault .PLAN_STRIPE_ID = some .PLN_CONFIG_BUSY ∧ lockMask d.str.locks .PLAN_STRIPE_ID = 0 ∧
      (commandOf .PLAN_STRIPE_ID 1).isNone = true ∧ d.regAbsent .PLAN_STRIPE_ID = false) ∧
    (lockDev.up ∧ (∀ i, i < 24 → islandBlock i = some (Reg.offset .NET_MTU / 0x10000) → (lockDev.wordXing i).isOpen = true) ∧ (opened dev).up ∧
      0xFF#32 = lockMask lockDev.str.locks .NET_MTU ∧ lockDev.regAbsent .NET_MTU = false ∧ lockDev.writeFault .NET_MTU = none ∧
      lockDev.writeView .NET_MTU = false ∧ (1501#32 ^^^ lockDev.readReg .NET_MTU 0) &&& 0xFF#32 ≠ 0 ∧
      (lockDev.readReg .NET_MTU 0 ^^^ lockDev.readReg .NET_MTU 0) &&& 0xFF#32 = 0 ∧
      (effectOf .NET_MTU (lockDev.inst .NET_MTU 0) 0).isNone = true ∧ lockDev.fb F.GLOBAL_ACCESS_LOG_VALID = false) ∧
    (dormDev.glob.ready = true ∧ dormDev.power.state = .dormant ∧ cmdWake .NET_MTU 0 = false) ∧
    (dev.up ∧ dev.groupGranted (8 * 65536 / 65536 / 8) = false) := by decide +kernel

/-- The hypotheses of CommandRegistersAct are met by the device, for every register of the list. -/
theorem test_witness_CommandRegistersAct :
    [Reg.PLAN_STRIPE_CMD, .PLAN_SCAN_CMD, .PRICK_CMD, .HBM_CMD, .HBM_SCRUB_CMD, .HBM_INJECT_CMD, .LACE_CMD, .LACE_LIB_CMD, .LANE_CMD,
      .STAGE_MET_CMD, .STAGE_CMP_CMD, .STAGE_MOVE_CMD, .TRACK_BANK_CMD, .TRACK_REP_CMD, .TIME_CMD, .TIME_SERVO_CMD, .TIME_TRIG_CMD, .CHECK_CMD,
      .POWER_CMD, .SNAP_CMD, .GLOBAL_FLASH_CMD, .CARIL_DAMP_STATUS, .RING_CMD, .GLOBAL_RESET_CMD].all
      (fun r => !dev.regAbsent r && lockMask dev.str.locks r == 0) = true := by decide +kernel

/-- A device that may sleep: DRAM filled, the link up with ASPM, no ring operation. -/
def quietDev : State :=
  { dev with glob := { dev.glob with aspm := true, linkUp := true }, hbm := { dev.hbm with filling := false } }
/-- The device with power state as given. -/
def powDev (f : PowerSt → PowerSt) : State := { quietDev with power := f quietDev.power }

/-- The hypotheses of PowerEntries are met. -/
theorem test_witness_PowerEntries :
    (let s := withFds { quietDev with power := { quietDev.power with hushNs := 1000000000 } } [(F.POWER_CFG_HUSH_EN, 1)]
     s.runs ∧ s.cyc = [] ∧ lowestFail s.hushConds = none ∧ s.hushExpired = true) ∧
    (let s := withFds (inState { quietDev with power := { quietDev.power with hushNs := 1000000000 } } .armed) [(F.POWER_CFG_HUSH_EN, 1)]
     s.runs ∧ lowestFail s.hushConds = some 1 ∧ s.hushExpired = true) ∧
    (let s := withFds (powDev (fun p => { p with state := .hush, dormNs := 1000000000000 })) [(F.POWER_CFG_DORMANT_EN, 1)]
     s.glob.ready = true ∧ s.power.state = .hush ∧ s.power.transit = .none ∧ s.cyc = [] ∧ s.dormantExpired = true ∧
      lowestFail (s.hushConds ++ s.dormantConds true) = none ∧ lowestFail (s.hushConds ++ s.dormantConds false) = none) ∧
    (let s := { powDev (fun p => { p with state := .hush }) with glob := dev.glob }
     lowestFail (s.hushConds ++ s.dormantConds false) = some 10) ∧
    (let s := powDev (fun p => { p with transit := .enterHush }); s.up ∧ s.power.transit ≠ .none ∧ s.hushExpired = false ∧ s.dormantExpired = false ∧
      s.cyc = [] ∧ s.power.railSet = none ∧ s.power.thenDormant = false) ∧
    (let s := powDev (fun p => { p with transit := .enterDormant }); s.cyc = [] ∧ (∀ k, k < 4 → s.fb F.TIME_TRIG_STATUS_ARMED k = false)) ∧
    (let s := { powDev (fun p => { p with transit := .enterHush, thenDormant := true }) with lace := { dev.lace with
        scopes := dev.lace.scopes.set 0 { LaceScope.closed with isOpen := true } } }
     s.cyc = [] ∧ s.power.transit = .enterHush ∧ s.power.railSet = none ∧ s.power.thenDormant = true ∧ lowestFail (s.dormantConds false) = some 9 ∧
      lowestFail (quietDev.dormantConds false) = none) ∧
    dev.power.transit ≠ .enterHush := by decide +kernel

/-- The device in HUSH. -/
def hushDev : State := powDev (fun p => { p with state := .hush })

/-- The hypotheses of WakesAndExits are met, for each source and each state. -/
theorem test_witness_WakesAndExits :
    (quietDev.runs ∧ quietDev.wakeOn 3 = false ∧ quietDev.wakeOn 0 = true ∧ quietDev.wakeOn 2 = true ∧ quietDev.wakeOn 1 = true) ∧
    (let s := quietDev.setRg .POWER_WAKE_EN 0xF8#32; s.wakeOn 7 = true ∧ s.wakeOn 3 = true) ∧
    (Reg.at? (Reg.offset .NET_MTU) = some (.NET_MTU, 0) ∧ Reg.offset .NET_MTU % 4 = 0 ∧ cmdWake .NET_MTU 9 = false ∧
      dev.cmdAbsent .NET_MTU = false) := by decide +kernel

/-- A rail change to 800 mV for no pillow, in its n-th reading. -/
def railDev (n : Nat) : State := powDev (fun p => { p with railSet := some ⟨800, none, n, 0⟩, voutMode := some 0x17 })

/-- The hypotheses of BudgetAndPmbus are met. -/
theorem test_witness_BudgetAndPmbus :
    quietDev.up ∧ quietDev.cyc = [] ∧ quietDev.bob.live = [] ∧ quietDev.power.railSet = none ∧ quietDev.power.voutMode = none ∧ (0x17#8 : BitVec 8).toNat / 32 = 0 ∧
    (let s := railDev 0; s.up ∧ (∀ p, p < 4 → s.pillowServes p = true → s.floorOp p ≤ s.point p) ∧ s.now < 0 + 1000000 * max 1 (s.fd F.POWER_PMBUS_CFG_SETTLE_US)) ∧
    (let s := { railDev 4 with now := 10 ^ 12 }; 0 + 1000000 * max 1 (s.fd F.POWER_PMBUS_CFG_SETTLE_US) ≤ s.now ∧
      rabs (linear16Mv (s.power.voutMode.getD 0) 410 - ((800 : Nat) : Rat)) ≤ 10 ∧
      ¬ rabs (linear16Mv (s.power.voutMode.getD 0) 0 - ((800 : Nat) : Rat)) ≤ 10) := by decide +kernel

/-- A device whose clocks run, as at READY, with island 10 on PLL 0. -/
def clockDev : State :=
  { dev with
    clock := { dev.clock with locked := Vector.replicate 6 true, islands := Vector.replicate 24 ⟨false, false, false, false, 0⟩ }
    str := { dev.str with islands := (List.replicate 24 ⟨5, 2⟩).set 10 ⟨0, 4⟩, plls := List.replicate 6 ⟨0, 80, 1⟩ } }

/-- The hypotheses of ClocksAndIslands are met. -/
theorem test_witness_ClocksAndIslands :
    (clockDev.up ∧ clockDev.plan.state.active = false ∧ clockDev.anyRunning = false ∧ clockDev.pllIslands 0 = [10] ∧ clockDev.pllIslands 1 = []) ∧
    (let s := inState clockDev .exposing; s.up ∧ s.native = true ∧ s.plan.state = .exposing ∧ 10 ∈ s.pllIslands 0) ∧
    (let s := clockDev; s.islandState 0 = 0 ∧ s.islandState 23 = 0 ∧ rabs ((25000 : Rat) - s.plannedKhz 0) * 100 ≤ s.plannedKhz 0 ∧ (s.island 0).freqBad = false ∧
      s.plannedKhz 23 < rabs ((0 : Rat) - s.plannedKhz 23) * 100) ∧
    (let s := clockDev.setIsland 0 ⟨false, true, false, true, 0⟩; (s.island 0).freqBad = true ∧ (s.island 0).inReset = true) ∧
    (let s := clockDev.setIsland 12 ⟨false, true, false, false, 0⟩; (s.island 12).freqReset = true ∧ (s.island 12).freqBad = false ∧
      s.now < (s.island 12).okFrom + 100000000 ∧ (s.island 12).okFrom + 100000000 ≤ ({ s with now := 100000000 } : State).now) ∧
    (∀ i : Fin 24, (clockDev.island i).inReset = false) := by decide +kernel

/-- A device whose clocks run, with one raising on its way. -/
def raisedDev : State := clockDev.raise .HST_ACCESS
/-- The code of that raising, and the device with an action of the code selected. -/
def accessCode : Nat := FaultCode.num .HST_ACCESS
def actionDev (f : RegField) : State := raisedDev.setFd f 1 accessCode
/-- The device with no action of the code selected. -/
def plainDev : State :=
  ((raisedDev.setFd F.FAULT_CODE_ACTION_IRQ 0 accessCode).setFd F.FAULT_CODE_ACTION_DAMP 0 accessCode).setFd F.FAULT_CODE_ACTION_RIMSHOT 0 accessCode
/-- Island 5 has stalled; resets are enabled. -/
def stallDev : State :=
  let s := withFds clockDev [(F.FAULT_STALL_CFG_RESET_EN, 1)]
  { s with fault := { s.fault with stallTimers := [(5, 0)] } }

/-- The hypotheses of FaultHandling are met. -/
theorem test_witness_FaultHandling :
    (clockDev.glob.aonReset = false ∧ clockDev.fault.fifo = []) ∧
    (let s := plainDev; s.fault.fifo = [(accessCode, 1)] ∧ s.fault.waiting = [] ∧ s.cyc = [] ∧ 0 < accessCode ∧ accessCode < 65536 ∧
      accessCode ≠ FaultCode.num .CHK_PRIV_MISMATCH ∧ s.captures 16 = true ∧ (s.logEntry ((s.fault.logNext + 63) % 64)).code ≠ accessCode ∧
      s.fb F.FAULT_CODE_ACTION_IRQ accessCode = false ∧ s.fb F.FAULT_CODE_ACTION_DAMP accessCode = false ∧
      s.fb F.FAULT_CODE_ACTION_RIMSHOT accessCode = false) ∧
    ((actionDev F.FAULT_CODE_ACTION_IRQ).fb F.FAULT_CODE_ACTION_IRQ accessCode = true ∧
      (actionDev F.FAULT_CODE_ACTION_DAMP).fb F.FAULT_CODE_ACTION_DAMP accessCode = true ∧
      (inState (actionDev F.FAULT_CODE_ACTION_DAMP) .exposing).plan.state = .exposing ∧
      (let s := plainDev.setFd F.FAULT_CODE_ACTION_IRQ 1 accessCode
       s.fb F.FAULT_CODE_ACTION_IRQ accessCode = true ∧ s.fb F.FAULT_CODE_ACTION_DAMP accessCode = false ∧
        s.fb F.FAULT_CODE_ACTION_RIMSHOT accessCode = false)) ∧
    (clockDev.up ∧ clockDev.captures 23 = true ∧ dev.captures 23 = false ∧ clockDev.anyRunning = false) ∧
    (stallDev.up ∧ Sparse.find? stallDev.fault.stallTimers 5 = some 0 ∧ Sparse.find? stallDev.fault.stallTimers 4 = none ∧
      stallDev.fb F.FAULT_STALL_CFG_RESET_EN = true ∧ stallDev.captures 5 = true ∧ stallDev.now < 0 + stallDev.stallLimit ∧
      0 + stallDev.stallLimit ≤ ({ stallDev with now := 10 ^ 15 } : State).now) := by decide +kernel

/-- The hypotheses of ThermalProtection are met. -/
theorem test_witness_ThermalProtection :
    (dev.glob.aonReset = false ∧ dev.junction < (919#12 : BitVec 12).toInt ∧ (919#12 : BitVec 12).toInt < 920 ∧
      (0xF00#12 : BitVec 12).toInt < dev.junction ∧ dev.fault.tripped = false ∧ (920#12 : BitVec 12).toInt = 920) ∧
    (let s := withFds dev [(F.FAULT_TEMP_TJ, 920)]; { s.fault with tripped := true }.tripped = true ∧ 920 ≤ s.junction) ∧
    (800 : Int) ≤ (800#12 : BitVec 12).toInt ∧ (799#12 : BitVec 12).toInt < 800 := by decide +kernel

/-- The hypotheses of Sideband are met. -/
theorem test_witness_Sideband :
    (dev.glob.aonReset = false ∧ (0#8 : BitVec 8).toNat ≠ dev.smbPec 0x10 [] ∧ (BitVec.ofNat 8 (dev.smbPec 0x10 [])).toNat = dev.smbPec 0x10 []) ∧
    (withFds dev [(F.SNAP_CFG_SRC_EN, 0)]).rimOn 0 = false ∧ dev.power.state = .run ∧ dev.power.transit = .none ∧
    (let s := withFds dev [(F.SNAP_CFG_SRC_EN, 1)]; s.rimOn 0 = true ∧ s.rimColumn = false ∧ s.snap.capturing = none ∧ s.snap.held = false) ∧
    (hushDev.power.state = .hush ∧ hushDev.power.transit = .none ∧ hushDev.glob.aonReset = false) := by decide +kernel

/-- A device in a cold boot, and in a warm boot, before READY. -/
def bootDev (cold : Bool) : State :=
  { quietDev with glob := { quietDev.glob with ready := false, booting := some cold, phase := 4 } }

/-- A warm boot that has halted, and a device in a phase of a load. -/
def haltedDev : State := { bootDev false with glob := { (bootDev false).glob with halted := true } }
def phaseDev (p : LoadPhase) : State := { quietDev with prick := { quietDev.prick with phase := p } }

/-- The hypotheses of ResetsStart are met. -/
theorem test_witness_ResetsStart :
    (dev.runs ∧ dev.fault.tripped = false ∧ dev.glob.aonReset = false ∧ dev.glob.perstAsserted = false ∧ dev.glob.booting ≠ some true ∧
      dev.glob.halted = false ∧ dev.prick.phase ≠ .apply ∧ dev.glob.brownout = false) ∧
    (phaseDev .apply).runs ∧ (phaseDev .apply).prick.phase = .apply ∧
    (let s := { withFds dev [(F.FAULT_TEMP_TJ, 800)] with fault := { dev.fault with tripped := true } }
     s.glob.aonReset = false ∧ s.fault.tripped = true ∧ 800 ≤ s.junction) ∧
    (let s := { bootDev true with glob := { (bootDev true).glob with perstAsserted := true } }
     s.glob.aonReset = false ∧ s.glob.perstAsserted = true ∧ s.glob.booting = some true) ∧
    ((bootDev true).glob.perstAsserted = false ∧ (haltedDev.glob.perstAsserted = false ∧ haltedDev.glob.booting = some false ∧ haltedDev.glob.halted = true) ∧ dormDev.power.state = .dormant) := by decide +kernel

/-- The hypotheses of BootAndConfiguration are met. -/
theorem test_witness_BootAndConfiguration :
    ((bootDev true).glob.booting = some true ∧ (bootDev false).glob.booting = some false ∧ (bootDev false).glob.halted = false ∧
      (bootDev false).str.safe = false ∧ dev.glob.booting = none ∧ dev.glob.aonReset = false) ∧
    (let s := bootDev false; s.glob.aonReset = false ∧ s.glob.phase ≠ 0 ∧ s.glob.halted = false ∧ s.hbm.filling = false ∧ s.fault.tripped = false ∧
      s.native = true ∧ s.laneInUse 17 = true ∧ s.laneInUse 0 = false) ∧
    (let s := quietDev; s.glob.linkUp = true ∧ s.glob.crs = false ∧ s.power.state ≠ .dormant ∧ s.str.mode < 1 ∧ dev.glob.linkUp = false ∧
      ({ s with glob := { s.glob with crs := true } } : State).glob.crs = true) ∧
    (let s := { quietDev with str := { quietDev.str with mode := 1 } }; s.glob.linkUp = true ∧ 1 ≤ s.str.mode) ∧
    (let s := quietDev; s.up ∧ s.native = true ∧ s.tlQuiet = true ∧ s.plan.state.active = false ∧ s.plan.scan = none ∧ s.hbm.scrub = none ∧
      s.prick.phase = .none) ∧
    ((inState quietDev .armed).up ∧ (inState quietDev .exposing).plan.state.running = true ∧ (inState quietDev .exposing).plan.state ≠ .runOut ∧
      (phaseDev .apply).up ∧ (phaseDev .fetch).prick.phase = .fetch ∧ (phaseDev .verify).up) := by decide +kernel

/-- A device of one TL-40 personality, as given, with its lanes in DATA. -/
def tlDev (p : Pers) : State :=
  { quietDev with
    str := { quietDev.str with mode := 1 }, tl := quietDev.tl.set 0 p, clock := quietDev.clock.opened
    caril := { quietDev.caril with lanes := quietDev.caril.lanes.map (fun l => { l with tx := .data }) } }
/-- A stripe of two lines in a state, and FIFO entries. -/
def tlIn (st : StripeState) (fifo : List Nat := []) : Pers :=
  { Pers.reset with state := st, lines := 2, ring := 2, fifo := fifo, doses := List.replicate 16 1 }
def rectEntry : Nat := 1 + 2 ^ 32 * 8 + 2 ^ 64 * 8 + 2 ^ 80 * 8
def trapEntry : Nat := 2 + 2 ^ 32 * 8 + 2 ^ 64 * 8 + 2 ^ 80 * 8
def arrayEntry : Nat := 3 + 2 ^ 64 * 4096 + 2 ^ 80 * 1
def stripeEntry : Nat := 8 + 2 ^ 32 * 2

/-- The hypotheses of TlEntries are met. -/
theorem test_witness_TlEntries :
    (let s := tlDev { Pers.reset with src := some ⟨0, true, 0, none⟩ }; s.up ∧ s.hasPers 0 = true ∧ (s.pers 0).src.isSome = true) ∧
    (let s := tlDev Pers.reset; s.up ∧ s.hasPers 0 = true ∧ (s.pers 0).src = none ∧ (s.pers 0).part.length < 3 ∧ (s.pers 0).fifo = []) ∧
    (let p := { Pers.reset with part := [1, 2, 3], fifo := List.replicate 1023 9 }; p.part = [1#32, 2#32, 3#32] ∧ p.fifo.length < 1024) ∧
    (let p := { Pers.reset with part := [1, 2, 3], fifo := List.replicate 1024 9 }; p.part.length = 3 ∧ 1024 ≤ p.fifo.length) ∧
    (tlOp rectEntry = 1 ∧ (tlIn .armed).judge rectEntry = none ∧ (tlIn .idle).judge rectEntry = some .TLM_CMD_INVALID ∧
      (tlIn .armed).judge (rectEntry + 2 ^ 8) = some .TLM_RECORD_BAD ∧ (tlIn .idle).halted = false ∧ (tlIn .idle).haltAfter = false) ∧
    (tlOp trapEntry = 2 ∧ (tlIn .armed).judge trapEntry = none ∧ tlOp arrayEntry = 3 ∧ (tlIn .armed).judge arrayEntry = none ∧
      tlOp stripeEntry = 8 ∧ (tlIn .idle).judge stripeEntry = none ∧ (tlIn .aborted).judge stripeEntry = none ∧
      (tlIn .armed).judge 9 = none ∧ rectEntry ≠ 0 ∧ (tlIn .armed).judge 10 = none ∧ tlOp 9 = 9 ∧ tlOp 10 = 10) ∧
    (let s := tlDev (tlIn .armed [rectEntry]); s.up ∧ s.hasPers 0 = true ∧ (s.pers 0).fifo = [rectEntry] ∧ s.cyc = [] ∧
      (tlDev (tlIn .aborted)).localPersists = false) := by decide +kernel

/-- The hypotheses of TlStripes are met. -/
theorem test_witness_TlStripes :
    (let p := { tlIn .armed with startPending := true }; p.committed = true ∧ (tlIn .armed).startPending = false) ∧
    (let s := { tlDev (tlIn .runOut) with now := 2000000 }; (s.pers 0).runOutAt + 2000000 ≤ s.now ∧ (tlDev (tlIn .runOut)).now < (s.pers 0).runOutAt + 2000000) ∧
    (let p := { tlIn .runIn with sent := 1 }; let s := tlDev p; s.up ∧ s.hasPers 0 = true ∧ s.str.mode = 1 ∧ p.beat < p.sent ∧ s.stage.extLast = none ∧
      p.lastEdge = none ∧
      p.beat < p.lines + 1007 ∧ min p.lines (p.beat + 65) ≤ p.ring ∧ s.clock.edges.isOpen = true ∧ s.clock.edges.event ≠ none ∧ s.cyc = [] ∧ p.sent ≠ p.beat) ∧
    (let p := tlIn .exposing; let s := tlDev p; p.sent = p.beat ∧ s.generatorOn = false ∧ p.damping = false ∧ min p.lines (p.beat + 1) ≤ p.ring ∧
      s.tlPoison 0 p.beat = false ∧ s.glob.jtag.drives = false ∧ (∀ n < 4, (s.lane n).tx = .data) ∧ { p with ring := 0 }.ring < min p.lines (p.beat + 1)) ∧
    ((tlIn .runOut).state.running = true ∧ (tlIn .done).state.active = false ∧ (tlDev (tlIn .armed)).up) := by decide +kernel

/-- The hypotheses of TlWindow are met. -/
theorem test_witness_TlWindow :
    (dev.hasPers 0 = false ∧ State.reset.glob.ready = false) ∧
    (let s := tlDev Pers.reset; s.up ∧ s.hasPers 0 = true ∧ (s.pers 0).src = none ∧ (s.pers 0).state.active = false ∧ s.cyc = [] ∧ 2 ^ 26 ≤ (s.pipePart 0).2) ∧
    (wbit 0xC5#32 7 = true ∧ wbit 0xC5#32 6 = true ∧ wbit 0x85#32 6 = false ∧ wbit 0x45#32 7 = false) ∧
    (let p := { tlIn .armed with src := some ⟨0, true, 0, none⟩ }; p.src.isSome = true ∧ p.state.active = true ∧ p.src = some ⟨0, true, 0, none⟩) ∧
    (let s := { tlDev Pers.reset with str := { (tlDev Pers.reset).str with parts := [(0, 2 ^ 25)] } }; (s.pipePart 0).2 < 2 ^ 26) ∧
    (tlIn .exposing).state.running = true := by decide +kernel

/-! ## Ill-formed commands are refused, one for each check -/

theorem test_illformed_verifyReturn : (Instr.verifyReturn [0]).wf = false := by decide
theorem test_illformed_beatFrame : (Instr.beatFrame []).wf = false := by decide
theorem test_illformed_tickFrame : (Instr.tickFrame []).wf = false := by decide
theorem test_illformed_verifyFrame : (Instr.verifyFrame [1, 2]).wf = false := by decide
theorem test_illformed_cadenceFrameReturn : (Instr.cadenceFrameReturn [0]).wf = false := by decide
theorem test_illformed_cadenceCommands :
    [Instr.stripeStart [0], .passStart [0], .done [0], .shift [0], .damp [0], .cadAbort [0], .cadRimshot [0], .beamCheck [0]].all
      (fun c => !c.wf) = true := by decide
theorem test_illformed_tileComplete : (Instr.tileComplete 0 [(0, 2 ^ 36)] false).wf = false := by decide
theorem test_illformed_liveJobComplete : (Instr.liveJobComplete 0 [(0, 2 ^ 36)] false).wf = false := by decide
/-- A frame longer than the largest MTU. -/
def longFrame : List Byte := List.replicate 9217 0
theorem longFrame_length : longFrame.length = 9217 := List.length_replicate
theorem test_illformed_records :
    (Instr.edgingRecord longFrame).wf = false ∧ (Instr.edgingReply longFrame).wf = false ∧ (Instr.seamRecord longFrame).wf = false := by
  simp [Instr.wf, longFrame_length]
theorem test_illformed_datagrams :
    (Instr.dataDatagram ⟨0, longFrame⟩).wf = false ∧ (Instr.edgeDatagram ⟨0, longFrame⟩).wf = false ∧ (Instr.ctrlDatagram ⟨0, longFrame⟩).wf = false ∧
      (Instr.ptpFrameRx 0 longFrame).wf = false ∧ (Instr.ptpSend 0 longFrame .ok).wf = false := by simp [Instr.wf, longFrame_length]
theorem test_illformed_imageSectionArrives : (Instr.imageSectionArrives (List.replicate 16777217 0) .ok).wf = false := by
  simp only [Instr.wf, List.length_replicate]; decide
theorem test_illformed_dramWrite : (Instr.dramWrite 0 0 false []).wf = false := by decide
theorem test_illformed_descFetch : (Instr.descFetch 0 [[1]]).wf = false := by decide
theorem test_illformed_dmaBurst : (Instr.dmaBurst 0 0 (List.replicate 4097 0) [] .ok).wf = false := by
  simp only [Instr.wf, List.length_replicate]; decide
theorem test_illformed_regWrite :
    [Instr.regWrite .bar0 0x2000000 0 true, .regWrite .bar2 0x400000 0 true, .regWrite (.window 0) 0x10000 0 true].all (fun c => !c.wf) = true := by
  decide
theorem test_illformed_clockRecovered : (Instr.clockRecovered true 6).wf = false := by decide
theorem test_wellformed : [Instr.arm, .beatFrame (List.replicate 16 0), .regWrite .bar0 4 0 true, .clockRecovered true 5].all Instr.wf = true := by
  decide

/-! ## The step -/

theorem test_step_runs_front : step { dev with pending := [.rhWindow, .arm] } = exec .rhWindow { dev with pending := [.arm] } := rfl
theorem test_step_idles : step dev = .next dev := rfl
theorem test_no_word_spells_a_command : decodeTableWord 32 0xFFFFFFFF = none := rfl

/-- The invariants hold of the state after reset, and of the device of these tests. -/
theorem test_witness_StepKeepsMemoryCanonical : State.reset.wf = true ∧ dev.wf = true ∧ step dev = .next dev := ⟨by decide +kernel, by decide +kernel, rfl⟩
theorem test_witness_StepKeepsLanesSilentUntilReady : State.reset.resetSilent = true ∧ step State.reset = .next State.reset := ⟨by decide +kernel, rfl⟩
theorem test_witness_OnlyTheseCommandsChange :
    exec .rhWindow dev = .next { dev with hbm := { dev.hbm with trackers := [] } } ∧ Instr.rhWindow.mayChangeDram = false ∧
      Instr.rhWindow.mayMoveStripe = false ∧ Instr.arm.mayChangeStructure = false ∧ Instr.rhWindow ≠ .clockStep := ⟨rfl, rfl, rfl, rfl, by decide⟩
theorem test_witness_StepRunsFrontCommand : ({ dev with pending := [.arm] } : State).pending = .arm :: [] ∧ dev.pending = [] := ⟨rfl, rfl⟩

end Sys2Proof.Tests
end

/-! PROOFS. Register writes (R10 to R12, R455, R456, R556, R603 to R615): what a refusal leaves readable, what a write of a plain
register does through its crossings, and what each kind of host write to a space comes to. -/

namespace Sys2Proof.Machine

variable {s : State}

/-! ## What a note, a fault and a refusal leave readable -/

@[simp] theorem State.rg_mark (s : State) (e : CycleEvent) (q : Reg) (j : Nat) : (s.mark e).rg q j = s.rg q j := rfl

@[simp] theorem State.fd_mark (s : State) (e : CycleEvent) (x : RegField) (j : Nat) : (s.mark e).fd x j = s.fd x j := rfl

theorem State.fb_eq_fd (s : State) (x : RegField) (j : Nat) : s.fb x j = (s.fd x j != 0) := rfl

/-- A fault raised changes the fault logic alone. -/
theorem State.raise_eq (s : State) (c : FaultCode) : s.raise c = { s with fault := (s.raise c).fault } := by
  simp only [State.raise]; split <;> rfl

/-- The entry in the fault logic depends on the fault logic alone. -/
theorem State.raise_fault_congr {t : State} (h : t.fault = s.fault) (c : FaultCode) : (t.raise c).fault = (s.raise c).fault := by
  simp only [State.raise, h]; split <;> rfl

theorem State.raise_mark (s : State) (e : CycleEvent) (c : FaultCode) : (s.mark e).raise c = (s.raise c).mark e := by
  rw [State.raise_eq, State.raise_eq s, State.raise_fault_congr (State.mark_fault s e)]; rfl

/-- A refusal changes registers and the notes of the cycle alone. -/
theorem State.refused_eq (s : State) (off kind : Nat) :
    s.refused off kind = { s with regs := (s.refused off kind).regs, cyc := (s.refused off kind).cyc } := by
  simp only [State.refused]; split <;> rfl

/-- A refusal writes no register but the access log and its count (Table 21-4). -/
theorem State.rg_refused (s : State) (off kind : Nat) {q : Reg} (j : Nat) (hl : q ≠ .GLOBAL_ACCESS_LOG)
    (hc : q ≠ .GLOBAL_ACCESS_COUNT) : (s.refused off kind).rg q j = s.rg q j := by
  simp only [State.refused]
  split
  · simp [State.bump, State.rg_setFd, hc, F.GLOBAL_ACCESS_COUNT_COUNT]
  · simp [State.logRefused, State.setFlag, State.bump, State.rg_setFd, hl, hc, F.GLOBAL_ACCESS_LOG_OFFSET,
      F.GLOBAL_ACCESS_LOG_KIND, F.GLOBAL_ACCESS_LOG_VALID, F.GLOBAL_ACCESS_COUNT_COUNT]

theorem State.fd_refused (s : State) (off kind : Nat) (x : RegField) (j : Nat) (hl : x.reg ≠ .GLOBAL_ACCESS_LOG)
    (hc : x.reg ≠ .GLOBAL_ACCESS_COUNT) : (s.refused off kind).fd x j = s.fd x j :=
  congrArg (fun v : Word => bits v.toNat x.hi x.lo) (s.rg_refused off kind j hl hc)

theorem State.fb_refused (s : State) (off kind : Nat) (x : RegField) (j : Nat) (hl : x.reg ≠ .GLOBAL_ACCESS_LOG)
    (hc : x.reg ≠ .GLOBAL_ACCESS_COUNT) : (s.refused off kind).fb x j = s.fb x j := by
  simp only [State.fb_eq_fd, s.fd_refused off kind x j hl hc]

/-- A field of another register than the one written keeps its value. -/
theorem State.fd_setRg_reg (s : State) {r : Reg} (v : Word) (i : Nat) (x : RegField) (j : Nat) (h : x.reg ≠ r) :
    (s.setRg r v i).fd x j = s.fd x j :=
  congrArg (fun y : Word => bits y.toNat x.hi x.lo) (RegFile.get_set_ne s.regs v fun e => h e.1)

theorem State.fb_setRg_reg (s : State) {r : Reg} (v : Word) (i : Nat) (x : RegField) (j : Nat) (h : x.reg ≠ r) :
    (s.setRg r v i).fb x j = s.fb x j := by
  simp only [State.fb_eq_fd, s.fd_setRg_reg v i x j h]

/-! ## The access log (Table 21-4) -/

theorem State.bump_count_log_valid (s : State) :
    (s.bump F.GLOBAL_ACCESS_COUNT_COUNT).fb F.GLOBAL_ACCESS_LOG_VALID = s.fb F.GLOBAL_ACCESS_LOG_VALID := by
  rw [State.fb_eq_fd, State.bump, State.fd_setFd_reg _ _ _ _ _ _ (by decide), ← State.fb_eq_fd]

/-- A refusal that finds the log clear is logged. -/
theorem State.refused_clear (h : s.fb F.GLOBAL_ACCESS_LOG_VALID = false) (off kind : Nat) :
    s.refused off kind = ((s.bump F.GLOBAL_ACCESS_COUNT_COUNT).mark (.refusedWrite off kind)).logRefused off kind := by
  have hb : ((s.bump F.GLOBAL_ACCESS_COUNT_COUNT).mark (.refusedWrite off kind)).fb F.GLOBAL_ACCESS_LOG_VALID = false :=
    s.bump_count_log_valid.trans h
  simp [State.refused, hb]

theorem State.logRefused_valid (s : State) (off kind : Nat) : (s.logRefused off kind).fb F.GLOBAL_ACCESS_LOG_VALID = true := by
  simp only [State.fb_eq_fd, State.logRefused, State.setFlag, State.fd_mark]
  rw [State.fd_setFd_same _ _ _ _ (by decide)]
  simp [F.GLOBAL_ACCESS_LOG_VALID]

theorem State.logRefused_kind (s : State) (off kind : Nat) : (s.logRefused off kind).fd F.GLOBAL_ACCESS_LOG_KIND = kind % 16 := by
  simp only [State.logRefused, State.setFlag, State.fd_mark]
  rw [State.fd_setFd_other _ F.GLOBAL_ACCESS_LOG_VALID F.GLOBAL_ACCESS_LOG_KIND _ _ (by decide) rfl (by decide),
    State.fd_setFd_same _ _ _ _ (by decide)]
  rfl

theorem State.refused_log_valid (h : s.fb F.GLOBAL_ACCESS_LOG_VALID = false) (off kind : Nat) :
    (s.refused off kind).fb F.GLOBAL_ACCESS_LOG_VALID = true := by
  rw [State.refused_clear h, State.logRefused_valid]

theorem State.refused_log_kind (h : s.fb F.GLOBAL_ACCESS_LOG_VALID = false) (off kind : Nat) :
    (s.refused off kind).fd F.GLOBAL_ACCESS_LOG_KIND = kind % 16 := by
  rw [State.refused_clear h, State.logRefused_kind]

/-! ## Which word a write reaches, and whether it acts -/

theorem State.inst_raise (s : State) (c : FaultCode) (r : Reg) (w : Nat) : (s.raise c).inst r w = s.inst r w := by
  rw [State.raise_eq]; rfl

/-- No select register is in the access log: a refusal selects no other word (R611). -/
theorem State.inst_refused (s : State) (off kind : Nat) (r : Reg) (w : Nat) : (s.refused off kind).inst r w = s.inst r w := by
  unfold State.inst
  congr 1
  all_goals
    simp (disch := decide) only [State.scopeSel, State.bobPipe, State.termSel, State.laneSel, State.metSel, State.coefInst,
      State.hashInst, State.checkSel, State.fd_refused, State.fb_refused, State.refused_str, State.refused_track]

theorem State.writeFault_refused (s : State) (off kind : Nat) (r : Reg) : (s.refused off kind).writeFault r = s.writeFault r := by
  unfold State.writeFault
  simp (disch := decide) only [State.allIdle, State.anyActive, State.tlQuiet, State.groupGranted, State.checkBusy, State.checkSel,
    State.fd_refused, State.fb_refused, State.refused_plan, State.refused_tl, State.refused_glob, State.refused_check,
    State.refused_track]
  rfl

theorem State.writeView_refused (s : State) (off kind : Nat) (r : Reg) : (s.refused off kind).writeView r = s.writeView r := by
  unfold State.writeView
  simp (disch := decide) only [State.fb_refused]

/-- Whether a register is a command register does not depend on the value written. -/
theorem commandOf_none_congr {r : Reg} {v : Word} (v' : Word) (h : commandOf r v = none) : commandOf r v' = none := by
  unfold commandOf at h ⊢
  split at h
  case h_32 => rfl
  all_goals cases h

/-- Only writes of command registers are CMD wake events (Table 15-6). -/
theorem cmdWake_of_commandOf_none {r : Reg} {v : Word} (h : commandOf r v = none) : cmdWake r v = false := by
  unfold cmdWake
  split
  case h_7 => rfl
  all_goals cases h

/-- Absence at the host port concerns command registers only. -/
theorem State.cmdAbsent_of_commandOf_none (s : State) {r : Reg} {v : Word} (h : commandOf r v = none) : s.cmdAbsent r = false := by
  unfold State.cmdAbsent
  split
  case h_10 => rfl
  all_goals cases h

/-! ## Open crossings (R489, R490) -/

/-- The words of block b cross to island i, or are discarded there: one turn of `crossWords`. -/
def crossOne (b : Nat) (s : State) (i : Nat) : State :=
  let x := s.wordXing i
  if x.isOpen then s.setWordXing i (x.write (s.configWords b)) else s.discard (Config.wordXing i) 1

theorem crossWords_eq_foldl (b : Nat) (s : State) :
    crossWords b s = ((List.range 24).filter (fun i => islandBlock i == some b)).foldl (crossOne b) s := rfl

theorem crossOne_open {i : Nat} (b : Nat) (h : (s.wordXing i).isOpen = true) :
    crossOne b s i = s.setWordXing i ((s.wordXing i).write (s.configWords b)) := if_pos h

@[simp] theorem HeldXing.write_isOpen (x : HeldXing) (v : Sparse Word) : (x.write v).isOpen = x.isOpen := by
  simp only [HeldXing.write]; split <;> rfl

/-- Replacing a crossing by one as open as it was keeps every crossing as open as it was. -/
theorem State.setWordXing_isOpen (s : State) (i j : Nat) {x : HeldXing} (h : x.isOpen = (s.wordXing i).isOpen) :
    ((s.setWordXing i x).wordXing j).isOpen = (s.wordXing j).isOpen := by
  simp only [State.wordXing, State.setWordXing, Vector.getElem?_setIfInBounds] at h ⊢
  by_cases hij : i = j
  · subst hij
    by_cases hi : i < 24
    · simpa [hi] using h
    · simp [hi]
  · simp [hij]

/-- Words that cross to open islands change nothing but the crossings. -/
theorem foldl_crossOne_open (b : Nat) (l : List Nat) (s : State) (h : ∀ i ∈ l, (s.wordXing i).isOpen = true) :
    l.foldl (crossOne b) s = { s with clock := (l.foldl (crossOne b) s).clock } := by
  induction l generalizing s with
  | nil => rfl
  | cons i l ih =>
    obtain ⟨hi, hl⟩ := List.forall_mem_cons.1 h
    have hopen : ∀ j ∈ l, ((crossOne b s i).wordXing j).isOpen = true := fun j hj => by
      rw [crossOne_open b hi, s.setWordXing_isOpen i j (HeldXing.write_isOpen _ _), hl j hj]
    rw [List.foldl_cons, ih _ hopen, crossOne_open b hi]
    rfl

theorem crossWords_open (b : Nat) (s : State)
    (h : ∀ i, i < 24 → islandBlock i = some b → (s.wordXing i).isOpen = true) :
    crossWords b s = { s with clock := (crossWords b s).clock } := by
  refine foldl_crossOne_open b _ s fun i hi => ?_
  obtain ⟨hr, hb⟩ := List.mem_filter.1 hi
  exact h i (List.mem_range.1 hr) (eq_of_beq hb)

/-! ## Plain registers (R10 to R12) -/

/-- The bits that the device has set in a cycle in which nothing has happened. -/
theorem State.setNow_of_cyc_nil (h : s.cyc = []) (r : Reg) (i : Nat) : s.setNow r i = 0 := by
  simp [State.setNow, h]

/-- A refusal sets a bit of the access log only. -/
theorem State.setNow_refused (s : State) (off kind : Nat) {r : Reg} (i : Nat) (hl : r ≠ .GLOBAL_ACCESS_LOG) :
    (s.refused off kind).setNow r i = s.setNow r i := by
  simp only [State.refused]
  split
  · rfl
  · simp [State.setNow, State.logRefused, State.setFlag, State.mark, State.setFd, State.bump, hl.symm, F.GLOBAL_ACCESS_LOG_VALID]

theorem storeReg_of_setNow_zero {r : Reg} {i : Nat} (v : Word) (h : s.setNow r i = 0) :
    storeReg r i v s = s.setRg r (r.written (s.rg r i) v) i := by
  have hv : v &&& ~~~(r.w1cMask &&& 0#32) = v := by rw [BitVec.and_zero, BitVec.not_zero, BitVec.and_allOnes]
  rw [storeReg, h]
  exact congrArg (fun x => s.setRg r (r.written (s.rg r i) x) i) hv

/-- A write of v to word w of register r that the access rules let through is a plain store: r is no command register, it is not
ignored, it has no effect of its own, the device has set none of its bits in this cycle, and the crossings of its block are open. -/
structure PlainWrite (s : State) (r : Reg) (w : Nat) (v : Word) : Prop where
  notCommand : commandOf r v = none
  noFault : s.writeFault r = none
  noView : s.writeView r = false
  noEffect : effectOf r (s.inst r w) v = none
  notSet : s.setNow r (s.inst r w) = 0
  isOpen : ∀ i, i < 24 → islandBlock i = some (r.offset / 0x10000) → (s.wordXing i).isOpen = true

section
variable {r : Reg} {w : Nat} {v : Word}

/-- A plain write stores the register's word; besides the register file it moves the crossings and is noted in the cycle. -/
theorem writeThrough_plain (h : PlainWrite s r w v) :
    ∃ k l, writeThrough r w v s =
      { s.setRg r (r.written (s.rg r (s.inst r w)) v) (s.inst r w) with clock := k, cyc := l } := by
  simp only [writeThrough, h.notCommand, h.noFault, h.noView, h.noEffect, storeReg_of_setNow_zero v h.notSet,
    Bool.false_eq_true, if_false]
  split
  all_goals exact ⟨_, _, crossWords_open _ _ h.isOpen⟩

theorem writeThrough_fault {c : FaultCode} (hcmd : commandOf r v = none) (hfault : s.writeFault r = some c) :
    writeThrough r w v s = s.raise c := by
  simp only [writeThrough, hcmd, hfault]

/-- The note that a host write leaves in the cycle does not change what it does. -/
theorem PlainWrite.hostWrote (h : PlainWrite s r w v) (q : Reg) (i : Nat) (x y : Word) :
    PlainWrite (s.mark (.hostWrote q i x y)) r w v :=
  ⟨h.notCommand, h.noFault, h.noView, h.noEffect, h.notSet, h.isOpen⟩

theorem PlainWrite.raise (h : PlainWrite s r w v) (c : FaultCode) : PlainWrite (s.raise c) r w v := by
  rw [State.raise_eq]
  exact ⟨h.notCommand, h.noFault, h.noView, h.noEffect, h.notSet, h.isOpen⟩

theorem PlainWrite.refused (h : PlainWrite s r w v) (off kind : Nat) (hl : r ≠ .GLOBAL_ACCESS_LOG) :
    PlainWrite (s.refused off kind) r w v where
  notCommand := h.notCommand
  noFault := (s.writeFault_refused off kind r).trans h.noFault
  noView := (s.writeView_refused off kind r).trans h.noView
  noEffect := by rw [State.inst_refused, h.noEffect]
  notSet := by rw [State.inst_refused, State.setNow_refused _ _ _ _ hl, h.notSet]
  isOpen i hi hb := by rw [State.wordXing, State.refused_clock]; exact h.isOpen i hi hb

/-! ## Access rules (R609, R614) -/

theorem regWrite_absent (h : s.regAbsent r = true) : regWrite r w v s = s := if_pos h

/-- A write that would change no locked bit goes through, the locked bits m keeping their value. -/
theorem regWrite_unlocked {m : Word} (habs : s.regAbsent r = false) (hm : m = lockMask s.str.locks r)
    (hsame : (v ^^^ s.readReg r w) &&& m = 0) :
    regWrite r w v s = writeThrough r w ((v &&& ~~~m) ||| (s.readReg r w &&& m))
      (s.mark (.hostWrote r (s.inst r w) v (s.rg r (s.inst r w)))) := by
  subst hm
  simp only [regWrite, habs, hsame, Bool.false_eq_true, if_false, if_true]

/-- A write that would change a locked bit is refused for it, and goes through with the locked bits m as they were. -/
theorem regWrite_locked {m : Word} (habs : s.regAbsent r = false) (hm : m = lockMask s.str.locks r)
    (hdiff : (v ^^^ s.readReg r w) &&& m ≠ 0) :
    regWrite r w v s = writeThrough r w ((v &&& ~~~m) ||| (s.readReg r w &&& m))
      (((s.refused (r.off w) 1).raise .GLB_LOCKED_WRITE).mark (.hostWrote r (s.inst r w) v (s.rg r (s.inst r w)))) := by
  subst hm
  simp only [regWrite, habs, hdiff, Bool.false_eq_true, if_false]

/-- Without locked bits the whole value goes through. -/
theorem regWrite_noLock (habs : s.regAbsent r = false) (hm : lockMask s.str.locks r = 0) :
    regWrite r w v s = writeThrough r w v (s.mark (.hostWrote r (s.inst r w) v (s.rg r (s.inst r w)))) := by
  have hv : (v &&& ~~~0#32) ||| (s.readReg r w &&& 0#32) = v := by
    rw [BitVec.and_zero, BitVec.or_zero, BitVec.not_zero, BitVec.and_allOnes]
  rw [regWrite_unlocked habs hm.symm BitVec.and_zero]
  exact congrArg (fun x => writeThrough r w x _) hv

/-- A write that is ignored with a fault. -/
theorem regWrite_ignored {c : FaultCode} (habs : s.regAbsent r = false) (hm : lockMask s.str.locks r = 0)
    (hcmd : commandOf r v = none) (hfault : s.writeFault r = some c) :
    ∃ l, regWrite r w v s = { s.raise c with cyc := l } := by
  refine ⟨.hostWrote r (s.inst r w) v (s.rg r (s.inst r w)) :: (s.raise c).cyc, ?_⟩
  rw [regWrite_noLock habs hm, writeThrough_fault (s := s.mark _) hcmd hfault, State.raise_mark]
  rfl

/-- A plain write of a register without locked bits. -/
theorem regWrite_plain_noLock (habs : s.regAbsent r = false) (hm : lockMask s.str.locks r = 0) (h : PlainWrite s r w v) :
    ∃ k l, regWrite r w v s =
      { s.setRg r (r.written (s.rg r (s.inst r w)) v) (s.inst r w) with clock := k, cyc := l } := by
  rw [regWrite_noLock habs hm]
  exact writeThrough_plain (h.hostWrote _ _ _ _)

/-- A plain write that changes no locked bit. -/
theorem regWrite_plain {m : Word} (habs : s.regAbsent r = false) (hm : m = lockMask s.str.locks r)
    (hsame : (v ^^^ s.readReg r w) &&& m = 0) (h : PlainWrite s r w ((v &&& ~~~m) ||| (s.readReg r w &&& m))) :
    ∃ k l, regWrite r w v s =
      { s.setRg r (r.written (s.rg r (s.inst r w)) ((v &&& ~~~m) ||| (s.readReg r w &&& m))) (s.inst r w) with
        clock := k, cyc := l } := by
  rw [regWrite_unlocked habs hm hsame]
  exact writeThrough_plain (h.hostWrote _ _ _ _)

/-- A plain write of a register other than the access log's own that would change a locked bit. -/
theorem regWrite_plain_locked {m : Word} (habs : s.regAbsent r = false) (hm : m = lockMask s.str.locks r)
    (hdiff : (v ^^^ s.readReg r w) &&& m ≠ 0) (h : PlainWrite s r w ((v &&& ~~~m) ||| (s.readReg r w &&& m)))
    (hl : r ≠ .GLOBAL_ACCESS_LOG) (hc : r ≠ .GLOBAL_ACCESS_COUNT) :
    ∃ k l, regWrite r w v s =
      { s.raise .GLB_LOCKED_WRITE with
        regs := ((s.refused (r.off w) 1).setRg r
          (r.written (s.rg r (s.inst r w)) ((v &&& ~~~m) ||| (s.readReg r w &&& m))) (s.inst r w)).regs
        clock := k, cyc := l } := by
  have hi : ∀ e, (((s.refused (r.off w) 1).raise .GLB_LOCKED_WRITE).mark e).inst r w = s.inst r w := fun _ =>
    (State.inst_raise _ _ _ _).trans (s.inst_refused _ _ _ _)
  have hr : ((s.refused (r.off w) 1).raise .GLB_LOCKED_WRITE).rg r (s.inst r w) = s.rg r (s.inst r w) := by
    rw [State.raise_eq]; exact s.rg_refused _ _ _ hl hc
  obtain ⟨k, l, ht⟩ := writeThrough_plain (((h.refused (r.off w) 1 hl).raise .GLB_LOCKED_WRITE).hostWrote
    r (s.inst r w) v (s.rg r (s.inst r w)))
  refine ⟨k, l, ?_⟩
  rw [regWrite_locked habs hm hdiff, ht, hi, State.rg_mark, hr, State.raise_eq, State.raise_eq s,
    State.raise_fault_congr (s.refused_fault (r.off w) 1), State.refused_eq]
  rfl

end

/-! ## BAR0 (R455, R505, R556, R604, R605) -/

theorem exec_regWrite (sp : Space) (off v : BitVec 32) (whole : Bool) (s : State) :
    exec (.regWrite sp off v whole) s = .next (hostStore sp off.toNat v whole s) := rfl

theorem bar0Write_notReady (h : s.glob.ready = false) (off : Nat) (v : Word) (whole : Bool) :
    bar0Write off v whole s = (s.refused off 4).raise .RST_NOT_READY := by
  simp [bar0Write, h]

theorem bar0Write_notWhole (h : s.glob.ready = true) {off : Nat} {whole : Bool} (v : Word) (hw : whole = false ∨ off % 4 ≠ 0) :
    bar0Write off v whole s = (s.refused off 3).raise .HST_ACCESS := by
  rcases hw with rfl | hw
  · simp [bar0Write, h]
  · simp [bar0Write, h, hw]

/-- A whole word written to a register reaches it through the host's port. -/
theorem bar0Write_mapped (h : s.glob.ready = true) {off w : Nat} {r : Reg} (v : Word) (hal : off % 4 = 0)
    (hat : Reg.at? off = some (r, w)) : bar0Write off v true s = s.hostWrite r w v (regWrite r w v) := by
  simp [bar0Write, h, hal, hat]

/-- A write of a register that is no command register acts at once while the device is up. -/
theorem bar0Write_register (h : s.up) {off w : Nat} {r : Reg} {v : Word} (hal : off % 4 = 0)
    (hat : Reg.at? off = some (r, w)) (hcmd : commandOf r v = none) : bar0Write off v true s = regWrite r w v s := by
  obtain ⟨hready, hpower⟩ := h
  rw [bar0Write_mapped hready v hal hat]
  simp only [State.hostWrite, hready, cmdWake_of_commandOf_none hcmd, s.cmdAbsent_of_commandOf_none hcmd]
  cases hp : s.power.state
  case dormant => exact absurd hp hpower
  all_goals rfl

/-- In DORMANT a write that is no CMD wake event is held, and wakes the device as an access by PCIe (R499, R505). -/
theorem bar0Write_dormant (h : s.glob.ready = true) (hp : s.power.state = .dormant) {off w : Nat} {r : Reg} {v : Word}
    (hal : off % 4 = 0) (hat : Reg.at? off = some (r, w)) (hw : cmdWake r v = false) :
    bar0Write off v true s = ({ s with power := { s.power with held := s.power.held ++ [(r.off w, v)] } } : State).wake 1 := by
  rw [bar0Write_mapped h v hal hat]
  simp [State.hostWrite, h, hp, hw]

/-- A write that reaches no register goes to the MSI-X table or is refused. -/
theorem bar0Write_noRegister (h : s.up) {off : Nat} (v : Word) (hal : off % 4 = 0) (hat : Reg.at? off = none) :
    bar0Write off v true s = if msixOffset off then msixWrite off v s else (s.refused off 2).raise .GLB_UNMAPPED := by
  simp [bar0Write, writeAt, h.1, h.2, hal, hat]

/-- No register stands in the block of the MSI-X table (R603). -/
theorem Reg.at?_msix {off : Nat} (hlo : 0x01F00000 ≤ off) (hhi : off < 0x01F10000) : Reg.at? off = none := by
  have hb : off / 0x10000 = 0x1F0 := by omega
  rw [Reg.at?, hb]
  rfl

/-! ## BAR2 and the windows (R455, R456) -/

theorem bar2Write_notReady (h : s.glob.ready = false) (off : Nat) (v : Word) (whole : Bool) : bar2Write off v whole s = s := by
  simp [bar2Write, h]

theorem bar2Write_notWhole (h : s.glob.ready = true) {off : Nat} {whole : Bool} (v : Word) (hw : whole = false ∨ off % 4 ≠ 0)
    (hoff : off < 0x400000) : bar2Write off v whole s = s.raise .HST_ACCESS := by
  rcases hw with rfl | hw
  · simp [bar2Write, h, Nat.not_le.2 hoff]
  · simp [bar2Write, h, hw, Nat.not_le.2 hoff]

theorem bar2Write_page (h : s.up) {off : Nat} (v : Word) (hal : off % 4 = 0) (hoff : off < 0x400000) :
    bar2Write off v true s = pageWrite (off / 65536) (off % 65536) v s := by
  simp [bar2Write, h.1, h.2, hal, Nat.not_le.2 hoff]

/-- Pages 0 to 7 belong to function 0, which uses BAR0: they ignore writes (R456). -/
theorem pageWrite_own {n : Nat} (off : Nat) (v : Word) (hn : n < 8) : pageWrite n off v s = s := if_pos hn

theorem pageWrite_ungranted {n : Nat} (off : Nat) (v : Word) (hn : 8 ≤ n) (hg : s.groupGranted (n / 8) = false) :
    pageWrite n off v s = s.raise .HST_UNGRANTED := by
  simp [pageWrite, hg, Nat.not_lt.2 hn]

theorem windowWrite_notReady (h : s.glob.ready = false) (j off : Nat) (v : Word) (whole : Bool) :
    windowWrite j off v whole s = s := by
  simp [windowWrite, State.winAccess, h]

theorem windowWrite_notWhole (h : s.glob.ready = true) {j off : Nat} {whole : Bool} (v : Word) (hj : s.hasPers j = true)
    (hw : whole = false ∨ off % 4 ≠ 0) : windowWrite j off v whole s = s.raise .HST_ACCESS := by
  rcases hw with rfl | hw
  · simp [windowWrite, h, hj]
  · simp [windowWrite, h, hj, hw]

/-! ## The statement -/

/-- Settles O47: each kind of host write by the lemma of its space; a plain register by `regWrite_plain`, its crossings open. -/
theorem registerWrites : Obligations.RegisterWrites := by
  unfold Obligations.RegisterWrites
  simp only [exec_regWrite, hostStore]
  refine ⟨?notReady, ?otherNotReady, ?notWhole, ?pageNotWhole, ?windowNotWhole, ?unmapped, ?pendingBits, ?msixData, ?absent,
    ?ignored, ?plain, ?unlocked, ?locked, ?dormant, ?ownPage, ?ungranted⟩
  case notReady => exact fun s off v whole h => congrArg _ (bar0Write_notReady h _ _ _)
  case otherNotReady =>
    intro s off v whole sp hsp h
    cases sp with
    | bar0 => exact absurd rfl hsp
    | bar2 => exact congrArg _ (bar2Write_notReady h _ _ _)
    | window j => exact congrArg _ (windowWrite_notReady h _ _ _ _)
  case notWhole => exact fun s off v whole h hw => congrArg _ (bar0Write_notWhole h v hw)
  case pageNotWhole => exact fun s off v whole h hw hoff => congrArg _ (bar2Write_notWhole h v hw hoff)
  case windowNotWhole =>
    intro s off v whole j h hw hj hoff
    rw [Nat.mod_eq_of_lt hoff, windowWrite_notWhole h v hj hw]
  case unmapped =>
    intro s off v h hal hat hm
    rw [bar0Write_noRegister h v hal hat, hm]
    rfl
  case pendingBits =>
    intro s off v h hal hat hoff hm
    rw [bar0Write_noRegister h v hal hat, if_pos hm, msixWrite, if_pos (by omega)]
  case msixData =>
    intro s off v n h hn hoff
    have hm : msixOffset off.toNat = true := by simp [msixOffset]; omega
    have hk : (off.toNat - 0x01F00000) % 16 / 4 = 2 := by omega
    have hv : (off.toNat - 0x01F00000) / 16 = n := by omega
    rw [bar0Write_noRegister h v (by omega) (Reg.at?_msix (by omega) (by omega)), if_pos hm, msixWrite, if_neg (by omega), hk, hv]
    rfl
  case absent =>
    intro s off v r w h hal hat hcmd habs
    rw [bar0Write_register h hal hat hcmd, regWrite_absent habs]
  case ignored =>
    intro s off v r w c h hal hat hcmd habs hm hf
    obtain ⟨l, ht⟩ := regWrite_ignored (w := w) habs hm hcmd hf
    refine ⟨_, rfl, ?_⟩
    rw [bar0Write_register h hal hat hcmd, ht]
  case plain =>
    intro s off v r w h hcyc hal hat hopen hcmd habs hm hf hview heff
    obtain ⟨k, l, ht⟩ := regWrite_plain_noLock habs hm ⟨hcmd, hf, hview, heff, State.setNow_of_cyc_nil hcyc r _, hopen⟩
    refine ⟨_, rfl, ?_⟩
    rw [bar0Write_register h hal hat hcmd, ht]
    exact ⟨rfl, rfl⟩
  case unlocked =>
    intro s off v r w m h hcyc hal hat hopen hcmd habs hm _ _ hf hview heff hsame
    obtain ⟨k, l, ht⟩ := regWrite_plain habs hm hsame
      ⟨commandOf_none_congr _ hcmd, hf, hview, heff, State.setNow_of_cyc_nil hcyc r _, hopen⟩
    refine ⟨_, rfl, ?_⟩
    rw [bar0Write_register h hal hat hcmd, ht]
    exact ⟨State.rg_setRg_same _ _ _ _, rfl⟩
  case locked =>
    intro s off v r w m h hcyc hal hat hopen hcmd habs hm hl hc hf hview heff hdiff hlog
    obtain ⟨k, l, ht⟩ := regWrite_plain_locked habs hm hdiff
      ⟨commandOf_none_congr _ hcmd, hf, hview, heff, State.setNow_of_cyc_nil hcyc r _, hopen⟩ hl hc
    refine ⟨_, rfl, ?_⟩
    rw [bar0Write_register h hal hat hcmd, ht]
    exact ⟨State.rg_setRg_same _ _ _ _, rfl, (State.fb_setRg_reg _ _ _ _ _ hl.symm).trans (State.refused_log_valid hlog _ _),
      (State.fd_setRg_reg _ _ _ _ _ hl.symm).trans (State.refused_log_kind hlog _ _), rfl⟩
  case dormant => exact fun s off v r w h hp hal hat hw => congrArg _ (bar0Write_dormant h hp hal hat hw)
  case ownPage =>
    intro s off v h hal hoff
    rw [bar2Write_page h v hal (by omega), pageWrite_own _ _ (by omega)]
  case ungranted =>
    intro s off v h hoff hal hpage hg
    rw [bar2Write_page h v hal hoff, pageWrite_ungranted _ _ (by omega) hg]

end Sys2Proof.Machine

/-! PROOFS. What leaves the stripe's state as it is: the operations of Chapters 4 to 12 that an accepted ARM goes through, and the events
of its cycle that come after it (R35, R192, R272). -/

namespace Sys2Proof.Machine

variable {s : State}

/-! ## What a fold keeps -/

/-- A fold whose every turn keeps what g reads keeps it. -/
theorem foldl_keeps {α β σ : Type} (g : σ → β) (f : σ → α → σ) (h : ∀ s a, g (f s a) = g s) (l : List α) (s : σ) :
    g (l.foldl f s) = g s :=
  List.foldlRecOn (motive := fun t => g t = g s) l f rfl fun t ht a _ => (h t a).trans ht

/-! ## Grounds of refusal raise faults and nothing else -/

theorem State.raiseAll_cons (c : FaultCode) (l : List FaultCode) (s : State) : s.raiseAll (c :: l) = (s.raise c).raiseAll l := rfl

theorem State.raiseAll_eq (l : List FaultCode) (s : State) : s.raiseAll l = { s with fault := (s.raiseAll l).fault } := by
  induction l generalizing s with
  | nil => rfl
  | cons c l ih =>
    rw [State.raiseAll_cons, ih, State.raise_eq]

theorem State.raiseAll_fault_congr {t : State} (h : t.fault = s.fault) (l : List FaultCode) :
    (t.raiseAll l).fault = (s.raiseAll l).fault := by
  induction l generalizing s t with
  | nil => exact h
  | cons c l ih => exact ih (State.raise_fault_congr h c)

@[simp] theorem State.raiseN_plan (s : State) (c : FaultCode) (n : Nat) : (s.raiseN c n).plan = s.plan := by
  refine foldl_keeps State.plan _ ?_ _ s
  exact fun s _ => s.raise_plan c

/-! ## What keeps the planner's state -/

@[simp] theorem putStaged_state (s : State) (t : StagedTable) (k v : Nat) : (s.putStaged t k v).plan.state = s.plan.state := by
  cases t <;> rfl

@[simp] theorem State.setMark_plan (s : State) (w m : Nat) : (s.setMark w m).plan = s.plan := rfl

@[simp] theorem putSpan_plan (a : Nat) (l : List Byte) (m : List (Nat × Nat)) (s : State) : (putSpan a l m s).plan = s.plan := by
  refine foldl_keeps State.plan _ ?_ m (s.dramPut a l)
  exact fun s m => s.setMark_plan m.1 m.2

@[simp] theorem copyTrims_plan (s : State) : (copyTrims s).plan = s.plan := by
  simp only [copyTrims]
  refine foldl_keeps State.plan _ (fun t n => ?_) _ s
  exact t.setLane_plan n _

@[simp] theorem copyPhases_plan (s : State) : (copyPhases s).plan = s.plan := by
  refine foldl_keeps State.plan _ ?_ (List.range 4) s
  exact fun s c => s.setChan_plan c _

@[simp] theorem applyStaged_state (s : State) : (applyStaged s).plan.state = s.plan.state := by
  simp only [applyStaged, copyPhases_plan, copyTrims_plan, copySeams, copyDefects, State.raiseN_plan]

/-! ### DRAM -/

@[simp] theorem writeMark_plan (whole : Bool) (w : Nat) (s : State) : (writeMark whole w s).plan = s.plan := by
  have hplain : (writeMark.plain whole w s).plan = s.plan := by unfold writeMark.plain; split <;> rfl
  unfold writeMark
  split
  · split
    · rfl
    · exact hplain
  · exact hplain

@[simp] theorem dramStore_plan (a : Nat) (l : List Byte) (s : State) : (dramStore a l s).plan = s.plan := by
  refine foldl_keeps State.plan _ ?_ _ (s.dramPut a l)
  exact fun s k => writeMark_plan _ _ s

@[simp] theorem dramWrite_plan (a : Nat) (l : List Byte) (s : State) : (dramWrite a l s).plan = s.plan := by
  unfold dramWrite
  split
  · rfl
  split
  · exact s.raise_plan _
  split
  · rfl
  split
  · rfl
  · exact dramStore_plan a l s

/-! ### Live jobs and the pillows -/

@[simp] theorem chargeLive_plan (b : Nat) (s : State) : (chargeLive b s).plan = s.plan := by
  unfold chargeLive charge
  split
  · rfl
  split
  · rfl
  · rfl

@[simp] theorem assignLive_plan (s : State) : (assignLive s).plan = s.plan := by
  refine foldl_keeps State.plan _ (fun s j => ?_) _ _
  split
  · rw [chargeLive_plan, State.setUnit_plan]
  · rfl

@[simp] theorem stepUp_plan (p : Nat) (s : State) : (stepUp p s).plan = s.plan := by
  simp only [stepUp]
  split
  · rfl
  split
  · split
    · exact s.emit_plan _
    · rfl
  · rfl

@[simp] theorem riseToFloor_plan (fuel p : Nat) (s : State) : (riseToFloor fuel p s).plan = s.plan := by
  induction fuel generalizing s with
  | zero => rfl
  | succ fuel ih =>
    unfold riseToFloor
    split
    · rw [ih, stepUp_plan]
    · rfl

@[simp] theorem risePillows_plan (s : State) : (risePillows s).plan = s.plan := by
  refine foldl_keeps State.plan _ ?_ _ s
  exact fun s p => riseToFloor_plan 8 p s

@[simp] theorem queueLive_plan (l : List LiveWait) (s : State) : (queueLive l s).plan = s.plan := by
  simp only [queueLive]
  split
  · exact assignLive_plan _
  · exact (risePillows_plan _).trans (assignLive_plan _)

/-! ### The store, feasibility and capacity outside a running stripe -/

@[simp] theorem loadBlocks_plan (n i : Nat) (s : State) : (loadBlocks n i s).plan = s.plan := by
  induction n generalizing i s with
  | zero => rfl
  | succ n ih =>
    rw [loadBlocks, ih]
    split
    · rfl
    · rfl
    · rfl

theorem feasFail_plan (h : s.plan.state.running = false) (a row : Nat) (k : Int) : (feasFail a row k s).plan = s.plan := by
  have hrun : ∀ b : Bool, (s.plan.state.running && b) = false := fun b => by rw [h]; rfl
  unfold feasFail
  simp only [State.setFd_plan, hrun, Bool.false_eq_true, if_false, State.raise_plan]

theorem evalFeas_plan (h : s.plan.state.running = false) : (evalFeas s).plan = s.plan := by
  unfold evalFeas
  cases s.feasResult with
  | pass k => rfl
  | single k => exact feasFail_plan h _ _ _
  | rows a r k => exact feasFail_plan h _ _ _

theorem capacityCheck_state (h : s.plan.state.running = false) (dose : Nat → Int → Nat) (br : Nat) :
    (capacityCheck dose br s).plan.state = s.plan.state := by
  unfold capacityCheck
  split
  · rfl
  · split <;> simp [h]

/-- The capacity check of a stripe that does not run damps nothing: whatever it finds is only raised (R272). -/
theorem runCapacity_state (h : s.plan.state.running = false) : (runCapacity s).plan.state = s.plan.state :=
  List.foldlRecOn (motive := fun t : State => t.plan.state = s.plan.state) s.rowsToCheck _ rfl
    fun _ ht br _ => (capacityCheck_state (ht ▸ h) _ br).trans ht

/-! ### Records -/

@[simp] theorem keepRecord_plan (r : KeptRecord) (s : State) : (keepRecord r s).plan = s.plan := by
  simp only [keepRecord, sendRecord, sendTo]
  split
  · split
    · exact s.emit_plan _
    · rfl
  · exact s.raise_plan _

@[simp] theorem sendEdgeRecords_plan (s : State) : (sendEdgeRecords s).plan = s.plan := by
  refine foldl_keeps State.plan _ ?_ _ s
  exact fun s side => keepRecord_plan _ s

@[simp] theorem State.rewait_plan (s : State) : s.rewait.plan = s.plan := rfl

@[simp] theorem State.reseam_state (s : State) : s.reseam.plan.state = s.plan.state := rfl

/-! ## An accepted ARM -/

@[simp] theorem formReserve_plan (s : State) : (formReserve s).plan = s.plan := State.raiseIf_plan _ _ _

@[simp] theorem armLive_state (s : State) : (armLive s).plan.state = s.plan.state := by
  simp only [armLive, dramWrite_plan]

theorem armReplay_state (h : s.plan.state = .armed) : (armReplay s).plan.state = .armed := by
  have hrows : ∀ (l : List Nat) (t : State), (l.foldl (fun t br => queueRow br t) t).plan = t.plan := fun l t =>
    foldl_keeps State.plan _ (fun t br => queueLive_plan _ t) l t
  have hfeas : ∀ t : State, t.plan.state = .armed → (evalFeas t).plan.state = .armed := fun t ht => by
    rw [evalFeas_plan (by rw [ht]; rfl), ht]
  have hcap : ∀ t : State, t.plan.state = .armed → (runCapacity t).plan.state = .armed := fun t ht => by
    rw [runCapacity_state (by rw [ht]; rfl), ht]
  simp only [armReplay]
  rw [hrows]
  refine hcap _ (hfeas _ ?_)
  simp only [loadBlocks_plan]
  exact h

/-- An accepted ARM leaves the stripe in ARMED, whatever its source. -/
@[simp] theorem armAccept_state (s : State) : (armAccept s).plan.state = .armed := by
  have hend : ∀ t : State, (sendEdgeRecords t).rewait.reseam.plan.state = t.plan.state := fun t => by
    rw [State.reseam_state, State.rewait_plan, sendEdgeRecords_plan]
  simp only [armAccept]
  rw [hend]
  split
  · exact armReplay_state (by rw [formReserve_plan])
  · rw [armLive_state, formReserve_plan]

/-! ## The events of its cycle that an ARM comes before -/

@[simp] theorem hushYields_plan (id : Nat) (s : State) : (hushYields id s).plan = s.plan := by
  unfold hushYields
  split <;> rfl

@[simp] theorem laneCommand_plan (cmd n : Nat) (s : State) : (laneCommand cmd n s).plan = s.plan := by
  simp only [laneCommand]
  split
  · exact s.raise_plan _
  rw [State.mark_plan, State.setLane_plan]
  split
  · exact hushYields_plan 6 s
  · rfl

@[simp] theorem protectBurst_plan (o : DmaOp) (n : Nat) (s : State) : (protectBurst o n s).plan = s.plan := by
  unfold protectBurst
  split
  · exact State.raise_plan _ _
  · rfl

@[simp] theorem protectAppend_plan (u : Nat) (seq : Word) (s : State) : (protectAppend u seq s).plan = s.plan := State.raise_plan _ _

theorem rewrite_plan (w : SpanWrite) {f : State → State} (hf : (f s).plan = s.plan) : (rewrite w f s).plan = s.plan := by
  unfold rewrite
  split
  · exact hf
  · exact putSpan_plan _ _ _ s

@[simp] theorem redoEvent_state (armed : Bool) (s : State) (e : CycleEvent) :
    (redoEvent armed s e).plan.state = s.plan.state := by
  cases e with
  | stored r i old new =>
    simp only [redoEvent]
    split
    · rw [State.raise_plan]
    · rfl
  | staged t k old new => exact putStaged_state s t k new
  | laneCmd cmd n old => exact congrArg PlanSt.state (laneCommand_plan cmd n s)
  | burstWrote o w => exact congrArg PlanSt.state (rewrite_plan w (protectBurst_plan o _ s))
  | appended u seq w => exact congrArg PlanSt.state (rewrite_plan w (protectAppend_plan u seq s))
  | _ => rfl

end Sys2Proof.Machine

/-! PROOFS. The stripe's commands at the host port, and ARM (R35, Table 1-5): how an ARM is judged, and what its write comes to. -/

namespace Sys2Proof.Machine

variable {s : State}

/-! ## The stripe's commands at the host port -/

/-- In RUN a stripe command that is no CMD wake event acts at once on a native device. -/
theorem State.hostCmd_stripe (h : s.runs) (hn : s.native = true) {v : Nat} (f : State → State)
    (hv : cmdWake .PLAN_STRIPE_CMD (BitVec.ofNat 32 v) = false) : s.hostCmd .PLAN_STRIPE_CMD v f = f s :=
  State.hostCmd_plain h f hv (by simp [State.cmdAbsent, hn])

theorem exec_arm (h : s.runs) (hn : s.native = true) : exec .arm s = .next (doArm s.cmdSeen) :=
  congrArg Host.Outcome.next (State.hostCmd_wake h doArm rfl (by simp [State.cmdAbsent, show s.cmdSeen.native = true from hn]))

theorem exec_start (h : s.runs) (hn : s.native = true) : exec .start s = .next (doStart s) :=
  congrArg Host.Outcome.next (State.hostCmd_stripe h hn doStart rfl)

theorem exec_abort (h : s.runs) (hn : s.native = true) : exec .abort s = .next (doAbort s) :=
  congrArg Host.Outcome.next (State.hostCmd_stripe h hn doAbort rfl)

theorem exec_release (h : s.runs) (hn : s.native = true) : exec .release s = .next (doRelease s) :=
  congrArg Host.Outcome.next (State.hostCmd_stripe h hn doRelease rfl)

theorem exec_verifyTimeout (h : s.up) : exec .verifyTimeout s = .next (doVerifyTimeout s) :=
  congrArg Host.Outcome.next (State.whenReady_up h doVerifyTimeout)

theorem exec_axesSettled (h : s.up) : exec .axesSettled s = .next (doSettled s) :=
  congrArg Host.Outcome.next (State.whenReady_up h doSettled)

/-! ## ARM is judged -/

theorem judgeArm_barred (h : s.armBarred ≠ []) : judgeArm s = s.raiseAll s.armBarred := if_pos h

theorem judgeArm_refused (hb : s.armBarred = []) (hr : (applyStaged s).armRefusals ≠ []) :
    judgeArm s = (applyStaged s).raiseAll (applyStaged s).armRefusals := by
  rw [judgeArm, if_neg (fun h => h hb)]
  exact if_pos hr

theorem judgeArm_accepted (hb : s.armBarred = []) (hr : (applyStaged s).armRefusals = []) :
    judgeArm s = armAccept (applyStaged s) := by
  rw [judgeArm, if_neg (fun h => h hb)]
  exact if_neg (fun h => h hr)

/-- A beam scan turns an ARM away (R597). -/
theorem scan_none_of_armBarred (h : s.armBarred = []) : s.plan.scan = none := by
  cases hs : s.plan.scan with
  | none => rfl
  | some sc => simp [State.armBarred, hs] at h

/-! ## The write of ARM -/

theorem doArm_notIdle (h : s.plan.state ≠ .idle) : doArm s = s := by
  simp [doArm, h]

/-- In IDLE an ARM is judged with the events of its cycle taken back; they come after it (Tables 5-5, 6-8, 7-4, 8-13, 9-10). -/
theorem doArm_idle (hn : s.native = true) (hi : s.plan.state = .idle) : doArm s =
    let s1 := judgeArm (s.cyc.foldl undoEvent s)
    let s2 := s.cyc.reverse.foldl (redoEvent (s1.plan.state == .armed)) s1
    let s3 := if s.plan.scan.isSome then s2.mark .armInScan else s2
    if s1.plan.state == .armed then s3.mark .armed else s3 :=
  if_neg (by simp [hn, hi])

theorem doArm_accepted (hn : s.native = true) (hi : s.plan.state = .idle)
    (hb : (s.cyc.foldl undoEvent s).armBarred = []) (hr : (applyStaged (s.cyc.foldl undoEvent s)).armRefusals = []) :
    (doArm s).plan.state = .armed := by
  have harmed : (judgeArm (s.cyc.foldl undoEvent s)).plan.state = .armed := by
    rw [judgeArm_accepted hb hr, armAccept_state]
  have hredo : ∀ (l : List CycleEvent) (t : State), (l.foldl (redoEvent true) t).plan.state = t.plan.state :=
    foldl_keeps (fun t : State => t.plan.state) _ (redoEvent_state true)
  rw [doArm_idle hn hi]
  simp only [harmed, BEq.rfl, if_true, State.mark_plan]
  split
  · rw [State.mark_plan, hredo, harmed]
  · rw [hredo, harmed]

theorem State.cmdSeen_cyc (s : State) : s.cmdSeen.cyc = .woke 0 :: .bitsSet .POWER_WAKE_STATUS 0 1 :: s.cyc := rfl

/-- A refused ARM in whose cycle nothing else has happened takes nothing back. -/
theorem doArm_refused (hc : s.cyc = []) (hn : s.native = true) (hi : s.plan.state = .idle)
    (hj : (judgeArm s.cmdSeen).plan.state = .idle) :
    doArm s.cmdSeen = if s.plan.scan.isSome then (judgeArm s.cmdSeen).mark .armInScan else judgeArm s.cmdSeen := by
  have hundo : s.cmdSeen.cyc.foldl undoEvent s.cmdSeen = s.cmdSeen := by rw [State.cmdSeen_cyc, hc]; rfl
  have hredo : ∀ armed t, s.cmdSeen.cyc.reverse.foldl (redoEvent armed) t = t := fun armed t => by
    rw [State.cmdSeen_cyc, hc]; rfl
  rw [doArm_idle (s := s.cmdSeen) hn hi, hundo]
  simp only [hredo, hj]
  rfl

/-! ## The statement -/

/-- Settles O7: an accepted ARM by `armAccept_state`, whose result the events of its cycle leave in ARMED; a refused one by what
`judgeArm` comes to, since then nothing is taken back. -/
theorem armAcceptsOrRefuses : Obligations.ArmAcceptsOrRefuses := by
  unfold Obligations.ArmAcceptsOrRefuses
  refine ⟨?accepted, ?refused, ?barred, ?notIdle⟩
  case accepted =>
    intro s hruns hn hi hb hr
    exact ⟨_, exec_arm hruns hn, doArm_accepted hn hi hb hr⟩
  case refused =>
    intro s hruns hn hi hc hb hr
    have hj := judgeArm_refused hb hr
    have hstate : (judgeArm s.cmdSeen).plan.state = .idle := by
      rw [hj, State.raiseAll_eq]
      exact (applyStaged_state s.cmdSeen).trans hi
    have hscan : s.plan.scan = none := scan_none_of_armBarred hb
    refine ⟨_, exec_arm hruns hn, ?_⟩
    rw [doArm_refused hc hn hi hstate, hscan, Option.isSome_none, if_neg Bool.false_ne_true]
    exact ⟨hstate, hj.trans (State.raiseAll_eq _ _)⟩
  case barred =>
    intro s hruns hn hi hc hb
    have hj := (judgeArm_barred hb).trans (State.raiseAll_eq _ _)
    rw [State.raiseAll_fault_congr (t := s.cmdSeen) (s := s) rfl] at hj
    have hstate : (judgeArm s.cmdSeen).plan.state = .idle := by rw [hj]; exact hi
    refine ⟨_, exec_arm hruns hn, ?_⟩
    rw [doArm_refused hc hn hi hstate, hj]
    split <;> rfl
  case notIdle =>
    intro s hruns hn hi
    rw [exec_arm hruns hn, doArm_notIdle (s := s.cmdSeen) hi]

end Sys2Proof.Machine

/-! PROOFS. RELEASE and LATCH (R304, Table 8-13): a local source of the cycle holds LATCH although it does not persist. -/

namespace Sys2Proof.Machine

variable {s : State}

theorem doRelease_idle (hn : s.native = true) (hi : s.plan.state = .idle) : doRelease s = clearLatch s := by
  simp [doRelease, hn, hi]

/-- LATCH stays set in the cycle in which a local source arises, whether the source persists or not (Table 8-13). -/
theorem clearLatch_localSource (h : s.saw .localSource = true) : clearLatch s = s := by
  simp [clearLatch, h]

/-- A device in IDLE and READY, in the cycle in which a fault selected for damp has reached its generators (DAMP_SOURCE, Table 8-5). -/
def latchedNow : State :=
  doDampSource true (FaultCode.num .HST_ACCESS) 0 { State.reset with glob := { GlobalSt.reset with ready := true } }

theorem latchedNow_runs : latchedNow.runs := by decide +kernel

/-- The source sets LATCH, leaves the stripe in IDLE and is gone at once; the cycle notes it. -/
theorem latchedNow_facts : latchedNow.native = true ∧ latchedNow.plan.state = .idle ∧ latchedNow.localPersists = false ∧
    latchedNow.saw .localSource = true ∧ latchedNow.caril.latch = true := by decide +kernel

/-- Refutes O8: the model applies Table 8-13's row for a write of 1 to LATCH to RELEASE too, so RELEASE in the cycle of a local damp
source leaves LATCH set even where the source does not persist; the third clause claims that it clears, of `latchedNow` too. -/
theorem not_stripeReturnsToIdle : ¬ Obligations.StripeReturnsToIdle := by
  unfold Obligations.StripeReturnsToIdle
  rintro ⟨-, -, hrelease⟩
  obtain ⟨hn, hi, hpersists, hsaw, hset⟩ := latchedNow_facts
  have hkept : exec .release latchedNow = .next latchedNow := by
    rw [exec_release latchedNow_runs hn, doRelease_idle hn hi, clearLatch_localSource hsaw]
  have hnext := Host.Outcome.next.inj (hkept.symm.trans (hrelease latchedNow latchedNow_runs hn hi hpersists))
  have hclear : latchedNow.caril.latch = false := congrArg (fun t : State => t.caril.latch) hnext
  rw [hset] at hclear
  exact Bool.noConfusion hclear

end Sys2Proof.Machine

/-! PROOFS. START, ABORT and the waits of the lead (R23, R42 to R44, R316, R352, R374, R597). -/

namespace Sys2Proof.Machine

variable {s : State}

/-! ## START (R42 to R44) -/

theorem State.leads_of_role {r : Role} (h : s.str.role = r) (hr : r ≠ .member) : s.leads = true := by
  simp [State.leads, h, hr]

/-- The device is in ARMED, and no START is being verified or has been accepted (R42, R43). -/
structure StartOpen (s : State) : Prop where
  native : s.native = true
  leads : s.leads = true
  armed : s.plan.state = .armed
  notStarted : s.plan.started = none
  notAccepted : s.plan.accepted = false

/-- The state in which an open START is judged: what stood before is noted in the cycle (Table 20-6). -/
def State.noteStart (s : State) : State := s.mark (.started s.plan s.stage s.cad.startVerify)

theorem doStart_member (hn : s.native = true) (hl : s.leads = false) : doStart s = s.raise .PLN_ROLE_COMMAND := by
  simp [doStart, hn, hl]

/-- An open START is turned away while channel 0, 1 or 2 calibrates, else judged by the role (R43, R597). -/
theorem doStart_open (h : StartOpen s) : doStart s =
    if [0, 1, 2].any (fun c => (s.chan c).calActive) then s.raise .STG_BUSY
    else if s.noteStart.str.role == .solo then
      (if s.noteStart.committed then acceptStart s.noteStart else refuseStart false false s.noteStart)
    else { s.noteStart with
      plan := { s.noteStart.plan with started := some ⟨s.now, none⟩ }
      cad := { s.noteStart.cad with startVerify := true } } := by
  unfold doStart
  rw [if_neg (by simp [h.native]), if_neg (by simp [h.leads]),
    if_neg (by simp [h.armed, h.notStarted, h.notAccepted])]
  rfl

theorem doStart_calibrating (h : StartOpen s) (hcal : ∃ c ∈ [0, 1, 2], (s.chan c).calActive = true) :
    doStart s = s.raise .STG_BUSY := by
  rw [doStart_open h, if_pos (List.any_eq_true.2 hcal)]

section
variable (h : StartOpen s) (hcal : ∀ c ∈ [0, 1, 2], (s.chan c).calActive = false)
include h hcal

theorem doStart_lead (hr : s.str.role = .lead) : doStart s = { s.noteStart with
    plan := { s.plan with started := some ⟨s.now, none⟩ }
    cad := { s.cad with startVerify := true } } := by
  rw [doStart_open h, if_neg (by simpa using hcal), if_neg (by simp [State.noteStart, hr])]
  rfl

theorem doStart_solo (hr : s.str.role = .solo) :
    doStart s = if s.committed then acceptStart s.noteStart else refuseStart false false s.noteStart := by
  rw [doStart_open h, if_neg (by simpa using hcal), if_pos (by simp [State.noteStart, hr])]
  rfl

end

/-! ## Where the stage goes (R351, R352) -/

/-- Outside the cycle of a profile update an aim is the axis's next goal (R351). -/
theorem State.aim_goal (h : s.saw .profileTick = false) (i : Fin 2) (g : AxisGoal) : ((s.aim i g).axis i).goal = some g := by
  simp [State.aim, State.axis, State.setAxis, h]

theorem State.aim_axis_ne (s : State) {i j : Fin 2} (g : AxisGoal) (h : i ≠ j) : (s.aim i g).axis j = s.axis j := by
  have hv : i.val ≠ j.val := fun e => h (Fin.ext e)
  simp [State.aim, State.axis, State.setAxis, hv]

theorem moveToPass_goals (h : s.saw .profileTick = false) (p : Nat) (w : StageWait) :
    ((moveToPass p w s).axis 0).goal = some (.to (s.xTarget p)) ∧ ((moveToPass p w s).axis 1).goal = some (.to (s.runInStart p)) := by
  constructor
  · rw [moveToPass, State.aim_axis_ne _ _ (by decide), State.aim_goal (by exact h)]
  · rw [moveToPass, State.aim_goal (by exact h)]

theorem refuseStart_noteStart (h : s.plan.started = none) (chain mismatch : Bool) :
    refuseStart chain mismatch s.noteStart = { s.raise .PLN_COMMIT_REFUSED with
      plan := { s.plan with failChain := chain, failMatch := mismatch }, cyc := s.noteStart.cyc } := by
  rw [refuseStart, State.noteStart, State.raise_mark, ← h]
  simp [State.mark]

/-! ## ABORT in a running state (R23) -/

theorem doAbort_running (hn : s.native = true) (hr : s.plan.state.running = true) :
    doAbort s = if s.leads then s.queueCmd ⟨6, 0, 0⟩ else s.raise .PLN_ROLE_COMMAND := by
  have ha : s.plan.state ≠ .armed := fun e => by rw [e] at hr; cases hr
  cases hl : s.leads <;> simp [doAbort, hn, ha, hr, hl]

/-! ## The waits of the lead (R42, R352, R374) -/

theorem doVerifyTimeout_due {a q : Nat} (hs : s.plan.started = some ⟨a, some q⟩) (ha : s.plan.state = .armed)
    (ht : a + 10000000 ≤ s.now) : doVerifyTimeout s = refuseStart true false s := by
  simp [doVerifyTimeout, hs, ha, ht]

/-- The wait of the stage is over. -/
def State.endWait (s : State) : State := { s with stage := { s.stage with wait := .none, holdFrom := none } }

section
variable (hm : s.motionOn = true) (hset : s.settled = true)
include hm hset

theorem doSettled_start (hw : s.stage.wait = .startSettle) (ha : s.plan.state = .armed) (hacc : s.plan.accepted = true) :
    doSettled s = s.endWait.queueCmd ⟨1, 0, 0⟩ := by
  simp [doSettled, hm, hw, hset, ha, hacc, State.endWait]

theorem doSettled_pass {p : Nat} (hw : s.stage.wait = .passSettle p) (hr : s.plan.state = .runOut)
    (hl : s.fd F.STAGE_TEMP_STATUS_LEVEL < 2) : doSettled s = s.endWait.queueCmd ⟨2, p, 0⟩ := by
  simp [doSettled, hm, hw, hset, hr, Nat.not_le.2 hl, State.endWait]

theorem doSettled_hold {p : Nat} (hw : s.stage.wait = .passSettle p) (hr : s.plan.state = .runOut)
    (hl : 2 ≤ s.fd F.STAGE_TEMP_STATUS_LEVEL) (hh : s.stage.holdFrom = none) :
    doSettled s = { s with stage := { s.stage with holdFrom := some s.stageT } } := by
  simp [doSettled, hm, hw, hset, hr, hl, hh]

theorem doSettled_done (hw : s.stage.wait = .doneSettle) (hr : s.plan.state = .runOut) (hd : s.doneAllowed = true) :
    doSettled s = s.endWait.queueCmd ⟨3, 0, 0⟩ := by
  simp [doSettled, hm, hw, hset, hr, hd, State.endWait]

end

/-! ## The statement -/

/-- Settles O9: START by the role and the commit rule, ABORT by the role, and each wait of the lead by its own end. -/
theorem startAbortAndWaits : Obligations.StartAbortAndWaits := by
  unfold Obligations.StartAbortAndWaits
  refine ⟨⟨?lead, ?committed, ?uncommitted, ?calibrating, ?member, ?abort, ?abortMember⟩,
    ?timeout, ?startSettled, ?passSettled, ?held, ?doneSettled⟩
  case lead =>
    intro s hruns hn hr ha hst hacc hcal
    refine ⟨_, (exec_start hruns hn).trans (congrArg _ (doStart_lead ⟨hn, ?_, ha, hst, hacc⟩ hcal hr)), rfl, rfl, rfl⟩
    exact State.leads_of_role hr (by decide)
  case committed =>
    intro s hruns hn hr ha hst hacc hcal hc
    have hopen : StartOpen s := ⟨hn, State.leads_of_role hr (by decide), ha, hst, hacc⟩
    have hstart : exec .start s = .next (acceptStart s.noteStart) := by
      rw [exec_start hruns hn, doStart_solo hopen hcal hr, if_pos hc]
    refine ⟨_, hstart, rfl, rfl, rfl, fun hp => ?_, rfl⟩
    exact moveToPass_goals (by simpa [State.noteStart, State.saw, State.mark] using hp) 0 .startSettle
  case uncommitted =>
    intro s hruns hn hr ha hst hacc hcal hc
    have hopen : StartOpen s := ⟨hn, State.leads_of_role hr (by decide), ha, hst, hacc⟩
    have hstart : exec .start s = .next (refuseStart false false s.noteStart) := by
      rw [exec_start hruns hn, doStart_solo hopen hcal hr, hc, if_neg Bool.false_ne_true]
    rw [hstart, refuseStart_noteStart hst]
    exact ⟨_, rfl, rfl, rfl⟩
  case calibrating =>
    intro s hruns hn hl ha hst hacc hcal
    rw [exec_start hruns hn, doStart_calibrating ⟨hn, hl, ha, hst, hacc⟩ hcal]
  case member =>
    intro s hruns hn hr
    rw [exec_start hruns hn, doStart_member hn (by simp [State.leads, hr])]
  case abort =>
    intro s hruns hn hl hr
    rw [exec_abort hruns hn, doAbort_running hn hr, if_pos hl]
  case abortMember =>
    intro s hruns hn hl hr
    rw [exec_abort hruns hn, doAbort_running hn hr, hl, if_neg Bool.false_ne_true]
  case timeout =>
    intro s a q hup hs ha ht
    rw [exec_verifyTimeout hup, doVerifyTimeout_due hs ha ht]
    rfl
  case startSettled =>
    intro s hup hm hw hset ha hacc
    rw [exec_axesSettled hup, doSettled_start hm hset hw ha hacc]
    rfl
  case passSettled =>
    intro s p hup hm hw hset hr hl
    rw [exec_axesSettled hup, doSettled_pass hm hset hw hr hl]
    rfl
  case held =>
    intro s p hup hm hw hset hr hl hh
    rw [exec_axesSettled hup, doSettled_hold hm hset hw hr hl hh]
  case doneSettled =>
    intro s hup hm hw hset hr hd
    rw [exec_axesSettled hup, doSettled_done hm hset hw hr hd]
    rfl

end Sys2Proof.Machine

/-! PROOFS. Rules for what lace intake, lace scopes and libraries share: scopes, register fields, what is sent, the gate of DRAM
operations, and bytes in DRAM (R9, R147, R426, R444, R478). -/

namespace Sys2Proof.Machine

variable {s : State}

/-! ## Scopes -/

@[simp] theorem State.scope_setScope_same (s : State) (i : Fin 2) (sc : LaceScope) : (s.setScope i sc).scope i = sc := by
  simp [State.scope, State.setScope]

theorem State.scope_setScope_ne (s : State) {i j : Fin 2} (sc : LaceScope) (h : j ≠ i) : (s.setScope i sc).scope j = s.scope j := by
  have hv : i.val ≠ j.val := fun e => h (Fin.ext e.symm)
  simp [State.scope, State.setScope, hv]

theorem State.scope_congr {t : State} (h : t.lace = s.lace) (i : Fin 2) : t.scope i = s.scope i := by
  simp only [State.scope, h]

/-! ## Register fields (R9) -/

theorem State.fd_lt (s : State) (x : RegField) (i : Nat) : s.fd x i < 2 ^ (x.hi + 1 - x.lo) := Nat.mod_lt _ (Nat.two_pow_pos _)

@[simp] theorem State.fd_raise (s : State) (c : FaultCode) (x : RegField) (i : Nat) : (s.raise c).fd x i = s.fd x i := by
  simp only [State.fd, State.raise_regs]

@[simp] theorem State.rg_raise (s : State) (c : FaultCode) (r : Reg) (i : Nat) : (s.raise c).rg r i = s.rg r i := by
  simp only [State.rg, State.raise_regs]

theorem State.fd_setFd_ne (s : State) (x y : RegField) (v i j : Nat) (h : y.reg ≠ x.reg) : (s.setFd x v i).fd y j = s.fd y j :=
  s.fd_setFd_reg x y v i j fun e => h e.1

theorem State.rg_setFd_ne (s : State) (x : RegField) (v i : Nat) (r : Reg) (j : Nat) (h : r ≠ x.reg) :
    (s.setFd x v i).rg r j = s.rg r j := by
  rw [State.rg_setFd, if_neg fun e => h e.1]

theorem State.rg_setRg_ne (s : State) (r q : Reg) (w : Word) (i j : Nat) (h : q ≠ r) : (s.setRg r w i).rg q j = s.rg q j := by
  rw [State.rg_setRg, if_neg fun e => h e.1]

/-- A field of 32 bits is its whole register. -/
theorem setFld_word (w : Word) (v : Nat) : setFld w 31 0 v = BitVec.ofNat 32 v := by
  apply BitVec.eq_of_getLsbD_eq
  intro i hi
  rw [getLsbD_setFld _ _ _ _ _ hi, if_pos ⟨Nat.zero_le i, hi⟩, BitVec.getLsbD_ofNat]
  simp [hi]

/-- A fault code fits 16 bits (R545). -/
theorem FaultCode.num_lt (c : FaultCode) : c.num < 2 ^ 16 := by
  cases c <;> decide

/-! ## What is sent (R478) -/

theorem State.emit_eq (s : State) (o : Out) : s.emit o = { s with out := (s.emit o).out } := by
  simp only [State.emit]; split <;> rfl

theorem State.irq_eq (s : State) (v : Nat) : s.irq v = { s with dma := (s.irq v).dma, out := (s.irq v).out } := by
  simp only [State.irq]
  split
  · rfl
  · rw [State.emit_eq]

theorem State.irq_dma_congr {t : State} (h : t.dma = s.dma) (v : Nat) : (t.irq v).dma = (s.irq v).dma := by
  simp only [State.irq, h]
  split
  · rfl
  · simp only [State.emit_dma, h]

/-! ## Gates -/

theorem State.whenDram_up (h : s.up) (hf : s.hbm.filling = false) (f : State → State) : s.whenDram f = f s := by
  simp [State.whenDram, State.whenReady_up h, hf]

/-! ## Bytes in DRAM -/

theorem leBytes_length (n v : Nat) : (leBytes n v).length = n := by
  induction n generalizing v with
  | zero => rfl
  | succ n ih => simp [leBytes, ih]

theorem leVal_leBytes (n v : Nat) : leVal (leBytes n v) = v % 256 ^ n := by
  induction n generalizing v with
  | zero => simp [leBytes, leVal, Nat.mod_one]
  | succ n ih =>
    rw [leBytes, leVal, ih, Nat.pow_succ', Nat.mod_mul, BitVec.toNat_ofNat]

theorem State.dramBytes_dramPut (s : State) (a : Nat) (l : List Byte) : (s.dramPut a l).dramBytes a l.length = l := by
  refine List.ext_getElem (by simp [State.dramBytes, Sparse.range]) fun k _ hk => ?_
  simp [State.dramBytes, Sparse.range, State.dramPut, Sparse.get_setRange, hk]

@[simp] theorem writeMark_dram (whole : Bool) (w : Nat) (s : State) : (writeMark whole w s).dram = s.dram := by
  have hplain : (writeMark.plain whole w s).dram = s.dram := by unfold writeMark.plain; split <;> rfl
  unfold writeMark
  split
  · split
    · rfl
    · exact hplain
  · exact hplain

theorem dramStore_dram (a : Nat) (l : List Byte) (s : State) : (dramStore a l s).dram = (s.dramPut a l).dram := by
  refine foldl_keeps State.dram _ ?_ _ (s.dramPut a l)
  exact fun s k => writeMark_dram _ _ s

/-- A write inside DRAM that no fill holds back is performed (R426, R444). -/
theorem dramWrite_performed {a : Nat} {l : List Byte} (hl : l ≠ []) (ha : a + l.length ≤ dramEnd) (hf : s.hbm.filling = false)
    (hacc : s.hbm.accessible = true) : dramWrite a l s = dramStore a l s := by
  simp [dramWrite, hl, Nat.not_lt.2 ha, hf, hacc]

end Sys2Proof.Machine

/-! PROOFS. Motif libraries: how REGISTER and UNREGISTER are judged, and how a registration ends (R135 to R141, R159, R172, R523). -/

namespace Sys2Proof.Machine

variable {s : State}

/-! ## The commands at the host port -/

theorem exec_register (h : s.runs) : exec .register s = .next (doLibRegister s) :=
  congrArg Host.Outcome.next (State.hostCmd_plain h doLibRegister rfl rfl)

theorem exec_unregister (h : s.runs) : exec .unregister s = .next (libUnregister s) :=
  congrArg Host.Outcome.next (State.hostCmd_plain h libUnregister rfl rfl)

theorem exec_registerDone_idle (h : s.up) (hr : s.lace.reg = none) : exec .registerDone s = .next s := by
  refine congrArg Host.Outcome.next ((State.whenReady_up h _).trans ?_)
  simp [hr]

theorem exec_registerDone {r : LibReg} (h : s.up) (hf : s.hbm.filling = false) (hr : s.lace.reg = some r) :
    exec .registerDone s = .next (checkUnclaim 9 (libRegisterDone s)) := by
  refine congrArg Host.Outcome.next ((State.whenDram_up h hf _).trans ?_)
  rw [hr, Option.isSome_some, if_pos rfl]

/-! ## REGISTER and UNREGISTER (R137, R139) -/

theorem libRegister_refused (h : s.libSel < 15)
    (hb : s.anyScopeOpen = true ∨ s.lace.reg.isSome = true ∨ s.lace.libs[s.libSel].valid = true) :
    libRegister s = s.raise .LAC_LIB_BUSY := by
  simp only [libRegister, h, dite_true]
  exact if_pos (by simpa only [Bool.or_eq_true, or_assoc] using hb)

/-- A refused REGISTER claims no check unit. -/
theorem doLibRegister_refused (h : s.libSel < 15)
    (hb : s.anyScopeOpen = true ∨ s.lace.reg.isSome = true ∨ s.lace.libs[s.libSel].valid = true) :
    doLibRegister s = s.raise .LAC_LIB_BUSY := by
  rw [doLibRegister, libRegister_refused h hb, State.raise_lace]
  exact if_neg (by cases s.lace.reg <;> simp)

theorem libUnregister_refused (h : s.libSel < 15) (hb : s.anyScopeOpen = true ∨ s.lace.reg.isSome = true) :
    libUnregister s = s.raise .LAC_LIB_BUSY := by
  simp only [libUnregister, h, dite_true]
  exact if_pos (by simpa only [Bool.or_eq_true] using hb)

/-- The registration that REGISTER takes from its registers when base and size are aligned (R137). -/
def State.regAsked (s : State) : LibReg :=
  ⟨s.libSel, s.pair F.LACE_LIB_BASE_LO_ADDR F.LACE_LIB_BASE_HI_ADDR, s.fd F.LACE_LIB_SIZE_SIZE, s.fd F.LACE_LIB_CRC_CRC⟩

theorem libRegister_starts (h : s.libSel < 15) (ho : s.anyScopeOpen = false) (hr : s.lace.reg = none)
    (hv : s.lace.libs[s.libSel].valid = false) (hb : s.fd F.LACE_LIB_BASE_LO_ADDR % 4096 = 0)
    (hs : s.fd F.LACE_LIB_SIZE_SIZE % 8 = 0) :
    libRegister s = { s with lace := { s.lace with reg := some s.regAsked } } := by
  have hbase : s.fd F.LACE_LIB_BASE_LO_ADDR / 4096 * 4096 = s.fd F.LACE_LIB_BASE_LO_ADDR :=
    Nat.div_mul_cancel (Nat.dvd_of_mod_eq_zero hb)
  have hsize : s.fd F.LACE_LIB_SIZE_SIZE / 8 * 8 = s.fd F.LACE_LIB_SIZE_SIZE := Nat.div_mul_cancel (Nat.dvd_of_mod_eq_zero hs)
  simp [libRegister, h, ho, hr, hv, hbase, hsize, State.regAsked, State.pair]

/-- An owner's claim of an idle unit, when nothing has happened in the cycle (R523). -/
theorem checkClaim_idle {u : Nat} (hc : s.cyc = []) (hu : s.check.run[u]? = some none) :
    checkClaim u s = { s with check := { s.check with claimed := s.check.claimed.setIfInBounds u true } } := by
  simp [checkClaim, checkStop, State.saw, hc, hu]

theorem doLibRegister_starts (h : s.libSel < 15) (hc : s.cyc = []) (ho : s.anyScopeOpen = false) (hr : s.lace.reg = none)
    (hv : s.lace.libs[s.libSel].valid = false) (hu : s.check.run[9]? = some none)
    (hb : s.fd F.LACE_LIB_BASE_LO_ADDR % 4096 = 0) (hs : s.fd F.LACE_LIB_SIZE_SIZE % 8 = 0) :
    doLibRegister s = { s with
      lace := { s.lace with reg := some s.regAsked }
      check := { s.check with claimed := s.check.claimed.setIfInBounds 9 true } } := by
  rw [doLibRegister, libRegister_starts h ho hr hv hb hs, hr]
  exact checkClaim_idle (s := { s with lace := { s.lace with reg := some s.regAsked } }) hc hu

/-- UNREGISTER empties the slot, and the motif cache loses the lines of the library that stood there (R139, R172). -/
theorem libUnregister_empties (h : s.libSel < 15) (ho : s.anyScopeOpen = false) (hr : s.lace.reg = none) :
    ∃ c, libUnregister s =
      { s with lace := { s.lace with libs := s.lace.libs.set s.libSel LibSlot.empty }, bob := { s.bob with cache := c } } := by
  simp only [libUnregister, h, dite_true, ho, hr, Option.isSome_none, Bool.or_self, Bool.false_eq_true, if_false]
  exact ⟨_, rfl⟩

/-! ## What a registration reads -/

theorem errLog_lace (a syn cls src : Nat) (s : State) : (errLog a syn cls src s).lace = s.lace := by
  simp only [errLog]
  split
  · rfl
  · simp only [State.setFlag_lace, State.setFd_lace]

theorem countCe_lace (a : Nat) (s : State) : (countCe a s).lace = s.lace := by
  simp only [countCe]
  split
  · exact State.raise_lace _ _
  · rfl

theorem readClass_lace (src a syn : Nat) (s : State) : (readClass src a syn s).2.lace = s.lace := by
  unfold readClass
  split
  · exact (State.raise_lace _ _).trans (errLog_lace _ _ _ _ _)
  split
  case h_1 => rfl
  case h_2 => exact countCe_lace _ _
  case h_3 => exact (State.raise_lace _ _).trans (errLog_lace _ _ _ _ _)
  case h_4 => exact (State.raise_lace _ _).trans (errLog_lace _ _ _ _ _)

theorem engineRead_lace (src a n : Nat) (s : State) : (engineRead src a n s).lace = s.lace := by
  unfold engineRead
  split
  · exact State.raise_lace _ _
  split
  · rfl
  split
  · exact foldl_keeps State.lace _ (fun s k => readClass_lace _ _ _ s) _ s
  · exact foldl_keeps State.lace _ (fun s e => readClass_lace _ _ _ s) _ s

/-- A read of clean codewords inside DRAM leaves no trace (R438). -/
theorem engineRead_clean {a n : Nat} (src : Nat) (hm : s.dramMark = []) (hp : s.anyPcFailed = false) (ha : a + n ≤ dramEnd) :
    engineRead src a n s = s := by
  simp [engineRead, Nat.not_lt.2 ha, hp, hm]

/-- Poison in a library's bytes is a mismatch of the check unit (R522). -/
theorem judgeLib_poisoned {slot base size want : Nat} (h : s.dramBad base size = true) :
    judgeLib s slot base size want = .inl (.LAC_LIB_CRC, 0xFFFFFFFF) := by
  simp [judgeLib, h]

/-- A library that passes lies inside DRAM. -/
theorem le_dramEnd_of_judgeLib {slot base size want : Nat} {m : List LaceMotif} (h : judgeLib s slot base size want = .inr m) :
    base + size ≤ dramEnd := by
  refine Nat.le_of_not_lt fun hgt => ?_
  have hbad : s.dramBad base size = true := by simp [State.dramBad, hgt]
  rw [judgeLib_poisoned hbad] at h
  cases h

/-! ## The end of a registration (R137, R138, R159) -/

/-- No registration runs any more. -/
def State.regEnded (s : State) : State := { s with lace := { s.lace with reg := none } }

/-- A registration has ended with motifs m: its slot is VALID (R137). -/
def State.regPassed (s : State) (r : LibReg) (m : List LaceMotif) : State :=
  { s with lace := { s.lace with
    reg := none
    libs := s.lace.libs.setIfInBounds r.slot ⟨true, r.base, r.size, s.dramLe (r.base + 8) 8, m⟩ } }

/-- The status of the last registration that failed: its fault, and the offset of Table 3-8. -/
def State.regFailure (s : State) (f : FaultCode × Nat) : State :=
  (s.setFd F.LACE_LIB_STATUS_FAIL_CODE f.1.num).setFd F.LACE_LIB_FAIL_OFFSET_OFFSET f.2

theorem State.regFailure_code (s : State) (f : FaultCode × Nat) : (s.regFailure f).fd F.LACE_LIB_STATUS_FAIL_CODE = f.1.num := by
  rw [State.regFailure, State.fd_setFd_ne _ _ _ _ _ _ (by decide), State.fd_setFd_same _ _ _ _ (by decide)]
  exact Nat.mod_eq_of_lt f.1.num_lt

theorem State.regFailure_offset (s : State) (f : FaultCode × Nat) :
    (s.regFailure f).fd F.LACE_LIB_FAIL_OFFSET_OFFSET = f.2 % 2 ^ 32 :=
  State.fd_setFd_same _ _ _ _ (by decide)

section
variable {r : LibReg} (hr : s.lace.reg = some r)
include hr

theorem libRegisterDone_fails {f : FaultCode × Nat} (hj : judgeLib s r.slot r.base r.size r.crc = .inl f) :
    libRegisterDone s = (((engineRead 0x51 r.base r.size s.regEnded).regFailure f).raise f.1).irq 66 := by
  simp only [libRegisterDone, hr, hj]
  rfl

theorem libRegisterDone_passes {m : List LaceMotif} (hm : s.dramMark = []) (hp : s.anyPcFailed = false)
    (hj : judgeLib s r.slot r.base r.size r.crc = .inr m) :
    libRegisterDone s = (s.regPassed r m).irq 66 := by
  have hread : engineRead 0x51 r.base r.size s.regEnded = s.regEnded :=
    engineRead_clean (s := s.regEnded) 0x51 hm hp (le_dramEnd_of_judgeLib hj)
  simp only [libRegisterDone, hr, hj]
  rw [show ({ s with lace := { s.lace with reg := none } } : State) = s.regEnded from rfl, hread]
  rfl

/-- A failed registration leaves the slots as they were, its fault and offset in the status, and raises its fault. -/
theorem registerDone_fails (h : s.up) (hf : s.hbm.filling = false) {f : FaultCode × Nat}
    (hj : judgeLib s r.slot r.base r.size r.crc = .inl f) :
    ∃ t, exec .registerDone s = .next t ∧ t.lace = s.regEnded.lace ∧ t.fd F.LACE_LIB_STATUS_FAIL_CODE = f.1.num ∧
      t.fd F.LACE_LIB_FAIL_OFFSET_OFFSET = f.2 % 2 ^ 32 ∧
      (engineRead 0x51 r.base r.size s.regEnded = s.regEnded → t.fault = (s.raise f.1).fault ∧
        t = { s with lace := t.lace, regs := t.regs, fault := t.fault, dma := t.dma, out := t.out, check := t.check }) := by
  refine ⟨_, exec_registerDone h hf hr, ?_⟩
  rw [libRegisterDone_fails hr hj, State.irq_eq, State.raise_eq]
  refine ⟨engineRead_lace _ _ _ _, State.regFailure_code _ f, State.regFailure_offset _ f, fun hread => ?_⟩
  rw [hread]
  exact ⟨State.raise_fault_congr (s := s) (t := s.regEnded.regFailure f) rfl f.1, rfl⟩

end

/-! ## The statements -/

/-- Settles O33: a scope or a registration that is in the way, or a VALID slot, is what `libRegister` and `libUnregister` ask for first. -/
theorem busyLibrariesRefuse : Obligations.BusyLibrariesRefuse := by
  unfold Obligations.BusyLibrariesRefuse
  refine ⟨?busy, ?valid⟩
  case busy =>
    rintro c s (rfl | rfl) hsel hruns hb
    · rw [exec_register hruns, doLibRegister_refused hsel (hb.imp_right Or.inl)]
    · rw [exec_unregister hruns, libUnregister_refused hsel hb]
  case valid =>
    intro s hsel hruns hv
    rw [exec_register hruns, doLibRegister_refused hsel (.inr (.inr hv))]

/-- Settles O32: REGISTER by `doLibRegister_starts`, the end of a registration by the verdict of `judgeLib`, UNREGISTER by
`libUnregister_empties`. -/
theorem librariesRegister : Obligations.LibrariesRegister := by
  unfold Obligations.LibrariesRegister
  refine ⟨?register, ?idle, ?passes, ?fails, ?poisoned, ?unregister⟩
  case register =>
    intro s hsel hruns hc ho hr hv hu hb hs
    rw [exec_register hruns, doLibRegister_starts hsel hc ho hr hv hu hb hs]
    rfl
  case idle => exact fun s hup hr => exec_registerDone_idle hup hr
  case passes =>
    intro s r m hup hf hm hp hr hslot hj
    refine ⟨_, exec_registerDone hup hf hr, ?_⟩
    rw [libRegisterDone_passes hr hm hp hj, State.irq_eq]
    exact ⟨rfl, by simp [checkUnclaim, State.regPassed, hslot], State.irq_dma_congr (s := s) (t := s.regPassed r m) rfl 66, rfl, rfl⟩
  case fails =>
    intro s r f hup hf hm hp ha hr hj
    obtain ⟨t, hexec, hlace, hcode, hoff, hclean⟩ := registerDone_fails hr hup hf hj
    obtain ⟨hfault, hframe⟩ := hclean (engineRead_clean (s := s.regEnded) 0x51 hm hp ha)
    exact ⟨t, hexec, hlace, hcode, hoff, hfault, hframe⟩
  case poisoned =>
    intro s r hup hf hr hbad
    obtain ⟨t, hexec, hlace, hcode, hoff, -⟩ := registerDone_fails hr hup hf (judgeLib_poisoned hbad)
    exact ⟨t, hexec, hlace, hcode, hoff⟩
  case unregister =>
    intro s hsel hruns ho hr
    obtain ⟨c, hc⟩ := libUnregister_empties hsel ho hr
    rw [exec_unregister hruns, hc]
    exact ⟨_, rfl, rfl, rfl⟩

end Sys2Proof.Machine

/-! PROOFS. Lace scopes: OPEN and CLOSE of the selected scope, and what they send on a UDP flow (R142, R144, R404, R405). -/

namespace Sys2Proof.Machine

variable {s : State}

/-! ## The commands at the host port -/

theorem exec_laceOpen (h : s.runs) : exec .laceOpen s = .next (doLaceOpen s) :=
  congrArg Host.Outcome.next (State.hostCmd_plain h doLaceOpen rfl rfl)

theorem exec_laceClose (h : s.runs) : exec .laceClose s = .next (doLaceClose s) :=
  congrArg Host.Outcome.next (State.hostCmd_plain h doLaceClose rfl rfl)

/-! ## Flows (R405) -/

theorem State.flow_setFlow {f : Nat} (h : f < 64) (s : State) (x : Flow) : (s.setFlow f x).flow f = x := by
  simp [State.flow, State.setFlow, h]

theorem sendTo_eq (e : Nat) (l : List Byte) (s : State) : sendTo e l s = { s with out := (sendTo e l s).out } := by
  simp only [sendTo]
  split
  · exact State.emit_eq s _
  · rfl

/-- Flow f after a CTRL of it: sequence and count stay, the limit sent and the instants are noted. -/
def State.flowReported (s : State) (f : Nat) (nak : Bool) : Flow :=
  { s.flow f with limitSent := s.flowLimit f, ctrlAt := s.now, nakAt := if nak then some s.now else (s.flow f).nakAt }

/-- A CTRL notes itself in its flow; besides the flows it changes only what has left the device and the notes of the cycle. -/
theorem sendCtrl_eq (f : Nat) (nak closed : Bool) (dst : Nat) (s : State) :
    ∃ o c, sendCtrl f nak closed dst s = { s.setFlow f (s.flowReported f nak) with out := o, cyc := c } := by
  simp only [sendCtrl]
  rw [sendTo_eq]
  split
  · split
    · exact ⟨_, _, rfl⟩
    · exact ⟨_, _, rfl⟩
  · exact ⟨_, _, rfl⟩

/-- In a cycle in which nothing has happened there is no CTRL to take back. -/
theorem unsendCtrl_of_cyc_nil (h : s.cyc = []) (f : Nat) : unsendCtrl f s = s := by
  rw [unsendCtrl, h]; rfl

theorem sendCtrl_flow {f : Nat} (hf : f < 64) (nak closed : Bool) (dst : Nat) (s : State) :
    (sendCtrl f nak closed dst s).flow f = s.flowReported f nak := by
  obtain ⟨o, c, hctrl⟩ := sendCtrl_eq f nak closed dst s
  rw [hctrl]
  exact State.flow_setFlow hf s _

/-- Flow f starts afresh, its order count cleared. -/
def State.freshFlow (s : State) (f : Nat) : State :=
  (s.setFlow f { Flow.fresh with opened := true }).setRg .NET_FLOW_ORDER_COUNT 0 f

/-- OPEN of a flow's scope clears its order count and sends a CTRL (R405). -/
theorem flowOpen_eq (f : Nat) (s : State) :
    ∃ n o c, flowOpen f s = { s.setRg .NET_FLOW_ORDER_COUNT 0 f with net := n, out := o, cyc := c } := by
  obtain ⟨o, c, hctrl⟩ := sendCtrl_eq f false false 0xFFFF (s.freshFlow f)
  exact ⟨_, o, c, hctrl⟩

theorem flowOpen_lace (f : Nat) (s : State) : (flowOpen f s).lace = s.lace := by
  obtain ⟨n, o, c, hflow⟩ := flowOpen_eq f s
  rw [hflow]; rfl

theorem flowOpen_regs (f : Nat) (s : State) : (flowOpen f s).regs = (s.setRg .NET_FLOW_ORDER_COUNT 0 f).regs := by
  obtain ⟨n, o, c, hflow⟩ := flowOpen_eq f s
  rw [hflow]

theorem flowOpen_order (f : Nat) (s : State) : (flowOpen f s).rg .NET_FLOW_ORDER_COUNT f = 0 := by
  rw [State.rg, flowOpen_regs]
  exact State.rg_setRg_same s _ _ _

theorem flowOpen_rg (f : Nat) (s : State) (r : Reg) (j : Nat) (hr : r ≠ .NET_FLOW_ORDER_COUNT) : (flowOpen f s).rg r j = s.rg r j := by
  rw [State.rg, flowOpen_regs]
  exact State.rg_setRg_ne s _ _ _ _ _ hr

/-- OPEN of a flow's scope starts the flow afresh (R404). -/
theorem flowOpen_starts {f : Nat} (hf : f < 64) (s : State) :
    ((flowOpen f s).flow f).next = 0 ∧ ((flowOpen f s).flow f).received = 0 := by
  have hreport : (flowOpen f s).flow f = (s.freshFlow f).flowReported f false := sendCtrl_flow hf false false 0xFFFF _
  have hfresh : (s.freshFlow f).flow f = { Flow.fresh with opened := true } := State.flow_setFlow hf s _
  rw [hreport]
  exact ⟨congrArg Flow.next hfresh, congrArg Flow.received hfresh⟩

/-! ## OPEN (R142) -/

/-- The scope that OPEN makes of the registers of scope i. -/
def State.scopeAsked (s : State) (i : Fin 2) : LaceScope :=
  { LaceScope.closed with
    isOpen := true, streamId := s.fd F.LACE_STREAM_ID_ID i.val, dma := s.fb F.LACE_SOURCE_DMA i.val,
    flow := s.fd F.LACE_SOURCE_FLOW i.val, bufBaseMb := s.fd F.LACE_BUF_BASE_BASE_MB i.val, bufSizeMb := s.fd F.LACE_BUF_SIZE_SIZE_MB i.val }

/-- Scope i is closed, and its registers name a buffer of 16 MiB to 8 GiB inside the partition (R142). -/
structure ScopeOpens (s : State) (i : Fin 2) : Prop where
  selected : i = s.scopeSel
  wasClosed : (s.scope i).isOpen = false
  large : 16 ≤ s.fd F.LACE_BUF_SIZE_SIZE_MB i.val
  small : s.fd F.LACE_BUF_SIZE_SIZE_MB i.val ≤ 8192
  inside : (s.fd F.LACE_BUF_BASE_BASE_MB i.val + s.fd F.LACE_BUF_SIZE_SIZE_MB i.val) * 2 ^ 20 ≤ s.partSize

/-- Scope i is opened, its reject code and drop count cleared. -/
def State.openedScope (s : State) (i : Fin 2) : State :=
  ((s.setScope i (s.scopeAsked i)).setRg .LACE_REJECT_CODE 0 i.val).setRg .LACE_DROP_COUNT 0 i.val

theorem State.openedScope_eq (s : State) (i : Fin 2) : ∃ l g, s.openedScope i = { s with lace := l, regs := g } := ⟨_, _, rfl⟩

theorem laceOpen_accepted {i : Fin 2} (h : ScopeOpens s i) : laceOpen s = s.openedScope i := by
  obtain ⟨rfl, hclosed, hlarge, hsmall, hin⟩ := h
  simp only [laceOpen]
  refine if_neg ?_
  rintro (hopen | hless | hmore | hout)
  · rw [hclosed] at hopen; cases hopen
  · omega
  · omega
  · omega

theorem State.rg_openedScope_drops (s : State) (i : Fin 2) : (s.openedScope i).rg .LACE_DROP_COUNT i.val = 0 :=
  State.rg_setRg_same _ _ _ _

theorem State.rg_openedScope_code (s : State) (i : Fin 2) : (s.openedScope i).rg .LACE_REJECT_CODE i.val = 0 :=
  (State.rg_setRg_ne _ _ _ _ _ _ (by decide)).trans (State.rg_setRg_same _ _ _ _)

/-- OPEN leaves every register but the reject code and the drop count. -/
theorem State.rg_openedScope_other (s : State) (i : Fin 2) (r : Reg) (j : Nat) (hc : r ≠ .LACE_REJECT_CODE)
    (hd : r ≠ .LACE_DROP_COUNT) : (s.openedScope i).rg r j = s.rg r j :=
  (State.rg_setRg_ne _ _ _ _ _ _ hd).trans (State.rg_setRg_ne _ _ _ _ _ _ hc)

theorem doLaceOpen_accepted {i : Fin 2} (hn : s.native = true) (hc : s.cyc = []) (h : ScopeOpens s i) :
    doLaceOpen s = if s.fb F.LACE_SOURCE_DMA i.val then s.openedScope i
      else flowOpen (s.fd F.LACE_SOURCE_FLOW i.val) (s.openedScope i) := by
  have hopened : (s.openedScope i).scope i = s.scopeAsked i := State.scope_setScope_same s i _
  have hunsend : ∀ f, unsendCtrl f (s.openedScope i) = s.openedScope i := unsendCtrl_of_cyc_nil hc
  simp only [doLaceOpen, hn, Bool.not_true, Bool.false_eq_true, if_false, ← h.selected, laceOpen_accepted h, h.wasClosed, hopened,
    hunsend, hc, List.reverse_nil, List.foldl_nil]
  cases hdma : s.fb F.LACE_SOURCE_DMA i.val <;> simp [State.scopeAsked, hdma]

theorem doLaceOpen_refused {i : Fin 2} (hi : i = s.scopeSel)
    (h : s.native = false ∨ (s.scope i).isOpen = true ∨ s.fd F.LACE_BUF_SIZE_SIZE_MB i.val < 16 ∨
      8192 < s.fd F.LACE_BUF_SIZE_SIZE_MB i.val ∨
      s.partSize < (s.fd F.LACE_BUF_BASE_BASE_MB i.val + s.fd F.LACE_BUF_SIZE_SIZE_MB i.val) * 2 ^ 20) :
    doLaceOpen s = s.raise .LAC_SCOPE_BUSY := by
  cases hn : s.native with
  | false => simp [doLaceOpen, hn]
  | true =>
    have hraise : laceOpen s = s.raise .LAC_SCOPE_BUSY := by
      subst hi
      exact if_pos (h.resolve_left (by simp [hn]))
    have hsame : (s.raise .LAC_SCOPE_BUSY).scope i = s.scope i := State.scope_congr (s.raise_lace _) i
    simp only [doLaceOpen, hn, ← hi, hraise, hsame]
    cases (s.scope i).isOpen <;> rfl

/-! ## CLOSE (R144) -/

theorem doLaceClose_refused (hb : (s.scope s.scopeSel).bound = true) (ha : s.plan.state.active = true) :
    doLaceClose s = s.raise .LAC_SCOPE_BUSY := by
  have hraise : laceClose s = s.raise .LAC_SCOPE_BUSY := if_pos (by simp [hb, ha])
  simp only [doLaceClose, hraise, State.scope_congr (s.raise_lace _)]
  cases (s.scope s.scopeSel).isOpen <;> rfl

/-- The selected scope is closed, and the motif cache has lost its buffer's lines (R172). -/
def State.closedScope (s : State) : State :=
  let sc := s.scope s.scopeSel
  (s.dropCache ((s.partBase + sc.bufBaseMb * 2 ^ 20) / 256) ((s.partBase + (sc.bufBaseMb + sc.bufSizeMb) * 2 ^ 20) / 256)).setScope
    s.scopeSel LaceScope.closed

theorem laceClose_accepted (h : (s.scope s.scopeSel).bound = false ∨ s.plan.state.active = false) : laceClose s = s.closedScope := by
  refine if_neg ?_
  rcases h with h | h <;> simp [h]

theorem State.scope_closedScope_same (s : State) : s.closedScope.scope s.scopeSel = LaceScope.closed := State.scope_setScope_same _ _ _

theorem State.scope_closedScope_ne (s : State) {j : Fin 2} (h : j ≠ s.scopeSel) : s.closedScope.scope j = s.scope j :=
  State.scope_setScope_ne _ _ h

/-- Besides the close itself a scope of a UDP flow sends a CTRL that says so (R405). -/
theorem doLaceClose_accepted (hc : s.cyc = []) (h : (s.scope s.scopeSel).bound = false ∨ s.plan.state.active = false) :
    ∃ n o c, doLaceClose s = { s.closedScope with net := n, out := o, cyc := c } ∧
      ((s.scope s.scopeSel).dma = true → n = s.net ∧ o = s.out) := by
  simp only [doLaceClose, laceClose_accepted h, hc, List.foldl_nil]
  split
  case isTrue hflow =>
    obtain ⟨o, c, hctrl⟩ := sendCtrl_eq (s.scope s.scopeSel).flow false true 0xFFFF s.closedScope
    refine ⟨_, o, c, hctrl, fun hdma => ?_⟩
    simp [hdma] at hflow
  case isFalse => exact ⟨s.net, s.out, s.cyc, rfl, fun _ => ⟨rfl, rfl⟩⟩

/-! ## The statement -/

/-- Settles O30: OPEN by `doLaceOpen_accepted` and what `flowOpen` adds for a flow, CLOSE by `doLaceClose_accepted`, and the two refusals. -/
theorem laceScopesOpenAndClose : Obligations.LaceScopesOpenAndClose := by
  unfold Obligations.LaceScopesOpenAndClose
  refine ⟨?opens, ?openRefused, ?closes, ?closeRefused⟩
  case opens =>
    intro s i hruns hc hn hi hclosed hlarge hsmall hin
    refine ⟨_, exec_laceOpen hruns, ?_⟩
    have hopen := doLaceOpen_accepted hn hc ⟨hi, hclosed, hlarge, hsmall, hin⟩
    rcases Bool.eq_false_or_eq_true (s.fb F.LACE_SOURCE_DMA i.val) with hdma | hdma
    · rw [hopen, if_pos hdma]
      exact ⟨State.scope_setScope_same s i _, fun j hj => State.scope_setScope_ne s _ hj,
        s.rg_openedScope_code i, s.rg_openedScope_drops i, s.rg_openedScope_other i _ _ (by decide) (by decide),
        s.rg_openedScope_other i _ _ (by decide) (by decide), fun h => absurd hdma (by simp [h]), rfl, fun _ => rfl⟩
    · obtain ⟨l, g, heq⟩ := s.openedScope_eq i
      obtain ⟨n, o, c, hframe⟩ := flowOpen_eq (s.fd F.LACE_SOURCE_FLOW i.val) (s.openedScope i)
      obtain ⟨hnext, hrecv⟩ := flowOpen_starts (s.fd_lt F.LACE_SOURCE_FLOW i.val) (s.openedScope i)
      have hscope := State.scope_congr (flowOpen_lace (s.fd F.LACE_SOURCE_FLOW i.val) (s.openedScope i))
      have hrg := flowOpen_rg (s.fd F.LACE_SOURCE_FLOW i.val) (s.openedScope i)
      rw [hopen, if_neg (by simp [hdma])]
      exact ⟨(hscope i).trans (State.scope_setScope_same s i _), fun j hj => (hscope j).trans (State.scope_setScope_ne s _ hj),
        (hrg _ _ (by decide)).trans (s.rg_openedScope_code i), (hrg _ _ (by decide)).trans (s.rg_openedScope_drops i),
        (hrg _ _ (by decide)).trans (s.rg_openedScope_other i _ _ (by decide) (by decide)),
        (hrg _ _ (by decide)).trans (s.rg_openedScope_other i _ _ (by decide) (by decide)),
        fun _ => ⟨hnext, hrecv, flowOpen_order _ _⟩, by rw [hframe, heq]; rfl, fun h => absurd h (by simp [hdma])⟩
  case openRefused =>
    intro s i hruns hi h
    rw [exec_laceOpen hruns, doLaceOpen_refused hi h]
  case closes =>
    intro s i hruns hc hi h
    subst hi
    obtain ⟨n, o, c, hclose, hdma⟩ := doLaceClose_accepted hc h
    refine ⟨_, exec_laceClose hruns, ?_⟩
    rw [hclose]
    exact ⟨s.scope_closedScope_same, fun j hj => s.scope_closedScope_ne hj, rfl, hdma⟩
  case closeRefused =>
    intro s hruns hb ha
    rw [exec_laceClose hruns, doLaceClose_refused hb ha]

end Sys2Proof.Machine

/-! PROOFS. Lace intake: what becomes of a stitch that arrives, and of the oldest whole chunk (R143, R146 to R151, R155). -/

namespace Sys2Proof.Machine

variable {s : State} {i : Fin 2} {w : Stitch}

/-! ## The events -/

theorem exec_chunkOpenArrives (h : s.up) (i : Fin 2) (w : Stitch) : exec (.chunkOpenArrives i w) s = .next (laceStitch i w s) :=
  congrArg Host.Outcome.next (State.whenReady_up h (laceStitch i w))

theorem exec_chunk (h : s.up) (i : Fin 2) (l : List Stitch) :
    exec (.chunk i l) s = .next (bindLate (chunkJudge i (laceIntake i l s))) :=
  congrArg Host.Outcome.next (State.whenReady_up h fun s => bindLate (chunkJudge i (laceIntake i l s)))

/-! ## A stitch in the scope's buffer (R147) -/

/-- A stitch stored changes DRAM and its controller alone. -/
theorem stitchStore_eq (a : Nat) (w : Stitch) (s : State) :
    ∃ d m h, stitchStore a w s = { s with dram := d, dramMark := m, hbm := h } := ⟨_, _, _, rfl⟩

theorem dramLe_stitchStore {a : Nat} (ha : a + 8 ≤ dramEnd) (hf : s.hbm.filling = false) (hacc : s.hbm.accessible = true)
    (w : Stitch) : (stitchStore a w s).dramLe a 8 = w.toNat := by
  have hlen : (leBytes 8 w.toNat).length = 8 := leBytes_length 8 _
  have hne : leBytes 8 w.toNat ≠ [] := fun h => by rw [h] at hlen; cases hlen
  have hdram : (stitchStore a w s).dram = (s.dramPut a (leBytes 8 w.toNat)).dram := by
    rw [← dramStore_dram, ← dramWrite_performed hne (by rwa [hlen]) hf hacc]
    rfl
  have hbytes := s.dramBytes_dramPut a (leBytes 8 w.toNat)
  rw [hlen] at hbytes
  calc (stitchStore a w s).dramLe a 8 = leVal ((s.dramPut a (leBytes 8 w.toNat)).dramBytes a 8) := by
        rw [State.dramLe, State.dramBytes, hdram]; rfl
    _ = w.toNat % 256 ^ 8 := by rw [hbytes, leVal_leBytes]
    _ = w.toNat := Nat.mod_eq_of_lt w.isLt

theorem LaceScope.free_le (sc : LaceScope) : sc.free ≤ sc.bufSizeMb * 2 ^ 20 := by
  unfold LaceScope.free
  exact Nat.sub_le _ _

/-- The place of a chunk lies inside its scope's buffer. -/
theorem chunkPlace_inside (s : State) {sc : LaceScope} {n : Nat} (h : 8 * n ≤ sc.bufSizeMb * 2 ^ 20) :
    s.partBase + sc.bufBaseMb * 2 ^ 20 ≤ (s.chunkPlace sc n).1 ∧
      (s.chunkPlace sc n).1 + 8 * n ≤ s.partBase + (sc.bufBaseMb + sc.bufSizeMb) * 2 ^ 20 := by
  have hlt : (s.free 30).1 % (sc.bufSizeMb * 2 ^ 17 - n + 1) < sc.bufSizeMb * 2 ^ 17 - n + 1 := Nat.mod_lt _ (Nat.succ_pos _)
  simp only [State.chunkPlace]
  omega

/-! ## A rejection (R148) -/

/-- A field written after what changed registers alone. -/
theorem State.setFd_regs_only {t : State} (h : t = { s with regs := t.regs }) (x : RegField) (v i : Nat) :
    t.setFd x v i = { s with regs := (t.setFd x v i).regs } :=
  congrArg (fun u : State => { u with regs := t.regs.setFld x i v }) h

/-- The reject registers of scope i hold a rejection (R148). -/
def State.rejectNoted (s : State) (i : Fin 2) (c : FaultCode) (off : Nat) : State :=
  (((s.setFd F.LACE_REJECT_SEQ_SEQ (s.scope i).nextSeq i.val).setFd F.LACE_REJECT_CODE_FAULT c.num i.val).bump
    F.LACE_REJECT_CODE_COUNT 1 i.val).setFd F.LACE_REJECT_STITCH_OFFSET off i.val

theorem laceReject_eq_raise (i : Fin 2) (c : FaultCode) (off : Nat) (s : State) :
    laceReject i c off s = (s.rejectNoted i c off).raise c := rfl

theorem State.rejectNoted_eq (s : State) (i : Fin 2) (c : FaultCode) (off : Nat) :
    s.rejectNoted i c off = { s with regs := (s.rejectNoted i c off).regs } :=
  State.setFd_regs_only (State.setFd_regs_only (State.setFd_regs_only (State.setFd_regs_only (t := s) rfl _ _ _) _ _ _) _ _ _) _ _ _

/-- A rejection writes registers and raises its fault. -/
theorem laceReject_eq (i : Fin 2) (c : FaultCode) (off : Nat) (s : State) :
    ∃ g, laceReject i c off s = { s with regs := g, fault := (s.raise c).fault } := by
  have hnoted := s.rejectNoted_eq i c off
  have hfault : ((s.rejectNoted i c off).raise c).fault = (s.raise c).fault :=
    State.raise_fault_congr (by simp only [State.rejectNoted, State.setFd_fault, State.bump_fault]) c
  refine ⟨(s.rejectNoted i c off).regs, ?_⟩
  rw [laceReject_eq_raise, State.raise_eq, hfault]
  exact congrArg (fun u : State => { u with fault := (s.raise c).fault }) hnoted

@[simp] theorem laceReject_lace (i : Fin 2) (c : FaultCode) (off : Nat) (s : State) : (laceReject i c off s).lace = s.lace := by
  obtain ⟨g, h⟩ := laceReject_eq i c off s
  rw [h]

@[simp] theorem laceReject_plan (i : Fin 2) (c : FaultCode) (off : Nat) (s : State) : (laceReject i c off s).plan = s.plan := by
  obtain ⟨g, h⟩ := laceReject_eq i c off s
  rw [h]

@[simp] theorem laceReject_fault (i : Fin 2) (c : FaultCode) (off : Nat) (s : State) : (laceReject i c off s).fault = (s.raise c).fault := by
  obtain ⟨g, h⟩ := laceReject_eq i c off s
  rw [h]

section
variable (i : Fin 2) (c : FaultCode) (off : Nat) (s : State)

theorem fd_laceReject_fault : (laceReject i c off s).fd F.LACE_REJECT_CODE_FAULT i.val = c.num := by
  simp only [laceReject_eq_raise, State.rejectNoted, State.fd_raise, State.bump]
  rw [State.fd_setFd_ne _ _ _ _ _ _ (by decide), State.fd_setFd_other _ _ _ _ _ (by decide) (by rfl) (by decide),
    State.fd_setFd_same _ _ _ _ (by decide)]
  exact Nat.mod_eq_of_lt c.num_lt

theorem fd_laceReject_count : (laceReject i c off s).fd F.LACE_REJECT_CODE_COUNT i.val =
    satInc 16 (s.fd F.LACE_REJECT_CODE_COUNT i.val) 1 := by
  have hsat : ∀ n, satInc 16 n 1 % 2 ^ 16 = satInc 16 n 1 := fun n => Nat.mod_eq_of_lt (by simp only [satInc]; omega)
  simp only [laceReject_eq_raise, State.rejectNoted, State.fd_raise, State.bump]
  rw [State.fd_setFd_ne _ _ _ _ _ _ (by decide), State.fd_setFd_same _ _ _ _ (by decide),
    State.fd_setFd_other _ _ _ _ _ (by decide) (by rfl) (by decide), State.fd_setFd_ne _ _ _ _ _ _ (by decide)]
  exact hsat _

theorem fd_laceReject_offset : (laceReject i c off s).fd F.LACE_REJECT_STITCH_OFFSET i.val = off % 2 ^ 17 := by
  rw [laceReject_eq_raise, State.fd_raise]
  exact State.fd_setFd_same _ _ _ _ (by decide)

theorem rg_laceReject_seq : (laceReject i c off s).rg .LACE_REJECT_SEQ i.val = BitVec.ofNat 32 (s.scope i).nextSeq := by
  simp only [laceReject_eq_raise, State.rejectNoted, State.rg_raise, State.bump]
  rw [State.rg_setFd_ne _ _ _ _ _ _ (by decide), State.rg_setFd_ne _ _ _ _ _ _ (by decide),
    State.rg_setFd_ne _ _ _ _ _ _ (by decide), State.rg_setFd, if_pos ⟨rfl, rfl⟩]
  exact setFld_word _ _

end

/-! ## A stitch arrives (R146, R147, R151) -/

theorem laceStitch_closed (h : (s.scope i).isOpen = false) :
    laceStitch i w s = (s.bump F.LACE_DROP_COUNT_COUNT 1 i.val).raise .LAC_NO_SCOPE := by
  simp [laceStitch, h]

section
variable (ho : (s.scope i).isOpen = true)
include ho

/-- A stitch of a chunk rejected at its head passes unused (R151). -/
theorem laceStitch_discarded (h : 0 < (s.scope i).intake.discard) :
    laceStitch i w s =
      s.setScope i { s.scope i with intake := { (s.scope i).intake with discard := (s.scope i).intake.discard - 1 } } := by
  simp [laceStitch, ho, h]

/-- The head of a chunk of a UDP flow that does not fit the free buffer (R151). -/
theorem laceStitch_headRejected (hdma : (s.scope i).dma = false) (hin : (s.scope i).intake = ⟨0, [], 0, 0⟩)
    (hop : bits w.toNat 5 0 = 1) (hfit : (s.scope i).free < 8 * bits w.toNat 23 6) :
    laceStitch i w s = (laceReject i .LAC_BUFFER 0 s).setScope i { s.scope i with intake := ⟨0, [], 0, bits w.toNat 23 6 - 1⟩ } := by
  simp [laceStitch, ho, hin, hop, hdma, hfit]

/-- Where the chunk whose head w arrives for scope i is to lie. -/
def State.headPlace (s : State) (i : Fin 2) (w : Stitch) : Nat := (s.chunkPlace (s.scope i) (bits w.toNat 23 6)).1

/-- The head of a chunk that fits is stored at the chunk's place (R147). -/
theorem laceStitch_head (hin : (s.scope i).intake = ⟨0, [], 0, 0⟩) (hop : bits w.toNat 5 0 = 1) (hlen : 1 < bits w.toNat 23 6)
    (hfit : 8 * bits w.toNat 23 6 ≤ (s.scope i).free) :
    laceStitch i w s = (stitchStore (s.headPlace i w) w { s with freeCount := s.freeCount + 1 }).setScope i
      { s.scope i with intake := ⟨s.headPlace i w, [w], bits w.toNat 23 6, 0⟩ } := by
  have hmax : max 1 (bits w.toNat 23 6) = bits w.toNat 23 6 := Nat.max_eq_right (Nat.le_of_lt hlen)
  have hfits : (!(s.scope i).dma && decide ((s.scope i).free < 8 * bits w.toNat 23 6)) = false := by
    rw [decide_eq_false (Nat.not_lt.2 hfit), Bool.and_false]
  simp only [laceStitch, ho, hin, hop, hmax, hfits, Nat.not_le.2 hlen, gt_iff_lt, Nat.lt_irrefl, Bool.not_true, Bool.false_eq_true,
    if_true, if_false]
  rfl

section
variable (hd : (s.scope i).intake.discard = 0) (hne : (s.scope i).intake.stitches ≠ [])
include hd hne

/-- A further stitch of a chunk is stored behind those before it (R147). -/
theorem laceStitch_further (h : (s.scope i).intake.stitches.length + 1 < (s.scope i).intake.length) :
    laceStitch i w s = (stitchStore ((s.scope i).intake.at_ + 8 * (s.scope i).intake.stitches.length) w s).setScope i
      { s.scope i with intake := { (s.scope i).intake with stitches := (s.scope i).intake.stitches ++ [w] } } := by
  simp [laceStitch, ho, hd, hne, Nat.not_le.2 h]

/-- The last stitch of a chunk completes it (R147). -/
theorem laceStitch_last (h : (s.scope i).intake.stitches.length + 1 = (s.scope i).intake.length) :
    laceStitch i w s = (stitchStore ((s.scope i).intake.at_ + 8 * (s.scope i).intake.stitches.length) w s).setScope i
      { s.scope i with
        intake := ⟨0, [], 0, 0⟩
        whole := (s.scope i).whole ++ [((s.scope i).intake.at_, (s.scope i).intake.stitches ++ [w])] } := by
  simp [laceStitch, ho, hd, hne, h]

end

end

/-! ## Binding that comes late (R143) -/

/-- No scope is to be bound late: no stripe is in flight, or it has its scope. -/
def State.BindingSettled (s : State) : Prop :=
  s.plan.state.active = false ∨ (s.scope 0).bound = true ∨ (s.scope 1).bound = true

theorem bindLate_settled (h : s.BindingSettled) : bindLate s = s := by
  refine if_neg ?_
  rcases h with h | h | h <;> simp [h]

theorem State.BindingSettled.congr {t : State} (h : s.BindingSettled) (hp : t.plan = s.plan)
    (hb : ∀ j, (t.scope j).bound = (s.scope j).bound) : t.BindingSettled := by
  rw [State.BindingSettled, hp, hb, hb]; exact h

/-- Replacing a scope by one as bound as it was keeps every scope as bound as it was. -/
theorem State.scope_setScope_bound (s : State) {i : Fin 2} {sc : LaceScope} (h : sc.bound = (s.scope i).bound) (j : Fin 2) :
    ((s.setScope i sc).scope j).bound = (s.scope j).bound := by
  by_cases hj : j = i
  · subst hj; rw [State.scope_setScope_same, h]
  · rw [State.scope_setScope_ne _ _ hj]

/-- A stitch binds no scope and leaves the planner as it is. -/
theorem laceStitch_settled (h : s.BindingSettled) (i : Fin 2) (w : Stitch) : (laceStitch i w s).BindingSettled := by
  have hkeep : ∀ (t : State) (sc : LaceScope), t.plan = s.plan → t.lace = s.lace → sc.bound = (s.scope i).bound →
      (t.setScope i sc).BindingSettled := fun t sc hp hl hb =>
    h.congr hp fun j => (t.scope_setScope_bound (hb.trans (congrArg LaceScope.bound (State.scope_congr hl i).symm)) j).trans
      (congrArg LaceScope.bound (State.scope_congr hl j))
  simp only [laceStitch]
  generalize (if bits w.toNat 5 0 = 1 then bits w.toNat 23 6 else 0) = len
  split
  · exact h.congr (State.raise_plan _ _) fun j => congrArg LaceScope.bound (State.scope_congr (State.raise_lace _ _) j)
  split
  · exact hkeep _ _ rfl rfl rfl
  split
  · split
    · exact hkeep _ _ (laceReject_plan _ _ _ _) (laceReject_lace _ _ _ _) rfl
    split
    · exact hkeep _ _ rfl rfl rfl
    · exact hkeep _ _ rfl rfl rfl
  split
  · exact hkeep _ _ rfl rfl rfl
  · exact hkeep _ _ rfl rfl rfl

theorem laceIntake_settled (h : s.BindingSettled) (i : Fin 2) (l : List Stitch) : (laceIntake i l s).BindingSettled := by
  induction l generalizing s with
  | nil => exact h
  | cons w l ih => exact ih (laceStitch_settled h i w)

/-! ## A whole chunk is judged (R147, R148, R155) -/

/-- The oldest whole chunk of scope i has been taken to be judged; the others remain. -/
def State.chunkTaken (s : State) (i : Fin 2) (rest : List (Nat × List Stitch)) : State :=
  s.setScope i { s.scope i with whole := rest }

@[simp] theorem State.scope_chunkTaken (s : State) (i : Fin 2) (rest : List (Nat × List Stitch)) :
    (s.chunkTaken i rest).scope i = { s.scope i with whole := rest } := State.scope_setScope_same _ _ _

theorem chunkTaken_settled (h : s.BindingSettled) (i : Fin 2) (rest : List (Nat × List Stitch)) : (s.chunkTaken i rest).BindingSettled :=
  h.congr rfl (s.scope_setScope_bound rfl)

theorem chunkJudge_none (h : (s.scope i).whole = []) : chunkJudge i s = s := by
  simp only [chunkJudge, h]

section
variable {c : Nat × List Stitch} {rest : List (Nat × List Stitch)} (hw : (s.scope i).whole = c :: rest)
include hw

theorem chunkJudge_accepted {recs : List LaceRec}
    (hj : judgeChunk (s.chunkTaken i rest) i (c.2.map (·.toNat)) = .inr recs) :
    chunkJudge i s = acceptChunk i c.1 (c.2.map (·.toNat)) recs (s.chunkTaken i rest) := by
  rw [State.chunkTaken] at hj
  simp only [chunkJudge, hw, hj]
  rfl

theorem chunkJudge_rejected {f : Nat × FaultCode}
    (hj : judgeChunk (s.chunkTaken i rest) i (c.2.map (·.toNat)) = .inl f) :
    chunkJudge i s = laceReject i f.2 f.1 (s.chunkTaken i rest) := by
  rw [State.chunkTaken] at hj
  simp only [chunkJudge, hw, hj]
  rfl

end

/-- The chunk that an accepted one is in its scope (R147). -/
def LaceScope.accepted (sc : LaceScope) (at_ n : Nat) (recs : List LaceRec) : LaceChunk :=
  let wf := (recs.headD ⟨0, 0, 0, []⟩).b 1
  ⟨at_, sc.nextSeq, bits wf 26 0, bits wf 38 27, bits wf 50 39, n, (recs.drop 1).filter (fun r => r.op != 0), false, false⟩

/-- An accepted chunk joins its scope; a header chunk makes no line ready (R147, R155). -/
theorem acceptChunk_scope (i : Fin 2) (at_ : Nat) (l : List Nat) (recs : List LaceRec) (s : State) :
    ∃ ready closed, (acceptChunk i at_ l recs s).scope i = { s.scope i with
        chunks := (s.scope i).chunks ++ [(s.scope i).accepted at_ l.length recs], nextSeq := (s.scope i).nextSeq + 1, headerOk := true,
        linesReady := ready, stripeClosed := closed } ∧ ((s.scope i).nextSeq = 0 → ready = 0) :=
  ⟨_, _, State.scope_setScope_same s i _, fun h => if_pos h⟩

theorem acceptChunk_eq (i : Fin 2) (at_ : Nat) (l : List Nat) (recs : List LaceRec) (s : State) :
    ∃ sc e, acceptChunk i at_ l recs s = (s.setScope i sc).mark e ∧ sc.bound = (s.scope i).bound := ⟨_, _, rfl, rfl⟩

theorem acceptChunk_settled (h : s.BindingSettled) (i : Fin 2) (at_ : Nat) (l : List Nat) (recs : List LaceRec) :
    (acceptChunk i at_ l recs s).BindingSettled := by
  obtain ⟨sc, e, heq, hb⟩ := acceptChunk_eq i at_ l recs s
  rw [heq]
  exact h.congr rfl (s.scope_setScope_bound hb)

theorem laceReject_settled (h : s.BindingSettled) (i : Fin 2) (c : FaultCode) (off : Nat) : (laceReject i c off s).BindingSettled :=
  h.congr (laceReject_plan i c off s) fun j => congrArg LaceScope.bound (State.scope_congr (laceReject_lace i c off s) j)

/-! ## The statement -/

/-- Settles O31: each stitch by the case of `laceStitch` it meets, a whole chunk by the verdict of `judgeChunk`. -/
theorem chunksAreAcceptedOrRejected : Obligations.ChunksAreAcceptedOrRejected := by
  unfold Obligations.ChunksAreAcceptedOrRejected
  refine ⟨?closed, ?head, ?further, ?last, ?headRejected, ?discarded, ?none, ?accepted, ?rejected⟩
  case closed =>
    intro s i w hup ho
    rw [exec_chunkOpenArrives hup, laceStitch_closed ho]
  case head =>
    intro s i w hup hf hacc ho hin hop hlen hfit hbuf
    have hroom : 8 * bits w.toNat 23 6 ≤ (s.scope i).bufSizeMb * 2 ^ 20 := Nat.le_trans hfit (s.scope i).free_le
    obtain ⟨hlow, hhigh⟩ : _ ≤ s.headPlace i w ∧ s.headPlace i w + _ ≤ _ := chunkPlace_inside s hroom
    have hstored := dramLe_stitchStore (s := { s with freeCount := s.freeCount + 1 }) (a := s.headPlace i w) (by omega) hf hacc w
    obtain ⟨d, m, h, hstore⟩ := stitchStore_eq (s.headPlace i w) w { s with freeCount := s.freeCount + 1 }
    rw [hstore] at hstored
    refine ⟨_, exec_chunkOpenArrives hup i w, ?_⟩
    rw [laceStitch_head ho hin hop hlen hfit, hstore, State.scope_setScope_same]
    exact ⟨rfl, fun j hj => State.scope_setScope_ne _ _ hj, hlow, hhigh, hstored, rfl⟩
  case further =>
    intro s i w hup hf hacc ho hd hne hlen hbuf
    have hstored := dramLe_stitchStore (s := s) (a := (s.scope i).intake.at_ + 8 * (s.scope i).intake.stitches.length)
      (by omega) hf hacc w
    obtain ⟨d, m, h, hstore⟩ := stitchStore_eq ((s.scope i).intake.at_ + 8 * (s.scope i).intake.stitches.length) w s
    rw [hstore] at hstored
    refine ⟨_, exec_chunkOpenArrives hup i w, ?_⟩
    rw [laceStitch_further ho hd hne hlen, hstore]
    exact ⟨State.scope_setScope_same _ _ _, hstored, rfl⟩
  case last =>
    intro s i w hup hf hacc ho hd hne hlen hbuf
    obtain ⟨d, m, h, hstore⟩ := stitchStore_eq ((s.scope i).intake.at_ + 8 * (s.scope i).intake.stitches.length) w s
    refine ⟨_, exec_chunkOpenArrives hup i w, ?_⟩
    rw [laceStitch_last ho hd hne hlen, hstore]
    exact ⟨State.scope_setScope_same _ _ _, rfl⟩
  case headRejected =>
    intro s i w hup ho hdma hin hop hfit
    obtain ⟨g, hframe⟩ := laceReject_eq i .LAC_BUFFER 0 s
    refine ⟨_, exec_chunkOpenArrives hup i w, ?_⟩
    rw [laceStitch_headRejected ho hdma hin hop hfit]
    exact ⟨State.scope_setScope_same _ _ _,
      fun j hj => (State.scope_setScope_ne _ _ hj).trans (State.scope_congr (laceReject_lace _ _ _ _) j),
      laceReject_fault _ _ _ _, fd_laceReject_fault _ _ _ _, by rw [hframe]; rfl⟩
  case discarded =>
    intro s i w hup ho hd
    rw [exec_chunkOpenArrives hup, laceStitch_discarded ho hd]
  case none =>
    intro s i hup ha hw
    rw [exec_chunk hup, laceIntake, List.foldl_nil, chunkJudge_none hw, bindLate_settled (.inl ha)]
  case accepted =>
    intro s s1 i l c rest recs hup hset hs1 hw hj
    have hset1 : s1.BindingSettled := hs1 ▸ laceIntake_settled hset i l
    obtain ⟨ready, closed, hscope, hready⟩ := acceptChunk_scope i c.1 (c.2.map (·.toNat)) recs (s1.chunkTaken i rest)
    obtain ⟨sc, e, hframe, -⟩ := acceptChunk_eq i c.1 (c.2.map (·.toNat)) recs (s1.chunkTaken i rest)
    rw [State.scope_chunkTaken] at hscope hready
    refine ⟨_, exec_chunk hup i l, ?_⟩
    rw [← hs1, chunkJudge_accepted hw hj, bindLate_settled (acceptChunk_settled (chunkTaken_settled hset1 i rest) _ _ _ _), hscope]
    exact ⟨rfl, rfl, rfl, by rw [List.length_map]; rfl, hready, by rw [hframe]; rfl⟩
  case rejected =>
    intro s s1 i l c rest f hup hset hs1 hw hj
    have hset1 : s1.BindingSettled := hs1 ▸ laceIntake_settled hset i l
    obtain ⟨g, hframe⟩ := laceReject_eq i f.2 f.1 (s1.chunkTaken i rest)
    refine ⟨_, exec_chunk hup i l, ?_⟩
    rw [← hs1, chunkJudge_rejected hw hj, bindLate_settled (laceReject_settled (chunkTaken_settled hset1 i rest) _ _ _)]
    refine ⟨?_, fd_laceReject_fault _ _ _ _, ?_, fd_laceReject_offset _ _ _ _, fd_laceReject_count _ _ _ _, ?_, by rw [hframe]; rfl⟩
    · rw [State.scope_congr (laceReject_lace _ _ _ _), State.scope_chunkTaken]
    · rw [rg_laceReject_seq, State.scope_chunkTaken]
    · rw [laceReject_fault]
      exact State.raise_fault_congr (s := s1) (t := s1.chunkTaken i rest) rfl f.2

end Sys2Proof.Machine

/-! PROOFS. Bobbins whose BOB_DISABLE bit is set while they run (R182, Tables 4-4 and 4-5): such a bobbin leaves service when its job
ends, and in ARMED to RUN_OUT the reserve is then formed again (R182, R258). -/

namespace Sys2Proof.Machine

/-! ## The events of a bobbin's job -/

theorem exec_tileComplete {s : State} (h : s.up) (hf : s.hbm.filling = false) (b : Fin 32) (wrong : List (Nat × Nat)) (refetch : Bool) :
    exec (.tileComplete b wrong refetch) s = .next (serviceWrap (tileComplete b.val wrong refetch) s) :=
  congrArg Host.Outcome.next (State.whenDram_up h hf _)

theorem exec_bobWatchdog {s : State} (h : s.up) (b : Fin 32) :
    exec (.bobWatchdog b) s = .next (serviceWrap (bobWatchdog b.val) s) :=
  congrArg Host.Outcome.next (State.whenReady_up h _)

/-! ## The reserve formed again (R182, R258) -/

section
variable {s : State} {b : Nat}

theorem assignLive_nil (h : s.bob.live = []) : assignLive s = s := by
  simp only [assignLive, h, List.foldl_nil]
  rw [← h]

/-- A bobbin out of service is not chosen for the reserve. -/
theorem not_mem_reserveOrder (h : s.inService b = false) : b ∉ s.reserveOrder := by
  intro hb
  simp only [State.reserveOrder, List.mem_flatten, List.mem_map] at hb
  obtain ⟨_, ⟨r, -, rfl⟩, hb⟩ := hb
  obtain ⟨p, -, hp⟩ := List.mem_filterMap.1 hb
  have hserves : s.inService b = true := (List.mem_filter.1 (List.mem_of_getElem? hp)).2
  rw [h] at hserves
  exact Bool.noConfusion hserves

theorem formReserve_reserved (h : s.inService b = false) : ((formReserve s).unit b).reserved = false := by
  have hout : (s.reserveOrder.take s.bob.reserve).contains b = false :=
    Bool.eq_false_iff.2 fun hb => not_mem_reserveOrder h (List.mem_of_mem_take (List.contains_iff_mem.1 hb))
  simp only [State.unit, formReserve, State.raiseIf_bob, Vector.getElem?_mapFinIdx, Option.pbind_eq_bind, hout]
  cases s.bob.units[b]? <;> rfl

/-- Operation f changes which bobbins serve a stripe in ARMED to RUN_OUT and leaves no live job waiting; the reserve that is formed
again has the capacity of the one before. -/
structure ReformsReserve (f : State → State) (s : State) : Prop where
  service : (f s).serviceMask ≠ s.serviceMask
  active : (f s).plan.state.active = true
  native : (f s).native = true
  noLive : (f s).bob.live = []
  capacity : (formReserve (f s)).capK = s.capK ∧ (formReserve (f s)).capN = s.capN ∧ (formReserve (f s)).capF = s.capF

theorem ReformsReserve.serviceWrap_eq {f : State → State} (h : ReformsReserve f s) : serviceWrap f s = formReserve (f s) := by
  have hlive : (formReserve (f s)).bob.live = [] := (congrArg BobSt.live (State.raiseIf_bob _ _ _)).trans h.noLive
  simp only [serviceWrap, h.service, h.active, h.native, assignLive_nil hlive, h.capacity, and_self, if_true, Bool.true_eq_false,
    or_self, if_false]

end

/-! ## A reserved bobbin that is disabled in its run -/

/-- A native stripe of 32 lines in ARMED with the default reserve of BOBBIN[7], [15], [23] and [31] (R182). BOBBIN[7] has run tile 0 for
a second, longer than any LIMIT_US, and its BOB_DISABLE bit is set. -/
def disabledInRun : State :=
  { State.reset with
    now := 10 ^ 12
    regs := ((State.reset.setFd F.PLAN_STRIPE_LINES_LINES 32).setFd F.BOB_DISABLE_MASK (2 ^ 7)).regs
    glob := { GlobalSt.reset with ready := true }
    str := { Structure.safeStructure with safe := false, pipes := [⟨15, 15, 0, 0⟩], parts := [(0, 2 ^ 34)] }
    hbm := { HbmSt.reset with filling := false }
    clock := { ClockSt.reset with islands := Vector.replicate 24 ⟨false, false, false, false, 0⟩ }
    lace := { LaceSt.reset with scopes := LaceSt.reset.scopes.set 0 { LaceScope.closed with bound := true, linesReady := 32 } }
    plan := { PlanSt.reset with state := .armed }
    bob := { BobSt.reset with
      reserve := 4
      queues := BobSt.reset.queues.set 0 { TileQueue.empty with issued := 1 }
      units := BobSt.reset.units.mapFinIdx fun b u _ =>
        { u with reserved := b % 8 == 7, job := if b = 7 then .tile 0 0 else .idle } } }

theorem disabledInRun_up : disabledInRun.up := by decide +kernel

/-- What both ends of the job ask of the bobbin and its pipeline. -/
theorem disabledInRun_job : (disabledInRun.unit 7).job = .tile 0 0 ∧ (disabledInRun.unit 7).suspended = none ∧
    (disabledInRun.unit 7).reserved = true ∧ disabledInRun.bob.live = [] ∧ disabledInRun.pipeOf 7 < 4 := by decide +kernel

/-- Nothing stands in the way of the completion: the tile reads nothing, since the scope holds no chunk, and runs once. -/
theorem disabledInRun_reads : disabledInRun.native = true ∧ disabledInRun.hbm.accessible = true ∧ disabledInRun.dramMark = [] ∧
    disabledInRun.anyPcFailed = false ∧ (disabledInRun.tiles (disabledInRun.pipeOf 7)).dual = false ∧
    disabledInRun.useScope = some { LaceScope.closed with bound := true, linesReady := 32 } ∧
    disabledInRun.jobReads { LaceScope.closed with bound := true, linesReady := 32 } (disabledInRun.tileFirst 0)
      (disabledInRun.tileFirst 0 + 32) (disabledInRun.tileResult 0 []).2.1.lines = [] := by decide +kernel

/-- The watchdog is due. -/
theorem disabledInRun_late : (disabledInRun.unit 7).strikes = 0 ∧
    (disabledInRun.unit 7).startedAt + 1000000 * max 100 (disabledInRun.fd F.BOB_WATCHDOG_LIMIT_US) < disabledInRun.now := by
  decide +kernel

/-- The tile completes: BOBBIN[7] leaves service, and BOBBIN[6] is to be reserved in its place. -/
theorem tileComplete_disabledInRun : (tileComplete 7 [] false disabledInRun).inService 7 = false ∧
    ReformsReserve (tileComplete 7 [] false) disabledInRun :=
  ⟨by decide +kernel, by decide +kernel, by decide +kernel, by decide +kernel, by decide +kernel, by decide +kernel⟩

/-- The watchdog ends the job: BOBBIN[7] leaves service, and BOBBIN[6] is to be reserved in its place. -/
theorem bobWatchdog_disabledInRun : (bobWatchdog 7 disabledInRun).inService 7 = false ∧ ReformsReserve (bobWatchdog 7) disabledInRun :=
  ⟨by decide +kernel, by decide +kernel, by decide +kernel, by decide +kernel, by decide +kernel, by decide +kernel⟩

/-! ## The statements -/

/-- Refutes O26: BOBBIN[7] of `disabledInRun` completes its tile and so leaves service, and the reserve is formed again without it (R182,
Tables 4-4 and 4-5); the clause of the native TILE_COMPLETE claims that it keeps its reserved role. -/
theorem not_tilesRunAndDeliver : ¬ Obligations.TilesRunAndDeliver := by
  unfold Obligations.TilesRunAndDeliver
  rintro ⟨-, -, -, -, -, -, hcomplete, -⟩
  obtain ⟨hjob, -, hreserved, hlive, hpipe⟩ := disabledInRun_job
  obtain ⟨hn, hacc, hmark, hpc, hdual, hscope, hreads⟩ := disabledInRun_reads
  have hinside : ∀ e ∈ disabledInRun.jobReads { LaceScope.closed with bound := true, linesReady := 32 } (disabledInRun.tileFirst 0)
      (disabledInRun.tileFirst 0 + 32) (disabledInRun.tileResult 0 []).2.1.lines, e.1 + e.2 ≤ dramEnd := by
    rw [hreads]
    exact List.forall_mem_nil _
  obtain ⟨t, hexec, hunit, -⟩ := hcomplete disabledInRun 7 0 0 [] false _ disabledInRun_up hn rfl hacc hmark hpc hjob hpipe hdual
    hlive hscope hinside
  have ht : serviceWrap (tileComplete 7 [] false) disabledInRun = t :=
    Host.Outcome.next.inj ((exec_tileComplete disabledInRun_up rfl 7 [] false).symm.trans hexec)
  have hkept : (t.unit 7).reserved = true := (congrArg BobUnit.reserved hunit).trans hreserved
  obtain ⟨hout, hreforms⟩ := tileComplete_disabledInRun
  rw [← ht, hreforms.serviceWrap_eq, formReserve_reserved hout] at hkept
  exact Bool.noConfusion hkept

/-- Refutes O27: BOB_WATCHDOG ends the job of BOBBIN[7] of `disabledInRun`, which so leaves service, and the reserve is formed again
without it (R182, Table 4-5); the clause of the abandoned tile claims that it keeps its reserved role. -/
theorem not_bobbinsFailAndServe : ¬ Obligations.BobbinsFailAndServe := by
  unfold Obligations.BobbinsFailAndServe
  rintro ⟨hwatchdog, -⟩
  obtain ⟨hjob, hsuspended, hreserved, hlive, hpipe⟩ := disabledInRun_job
  obtain ⟨hstrikes, hlate⟩ := disabledInRun_late
  obtain ⟨t, hexec, hunit, -⟩ := hwatchdog disabledInRun 7 0 0 disabledInRun_up hjob hsuspended hlive hpipe hstrikes hlate
  have ht : serviceWrap (bobWatchdog 7) disabledInRun = t :=
    Host.Outcome.next.inj ((exec_bobWatchdog disabledInRun_up 7).symm.trans hexec)
  have hkept : (t.unit 7).reserved = true := (congrArg BobUnit.reserved hunit).trans hreserved
  obtain ⟨hout, hreforms⟩ := bobWatchdog_disabledInRun
  rw [← ht, hreforms.serviceWrap_eq, formReserve_reserved hout] at hkept
  exact Bool.noConfusion hkept

end Sys2Proof.Machine

/-! PROOFS. Edging and seam records: what they send, how a record is judged, stored and answered, replies, retries and waits
(R209 to R214, R278, R407, R645). -/

namespace Sys2Proof.Machine

variable {s t : State} {l : List Byte} {d : Nat}

/-! ## The events -/

theorem State.edgeOpen_up (h : s.up) (hn : s.native = true) (f : State → State) : s.edgeOpen f = f s := by
  simp [State.edgeOpen, State.whenReady_up h, hn, h.2]

theorem exec_edgingRecord (h : s.up) (hn : s.native = true) (l : List Byte) :
    exec (.edgingRecord l) s = .next (if byteAt l 0 = 1 ∨ byteAt l 0 = 2 then edgingRecord l s else edgingBad s) :=
  congrArg Host.Outcome.next (State.edgeOpen_up h hn _)

theorem exec_edgingRecord_typed (h : s.up) (hn : s.native = true) (htyp : byteAt l 0 = 1 ∨ byteAt l 0 = 2) :
    exec (.edgingRecord l) s = .next (edgingRecord l s) := by
  rw [exec_edgingRecord h hn, if_pos htyp]

theorem exec_edgingReply (h : s.up) (hn : s.native = true) (htyp : byteAt l 0 = 0x81 ∨ byteAt l 0 = 0x82 ∨ byteAt l 0 = 0x83) :
    exec (.edgingReply l) s = .next (edgingReply l s) :=
  congrArg Host.Outcome.next ((State.edgeOpen_up h hn _).trans (if_pos htyp))

theorem exec_edgingRetry (h : s.up) (hn : s.native = true) : exec .edgingRetry s = .next (edgingRetry s) :=
  congrArg Host.Outcome.next (State.edgeOpen_up h hn _)

theorem exec_corEdgingLost (h : s.up) (hn : s.native = true) (d : Fin 64) :
    exec (.corEdgingLost d) s = .next (doEdgingLost d.val s) :=
  congrArg Host.Outcome.next (State.edgeOpen_up h hn _)

theorem exec_seamRecord (h : s.up) (hn : s.native = true) (l : List Byte) : exec (.seamRecord l) s = .next (seamRecord l s) :=
  congrArg Host.Outcome.next (State.edgeOpen_up h hn _)

theorem exec_plnSeamLost (h : s.up) (hn : s.native = true) (d : Fin 2) : exec (.plnSeamLost d) s = .next (doSeamLost d.val s) :=
  congrArg Host.Outcome.next (State.edgeOpen_up h hn _)

/-! ## Flags of a register (R9) -/

/-- A flag that the device sets joins those of its field. -/
theorem State.fd_setFlag_same (s : State) (x : RegField) {mask : Nat} (i : Nat) (hx : x.hi < 32) (hm : mask < 2 ^ (x.hi + 1 - x.lo)) :
    (s.setFlag x mask i).fd x i = s.fd x i ||| mask := by
  rw [State.setFlag, State.fd_mark, State.fd_setFd_same _ _ _ _ hx]
  exact Nat.mod_eq_of_lt (Nat.or_lt_two_pow (s.fd_lt x i) hm)

theorem State.rg_setFlag_ne (s : State) (x : RegField) (mask i : Nat) (r : Reg) (j : Nat) (h : r ≠ x.reg) :
    (s.setFlag x mask i).rg r j = s.rg r j := s.rg_setFd_ne x _ i r j h

/-! ## Sending (R407) -/

/-- t differs from s in correction, the planner, the notes of the cycle and CORR_LOST_MASK alone, of which no datagram holds anything. -/
structure SendsAlike (s t : State) : Prop where
  frame : t = { s with corr := t.corr, plan := t.plan, regs := t.regs, cyc := t.cyc }
  words : ∀ r i, r ≠ .CORR_LOST_MASK_LO → r ≠ .CORR_LOST_MASK_HI → t.rg r i = s.rg r i

theorem SendsAlike.of_frame (h : t = { s with corr := t.corr, plan := t.plan }) : SendsAlike s t where
  frame := by rw [h]
  words r i _ _ := by rw [h]; rfl

theorem SendsAlike.fd (h : SendsAlike s t) {x : RegField} (i : Nat) (hlo : x.reg ≠ .CORR_LOST_MASK_LO)
    (hhi : x.reg ≠ .CORR_LOST_MASK_HI) : t.fd x i = s.fd x i :=
  congrArg (fun w : Word => bits w.toNat x.hi x.lo) (h.words x.reg i hlo hhi)

theorem SendsAlike.fb (h : SendsAlike s t) {x : RegField} (i : Nat) (hlo : x.reg ≠ .CORR_LOST_MASK_LO)
    (hhi : x.reg ≠ .CORR_LOST_MASK_HI) : t.fb x i = s.fb x i := by
  rw [State.fb_eq_fd, State.fb_eq_fd, h.fd i hlo hhi]

theorem SendsAlike.netHeader (h : SendsAlike s t) (e : Nat) (b : List Byte) : t.netHeader e b = s.netHeader e b := by
  have hstr : t.str = s.str := by rw [h.frame]
  simp (disch := decide) only [State.netHeader, State.macAddr, State.vlan, State.ip4, State.ip6, State.entryIp, h.fd, h.fb, hstr]

theorem SendsAlike.sendTo (h : SendsAlike s t) (e : Nat) (b : List Byte) :
    Machine.sendTo e b t = { Machine.sendTo e b s with corr := t.corr, plan := t.plan, regs := t.regs, cyc := t.cyc } := by
  have hlink : ∀ m, t.linked m = s.linked m := fun m => by rw [h.frame]; rfl
  simp (disch := decide) only [Machine.sendTo, h.fd, h.fb, h.netHeader, hlink]
  split
  · rw [h.frame]; simp only [State.emit]; split <;> rfl
  · exact h.frame

theorem SendsAlike.raise (h : SendsAlike s t) (c : FaultCode) :
    t.raise c = { s.raise c with corr := t.corr, plan := t.plan, regs := t.regs, cyc := t.cyc } := by
  rw [h.frame]; simp only [State.raise]; split <;> rfl

/-- What is sent does not depend on correction, the planner and CORR_LOST_MASK. -/
theorem SendsAlike.sendRecord (h : SendsAlike s t) (d : Nat) (b : List Byte) :
    Machine.sendRecord d b t = { Machine.sendRecord d b s with corr := t.corr, plan := t.plan, regs := t.regs, cyc := t.cyc } := by
  have hdata : t.edgeDatagram d b = s.edgeDatagram d b := by rw [h.frame]; rfl
  simp (disch := decide) only [Machine.sendRecord, h.fb, hdata]
  split
  · exact h.sendTo _ _
  · exact h.raise _

theorem SendsAlike.paramCrc (h : SendsAlike s t) : t.paramCrc = s.paramCrc := by
  simp (disch := decide) only [State.paramCrc, h.words]

theorem SendsAlike.planCrc (h : SendsAlike s t) : t.planCrc = s.planCrc := by
  simp (disch := decide) only [State.planCrc, h.words]

theorem SendsAlike.sendReply (h : SendsAlike s t) (l : List Byte) (d code : Nat) :
    Machine.sendReply l d code t = { Machine.sendReply l d code s with corr := t.corr, plan := t.plan, regs := t.regs, cyc := t.cyc } := by
  have hnode : t.node = s.node := by rw [h.frame]; rfl
  simp only [Machine.sendReply, State.replyBytes, h.paramCrc, h.planCrc, hnode]
  exact h.sendRecord _ _

/-- A record sent changes what has left the device and the fault logic alone. -/
theorem sendRecord_eq (d : Nat) (b : List Byte) (s : State) :
    sendRecord d b s = { s with out := (sendRecord d b s).out, fault := (sendRecord d b s).fault } := by
  simp only [sendRecord]
  split
  · rw [sendTo_eq]
  · rw [State.raise_eq]


/-! ## Devices marked lost (R212, R214) -/

theorem State.devOfNode_lt {n : Nat} (h : s.devOfNode n = some d) : d < 64 := by
  simp only [State.devOfNode] at h
  split at h
  · obtain rfl := Option.some.inj h
    exact Nat.mod_lt _ (by decide)
  · cases h

theorem lostBit_eq (d : Nat) (s : State) :
    doEdgingLost.lostBit d s = { s with regs := (doEdgingLost.lostBit d s).regs, cyc := (doEdgingLost.lostBit d s).cyc } := by
  simp only [doEdgingLost.lostBit]; split <;> rfl

/-- Device d of 64 is marked in CORR_LOST_MASK. -/
theorem fd_lostBit (hd : d < 64) (s : State) :
    if d < 32 then (doEdgingLost.lostBit d s).fd F.CORR_LOST_MASK_LO_MASK = (s.fd F.CORR_LOST_MASK_LO_MASK ||| 2 ^ d)
    else (doEdgingLost.lostBit d s).fd F.CORR_LOST_MASK_HI_MASK = (s.fd F.CORR_LOST_MASK_HI_MASK ||| 2 ^ (d - 32)) := by
  simp only [doEdgingLost.lostBit]
  split
  · exact s.fd_setFlag_same _ 0 (by decide) (Nat.pow_lt_pow_right (by decide) ‹d < 32›)
  · exact s.fd_setFlag_same _ 0 (by decide) (Nat.pow_lt_pow_right (by decide) (show d - 32 < 32 by omega))

theorem rg_lostBit (d : Nat) (s : State) (r : Reg) (i : Nat) (hlo : r ≠ .CORR_LOST_MASK_LO) (hhi : r ≠ .CORR_LOST_MASK_HI) :
    (doEdgingLost.lostBit d s).rg r i = s.rg r i := by
  simp only [doEdgingLost.lostBit]
  split
  · exact s.rg_setFlag_ne _ _ _ _ _ hlo
  · exact s.rg_setFlag_ne _ _ _ _ _ hhi

@[simp] theorem lostForStripe_plan (d : Nat) (s : State) : (lostForStripe d s).plan = s.plan := by
  simp only [lostForStripe]; rw [lostBit_eq]

/-- Marking a device lost for the stripe leaves what is sent as it is. -/
theorem sendsAlike_lostForStripe (d : Nat) (s : State) : SendsAlike s (lostForStripe d s) where
  frame := by simp only [lostForStripe]; rw [lostBit_eq]
  words r i hlo hhi := rg_lostBit d s r i hlo hhi

/-! ## The values of a record (R209, R212) -/

theorem leVal_lt (l : List Byte) : leVal l < 256 ^ l.length := by
  induction l with
  | nil => exact Nat.one_pos
  | cons b l ih =>
    have hb : b.toNat < 256 := b.isLt
    rw [leVal, List.length_cons, Nat.pow_succ]
    omega

theorem leAt_lt (l : List Byte) (o n : Nat) : leAt l o n < 256 ^ n :=
  Nat.lt_of_lt_of_le (leVal_lt _) (Nat.pow_le_pow_right (by decide) (List.length_take_le n _))

/-- A table filled from a list of indexes and values holds a value that the list or the table before gives and that no entry of its index
contradicts. -/
theorem Sparse.get_foldl_set {α : Type} [DecidableEq α] (c : α) (m : Sparse α) {vals : List (Nat × α)} {k : Nat} {v : α}
    (hgiven : (k, v) ∈ vals ∨ Sparse.get c m k = v) (huniq : ∀ e ∈ vals, e.1 = k → e.2 = v) :
    Sparse.get c (vals.foldl (fun t e => Sparse.set c t e.1 e.2) m) k = v := by
  induction vals generalizing m with
  | nil => exact hgiven.resolve_left List.not_mem_nil
  | cons e vals ih =>
    obtain ⟨hhead, htail⟩ := List.forall_mem_cons.1 huniq
    refine ih _ ?_ htail
    rw [Sparse.get_set]
    by_cases hk : k = e.1
    · rw [if_pos hk]
      exact .inr (hhead hk.symm)
    · rw [if_neg hk]
      exact hgiven.imp_left fun hmem => (List.mem_cons.1 hmem).resolve_left fun he => hk (congrArg Prod.fst he)

/-- The values of a record, stored under keys that differ from one value to the next, read back as they stand in the record. -/
theorem get_foldl_recordValues {key : Nat → Nat} (m : Sparse Nat) (l : List Byte) {size n k : Nat} (hk : k < n)
    (hinj : ∀ k', k' < n → key k' = key k → k' = k) :
    Sparse.get 0 (((recordValues l size n).zipIdx.map (fun v => (key v.2, v.1))).foldl (fun t e => Sparse.set 0 t e.1 e.2) m) (key k) =
      leAt l (0x18 + size * k) size := by
  have hval : ∀ {v : Nat × Nat}, v ∈ (recordValues l size n).zipIdx → v.2 < n ∧ v.1 = leAt l (0x18 + size * v.2) size := by
    intro v hv
    have hget := List.mem_zipIdx_iff_getElem?.1 hv
    obtain ⟨hlt, hv⟩ := List.getElem?_eq_some_iff.1 hget
    simp only [recordValues, List.length_map, List.length_range, List.getElem_map, List.getElem_range] at hlt hv
    exact ⟨hlt, hv.symm⟩
  refine Sparse.get_foldl_set 0 m (.inl (List.mem_map.2 ⟨(leAt l (0x18 + size * k) size, k), ?_, rfl⟩)) fun e he hek => ?_
  · rw [List.mem_zipIdx_iff_getElem?]
    simp [recordValues, hk]
  · obtain ⟨v, hv, rfl⟩ := List.mem_map.1 he
    obtain ⟨hlt, hv⟩ := hval hv
    rw [hv, hinj v.2 hlt hek]

/-- Cells of a near record have keys of their own: a record is narrower than a row of keys. -/
theorem nearKey_inj {row col cells k k' : Nat} (hcells : cells < 65536) (hpos : 0 < cells)
    (h : nearKey (row + k' / cells) (col + k' % cells) = nearKey (row + k / cells) (col + k % cells)) : k' = k := by
  have hr := Nat.mod_lt k hpos
  have hr' := Nat.mod_lt k' hpos
  simp only [nearKey] at h
  have hq : k' / cells = k / cells := by omega
  have hm : k' % cells = k % cells := by omega
  rw [← Nat.div_add_mod k' cells, ← Nat.div_add_mod k cells, hq, hm]

theorem fogKey_inj {row d col k k' : Nat} (h : fogKey row d (col + k') = fogKey row d (col + k)) : k' = k := by
  simp only [fogKey] at h
  omega

/-! ## Edging records (R211, R212) -/

theorem edgingRecord_unknownNode (h : s.devOfNode (leAt l 2 2) = none) : edgingRecord l s = edgingBad s := by
  simp only [edgingRecord, h]

theorem edgingRecord_bad (hd : s.devOfNode (leAt l 2 2) = some d)
    (h : recordCrcOk l = false ∨ l.length < 0x1C ∨ leAt l 4 2 ≠ s.node ∨ s.edgingOk l d = false) : edgingRecord l s = edgingBad s := by
  have hfails : (recordCrcOk l && decide (l.length ≥ 0x1C) && leAt l 4 2 == s.node && s.edgingOk l d) = false := by
    simpa only [Bool.and_eq_false_iff, decide_eq_false_iff_not, Nat.not_le, beq_eq_false_iff_ne, or_assoc] using h
  simp only [edgingRecord, hd, hfails, Bool.not_false, if_true]

/-- An edging record from device d passes every check of R211. -/
structure EdgingPasses (s : State) (l : List Byte) (d : Nat) : Prop where
  dev : s.devOfNode (leAt l 2 2) = some d
  crc : recordCrcOk l = true
  long : 0x1C ≤ l.length
  here : leAt l 4 2 = s.node
  fits : s.edgingOk l d = true

section
variable (h : EdgingPasses s l d)
include h

theorem EdgingPasses.mismatch (hp : leAt l 0x14 4 ≠ s.paramCrc) :
    edgingRecord l s = sendReply l d 2 (lostForStripe d (s.raise .COR_PARAM_MISMATCH)) := by
  simp [edgingRecord, h.dev, h.crc, h.long, h.here, h.fits, hp]

/-- What correction waits on once a record has come. -/
def State.recordCame (s : State) (l : List Byte) (d : Nat) (t : State) : State :=
  if s.awaits d (byteAt l 0) (leAt l 0xC 4) then t.renewWait d else t.rewait

theorem EdgingPasses.ours (hp : leAt l 0x14 4 = s.paramCrc) (ho : s.ourStripe (leAt l 8 4) = true) (hlost : bit s.corr.lost d = 0) :
    edgingRecord l s = sendReply l d 0 (s.recordCame l d (storeEdging l d s)) := by
  simp [edgingRecord, h.dev, h.crc, h.long, h.here, h.fits, hp, ho, hlost, State.recordCame]

theorem EdgingPasses.fromLost (hp : leAt l 0x14 4 = s.paramCrc) (ho : s.ourStripe (leAt l 8 4) = true) (hlost : bit s.corr.lost d = 1) :
    edgingRecord l s = sendReply l d 0 s := by
  simp [edgingRecord, h.dev, h.crc, h.long, h.here, h.fits, hp, ho, hlost]

theorem EdgingPasses.notOurs (hp : leAt l 0x14 4 = s.paramCrc) (ho : s.ourStripe (leAt l 8 4) = false) :
    edgingRecord l s =
      if s.notReadyFor (leAt l 8 4) then sendReply l d 1 s else s.bump F.CORR_EDGING_UNKNOWN_COUNT_COUNT := by
  simp [edgingRecord, h.dev, h.crc, h.long, h.here, h.fits, hp, ho]

end

/-- The waits follow a stored record; nothing else of correction moves with them. -/
theorem State.recordCame_eq (s : State) (l : List Byte) (d : Nat) (t : State) :
    s.recordCame l d t = { t with corr := { t.corr with
      waitUntil := (s.recordCame l d t).corr.waitUntil, waitRaised := (s.recordCame l d t).corr.waitRaised } } := by
  simp only [State.recordCame]; split <;> rfl

/-- The near values that record l adds. -/
def nearStored (l : List Byte) (m : Sparse Nat) : Sparse Nat :=
  ((recordValues l 2 (leAt l 6 2 * leAt l 0x12 2)).zipIdx.map (fun v =>
    (nearKey (leAt l 0xC 4 + v.2 / leAt l 0x12 2) (leAt l 0x10 2 + v.2 % leAt l 0x12 2), v.1))).foldl (fun t e => Sparse.set 0 t e.1 e.2) m

/-- The fog sums that record l of device d adds. -/
def fogStored (l : List Byte) (d : Nat) (m : Sparse Nat) : Sparse Nat :=
  ((recordValues l 4 (leAt l 0x12 2)).zipIdx.map (fun v =>
    (fogKey (leAt l 0xC 4) d (leAt l 0x10 2 + v.2), v.1))).foldl (fun t e => Sparse.set 0 t e.1 e.2) m

theorem storeEdging_near (htyp : byteAt l 0 = 1) (hnew : s.nearHeld d (leAt l 0xC 4) = false) :
    storeEdging l d s = { s with corr := { s.corr with
      near := nearStored l s.corr.near, nearHave := s.corr.nearHave ++ [(d, leAt l 0xC 4)] } } := by
  simp only [storeEdging, htyp, hnew, if_true, Bool.false_eq_true, if_false, nearStored]

theorem storeEdging_fog (htyp : byteAt l 0 = 2) (hnew : (d, leAt l 0xC 4) ∉ s.corr.fogHave) :
    storeEdging l d s = { s with corr := { s.corr with
      fog := fogStored l d s.corr.fog, fogHave := s.corr.fogHave ++ [(d, leAt l 0xC 4)] } } := by
  have hany : (s.corr.fogHave.any fun e => e.1 == d && e.2 == leAt l 0xC 4) = false := by
    rw [List.any_eq_false]
    rintro ⟨a, b⟩ he hab
    simp only [Bool.and_eq_true, beq_iff_eq] at hab
    obtain ⟨rfl, rfl⟩ := hab
    exact hnew he
  have htyp' : ¬ byteAt l 0 = 1 := by omega
  simp only [storeEdging, htyp', hany, if_false, Bool.false_eq_true, fogStored]

theorem get_nearStored (m : Sparse Nat) {j i : Nat} (hj : j < leAt l 6 2) (hi : i < leAt l 0x12 2) :
    Sparse.get 0 (nearStored l m) (nearKey (leAt l 0xC 4 + j) (leAt l 0x10 2 + i)) =
      leAt l (0x18 + 2 * (j * leAt l 0x12 2 + i)) 2 := by
  have hpos : 0 < leAt l 0x12 2 := Nat.zero_lt_of_lt hi
  have hk : j * leAt l 0x12 2 + i < leAt l 6 2 * leAt l 0x12 2 := by
    calc j * leAt l 0x12 2 + i < (j + 1) * leAt l 0x12 2 := by rw [Nat.succ_mul]; omega
      _ ≤ _ := Nat.mul_le_mul_right _ hj
  have hq : (j * leAt l 0x12 2 + i) / leAt l 0x12 2 = j := by
    rw [Nat.mul_comm, Nat.mul_add_div hpos, Nat.div_eq_of_lt hi, Nat.add_zero]
  have hr : (j * leAt l 0x12 2 + i) % leAt l 0x12 2 = i := by
    rw [Nat.mul_comm, Nat.mul_add_mod, Nat.mod_eq_of_lt hi]
  have hget := get_foldl_recordValues
    (key := fun k => nearKey (leAt l 0xC 4 + k / leAt l 0x12 2) (leAt l 0x10 2 + k % leAt l 0x12 2)) m l (size := 2) hk
    fun k' _ => nearKey_inj (leAt_lt l 0x12 2) hpos
  simp only [hq, hr] at hget
  exact hget

theorem get_fogStored (m : Sparse Nat) {i : Nat} (hi : i < leAt l 0x12 2) :
    Sparse.get 0 (fogStored l d m) (fogKey (leAt l 0xC 4) d (leAt l 0x10 2 + i)) = leAt l (0x18 + 4 * i) 4 :=
  get_foldl_recordValues (key := fun k => fogKey (leAt l 0xC 4) d (leAt l 0x10 2 + k)) m l hi fun _ _ => fogKey_inj

/-- A record that adds to correction alone is answered as from the state before, and the waits follow. -/
theorem sendReply_recordCame (l : List Byte) (d code : Nat) {t : State} (ht : t = { s with corr := t.corr }) :
    sendReply l d code (s.recordCame l d t) = { sendReply l d code s with corr := (s.recordCame l d t).corr } := by
  have hframe : s.recordCame l d t = { s with corr := (s.recordCame l d t).corr } := by rw [State.recordCame_eq, ht]
  have hsend := (SendsAlike.of_frame (s := s) (t := s.recordCame l d t) (by rw [hframe])).sendReply l d code
  rw [hsend, hframe, sendReply, sendRecord_eq]


/-! ## Seam records (R278, R279) -/

theorem seamRecord_unknownNode (h : s.devOfNode (leAt l 2 2) = none) : seamRecord l s = seamBad s := by
  simp only [seamRecord, h]

theorem seamRecord_bad (hd : s.devOfNode (leAt l 2 2) = some d)
    (h : recordCrcOk l = false ∨ l.length < 0x1C ∨ byteAt l 0 ≠ 3 ∨ leAt l 4 2 ≠ s.node ∨ s.seamOk l d = false) :
    seamRecord l s = seamBad s := by
  have hfails : (recordCrcOk l && decide (l.length ≥ 0x1C) && byteAt l 0 == 3 && leAt l 4 2 == s.node && s.seamOk l d) = false := by
    simpa only [Bool.and_eq_false_iff, decide_eq_false_iff_not, Nat.not_le, beq_eq_false_iff_ne, or_assoc] using h
  simp only [seamRecord, hd, hfails, Bool.not_false, if_true]

/-- A seam record from device d passes every check of R278. -/
structure SeamPasses (s : State) (l : List Byte) (d : Nat) : Prop where
  dev : s.devOfNode (leAt l 2 2) = some d
  crc : recordCrcOk l = true
  long : 0x1C ≤ l.length
  seam : byteAt l 0 = 3
  here : leAt l 4 2 = s.node
  fits : s.seamOk l d = true

/-- What the planner waits for once seam record l has come (R278). -/
def State.seamCame (s : State) (l : List Byte) (t : State) : State :=
  if s.awaitsSeam (byteAt l 1) (leAt l 0xC 4) then t.seamRenew (1 - byteAt l 1) else t.reseam

section
variable (h : SeamPasses s l d)
include h

theorem SeamPasses.ours (ho : s.ourStripe (leAt l 8 4) = true) :
    seamRecord l s = sendReply l d 0 (s.seamCame l (runCapacity (storeSeam l (compareSeam l s)))) := by
  simp [seamRecord, h.dev, h.crc, h.long, h.seam, h.here, h.fits, ho, State.seamCame]

theorem SeamPasses.notOurs (ho : s.ourStripe (leAt l 8 4) = false) :
    seamRecord l s =
      if s.notReadyFor (leAt l 8 4) then sendReply l d 1 s else s.bump F.CORR_EDGING_UNKNOWN_COUNT_COUNT := by
  simp [seamRecord, h.dev, h.crc, h.long, h.seam, h.here, h.fits, ho]

end

/-- The waits for seam records are all of the planner that moves with what has come. -/
theorem State.seamCame_eq (s : State) (l : List Byte) (t : State) :
    s.seamCame l t = { t with plan := { t.plan with seamWait := (s.seamCame l t).plan.seamWait } } := by
  simp only [State.seamCame]; split <;> rfl

/-- A seam record that adds to the planner alone is answered as from the state before, and the waits follow. -/
theorem sendReply_seamCame (s : State) (l : List Byte) (d code : Nat) {r t : State} (ht : t = { r with plan := t.plan }) :
    sendReply l d code (s.seamCame l t) = { sendReply l d code r with plan := (s.seamCame l t).plan } := by
  have hframe : s.seamCame l t = { r with plan := (s.seamCame l t).plan } := by rw [State.seamCame_eq, ht]
  have hsend := (SendsAlike.of_frame (s := r) (t := s.seamCame l t) (by rw [hframe])).sendReply l d code
  rw [hsend, hframe, sendReply, sendRecord_eq]

theorem runCapacity_of_nothing (h : s.rowsToCheck = []) : runCapacity s = s := by
  rw [runCapacity, h, List.foldl_nil]

/-- No row is checked before a row is verified (R272). -/
theorem rowsToCheck_of_verified_zero (h : s.store.verified = 0) : s.rowsToCheck = [] := by
  rw [State.rowsToCheck, h]; rfl

/-- The planner with side's edge record come, its match as found (R273). -/
def PlanSt.edgeCame (p : PlanSt) (side : Nat) (ok : Bool) : PlanSt :=
  { p with edgeOk := p.edgeOk.setIfInBounds side ok, edgeGot := p.edgeGot.setIfInBounds side true }

/-- An edge record sets its side's match and stores nothing. -/
theorem storeSeam_compareSeam_edge (hrow : leAt l 0xC 4 = 0xFFFFFFFF) {ok : Bool}
    (hok : ok = (leAt l 0x14 4 == s.planCrc && leAt l 0x10 4 == s.seamTableCrc (1 - byteAt l 1))) :
    storeSeam l (compareSeam l s) =
      { s.raiseIf (!ok) .PLN_SEAM_MISMATCH with plan := s.plan.edgeCame (1 - byteAt l 1) ok } := by
  simp only [storeSeam, compareSeam, hrow, true_or, if_true, ← hok, State.raiseIf_plan, PlanSt.edgeCame]

/-- Which rows are due for their capacity check does not depend on edge records and faults. -/
theorem rowsToCheck_edgeCame (side : Nat) (ok b : Bool) (c : FaultCode) :
    ({ s.raiseIf b c with plan := s.plan.edgeCame side ok } : State).rowsToCheck = s.rowsToCheck := by
  cases b
  · rfl
  · rw [State.raiseIf, if_pos rfl, State.raise_eq]; rfl

/-- A row that matches both CRCs changes nothing when it is compared (R277). -/
theorem compareSeam_matching (hrow : leAt l 0xC 4 ≠ 0xFFFFFFFF) (hplan : leAt l 0x14 4 = s.planCrc)
    (hedge : leAt l 0x10 4 = s.seamTableCrc (1 - byteAt l 1)) : compareSeam l s = s := by
  simp [compareSeam, hrow, ← hplan, ← hedge, State.raiseIf]

/-- The state with everything that a write to DRAM can touch left out. -/
def State.besidesDram (s : State) : State := { s with fault := FaultSt.reset, hbm := HbmSt.reset, dram := [], dramMark := [] }

theorem writeMark_besidesDram (whole : Bool) (w : Nat) (s : State) : (writeMark whole w s).besidesDram = s.besidesDram := by
  have hplain : (writeMark.plain whole w s).besidesDram = s.besidesDram := by unfold writeMark.plain; split <;> rfl
  unfold writeMark
  split
  · split
    · rfl
    · exact hplain
  · exact hplain

theorem dramWrite_besidesDram (a : Nat) (l : List Byte) (s : State) : (dramWrite a l s).besidesDram = s.besidesDram := by
  unfold dramWrite
  split
  · rfl
  split
  · rw [State.raise_eq]; rfl
  split
  · rfl
  split
  · rfl
  · exact foldl_keeps State.besidesDram _ (fun s _ => writeMark_besidesDram _ _ s) _ (s.dramPut a l)

/-- A write to DRAM changes the bytes, the check bits, the DRAM controller and the fault logic alone (R426, R435, R444, R449). -/
theorem dramWrite_eq (a : Nat) (l : List Byte) (s : State) :
    dramWrite a l s = { s with fault := (dramWrite a l s).fault, hbm := (dramWrite a l s).hbm, dram := (dramWrite a l s).dram,
                               dramMark := (dramWrite a l s).dramMark } :=
  congrArg (fun t : State => { t with fault := (dramWrite a l s).fault, hbm := (dramWrite a l s).hbm, dram := (dramWrite a l s).dram,
                                      dramMark := (dramWrite a l s).dramMark }) (dramWrite_besidesDram a l s)

/-- The values of seam row l are written to the seam area (R279). -/
def State.seamRowWritten (s : State) (l : List Byte) : State :=
  dramWrite (s.seamAddr (byteAt l 1) (32 * leAt l 0xC 4) 0) (slice l 0x18 (64 * s.cols)) s

/-- The planner with seam row l held. -/
def PlanSt.seamRowCame (p : PlanSt) (l : List Byte) : PlanSt := { p with seamHave := p.seamHave ++ [(byteAt l 1, leAt l 0xC 4)] }

/-- The seam rows held and those due are of the planner, the registers and the structure: a write to DRAM leaves them as they are. -/
theorem seamComplete_seamRowWritten (l : List Byte) (p : PlanSt) :
    ({ s.seamRowWritten l with plan := p } : State).seamComplete = ({ s with plan := p } : State).seamComplete := by
  rw [State.seamRowWritten, dramWrite_eq]; rfl

/-- A new seam row is stored and held; with the last row due the header is completed (R279). -/
theorem storeSeam_row (hrow : leAt l 0xC 4 ≠ 0xFFFFFFFF) (hnew : s.seamRowHeld (byteAt l 1) (leAt l 0xC 4) = false) :
    ∃ t, t = { s.seamRowWritten l with plan := s.plan.seamRowCame l } ∧
      storeSeam l s = if t.seamComplete then dramWrite t.seamBase (t.seamHeader 1) t else t := by
  refine ⟨_, rfl, ?_⟩
  have hplan : (s.seamRowWritten l).plan = s.plan := dramWrite_plan _ _ _
  rw [← hplan]
  simp only [storeSeam, hrow, hnew, Bool.false_eq_true, or_self, if_false]
  rfl

/-- The planner holds a new seam row, whether or not it is the last one due. -/
theorem storeSeam_row_plan (hrow : leAt l 0xC 4 ≠ 0xFFFFFFFF) (hnew : s.seamRowHeld (byteAt l 1) (leAt l 0xC 4) = false) :
    (storeSeam l s).plan = s.plan.seamRowCame l := by
  obtain ⟨t, ht, hstore⟩ := storeSeam_row hrow hnew
  rw [hstore]
  split
  · rw [dramWrite_plan, ht]
  · rw [ht]

/-- A new seam row that is not the last one due is stored and held, and nothing else. -/
theorem storeSeam_row_incomplete (hrow : leAt l 0xC 4 ≠ 0xFFFFFFFF) (hnew : s.seamRowHeld (byteAt l 1) (leAt l 0xC 4) = false)
    (hdue : ({ s with plan := s.plan.seamRowCame l } : State).seamComplete = false) :
    storeSeam l s = { s.seamRowWritten l with plan := s.plan.seamRowCame l } := by
  obtain ⟨t, ht, hstore⟩ := storeSeam_row hrow hnew
  have hopen : t.seamComplete = false := by rw [ht, seamComplete_seamRowWritten, hdue]
  rw [hstore, hopen, if_neg Bool.false_ne_true, ht]

/-- Storing a seam row verifies no row. -/
theorem storeSeam_row_store (hrow : leAt l 0xC 4 ≠ 0xFFFFFFFF) (hnew : s.seamRowHeld (byteAt l 1) (leAt l 0xC 4) = false) :
    (storeSeam l s).store = s.store := by
  obtain ⟨t, ht, hstore⟩ := storeSeam_row hrow hnew
  have hkept : t.store = s.store := by rw [ht, State.seamRowWritten, dramWrite_eq]
  rw [hstore]
  split
  · rw [dramWrite_eq, hkept]
  · exact hkept

/-! ## Replies and retries (R210, R212, R645) -/

/-- Reply l answers kept record r (R645). -/
def KeptRecord.answeredBy (r : KeptRecord) (l : List Byte) (d : Nat) : Bool :=
  r.typ == byteAt l 0 - 0x80 && r.dst == d && r.stripe == leAt l 8 4 && r.row == leAt l 0xC 4 && r.count == leAt l 6 2

/-- Correction without the kept records that reply l answers. -/
def CorrSt.dropAnswered (c : CorrSt) (l : List Byte) (d : Nat) : CorrSt :=
  { c with kept := c.kept.filter fun r => !r.answeredBy l d }

/-- A reply from device d passes every check of R645. -/
structure ReplyPasses (s : State) (l : List Byte) (d : Nat) : Prop where
  dev : s.devOfNode (leAt l 2 2) = some d
  whole : l.length = 28
  crc : recordCrcOk l = true
  here : leAt l 4 2 = s.node
  other : d ≠ s.str.devIndex

section
variable (h : ReplyPasses s l d)
include h

theorem ReplyPasses.edgingReply_eq : edgingReply l s =
    if ((byteAt l 1 == 0 || (byteAt l 1 == 2 && byteAt l 0 - 0x80 != 3)) && s.corr.kept.any (·.answeredBy l d)) = true
    then ({ s with corr := s.corr.dropAnswered l d } : State).raiseIf (byteAt l 1 == 2) .COR_PARAM_MISMATCH else s := by
  have hgood : (l.length == 28 && recordCrcOk l && leAt l 4 2 == s.node && d != s.str.devIndex) = true := by
    simp [h.whole, h.crc, h.here, h.other]
  simp only [edgingReply, h.dev, hgood, Bool.not_true, Bool.false_eq_true, if_false]
  rfl

/-- A reply of code 0 drops the records it answers, if there are any. -/
theorem ReplyPasses.settled (hcode : byteAt l 1 = 0) : edgingReply l s = { s with corr := s.corr.dropAnswered l d } := by
  rw [h.edgingReply_eq, hcode]
  cases hany : s.corr.kept.any (·.answeredBy l d) with
  | true => rfl
  | false =>
    have hnone : s.corr.dropAnswered l d = s.corr := by
      rw [CorrSt.dropAnswered, List.filter_eq_self.2 fun r hr => by simp [List.any_eq_false.1 hany r hr]]
    rw [hnone]
    rfl

/-- A reply of code 2 to an edging record that is kept drops it with COR_PARAM_MISMATCH. -/
theorem ReplyPasses.mismatched (hcode : byteAt l 1 = 2) (htyp : byteAt l 0 = 0x81 ∨ byteAt l 0 = 0x82) {r : KeptRecord}
    (hr : r ∈ s.corr.kept) (hans : r.answeredBy l d = true) :
    edgingReply l s = { s.raise .COR_PARAM_MISMATCH with corr := s.corr.dropAnswered l d } := by
  have hany : s.corr.kept.any (·.answeredBy l d) = true := List.any_eq_true.2 ⟨r, hr, hans⟩
  have hedging : (byteAt l 0 - 0x80 != 3) = true := by rcases htyp with h | h <;> rw [h] <;> rfl
  rw [h.edgingReply_eq, hcode, hany, hedging]
  exact (SendsAlike.of_frame (s := s) (t := { s with corr := s.corr.dropAnswered l d }) rfl).raise _ |>.trans (by rw [State.raise_eq])

end

/-- For a reply's TYPE the kept record answered is the one of the TYPE 0x80 below. -/
theorem KeptRecord.answeredBy_iff (r : KeptRecord) (l : List Byte) (d : Nat) (h : 0x80 ≤ byteAt l 0) :
    r.answeredBy l d = true ↔
      r.typ + 0x80 = byteAt l 0 ∧ r.dst = d ∧ r.stripe = leAt l 8 4 ∧ r.row = leAt l 0xC 4 ∧ r.count = leAt l 6 2 := by
  simp only [KeptRecord.answeredBy, Bool.and_eq_true, beq_iff_eq, and_assoc]
  exact and_congr_left fun _ => by omega

/-- Kept record r sent again at time `now`: the next sending is due a retry period later (R210, R223). -/
def KeptRecord.sentAgain (r : KeptRecord) (now period : Nat) : KeptRecord := { r with dueAt := now + period }

theorem edgingRetry_due {r : KeptRecord} (hkept : s.corr.kept = [r]) (hdue : r.dueAt ≤ s.now) :
    edgingRetry s = { sendRecord r.dst r.bytes s with corr := { s.corr with kept := [r.sentAgain s.now s.retryPeriod] } } := by
  have hsent : (sendRecord r.dst r.bytes s).corr = s.corr := by rw [sendRecord_eq]
  simp only [edgingRetry, hkept, ge_iff_le, hdue, decide_true, List.filter_cons_of_pos, List.filter_nil, List.foldl_cons, List.foldl_nil,
    List.map_cons, List.map_nil, if_true, hsent]
  rfl

theorem edgingRetry_nothingDue (h : ∀ r ∈ s.corr.kept, s.now < r.dueAt) : edgingRetry s = s := by
  have hnot : ∀ r ∈ s.corr.kept, ¬ r.dueAt ≤ s.now := fun r hr => Nat.not_le.2 (h r hr)
  have hnone : (s.corr.kept.filter fun r => decide (s.now ≥ r.dueAt)) = [] :=
    List.filter_eq_nil_iff.2 fun r hr => by simpa using hnot r hr
  have hsame : (s.corr.kept.map fun r => if decide (s.now ≥ r.dueAt) = true then { r with dueAt := s.now + s.retryPeriod } else r) =
      s.corr.kept := List.map_congr_left (fun r hr => if_neg (by simpa using hnot r hr)) |>.trans (List.map_id _)
  simp only [edgingRetry, hnone, List.foldl_nil, hsame]

/-! ## Partners that stay silent (R214, R278) -/

/-- A partner on which correction has waited for too long is marked once (R214). -/
theorem doEdgingLost_late {a : Nat} (hwait : Sparse.find? s.rewait.corr.waitUntil d = some a)
    (honce : bit s.rewait.corr.waitRaised d = 0) (hlate : a < s.now) :
    doEdgingLost d s = (doEdgingLost.lostBit d { s.rewait with corr := { s.rewait.corr with
      waitRaised := s.rewait.corr.waitRaised + 2 ^ d } }).raise .COR_EDGING_LOST := by
  simp only [doEdgingLost, hwait, honce, gt_iff_lt, hlate, and_self, if_true]

/-- A neighbour for whose record the planner has waited for too long is marked once (R278). -/
theorem doSeamLost_late {d : Fin 2} {a : Nat} (hwait : s.reseam.plan.seamWait[d] = some (a, false)) (hlate : a < s.now) :
    doSeamLost d.val s = (({ s with plan := { s.plan with seamWait := s.reseam.plan.seamWait.setIfInBounds d.val (some (a, true)) } } :
      State).setFlag F.PLAN_SEAM_LOST_SIDE (2 ^ d.val)).raise .PLN_SEAM_LOST := by
  have hget : (s.reseam.plan.seamWait[d.val]?).getD none = some (a, false) := by
    rw [Vector.getElem?_eq_getElem d.isLt]; exact hwait
  simp only [doSeamLost, hget, gt_iff_lt, hlate, if_true]
  rfl

/-! ## The statement -/

/-- Settles O28: each record, reply and time-out by the lemma of its verdict; what is sent does not depend on what the record changes
(`SendsAlike`). -/
theorem edgingAndSeamRecords : Obligations.EdgingAndSeamRecords := by
  unfold Obligations.EdgingAndSeamRecords
  refine ⟨?unknownNode, ?bad, ?mismatch, ?near, ?fog, ?fromLost, ?notOurs, ?seamUnknownNode, ?seamBad, ?seamNotOurs, ?seamEdge,
    ?seamRow, ?settled, ?mismatched, ?retry, ?noRetry, ?edgingLost, ?seamLost⟩
  case unknownNode =>
    intro s l hup hn hdev
    rw [exec_edgingRecord hup hn, edgingRecord_unknownNode hdev, ite_self]
    rfl
  case bad =>
    intro s l d hup hn hdev hbad
    rw [exec_edgingRecord hup hn, edgingRecord_bad hdev hbad, ite_self]
    rfl
  case mismatch =>
    intro s l d hup hn htyp hdev hcrc hlong hhere hfits hp
    have h : EdgingPasses s l d := ⟨hdev, hcrc, hlong, hhere, hfits⟩
    have hsend := (sendsAlike_lostForStripe d (s.raise .COR_PARAM_MISMATCH)).sendReply l d 2
    refine ⟨_, (exec_edgingRecord_typed hup hn htyp).trans (congrArg _ (h.mismatch hp)), ?_, ?_, ?_⟩
    · rw [hsend]; simp only [lostForStripe]; rw [lostBit_eq, State.raise_corr]
    · have hfd := fd_lostBit (State.devOfNode_lt hdev) (s.raise .COR_PARAM_MISMATCH)
      rw [State.fd_raise, State.fd_raise] at hfd
      rw [hsend]
      exact hfd
    · rw [hsend, lostForStripe_plan, sendReply, sendRecord_eq]
  case near =>
    intro s l d hup hn htyp hdev hcrc hlong hhere hfits hp hours hlost hnew
    have h : EdgingPasses s l d := ⟨hdev, hcrc, hlong, hhere, hfits⟩
    have hexec := (exec_edgingRecord_typed hup hn (.inl htyp)).trans (congrArg _ (h.ours hp hours hlost))
    rw [storeEdging_near htyp hnew, sendReply_recordCame l d 0 (by rfl), State.recordCame_eq] at hexec
    exact ⟨_, hexec, rfl, fun j i hj hi => get_nearStored _ hj hi, rfl⟩
  case fog =>
    intro s l d hup hn htyp hdev hcrc hlong hhere hfits hp hours hlost hnew
    have h : EdgingPasses s l d := ⟨hdev, hcrc, hlong, hhere, hfits⟩
    have hexec := (exec_edgingRecord_typed hup hn (.inr htyp)).trans (congrArg _ (h.ours hp hours hlost))
    rw [storeEdging_fog htyp hnew, sendReply_recordCame l d 0 (by rfl), State.recordCame_eq] at hexec
    exact ⟨_, hexec, rfl, fun i hi => get_fogStored _ hi, rfl⟩
  case fromLost =>
    intro s l d hup hn htyp hdev hcrc hlong hhere hfits hp hours hlost
    have h : EdgingPasses s l d := ⟨hdev, hcrc, hlong, hhere, hfits⟩
    rw [exec_edgingRecord_typed hup hn htyp, h.fromLost hp hours hlost]
  case notOurs =>
    intro s l d hup hn htyp hdev hcrc hlong hhere hfits hp hours
    have h : EdgingPasses s l d := ⟨hdev, hcrc, hlong, hhere, hfits⟩
    rw [exec_edgingRecord_typed hup hn htyp, h.notOurs hp hours]
  case seamUnknownNode =>
    intro s l hup hn hdev
    rw [exec_seamRecord hup hn, seamRecord_unknownNode hdev]
    rfl
  case seamBad =>
    intro s l d hup hn hdev hbad
    rw [exec_seamRecord hup hn, seamRecord_bad hdev hbad]
    rfl
  case seamNotOurs =>
    intro s l d hup hn hdev hcrc hlong hseam hhere hfits hours
    have h : SeamPasses s l d := ⟨hdev, hcrc, hlong, hseam, hhere, hfits⟩
    rw [exec_seamRecord hup hn, h.notOurs hours]
  case seamEdge =>
    intro s l d ok hup hn hdev hcrc hlong hseam hhere hfits hours hrow hnone hok
    have h : SeamPasses s l d := ⟨hdev, hcrc, hlong, hseam, hhere, hfits⟩
    have hexec := (exec_seamRecord hup hn l).trans (congrArg _ (h.ours hours))
    rw [storeSeam_compareSeam_edge hrow hok, runCapacity_of_nothing ((rowsToCheck_edgeCame _ _ _ _).trans hnone),
      sendReply_seamCame (r := s.raiseIf (!ok) .PLN_SEAM_MISMATCH) s l d 0 rfl, State.seamCame_eq] at hexec
    exact ⟨_, hexec, rfl, rfl⟩
  case seamRow =>
    intro s l d hup hn hdev hcrc hlong hseam hhere hfits hours hrow hplan hedge hnew hver _
    have h : SeamPasses s l d := ⟨hdev, hcrc, hlong, hseam, hhere, hfits⟩
    have hexec := (exec_seamRecord hup hn l).trans (congrArg _ (h.ours hours))
    have hnone := rowsToCheck_of_verified_zero ((congrArg StoreSt.verified (storeSeam_row_store hrow hnew)).trans hver)
    rw [compareSeam_matching hrow hplan hedge, runCapacity_of_nothing hnone] at hexec
    have hheld : (sendReply l d 0 (s.seamCame l (storeSeam l s))).plan.seamHave = s.plan.seamHave ++ [(byteAt l 1, leAt l 0xC 4)] := by
      rw [sendReply, sendRecord_eq, State.seamCame_eq, storeSeam_row_plan hrow hnew]
      rfl
    refine ⟨_, hexec, hheld, fun _ hdue => ?_⟩
    rw [hheld] at hdue
    rw [storeSeam_row_incomplete hrow hnew hdue, sendReply_seamCame (r := s.seamRowWritten l) s l d 0 rfl]
    rfl
  case settled =>
    intro s l d hup hn htyp hdev hwhole hcrc hhere hother hcode
    have h : ReplyPasses s l d := ⟨hdev, hwhole, hcrc, hhere, hother⟩
    have hreply : 0x80 ≤ byteAt l 0 := by omega
    rw [exec_edgingReply hup hn htyp, h.settled hcode, CorrSt.dropAnswered]
    simp only [← KeptRecord.answeredBy_iff _ l d hreply, Bool.decide_eq_true]
  case mismatched =>
    intro s l d r hup hn htyp hdev hwhole hcrc hhere hother hcode hkept htypr hdst hstripe hrow hcount
    have h : ReplyPasses s l d := ⟨hdev, hwhole, hcrc, hhere, hother⟩
    have hans : r.answeredBy l d = true := (r.answeredBy_iff l d (by omega)).2 ⟨htypr, hdst, hstripe, hrow, hcount⟩
    rw [exec_edgingReply hup hn (by omega), h.mismatched hcode htyp (by simp [hkept]) hans]
    simp [CorrSt.dropAnswered, hkept, hans]
  case retry =>
    intro s r hup hn hkept hdue
    exact ⟨_, (exec_edgingRetry hup hn).trans (congrArg _ (edgingRetry_due hkept hdue)), rfl, rfl⟩
  case noRetry =>
    intro s hup hn hlater
    rw [exec_edgingRetry hup hn, edgingRetry_nothingDue hlater]
  case edgingLost =>
    intro s d a hup hn hwait honce hlate
    refine ⟨_, (exec_corEdgingLost hup hn d).trans (congrArg _ (doEdgingLost_late hwait honce hlate)), ?_, ?_, ?_, ?_⟩
    · rw [State.raise_corr, lostBit_eq]
    · exact State.raise_fault_congr (by rw [lostBit_eq]; rfl) _
    · rw [State.fd_raise, State.fd_raise]
      exact fd_lostBit d.isLt _
    · rw [State.raise_eq, lostBit_eq]
      rfl
  case seamLost =>
    intro s d a hup hn hwait hlate
    refine ⟨_, (exec_plnSeamLost hup hn d).trans (congrArg _ (doSeamLost_late hwait hlate)), ?_, ?_, ?_, ?_⟩
    · rw [State.raise_plan]
      exact Vector.getElem_setIfInBounds_self d.isLt
    · exact State.raise_fault_congr (by rfl) _
    · rw [State.fd_raise]
      exact State.fd_setFlag_same _ _ 0 (by decide) (Nat.pow_lt_pow_right (by decide) d.isLt)
    · rw [State.raise_eq]
      rfl

end Sys2Proof.Machine

/-! PROOFS. A row of the factor map that meets an armed injection (R207, R219, R449). -/

namespace Sys2Proof.Machine

/-! ## The event -/

theorem State.edgeDram_up {s : State} (h : s.up) (hn : s.native = true) (hf : s.hbm.filling = false) (f : State → State) :
    s.edgeDram f = f s := by
  rw [State.edgeDram, State.edgeOpen_up h hn, hf, if_neg Bool.false_ne_true]

theorem exec_corrRowFinal {s : State} (h : s.up) (hn : s.native = true) (hf : s.hbm.filling = false) :
    exec .corrRowFinal s = .next (corrRowFinal s) :=
  congrArg Host.Outcome.next (State.edgeDram_up h hn hf _)

/-! ## A row of the factor map on an armed injection -/

/-- ENABLE = 0, 128 lines, the coverage of the first 64 delivered and two block rows coded: rows −1 and 0 of the factor map are final and row 1
is not. An injection of one data bit is armed for the first codeword of the map's body (R449). -/
def injectedRow : State :=
  { State.reset with
    regs := (State.reset.setFd F.PLAN_STRIPE_LINES_LINES 128).regs
    glob := { GlobalSt.reset with ready := true }
    str := { Structure.safeStructure with safe := false, rowsSel := 2, pipes := [⟨15, 15, 0, 0⟩], parts := [(0, 2 ^ 34)] }
    hbm := { HbmSt.reset with filling := false, inject := some (1, 64) }
    plan := { PlanSt.reset with state := .armed }
    store := { StoreSt.reset with coded := 2 }
    bob := { BobSt.reset with queues := BobSt.reset.queues.set 0 { TileQueue.empty with delivered := 2 } } }

/-- The stripe may go on: a live source in ARMED, correction not stopped, DRAM and the power budget there. -/
theorem injectedRow_runs : injectedRow.up ∧ injectedRow.native = true ∧ injectedRow.plan.state.active = true ∧
    injectedRow.fromStore = false ∧ injectedRow.corr.stopped = false ∧ injectedRow.corr.densityMissing = false ∧
    injectedRow.hbm.filling = false ∧ injectedRow.hbm.accessible = true ∧ injectedRow.fullGrant classCorr := by decide +kernel

/-- Row 0 is final, row 1 is not, and no further block row has its coverage. -/
theorem injectedRow_final : injectedRow.fmapBase + 64 + 2 * injectedRow.fmapCols * injectedRow.fmapRows ≤ dramEnd ∧
    injectedRow.corr.rowsFinal = 0 ∧ 0 < injectedRow.cellRows ∧ injectedRow.rowFinal 0 = true ∧ injectedRow.rowFinal (0 + 1) = false ∧
    injectedRow.covLines < min injectedRow.lines (32 * injectedRow.store.coded + 32) := by decide +kernel

/-- The write of the rows meets the injection, which is then disarmed (R449). -/
theorem corrRowFinal_injectedRow : (corrRowFinal injectedRow).hbm.inject = none := by decide +kernel

/-! ## The statement -/

/-- Refutes O29: the rows of the factor map that CORR_ROW_FINAL writes from `injectedRow` use up the injection that is armed for their first
codeword (R449); the clause of the final row claims that the DRAM controller stays as it is. -/
theorem not_rowsAndLines : ¬ Obligations.RowsAndLines := by
  unfold Obligations.RowsAndLines
  rintro ⟨hfinal, -⟩
  obtain ⟨hup, hn, hactive, hsource, hstopped, hdensity, hfill, hacc, hgrant⟩ := injectedRow_runs
  obtain ⟨hmap, hrow, hlt, hthis, hnext, hcov⟩ := injectedRow_final
  obtain ⟨t, hexec, -, -, hframe⟩ := hfinal injectedRow 0 hup hn hactive hsource hstopped hdensity hfill hacc hgrant hmap hrow hlt hthis
    hnext hcov
  have ht : corrRowFinal injectedRow = t := Host.Outcome.next.inj ((exec_corrRowFinal hup hn hfill).symm.trans hexec)
  have hinject : t.hbm.inject = none := ht ▸ corrRowFinal_injectedRow
  rw [hframe] at hinject
  cases hinject

end Sys2Proof.Machine

/-! PROOFS. Beam scans (R283 to R287, R475): how a scan is refused or starts, and what its end and its ABORT leave. -/

namespace Sys2Proof.Machine

variable {s : State} {sc : ScanSt}

/-! ## The events -/

theorem exec_electrical (h : s.runs) : exec .electrical s = .next (doScanStart .electrical s.cmdSeen) :=
  congrArg Host.Outcome.next (State.hostCmd_wake h _ rfl rfl)

theorem exec_gate (h : s.runs) : exec .gate s = .next (doScanStart .gate s.cmdSeen) :=
  congrArg Host.Outcome.next (State.hostCmd_wake h _ rfl rfl)

/-- Where no ARM of the cycle has met a scan, the end of a scan judges none. -/
theorem scanEnd_noArm (h : s.saw .armInScan = false) (f : State → State) : scanEnd f s = f s := by
  rw [scanEnd, h, Bool.false_and, if_neg Bool.false_ne_true]

theorem exec_scanAbort (h : s.runs) (hc : s.cyc = []) : exec .scanAbort s = .next (doScanAbort s.cmdSeen) := by
  have hsaw : s.cmdSeen.saw .armInScan = false := by rw [State.saw, State.cmdSeen_cyc, hc]; decide
  rw [← scanEnd_noArm hsaw doScanAbort]
  exact congrArg Host.Outcome.next (State.hostCmd_wake h _ rfl rfl)

theorem exec_scanDone (h : s.up) (hsaw : s.saw .armInScan = false) : exec .scanDone s = .next (doScanDone s) := by
  rw [← scanEnd_noArm hsaw doScanDone]
  exact congrArg Host.Outcome.next (State.whenReady_up h _)

/-! ## What a latched CMD wake event leaves as it is -/

/-- The wake event writes POWER_WAKE_STATUS alone. -/
theorem State.fd_cmdSeen (s : State) {x : RegField} (i : Nat) (h : x.reg ≠ .POWER_WAKE_STATUS) : s.cmdSeen.fd x i = s.fd x i :=
  State.fd_setFd_reg _ _ _ _ _ _ (fun hreg => h hreg.1)

theorem State.slot_cmdSeen (s : State) (n : Nat) : s.cmdSeen.slot n = s.slot n := rfl

theorem State.scanTarget_cmdSeen (s : State) (k : ScanKind) : s.cmdSeen.scanTarget k = s.scanTarget k := by
  cases k with
  | electrical => rfl
  | gate => exact s.fd_cmdSeen 0 (by decide)

/-- The payload reads the device's index, the target, the staged map and the staged trims. -/
theorem State.scanPayload_cmdSeen (s : State) (sc : ScanSt) (fault : Nat) (applied : Bool) :
    s.cmdSeen.scanPayload sc fault applied = s.scanPayload sc fault applied := by
  have hentry : s.cmdSeen.scanEntry sc = s.scanEntry sc := by
    funext b
    rw [State.scanEntry, State.scanEntry, s.scanTarget_cmdSeen]
    rfl
  simp only [State.scanPayload, hentry, s.scanTarget_cmdSeen]

/-! ## The start of a scan (R283 to R285) -/

/-- The scan of kind k that starts now: nothing measured yet, the baseline window of a gate scan open. -/
def State.newScan (s : State) (k : ScanKind) : ScanSt :=
  { kind := k, startedAt := s.now, slot := s.fd F.PLAN_SCAN_SLOT_SLOT, entries := [], lanesDone := 0, baseline := none, item := 0, sub := 0,
    failing := [], d1 := 0, window := if k == .gate then some (s.stageT + s.windowLen) else none, sum := 0, finished := false, fault := 0 }

/-- The planner runs the new scan, its result slot is claimed and the cycle notes what the scan displaced. -/
def State.claimScan (s : State) (k : ScanKind) : State :=
  (slotClaim (s.fd F.PLAN_SCAN_SLOT_SLOT) 1 0 { s with plan := { s.plan with scan := some (s.newScan k) } }).mark
    (.produced 1 (s.fd F.PLAN_SCAN_SLOT_SLOT) (s.slot (s.fd F.PLAN_SCAN_SLOT_SLOT)) s.caril.measureReq s.caril.measureAbort)

theorem doScanStart_refused {k : ScanKind} (h : s.scanOk k = false) : doScanStart k s = s.raise .PLN_SCAN_BUSY := by
  rw [doScanStart, h, Bool.not_false, if_pos rfl]

section
variable {k : ScanKind} (hok : s.scanOk k = true)
include hok

theorem doScanStart_slotTaken (hslot : (s.slot (s.fd F.PLAN_SCAN_SLOT_SLOT)).st ≠ .free) : doScanStart k s = s.raise .HST_SLOT_BUSY := by
  simp [doScanStart, hok, hslot]

theorem doScanStart_accepted (hslot : (s.slot (s.fd F.PLAN_SCAN_SLOT_SLOT)).st = .free) : doScanStart k s =
    if k == .gate then s.claimScan k
    else { s.claimScan k with caril := { (s.claimScan k).caril with measureReq := 0xFFFF, measureAbort := 0 } } := by
  simp only [doScanStart, hok, hslot, Bool.not_true, Bool.false_eq_true, bne_self_eq_false, if_false]
  rfl

end

/-! ## The result slot is filled (R475) -/

/-- A vector touches no slot. -/
@[simp] theorem State.slot_irq (s : State) (v n : Nat) : (s.irq v).slot n = s.slot n := by
  unfold State.irq
  split
  · rfl
  · exact congrArg (fun d : DmaSt => (d.slots[n]?).getD Slot.fresh) (State.emit_dma _ _)

theorem State.slot_setSlot_same (s : State) {n : Nat} (x : Slot) (h : n < 256) : (s.setSlot n x).slot n = x := by
  simp [State.slot, State.setSlot, h]

theorem slotFillProducer_slot {n : Nat} (h : n < 256) (data : List Word) (s : State) :
    (slotFillProducer n data s).slot n = { s.slot n with st := .ready, data := data } := by
  rw [slotFillProducer, State.slot_irq, slotFill, State.slot_setSlot_same _ _ h]

/-- Filling a producer's slot changes the host interface and what leaves the device. -/
theorem slotFillProducer_eq (n : Nat) (data : List Word) (s : State) :
    slotFillProducer n data s = { s with dma := (slotFillProducer n data s).dma, out := (slotFillProducer n data s).out } :=
  State.irq_eq (slotFill n data s) 69

/-- A slot is of the host interface. -/
theorem State.slot_congr {t : State} (h : t.dma = s.dma) (n : Nat) : t.slot n = s.slot n := by
  rw [State.slot, State.slot, h]

/-! ## What the end of a scan leaves (R287) -/

/-- No scan runs and no lane is asked to measure. -/
def State.scanOver (s : State) : State :=
  { s with plan := { s.plan with scan := none }, caril := { s.caril with measureReq := 0 } }

theorem State.slot_scanOver (s : State) (n : Nat) : s.scanOver.slot n = s.slot n := rfl

/-- The filled slot and the end of the scan leave everything but the planner, the lanes, the host interface and what leaves the device. -/
theorem scanOver_slotFillProducer_eq (n : Nat) (data : List Word) (s : State) : (slotFillProducer n data s).scanOver =
    { s with plan := { s.plan with scan := none }, caril := { s.caril with measureReq := 0 },
             dma := (slotFillProducer n data s).dma, out := (slotFillProducer n data s).out } :=
  congrArg State.scanOver (slotFillProducer_eq n data s)

/-- A scan that ends over planner p and lanes c of state s: no scan, no lane asked, the slot filled, the rest of s as it was. -/
theorem scanOver_slotFillProducer {r : State} {p : PlanSt} {c : CarilSt} (hr : r = { s with plan := p, caril := c }) {n : Nat} (hn : n < 256)
    {data : List Word} {t : State} (ht : t = (slotFillProducer n data r).scanOver) :
    t.plan = { p with scan := none } ∧ t.caril = { c with measureReq := 0 } ∧ t.slot n = { s.slot n with st := .ready, data := data } ∧
      t = { s with plan := t.plan, caril := t.caril, dma := t.dma, out := t.out } := by
  have hslot : t.slot n = { r.slot n with st := .ready, data := data } := by
    rw [ht, State.slot_scanOver, slotFillProducer_slot hn]
  rw [scanOver_slotFillProducer_eq] at ht
  subst hr
  exact ⟨by rw [ht], by rw [ht], hslot, by rw [ht]⟩

/-! ## ABORT (R287, R312) -/

/-- The lanes that measure for an electrical scan are told to stop. -/
def State.stopMeasure (s : State) (k : ScanKind) : State :=
  { s with caril := { s.caril with measureAbort := if k = .electrical then 0xFFFF else s.caril.measureAbort } }

theorem doScanAbort_running (h : s.plan.scan = some sc) : doScanAbort s =
    ((slotFillProducer sc.slot (s.scanPayload sc FaultCode.PLN_SCAN_IMPLAUSIBLE.num false)
      (s.raise .PLN_SCAN_IMPLAUSIBLE)).scanOver).stopMeasure sc.kind := by
  rw [doScanAbort, h]
  rfl

/-! ## The end of a plausible scan (R286, R287) -/

/-- One result of the scan enters the staged map and the staged trims. -/
def applyEntry (p : PlanSt × CarilSt) (e : Nat × Nat × Nat × Nat × Nat × Nat) : PlanSt × CarilSt :=
  ({ p.1 with defStaged := Sparse.set goodEntry p.1.defStaged e.1 e.2.1 },
   { p.2 with trimStaged := Sparse.set 0 p.2.trimStaged e.1 e.2.2.1 })

/-- Staging a scan's results reads and changes the planner and the lanes alone. -/
theorem applyScan_eq (sc : ScanSt) (s : State) : applyScan sc s =
    { s with plan := (sc.entries.foldl applyEntry (s.plan, s.caril)).1, caril := (sc.entries.foldl applyEntry (s.plan, s.caril)).2 } := by
  unfold applyScan
  induction sc.entries generalizing s with
  | nil => rfl
  | cons e l ih => rw [List.foldl_cons, ih]; rfl

@[simp] theorem applyScan_dma (sc : ScanSt) (s : State) : (applyScan sc s).dma = s.dma := by
  rw [applyScan_eq]

@[simp] theorem dramWrite_caril (a : Nat) (l : List Byte) (s : State) : (dramWrite a l s).caril = s.caril := by
  rw [dramWrite_eq]

@[simp] theorem dramWrite_dma (a : Nat) (l : List Byte) (s : State) : (dramWrite a l s).dma = s.dma := by
  rw [dramWrite_eq]

/-- What a scan stages does not depend on a write to DRAM before it. -/
theorem applyScan_dramWrite (sc : ScanSt) (a : Nat) (l : List Byte) (s : State) : applyScan sc (dramWrite a l s) =
    { dramWrite a l s with plan := (applyScan sc s).plan, caril := (applyScan sc s).caril } := by
  simp only [applyScan_eq, dramWrite_plan, dramWrite_caril]

theorem doScanDone_none (h : s.plan.scan = none) : doScanDone s = s := by
  rw [doScanDone, h]

/-- All lanes have reported, no fault stands and few beams have changed: the scan is good, and an electrical scan is always of this device. -/
theorem doScanDone_applied (h : s.plan.scan = some sc) (hkind : sc.kind = .electrical) (hlanes : sc.lanesDone = 0xFFFF)
    (hfault : sc.fault = 0)
    (hchanged : (sc.entries.filter (fun e => bit e.2.2.2.1 1 == 1)).length ≤ s.fd F.PLAN_SCAN_LEAK_MAX_CHANGE)
    (happly : s.fb F.PLAN_SCAN_CFG_APPLY = true) :
    doScanDone s = (slotFillProducer sc.slot (s.scanPayload sc 0 true)
      (applyScan sc (dramWrite s.scanTableBase (s.scanTable sc) s))).scanOver := by
  simp [doScanDone, h, hkind, hlanes, hfault, hchanged, happly, State.scanTarget, State.raiseIf, State.scanOver]

/-! ## The statement -/

/-- Settles O23: an accepted start is `claimScan`, each refusal raises its one fault, ABORT and a plausible end fill the slot and leave
`scanOver`; the write of the table does not touch what the scan stages (`applyScan_dramWrite`). -/
theorem beamScans : Obligations.BeamScans := by
  unfold Obligations.BeamScans
  have hslotFd : ∀ s : State, s.cmdSeen.fd F.PLAN_SCAN_SLOT_SLOT = s.fd F.PLAN_SCAN_SLOT_SLOT := fun s => s.fd_cmdSeen 0 (by decide)
  refine ⟨?electrical, ?gate, ?refused, ?slotTaken, ?abort, ?plausible, ?noScan⟩
  case electrical =>
    intro s h hok hfree
    rw [← hslotFd] at hfree ⊢
    exact ⟨_, s.cmdSeen.newScan .electrical, (exec_electrical h).trans (congrArg _ (doScanStart_accepted hok hfree)),
      rfl, rfl, rfl, rfl, rfl, rfl, rfl⟩
  case gate =>
    intro s h hok hfree
    have hwindow : s.cmdSeen.windowLen = s.windowLen := by
      rw [State.windowLen, State.windowLen, State.dwell, State.dwell, s.fd_cmdSeen 0 (by decide)]
    rw [← hslotFd] at hfree ⊢
    rw [← hwindow]
    exact ⟨_, s.cmdSeen.newScan .gate, (exec_gate h).trans (congrArg _ (doScanStart_accepted hok hfree)),
      rfl, rfl, rfl, rfl, rfl, rfl⟩
  case refused =>
    intro s h hok
    rw [exec_electrical h, doScanStart_refused hok]
  case slotTaken =>
    intro s h hok htaken
    rw [← hslotFd] at htaken
    rw [exec_gate h, doScanStart_slotTaken hok htaken]
  case abort =>
    intro s sc h hc hscan hslot
    have hraise : s.cmdSeen.raise .PLN_SCAN_IMPLAUSIBLE =
        { s.cmdSeen.raise .PLN_SCAN_IMPLAUSIBLE with plan := s.plan, caril := s.caril } := by rw [State.raise_eq]; rfl
    obtain ⟨hplan, hcaril, hdata, hframe⟩ :=
      scanOver_slotFillProducer hraise hslot (data := s.scanPayload sc FaultCode.PLN_SCAN_IMPLAUSIBLE.num false) rfl
    rw [State.slot_congr (State.raise_dma _ _), State.slot_cmdSeen] at hdata
    rw [exec_scanAbort h hc, doScanAbort_running (s := s.cmdSeen) hscan, s.scanPayload_cmdSeen]
    exact ⟨_, rfl, hplan, by rw [State.stopMeasure, hcaril], hdata, congrArg (State.stopMeasure · sc.kind) hframe⟩
  case plausible =>
    intro s sc h hc hscan hslot hkind hlanes hfault hchanged happly
    have hsaw : s.saw .armInScan = false := by rw [State.saw, hc]; rfl
    have hexec := (exec_scanDone h hsaw).trans (congrArg _ (doScanDone_applied hscan hkind hlanes hfault hchanged happly))
    obtain ⟨hplan, hcaril, hdata, hframe⟩ :=
      scanOver_slotFillProducer (applyScan_dramWrite sc s.scanTableBase (s.scanTable sc) s) hslot (data := s.scanPayload sc 0 true) rfl
    rw [State.slot_congr (dramWrite_dma _ _ s)] at hdata
    exact ⟨_, hexec, hplan, hcaril, hdata, hframe⟩
  case noScan =>
    intro s h hnone hsaw
    rw [exec_scanDone h hsaw, doScanDone_none hnone]

end Sys2Proof.Machine

/-! PROOFS. The lanes: what a lane reads after another has changed, what a pass over the lanes makes of each, how the damp
generators take them (R303, R304), and what a damp does to a native stripe (R36, R39, R48). -/

namespace Sys2Proof.Machine

variable {s : State}

/-! ## Reading a lane -/

/-- Lanes from 18 on stay asleep, whatever is stored. -/
theorem State.lane_setLane (s : State) {n : Nat} (l : Lane) (h : n < 18) (m : Nat) :
    (s.setLane n l).lane m = if m = n then l else s.lane m := by
  by_cases hm : m = n
  · subst hm; simp [State.lane, State.setLane, h]
  · simp [State.lane, State.setLane, hm, Ne.symm hm]

@[simp] theorem State.lane_setLane_same (s : State) (n : Fin 18) (l : Lane) : (s.setLane n l).lane n = l := by
  rw [State.lane_setLane s l n.isLt, if_pos rfl]

/-- A lane that is replaced twice holds the second. -/
@[simp] theorem State.setLane_setLane (s : State) (n : Nat) (a b : Lane) : (s.setLane n a).setLane n b = s.setLane n b := by
  simp [State.setLane]

@[simp] theorem State.setLane_lane (s : State) (n : Nat) : s.setLane n (s.lane n) = s := by
  have hset : s.caril.lanes.setIfInBounds n (s.lane n) = s.caril.lanes := by
    ext i hi
    rw [Vector.getElem_setIfInBounds]
    split
    · rename_i hni; subst hni; simp [State.lane, hi]
    · rfl
  rw [State.setLane, hset]

theorem State.lane_of_le (s : State) {n : Nat} (h : 18 ≤ n) : s.lane n = Lane.asleep := by
  simp [State.lane, Nat.not_lt.2 h]

theorem State.lane_congr {t : State} (h : t.caril.lanes = s.caril.lanes) (n : Nat) : t.lane n = s.lane n := by
  rw [State.lane, State.lane, h]

/-- A pass over different lanes, each step of which turns its own lane into g of it and leaves the others, while P holds throughout. -/
theorem lane_foldl {P : State → Prop} {f : State → Nat → State} {g : Nat → Lane → Lane} (hP : ∀ s n, P s → P (f s n))
    (hf : ∀ s n m, P s → (f s n).lane m = if m = n then g n (s.lane n) else s.lane m) {l : List Nat} (hl : l.Nodup)
    (hs : P s) (m : Nat) : (l.foldl f s).lane m = if m ∈ l then g m (s.lane m) else s.lane m := by
  induction l generalizing s with
  | nil => rfl
  | cons n l ih =>
    obtain ⟨hn, hl⟩ := List.nodup_cons.1 hl
    rw [List.foldl_cons, ih hl (hP s n hs), hf s n m hs]
    by_cases hm : m = n
    · subst hm; simp [hn]
    · simp [hm]

/-! ## Registers -/

@[simp] theorem State.rg_emit (s : State) (o : Out) (r : Reg) (i : Nat) : (s.emit o).rg r i = s.rg r i := by
  rw [State.emit_eq]; rfl

/-! ## The generators (R303, R304) -/

/-- Lane n as the damp generator takes it: a lane in DATA ends its frame (R303). -/
def Lane.taken (l : Lane) (now : Nat) : Lane := if l.tx = .data then (l.cut now).1 else l

theorem Lane.taken_idle {l : Lane} (h : l.tx ≠ .data) (now : Nat) : l.taken now = l := if_neg h

/-- A frame that is cut leaves nothing on the wire. -/
theorem Lane.taken_wire {l : Lane} (h : l.tx = .data) (now : Nat) : (l.taken now).wire = none := by
  rw [Lane.taken, if_pos h, Lane.cut]
  cases hw : l.wire with
  | none => exact hw
  | some t => dsimp only; split <;> rfl

theorem Lane.taken_echoOk (l : Lane) (now : Nat) : (l.taken now).echoOk = l.echoOk := by
  rw [Lane.taken, Lane.cut]
  split
  · cases l.wire with
    | none => rfl
    | some t => dsimp only; split <;> rfl
  · rfl

theorem damplane_idle {n : Nat} (h : (s.lane n).tx ≠ .data) : damplane s n = s := by
  simp [damplane, h]

/-- A frame that is cut on lane n is counted, and its ABORT block leaves (R303). -/
def State.frameCut (s : State) (n : Nat) (b : Bool) : State :=
  if b then (s.emit (.abortBlock n)).bump F.CARIL_ABORTS_COUNT else s

theorem State.frameCut_eq (s : State) (n : Nat) (b : Bool) :
    s.frameCut n b = { s with regs := (s.frameCut n b).regs, out := (s.frameCut n b).out } := by
  cases b with
  | false => rfl
  | true => rw [State.frameCut, if_pos rfl, State.emit_eq]; rfl

theorem State.rg_frameCut (s : State) (n : Nat) (b : Bool) {r : Reg} (i : Nat) (h : r ≠ .CARIL_ABORTS) :
    (s.frameCut n b).rg r i = s.rg r i := by
  cases b with
  | false => rfl
  | true => exact (State.rg_setFd_ne _ _ _ _ _ _ h).trans (State.rg_emit _ _ _ _)

theorem damplane_data {n : Nat} (h : (s.lane n).tx = .data) : damplane s n =
    if s.native then ((s.setLane n ((s.lane n).taken s.now)).frameCut n ((s.lane n).cut s.now).2).emit (.hardDamp n)
    else (s.setLane n ((s.lane n).taken s.now)).frameCut n ((s.lane n).cut s.now).2 := by
  rw [Lane.taken, if_pos h, damplane, if_neg (by simp [h])]
  rfl

/-- Beside its lane a generator changes the count of cut frames and what leaves the device. -/
theorem damplane_eq (s : State) (n : Nat) : damplane s n =
    { s.setLane n ((s.lane n).taken s.now) with regs := (damplane s n).regs, out := (damplane s n).out } := by
  by_cases h : (s.lane n).tx = .data
  · rw [damplane_data h]
    split
    · rw [State.emit_eq, State.frameCut_eq]
    · rw [State.frameCut_eq]
  · rw [damplane_idle h, Lane.taken_idle h, State.setLane_lane]

theorem rg_damplane (s : State) (n : Nat) {r : Reg} (i : Nat) (h : r ≠ .CARIL_ABORTS) : (damplane s n).rg r i = s.rg r i := by
  by_cases hd : (s.lane n).tx = .data
  · rw [damplane_data hd]
    split
    · rw [State.rg_emit, State.rg_frameCut _ _ _ _ h]; rfl
    · rw [State.rg_frameCut _ _ _ _ h]; rfl
  · rw [damplane_idle hd]

theorem lane_damplane (s : State) (n m : Nat) : (damplane s n).lane m = if m = n then (s.lane n).taken s.now else s.lane m := by
  rw [damplane_eq]
  by_cases hn : n < 18
  · exact State.lane_setLane s _ hn m
  · have hidle : (s.lane n).taken s.now = s.lane n := by rw [s.lane_of_le (Nat.not_lt.1 hn)]; rfl
    rw [hidle, State.setLane_lane]
    split
    · rename_i h; rw [h]; rfl
    · rfl

theorem dampLanes_eq (s : State) (l : List Nat) : dampLanes s l = { s with
    caril := { s.caril with lanes := (dampLanes s l).caril.lanes }, regs := (dampLanes s l).regs, out := (dampLanes s l).out } := by
  unfold dampLanes
  induction l generalizing s with
  | nil => rfl
  | cons n l ih => rw [List.foldl_cons, ih, damplane_eq]; rfl

theorem rg_dampLanes (s : State) (l : List Nat) {r : Reg} (i : Nat) (h : r ≠ .CARIL_ABORTS) : (dampLanes s l).rg r i = s.rg r i :=
  foldl_keeps (fun t : State => t.rg r i) damplane (fun t n => rg_damplane t n i h) l s

/-- The damp generators take every lane of the device. -/
@[irreducible] def State.lanesTaken (s : State) : State := dampLanes s (List.range 18)

section
variable (s)

theorem State.lanesTaken_eq : s.lanesTaken = { s with
    caril := { s.caril with lanes := s.lanesTaken.caril.lanes }, regs := s.lanesTaken.regs, out := s.lanesTaken.out } := by
  unfold State.lanesTaken; exact dampLanes_eq s (List.range 18)

theorem State.rg_lanesTaken {r : Reg} (i : Nat) (h : r ≠ .CARIL_ABORTS) : s.lanesTaken.rg r i = s.rg r i := by
  unfold State.lanesTaken; exact rg_dampLanes s (List.range 18) i h

@[simp] theorem State.lane_lanesTaken (m : Nat) : s.lanesTaken.lane m = (s.lane m).taken s.now := by
  have hnow : ∀ (t : State) (n : Nat), t.now = s.now → (damplane t n).now = s.now := fun t n h => by rw [damplane_eq]; exact h
  have hlane : ∀ (t : State) (n k : Nat), t.now = s.now →
      (damplane t n).lane k = if k = n then (t.lane n).taken s.now else t.lane k := fun t n k h => by rw [lane_damplane, h]
  unfold State.lanesTaken
  rw [dampLanes, lane_foldl (g := fun _ l => l.taken s.now) hnow hlane List.nodup_range rfl]
  split
  · rfl
  · rename_i hm
    rw [s.lane_of_le (by simpa using hm)]
    rfl

@[simp] theorem State.lanesTaken_plan : s.lanesTaken.plan = s.plan := by rw [State.lanesTaken_eq]
@[simp] theorem State.lanesTaken_str : s.lanesTaken.str = s.str := by rw [State.lanesTaken_eq]
@[simp] theorem State.lanesTaken_now : s.lanesTaken.now = s.now := by rw [State.lanesTaken_eq]
@[simp] theorem State.lanesTaken_cad : s.lanesTaken.cad = s.cad := by rw [State.lanesTaken_eq]
@[simp] theorem State.lanesTaken_freeCount : s.lanesTaken.freeCount = s.freeCount := by rw [State.lanesTaken_eq]
@[simp] theorem State.lanesTaken_latch : s.lanesTaken.caril.latch = s.caril.latch := by rw [State.lanesTaken_eq]
@[simp] theorem State.lanesTaken_cause : s.lanesTaken.caril.cause = s.caril.cause := by rw [State.lanesTaken_eq]

end

/-! ## What a damp does besides (R303, R304) -/

theorem State.cadDue_eq (s : State) (c : CadCmd) : s.cadDue c = { s with cad := (s.cadDue c).cad } := by
  unfold State.cadDue; split <;> rfl

/-- Where a device is no lead of a column, no command joins the queue of the link (R362). -/
theorem State.cadDue_notLead (h : s.str.role ≠ .lead) (c : CadCmd) : s.cadDue c = s := by
  simp [State.cadDue, h]

theorem State.setLatch_eq (s : State) (cause : Nat) : s.setLatch cause =
    { s with caril := { s.caril with latch := true, cause := if s.caril.latch then s.caril.cause else cause } } := by
  unfold State.setLatch
  split
  · rename_i h; simp [← h]
  · rfl

/-- What a damp source does beside taking the lanes: a local one sets LATCH, is queued for the column and noted. -/
def State.sourced (s : State) (loc : Bool) (cause node : Nat) : State :=
  if loc then ((s.setLatch cause).cadDue ⟨5, cause, node⟩).mark .localSource else s

section
variable (s) (loc : Bool) (cause node : Nat)

theorem State.sourced_eq : s.sourced loc cause node = { s with
    caril := { s.caril with
      latch := s.caril.latch || loc, cause := if loc && !s.caril.latch then cause else s.caril.cause }
    cad := (s.sourced loc cause node).cad, cyc := (s.sourced loc cause node).cyc } := by
  cases loc with
  | false => simp [State.sourced]
  | true =>
    rw [State.sourced, if_pos rfl, State.cadDue_eq, State.setLatch_eq]
    cases s.caril.latch <;> simp [State.mark]

/-- On a device that is no lead nothing is queued for the column. -/
theorem State.sourced_notLead (h : s.str.role ≠ .lead) : (s.sourced loc cause node).cad = s.cad := by
  cases loc with
  | false => rfl
  | true =>
    have hrole : (s.setLatch cause).str.role ≠ .lead := by rw [State.setLatch_eq]; exact h
    rw [State.sourced, if_pos rfl, State.cadDue_notLead hrole, State.setLatch_eq]
    rfl

@[simp] theorem State.sourced_plan : (s.sourced loc cause node).plan = s.plan := by rw [State.sourced_eq]
@[simp] theorem State.sourced_str : (s.sourced loc cause node).str = s.str := by rw [State.sourced_eq]
@[simp] theorem State.sourced_now : (s.sourced loc cause node).now = s.now := by rw [State.sourced_eq]
@[simp] theorem State.sourced_regs : (s.sourced loc cause node).regs = s.regs := by rw [State.sourced_eq]
@[simp] theorem State.sourced_freeCount : (s.sourced loc cause node).freeCount = s.freeCount := by rw [State.sourced_eq]
@[simp] theorem State.sourced_lanes : (s.sourced loc cause node).caril.lanes = s.caril.lanes := by rw [State.sourced_eq]
@[simp] theorem State.sourced_latch : (s.sourced loc cause node).caril.latch = (s.caril.latch || loc) := by rw [State.sourced_eq]
@[simp] theorem State.sourced_cause :
    (s.sourced loc cause node).caril.cause = if loc && !s.caril.latch then cause else s.caril.cause := by rw [State.sourced_eq]

end

/-! ## The abort of the stripe (R36, R39, R48) -/

/-- The line and the pass a damp records: those of the stripe, lowered to its own where it has some (R315). -/
def State.dampWhere (s : State) (at_ : Option (Nat × Nat)) : Nat × Nat :=
  match at_ with
  | none => s.abortWhere
  | some a => (min s.abortWhere.1 a.1, a.2)

/-- The abort record (R48). -/
def State.abortRecord (s : State) (w : Nat × Nat) (cause node : Nat) : State :=
  ((((s.setRg .PLAN_ABORT_STRIPE (s.rg .PLAN_STRIPE_ID)).setFd F.PLAN_ABORT_WHERE_LINE w.1).setFd F.PLAN_ABORT_WHERE_PASS w.2).setFd
    F.PLAN_ABORT_CAUSE_FAULT cause).setFd F.PLAN_ABORT_CAUSE_NODE node

/-- The stripe in ABORTED with its record, its jobs stopped and its waits over (R48, R192). -/
def State.stripeEnded (s : State) (w : Nat × Nat) (cause node : Nat) (written : Bool) : State :=
  let r := (s.abortRecord w cause node).stopJobs
  { r with
    plan := { r.plan with state := .aborted, abortAt := r.now, abortNode := node, abortWritten := written, started := none, accepted := false }
    stage := { r.stage with wait := .none, inner := none, issued := [], holdFrom := none }
    track := { r.track with recentre := [] }
    cad := { r.cad with startVerify := false } }

section
variable (s) (w : Nat × Nat) (cause node : Nat) (written : Bool)

/-- Axes that stop are of the stage alone. -/
theorem State.stopAxes_if_eq (s : State) (b : Bool) :
    (if b then s.stopAxes else s) = { s with stage := (if b then s.stopAxes else s).stage } := by
  cases b <;> rfl

/-- On a lead or a solo device the axes stop too. -/
theorem State.enterAborted_eq : s.enterAborted w cause node written =
    { s.stripeEnded w cause node written with stage := (s.enterAborted w cause node written).stage } := by
  have h : s.enterAborted w cause node written =
      if (s.stripeEnded w cause node written).leads && (s.stripeEnded w cause node written).native
      then (s.stripeEnded w cause node written).stopAxes else s.stripeEnded w cause node written := rfl
  rw [h]
  exact State.stopAxes_if_eq _ _

@[simp] theorem State.enterAborted_state : (s.enterAborted w cause node written).plan.state = .aborted := by
  rw [State.enterAborted_eq]; rfl
@[simp] theorem State.enterAborted_abortAt : (s.enterAborted w cause node written).plan.abortAt = s.now := by
  rw [State.enterAborted_eq]; simp [State.stripeEnded, State.abortRecord]
@[simp] theorem State.enterAborted_caril : (s.enterAborted w cause node written).caril = s.caril := by
  rw [State.enterAborted_eq]; simp [State.stripeEnded, State.abortRecord]
@[simp] theorem State.enterAborted_str : (s.enterAborted w cause node written).str = s.str := by
  rw [State.enterAborted_eq]; simp [State.stripeEnded, State.abortRecord]
@[simp] theorem State.enterAborted_freeCount : (s.enterAborted w cause node written).freeCount = s.freeCount := by
  rw [State.enterAborted_eq]; simp [State.stripeEnded, State.abortRecord]

theorem State.enterAborted_regs : (s.enterAborted w cause node written).regs = (s.abortRecord w cause node).regs := by
  rw [State.enterAborted_eq]; simp [State.stripeEnded]

/-- The abort record names its fault, its node, its pass and its stripe. -/
theorem State.enterAborted_fault : (s.enterAborted w cause node written).fd F.PLAN_ABORT_CAUSE_FAULT = cause % 65536 := by
  rw [State.fd, State.enterAborted_regs]
  exact (State.fd_setFd_other _ F.PLAN_ABORT_CAUSE_NODE F.PLAN_ABORT_CAUSE_FAULT _ _ (by decide) rfl (by decide)).trans
    (State.fd_setFd_same _ F.PLAN_ABORT_CAUSE_FAULT _ _ (by decide))

theorem State.enterAborted_node : (s.enterAborted w cause node written).fd F.PLAN_ABORT_CAUSE_NODE = node % 16384 := by
  rw [State.fd, State.enterAborted_regs]
  exact State.fd_setFd_same _ F.PLAN_ABORT_CAUSE_NODE _ _ (by decide)

theorem State.enterAborted_pass : (s.enterAborted w cause node written).fd F.PLAN_ABORT_WHERE_PASS = w.2 % 8 := by
  rw [State.fd, State.enterAborted_regs]
  exact (State.fd_setFd_ne _ _ F.PLAN_ABORT_WHERE_PASS _ _ _ (by decide)).trans <|
    (State.fd_setFd_ne _ _ F.PLAN_ABORT_WHERE_PASS _ _ _ (by decide)).trans <|
    State.fd_setFd_same _ F.PLAN_ABORT_WHERE_PASS _ _ (by decide)

theorem State.enterAborted_stripe : (s.enterAborted w cause node written).rg .PLAN_ABORT_STRIPE = s.rg .PLAN_STRIPE_ID := by
  rw [State.rg, State.enterAborted_regs]
  exact (State.rg_setFd_ne _ _ _ _ _ _ (by decide)).trans <| (State.rg_setFd_ne _ _ _ _ _ _ (by decide)).trans <|
    (State.rg_setFd_ne _ _ _ _ _ _ (by decide)).trans <| (State.rg_setFd_ne _ _ _ _ _ _ (by decide)).trans <|
    State.rg_setRg_same _ _ _ _

end

section
variable {cause node : Nat} {written final : Bool} {at_ : Option (Nat × Nat)}

/-- A stripe in RUN_IN or EXPOSING is aborted by every damp (Table 1-5). -/
theorem dampStripe_aborts (h : s.plan.state = .runIn ∨ s.plan.state = .exposing) :
    dampStripe cause node written final at_ s = s.enterAborted (s.dampWhere at_) cause node written := by
  rcases h with h | h <;> simp only [dampStripe, h] <;> rfl

/-- An IDLE stripe is not touched by a damp (Table 1-5). -/
theorem dampStripe_idle (h : s.plan.state = .idle) : dampStripe cause node written final at_ s = s := by
  simp only [dampStripe, h]; rfl

theorem State.persList_native (h : s.native = true) : s.persList = [] := if_pos h

theorem State.native_congr {t : State} (h : t.str = s.str) : t.native = s.native := by rw [State.native, State.native, h]

/-- The device once a damp source has taken its lanes and, where it is local, set LATCH. -/
def State.damped (s : State) (loc : Bool) (cause node : Nat) : State := s.lanesTaken.sourced loc cause node

@[simp] theorem State.damped_plan (loc : Bool) : (s.damped loc cause node).plan = s.plan := by simp [State.damped]
@[simp] theorem State.damped_str (loc : Bool) : (s.damped loc cause node).str = s.str := by simp [State.damped]
@[simp] theorem State.damped_now (loc : Bool) : (s.damped loc cause node).now = s.now := by simp [State.damped]
@[simp] theorem State.damped_freeCount (loc : Bool) : (s.damped loc cause node).freeCount = s.freeCount := by simp [State.damped]
@[simp] theorem State.damped_latch (loc : Bool) : (s.damped loc cause node).caril.latch = (s.caril.latch || loc) := by
  simp [State.damped]
@[simp] theorem State.damped_cause (loc : Bool) :
    (s.damped loc cause node).caril.cause = if loc && !s.caril.latch then cause else s.caril.cause := by simp [State.damped]

@[simp] theorem State.lane_damped (loc : Bool) (n : Nat) : (s.damped loc cause node).lane n = (s.lane n).taken s.now := by
  rw [← State.lane_lanesTaken]
  exact State.lane_congr (State.sourced_lanes _ _ _ _) n

theorem State.rg_damped (loc : Bool) {r : Reg} (i : Nat) (h : r ≠ .CARIL_ABORTS) : (s.damped loc cause node).rg r i = s.rg r i :=
  (congrArg (RegFile.get · r i) (State.sourced_regs _ _ _ _)).trans (s.rg_lanesTaken i h)

section
variable {loc : Bool} (hn : s.native = true)
include hn

/-- On a native device a damp takes the lanes, and then acts on the stripe. -/
theorem State.damp_native (h : (dampStripe cause node written final at_ (s.damped loc cause node)).str = s.str) :
    s.damp loc cause node written final at_ = dampStripe cause node written final at_ (s.damped loc cause node) := by
  have hdamp : s.damp loc cause node written final at_ =
      (if (s.damped loc cause node).native then dampStripe cause node written final at_ (s.damped loc cause node)
        else s.damped loc cause node).persList.foldl (dampPers cause node)
      (if (s.damped loc cause node).native then dampStripe cause node written final at_ (s.damped loc cause node)
        else s.damped loc cause node) := by unfold State.damped State.lanesTaken; rfl
  rw [hdamp, if_pos ((State.native_congr (State.damped_str _)).trans hn), State.persList_native ((State.native_congr h).trans hn)]
  rfl

/-- A damp in RUN_IN or EXPOSING ends the stripe. -/
theorem State.damp_aborts (h : s.plan.state = .runIn ∨ s.plan.state = .exposing) : s.damp loc cause node written final at_ =
    (s.damped loc cause node).enterAborted ((s.damped loc cause node).dampWhere at_) cause node written := by
  have hstripe : dampStripe cause node written final at_ (s.damped loc cause node) =
      (s.damped loc cause node).enterAborted ((s.damped loc cause node).dampWhere at_) cause node written :=
    dampStripe_aborts (by rwa [State.damped_plan])
  rw [State.damp_native hn (by rw [hstripe, State.enterAborted_str, State.damped_str]), hstripe]

/-- A damp that meets an IDLE stripe takes the lanes alone. -/
theorem State.damp_idle (h : s.plan.state = .idle) : s.damp loc cause node written final at_ = s.damped loc cause node := by
  have hstripe : dampStripe cause node written final at_ (s.damped loc cause node) = s.damped loc cause node :=
    dampStripe_idle (by rwa [State.damped_plan])
  rw [State.damp_native hn (by rw [hstripe, State.damped_str]), hstripe]

end
end

end Sys2Proof.Machine

/-! PROOFS. Damp sources, DAMP_N and LATCH (R303, R304, R532, R39, R48). -/

namespace Sys2Proof.Machine

variable {s : State}

/-! ## The events -/

theorem exec_dampSource (loc : Bool) (code : BitVec 16) (node : BitVec 14) (s : State) :
    exec (.dampSource loc code node) s = .next (s.damp loc code.toNat node.toNat) := rfl

theorem exec_dampNAsserted (s : State) : exec .dampNAsserted s = .next (doDampN s) := rfl

theorem exec_latchClear (h : s.runs) : exec .latchClear s = .next (clearLatch s) :=
  congrArg Host.Outcome.next (State.hostCmd_plain h _ rfl rfl)

/-! ## Outside a stripe -/

/-- On a device that is no lead a damp source leaves everything but the lanes, the count of cut frames, what leaves the device and the
notes of the cycle. -/
theorem State.damped_eq (h : s.str.role ≠ .lead) (loc : Bool) (cause node : Nat) : s.damped loc cause node = { s with
    caril := (s.damped loc cause node).caril, regs := (s.damped loc cause node).regs, out := (s.damped loc cause node).out
    cyc := (s.damped loc cause node).cyc } := by
  have hcad : (s.damped loc cause node).cad = s.cad := by
    rw [State.damped, State.sourced_notLead _ _ _ _ (by rw [State.lanesTaken_str]; exact h), State.lanesTaken_cad]
  rw [← hcad, State.damped, State.sourced_eq, State.lanesTaken_eq]

/-- DAMP_N is low. -/
def State.pinLow (s : State) : State := { s with caril := { s.caril with dampN := true } }

/-- DAMP_N going low reaches the lanes alone where no stripe runs, and is a fault where LATCH is clear and AON runs (R532). -/
theorem doDampN_idle (hn : s.native = true) (hi : s.plan.state = .idle) (hpin : s.caril.dampN = false) (hlatch : s.caril.latch = false) :
    doDampN s = (s.raiseIf (!s.glob.aonReset) .SAF_DAMP_EXTERNAL).lanesTaken.pinLow := by
  have hnative : (s.raiseIf (!s.glob.aonReset) .SAF_DAMP_EXTERNAL).native = true := by
    rw [State.native, State.raiseIf_str]; exact hn
  have hdamp : (s.raiseIf (!s.glob.aonReset) .SAF_DAMP_EXTERNAL).damp false (FaultCode.num .SAF_DAMP_EXTERNAL) s.node =
      (s.raiseIf (!s.glob.aonReset) .SAF_DAMP_EXTERNAL).lanesTaken :=
    State.damp_idle hnative (by rwa [State.raiseIf_plan])
  rw [doDampN, if_neg (by rw [hpin]; exact Bool.false_ne_true), hlatch, State.aonUp, Bool.not_false, Bool.true_and]
  dsimp only
  rw [hdamp]
  rfl

/-! ## The statement -/

/-- Settles O20: a damp of a running native stripe is `enterAborted` over the taken lanes (`State.damp_aborts`), one that meets an IDLE
stripe takes the lanes alone (`State.damp_idle`), and each lane that is taken is `Lane.taken`. -/
theorem dampSources : Obligations.DampSources := by
  unfold Obligations.DampSources
  refine ⟨?running, ?idle, ?pinLow, ?pinLowAlready, ?pinHigh, ?cleared, ?persists⟩
  case running =>
    intro s loc code node hn hst
    rw [exec_dampSource, State.damp_aborts hn hst]
    refine ⟨_, rfl, ?_, ?_, ?_, ?_, ?_, ?_⟩
    · simp
    · simp
    · rw [State.enterAborted_fault, Nat.mod_eq_of_lt code.isLt]
    · rw [State.enterAborted_node, Nat.mod_eq_of_lt node.isLt]
    · simp
    · simp
  case idle =>
    intro s loc code node hn hi hrole
    rw [exec_dampSource, State.damp_idle hn hi]
    refine ⟨_, rfl, State.damped_latch _, State.damped_cause _, ?_, ?_, State.damped_eq hrole _ _ _⟩
    · intro n hdata; rw [State.lane_damped, Lane.taken_wire hdata]
    · intro n hidle; rw [State.lane_damped, Lane.taken_idle hidle]
  case pinLow =>
    intro s hn hi hpin hlatch
    rw [exec_dampNAsserted, doDampN_idle hn hi hpin hlatch]
    have hcaril : (s.raiseIf (!s.glob.aonReset) .SAF_DAMP_EXTERNAL).caril = s.caril := s.raiseIf_caril _ _
    generalize s.raiseIf (!s.glob.aonReset) .SAF_DAMP_EXTERNAL = r at hcaril ⊢
    refine ⟨_, rfl, rfl, ?_, ?_, ?_⟩
    · exact (State.lanesTaken_latch _).trans ((congrArg CarilSt.latch hcaril).trans hlatch)
    · intro n hdata
      have hdata' : (r.lane n).tx = .data := by rw [State.lane_congr (congrArg CarilSt.lanes hcaril)]; exact hdata
      exact (congrArg Lane.wire (r.lane_lanesTaken n)).trans (Lane.taken_wire hdata' _)
    · rw [State.lanesTaken_eq]; rfl
  case pinLowAlready =>
    intro s hpin
    rw [exec_dampNAsserted, doDampN, if_pos hpin]
  case pinHigh => intro s; rfl
  case cleared =>
    intro s h hpersists hsource
    rw [exec_latchClear h, clearLatch, if_neg (by simp [hpersists, hsource])]
  case persists =>
    intro s h hsource
    rw [exec_latchClear h, clearLatch, if_pos (by simpa using hsource)]

end Sys2Proof.Machine

/-! PROOFS. Peals (R294 to R300): what a peal leaves behind on its lane, the peals of a beat, and keep-alives. -/

namespace Sys2Proof.Machine

variable {s : State} {b : IssuedBeat}

/-! ## One peal (R294, R300) -/

/-- A lane that has sent a counted peal: SEQ and TSLOT step, the frame is on the wire, and the device keeps its record (R314). -/
def Lane.pealed (l : Lane) (beat pass : Nat) (live : Bool) (at_ : Nat) : Lane :=
  { l with
    seq := (l.seq + 1) % 65535
    tslot := (l.tslot + 8) % 1024
    wire := some (at_ + 309760)
    peals := (⟨l.seq, beat, pass, live, false, at_ + 312107⟩ :: l.peals).take 1024 }

theorem Lane.pealed_head (l : Lane) (beat pass : Nat) (live : Bool) (at_ : Nat) :
    (l.pealed beat pass live at_).peals.head? = some ⟨l.seq, beat, pass, live, false, at_ + 312107⟩ := rfl

section
variable (n beat fireDelay flags cmd : Nat) (codes : List Byte) (live : Bool) (at_ : Nat) (s : State)

/-- Beside its lane a peal changes what leaves the device. -/
theorem sendPeal_eq : sendPeal n beat fireDelay flags cmd codes live at_ s =
    { s.setLane n ((s.lane n).pealed beat s.plan.pass live at_) with out := (sendPeal n beat fireDelay flags cmd codes live at_ s).out } :=
  State.emit_eq _ _

theorem lane_sendPeal {n : Nat} (h : n < 18) (m : Nat) : (sendPeal n beat fireDelay flags cmd codes live at_ s).lane m =
    if m = n then (s.lane n).pealed beat s.plan.pass live at_ else s.lane m := by
  rw [sendPeal_eq]
  exact State.lane_setLane s _ h m

end

/-! ## The peals of a beat (R295, R297, R298) -/

/-- The peal of beat b on lane n, where the lane is in DATA and of the native pipeline (Table 8-4). -/
def sendLanePeal (b : IssuedBeat) (at_ mode : Nat) (sh : Int) (s : State) (n : Nat) : State :=
  if (s.lane n).tx == .data && s.laneInUse n then
    sendPeal n b.k (s.fireDelay n) (if mode = 0 then 2 else if mode = 1 then 11 else 3) 0
      (if mode = 2 then blankCodes else s.laneCodes b.pass b.k sh n) (mode == 0) at_ s
  else s

theorem sendLanePeal_eq (at_ mode : Nat) (sh : Int) (s : State) (n : Nat) : sendLanePeal b at_ mode sh s n = { s with
    caril := { s.caril with lanes := (sendLanePeal b at_ mode sh s n).caril.lanes }, out := (sendLanePeal b at_ mode sh s n).out } := by
  unfold sendLanePeal
  split
  · rw [sendPeal_eq]; rfl
  · rfl

theorem lane_sendLanePeal (at_ mode : Nat) (sh : Int) (s : State) (n m : Nat) : (sendLanePeal b at_ mode sh s n).lane m =
    if m = n then
      if (s.lane n).tx = .data ∧ s.laneInUse n = true then (s.lane n).pealed b.k s.plan.pass (mode == 0) at_ else s.lane n
    else s.lane m := by
  by_cases h : (s.lane n).tx = .data ∧ s.laneInUse n = true
  · have hn : n < 18 := by
      refine Nat.lt_of_not_le fun hle => ?_
      rw [s.lane_of_le hle] at h
      exact absurd h.1 (by decide)
    rw [sendLanePeal, if_pos (by simp [h]), lane_sendPeal _ _ _ _ _ _ _ _ hn, if_pos h]
  · rw [sendLanePeal, if_neg (by simpa using h), if_neg h]
    split
    · rename_i hm; rw [hm]
    · rfl

/-- Which lanes are in use is of the structure (R313, R322). -/
theorem State.laneInUse_congr {t : State} (h : t.str = s.str) (n : Nat) : t.laneInUse n = s.laneInUse n := by
  rw [State.laneInUse, State.laneInUse, State.leads, State.leads, State.native, State.native, h]

/-- The peals of beat b on the lanes 0 to 15. -/
@[irreducible] def State.beatPealed (s : State) (b : IssuedBeat) (at_ mode : Nat) (sh : Int) : State :=
  (List.range 16).foldl (sendLanePeal b at_ mode sh) s

theorem State.beatPealed_eq (s : State) (b : IssuedBeat) (at_ mode : Nat) (sh : Int) : s.beatPealed b at_ mode sh = { s with
    caril := { s.caril with lanes := (s.beatPealed b at_ mode sh).caril.lanes }, out := (s.beatPealed b at_ mode sh).out } := by
  unfold State.beatPealed
  refine List.foldlRecOn (motive := fun t : State =>
    t = { s with caril := { s.caril with lanes := t.caril.lanes }, out := t.out }) _ _ rfl fun t ht n _ => ?_
  rw [sendLanePeal_eq, ht]

/-- Each lane 0 to 15 that is in DATA and of the native pipeline has sent one peal of the beat. -/
theorem State.lane_beatPealed (s : State) (b : IssuedBeat) (at_ mode : Nat) (sh : Int) (m : Nat) :
    (s.beatPealed b at_ mode sh).lane m =
      if m < 16 ∧ (s.lane m).tx = .data ∧ s.laneInUse m = true then (s.lane m).pealed b.k s.plan.pass (mode == 0) at_
      else s.lane m := by
  have hkeep : ∀ (t : State) (n : Nat), t.plan = s.plan ∧ t.str = s.str →
      (sendLanePeal b at_ mode sh t n).plan = s.plan ∧ (sendLanePeal b at_ mode sh t n).str = s.str :=
    fun t n h => by rw [sendLanePeal_eq]; exact h
  have hlane : ∀ (t : State) (n k : Nat), t.plan = s.plan ∧ t.str = s.str → (sendLanePeal b at_ mode sh t n).lane k =
      if k = n then
        if (t.lane n).tx = .data ∧ s.laneInUse n = true then (t.lane n).pealed b.k s.plan.pass (mode == 0) at_ else t.lane n
      else t.lane k := by
    rintro t n k ⟨hplan, hstr⟩
    have huse : t.laneInUse n = s.laneInUse n := State.laneInUse_congr hstr n
    rw [lane_sendLanePeal, hplan, huse]
  unfold State.beatPealed
  rw [lane_foldl (g := fun n l => if l.tx = .data ∧ s.laneInUse n = true then l.pealed b.k s.plan.pass (mode == 0) at_ else l)
    hkeep hlane List.nodup_range ⟨rfl, rfl⟩]
  by_cases hm : m < 16 <;> simp [hm]

/-- The peals of a beat, counted where lane 0 sends (R295). -/
theorem sendBeatPeals_eq (b : IssuedBeat) (at_ : Nat) (s : State) : sendBeatPeals b at_ s =
    if (s.lane 0).tx == .data then (s.beatPealed b at_ s.exposeMode (s.xi b.pass + s.hAt b.k)).bump F.CARIL_BEAT_PEALS_COUNT
    else s.beatPealed b at_ s.exposeMode (s.xi b.pass + s.hAt b.k) := by
  unfold State.beatPealed
  rfl

theorem sendBeatPeals_frame (b : IssuedBeat) (at_ : Nat) (s : State) : sendBeatPeals b at_ s = { s with
    regs := (sendBeatPeals b at_ s).regs
    caril := (sendBeatPeals b at_ s).caril, out := (sendBeatPeals b at_ s).out } := by
  rw [sendBeatPeals_eq]
  split
  · rw [State.beatPealed_eq]; rfl
  · rw [State.beatPealed_eq]

theorem lane_sendBeatPeals (b : IssuedBeat) (at_ : Nat) (s : State) (m : Nat) : (sendBeatPeals b at_ s).lane m =
    if m < 16 ∧ (s.lane m).tx = .data ∧ s.laneInUse m = true then (s.lane m).pealed b.k s.plan.pass (s.exposeMode == 0) at_
    else s.lane m := by
  rw [sendBeatPeals_eq, ← State.lane_beatPealed s b at_ s.exposeMode (s.xi b.pass + s.hAt b.k)]
  split <;> rfl

/-! ## The START of a beat's peals -/

theorem exec_pealStart (h : s.up) : exec .pealStart s = .next (doPealStart s) := congrArg Host.Outcome.next (State.whenReady_up h _)

/-- A local damp in RUN_IN or EXPOSING aborts the stripe and sets LATCH (R303, R304). -/
theorem State.localDamp_aborts (hn : s.native = true) (h : s.plan.state = .runIn ∨ s.plan.state = .exposing) (c : FaultCode) :
    (s.localDamp c).plan.state = .aborted ∧ (s.localDamp c).caril.latch = true := by
  have hnative : (s.raise c).native = true := (State.native_congr (State.raise_str s c)).trans hn
  rw [State.localDamp, State.damp_aborts hnative (by rwa [State.raise_plan])]
  simp

section
variable (hn : s.native = true) (hb : s.stage.issued.find? (fun x => !x.peals) = some b)
  (hst : s.plan.state = .runIn ∨ s.plan.state = .exposing) (hdue : s.startAt b ≤ s.stageT) (href : s.shiftRefused b.k = false)
include hn hb hst hdue href

/-- Of the next beat, with no refused shift: a damp sends nothing, then missing codes damp, then poisoned ones (R297, R298). -/
theorem doPealStart_due : doPealStart s =
    if s.generatorOn then markPeals b s
    else if !(s.codesHeld b.k) || (s.seamCodesBad b.k (s.xi b.pass + s.hAt b.k)).1 then (markPeals b s).localDamp .CAR_LATE_PEAL
    else if (s.seamCodesBad b.k (s.xi b.pass + s.hAt b.k)).2 then (markPeals b s).localDamp .CAR_POISON
    else sendBeatPeals b (s.stage.epoch + 100 * (s.startAt b).toNat) (markPeals b s) := by
  have hrun : (s.plan.state == .runIn || s.plan.state == .exposing) = true := by rcases hst with h | h <;> rw [h] <;> rfl
  have hnow : decide (s.stageT < s.startAt b) = false := decide_eq_false (by omega)
  simp only [doPealStart, hb, hn, hrun, hnow, href, Bool.not_true, Bool.or_self, Bool.false_eq_true, if_false]

variable (hgen : s.generatorOn = false)
include hgen

theorem doPealStart_sends (hheld : s.codesHeld b.k = true) (hseam : s.seamCodesBad b.k (s.xi b.pass + s.hAt b.k) = (false, false)) :
    doPealStart s = sendBeatPeals b (s.stage.epoch + 100 * (s.startAt b).toNat) (markPeals b s) := by
  simp [doPealStart_due hn hb hst hdue href, hgen, hheld, hseam]

theorem doPealStart_late (hlate : s.codesHeld b.k = false ∨ (s.seamCodesBad b.k (s.xi b.pass + s.hAt b.k)).1 = true) :
    doPealStart s = (markPeals b s).localDamp .CAR_LATE_PEAL := by
  rcases hlate with h | h <;> simp [doPealStart_due hn hb hst hdue href, hgen, h]

theorem doPealStart_poison (hheld : s.codesHeld b.k = true) (hseam : s.seamCodesBad b.k (s.xi b.pass + s.hAt b.k) = (false, true)) :
    doPealStart s = (markPeals b s).localDamp .CAR_POISON := by
  simp [doPealStart_due hn hb hst hdue href, hgen, hheld, hseam]

end

/-! ## Keep-alives (R296, R300, R312) -/

theorem exec_keepAlive (h : s.up) (n : Fin 16) : exec (.keepAlive n) s = .next (doKeepAlive n s) :=
  congrArg Host.Outcome.next (State.whenReady_up h _)

/-- A keep-alive uses one free value, its fire delay. -/
def State.keepAlive (s : State) (n : Nat) : State :=
  sendPeal n 0xFFFFFFFF (Config.freeValue s.freeCount % 65536) (1 + (if s.plan.state.running then 0 else 4))
    (if bit s.caril.measureReq n = 1 then 1 else if bit s.caril.measureAbort n = 1 then 2 else 0) blankCodes false s.now
    { s with freeCount := s.freeCount + 1 }

theorem doKeepAlive_due {n : Nat} (hn : s.native = true) (h16 : n < 16) (hdata : (s.lane n).tx = .data) (huse : s.laneInUse n = true)
    (hgen : s.generatorOn = false) (hwire : (s.lane n).wire = none) (hissued : s.stage.issued = []) (hdue : s.keepAliveDue n = true) :
    doKeepAlive n s = s.keepAlive n := by
  simp only [doKeepAlive, hn, hdata, huse, hgen, hwire, hissued, hdue, decide_eq_false (Nat.not_le.2 h16), List.find?_nil]
  rfl

theorem doKeepAlive_none {n : Nat} (h : (s.lane n).tx ≠ .data ∨ s.generatorOn = true) : doKeepAlive n s = s := by
  rcases h with h | h <;> simp [doKeepAlive, h]

/-! ## The statement -/

/-- Settles O19: the START of the next beat's peals comes to one of the branches of `doPealStart_due`; a peal sent leaves its lane
`Lane.pealed`, which `lane_sendBeatPeals` says of every lane; a keep-alive is one peal over a free value. -/
theorem pealsAndKeepAlives : Obligations.PealsAndKeepAlives := by
  unfold Obligations.PealsAndKeepAlives
  refine ⟨⟨?sends, ?late, ?poison, ?damped⟩, ?keepAlive, ?noKeepAlive⟩
  case sends =>
    intro s b h hn hb hst hdue href hgen hheld hseam
    have hstage : (sendBeatPeals b (s.stage.epoch + 100 * (s.startAt b).toNat) (markPeals b s)).stage = (markPeals b s).stage := by
      rw [sendBeatPeals_frame]
    have hlane := lane_sendBeatPeals b (s.stage.epoch + 100 * (s.startAt b).toNat) (markPeals b s)
    rw [exec_pealStart h, doPealStart_sends hn hb hst hdue href hgen hheld hseam]
    refine ⟨_, rfl, hstage, ?_, ?_, rfl, ?_⟩
    · intro n hdata huse
      rw [hlane, if_pos ⟨n.isLt, hdata, huse⟩]
      exact ⟨rfl, rfl, Lane.pealed_head _ _ _ _ _⟩
    · intro n hidle
      rw [hlane, if_neg (fun hn => hidle hn.2.1)]
      rfl
    · rw [hstage, sendBeatPeals_frame]
      rfl
  case late =>
    intro s b h hn hb hst hdue href hgen hlate
    rw [exec_pealStart h, doPealStart_late hn hb hst hdue href hgen hlate]
    exact ⟨_, rfl, rfl, State.localDamp_aborts (s := markPeals b s) hn hst _⟩
  case poison =>
    intro s b h hn hb hst hdue href hgen hheld hseam
    rw [exec_pealStart h, doPealStart_poison hn hb hst hdue href hgen hheld hseam]
    exact ⟨_, rfl, rfl, State.localDamp_aborts (s := markPeals b s) hn hst _⟩
  case damped =>
    intro s b h hn hb hst hdue href hgen
    rw [exec_pealStart h, doPealStart_due hn hb hst hdue href, if_pos hgen]
  case keepAlive =>
    intro s n h hn hdata huse hgen hwire hissued hdue
    have hlane : (s.keepAlive n).lane n = (s.lane n).pealed 0xFFFFFFFF s.plan.pass false s.now := by
      rw [State.keepAlive, lane_sendPeal _ _ _ _ _ _ _ _ (by omega), if_pos rfl]
      rfl
    rw [exec_keepAlive h, doKeepAlive_due hn n.isLt hdata huse hgen hwire hissued hdue]
    refine ⟨_, rfl, ?_, ?_, ?_, rfl, ?_⟩
    · rw [hlane]; rfl
    · rw [State.keepAlive, sendPeal_eq]; rfl
    · rw [hlane, Lane.pealed_head]
    · rw [State.keepAlive, sendPeal_eq]; rfl
  case noKeepAlive =>
    intro s n h hnone
    rw [exec_keepAlive h, doKeepAlive_none hnone]

end Sys2Proof.Machine

/-! PROOFS. Cadence DAMP and ABORT (R36, R39, R48, R303, R366) and beam checks (R285). -/

namespace Sys2Proof.Machine

variable {s s1 : State} {c : CadCmd}

/-! ## Commands that execute (R366) -/

/-- A command that executes leaves the queue of scheduled commands, and nothing else changes before it acts. -/
theorem takeScheduled_eq {code : Nat} (h : takeScheduled code s = some (c, s1)) : ∃ q, s1 = { s with cad := q } := by
  unfold takeScheduled at h
  split at h
  · cases h; exact ⟨_, rfl⟩
  · cases h

/-- A command row without a frame executes the command that is due (R366). -/
theorem cadRow_executes {code : Nat} (hn : s.native = true) (h : takeScheduled code s = some (c, s1)) (f : CadCmd → State → State) :
    cadRow code [] f s = f c s1 := by
  simp [cadRow, hn, h]

section
variable (h : s.up) (hn : s.native = true)
include h hn

theorem exec_damp (ht : takeScheduled 5 s = some (c, s1)) : exec (.damp []) s = .next (runDampCmd c s1) :=
  congrArg Host.Outcome.next ((State.whenReady_up h _).trans (cadRow_executes hn ht _))

theorem exec_cadAbort (ht : takeScheduled 6 s = some (c, s1)) : exec (.cadAbort []) s = .next (runAbort s1) :=
  congrArg Host.Outcome.next ((State.whenReady_up h _).trans (cadRow_executes hn ht _))

theorem exec_beamCheck (ht : takeScheduled 8 s = some (c, s1)) : exec (.beamCheck []) s = .next (beamCheck c s1) :=
  congrArg Host.Outcome.next ((State.whenReady_up h _).trans (cadRow_executes hn ht _))

end

/-! ## DAMP (R36, R303, R366) -/

/-- In RUN_IN and EXPOSING the record names the pass that runs (R36). -/
theorem State.abortWhere_pass (h : s.plan.state = .runIn ∨ s.plan.state = .exposing) : s.abortWhere.2 = s.plan.pass := by
  rcases h with h | h <;> simp only [State.abortWhere, h]

theorem runDampCmd_running (hn : s.native = true) (hst : s.plan.state = .runIn ∨ s.plan.state = .exposing) : runDampCmd c s =
    (s.damped false (c.arg % 65536) (c.beat % 16384)).enterAborted (s.damped false (c.arg % 65536) (c.beat % 16384)).abortWhere
      (c.arg % 65536) (c.beat % 16384) false :=
  State.damp_aborts hn hst

/-! ## ABORT (R39, R48) -/

/-- A tile of the cycle that no longer counts as delivered is of the bobbins, and of the personalities where the device is not native. -/
theorem untile_eq (j : Nat) (s : State) : untile j s = { s with bob := (untile j s).bob, tl := (untile j s).tl } := by
  unfold untile
  refine List.foldlRecOn (motive := fun t : State => t = { s with bob := t.bob, tl := t.tl }) s.cyc _ rfl fun t ht e _ => ?_
  rw [ht]
  split
  · split
    · dsimp only; split <;> rfl
    · rfl
  · rfl

/-- What ABORT damps: the tile of its cycle counted out, and one free value used for the fault of the record (R39). -/
def State.abortTaken (s : State) : State := { untile 0 s with freeCount := s.freeCount + 1 }

theorem State.abortTaken_eq (s : State) : s.abortTaken =
    { s with bob := s.abortTaken.bob, tl := s.abortTaken.tl, freeCount := s.freeCount + 1 } := by
  rw [State.abortTaken, untile_eq]

theorem runAbort_running (hn : s.native = true) (hst : s.plan.state = .runIn ∨ s.plan.state = .exposing) : runAbort s =
    (s.abortTaken.damped false (Config.freeValue s.freeCount % 65536) (s.nodeOf 0)).enterAborted
      (s.abortTaken.damped false (Config.freeValue s.freeCount % 65536) (s.nodeOf 0)).abortWhere
      (Config.freeValue s.freeCount % 65536) (s.nodeOf 0) true := by
  have hrun : (s.native && s.plan.state.running) = true := by rcases hst with h | h <;> rw [hn, h] <;> rfl
  have hfree : (untile 0 s).free 16 = (Config.freeValue s.freeCount % 65536, s.abortTaken) := by
    have hcount : (untile 0 s).freeCount = s.freeCount := by rw [untile_eq]
    exact congrArg (fun k => (Config.freeValue k % 65536, ({ untile 0 s with freeCount := k + 1 } : State))) hcount
  have hnode : s.abortTaken.nodeOf 0 = s.nodeOf 0 := by rw [State.abortTaken_eq]; rfl
  have hplan : s.abortTaken.plan = s.plan := by rw [State.abortTaken_eq]
  have hnative : s.abortTaken.native = true := by rw [State.abortTaken_eq]; exact hn
  rw [runAbort, if_pos hrun, hfree]
  dsimp only
  rw [hnode, State.damp_aborts hnative (by rwa [hplan])]
  rfl

/-! ## BEAM_CHECK (R285) -/

/-- The beams that a BEAM_CHECK names, none of its internal beats run. -/
def CadCmd.beams (c : CadCmd) (now : Int) : BeamOpen :=
  ⟨bits c.arg 9 6, bits c.arg 19 10, bit c.arg 20 == 1, bits c.beat 7 0, 0, bits c.beat 23 8, now⟩

/-- A state in which the beam check b runs. -/
def State.checking (s : State) (b : BeamOpen) : State := { s with cad := { s.cad with beamCheck := some b } }

/-- An internal beat that is due is counted, and its peal changes the lanes and what leaves the device. -/
theorem beamTick_due {b : BeamOpen} (hdue : b.nextAt ≤ s.stageT) (hleft : b.done < b.beats) :
    ∃ (v : CarilSt) (o : List Out), beamTick (s.checking b) =
      { s.checking { b with done := b.done + 1, nextAt := b.nextAt + 10000 } with caril := v, out := o } := by
  have htick : beamTick (s.checking b) =
      if ((s.checking b).lane b.lane).tx == .data && (s.checking b).laneInUse b.lane && !(s.checking b).generatorOn then
        sendPeal b.lane b.done ((s.checking b).fireDelay b.lane) 2 0 b.codes true s.now
          (s.checking { b with done := b.done + 1, nextAt := b.nextAt + 10000 })
      else s.checking { b with done := b.done + 1, nextAt := b.nextAt + 10000 } := by
    have hnow : ¬ (s.checking b).stageT < b.nextAt := Int.not_lt.2 hdue
    have hbeats : ¬ b.done ≥ b.beats := Nat.not_le.2 hleft
    simp only [beamTick, show (s.checking b).cad.beamCheck = some b from rfl, if_neg hnow, if_neg hbeats]
    rfl
  rw [htick]
  split
  · exact ⟨_, _, sendPeal_eq _ _ _ _ _ _ _ _ _⟩
  · exact ⟨_, _, rfl⟩

/-- On its TARGET device a BEAM_CHECK starts a beam check, and a device that scans nothing opens no window. -/
theorem beamCheck_target (htarget : bits c.arg 5 0 = s.str.devIndex) (hscan : s.plan.scan = none) (hbeats : 0 < bits c.beat 23 8) :
    ∃ (v : CarilSt) (o : List Out), beamCheck c s =
      { s.checking { c.beams s.stageT with done := 1, nextAt := s.stageT + 10000 } with caril := v, out := o } := by
  obtain ⟨v, o, htick⟩ := beamTick_due (s := s) (b := c.beams s.stageT) (Int.le_refl _) hbeats
  refine ⟨v, o, ?_⟩
  simp only [State.checking, CadCmd.beams] at htick ⊢
  simp only [beamCheck, if_pos htarget, htick, hscan]

/-- On another device the window opens where a lead's gate scan waits for it. -/
theorem beamCheck_other {sc : ScanSt} (htarget : bits c.arg 5 0 ≠ s.str.devIndex) (hscan : s.plan.scan = some sc)
    (hgate : sc.kind = .gate) (hwindow : sc.window = none) (hrun : sc.finished = false) (hleads : s.leads = true) : beamCheck c s =
      { s with plan := { s.plan with scan := some { sc with window := some (s.stageT + s.windowLen), sum := 0 } } } := by
  simp only [beamCheck, if_neg htarget, hscan, hgate, hwindow, hrun, hleads, and_self, if_true]

/-! ## The statement -/

/-- Settles O12: a DAMP and an ABORT that execute are damps from outside (`State.damp_aborts`), the second over the state that has used a
free value; a BEAM_CHECK runs its first internal beat (`beamCheck_target`) or opens the window of the scan (`beamCheck_other`). -/
theorem cadenceDampsAndBeamChecks : Obligations.CadenceDampsAndBeamChecks := by
  unfold Obligations.CadenceDampsAndBeamChecks
  refine ⟨⟨?damp, ?abort⟩, ?target, ?window⟩
  case damp =>
    intro s s1 c h hn ht hst
    obtain ⟨q, rfl⟩ := takeScheduled_eq ht
    rw [exec_damp h hn ht, runDampCmd_running (s := { s with cad := q }) hn hst]
    refine ⟨_, rfl, State.enterAborted_state _ _ _ _ _, ?_, ?_, ?_, ?_, ?_⟩
    · rw [State.enterAborted_abortAt, State.damped_now]
    · rw [State.enterAborted_fault, Nat.mod_mod]
    · rw [State.enterAborted_node, Nat.mod_mod]
    · rw [State.enterAborted_pass, State.abortWhere_pass (by rw [State.damped_plan]; exact hst), State.damped_plan]
      rfl
    · rw [State.enterAborted_stripe, State.rg_damped _ _ (by decide)]
      rfl
  case abort =>
    intro s s1 c h hn ht hst
    obtain ⟨q, rfl⟩ := takeScheduled_eq ht
    rw [exec_cadAbort h hn ht, runAbort_running (s := { s with cad := q }) hn hst]
    refine ⟨_, rfl, State.enterAborted_state _ _ _ _ _, ?_, ?_, ?_⟩
    · rw [State.enterAborted_freeCount, State.damped_freeCount]
      rfl
    · rw [State.enterAborted_fault, Nat.mod_mod]
    · rw [State.enterAborted_node]
      rfl
  case target =>
    intro s s1 c h hn ht htarget hscan hbeats
    obtain ⟨q, rfl⟩ := takeScheduled_eq ht
    obtain ⟨v, o, hcheck⟩ := beamCheck_target (s := { s with cad := q }) (c := c) htarget hscan hbeats
    rw [exec_beamCheck h hn ht, hcheck]
    exact ⟨_, rfl, rfl, rfl⟩
  case window =>
    intro s s1 c sc h hn hleads ht htarget hscan hgate hwindow hrun
    obtain ⟨q, rfl⟩ := takeScheduled_eq ht
    exact (exec_beamCheck h hn ht).trans (congrArg _ (beamCheck_other (s := { s with cad := q }) htarget hscan hgate hwindow hrun hleads))

end Sys2Proof.Machine

/-! PROOFS. Echo frames (R312 to R315, R321, R326): what a good echo of each TYPE notes, echoes that fail their checks, and the echo
time-out. -/

namespace Sys2Proof.Machine

variable {s : State} {l : List Byte}

/-! ## The events -/

section
variable (h : s.up) (n : Fin 18) (c : Bool) (l : List Byte)
include h

theorem exec_statusEcho : exec (.statusEcho n c l) s = .next (doEcho n c l s) := congrArg Host.Outcome.next (State.whenReady_up h _)

theorem exec_measureEcho : exec (.measureEcho n c l) s = .next (doEcho n c l s) := congrArg Host.Outcome.next (State.whenReady_up h _)

theorem exec_trainEcho : exec (.trainEcho n c l) s = .next (doEcho n c l s) := congrArg Host.Outcome.next (State.whenReady_up h _)

theorem exec_echoTimeout : exec (.echoTimeout n) s = .next (doEchoTimeout n s) := congrArg Host.Outcome.next (State.whenReady_up h _)

end

/-! ## An echo is heard (R313, R321) -/

/-- The equaliser adapts by two free values in its own registers. -/
theorem adaptRx_eq (n : Nat) (s : State) : adaptRx n s = { s with regs := (adaptRx n s).regs, freeCount := s.freeCount + 2 } := rfl

theorem lane_adaptRx (n : Nat) (s : State) (m : Nat) : (adaptRx n s).lane m = s.lane m := by
  rw [adaptRx_eq]; rfl

theorem fd_adaptRx (n : Nat) (s : State) {x : RegField} (i : Nat) (heq : x.reg ≠ .LANE_RX_EQ) (hdfe : x.reg ≠ .LANE_RX_DFE) :
    (adaptRx n s).fd x i = s.fd x i :=
  (State.fd_setFd_ne _ _ x _ _ _ hdfe).trans (State.fd_setFd_ne _ _ x _ _ _ heq)

/-- The echo time-out of lane n starts again. -/
def Lane.heard (l : Lane) (now : Nat) : Lane := { l with echoFrom := now, echoDead := false }

/-- Lane n has heard a good echo: its time-out starts again, and in DATA its equaliser adapts where it is not frozen. -/
def State.echoHeard (s : State) (n : Nat) : State :=
  if (s.lane n).rx == .data && !s.fb F.LANE_RX_EQ_FREEZE n then adaptRx n (s.setLane n ((s.lane n).heard s.now))
  else s.setLane n ((s.lane n).heard s.now)

theorem State.echoHeard_eq (s : State) (n : Nat) : s.echoHeard n =
    { s.setLane n ((s.lane n).heard s.now) with regs := (s.echoHeard n).regs, freeCount := (s.echoHeard n).freeCount } := by
  unfold State.echoHeard
  split
  · rw [adaptRx_eq]
  · rfl

theorem State.lane_echoHeard (s : State) (n : Fin 18) : (s.echoHeard n).lane n = (s.lane n).heard s.now := by
  rw [State.echoHeard_eq]
  exact State.lane_setLane_same s n _

theorem State.fd_echoHeard (s : State) (n : Nat) {x : RegField} (i : Nat) (heq : x.reg ≠ .LANE_RX_EQ) (hdfe : x.reg ≠ .LANE_RX_DFE) :
    (s.echoHeard n).fd x i = s.fd x i := by
  unfold State.echoHeard
  split
  · exact fd_adaptRx n _ i heq hdfe
  · rfl

/-- Before DATA no equaliser adapts. -/
theorem State.echoHeard_acquire {n : Nat} (h : (s.lane n).rx = .acquire) : s.echoHeard n = s.setLane n ((s.lane n).heard s.now) := by
  rw [State.echoHeard, h]; rfl

section
variable {n : Fin 18} (hn : s.native = true) (hrx : (s.lane n).rx = .acquire ∨ (s.lane n).rx = .data)
include hn hrx

theorem echo_open : ¬ (!((s.lane n).rx == .acquire || (s.lane n).rx == .data) || !s.native) = true := by
  rcases hrx with h | h <;> rw [h, hn] <;> decide

theorem doEcho_good (hgood : echoGood n l = true) : doEcho n true l s =
    if byteAt l 0 = 1 then statusEcho n l (s.echoHeard n)
    else if byteAt l 0 = 2 then (if n.val < 16 then measureEcho n l (s.echoHeard n) else s.echoHeard n)
    else trainEcho n l (s.echoHeard n) := by
  rw [doEcho, if_neg (echo_open hn hrx), if_neg (by rw [hgood]; decide)]
  rfl

theorem doEcho_bad {c : Bool} (hbad : (c && echoGood n l) = false) :
    doEcho n c l s = (s.bump F.LANE_ECHO_BAD_COUNT 1 n).raise .CAR_ECHO_BAD := by
  rw [doEcho, if_neg (echo_open hn hrx), if_pos (by rw [hbad]; rfl)]

end

/-! ## STATUS echoes (R313, R314, R326) -/

/-- What a lane keeps of a STATUS echo whose level does not change. -/
def Lane.reported (l : Lane) (b : List Byte) (now tempLevel : Nat) : Lane :=
  { l with
    echoOk := true, echoSeen := true, echoFrom := now, echoDead := false, statusAt := now, lost := leAt b 0x0C 4
    drvEpoch := byteAt b 0x14 % 16, tempLevel := tempLevel }

/-- The temperature level that a STATUS echo comes to on lane n (R326). -/
def State.echoLevel (s : State) (n : Nat) (b : List Byte) : Nat := s.tempLevelOf n (sext 16 (leAt b 4 2)) (s.lane n).tempLevel

/-- The driver's words of a STATUS echo (R313). -/
def State.driverWords (s : State) (n : Nat) (b : List Byte) : State :=
  (((s.setFd F.LANE_DRV_TEMP_TEMP (leAt b 4 2) n).setFd F.LANE_DRV_TEMP_STATE (min 3 (byteAt b 6)) n).setFd F.LANE_DRV_CRC_BAD_COUNT
    (leAt b 8 4) n).setFd F.LANE_DRV_LOST_COUNT (leAt b 0x0C 4) n

theorem State.driverWords_eq (s : State) (n : Nat) (b : List Byte) : s.driverWords n b = { s with regs := (s.driverWords n b).regs } :=
  State.setFd_regs_only (State.setFd_regs_only (State.setFd_regs_only rfl _ _ _) _ _ _) _ _ _

theorem State.driverWords_temp (s : State) (n : Nat) (b : List Byte) : (s.driverWords n b).fd F.LANE_DRV_TEMP_TEMP n = leAt b 4 2 := by
  rw [State.driverWords, State.fd_setFd_ne _ _ _ _ _ _ (by decide), State.fd_setFd_ne _ _ _ _ _ _ (by decide),
    State.fd_setFd_other _ F.LANE_DRV_TEMP_STATE F.LANE_DRV_TEMP_TEMP _ _ (by decide) rfl (by decide),
    State.fd_setFd_same _ _ _ _ (by decide)]
  exact Nat.mod_eq_of_lt (leAt_lt b 4 2)

theorem State.driverWords_lost (s : State) (n : Nat) (b : List Byte) : (s.driverWords n b).fd F.LANE_DRV_LOST_COUNT n = leAt b 0x0C 4 := by
  rw [State.driverWords, State.fd_setFd_same _ _ _ _ (by decide)]
  exact Nat.mod_eq_of_lt (leAt_lt b 0x0C 4)

/-- A STATUS echo answers the measure request of its lane, or the order to stop (R312). -/
def CarilSt.answered (c : CarilSt) (n : Nat) (b : List Byte) : CarilSt :=
  { c with
    measureReq := if bit (byteAt b 7) 2 == 1 then c.measureReq - 2 ^ n * bit c.measureReq n else c.measureReq
    measureAbort := if bit (byteAt b 7) 2 == 1 then c.measureAbort else c.measureAbort - 2 ^ n * bit c.measureAbort n }

/-- Lane n has reported: its lane, its measure request and the driver's words. -/
def State.statusNoted (s : State) (n : Nat) (b : List Byte) : State :=
  State.driverWords { s with caril := (s.setLane n ((s.lane n).reported b s.now (s.echoLevel n b))).caril.answered n b } n b

theorem State.lane_statusNoted (s : State) (n : Fin 18) (b : List Byte) :
    (s.statusNoted n b).lane n = (s.lane n).reported b s.now (s.echoLevel n b) := by
  have hlanes : (s.statusNoted n b).caril.lanes = (s.setLane n ((s.lane n).reported b s.now (s.echoLevel n b))).caril.lanes := by
    rw [State.statusNoted, State.driverWords_eq]; rfl
  rw [State.lane_congr hlanes, State.lane_setLane_same]

theorem State.statusNoted_eq (s : State) (n : Nat) (b : List Byte) : s.statusNoted n b =
    { s with caril := (s.statusNoted n b).caril, regs := (s.statusNoted n b).regs } := by
  rw [State.statusNoted, State.driverWords_eq]

/-- A first STATUS echo judges no beat, and one whose level does not change raises nothing. -/
theorem statusEcho_first {n : Nat} (hfirst : (s.lane n).statusAt = 0)
    (hlevel : max (min 3 (byteAt l 6)) (s.echoLevel n l) = (s.lane n).level) : statusEcho n l s = s.statusNoted n l := by
  simp only [State.echoLevel] at hlevel
  simp only [statusEcho, beatLost, hfirst, hlevel, bne_self_eq_false, State.raiseIf, ne_eq, not_true_eq_false, false_and,
    Bool.false_eq_true, if_false, and_not_self]
  rfl

/-! ## MEASURE echoes (R284, R312) -/

/-- The last readings of a lane enter the electrical scan that runs. -/
theorem measureEcho_last {n : Nat} {sc : ScanSt} (hscan : s.plan.scan = some sc) (hkind : sc.kind = .electrical) (hlast : byteAt l 7 = 1)
    (hopen : bit sc.lanesDone n = 0) : ∃ sc', measureEcho n l s = { s with plan := { s.plan with scan := some sc' } } ∧
      sc'.lanesDone = sc.lanesDone + 2 ^ n := by
  simp only [measureEcho, hscan, hkind, bne_self_eq_false, Bool.false_eq_true, if_false, hlast, hopen, and_self, if_true]
  exact ⟨_, rfl, rfl⟩

/-! ## TRAIN echoes (R317, R319) -/

/-- The lane has counted one more RX_READY. -/
def Lane.ready (l : Lane) : Lane := { l with mismatch := false, train := { l.train with rxReady := l.train.rxReady + 1 } }

/-- An echo of a lane in TRAINING that says RX_READY and asks for nothing. -/
theorem trainEcho_ready {n : Nat} (htx : (s.lane n).tx = .training) (hover : s.trainOver n = false)
    (hhold : (s.lane n).train.pendingHold = false) (hreq : byteAt l 4 % 64 = 0) (hctrl : byteAt l 5 = 4) :
    trainEcho n l s = s.setLane n (s.lane n).ready := by
  have h0 : bit 4 0 = 0 := rfl
  have h1 : bit 4 1 = 0 := rfl
  have h2 : bit 4 2 = 1 := rfl
  have h3 : (bit 4 3 == 1) = false := rfl
  simp only [trainEcho, Lane.ready, htx, hover, hhold, hreq, hctrl, h0, h1, h2, h3, State.raiseIf, Bool.false_and, Bool.false_eq_true,
    if_false, and_self, decide_true, if_true]

/-! ## The echo time-out (R313, R315) -/

/-- Lane n has heard nothing for its time-out. -/
def State.echoLost (s : State) (n : Nat) : State := (s.setLane n { s.lane n with echoOk := false, echoDead := true }).raise .CAR_ECHO_LOST

section
variable {n : Fin 18} (hn : s.native = true) (hon : (s.lane n).echoOn = true) (hrx : (s.lane n).rx ≠ .sleep)
  (hdead : (s.lane n).echoDead = false) (huse : s.laneInUse n = true)
  (hlate : (s.lane n).echoFrom + 1000000 * clampN 25 80 (s.fd F.LANE_TIMEOUT_ECHO_US n) < s.now)
include hn hon hrx hdead huse hlate

theorem echoTimeout_due : ((s.lane n).echoOn && (s.lane n).rx != .sleep && !(s.lane n).echoDead && s.native && s.laneInUse n &&
    decide (s.now > (s.lane n).echoFrom + 1000000 * clampN 25 80 (s.fd F.LANE_TIMEOUT_ECHO_US n))) = true := by
  simp [hn, hon, hrx, hdead, huse, hlate]

theorem doEchoTimeout_quiet (hrun : s.plan.state.running = false) : doEchoTimeout n s = s.echoLost n := by
  have hplan : ¬ (s.echoLost n).plan.state.running = true := by simp [State.echoLost, hrun]
  rw [doEchoTimeout, if_pos (echoTimeout_due hn hon hrx hdead huse hlate)]
  exact if_neg hplan

/-- While the stripe runs the time-out damps, with a line of its own where a live peal is unconfirmed (R315). -/
theorem doEchoTimeout_damps (hrun : s.plan.state.running = true) : ∃ final at_, doEchoTimeout n s =
    (s.echoLost n).damp true (FaultCode.num .CAR_ECHO_LOST) s.node false final at_ := by
  have hplan : (s.echoLost n).plan.state.running = true := by simp [State.echoLost, hrun]
  rw [State.echoLost] at hplan
  rw [doEchoTimeout, if_pos (echoTimeout_due hn hon hrx hdead huse hlate)]
  dsimp only
  rw [if_pos hplan]
  split
  · exact ⟨_, _, rfl⟩
  · exact ⟨_, _, rfl⟩

end

/-! ## The statement -/

/-- Settles O21: a good echo is judged over `State.echoHeard`, which leaves the report of `statusEcho_first`, the readings of
`measureEcho_last` or the count of `trainEcho_ready`; a lane in use that stays silent is `State.echoLost`, over which a running stripe
is damped. -/
theorem echoFrames : Obligations.EchoFrames := by
  unfold Obligations.EchoFrames
  refine ⟨?status, ?measure, ?train, ?bad, ?quiet, ?damps⟩
  case status =>
    intro s n l h hn hrx hgood htype hlevel hfirst
    have hlane := s.lane_echoHeard n
    have hlevels : (s.echoHeard n).echoLevel n l = s.tempLevelOf n (sext 16 (leAt l 4 2)) (s.lane n).tempLevel := by
      rw [State.echoLevel, hlane, State.tempLevelOf, State.tempLevelOf]
      simp only [s.fd_echoHeard n n (x := F.LANE_TEMP_LIMIT_SOFT) (by decide) (by decide),
        s.fd_echoHeard n n (x := F.LANE_TEMP_LIMIT_HARD) (by decide) (by decide),
        s.fd_echoHeard n n (x := F.LANE_TEMP_LIMIT_TRIP) (by decide) (by decide)]
      rfl
    have hnow : (s.echoHeard n).now = s.now := by rw [State.echoHeard_eq]; rfl
    have hecho : doEcho n true l s = (s.echoHeard n).statusNoted n l := by
      rw [doEcho_good hn hrx hgood, if_pos htype, statusEcho_first (by rw [hlane]; exact hfirst) (by rw [hlevels, hlane]; exact hlevel)]
    have hnoted := (s.echoHeard n).lane_statusNoted n l
    rw [hlane, hnow] at hnoted
    rw [exec_statusEcho h, hecho]
    refine ⟨_, rfl, ?_, ?_, ?_, ?_, ?_, ?_, State.driverWords_temp _ _ _, State.driverWords_lost _ _ _, ?_⟩
    · rw [hnoted]; rfl
    · rw [hnoted]; rfl
    · rw [hnoted]; rfl
    · rw [hnoted]; rfl
    · rw [hnoted]; rfl
    · rw [hnoted]; rfl
    · rw [State.statusNoted_eq, State.echoHeard_eq]; rfl
  case measure =>
    intro s n l sc h hn hrx hgood htype h16 hscan hkind hlast hopen
    have hplan : (s.echoHeard n).plan = s.plan := by rw [State.echoHeard_eq]; rfl
    obtain ⟨sc', hmeasure, hdone⟩ := measureEcho_last (s := s.echoHeard n) (by rw [hplan]; exact hscan) hkind hlast hopen
    have hecho : doEcho n true l s = { s.echoHeard n with plan := { s.plan with scan := some sc' } } := by
      rw [doEcho_good hn hrx hgood, if_neg (by rw [htype]; decide), if_pos htype, if_pos h16, hmeasure, hplan]
    have hlane : ({ s.echoHeard n with plan := { s.plan with scan := some sc' } } : State).lane n = (s.lane n).heard s.now :=
      s.lane_echoHeard n
    rw [exec_measureEcho h, hecho]
    refine ⟨_, sc', rfl, rfl, hdone, ?_, ?_, ?_⟩
    · rw [hlane]; rfl
    · rw [hlane]; rfl
    · rw [State.echoHeard_eq]; rfl
  case train =>
    intro s n l h hn hrx hgood htype htx hover hhold hreq hctrl
    have hlane : (s.setLane n ((s.lane n).heard s.now)).lane n = (s.lane n).heard s.now := State.lane_setLane_same s n _
    have hover' : (s.setLane n ((s.lane n).heard s.now)).trainOver n = false := by rw [State.trainOver, hlane]; exact hover
    have hecho : doEcho n true l s = s.setLane n ((s.lane n).heard s.now).ready := by
      rw [doEcho_good hn (.inl hrx) hgood, if_neg (by rw [htype]; decide), if_neg (by rw [htype]; decide), State.echoHeard_acquire hrx,
        trainEcho_ready (by rw [hlane]; exact htx) hover' (by rw [hlane]; exact hhold) hreq hctrl, hlane, State.setLane_setLane]
    rw [exec_trainEcho h, hecho]
    refine ⟨_, rfl, ?_, ?_, ?_, rfl⟩
    · rw [State.lane_setLane_same]; rfl
    · rw [State.lane_setLane_same]; rfl
    · rw [State.lane_setLane_same]; rfl
  case bad =>
    intro s n c l i hi h hn hrx hbad
    have hexec : exec i s = .next (doEcho n c l s) := by
      simp only [List.mem_cons, List.not_mem_nil, or_false] at hi
      rcases hi with rfl | rfl | rfl
      · exact exec_statusEcho h n c l
      · exact exec_measureEcho h n c l
      · exact exec_trainEcho h n c l
    rw [hexec, doEcho_bad hn hrx hbad]
  case quiet =>
    intro s n h hn hon hrx hdead huse hlate hrun
    rw [exec_echoTimeout h, doEchoTimeout_quiet hn hon hrx hdead huse hlate hrun]
    rfl
  case damps =>
    intro s n h hn hon hrx hdead huse hlate hst
    obtain ⟨final, at_, hdamp⟩ := doEchoTimeout_damps hn hon hrx hdead huse hlate (by rw [hst]; rfl)
    have hnative : (s.echoLost n).native = true := (State.native_congr (State.raise_str _ _)).trans hn
    have hplan : (s.echoLost n).plan = s.plan := State.raise_plan _ _
    have hlane : ((s.echoLost n).lane n).echoOk = false := by
      rw [State.echoLost, State.lane_congr (congrArg CarilSt.lanes (State.raise_caril _ _)), State.lane_setLane_same]
    rw [exec_echoTimeout h, hdamp, State.damp_aborts hnative (.inr (by rw [hplan]; exact hst))]
    refine ⟨_, rfl, ?_, State.enterAborted_state _ _ _ _ _, ?_, ?_⟩
    · rw [State.lane_congr (congrArg CarilSt.lanes (State.enterAborted_caril _ _ _ _ _)), State.lane_damped, Lane.taken_echoOk, hlane]
    · rw [State.enterAborted_caril, State.damped_latch, Bool.or_true]
    · rw [State.enterAborted_fault]
      exact Nat.mod_eq_of_lt (FaultCode.num_lt _)

end Sys2Proof.Machine

/-! PROOFS. Lane training (R317 to R320), sleep, wake and eye centring (R323 to R325), and block lock (R291). -/

namespace Sys2Proof.Machine

variable {s : State}

/-! ## The events and the commands of LANE_CMD -/

theorem exec_trainFrame (h : s.up) (n : Fin 18) (adapted : Bool) : exec (.trainFrame n adapted) s = .next (doTrainFrame n adapted s) :=
  congrArg Host.Outcome.next (State.whenReady_up h _)

theorem exec_trainTimeout (h : s.up) (n : Fin 18) : exec (.trainTimeout n) s = .next (doTrainTimeout n s) :=
  congrArg Host.Outcome.next (State.whenReady_up h _)

theorem exec_laneWakeDone (h : s.up) (n : Fin 18) (tx : Bool) : exec (.laneWakeDone n tx) s = .next (doWakeDone n tx s) :=
  congrArg Host.Outcome.next (State.whenReady_up h _)

theorem exec_eyeCalDone (h : s.up) (n : Fin 18) (clear : BitVec 64) : exec (.eyeCalDone n clear) s = .next (doEyeDone n clear.toNat s) :=
  congrArg Host.Outcome.next (State.whenReady_up h _)

theorem exec_blockLockLost (h : s.up) (n : Fin 18) : exec (.blockLockLost n) s =
    .next (if (s.lane n).rx == .data then s.setLane n { s.lane n with rx := .lost } else s) :=
  congrArg Host.Outcome.next (State.whenReady_up h _)

theorem exec_blockLockRegained (h : s.up) (n : Fin 18) : exec (.blockLockRegained n) s =
    .next (if (s.lane n).rx == .lost then s.setLane n { s.lane n with rx := .data } else s) :=
  congrArg Host.Outcome.next (State.whenReady_up h _)

/-- Outside the safe structure the lane commands are present (R609). -/
theorem State.cmdAbsent_lane (h : s.str.safe = false) : s.cmdAbsent .LANE_CMD = false := by
  rw [State.cmdAbsent, h, Bool.and_false]

section
variable (h : s.runs) (hsafe : s.str.safe = false)
include h hsafe

theorem exec_retrain : exec .retrain s = .next (doRetrain s.cmdSeen) :=
  congrArg Host.Outcome.next (State.hostCmd_wake h _ rfl (State.cmdAbsent_lane (s := s.cmdSeen) hsafe))

theorem exec_txWake : exec .txWake s = .next (doTxWake s.cmdSeen) :=
  congrArg Host.Outcome.next (State.hostCmd_wake h _ rfl (State.cmdAbsent_lane (s := s.cmdSeen) hsafe))

theorem exec_rxWake : exec .rxWake s = .next (doRxWake s.cmdSeen) :=
  congrArg Host.Outcome.next (State.hostCmd_wake h _ rfl (State.cmdAbsent_lane (s := s.cmdSeen) hsafe))

theorem exec_eyeCal : exec .eyeCal s = .next (laneCommand 2 s.laneSel s) :=
  congrArg Host.Outcome.next (State.hostCmd_plain h _ rfl (State.cmdAbsent_lane hsafe))

theorem exec_txSleep : exec .txSleep s = .next (laneCommand 3 s.laneSel s) :=
  congrArg Host.Outcome.next (State.hostCmd_plain h _ rfl (State.cmdAbsent_lane hsafe))

theorem exec_rxSleep : exec .rxSleep s = .next (laneCommand 5 s.laneSel s) :=
  congrArg Host.Outcome.next (State.hostCmd_plain h _ rfl (State.cmdAbsent_lane hsafe))

end

/-- LANE_SEL names a lane of the device. -/
theorem State.laneSel_lt (s : State) : s.laneSel < 18 := by rw [State.laneSel]; omega

theorem State.laneSel_cmdSeen (s : State) : s.cmdSeen.laneSel = s.laneSel := by
  rw [State.laneSel, State.laneSel, s.fd_cmdSeen 0 (by decide)]

/-! ## A lane whose level stays (R304) -/

/-- A lane at temperature level 3 (R304). -/
theorem someLaneTripped_iff (s : State) :
    s.caril.lanes.toList.any (fun l => l.level == 3) = true ↔ ∃ m < 18, (s.lane m).level = 3 := by
  simp only [List.any_eq_true, Vector.mem_toList_iff, Vector.mem_iff_getElem, beq_iff_eq]
  constructor
  · rintro ⟨l, ⟨m, hm, rfl⟩, hl⟩
    exact ⟨m, hm, by simpa [State.lane, hm] using hl⟩
  · rintro ⟨m, hm, hl⟩
    exact ⟨s.caril.lanes[m], ⟨m, hm, rfl⟩, by simpa [State.lane, hm] using hl⟩

/-- While no stripe runs, a lane that keeps its level starts and ends no damp. -/
theorem State.generatorOn_setLane {n : Nat} {l : Lane} (hn : n < 18) (hlevel : l.level = (s.lane n).level)
    (hrun : s.plan.state.running = false) : (s.setLane n l).generatorOn = s.generatorOn := by
  have hany : (s.setLane n l).caril.lanes.toList.any (fun l => l.level == 3) = s.caril.lanes.toList.any (fun l => l.level == 3) := by
    rw [Bool.eq_iff_iff, someLaneTripped_iff, someLaneTripped_iff]
    refine exists_congr fun m => and_congr_right fun _ => ?_
    rw [State.lane_setLane s l hn]
    split
    · rename_i hm; rw [hm, hlevel]
    · rfl
  have hpersists : (s.setLane n l).localPersists = s.localPersists := by
    rw [State.localPersists, State.localPersists, hany, State.setLane_plan, hrun]
    rfl
  rw [State.generatorOn, State.generatorOn, hpersists]
  rfl

/-- A lane in DATA from now on (R313, R320). -/
def Lane.inData (l : Lane) (now : Nat) : Lane :=
  { l with tx := .data, echoOk := false, echoSeen := false, echoOn := true, echoFrom := now, echoDead := false, wire := none }

/-- With no damp and no stripe running, a lane enters DATA silently. -/
theorem txData_undamped {n : Nat} (hn : n < 18) (hgen : s.generatorOn = false) (hrun : s.plan.state.running = false) :
    txData n s = s.setLane n ((s.lane n).inData s.now) := by
  have hgen' : (s.setLane n ((s.lane n).inData s.now)).generatorOn = false := by
    rw [State.generatorOn_setLane (l := (s.lane n).inData s.now) hn rfl hrun, hgen]
  rw [Lane.inData] at hgen'
  rw [txData, hgen']
  rfl

/-! ## Train frames (R317, R320) -/

/-- The training history that a frame goes with, and whether the frame says DONE: the RX that has adapted by now stays adapted, DONE is said
from then on that four RX_READY have come too, and the frames that say it are counted. -/
def TrainSt.framed (tr : TrainSt) (adapted : Bool) : TrainSt × Bool :=
  let now := { tr with rxAdapted := tr.rxAdapted || adapted }
  let done := now.doneFrames != 0 || (now.rxAdapted && decide (4 ≤ now.rxReady))
  (if done then { now with doneFrames := now.doneFrames + 1 } else now, done)

/-- Nothing changes before the RX adapts and before DONE is said. -/
theorem TrainSt.framed_plain {tr : TrainSt} (hdone : tr.doneFrames = 0) (hrx : tr.rxAdapted = false) : tr.framed false = (tr, false) := by
  obtain ⟨_, _, _, _, _, _, _, _⟩ := tr
  subst hdone hrx
  rfl

/-- What leaves depends on what has left and on the JTAG port (R638). -/
theorem State.emit_out_congr {t : State} (hglob : t.glob = s.glob) (hout : t.out = s.out) (o : Out) : (t.emit o).out = (s.emit o).out := by
  simp only [State.emit, hglob, hout]
  split
  · exact hout
  · rfl

/-- Lane n has sent the train frame of history tr: its taps, the statuses it reports and its flags (Table 8-10). -/
def State.trainSent (s : State) (n : Nat) (tr : TrainSt) (done : Bool) : State :=
  (s.setLane n { s.lane n with train := tr }).emit (.trainFrame n (trainBytes n s.node (s.taps n).1 (s.taps n).2.1 (s.taps n).2.2
    (tr.statPre + 4 * tr.statMain + 16 * tr.statPost) (b2n tr.rxAdapted + 2 * b2n done)))

/-- A train frame leaves beside its lane. -/
theorem State.trainSent_eq (s : State) (n : Nat) (tr : TrainSt) (done : Bool) : s.trainSent n tr done =
    { s.setLane n { s.lane n with train := tr } with out := (s.trainSent n tr done).out } :=
  State.emit_eq _ _

theorem State.lane_trainSent (s : State) (n : Fin 18) (tr : TrainSt) (done : Bool) :
    (s.trainSent n tr done).lane n = { s.lane n with train := tr } := by
  rw [State.trainSent_eq]
  exact State.lane_setLane_same s n _

theorem State.generatorOn_trainSent {n : Nat} (hn : n < 18) (hrun : s.plan.state.running = false) (tr : TrainSt) (done : Bool) :
    (s.trainSent n tr done).generatorOn = s.generatorOn := by
  rw [State.trainSent_eq, ← State.generatorOn_setLane (s := s) (l := { s.lane n with train := tr }) hn rfl hrun]
  rfl

theorem State.trainSent_out (s : State) (n : Nat) (tr : TrainSt) (done : Bool) : (s.trainSent n tr done).out =
    (s.emit (.trainFrame n (trainBytes n s.node (s.taps n).1 (s.taps n).2.1 (s.taps n).2.2
      (tr.statPre + 4 * tr.statMain + 16 * tr.statPost) (b2n tr.rxAdapted + 2 * b2n done)))).out :=
  State.emit_out_congr (s := s) (t := s.setLane n { s.lane n with train := tr }) rfl rfl _

section
variable {n : Nat} (htx : (s.lane n).tx = .training)
include htx

/-- A frame in TRAINING goes with its history; the equaliser holds free values where it has just adapted, and the sixteenth DONE ends
TRAINING. -/
theorem doTrainFrame_training {adapted done : Bool} {tr : TrainSt} (hframed : (s.lane n).train.framed adapted = (tr, done)) :
    doTrainFrame n adapted s =
      let r := if adapted && !(s.lane n).train.rxAdapted then adaptRx n (s.trainSent n tr done) else s.trainSent n tr done
      if tr.doneFrames ≥ 16 then txData n (r.setLane n { r.lane n with rx := if (s.lane n).rx == .sleep then .sleep else .data })
      else r := by
  obtain ⟨rfl, rfl⟩ := Prod.mk.inj hframed
  rw [doTrainFrame, if_neg (by simp [htx])]
  rfl

/-- A lane that neither adapts nor is done keeps its history. -/
theorem doTrainFrame_plain (hdone : (s.lane n).train.doneFrames = 0) (hrx : (s.lane n).train.rxAdapted = false) :
    doTrainFrame n false s = s.trainSent n (s.lane n).train false := by
  rw [doTrainFrame_training htx (TrainSt.framed_plain hdone hrx), hdone]
  rfl

theorem doTrainFrame_adapts (hdone : (s.lane n).train.doneFrames = 0) (hrx : (s.lane n).train.rxAdapted = false)
    (hready : (s.lane n).train.rxReady < 4) :
    doTrainFrame n true s = adaptRx n (s.trainSent n { (s.lane n).train with rxAdapted := true } false) := by
  have hframed : (s.lane n).train.framed true = ({ (s.lane n).train with rxAdapted := true }, false) := by
    simp [TrainSt.framed, hdone, hready]
  rw [doTrainFrame_training htx hframed]
  simp [hdone, hrx]

/-- With its sixteenth DONE a lane whose RX acquires is in DATA on both sides. -/
theorem doTrainFrame_last (hdone : (s.lane n).train.doneFrames = 15) (hrx : (s.lane n).rx = .acquire) : doTrainFrame n false s =
    txData n ((s.trainSent n { (s.lane n).train with doneFrames := 16 } true).setLane n
      { (s.trainSent n { (s.lane n).train with doneFrames := 16 } true).lane n with rx := .data }) := by
  have hframed : (s.lane n).train.framed false = ({ (s.lane n).train with doneFrames := 16 }, true) := by
    simp [TrainSt.framed, hdone]
  rw [doTrainFrame_training htx hframed, hrx]
  rfl

end

/-- With no damp and no stripe running it enters DATA silently, its last train frame sent. -/
theorem doTrainFrame_enters {n : Fin 18} (htx : (s.lane n).tx = .training) (hdone : (s.lane n).train.doneFrames = 15)
    (hrx : (s.lane n).rx = .acquire) (hgen : s.generatorOn = false) (hrun : s.plan.state.running = false) :
    doTrainFrame n false s = (s.trainSent n { (s.lane n).train with doneFrames := 16 } true).setLane n
      (({ s.lane n with train := { (s.lane n).train with doneFrames := 16 }, rx := .data } : Lane).inData s.now) := by
  rw [doTrainFrame_last htx hdone hrx, State.lane_trainSent]
  have hsent := s.trainSent_eq n { (s.lane n).train with doneFrames := 16 } true
  have hgen' := State.generatorOn_trainSent n.isLt hrun { (s.lane n).train with doneFrames := 16 } true
  have hlane := s.lane_trainSent n { (s.lane n).train with doneFrames := 16 } true
  generalize s.trainSent n { (s.lane n).train with doneFrames := 16 } true = r at hsent hgen' hlane ⊢
  have hplan : r.plan.state.running = false := by rw [hsent]; exact hrun
  have hnow : r.now = s.now := by rw [hsent]; rfl
  rw [txData_undamped n.isLt (by rw [State.generatorOn_setLane n.isLt (by rw [hlane]) hplan, hgen', hgen])
      (by rw [State.setLane_plan]; exact hplan),
    State.lane_setLane_same, State.setLane_setLane, State.setLane_now, hnow]

/-! ## RETRAIN and the training time-out (R317, R320) -/

theorem doTrainTimeout_over {n : Nat} (htx : (s.lane n).tx = .training) (hover : s.trainOver n = true) :
    doTrainTimeout n s = (s.setLane n { s.lane n with tx := .failed }).raise .CAR_TRAIN_FAIL := by
  rw [doTrainTimeout, htx, hover]
  rfl

theorem doRetrain_active (h : s.plan.state.active = true) : doRetrain s = s.raise .CAR_LANE_BUSY := by
  rw [doRetrain, h]
  rfl

theorem State.laneBusy_inactive (hn : s.native = true) (h : s.plan.state.active = false) (n : Nat) : s.laneBusy n = false := by
  rw [State.laneBusy, if_pos hn, h, Bool.false_and]

theorem doRetrain_starts (hn : s.native = true) (h : s.plan.state.active = false) (huse : s.laneInUse s.laneSel = true) :
    doRetrain s = startTraining s.laneSel s := by
  simp [doRetrain, h, State.laneBusy_inactive hn h, huse, hn]

/-! ## Sleep, wake and eye centring (R323 to R325) -/

theorem laneCommand_busy {n : Nat} (h : s.laneBusy n = true) (cmd : Nat) : laneCommand cmd n s = s.raise .CAR_LANE_BUSY := by
  rw [laneCommand, if_pos (by rw [h]; rfl)]

theorem laneCommand_sleep {n cmd : Nat} (hcmd : cmd ≠ 2) (h : s.laneBusy n = false) :
    laneCommand cmd n s = (s.setLane n ((s.lane n).commanded cmd)).mark (.laneCmd cmd n (s.lane n)) := by
  simp [laneCommand, h, hcmd]

/-- An entry to HUSH that is not under way yields nothing. -/
theorem hushYields_noTransit (h : s.power.transit = .none) (id : Nat) : hushYields id s = s := by
  simp [hushYields, h]

theorem laneCommand_eye {n : Nat} (hn : s.native = true) (hactive : s.plan.state.active = false) (hlane : n < 16 ∨ s.leads = true)
    (htransit : s.power.transit = .none) :
    laneCommand 2 n s = (s.setLane n { s.lane n with eyeSweep := true }).mark (.laneCmd 2 n (s.lane n)) := by
  have hopen : (decide (16 ≤ n) && !s.leads) = false := by
    rcases hlane with h | h
    · rw [decide_eq_false (Nat.not_le.2 h), Bool.false_and]
    · rw [h, Bool.not_true, Bool.and_false]
  simp [laneCommand, State.laneBusy_inactive hn hactive, hactive, hn, hopen, hushYields_noTransit htransit]
  rfl

theorem doTxWake_sleeping (huse : s.laneInUse s.laneSel = true) (htx : (s.lane s.laneSel).tx = .sleep) :
    doTxWake s = s.setLane s.laneSel { s.lane s.laneSel with tx := .waking, txWakeAt := s.now } := by
  simp [doTxWake, State.mayWake, huse, wakeTx, htx]

theorem doRxWake_sleeping (hn : s.native = true) (huse : s.laneInUse s.laneSel = true) (hrx : (s.lane s.laneSel).rx = .sleep) :
    doRxWake s = s.setLane s.laneSel { s.lane s.laneSel with rx := .acquire, echoFrom := s.now } := by
  simp [doRxWake, State.mayWake, huse, hn, wakeRx, hrx]

/-- Which of the longest runs is taken uses a free value at most. -/
theorem longestRun_eq (m : Nat) (s : State) : (longestRun m s).2 = { s with freeCount := (longestRun m s).2.freeCount } := by
  unfold longestRun
  dsimp only
  split <;> rfl

theorem lane_longestRun {s1 : State} {m : Nat} {r : Option (Nat × Nat)} (h : longestRun m s = (r, s1)) (n : Nat) : s1.lane n = s.lane n := by
  have hcaril : (longestRun m s).2.caril = s.caril := by rw [longestRun_eq]
  rw [h] at hcaril
  exact State.lane_congr (congrArg CarilSt.lanes hcaril) n

section
variable {s1 : State} {n : Fin 18} {clear a k : Nat} (hsweep : (s.lane n).eyeSweep = true) (hrun : longestRun clear s = (some (a, k), s1))
include hsweep hrun

/-- The offset at the middle of a run that is wide enough and near the active one is staged (R325). -/
theorem doEyeDone_plausible (hwide : 16 ≤ k) (hnear : (((a + (k - 1) / 2 : Nat) : Int) - 32 - (s.lane n).eyeActive).natAbs ≤ 16) :
    doEyeDone n clear s = (s1.setLane n
      { s.lane n with eyeSweep := false, eyeStaged := ((a + (k - 1) / 2 : Nat) : Int) - 32 }).setFd F.LANE_EYE_WIDTH k n := by
  rw [doEyeDone, if_neg (by simp [hsweep]), hrun]
  dsimp only
  rw [lane_longestRun hrun, if_pos ⟨hwide, by rw [State.lane_setLane_same]; exact hnear⟩, State.lane_setLane_same, State.setLane_setLane]

theorem doEyeDone_narrow (hnarrow : k < 16) :
    doEyeDone n clear s = (s1.setLane n { s.lane n with eyeSweep := false }).raise .CAR_EYE_IMPLAUSIBLE := by
  rw [doEyeDone, if_neg (by simp [hsweep]), hrun]
  dsimp only
  rw [lane_longestRun hrun, if_neg (fun h => absurd h.1 (by omega))]

end

/-! ## The statement -/

/-- Settles O22: a train frame goes with the history `TrainSt.framed` gives it (`doTrainFrame_training`), and the sixteenth DONE or a woken
TX enters DATA by `txData_undamped`; the lane commands are judged by `laneCommand_busy` and act on the selected lane alone. -/
theorem laneTrainingAndSleep : Obligations.LaneTrainingAndSleep := by
  unfold Obligations.LaneTrainingAndSleep
  refine ⟨⟨?plain, ?adapts, ?last, ?trainOver, ?retrain, ?retrainBusy⟩, ?txSleep, ?rxSleep, ?busy, ?txWake, ?rxWake, ?txWoken, ?rxWoken,
    ?eyeCal, ?eyeStaged, ?eyeNarrow, ?lockLost, ?lockRegained⟩
  case plain =>
    intro s n h htx hdone hrx
    rw [exec_trainFrame h, doTrainFrame_plain htx hdone hrx, State.trainSent, hrx]
    exact congrArg (fun t : State => Host.Outcome.next (t.emit _)) (s.setLane_lane n)
  case adapts =>
    intro s n h htx hdone hrx hready
    rw [exec_trainFrame h, doTrainFrame_adapts htx hdone hrx hready]
    refine ⟨_, rfl, ?_, ?_, ?_⟩
    · rw [lane_adaptRx, State.lane_trainSent]
    · rw [adaptRx_eq]; exact State.trainSent_out _ _ _ _
    · rw [adaptRx_eq, State.trainSent_eq]; rfl
  case last =>
    intro s n h htx hrx hdone hadapted hgen hrun
    rw [exec_trainFrame h, doTrainFrame_enters htx hdone hrx hgen hrun]
    refine ⟨_, rfl, ?_, ?_, ?_, ?_, ?_, ?_⟩
    · rw [State.lane_setLane_same]; rfl
    · rw [State.lane_setLane_same]; rfl
    · rw [State.lane_setLane_same]; rfl
    · rw [State.lane_setLane_same]; rfl
    · rw [State.setLane_out, State.trainSent_out, hadapted]; rfl
    · rw [State.trainSent_eq]; rfl
  case trainOver =>
    intro s n h htx hover
    rw [exec_trainTimeout h, doTrainTimeout_over htx (decide_eq_true hover)]
  case retrain =>
    intro s h hsafe hn hactive huse
    rw [exec_retrain h hsafe, doRetrain_starts (s := s.cmdSeen) hn hactive (by rw [State.laneSel_cmdSeen]; exact huse),
      State.laneSel_cmdSeen]
    have hlane := State.lane_setLane_same s.cmdSeen ⟨s.laneSel, s.laneSel_lt⟩
    refine ⟨_, rfl, ?_, ?_, ?_, rfl⟩
    · rw [startTraining, hlane]
    · rw [startTraining, hlane]; rfl
    · rw [startTraining, hlane]; simp only [beq_iff_eq]; rfl
  case retrainBusy =>
    intro s h hsafe hn hactive
    rw [exec_retrain h hsafe, doRetrain_active (s := s.cmdSeen) hactive]
  case txSleep =>
    intro s h hsafe hn hfree
    rw [exec_txSleep h hsafe, laneCommand_sleep (by decide) hfree]
    exact ⟨_, rfl, rfl⟩
  case rxSleep =>
    intro s h hsafe hn hfree
    rw [exec_rxSleep h hsafe, laneCommand_sleep (by decide) hfree]
    exact ⟨_, rfl, rfl⟩
  case busy =>
    rintro s c (rfl | rfl | rfl) h hsafe hn hbusy
    · rw [exec_txSleep h hsafe, laneCommand_busy hbusy]
    · rw [exec_rxSleep h hsafe, laneCommand_busy hbusy]
    · rw [exec_eyeCal h hsafe, laneCommand_busy hbusy]
  case txWake =>
    intro s h hsafe hn huse htx
    rw [← State.laneSel_cmdSeen] at huse htx ⊢
    rw [exec_txWake h hsafe, doTxWake_sleeping (s := s.cmdSeen) huse htx]
    rfl
  case rxWake =>
    intro s h hsafe hn huse hrx
    rw [← State.laneSel_cmdSeen] at huse hrx ⊢
    rw [exec_rxWake h hsafe, doRxWake_sleeping (s := s.cmdSeen) hn huse hrx]
    rfl
  case txWoken =>
    intro s n h htx hlate hgen hrun
    rw [exec_laneWakeDone h, doWakeDone, htx, if_pos rfl, if_pos (by simpa using hlate), txData_undamped n.isLt hgen hrun]
    rfl
  case rxWoken =>
    intro s n h hrx htx
    rw [exec_laneWakeDone h, doWakeDone, hrx, if_neg Bool.false_ne_true, if_pos (by simpa using htx)]
  case eyeCal =>
    intro s h hsafe hn hactive hlane
    rw [exec_eyeCal h hsafe, laneCommand_eye hn hactive hlane h.2.2]
    exact ⟨_, rfl, rfl⟩
  case eyeStaged =>
    intro s s1 n clear a k h hsweep hrun hwide hnear
    rw [exec_eyeCalDone h, doEyeDone_plausible hsweep hrun hwide hnear]
  case eyeNarrow =>
    intro s s1 n clear a k h hsweep hrun hnarrow
    rw [exec_eyeCalDone h, doEyeDone_narrow hsweep hrun hnarrow]
  case lockLost =>
    intro s n h hrx
    rw [exec_blockLockLost h, if_pos (beq_iff_eq.2 hrx)]
  case lockRegained =>
    intro s n h hrx
    rw [exec_blockLockRegained h, if_pos (beq_iff_eq.2 hrx)]

end Sys2Proof.Machine

/-! PROOFS. Tables, banks and extra blocks of the tracking engine (R384, R386, R390, R391, R395, R396). -/

namespace Sys2Proof.Machine

variable {s : State}

/-! ## The engine's commands at the host port -/

/-- A write in RUN to a register that is present and starts no wake. -/
theorem State.hostWrite_plain (h : s.runs) {r : Reg} {w : Nat} {v : Word} (f : State → State) (hw : cmdWake r v = false)
    (ha : s.cmdAbsent r = false) : s.hostWrite r w v f = f s := by
  simp [State.hostWrite, h.1, h.2.1, hw, ha]

/-- The engine's command registers are present where it runs and the structure is not the safe one (R378, R609). -/
theorem State.cmdAbsent_track (hsafe : s.str.safe = false) (hon : s.trackOn = true) {r : Reg}
    (hr : s.cmdAbsent r = (!s.trackOn || s.str.safe)) : s.cmdAbsent r = false := by
  rw [hr, hon, hsafe]
  rfl

section
variable (h : s.runs) (hsafe : s.str.safe = false) (hon : s.trackOn = true)
include h hsafe hon

theorem exec_swap : exec .swap s = .next (doSwap s) :=
  congrArg Host.Outcome.next (State.hostCmd_plain h _ rfl (State.cmdAbsent_track hsafe hon rfl))

theorem exec_clear : exec .clear s = .next (doTrackClear s) :=
  congrArg Host.Outcome.next (State.hostCmd_plain h _ rfl (State.cmdAbsent_track hsafe hon rfl))

theorem exec_trackMapDataWrite (v : BitVec 32) : exec (.trackMapDataWrite v) s = .next (doMapWrite v s) :=
  congrArg Host.Outcome.next (State.hostWrite_plain h _ rfl (State.cmdAbsent_track hsafe hon rfl))

theorem exec_trackRepCfgWrite (v : BitVec 32) : exec (.trackRepCfgWrite v) s = .next (doRepCfgWrite v s) :=
  congrArg Host.Outcome.next (State.hostWrite_plain h _ rfl (State.cmdAbsent_track hsafe hon rfl))

end

theorem exec_recentreBlock (h : s.up) : exec .recentreBlock s = .next (doRecentre s) :=
  congrArg Host.Outcome.next (State.whenReady_up h _)

/-! ## Banks (R390, R391) -/

/-- A stripe that is not active does not run (Table 1-4). -/
theorem StripeState.running_of_inactive {p : StripeState} (h : p.active = false) : p.running = false := by
  cases p with
  | idle | done | aborted => rfl
  | armed | runIn | exposing | runOut => cases h

@[simp] theorem satFlags_track (a mask : Nat) (s : State) : (satFlags a mask s).track = s.track := by
  simp only [satFlags]
  split
  · rfl
  · rw [State.raiseIf_track, State.setFlag_track]

/-- Taking over a bank moves the integrators besides (R390). -/
theorem applySwap_track (s : State) :
    (applySwap s).track = { s.track with bank := 1 - s.track.bank, swapPending := false, integ := (applySwap s).track.integ } := by
  simp only [applySwap, List.range, List.range.loop, List.foldl_cons, List.foldl_nil]
  split <;> split <;> simp [State.bumpWrap]

section
variable (hon : s.trackOn = true)
include hon

theorem doSwap_waiting (hwait : s.track.swapPending = true) : doSwap s = s.raise .TRK_SWAP_BUSY := by
  simp [doSwap, hon, hwait]

theorem doSwap_inactive (hwait : s.track.swapPending = false) (hactive : s.plan.state.active = false) : doSwap s = applySwap s := by
  simp [doSwap, hon, hwait, hactive, StripeState.running_of_inactive hactive]

theorem doSwap_running (hwait : s.track.swapPending = false) (hrun : s.plan.state.running = true)
    (hulim : s.ulimOk (1 - s.track.bank) = true) :
    doSwap s = { s.mark .swap with track := { s.track with swapPending := true } } := by
  simp [doSwap, hon, hwait, hrun, hulim]

/-! ## Learning tables and maps (R384, R395) -/

theorem doTrackClear_on : doTrackClear s = clearLearning (s.fd F.TRACK_AXIS_SEL_AXIS) s := if_pos hon

theorem doMapWrite_running (hrun : s.plan.state.running = true) (v : Word) : doMapWrite v s = s.raise .TRK_BUSY := by
  simp [doMapWrite, hon, hrun]

theorem doRepCfgWrite_running (hrun : s.plan.state.running = true) (v : Word) : doRepCfgWrite v s = s.raise .TRK_BUSY := by
  simp [doRepCfgWrite, hon, hrun]

theorem doRepCfgWrite_idle (hrun : s.plan.state.running = false) (v : Word) : doRepCfgWrite v s =
    clearLearning (s.fd F.TRACK_AXIS_SEL_AXIS) (s.setRg .TRACK_REP_CFG v (s.fd F.TRACK_AXIS_SEL_AXIS)) := by
  simp [doRepCfgWrite, hon, hrun]

/-- Outside a running stripe a map write stores the entry and steps the index; a learning table so filled is ready. -/
theorem doMapWrite_idle (hrun : s.plan.state.running = false) (v : Word) : doMapWrite v s =
    { s with
      regs := (s.setFd F.TRACK_MAP_INDEX_INDEX (s.fd F.TRACK_MAP_INDEX_INDEX + 1)).regs
      track := { s.track with
        tables := Sparse.set 0 s.track.tables (s.fd F.TRACK_MAP_SEL_TABLE * 65536 + s.fd F.TRACK_MAP_INDEX_INDEX) (sext 32 v.toNat)
        ready := if s.fd F.TRACK_MAP_SEL_TABLE ≥ 2 then s.track.ready.setIfInBounds (s.fd F.TRACK_MAP_SEL_TABLE - 2) true
          else s.track.ready } } := by
  rw [doMapWrite, hon, hrun]
  rfl

end

/-- An entry after a write of entry i of table t. -/
theorem TrackSt.entry_set {k k' : TrackSt} {t i : Nat} {v : Int} (h : k'.tables = Sparse.set 0 k.tables (t * 65536 + i) v)
    (hi : i < 65536) (u j : Nat) : k'.entry u j = if u = t ∧ j % 65536 = i then v else k.entry u j := by
  have hkey : u * 65536 + j % 65536 = t * 65536 + i ↔ u = t ∧ j % 65536 = i := by omega
  simp only [TrackSt.entry, h, Sparse.get_set, hkey]

theorem clearLearning_entry_same (a j : Nat) (s : State) : (clearLearning a s).track.entry (2 + a) j = 0 := by
  have hkey : ((2 + a) * 65536 + j % 65536) / 65536 = 2 + a := by omega
  rw [TrackSt.entry, Sparse.get, clearLearning, Sparse.find?_filter_none _ _ _ fun v => by simp [hkey]]
  rfl

theorem clearLearning_entry_ne {a t : Nat} (h : t ≠ 2 + a) (j : Nat) (s : State) :
    (clearLearning a s).track.entry t j = s.track.entry t j := by
  have hkey : (t * 65536 + j % 65536) / 65536 = t := by omega
  rw [TrackSt.entry, Sparse.get, clearLearning, Sparse.find?_filter _ _ _ fun v => by simp [hkey, h]]
  rfl

theorem clearLearning_notReady (a : Nat) (s : State) : ((clearLearning a s).track.ready[a]?).getD false = false := by
  rw [clearLearning, Vector.getElem?_setIfInBounds_self]
  split <;> rfl

/-! ## The extra DEFL block (R386) -/

@[simp] theorem sendDefl_track (n : Nat) (word : Int) (stale shift : Bool) (s : State) :
    (sendDefl n word stale shift s).track = s.track := by
  simp only [sendDefl]
  split
  · rfl
  · exact State.emit_track _ _

@[simp] theorem setWords_words_x (x y : Int) (s : State) : (setWords x y s).track.words[0] = x := by
  simp [setWords]

@[simp] theorem setWords_words_y (x y : Int) (s : State) : (setWords x y s).track.words[1] = y := by
  simp [setWords]

theorem recentreDue_none (h : s.track.recentre = []) : recentreDue s = (s, false) := by
  simp [recentreDue, h]

/-- The engine once h_dfl has taken in the step of the one re-centre that is due. -/
def State.recentred (s : State) (step : Int) : State :=
  { s with track := { s.track with hDfl := s.track.hDfl + step, recentre := [] } }

theorem recentreDue_one {x : PendShift} {b : Nat × Int} (h : s.track.recentre = [x])
    (hb : s.stage.beats.find? (fun b => b.1 == x.beat) = some b) (hripe : b.2 - (10 * s.fd F.TRACK_RECENTRE_ADV_NS : Nat) ≤ s.stageT) :
    recentreDue s = (s.recentred x.step, true) := by
  have hdue : decide (s.stageT ≥ b.2 - (10 * s.fd F.TRACK_RECENTRE_ADV_NS : Nat)) = true := decide_eq_true hripe
  simp only [recentreDue, h, List.filter, hb, hdue]
  simp [State.recentred, sumI]

theorem doRecentre_none (h : s.track.recentre = []) : doRecentre s = s := by
  simp [doRecentre, recentreDue_none h]

/-- The block carries the last X word with the grid as it now stands, and Y keeps its word. -/
theorem doRecentre_one (hon : s.trackOn = true) (hrun : s.plan.state.running = true) {x : PendShift}
    (h : recentreDue s = (s.recentred x.step, true)) :
    doRecentre s = sendDefl 16 (s.recentred x.step).gridWord false true
      (setWords (s.recentred x.step).gridWord s.track.words[1] (s.recentred x.step)) := by
  simp only [doRecentre, h, hon, hrun]
  rfl

/-! ## The statement -/

/-- Settles O18: each command by the branch of its definition that the engine and the stripe select; the tables by what a write and a clear
leave to read (`TrackSt.entry_set`, `clearLearning_entry_same`), the extra block by the one re-centre that is due (`recentreDue_one`). -/
theorem trackingTablesAndBlocks : Obligations.TrackingTablesAndBlocks := by
  unfold Obligations.TrackingTablesAndBlocks
  refine ⟨⟨?swap, ?swapLater, ?swapBusy, ?clear, ?mapWrite, ?repCfg, ?busy⟩, ?recentre, ?nothingDue⟩
  case swap =>
    intro s h hsafe hon hwait hactive
    rw [exec_swap h hsafe hon, doSwap_inactive hon hwait hactive, applySwap_track]
    exact ⟨rfl, rfl, rfl⟩
  case swapLater =>
    intro s h hsafe hon hwait hrun hulim
    rw [exec_swap h hsafe hon, doSwap_running hon hwait hrun hulim]
    exact ⟨_, rfl, rfl⟩
  case swapBusy =>
    intro s h hsafe hon hwait
    rw [exec_swap h hsafe hon, doSwap_waiting hon hwait]
  case clear =>
    intro s h hsafe hon
    rw [exec_clear h hsafe hon, doTrackClear_on hon]
    exact ⟨_, rfl, fun j => clearLearning_entry_same _ j s, fun k j hk => clearLearning_entry_ne hk j s,
      clearLearning_notReady _ s, rfl⟩
  case mapWrite =>
    intro s v h hsafe hon hrun
    rw [exec_trackMapDataWrite h hsafe hon, doMapWrite_idle hon hrun]
    exact ⟨_, rfl, TrackSt.entry_set rfl (s.fd_lt F.TRACK_MAP_INDEX_INDEX 0), rfl, rfl⟩
  case repCfg =>
    intro s v h hsafe hon hrun
    rw [exec_trackRepCfgWrite h hsafe hon, doRepCfgWrite_idle hon hrun]
    exact ⟨_, rfl, rfl, fun j => clearLearning_entry_same _ j _, rfl⟩
  case busy =>
    rintro s v c (rfl | rfl) h hsafe hon hrun
    · rw [exec_trackMapDataWrite h hsafe hon, doMapWrite_running hon hrun]
    · rw [exec_trackRepCfgWrite h hsafe hon, doRepCfgWrite_running hon hrun]
  case recentre =>
    intro s x b h hon hrun hx hb hripe
    rw [exec_recentreBlock h, doRecentre_one hon hrun (recentreDue_one hx hb hripe)]
    refine ⟨_, rfl, ?_⟩
    rw [sendDefl_track, setWords_words_x, setWords_words_y]
    exact ⟨rfl, rfl, rfl, rfl, rfl⟩
  case nothingDue =>
    intro s h hon hx
    rw [exec_recentreBlock h, doRecentre_none hx]

end Sys2Proof.Machine

/-! PROOFS. Frames at a MAC, and DATA datagrams (R399, R403, R404, R407): what a frame comes to by its bytes, what lace intake leaves
alone, and what becomes of a DATA datagram and its flow. -/

namespace Sys2Proof.Machine

variable {s : State} {p : List Byte}

/-! ## The rows of frames -/

/-- The rows of the table that bring a frame to a MAC. -/
def frameRows : List (RxFrame → Instr) := [Instr.dataDatagram, .ctrlDatagram, .edgeDatagram, fun f => .ptpFrameRx f.mac f.bytes]

/-- Whatever row brings a frame, it is taken as its bytes say (R399). -/
theorem exec_frame {c : RxFrame → Instr} (hc : c ∈ frameRows) (f : RxFrame) (s : State) :
    exec (c f) s = .next (netFrame f.mac.val f.bytes s) := by
  simp only [frameRows, List.mem_cons, List.not_mem_nil, or_false] at hc
  rcases hc with rfl | rfl | rfl | rfl
  · rfl
  · rfl
  · rfl
  · rfl

/-- Ports that take frames belong to a device whose blocks run (R556, Table 15-5). -/
theorem State.up_of_netOpen (h : s.netOpen = true) : s.up := by
  simp only [State.netOpen, Bool.and_eq_true, bne_iff_ne] at h
  exact h.1

/-! ## What a frame is (R399) -/

section
variable {mac : Nat} {l : List Byte} (ho : s.netOpen = true)
include ho

theorem netFrame_discarded (h : s.rxFrame mac l = .discarded) : netFrame mac l s = s.bump F.NET_RX_DISCARD_COUNT 1 mac := by
  simp [netFrame, ho, h]

theorem netFrame_transport (h : s.rxFrame mac l = .transport p) : netFrame mac l s = transportIn p s := by
  simp [netFrame, ho, h]

theorem netFrame_ptp (h : s.rxFrame mac l = .ptp) : netFrame mac l s = ptpRx mac l s := by
  simp [netFrame, ho, h]

end

/-- A MAC without link takes no frame, and none takes one longer than NET_MTU. -/
theorem rxFrame_unfit {mac : Nat} {l : List Byte} (h : s.linked mac = false ∨ s.mtu < l.length + 4) : s.rxFrame mac l = .discarded := by
  rcases h with h | h
  · simp [State.rxFrame, h]
  · simp [State.rxFrame, h]

/-! ## What a transport datagram is (R403) -/

theorem transportIn_bad (h : s.transportBad p = true) : transportIn p s = transportDrop s := if_pos h

section
variable (hok : s.transportBad p = false)
include hok

theorem transportIn_data (h : byteAt p 1 = 1) : transportIn p s = dataDatagram p s := by
  simp [transportIn, hok, h]

theorem transportIn_ctrl (h : byteAt p 1 = 2) : transportIn p s = s := by
  simp [transportIn, hok, h]

theorem transportIn_edge (hn : s.native = true) (h : byteAt p 1 = 3) :
    transportIn p s = anyRecord (slice p 0x14 (leAt p 0x10 2)) s := by
  simp [transportIn, hok, hn, h]

/-- A well-formed datagram is as long as its LENGTH says. -/
theorem length_of_transportOk : p.length = leAt p 0x10 2 + 0x18 := by
  simp only [State.transportBad, Bool.or_eq_false_iff, bne_eq_false_iff_eq] at hok
  tauto

/-- A well-formed datagram names one of the 64 flows. -/
theorem flow_lt_of_transportOk : byteAt p 2 < 64 := by
  simp only [State.transportBad, Bool.or_eq_false_iff, decide_eq_false_iff_not, Nat.not_lt] at hok
  have hle : byteAt p 2 ≤ 63 := by tauto
  exact Nat.lt_succ_of_le hle

end

/-- Cutting gives as many pieces as there is fuel, where the list is long enough. -/
theorem chunksOf_length {α : Type} {n : Nat} (hn : 0 < n) {fuel : Nat} {l : List α} (h : l.length = n * fuel) :
    (chunksOf n fuel l).length = fuel := by
  induction fuel generalizing l with
  | zero => rfl
  | succ fuel ih =>
    rw [Nat.mul_succ] at h
    cases l with
    | nil => simp at h; omega
    | cons a r =>
      have hrest : ((a :: r).drop n).length = n * fuel := by rw [List.length_drop, h]; omega
      simp only [chunksOf, List.length_cons, ih hrest]

/-- A well-formed DATA datagram carries LENGTH div 8 stitches. -/
theorem payloadStitches_length (hlen : p.length = leAt p 0x10 2 + 0x18) : (payloadStitches p).length = leAt p 0x10 2 / 8 := by
  have hslice : (slice p 0x14 (8 * (leAt p 0x10 2 / 8))).length = 8 * (leAt p 0x10 2 / 8) := by
    rw [slice, List.length_take, List.length_drop]
    omega
  rw [payloadStitches, List.length_map, chunksOf_length (by decide) hslice]

/-- A fault raised after a count has the entry it would have had before it. -/
theorem State.raise_bump (s : State) (x : RegField) (n i : Nat) (c : FaultCode) : (s.bump x n i).raise c = (s.raise c).bump x n i := by
  have hfault : ((s.bump x n i).raise c).fault = (s.raise c).fault :=
    State.raise_fault_congr (State.bump_fault s x n i) c
  rw [State.raise_eq, hfault, State.raise_eq s]
  rfl

/-! ## The records of an EDGE datagram (R407) -/

section
variable {r : List Byte} (hup : s.up) (hn : s.native = true)
include hup hn

theorem exec_edgingRecord_anyRecord (h : byteAt r 0 = 1 ∨ byteAt r 0 = 2) : exec (.edgingRecord r) s = .next (anyRecord r s) := by
  have h3 : byteAt r 0 ≠ 3 := by omega
  rw [exec_edgingRecord_typed hup hn h, anyRecord, if_neg h3, if_pos h]

theorem exec_seamRecord_anyRecord (h : byteAt r 0 = 3) : exec (.seamRecord r) s = .next (anyRecord r s) := by
  rw [exec_seamRecord hup hn, anyRecord, if_pos h]

theorem exec_edgingReply_anyRecord (h : byteAt r 0 = 0x81 ∨ byteAt r 0 = 0x82 ∨ byteAt r 0 = 0x83) :
    exec (.edgingReply r) s = .next (anyRecord r s) := by
  have h3 : byteAt r 0 ≠ 3 := by omega
  have h12 : ¬ (byteAt r 0 = 1 ∨ byteAt r 0 = 2) := by omega
  rw [exec_edgingReply hup hn h, anyRecord, if_neg h3, if_neg h12, if_pos h]

end

theorem anyRecord_untyped {r : List Byte} (h : byteAt r 0 = 0) : anyRecord r s = edgingBad s := by
  simp [anyRecord, h]

/-- What an EDGE datagram carries is taken as its record. -/
theorem exec_edgeDatagram {f : RxFrame} (ho : s.netOpen = true) (hn : s.native = true)
    (hrx : s.rxFrame f.mac.val f.bytes = .transport p) (hok : s.transportBad p = false) (hkind : byteAt p 1 = 3) :
    exec (.edgeDatagram f) s = .next (anyRecord (slice p 0x14 (leAt p 0x10 2)) s) :=
  congrArg Host.Outcome.next ((netFrame_transport ho hrx).trans (transportIn_edge hok hn hkind))

/-! ## Lace intake leaves the rest of the device alone (R146, R147) -/

/-- The state with everything that lace intake can touch left out. -/
def State.besidesIntake (s : State) : State :=
  { s with freeCount := 0, regs := [], fault := FaultSt.reset, lace := LaceSt.reset, hbm := HbmSt.reset, dram := [], dramMark := [] }

theorem setScope_besidesIntake (s : State) (i : Fin 2) (sc : LaceScope) : (s.setScope i sc).besidesIntake = s.besidesIntake := rfl

theorem stitchStore_besidesIntake (a : Nat) (w : Stitch) (s : State) : (stitchStore a w s).besidesIntake = s.besidesIntake := rfl

theorem chunkPlace_besidesIntake (s : State) (sc : LaceScope) (n : Nat) : (s.chunkPlace sc n).2.besidesIntake = s.besidesIntake := rfl

theorem laceStitch_besidesIntake (i : Fin 2) (s : State) (w : Stitch) : (laceStitch i w s).besidesIntake = s.besidesIntake := by
  simp only [laceStitch]
  generalize (if bits w.toNat 5 0 = 1 then bits w.toNat 23 6 else 0) = len
  split
  · rw [State.raise_eq]; rfl
  split
  · rw [setScope_besidesIntake]
  split
  · split
    · obtain ⟨g, hrej⟩ := laceReject_eq i .LAC_BUFFER 0 s
      rw [setScope_besidesIntake, hrej]; rfl
    split
    · rw [setScope_besidesIntake, stitchStore_besidesIntake, chunkPlace_besidesIntake]
    · rw [setScope_besidesIntake, stitchStore_besidesIntake, chunkPlace_besidesIntake]
  split
  · rw [setScope_besidesIntake, stitchStore_besidesIntake]
  · rw [setScope_besidesIntake, stitchStore_besidesIntake]

/-- Lace intake changes what it holds, registers, faults, free values and DRAM with its controller alone. -/
theorem laceIntake_eq (i : Fin 2) (l : List Stitch) (s : State) : ∃ k g f c h d m, laceIntake i l s =
    { s with freeCount := k, regs := g, fault := f, lace := c, hbm := h, dram := d, dramMark := m } := by
  have hkeep : (laceIntake i l s).besidesIntake = s.besidesIntake := foldl_keeps State.besidesIntake _ (laceStitch_besidesIntake i) l s
  refine ⟨(laceIntake i l s).freeCount, (laceIntake i l s).regs, (laceIntake i l s).fault, (laceIntake i l s).lace,
    (laceIntake i l s).hbm, (laceIntake i l s).dram, (laceIntake i l s).dramMark, ?_⟩
  exact congrArg (fun t : State => { t with
    freeCount := (laceIntake i l s).freeCount, regs := (laceIntake i l s).regs, fault := (laceIntake i l s).fault,
    lace := (laceIntake i l s).lace, hbm := (laceIntake i l s).hbm, dram := (laceIntake i l s).dram,
    dramMark := (laceIntake i l s).dramMark }) hkeep

/-! ## Flows (R404, R405) -/

theorem State.flow_congr {t : State} (h : t.net = s.net) (f : Nat) : t.flow f = s.flow f := by
  simp only [State.flow, h]

theorem State.setFlow_setFlow (s : State) (f : Nat) (x y : Flow) : (s.setFlow f x).setFlow f y = s.setFlow f y := by
  simp only [State.setFlow, Vector.setIfInBounds_setIfInBounds]

/-- CTRLs taken back leave everything but what has left the device. -/
theorem unsendCtrl_eq (f : Nat) (s : State) : unsendCtrl f s = { s with out := (unsendCtrl f s).out } := by
  have hkeep : ({ unsendCtrl f s with out := [] } : State) = { s with out := [] } := by
    refine foldl_keeps (fun t : State => ({ t with out := [] } : State)) _ (fun t e => ?_) s.cyc s
    split
    · split
      · rfl
      · rfl
    · rfl
  exact congrArg (fun t : State => { t with out := (unsendCtrl f s).out }) hkeep

/-- A NAK of flow f is due. -/
def State.nakOwed (s : State) (f : Nat) : State := s.setFlow f { s.flow f with nakDue := true }

/-- A NAK that is sent, in place of the CTRLs of its cycle, keeps the sequence and the count of its flow. -/
theorem sendNak_eq {f : Nat} (hf : f < 64) (src : Nat) (s : State) :
    ∃ x o c, sendCtrl f true false src (unsendCtrl f (s.nakOwed f)) = { s.setFlow f x with out := o, cyc := c } ∧
      x.next = (s.flow f).next ∧ x.received = (s.flow f).received := by
  obtain ⟨o, c, hctrl⟩ := sendCtrl_eq f true false src (unsendCtrl f (s.nakOwed f))
  have hflow : (unsendCtrl f (s.nakOwed f)).flow f = { s.flow f with nakDue := true } := by
    rw [unsendCtrl_eq]
    exact State.flow_setFlow hf s _
  refine ⟨(unsendCtrl f (s.nakOwed f)).flowReported f true, o, c, ?_, (congrArg Flow.next hflow :), (congrArg Flow.received hflow :)⟩
  rw [hctrl]
  generalize (unsendCtrl f (s.nakOwed f)).flowReported f true = y
  rw [unsendCtrl_eq, ← State.setFlow_setFlow s f { s.flow f with nakDue := true } y]
  rfl

/-- A NAK, sent or still due, keeps the sequence and the count of its flow; besides the flows it changes only what has left the device and
the notes of the cycle. -/
theorem flowNak_eq {f : Nat} (hf : f < 64) (src : Nat) (s : State) :
    ∃ x o c, flowNak f src s = { s.setFlow f x with out := o, cyc := c } ∧ x.next = (s.flow f).next ∧ x.received = (s.flow f).received := by
  simp only [flowNak]
  split
  · split
    · exact ⟨{ s.flow f with nakDue := true }, s.out, s.cyc, rfl, rfl, rfl⟩
    · exact sendNak_eq hf src s
  · exact sendNak_eq hf src s

/-! ## A DATA datagram (R146, R404) -/

/-- Flow f has taken a datagram of n stitches. -/
def State.flowMoved (s : State) (f n : Nat) : Flow :=
  { s.flow f with next := ((s.flow f).next + 1) % 2 ^ 32, received := (s.flow f).received + n, opened := false, nakDue := false }

/-- A datagram is as far ahead of its flow as the sequence numbers, taken modulo 2^32, say. -/
def State.seqAhead (s : State) (p : List Byte) : Nat := (leAt p 0xC 4 + 2 ^ 32 - (s.flow (byteAt p 2)).next) % 2 ^ 32

theorem dataDatagram_noScope (h : s.flowOwner (byteAt p 2) = none) : dataDatagram p s =
    (sendCtrl (byteAt p 2) false true (leAt p 4 2)
      ((s.bump F.LACE_DROP_COUNT_COUNT (payloadStitches p).length (s.dropScope (byteAt p 2))).raise .LAC_NO_SCOPE)).mark
        (.dataLost (byteAt p 2) p (s.dropScope (byteAt p 2))) := by
  simp only [dataDatagram, h]

section
variable {o : FlowOwner} (hown : s.flowOwner (byteAt p 2) = some o)
include hown

theorem dataDatagram_otherStream (h : leAt p 8 4 ≠ s.ownerStream o) : dataDatagram p s = s.bump F.NET_XPORT_BAD_COUNT := by
  simp only [dataDatagram, hown]
  exact if_pos h

variable (hstream : leAt p 8 4 = s.ownerStream o)
include hstream

theorem dataDatagram_accepted (hseq : s.seqAhead p = 0)
    (hcredit : (s.flow (byteAt p 2)).received + (payloadStitches p).length ≤ s.flowLimit (byteAt p 2)) :
    dataDatagram p s = flowDeliver o (payloadStitches p)
      ((s.setFlow (byteAt p 2) (s.flowMoved (byteAt p 2) (payloadStitches p).length)).mark
        (.dataIn (byteAt p 2) (payloadStitches p).length (leAt p 4 2) (s.flow (byteAt p 2)))) := by
  simp only [State.seqAhead] at hseq
  simp only [dataDatagram, hown, hstream, hseq, ne_eq, not_true_eq_false, if_false, if_true, if_pos hcredit]
  rfl

theorem dataDatagram_overCredit (hseq : s.seqAhead p = 0)
    (hcredit : s.flowLimit (byteAt p 2) < (s.flow (byteAt p 2)).received + (payloadStitches p).length) :
    dataDatagram p s = flowNak (byteAt p 2) (leAt p 4 2) (s.raise .NET_CREDIT_VIOLATION) := by
  simp only [State.seqAhead] at hseq
  simp only [dataDatagram, hown, hstream, hseq, ne_eq, not_true_eq_false, if_false, if_true, if_neg (Nat.not_le.2 hcredit)]

theorem dataDatagram_ahead (hpos : 0 < s.seqAhead p) (hnear : s.seqAhead p < 2 ^ 31) :
    dataDatagram p s = flowNak (byteAt p 2) (leAt p 4 2)
      ((s.bump F.NET_FLOW_ORDER_COUNT_COUNT 1 (byteAt p 2)).raise .NET_FLOW_ORDER) := by
  have hne := Nat.ne_of_gt hpos
  simp only [State.seqAhead] at hne hnear
  simp only [dataDatagram, hown, hstream, ne_eq, not_true_eq_false, if_false, if_neg hne, if_pos hnear]

theorem dataDatagram_behind (hfar : 2 ^ 31 ≤ s.seqAhead p) :
    dataDatagram p s = s.bump F.NET_FLOW_ORDER_COUNT_COUNT 1 (byteAt p 2) := by
  have hne : s.seqAhead p ≠ 0 := by omega
  simp only [State.seqAhead] at hne hfar
  simp only [dataDatagram, hown, hstream, ne_eq, not_true_eq_false, if_false, if_neg hne, if_neg (Nat.not_lt.2 hfar)]

end

/-- The datagram that a flow waits for is not ahead of it. -/
theorem seqAhead_next (h : leAt p 0xC 4 = (s.flow (byteAt p 2)).next) : s.seqAhead p = 0 := by
  rw [State.seqAhead, h, Nat.add_sub_cancel_left, Nat.mod_self]

/-! ## The statement -/

/-- Settles O36: each clause by what the frame's bytes make of it (`netFrame_transport` and the equations of `transportIn`), a DATA
datagram by the equation of `dataDatagram` for its owner, stream, sequence number and credit; `laceIntake_eq` and `flowNak_eq`
say what an accepted and a refused one leave alone. -/
theorem transportDatagrams : Obligations.TransportDatagrams := by
  unfold Obligations.TransportDatagrams
  have hdata : ∀ {f : RxFrame} {s : State} {p : List Byte}, s.netOpen = true → s.rxFrame f.mac.val f.bytes = .transport p →
      s.transportBad p = false → byteAt p 1 = 1 → exec (.dataDatagram f) s = .next (dataDatagram p s) :=
    fun ho hrx hok hkind => congrArg Host.Outcome.next ((netFrame_transport ho hrx).trans (transportIn_data hok hkind))
  refine ⟨?discarded, ?unfit, ?bad, ?ctrl, ?accepted, ?overCredit, ?ahead, ?behind, ?otherStream, ?noScope, ?edging, ?seam, ?reply, ?untyped⟩
  case discarded =>
    intro c f s hc ho hrx
    rw [exec_frame hc, netFrame_discarded ho hrx]
  case unfit =>
    intro c f s hc ho hunfit
    rw [exec_frame hc, netFrame_discarded ho (rxFrame_unfit hunfit)]
  case bad =>
    intro c f s p hc ho hrx hbad
    rw [exec_frame (List.mem_append_left [fun f => .ptpFrameRx f.mac f.bytes] hc), netFrame_transport ho hrx, transportIn_bad hbad]
    rfl
  case ctrl =>
    intro f s p ho hrx hok hkind
    exact congrArg Host.Outcome.next ((netFrame_transport ho hrx).trans (transportIn_ctrl hok hkind))
  case accepted =>
    intro f s p i ho hrx hok hkind hown hstream hseq hcredit
    rw [hdata ho hrx hok hkind, dataDatagram_accepted hown hstream (seqAhead_next hseq) hcredit,
      payloadStitches_length (length_of_transportOk hok)]
    obtain ⟨k, g, f, c, h, d, m, hintake⟩ := laceIntake_eq i (payloadStitches p)
      ((s.setFlow (byteAt p 2) (s.flowMoved (byteAt p 2) (leAt p 0x10 2 / 8))).mark
        (.dataIn (byteAt p 2) (leAt p 0x10 2 / 8) (leAt p 4 2) (s.flow (byteAt p 2))))
    have hflow := State.flow_setFlow (flow_lt_of_transportOk hok) s (s.flowMoved (byteAt p 2) (leAt p 0x10 2 / 8))
    rw [flowDeliver, hintake]
    exact ⟨_, rfl, (congrArg Flow.next hflow :), (congrArg Flow.received hflow :), (congrArg Flow.opened hflow :),
      (congrArg Flow.nakDue hflow :), rfl, rfl, rfl, rfl, rfl, rfl, rfl, rfl⟩
  case overCredit =>
    intro f s p i ho hrx hok hkind hown hstream hseq hcredit
    have hf := flow_lt_of_transportOk hok
    obtain ⟨x, o, c, hnak, hnext, hrecv⟩ := flowNak_eq hf (leAt p 4 2) (s.raise .NET_CREDIT_VIOLATION)
    rw [hdata ho hrx hok hkind, dataDatagram_overCredit hown hstream (seqAhead_next hseq) hcredit, hnak]
    have hflow : ((s.raise .NET_CREDIT_VIOLATION).setFlow (byteAt p 2) x).flow (byteAt p 2) = x := State.flow_setFlow hf _ x
    have hsame := State.flow_congr (s.raise_net .NET_CREDIT_VIOLATION) (byteAt p 2)
    refine ⟨_, rfl, rfl, ?_, ?_, rfl⟩
    · rw [← hsame, ← hnext]; exact congrArg Flow.next hflow
    · rw [← hsame, ← hrecv]; exact congrArg Flow.received hflow
  case ahead =>
    intro f s p i d ho hrx hok hkind hown hstream hd hpos hnear
    have hf := flow_lt_of_transportOk hok
    have hahead : s.seqAhead p = d := hd.symm
    obtain ⟨x, o, c, hnak, hnext, hrecv⟩ :=
      flowNak_eq hf (leAt p 4 2) ((s.bump F.NET_FLOW_ORDER_COUNT_COUNT 1 (byteAt p 2)).raise .NET_FLOW_ORDER)
    rw [hdata ho hrx hok hkind, dataDatagram_ahead hown hstream (by rwa [hahead]) (by rwa [hahead]), hnak]
    have hflow := State.flow_setFlow hf ((s.bump F.NET_FLOW_ORDER_COUNT_COUNT 1 (byteAt p 2)).raise .NET_FLOW_ORDER) x
    have hsame := State.flow_congr ((s.bump F.NET_FLOW_ORDER_COUNT_COUNT 1 (byteAt p 2)).raise_net .NET_FLOW_ORDER) (byteAt p 2)
    refine ⟨_, rfl, State.raise_regs _ _, ?_, ?_, rfl⟩
    · exact (congrArg Flow.next hflow).trans (hnext.trans (congrArg Flow.next hsame))
    · exact (congrArg Flow.received hflow).trans (hrecv.trans (congrArg Flow.received hsame))
  case behind =>
    intro f s p i ho hrx hok hkind hown hstream hfar
    rw [hdata ho hrx hok hkind, dataDatagram_behind hown hstream hfar]
  case otherStream =>
    intro f s p i ho hrx hok hkind hown hstream
    rw [hdata ho hrx hok hkind, dataDatagram_otherStream hown hstream]
  case noScope =>
    intro f s p ho hrx hok hkind hown
    rw [hdata ho hrx hok hkind, dataDatagram_noScope hown, payloadStitches_length (length_of_transportOk hok), State.raise_bump]
    obtain ⟨o, c, hctrl⟩ := sendCtrl_eq (byteAt p 2) false true (leAt p 4 2)
      ((s.raise .LAC_NO_SCOPE).bump F.LACE_DROP_COUNT_COUNT (leAt p 0x10 2 / 8) (s.dropScope (byteAt p 2)))
    rw [hctrl, ← State.raise_regs _ .LAC_NO_SCOPE, State.raise_bump]
    exact ⟨_, rfl, rfl, rfl, rfl⟩
  case edging =>
    intro f s p r ho hn hrx hok hkind hr htyp
    rw [exec_edgeDatagram ho hn hrx hok hkind, ← hr, exec_edgingRecord_anyRecord (State.up_of_netOpen ho) hn htyp]
  case seam =>
    intro f s p r ho hn hrx hok hkind hr htyp
    rw [exec_edgeDatagram ho hn hrx hok hkind, ← hr, exec_seamRecord_anyRecord (State.up_of_netOpen ho) hn htyp]
  case reply =>
    intro f s p r ho hn hrx hok hkind hr htyp
    rw [exec_edgeDatagram ho hn hrx hok hkind, ← hr, exec_edgingReply_anyRecord (State.up_of_netOpen ho) hn htyp]
  case untyped =>
    intro f s p r ho hn hrx hok hkind hr htyp
    rw [exec_edgeDatagram ho hn hrx hok hkind, ← hr, anyRecord_untyped htyp]
    rfl

end Sys2Proof.Machine

/-! PROOFS. The network ports (R397, R405, R407, R408, R470): CTRL_PERIODIC over the flows, link of a MAC, and a PTP frame for a
PTP_RECV. -/

namespace Sys2Proof.Machine

variable {s t : State}

/-! ## CTRL_PERIODIC (R405) -/

/-- A CTRL of flow f is due: an open scope names the flow, and CTRL_US have passed since the last. -/
def State.ctrlDue (s : State) (f : Nat) : Bool := (s.flowOwner f).isSome && decide (s.now ≥ (s.flow f).ctrlAt + s.ctrlPs)

/-- What CTRL_PERIODIC does for flow f. -/
def ctrlTurn (s : State) (f : Nat) : State := if s.ctrlDue f then sendCtrl f (s.flow f).nakDue false 0xFFFF s else s

theorem exec_ctrlPeriodic (ho : s.netOpen = true) : exec .ctrlPeriodic s = .next ((List.range 64).foldl ctrlTurn s) := by
  have hexec : exec .ctrlPeriodic s = .next (if !s.netOpen then s else (List.range 64).foldl ctrlTurn s) := rfl
  rw [hexec, ho]
  rfl

/-- t differs from s in the flows, what has left the device and the notes of the cycle alone. -/
def State.SentFrom (s t : State) : Prop := t = { s with net := t.net, out := t.out, cyc := t.cyc }

theorem State.SentFrom.trans {u : State} (h : s.SentFrom t) (h' : t.SentFrom u) : s.SentFrom u := by
  rw [State.SentFrom] at h h' ⊢
  rw [h', h]

/-- Flow f after CTRL_PERIODIC. -/
def State.ctrlTurned (s : State) (f : Nat) : Flow := if s.ctrlDue f then s.flowReported f (s.flow f).nakDue else s.flow f

theorem ctrlTurn_sent (s : State) (f : Nat) : s.SentFrom (ctrlTurn s f) := by
  rw [ctrlTurn]
  split
  · obtain ⟨o, c, hctrl⟩ := sendCtrl_eq f (s.flow f).nakDue false 0xFFFF s
    rw [hctrl]; rfl
  · rfl

theorem State.flow_setFlow_ne (s : State) {f g : Nat} (x : Flow) (h : g ≠ f) : (s.setFlow f x).flow g = s.flow g := by
  simp [State.flow, State.setFlow, h.symm]

theorem flow_ctrlTurn_same {f : Nat} (hf : f < 64) (s : State) : (ctrlTurn s f).flow f = s.ctrlTurned f := by
  rw [ctrlTurn, State.ctrlTurned]
  split
  · exact sendCtrl_flow hf _ _ _ s
  · rfl

theorem flow_ctrlTurn_ne {f g : Nat} (h : g ≠ f) (s : State) : (ctrlTurn s f).flow g = s.flow g := by
  rw [ctrlTurn]
  split
  · obtain ⟨o, c, hctrl⟩ := sendCtrl_eq f (s.flow f).nakDue false 0xFFFF s
    rw [hctrl]
    exact s.flow_setFlow_ne _ h
  · rfl

/-- What becomes of a flow does not depend on other flows. -/
theorem State.SentFrom.ctrlTurned (h : s.SentFrom t) {f : Nat} (hflow : t.flow f = s.flow f) : t.ctrlTurned f = s.ctrlTurned f := by
  have hown : t.flowOwner f = s.flowOwner f := by rw [h]; rfl
  have hfree : ∀ o, t.ownerFree o = s.ownerFree o := fun o => by rw [h]; cases o <;> rfl
  have hlimit : t.flowLimit f = s.flowLimit f := by
    rw [State.flowLimit, State.flowLimit, hown, hflow]
    split
    · rw [hfree]
    · rfl
  have hperiod : t.ctrlPs = s.ctrlPs := by rw [h]; rfl
  have hnow : t.now = s.now := by rw [h]
  have hdue : t.ctrlDue f = s.ctrlDue f := by rw [State.ctrlDue, State.ctrlDue, hown, hflow, hperiod, hnow]
  rw [State.ctrlTurned, State.ctrlTurned, State.flowReported, State.flowReported, hdue, hlimit, hnow, hflow]

/-- Over a list of flows each of them has its turn, once. -/
theorem flow_foldl_ctrlTurn {l : List Nat} (hl : l.Nodup) (hlt : ∀ f ∈ l, f < 64) (s : State) (g : Nat) :
    (l.foldl ctrlTurn s).flow g = if g ∈ l then s.ctrlTurned g else s.flow g := by
  induction l generalizing s with
  | nil => rfl
  | cons f l ih =>
    obtain ⟨hf, hl⟩ := List.nodup_cons.1 hl
    obtain ⟨hf64, hlt⟩ := List.forall_mem_cons.1 hlt
    rw [List.foldl_cons, ih hl hlt]
    by_cases hg : g = f
    · subst hg
      rw [if_neg hf, if_pos List.mem_cons_self, flow_ctrlTurn_same hf64]
    · have hsame := flow_ctrlTurn_ne hg s
      simp only [(ctrlTurn_sent s f).ctrlTurned hsame, hsame, List.mem_cons, hg, false_or]

theorem foldl_ctrlTurn_sent (l : List Nat) (s : State) : s.SentFrom (l.foldl ctrlTurn s) := by
  induction l generalizing s with
  | nil => rfl
  | cons f l ih => exact (ctrlTurn_sent s f).trans (ih _)

theorem State.ctrlTurned_kept (s : State) (f : Nat) :
    (s.ctrlTurned f).next = (s.flow f).next ∧ (s.ctrlTurned f).received = (s.flow f).received := by
  rw [State.ctrlTurned]
  split
  · exact ⟨rfl, rfl⟩
  · exact ⟨rfl, rfl⟩

/-! ## Link (R397, R407) -/

theorem exec_netLinkDown (h : s.up) (m : Fin 8) : exec (.netLinkDown m) s =
    .next (if bit s.net.link m.val = 1 then
      ({ s with net := { s.net with link := s.net.link - 2 ^ m.val } } : State).raise .NET_LINK_DOWN else s) :=
  congrArg Host.Outcome.next (State.whenReady_up h _)

theorem exec_linkUp (h : s.up) (m : Fin 8) : exec (.linkUp m) s =
    .next (if !s.linked m.val && bit (modeMacs (s.fd F.NET_PORT_CFG_MODE (m.val / 4))) (m.val % 4) == 1 then
      { s with net := { s.net with link := s.net.link + 2 ^ m.val } } else s) :=
  congrArg Host.Outcome.next (State.whenReady_up h _)

/-- The MACs that a port mode has (Table 11-1): sub-port 0 in modes 1 and 2, all four in modes 3 and 4. -/
theorem bit_modeMacs {k : Nat} (hk : k < 4) (m : Nat) :
    bit (modeMacs m) k = 1 ↔ m = 3 ∨ m = 4 ∨ ((m = 1 ∨ m = 2) ∧ k = 0) := by
  have hone : ∀ j, j < 4 → (bit 1 j = 1 ↔ j = 0) := by decide
  have hall : ∀ j, j < 4 → bit 15 j = 1 := by decide
  have hnone : ∀ j, j < 4 → bit 0 j ≠ 1 := by decide
  rw [modeMacs]
  split
  · rw [hone k hk]; omega
  split
  · simp only [hall k hk, true_iff]; omega
  · simp only [hnone k hk, false_iff]; omega

/-! ## A PTP frame (R408, R470) -/

theorem exec_ptpFrameRx {m : Fin 8} {l : List Byte} (ho : s.netOpen = true) (h : s.rxFrame m.val l = .ptp) :
    exec (.ptpFrameRx m l) s = .next (ptpRx m.val l s) := congrArg Host.Outcome.next (netFrame_ptp ho h)

theorem ptpRx_dropped {mac : Nat} {l : List Byte} (h : s.dma.ops = []) :
    ptpRx mac l s = (s.bump F.DMA_PTP_DROP_COUNT).mark (.ptpDropped mac l (s.rg .DMA_PTP_DROP)) := by
  simp only [ptpRx, h, List.find?_nil]

/-- A started PTP_RECV of a MAC is the one operation in flight. -/
structure PtpWaits (s : State) (mac : Nat) (o : DmaOp) : Prop where
  only : s.dma.ops = [o]
  started : o.started = true
  running : o.result = none
  opcode : opcodeOf o.head = 0x12
  itsMac : bits (paramOf o.head) 2 0 = mac

/-- A PTP_RECV that a frame has reached: its stamp, how much of the frame it holds, and its result. -/
def State.frameTaken (s : State) (mac : Nat) (l : List Byte) (o : DmaOp) : DmaOp :=
  { o with stamp := if s.ptpEvent mac l then s.stampAt (-(s.fd F.NET_PTP_RX_LAT_PS mac : Nat)) else (0, 0, 0),
           frame := (l.take (lenOf o.head)).length, event := s.ptpEvent mac l, elems := [],
           result := some (if lenOf o.head < l.length then 9 else 0, 0) }

section
variable {mac : Nat} {l : List Byte} {o : DmaOp} (h : PtpWaits s mac o)
include h

theorem PtpWaits.awaits : s.dma.ops.find? (s.awaitsFrame mac) = some o := by
  simp [h.only, State.awaitsFrame, h.started, h.running, h.opcode, h.itsMac]

/-- The one operation is replaced. -/
theorem PtpWaits.setOp_ops (hops : t.dma.ops = s.dma.ops) {p : DmaOp} (hring : p.ring = o.ring) (hcount : p.count = o.count) :
    (t.setOp p).dma.ops = [p] := by
  simp [State.setOp, hops, h.only, hring, hcount]

/-- The one operation takes what of the frame its LENGTH holds. -/
theorem PtpWaits.ptpRx_host (hhost : flagOf o.head 3 = false) :
    ptpRx mac l s = (s.emit (.hostWrite (dstOf o.head) (l.take (lenOf o.head)))).setOp (s.frameTaken mac l o) := by
  simp only [ptpRx, h.awaits, hhost, ptpRx.done, State.frameTaken, decide_eq_true_eq, gt_iff_lt]
  rfl

theorem PtpWaits.ptpRx_dram (hdram : flagOf o.head 3 = true)
    (hfree : s.burstFail (o.ring / 8) (dstOf o.head) (l.take (lenOf o.head)).length true = none) :
    ptpRx mac l s = (dramWrite (dstOf o.head) (l.take (lenOf o.head)) s).setOp (s.frameTaken mac l o) := by
  simp only [ptpRx, h.awaits, hdram, ptpRx.done, State.frameTaken, hfree, decide_eq_true_eq, gt_iff_lt, if_true]

end

/-- Nothing of a host write is on a lane, so that it always leaves the device (R638). -/
theorem State.emit_hostWrite (s : State) (a : Nat) (l : List Byte) :
    s.emit (.hostWrite a l) = { s with out := .hostWrite a l :: s.out } := by
  simp [State.emit, Out.onLane]

/-! ## Bytes that reach DRAM (R435) -/

@[simp] theorem writeMark_fault (whole : Bool) (w : Nat) (s : State) : (writeMark whole w s).fault = s.fault := by
  have hplain : (writeMark.plain whole w s).fault = s.fault := by unfold writeMark.plain; split <;> rfl
  unfold writeMark
  split
  · split
    · rfl
    · exact hplain
  · exact hplain

/-- A write inside DRAM raises nothing (R426). -/
theorem dramWrite_fault {a : Nat} {l : List Byte} (ha : a + l.length ≤ dramEnd) (s : State) : (dramWrite a l s).fault = s.fault := by
  unfold dramWrite
  split
  · rfl
  split
  · rename_i hout
    exact absurd ha (Nat.not_le.2 hout)
  split
  · rfl
  split
  · rfl
  · exact foldl_keeps State.fault _ (fun s _ => writeMark_fault _ _ s) _ (s.dramPut a l)

theorem dramWrite_eq_of_fits {a : Nat} {l : List Byte} (ha : a + l.length ≤ dramEnd) (s : State) :
    ∃ h d m, dramWrite a l s = { s with hbm := h, dram := d, dramMark := m } := by
  refine ⟨(dramWrite a l s).hbm, (dramWrite a l s).dram, (dramWrite a l s).dramMark, ?_⟩
  have hframe := dramWrite_eq a l s
  rwa [dramWrite_fault ha] at hframe

theorem dramBytes_dramWrite {a : Nat} {l : List Byte} (ha : a + l.length ≤ dramEnd) (hf : s.hbm.filling = false)
    (hacc : s.hbm.accessible = true) : (dramWrite a l s).dramBytes a l.length = l := by
  by_cases hl : l = []
  · subst hl; rfl
  · rw [dramWrite_performed hl ha hf hacc, State.dramBytes, dramStore_dram]
    exact s.dramBytes_dramPut a l

/-! ## The statement -/

/-- Settles O37: CTRL_PERIODIC by one turn of each flow (`flow_foldl_ctrlTurn`), link by the MACs that a port mode has
(`bit_modeMacs`), a PTP frame by the one operation that waits for it (`PtpWaits`). -/
theorem portsAndPtpFrames : Obligations.PortsAndPtpFrames := by
  unfold Obligations.PortsAndPtpFrames
  have hmac : ∀ m : Fin 8, m.val % 4 < 4 := fun m => Nat.mod_lt _ (by decide)
  refine ⟨?periodic, ?linkDown, ?noLinkDown, ?linkUp, ?noLinkUp, ?discard, ?dropped, ?toHost, ?toDram⟩
  case periodic =>
    intro s ho
    have hflow : ∀ f, f < 64 → ((List.range 64).foldl ctrlTurn s).flow f = s.ctrlTurned f := fun f hf => by
      rw [flow_foldl_ctrlTurn List.nodup_range (fun g hg => List.mem_range.1 hg), if_pos (List.mem_range.2 hf)]
    refine ⟨_, exec_ctrlPeriodic ho, ?_, ?_, ?_, foldl_ctrlTurn_sent _ s⟩
    · intro f hf hown hdue
      have hctrl : s.ctrlDue f = true := by simp [State.ctrlDue, hown, hdue]
      rw [hflow f hf, State.ctrlTurned, if_pos hctrl]
      exact ⟨rfl, rfl⟩
    · intro f hf hnot
      have hctrl : ¬ s.ctrlDue f = true := by
        rcases hnot with hown | hearly
        · simp [State.ctrlDue, hown]
        · simp [State.ctrlDue, hearly]
      rw [hflow f hf, State.ctrlTurned, if_neg hctrl]
    · intro f hf
      rw [hflow f hf]
      exact s.ctrlTurned_kept f
  case linkDown =>
    intro s m hup hlink
    rw [exec_netLinkDown hup, if_pos hlink]
  case noLinkDown =>
    intro s m hup hlink
    rw [exec_netLinkDown hup, if_neg (by rw [hlink]; decide)]
  case linkUp =>
    intro s m hup hlink hmode
    have hhas := (bit_modeMacs (hmac m) (s.fd F.NET_PORT_CFG_MODE (m.val / 4))).2 hmode
    rw [exec_linkUp hup, if_pos (by simp [State.linked, hlink, hhas])]
  case noLinkUp =>
    intro s m hup hnot
    have hhas := bit_modeMacs (hmac m) (s.fd F.NET_PORT_CFG_MODE (m.val / 4))
    rw [exec_linkUp hup, if_neg]
    simp only [State.linked, Bool.and_eq_true, Bool.not_eq_true', beq_eq_false_iff_ne, beq_iff_eq, hhas, ne_eq]
    omega
  case discard =>
    intro s m ho
    have hexec : exec (.netFrameDiscard m) s = .next (if !s.netOpen then s else s.bump F.NET_RX_DISCARD_COUNT 1 m.val) := rfl
    rw [hexec, ho]
    rfl
  case dropped =>
    intro s m l ho hptp hops
    rw [exec_ptpFrameRx ho hptp, ptpRx_dropped hops]
    exact ⟨_, rfl, rfl, rfl⟩
  case toHost =>
    intro s m l o ho hptp hops hstart hrun hop hmac hhost
    have hwait : PtpWaits s m.val o := ⟨hops, hstart, hrun, hop, hmac⟩
    rw [exec_ptpFrameRx ho hptp, hwait.ptpRx_host hhost, State.emit_hostWrite]
    refine ⟨_, rfl, rfl, ?_, rfl⟩
    rw [Nat.min_comm, ← List.length_take]
    exact hwait.setOp_ops rfl rfl rfl
  case toDram =>
    intro s m l o ho hptp hops hstart hrun hop hmac hdram hfree hfill hacc hend
    have hwait : PtpWaits s m.val o := ⟨hops, hstart, hrun, hop, hmac⟩
    have hfits : dstOf o.head + (l.take (lenOf o.head)).length ≤ dramEnd := by
      rw [List.length_take]
      exact Nat.le_trans (Nat.add_le_add_left (Nat.min_le_left _ _) _) hend
    rw [Nat.min_comm, ← List.length_take] at hfree ⊢
    have hbytes := dramBytes_dramWrite hfits hfill hacc
    obtain ⟨h, d, k, hwrite⟩ := dramWrite_eq_of_fits hfits s
    rw [exec_ptpFrameRx ho hptp, hwait.ptpRx_dram hdram hfree]
    rw [hwrite] at hbytes ⊢
    have hdone := hwait.setOp_ops (t := { s with hbm := h, dram := d, dramMark := k }) (p := s.frameTaken m.val l o) rfl rfl rfl
    refine ⟨_, rfl, hbytes, ?_, rfl⟩
    rw [hdone]
    rfl

end Sys2Proof.Machine

/-! PROOFS. The local clock and its triggers (R411, R412, R416, R417, Table 11-5): a step of 2 ns with nothing else due, a trigger that
comes to its target, and ARM. -/

namespace Sys2Proof.Machine

variable {s : State}

/-! ## A step of the clock (R411) -/

/-- 2 ns later, with nothing noted yet in the new cycle. -/
def State.nextStep (s : State) : State := { s with now := s.now + 2000, cyc := [] }

theorem serveWaiting_none (h : s.hbm.waiting = []) : serveWaiting s = s := if_pos h

theorem ctrlRise_none (h : s.openFlows = []) : ctrlRise s = s := by
  rw [ctrlRise, h]
  rfl

theorem beamTick_none (h : s.cad.beamCheck = none) : beamTick s = s := by
  simp only [beamTick, h]

/-- With no request waiting, no flow open and no beam check running, 2 ns move the crossings and the local clock alone. -/
theorem fabricTick_quiet (hwait : s.hbm.waiting = []) (hflows : s.openFlows = []) (hbeam : s.cad.beamCheck = none) :
    fabricTick s = clockTick (crossStep s.islandRuns s) := by
  have hrise : ctrlRise (crossStep s.islandRuns s) = crossStep s.islandRuns s := ctrlRise_none hflows
  have hbeams : beamTick (clockTick (crossStep s.islandRuns s)) = clockTick (crossStep s.islandRuns s) := beamTick_none hbeam
  rw [fabricTick, serveWaiting_none hwait, hrise, hbeams]

theorem exec_clockStep_quiet (h : s.up) (hwait : s.hbm.waiting = []) (hflows : s.openFlows = []) (hbeam : s.cad.beamCheck = none) :
    exec .clockStep s = .next (idleTick 2 (clockTick (crossStep s.nextStep.islandRuns s.nextStep))) := by
  have hfabric : s.nextStep.whenReady fabricTick = clockTick (crossStep s.nextStep.islandRuns s.nextStep) :=
    (State.whenReady_up (s := s.nextStep) h fabricTick).trans (fabricTick_quiet (s := s.nextStep) hwait hflows hbeam)
  have hexec : exec .clockStep s = .next ((s.nextStep.whenReady fabricTick).whenUp (idleTick 2)) := rfl
  rw [hexec, hfabric, State.whenUp_ready]
  exact h.1

theorem exec_clockStep_notReady (h : s.glob.ready = false) : exec .clockStep s = .next s.nextStep := by
  have hready : s.nextStep.whenReady fabricTick = s.nextStep := by
    simp [State.whenReady, show s.nextStep.glob.ready = false from h]
  have hup : s.nextStep.whenUp (idleTick 2) = s.nextStep := by
    simp [State.whenUp, show s.nextStep.glob.ready = false from h]
  have hexec : exec .clockStep s = .next ((s.nextStep.whenReady fabricTick).whenUp (idleTick 2)) := rfl
  rw [hexec, hready, hup]

/-! ## A trigger at its target (R417, Table 11-5) -/

theorem exec_triggerFire (h : s.up) (k : Fin 4) : exec (.triggerFire k) s = .next (fireTrigger k.val s) :=
  congrArg Host.Outcome.next (State.whenReady_up h (fireTrigger k.val))

/-- Trigger k is disarmed and has fired: its flag and its interrupt. -/
def State.fired (s : State) (k : Nat) : State :=
  ((s.setFd F.TIME_TRIG_STATUS_ARMED 0 k).setFlag F.TIME_TRIG_STATUS_FIRED 1 k).irq 67

theorem fireTrigger_notDue {k : Nat} (h : s.fb F.TIME_TRIG_STATUS_ARMED k = false ∨ s.timeValid = false ∨ later (s.trigN k) s.timeN = true) :
    fireTrigger k s = s := by
  rcases h with h | h | h
  · simp [fireTrigger, h]
  · simp [fireTrigger, h]
  · simp [fireTrigger, h]

/-- A trigger is armed and its target is not later than the time. -/
structure TriggerDue (s : State) (k : Nat) : Prop where
  armed : s.fb F.TIME_TRIG_STATUS_ARMED k = true
  valid : s.timeValid = true
  reached : later (s.trigN k) s.timeN = false

section
variable {k : Nat} (h : TriggerDue s k)
include h

theorem TriggerDue.fire_plain (ha : s.trigAction k = 0) : fireTrigger k s = s.fired k := by
  simp [fireTrigger, h.armed, h.valid, h.reached, ha, State.fired]

theorem TriggerDue.fire_align (ha : s.trigAction k = 3) : fireTrigger k s = alignRefs (s.fired k) := by
  simp [fireTrigger, h.armed, h.valid, h.reached, ha, State.fired]

theorem TriggerDue.fire_pulse (ha : s.trigAction k = 4) : fireTrigger k s = ppsPulse (s.fired k) := by
  simp [fireTrigger, h.armed, h.valid, h.reached, ha, State.fired]

end

/-- Firing does not touch the stage time base. -/
theorem State.stageT_fired (s : State) (k : Nat) : (s.fired k).stageT = s.stageT := by
  simp only [State.stageT, State.fired, State.irq_now, State.irq_stage, State.setFlag_now, State.setFlag_stage, State.setFd_now,
    State.setFd_stage]

theorem State.plan_fired (s : State) (k : Nat) : (s.fired k).plan = s.plan := by
  simp only [State.fired, State.irq_plan, State.setFlag_plan, State.setFd_plan]

/-- Firing writes no register but the trigger's status. -/
theorem State.fd_fired (s : State) (k : Nat) {x : RegField} (i : Nat) (hx : x.reg ≠ .TIME_TRIG_STATUS) : (s.fired k).fd x i = s.fd x i := by
  have hflag : ((s.setFd F.TIME_TRIG_STATUS_ARMED 0 k).setFlag F.TIME_TRIG_STATUS_FIRED 1 k).fd x i = s.fd x i := by
    rw [State.setFlag, State.fd_mark, State.fd_setFd_ne _ _ _ _ _ _ hx, State.fd_setFd_ne _ _ _ _ _ _ hx]
  rw [← hflag, State.fd, State.fired, State.irq_regs]
  rfl

theorem State.ppsWidth_fired (s : State) (k : Nat) : (s.fired k).ppsWidth = s.ppsWidth := by
  rw [State.ppsWidth, State.ppsWidth, s.fd_fired k 0 (by decide)]

/-! ## ARM and DISARM (R417) -/

theorem exec_trigArm (h : s.runs) : exec .trigArm s = .next (doTrigArm s) :=
  congrArg Host.Outcome.next (State.hostCmd_plain h doTrigArm rfl rfl)

theorem exec_trigDisarm (h : s.runs) : exec .trigDisarm s = .next (doTrigDisarm s) :=
  congrArg Host.Outcome.next (State.hostCmd_plain h doTrigDisarm rfl rfl)

theorem doTrigArm_invalid (h : s.timeValid = false ∨ s.actionAllowed (s.trigAction (s.fd F.TIME_TRIG_SEL_TRIG)) = false) :
    doTrigArm s = s.raise .TIM_TRIGGER_INVALID := by
  rcases h with h | h
  · simp [doTrigArm, h]
  · simp [doTrigArm, h]

section
variable (hv : s.timeValid = true) (ha : s.actionAllowed (s.trigAction (s.fd F.TIME_TRIG_SEL_TRIG)) = true)
include hv ha

theorem doTrigArm_future (h : later (s.trigN (s.fd F.TIME_TRIG_SEL_TRIG)) s.timeN = true) :
    doTrigArm s = s.setFd F.TIME_TRIG_STATUS_ARMED 1 (s.fd F.TIME_TRIG_SEL_TRIG) := by
  simp [doTrigArm, hv, ha, h]

theorem doTrigArm_past (h : later (s.trigN (s.fd F.TIME_TRIG_SEL_TRIG)) s.timeN = false) :
    doTrigArm s = (s.setFlag F.TIME_TRIG_STATUS_PAST 1 (s.fd F.TIME_TRIG_SEL_TRIG)).raise .TIM_TRIGGER_PAST := by
  simp [doTrigArm, hv, ha, h]

end

/-! ## The statement -/

/-- Settles O38: the step of the clock by `fabricTick_quiet`, a trigger by whether it is due (`TriggerDue`) and its action, ARM by the
equation of `doTrigArm` for its target. -/
theorem clockAndTriggers : Obligations.ClockAndTriggers := by
  unfold Obligations.ClockAndTriggers
  refine ⟨?step, ?notReady, ?notDue, ?plain, ?align, ?pulse, ?future, ?past, ?invalid, ?disarm⟩
  case step =>
    intro s hup hwait hflows hbeam
    exact ⟨_, exec_clockStep_quiet hup hwait hflows hbeam, rfl, rfl, rfl⟩
  case notReady =>
    intro s h
    exact exec_clockStep_notReady h
  case notDue =>
    intro s k hup h
    rw [exec_triggerFire hup, fireTrigger_notDue h]
  case plain =>
    intro s u k hup harmed hvalid hreached hu ha
    rw [exec_triggerFire hup, TriggerDue.fire_plain ⟨harmed, hvalid, hreached⟩ ha, hu, State.fired]
  case align =>
    intro s u k hup harmed hvalid hreached hu ha
    have hfired : s.fired k.val = u := hu.symm
    have hactive : (s.fired k.val).plan.state.active = s.plan.state.active := by rw [s.plan_fired]
    rw [exec_triggerFire hup, TriggerDue.fire_align ⟨harmed, hvalid, hreached⟩ ha, alignRefs, hactive, s.stageT_fired, hfired]
  case pulse =>
    intro s u k hup harmed hvalid hreached hu ha
    have hfired : s.fired k.val = u := hu.symm
    rw [exec_triggerFire hup, TriggerDue.fire_pulse ⟨harmed, hvalid, hreached⟩ ha, ppsPulse, s.ppsWidth_fired, hfired]
  case future =>
    intro s hruns hv ha h
    rw [exec_trigArm hruns, doTrigArm_future hv ha h]
  case past =>
    intro s hruns hv ha h
    rw [exec_trigArm hruns, doTrigArm_past hv ha h]
  case invalid =>
    intro s hruns h
    rw [exec_trigArm hruns, doTrigArm_invalid h]
  case disarm =>
    intro s hruns
    rw [exec_trigDisarm hruns, doTrigDisarm]

end Sys2Proof.Machine

/-! PROOFS. The servo of the local clock (R413 to R416): an offset that is slewed, refused or stepped, SET, and RESTART. -/

namespace Sys2Proof.Machine

variable {s : State}

/-! ## The commands at the host port -/

theorem State.saw_of_cyc_nil (h : s.cyc = []) (e : CycleEvent) : s.saw e = false := by
  simp [State.saw, h]

/-- The offset being processed is noted, for a SET of the same cycle (Table 11-6). -/
def State.servoNoted (s : State) : State := s.mark (.servo s.time s.servoWords)

/-- With no SET before it in its cycle an offset is processed. -/
theorem doServo_first (h : s.cyc = []) (force : Bool) : doServo force s = servo force s.servoNoted := by
  simp [doServo, State.saw_of_cyc_nil h, State.servoNoted]

theorem exec_apply (h : s.runs) (hc : s.cyc = []) : exec .apply s = .next (servo false s.servoNoted) :=
  congrArg Host.Outcome.next ((State.hostCmd_plain h (doServo false) rfl rfl).trans (doServo_first hc false))

theorem exec_force (h : s.runs) (hc : s.cyc = []) : exec .force s = .next (servo true s.servoNoted) :=
  congrArg Host.Outcome.next ((State.hostCmd_plain h (doServo true) rfl rfl).trans (doServo_first hc true))

theorem exec_restart (h : s.runs) : exec .restart s = .next (invalidateTime s) :=
  congrArg Host.Outcome.next (State.hostCmd_plain h invalidateTime rfl rfl)

theorem exec_set (h : s.runs) : exec .set s = .next (doTimeSet s) :=
  congrArg Host.Outcome.next (State.hostCmd_plain h doTimeSet rfl rfl)

/-! ## Flags of one bit (R9) -/

theorem State.fb_setFd_ne (s : State) (x y : RegField) (v i j : Nat) (h : y.reg ≠ x.reg) : (s.setFd x v i).fb y j = s.fb y j := by
  rw [State.fb_eq_fd, State.fb_eq_fd, s.fd_setFd_ne x y v i j h]

/-- A flag that the device sets reads 1. -/
theorem State.fb_setFlag_one (s : State) (x : RegField) (i : Nat) (hx : x.hi < 32) (hlo : x.lo ≤ x.hi) : (s.setFlag x 1 i).fb x i = true := by
  have hone : 1 < 2 ^ (x.hi + 1 - x.lo) := Nat.one_lt_two_pow (by omega)
  rw [State.fb_eq_fd, s.fd_setFlag_same x i hx hone, bne_iff_ne]
  exact Nat.ne_of_gt (Nat.lt_of_lt_of_le Nat.one_pos Nat.right_le_or)

/-- A flag that is a field of one bit is set by writing 1 to it. -/
theorem State.setFlag_bit (s : State) (x : RegField) (i : Nat) (hx : x.hi = x.lo) :
    s.setFlag x 1 i = (s.setFd x 1 i).mark (.bitsSet x.reg i (BitVec.ofNat 32 (1 * 2 ^ x.lo))) := by
  have hor : ∀ b, b < 2 → Nat.lor b 1 = 1 := by decide
  have hlt : s.fd x i < 2 := by
    have hfd := s.fd_lt x i
    rwa [hx, Nat.add_sub_cancel_left] at hfd
  rw [State.setFlag, hor _ hlt]

/-- A fault raised after what changed registers and notes of the cycle alone. -/
theorem State.raise_regs_cyc {t : State} (h : t = { s with regs := t.regs, cyc := t.cyc }) (c : FaultCode) :
    t.raise c = { s.raise c with regs := t.regs, cyc := t.cyc } := by
  have hfault : (t.raise c).fault = (s.raise c).fault := State.raise_fault_congr (by rw [h]) c
  rw [State.raise_eq, hfault, State.raise_eq s]
  exact congrArg (fun u : State => { u with fault := (s.raise c).fault }) h

/-! ## Slewing (R414) -/

theorem sat_eq_max_min {x lim : Int} (h : 0 ≤ lim) : sat x (-lim) lim = max (-lim) (min lim x) := by
  rw [sat]
  split
  · omega
  split
  · omega
  · omega

/-- A limit has cut where the limited value is another (R16). -/
theorem satHit_iff {x lo hi : Int} : satHit x lo hi = true ↔ sat x lo hi ≠ x := by
  simp only [satHit, sat, Bool.or_eq_true, decide_eq_true_eq]
  split
  · omega
  split
  · omega
  · omega

/-- FI and ADJ are slewed to values, a limit having cut or not. -/
def State.slewed (s : State) (fi adj : Int) (cut : Bool) : State :=
  ((if cut then s.setFlag F.TIME_STATUS_ADJ_SAT else s).setRg .TIME_FI (BitVec.ofInt 32 fi)).setRg .TIME_ADJ (BitVec.ofInt 32 adj)

/-- An offset within TIME_STEP_NS of a servo that has its first offset slews (R414): a is the integral, b the sum, both limited. -/
theorem servo_slews {a b lim : Int} (hfirst : s.fb F.TIME_STATUS_FIRST = false)
    (hnear : s.servoOffset.natAbs ≤ s.fd F.TIME_STEP_NS_NS * 2 ^ 16) (hlim : lim = (s.fd F.TIME_ADJ_LIM_LIM : Nat))
    (ha : a = sext 32 (s.rg .TIME_FI).toNat -
      rshiftRound (sext 32 (s.fd F.TIME_SERVO_KI_KI) * s.servoOffset) (s.fd F.TIME_SERVO_SHIFT_SI))
    (hb : b = sat a (-lim) lim - rshiftRound (sext 32 (s.fd F.TIME_SERVO_KP_KP) * s.servoOffset) (s.fd F.TIME_SERVO_SHIFT_SP)) :
    servo false s = s.slewed (sat a (-lim) lim) (sat b (-lim) lim) (satHit a (-lim) lim || satHit b (-lim) lim) := by
  subst hb ha hlim
  simp only [servo, hfirst, Bool.or_false, Bool.false_eq_true, if_false, gt_iff_lt, if_neg (Nat.not_lt.2 hnear)]
  rfl

section
variable (s : State) (fi adj : Int) (cut : Bool)

theorem State.slewed_frame : s.slewed fi adj cut = { s with regs := (s.slewed fi adj cut).regs, cyc := (s.slewed fi adj cut).cyc } := by
  cases cut
  · rfl
  · rfl

theorem State.rg_slewed_fi : (s.slewed fi adj cut).rg .TIME_FI = BitVec.ofInt 32 fi := by
  rw [State.slewed, State.rg_setRg_ne _ _ _ _ _ _ (by decide), State.rg_setRg_same]

theorem State.rg_slewed_adj : (s.slewed fi adj cut).rg .TIME_ADJ = BitVec.ofInt 32 adj := State.rg_setRg_same _ _ _ _

theorem State.fb_slewed_sat : (s.slewed fi adj cut).fb F.TIME_STATUS_ADJ_SAT = (s.fb F.TIME_STATUS_ADJ_SAT || cut) := by
  rw [State.slewed, State.fb_setRg_reg _ _ _ _ _ (by decide), State.fb_setRg_reg _ _ _ _ _ (by decide)]
  cases cut
  · exact (Bool.or_false _).symm
  · exact (s.fb_setFlag_one F.TIME_STATUS_ADJ_SAT 0 (by decide) (by decide)).trans (Bool.or_true _).symm

end

/-- Beyond TIME_STEP_NS an offset is refused. -/
theorem servo_refuses (hfirst : s.fb F.TIME_STATUS_FIRST = false) (hfar : s.fd F.TIME_STEP_NS_NS * 2 ^ 16 < s.servoOffset.natAbs) :
    servo false s = (s.setFlag F.TIME_STATUS_REFUSED).raise .TIM_STEP_REFUSED := by
  simp only [servo, hfirst, Bool.or_false, Bool.false_eq_true, if_false, gt_iff_lt, if_pos hfar]

/-! ## Steps of the clock (R414 to R416) -/

/-- No trigger is armed. -/
def State.Unarmed (s : State) : Prop := ∀ k, k < 4 → s.fb F.TIME_TRIG_STATUS_ARMED k = false

theorem foldl_eq_self {α σ : Type} {f : σ → α → σ} {l : List α} {s : σ} (h : ∀ a ∈ l, f s a = s) : l.foldl f s = s := by
  induction l with
  | nil => rfl
  | cons a l ih =>
    obtain ⟨ha, hl⟩ := List.forall_mem_cons.1 h
    rw [List.foldl_cons, ha, ih hl]

theorem steppedOver_unarmed {k : Nat} (h : s.fb F.TIME_TRIG_STATUS_ARMED k = false) (old new : Nat) : steppedOver old new s k = s := by
  simp [steppedOver, h]

/-- The clock takes value c, the time is valid, and the step is counted. -/
def State.clockSet (s : State) (c : TimeSt) : State :=
  ((({ s with time := { c with prevSec := c.sec, prevNs := c.ns } } : State).setFd F.TIME_STATUS_FIRST 0).setFd F.TIME_STATUS_VALID 1).bumpWrap
    F.TIME_STATUS_STEPS

/-- With no trigger armed a step passes over none. -/
theorem stepClock_unarmed (h : s.Unarmed) (c : TimeSt) : stepClock c s = s.clockSet c := by
  simp only [stepClock]
  rw [foldl_eq_self fun k hk => ?_]
  · rfl
  · refine steppedOver_unarmed ?_ _ _
    exact h k (List.mem_range.1 hk)

section
variable (s : State) (c : TimeSt)

theorem State.clockSet_first : (s.clockSet c).fd F.TIME_STATUS_FIRST = 0 := by
  rw [State.clockSet, State.bumpWrap, State.fd_setFd_other _ _ _ _ _ (by decide) (by rfl) (by decide),
    State.fd_setFd_other _ _ _ _ _ (by decide) (by rfl) (by decide), State.fd_setFd_same _ _ _ _ (by decide)]
  rfl

theorem State.clockSet_valid : (s.clockSet c).fd F.TIME_STATUS_VALID = 1 := by
  rw [State.clockSet, State.bumpWrap, State.fd_setFd_other _ _ _ _ _ (by decide) (by rfl) (by decide), State.fd_setFd_same _ _ _ _ (by decide)]
  rfl

theorem State.clockSet_steps : (s.clockSet c).fd F.TIME_STATUS_STEPS = (s.fd F.TIME_STATUS_STEPS + 1) % 65536 := by
  rw [State.clockSet, State.bumpWrap, State.fd_setFd_same _ _ _ _ (by decide), State.fd_setFd_other _ _ _ _ _ (by decide) (by rfl) (by decide),
    State.fd_setFd_other _ _ _ _ _ (by decide) (by rfl) (by decide)]
  rfl

/-- A step of the clock changes the local time and registers alone. -/
theorem State.clockSet_eq : s.clockSet c = { s with time := (s.clockSet c).time, regs := (s.clockSet c).regs } := rfl

theorem State.rg_clockSet {r : Reg} (i : Nat) (h : r ≠ .TIME_STATUS) : (s.clockSet c).rg r i = s.rg r i := by
  rw [State.clockSet, State.bumpWrap, State.rg_setFd_ne _ _ _ _ _ _ h, State.rg_setFd_ne _ _ _ _ _ _ h, State.rg_setFd_ne _ _ _ _ _ _ h]
  rfl

end

/-- A forced offset steps the clock, and ADJ falls back to FI. -/
theorem servo_forced (h : s.Unarmed) :
    servo true s = (s.clockSet (s.time.advance (-(s.servoOffset * 2 ^ 24)))).setRg .TIME_ADJ (s.rg .TIME_FI) := by
  simp only [servo, Bool.or_true, if_true, stepClock_unarmed h]

/-- The value that SET takes from its registers (R415). -/
def State.timeAsked (s : State) : TimeSt :=
  { s.time with sec := s.fd F.TIME_SET_SEC_LO_SEC + 2 ^ 32 * s.fd F.TIME_SET_SEC_HI_SEC, ns := min 999999999 (s.fd F.TIME_SET_NS_NS), fr := 0 }

theorem doTimeSet_first (hc : s.cyc = []) (h : s.Unarmed) : doTimeSet s = (s.clockSet s.timeAsked).mark .timeSet := by
  have hundo : undoServo s = s := by rw [undoServo, hc]; rfl
  rw [doTimeSet, hundo]
  exact congrArg (fun u : State => u.mark .timeSet) (stepClock_unarmed h s.timeAsked)

/-! ## RESTART (R413) -/

/-- Time is invalid, the servo awaits its first offset, and FI and ADJ are 0. -/
def State.servoCleared (s : State) : State :=
  (((s.setFd F.TIME_STATUS_VALID 0).setFd F.TIME_STATUS_FIRST 1).setRg .TIME_FI 0).setRg .TIME_ADJ 0

/-- PPS_OUT falls. -/
def State.ppsLow (s : State) : State := { s with time := { s.time with ppsOut := false } }

theorem State.fd_ppsLow (s : State) (x : RegField) (i : Nat) : s.ppsLow.fd x i = s.fd x i := rfl

theorem State.rg_ppsLow (s : State) (r : Reg) (i : Nat) : s.ppsLow.rg r i = s.rg r i := rfl

theorem invalidateTime_eq (s : State) : invalidateTime s = (disarmAll s.servoCleared).ppsLow := rfl

theorem State.servoCleared_armed (s : State) (k : Nat) : s.servoCleared.fb F.TIME_TRIG_STATUS_ARMED k = s.fb F.TIME_TRIG_STATUS_ARMED k := by
  rw [State.servoCleared, State.fb_setRg_reg _ _ _ _ _ (by decide), State.fb_setRg_reg _ _ _ _ _ (by decide),
    State.fb_setFd_ne _ _ _ _ _ _ (by decide), State.fb_setFd_ne _ _ _ _ _ _ (by decide)]

theorem State.servoCleared_valid (s : State) : s.servoCleared.fd F.TIME_STATUS_VALID = 0 := by
  rw [State.servoCleared, State.fd_setRg_reg _ _ _ _ _ (by decide), State.fd_setRg_reg _ _ _ _ _ (by decide),
    State.fd_setFd_other _ _ _ _ _ (by decide) (by rfl) (by decide), State.fd_setFd_same _ _ _ _ (by decide)]
  rfl

theorem State.servoCleared_first (s : State) : s.servoCleared.fd F.TIME_STATUS_FIRST = 1 := by
  rw [State.servoCleared, State.fd_setRg_reg _ _ _ _ _ (by decide), State.fd_setRg_reg _ _ _ _ _ (by decide),
    State.fd_setFd_same _ _ _ _ (by decide)]
  rfl

theorem State.servoCleared_fi (s : State) : s.servoCleared.rg .TIME_FI = 0 := by
  rw [State.servoCleared, State.rg_setRg_ne _ _ _ _ _ _ (by decide), State.rg_setRg_same]

theorem State.servoCleared_adj (s : State) : s.servoCleared.rg .TIME_ADJ = 0 := State.rg_setRg_same _ _ _ _

theorem disarmAll_unarmed (h : s.Unarmed) : disarmAll s = s := by
  refine foldl_eq_self fun k hk => ?_
  rw [if_neg]
  rw [h k (List.mem_range.1 hk)]
  decide

/-- The one armed trigger is disarmed with its fault. -/
theorem disarmAll_first (h0 : s.fb F.TIME_TRIG_STATUS_ARMED 0 = true) (h : ∀ k, k < 4 → k ≠ 0 → s.fb F.TIME_TRIG_STATUS_ARMED k = false) :
    disarmAll s = (s.setFd F.TIME_TRIG_STATUS_ARMED 0 0).raise .TIM_TRIGGER_STEPPED := by
  have hrange : List.range 4 = 0 :: [1, 2, 3] := rfl
  rw [disarmAll, hrange, List.foldl_cons, if_pos h0]
  refine foldl_eq_self fun k hk => if_neg ?_
  have hk4 : k < 4 ∧ k ≠ 0 := by
    simp only [List.mem_cons, List.not_mem_nil, or_false] at hk
    omega
  rw [State.fb_eq_fd, State.fd_raise, State.fd_setFd_reg _ _ _ _ _ _ (by simp; omega), ← State.fb_eq_fd, h k hk4.1 hk4.2]
  decide

/-! ## What the commands come to -/

/-- APPLY that slews. -/
theorem apply_slews (h : s.runs) (hc : s.cyc = []) {a b lim fi adj : Int} (hfirst : s.fb F.TIME_STATUS_FIRST = false)
    (hnear : s.servoOffset.natAbs ≤ s.fd F.TIME_STEP_NS_NS * 2 ^ 16) (hlim : lim = (s.fd F.TIME_ADJ_LIM_LIM : Nat))
    (ha : a = sext 32 (s.rg .TIME_FI).toNat -
      rshiftRound (sext 32 (s.fd F.TIME_SERVO_KI_KI) * s.servoOffset) (s.fd F.TIME_SERVO_SHIFT_SI))
    (hfi : fi = max (-lim) (min lim a))
    (hb : b = fi - rshiftRound (sext 32 (s.fd F.TIME_SERVO_KP_KP) * s.servoOffset) (s.fd F.TIME_SERVO_SHIFT_SP))
    (hadj : adj = max (-lim) (min lim b)) :
    exec .apply s = .next (s.servoNoted.slewed fi adj (decide (fi ≠ a ∨ adj ≠ b))) := by
  have hpos : 0 ≤ lim := by omega
  have hfi' : fi = sat a (-lim) lim := by rw [hfi, sat_eq_max_min hpos]
  have hadj' : adj = sat b (-lim) lim := by rw [hadj, sat_eq_max_min hpos]
  have hcut : (satHit a (-lim) lim || satHit b (-lim) lim) = decide (fi ≠ a ∨ adj ≠ b) := by
    rw [Bool.eq_iff_iff, Bool.or_eq_true, decide_eq_true_eq, satHit_iff, satHit_iff, ← hfi', ← hadj']
  rw [exec_apply h hc, servo_slews (s := s.servoNoted) hfirst hnear hlim ha (hfi' ▸ hb), hcut, ← hfi', ← hadj']

end Sys2Proof.Machine

/-! PROOFS. LATCH, PPS_OUT and PPS_IN (R418 to R420). -/

namespace Sys2Proof.Machine

variable {s : State}

/-! ## LATCH (R420) -/

theorem exec_latch (h : s.runs) : exec .latch s = .next (doTimeLatch s) :=
  congrArg Host.Outcome.next (State.hostCmd_plain h doTimeLatch rfl rfl)

/-- The local time and the stage time read back from the registers of LATCH, each part cut to the width of its field. -/
theorem doTimeLatch_reads (s : State) : (doTimeLatch s).fd F.TIME_LATCH_SEC_LO_SEC = s.time.sec % 2 ^ 32 ∧
    (doTimeLatch s).fd F.TIME_LATCH_SEC_HI_SEC = s.time.sec / 2 ^ 32 % 2 ^ 16 ∧
    (doTimeLatch s).fd F.TIME_LATCH_SEC_HI_FRAC = s.time.fr / 2 ^ 24 % 2 ^ 16 ∧ (doTimeLatch s).fd F.TIME_LATCH_NS_NS = s.time.ns % 2 ^ 30 ∧
    (doTimeLatch s).fd F.TIME_LATCH_STAGE_LO_T = s.stageT.toNat % 2 ^ 32 ∧
    (doTimeLatch s).fd F.TIME_LATCH_STAGE_HI_T = s.stageT.toNat / 2 ^ 32 % 2 ^ 32 := by
  simp (disch := decide) only [doTimeLatch, State.fd_setFd_same, State.fd_setFd_ne, State.fd_setFd_other, State.setFd_time]
  exact ⟨rfl, rfl, rfl, rfl, rfl, rfl⟩

/-- LATCH writes registers alone. -/
theorem doTimeLatch_eq (s : State) : doTimeLatch s = { s with regs := (doTimeLatch s).regs } := by
  have hkeep := fun {t : State} (h : t = { s with regs := t.regs }) (x : RegField) (v : Nat) => State.setFd_regs_only h x v 0
  simp only [doTimeLatch, State.setFd_time]
  exact hkeep (hkeep (hkeep (hkeep (hkeep (hkeep (t := s) rfl _ _) _ _) _ _) _ _) _ _) _ _

/-! ## PPS_OUT (R418) -/

theorem exec_ppsOutRise (h : s.up) : exec .ppsOutRise s = .next (doPpsRise s) :=
  congrArg Host.Outcome.next (State.whenReady_up h doPpsRise)

theorem exec_ppsOutFall (s : State) : exec .ppsOutFall s = .next (doPpsFall s) := rfl

/-- NS has come to TIME_PPS_OFFSET, or has passed it, since the step before. -/
theorem ppsReached_of_passed (hoff : s.fd F.TIME_PPS_OFFSET_NS < 1000000000) (hns : s.time.ns < 1000000000)
    (hprev : s.time.prevNs < s.fd F.TIME_PPS_OFFSET_NS) (hnow : s.fd F.TIME_PPS_OFFSET_NS ≤ s.time.ns) : s.ppsReached = true := by
  simp only [State.ppsReached, Bool.and_eq_true, Bool.or_eq_true, decide_eq_true_eq, beq_iff_eq]
  omega

/-- NS, which has not wrapped, has not come to TIME_PPS_OFFSET yet, or had come to it before the last step. -/
theorem not_ppsReached (hrise : s.time.prevNs ≤ s.time.ns) (hns : s.time.ns < 1000000000)
    (h : s.time.ns < s.fd F.TIME_PPS_OFFSET_NS ∨ (s.fd F.TIME_PPS_OFFSET_NS ≤ s.time.prevNs ∧ s.fd F.TIME_PPS_OFFSET_NS < s.time.ns)) :
    s.ppsReached = false := by
  simp only [State.ppsReached, Bool.and_eq_false_iff, Bool.or_eq_false_iff, decide_eq_false_iff_not, beq_eq_false_iff_ne]
  omega

theorem doPpsRise_rises (hen : s.fb F.TIME_PPS_CFG_OUT_EN = true) (hvalid : s.timeValid = true) (hreached : s.ppsReached = true) :
    doPpsRise s = ppsPulse s := by
  simp [doPpsRise, hen, hvalid, hreached]

theorem doPpsRise_stays (h : s.fb F.TIME_PPS_CFG_OUT_EN = false ∨ s.timeValid = false ∨ s.ppsReached = false) : doPpsRise s = s := by
  rcases h with h | h | h
  · simp [doPpsRise, h]
  · simp [doPpsRise, h]
  · simp [doPpsRise, h]

/-! ## PPS_IN (R419) -/

/-- The instant of an edge of PPS_IN is kept. -/
def State.edgeSeen (s : State) : State := { s with time := { s.time with ppsInAt := some s.now } }

theorem State.fd_edgeSeen (s : State) (x : RegField) (i : Nat) : s.edgeSeen.fd x i = s.fd x i := rfl

theorem exec_ppsInEdge (h : s.up) (hwake : s.wakeOn 3 = false) : exec .ppsInEdge s = .next (doPpsIn s) := by
  have hexec : exec .ppsInEdge s = execPpsInEdge s := rfl
  rw [hexec, execPpsInEdge, State.whenUp_ready h.1]
  simp [hwake, h.2]

/-- An edge is captured where the last one is 1 µs away or more. -/
theorem doPpsIn_far (h : ∀ a, s.time.ppsInAt = some a → a + 1000000 ≤ s.now) : doPpsIn s = doPpsIn.capture s.edgeSeen := by
  simp only [doPpsIn]
  split
  · rename_i a ha
    exact if_neg (Nat.not_lt.2 (h a ha))
  · rfl

theorem doPpsIn_near {a : Nat} (ha : s.time.ppsInAt = some a) (h : s.now < a + 1000000) : doPpsIn s = s.edgeSeen := by
  simp only [doPpsIn, ha, if_pos h]
  rfl

/-- A captured edge reads back with its time and its number. -/
theorem capture_reads (s : State) : (doPpsIn.capture s).fd F.TIME_PPS_IN_SEC_LO_SEC = s.time.sec % 2 ^ 32 ∧
    (doPpsIn.capture s).fd F.TIME_PPS_IN_NS_NS = s.time.ns % 2 ^ 30 ∧
    (doPpsIn.capture s).fd F.TIME_PPS_IN_SEQ_SEQ = (s.fd F.TIME_PPS_IN_SEQ_SEQ + 1) % 2 ^ 32 := by
  simp (disch := decide) only [doPpsIn.capture, State.bumpWrap, State.fd_setFd_same, State.fd_setFd_ne, State.setFd_time]
  exact ⟨rfl, rfl, rfl⟩

/-- A capture writes registers alone. -/
theorem capture_eq (s : State) : doPpsIn.capture s = { s with regs := (doPpsIn.capture s).regs } := by
  have hkeep := fun {t : State} (h : t = { s with regs := t.regs }) (x : RegField) (v : Nat) => State.setFd_regs_only h x v 0
  simp only [doPpsIn.capture, State.bumpWrap, State.setFd_time]
  exact hkeep (hkeep (hkeep (hkeep (hkeep (t := s) rfl _ _) _ _) _ _) _ _) _ _

/-- An edge of PPS_IN that is far from the last is captured and numbered. -/
theorem ppsInEdge_captured (hup : s.up) (hwake : s.wakeOn 3 = false) (h : ∀ a, s.time.ppsInAt = some a → a + 1000000 ≤ s.now) :
    ∃ t, exec .ppsInEdge s = .next t ∧ t.time = { s.time with ppsInAt := some s.now } ∧
      t.fd F.TIME_PPS_IN_SEC_LO_SEC = s.time.sec % 2 ^ 32 ∧ t.fd F.TIME_PPS_IN_NS_NS = s.time.ns % 2 ^ 30 ∧
      t.fd F.TIME_PPS_IN_SEQ_SEQ = (s.fd F.TIME_PPS_IN_SEQ_SEQ + 1) % 2 ^ 32 ∧ t = { s with time := t.time, regs := t.regs } := by
  obtain ⟨hsec, hns, hseq⟩ := capture_reads s.edgeSeen
  rw [State.fd_edgeSeen] at hseq
  rw [exec_ppsInEdge hup hwake, doPpsIn_far h]
  refine ⟨_, rfl, rfl, hsec, hns, hseq, ?_⟩
  exact capture_eq s.edgeSeen

/-! ## The statement -/

/-- Settles O39: APPLY by whether its offset slews (`apply_slews`) or is refused, FORCE and SET by the step they make of the clock
(`State.clockSet`), RESTART by the triggers it disarms; LATCH and PPS_IN by what reads back, PPS_OUT by whether NS has reached its offset. -/
theorem servoLatchAndPulses : Obligations.ServoLatchAndPulses := by
  unfold Obligations.ServoLatchAndPulses
  refine ⟨⟨?slews, ?refuses, ?force, ?set, ?restart, ?restartArmed⟩, ?latch, ?rises, ?stays, ?falls, ?holds, ?firstEdge, ?farEdge, ?nearEdge⟩
  case slews =>
    intro s a b lim fi adj hruns hc hfirst hnear hlim ha hfi hb hadj
    refine ⟨_, apply_slews hruns hc hfirst hnear hlim ha hfi hb hadj, State.rg_slewed_fi _ _ _ _, State.rg_slewed_adj _ _ _ _,
      State.fb_slewed_sat _ _ _ _, ?_⟩
    exact State.slewed_frame s.servoNoted _ _ _
  case refuses =>
    intro s hruns hc hfirst hfar
    rw [exec_apply hruns hc, servo_refuses (s := s.servoNoted) hfirst hfar, State.setFlag_bit _ _ _ rfl]
    rw [State.raise_regs_cyc (s := s) rfl]
    exact ⟨_, rfl, rfl, rfl, rfl⟩
  case force =>
    intro s hruns hc harmed
    have hadj : ∀ (u : State) (w : Word) (x : RegField), x.reg = .TIME_STATUS → (u.setRg .TIME_ADJ w).fd x = u.fd x :=
      fun u w x hx => u.fd_setRg_reg w 0 x 0 (by rw [hx]; decide)
    rw [exec_force hruns hc, servo_forced (s := s.servoNoted) harmed]
    refine ⟨_, rfl, rfl, rfl, rfl, ?_, ?_, ?_, State.rg_setRg_same _ _ _ _, ?_, rfl⟩
    · rw [hadj _ _ _ rfl, State.clockSet_first]
    · rw [hadj _ _ _ rfl, State.clockSet_valid]
    · rw [hadj _ _ _ rfl, State.clockSet_steps]
      rfl
    · rw [State.rg_setRg_ne _ _ _ _ _ _ (by decide), State.rg_clockSet _ _ _ (by decide)]
      rfl
  case set =>
    intro s hruns hc harmed
    rw [exec_set hruns, doTimeSet_first hc harmed]
    refine ⟨_, rfl, rfl, rfl, rfl, ?_, ?_, ?_, ?_⟩
    · rw [State.fd_mark, State.clockSet_first]
    · rw [State.fd_mark, State.clockSet_valid]
    · rw [State.fd_mark, State.clockSet_steps]
    · exact congrArg (fun u : State => u.mark .timeSet) (s.clockSet_eq s.timeAsked)
  case restart =>
    intro s hruns harmed
    have hunarmed : s.servoCleared.Unarmed := fun k hk => (s.servoCleared_armed k).trans (harmed k hk)
    rw [exec_restart hruns, invalidateTime_eq, disarmAll_unarmed hunarmed]
    rfl
  case restartArmed =>
    intro s hruns h0 hrest
    have hone := disarmAll_first ((s.servoCleared_armed 0).trans h0) fun k hk hne => (s.servoCleared_armed k).trans (hrest k hk hne)
    rw [exec_restart hruns, invalidateTime_eq, hone]
    refine ⟨_, rfl, ?_, ?_, ?_, ?_, ?_, ?_, rfl⟩
    · rw [State.fb_eq_fd, State.fd_ppsLow, State.fd_raise, State.fd_setFd_same _ _ _ _ (by decide)]
      rfl
    · exact State.raise_fault_congr (by rfl) _
    · rw [State.fd_ppsLow, State.fd_raise, State.fd_setFd_ne _ _ _ _ _ _ (by decide), State.servoCleared_valid]
    · rw [State.fd_ppsLow, State.fd_raise, State.fd_setFd_ne _ _ _ _ _ _ (by decide), State.servoCleared_first]
    · rw [State.rg_ppsLow, State.rg_raise, State.rg_setFd_ne _ _ _ _ _ _ (by decide), State.servoCleared_fi]
    · rw [State.rg_ppsLow, State.rg_raise, State.rg_setFd_ne _ _ _ _ _ _ (by decide), State.servoCleared_adj]
  case latch =>
    intro s hruns
    obtain ⟨hlo, hhi, hfr, hns, hst, hsth⟩ := doTimeLatch_reads s
    exact ⟨_, exec_latch hruns, hlo, hhi, hfr, hns, hst, hsth, doTimeLatch_eq s⟩
  case rises =>
    intro s hup hen hvalid hoff hns hprev hnow
    rw [exec_ppsOutRise hup, doPpsRise_rises hen hvalid (ppsReached_of_passed hoff hns hprev hnow), ppsPulse]
  case stays =>
    rintro s hup (hen | hvalid | ⟨hrise, hns, hoff⟩)
    · rw [exec_ppsOutRise hup, doPpsRise_stays (.inl hen)]
    · rw [exec_ppsOutRise hup, doPpsRise_stays (.inr (.inl hvalid))]
    · rw [exec_ppsOutRise hup, doPpsRise_stays (.inr (.inr (not_ppsReached hrise hns hoff)))]
  case falls =>
    intro s hout hover
    simp [exec_ppsOutFall, doPpsFall, hout, hover]
  case holds =>
    intro s hearly
    simp [exec_ppsOutFall, doPpsFall, Nat.not_le.2 hearly]
  case firstEdge =>
    intro s hup hwake hnone
    exact ppsInEdge_captured hup hwake fun a ha => by rw [hnone] at ha; cases ha
  case farEdge =>
    intro s a hup hwake hlast hfar
    exact ppsInEdge_captured hup hwake fun b hb => by rw [hlast] at hb; cases hb; exact hfar
  case nearEdge =>
    intro s a hup hwake hlast hnear
    rw [exec_ppsInEdge hup hwake, doPpsIn_near hlast hnear, State.edgeSeen]

end Sys2Proof.Machine

/-! PROOFS. The step of the queue, the state after reset, and the ends that the tables of coinciding events give a stripe (Chapter 95, R546, R557,
Table 12-8). -/

namespace Sys2Proof.Machine

/-! ## The front of the queue -/

theorem step_cons {s : State} {c : Instr} {rest : List Instr} (h : s.pending = c :: rest) : step s = exec c { s with pending := rest } := by
  simp [step, h]

theorem step_front (c : Instr) (s : State) : step { s with pending := c :: s.pending } = exec c s := step_cons rfl

theorem step_nil {s : State} (h : s.pending = []) : step s = .next s := by
  simp [step, h]

/-- Settles O1: `step` splits on the queue. -/
theorem stepRunsFrontCommand : Obligations.StepRunsFrontCommand := by
  unfold Obligations.StepRunsFrontCommand
  exact ⟨step_front, fun _ _ _ h => step_cons h, fun _ h => step_nil h⟩

/-! ## The state after reset -/

/-- Settles O2: `State.reset` is a literal, so each part of the claim evaluates. -/
theorem resetState : Obligations.ResetState := by
  unfold Obligations.ResetState
  refine ⟨rfl, rfl, ?silent, rfl, rfl, ?idle, rfl, rfl, ?beams, ?islands⟩
  case silent => decide +kernel
  case idle => decide +kernel
  case beams => decide +kernel
  case islands => decide +kernel

/-! ## An ARM of the cycle in which a stack becomes hot (Table 12-8) -/

/-- A READY device with an ARMED stripe, in the cycle of its ARM. -/
def armedNow : State :=
  { State.reset with glob := { GlobalSt.reset with ready := true }, plan := { PlanSt.reset with state := .armed }, cyc := [.armed] }

theorem exec_stackTempRead {s : State} (h : s.up) (hs : s.hbm.selfRefresh = false) (x y : BitVec 8) :
    exec (.stackTempRead x y) s = .next (stackTemps x.toNat y.toNat s) := by
  have hexec : exec (.stackTempRead x y) s = execStackTempRead x y s := rfl
  rw [hexec, execStackTempRead, State.whenReady_up h, hs]
  rfl

theorem armedNow_up : armedNow.up := by decide +kernel

/-- A reading of 105 °C takes the ARM of its cycle back. -/
theorem stackTemps_disarms_armedNow : (stackTemps 105 0 armedNow).plan.state = .idle := by decide +kernel

theorem exec_stackTempRead_armedNow : exec (.stackTempRead 105 0) armedNow = .next (stackTemps 105 0 armedNow) :=
  exec_stackTempRead armedNow_up rfl 105 0

/-- Refutes O6: STACK_TEMP_READ is not among the commands of `mayMoveStripe`, yet the reading that makes a stack hot in the cycle of an
ARM refuses that ARM (Table 12-8): the stripe of `armedNow` goes from ARMED back to IDLE. -/
theorem not_onlyTheseCommandsChange : ¬ Obligations.OnlyTheseCommandsChange := by
  unfold Obligations.OnlyTheseCommandsChange
  intro h
  obtain ⟨-, -, -, -, -, -, -, -, -, -, -, -, -, -, -, hphase⟩ := h _ _ _ exec_stackTempRead_armedNow
  have hsame := hphase rfl
  rw [stackTemps_disarms_armedNow] at hsame
  exact absurd hsame (by decide)

end Sys2Proof.Machine

/-! PROOFS. The lanes of a device that a brown-out stops in APPLY (R92, R508, R548). -/

namespace Sys2Proof.Machine

/-! ## An image that waits in APPLY for the refill of its PARTITION -/

/-- A section of an image (R51): header, CRC and payload, with its padding. -/
def sectionBytes (t : Nat) (p : List Byte) : List Byte :=
  let h := leBytes 2 t ++ [1, 0] ++ leBytes 4 p.length ++ leBytes 4 0
  h ++ leBytes 4 (crc crcC32C (h ++ p)) ++ p ++ List.replicate ((16 - p.length % 16) % 16) 0

/-- PERSONALITY and PARTITION of a native solo device. -/
def refillSections : List Section := [(1, List.replicate 4 0), (6, List.replicate 8 0)]

/-- The image of `refillSections` (R49, R50). -/
def refillImage : List Byte :=
  let body := (refillSections.map fun e => sectionBytes e.1 e.2).flatten
  let h := leBytes 4 0x4B505745 ++ leBytes 2 1 ++ leBytes 2 64 ++ leBytes 4 (64 + body.length) ++ leBytes 2 refillSections.length ++
    leBytes 2 0 ++ leBytes 4 0x6416 ++ leBytes 2 0xA0 ++ List.replicate 38 0
  h ++ leBytes 4 (crc crcC32C h) ++ body

theorem scanImage_refillImage : scanImage 0 128 refillImage = .done refillSections := by decide +kernel

/-- A READY device whose LOAD waits in APPLY for the refill. -/
def applyingNow : State :=
  { State.reset with
    glob := { GlobalSt.reset with ready := true }, hbm := { HbmSt.reset with filling := true }
    prick := { PrickSt.reset with phase := .apply, isLoad := true, staged := refillImage, avail := 128 } }

/-- That device in a cycle after its brown-out. -/
def brownedOut : State := { brownOut applyingNow with cyc := [] }

theorem brownedOut_waits : brownedOut.resetSilent = true ∧ brownedOut.hbm.filling = true := by decide +kernel

theorem State.resetSilent_pending (s : State) (l : List Instr) : ({ s with pending := l } : State).resetSilent = s.resetSilent := rfl

/-! ## Step 7 of an apply wakes the lanes -/

/-- What a lane does at the release of its block. -/
def laneStart (s : State) (n : Nat) : State :=
  if s.str.safe then (if n < 16 then txData n s else s)
  else if s.laneInUse n && s.native then startPipelineLane n s
  else if s.tlLane n then txData n s
  else s

theorem lanesStart_eq (s : State) : lanesStart s = (List.range 18).foldl laneStart s := rfl

/-- The structure, and whether the device is READY: what the start of lanes goes by and leaves alone. -/
def State.base (s : State) : Structure × Bool := (s.str, s.glob.ready)

@[simp] theorem startPipelineLane_base (n : Nat) (s : State) : (startPipelineLane n s).base = s.base := rfl

@[simp] theorem txData_base (n : Nat) (s : State) : (txData n s).base = s.base := by
  simp only [txData]
  split <;> simp [State.base]

theorem laneStart_base (s : State) (n : Nat) : (laneStart s n).base = s.base := by
  simp only [laneStart]
  split
  · split <;> simp
  · split
    · simp
    · split <;> simp

theorem lanesStart_base (s : State) : (lanesStart s).base = s.base := foldl_keeps State.base laneStart laneStart_base (List.range 18) s

theorem setTaps_base (s : State) (n pre main post : Nat) : (s.setTaps n pre main post).base = s.base := rfl

theorem imageFfe_base (s : State) : (imageFfe s).base = s.base := foldl_keeps State.base _ (fun u n => setTaps_base u n _ _ _) _ s

theorem startPipelineLane_tx (s : State) : ((startPipelineLane 17 s).lane 17).tx = .training := by
  simp [startPipelineLane, startTraining, State.lane, State.setLane]

/-- A lead's lane 17 enters TRAINING with the release of its block. -/
theorem lanesStart_wakes {s : State} (hsafe : s.str.safe = false) (hleads : s.leads = true) (hnative : s.native = true) :
    ((lanesStart s).lane 17).tx = .training := by
  have hlast : lanesStart s = laneStart ((List.range 17).foldl laneStart s) 17 := by
    rw [lanesStart_eq, List.range_succ, List.foldl_append]
    rfl
  have hstr : ((List.range 17).foldl laneStart s).str = s.str :=
    congrArg Prod.fst (foldl_keeps State.base laneStart laneStart_base (List.range 17) s)
  rw [hlast]
  generalize (List.range 17).foldl laneStart s = u at hstr
  have huse : (u.laneInUse 17 && u.native) = true := by
    have hl : u.leads = s.leads := by rw [State.leads, State.leads, hstr]
    have hn : u.native = s.native := by rw [State.native, State.native, hstr]
    simp [State.laneInUse, hl, hn, hleads, hnative]
  rw [laneStart, hstr, hsafe, huse]
  exact startPipelineLane_tx u

/-- An image is in force; a retrained link loses ASPM (R93). -/
def leaveSafeBoot (retrain : Bool) (s : State) : State := { s with glob := { s.glob with safeBoot := false, aspm := s.glob.aspm && !retrain } }

theorem leaveSafeBoot_base (retrain : Bool) (s : State) : (leaveSafeBoot retrain s).base = s.base := rfl

/-- The state of step 7 before the lanes' taps: the structure is written, and the registers that depend on the image. -/
def applyRegs (l : List Section) (s : State) : State :=
  let s4 := leaveSafeBoot (sectionChanged s.prick.applied l 1) (writeStructure l s)
  let s5 := if [7, 8].any (sectionChanged s.prick.applied l) then imageCap s4 else s4
  if [2, 14, 10, 7].any (sectionChanged s.prick.applied l) then imageHorizon s5 else s5

theorem base_ite (b : Bool) {f : State → State} (hf : ∀ s, (f s).base = s.base) (s : State) : (if b then f s else s).base = s.base := by
  cases b
  · rfl
  · exact hf s

theorem applyRegs_base (l : List Section) (s : State) : (applyRegs l s).base = (writeStructure l s).base :=
  (base_ite _ (f := imageHorizon) (fun _ => rfl) _).trans ((base_ite _ (f := imageCap) (fun _ => rfl) _).trans (leaveSafeBoot_base _ _))

theorem rejudgeWrites_nil {s : State} (h : s.cyc = []) (old : List (Nat × Word)) : rejudgeWrites old s = s := by
  rw [rejudgeWrites, h]
  rfl

theorem applyWrite_eq {s : State} {l : List Section} (hcyc : (writeStructure l s).cyc = [])
    (hlanes : [1, 3, 4, 5, 10, 7].any (sectionChanged s.prick.applied l) = true) :
    applyWrite l s = lanesStart (imageFfe (applyRegs l s)) := by
  have hjudge := rejudgeWrites_nil hcyc s.str.locks
  unfold applyWrite
  rw [hjudge, if_pos hlanes]
  rfl

/-- Step 7 of an image that changes PERSONALITY starts the lanes of the new structure, READY or not. -/
theorem applyWrite_wakes {s : State} {l : List Section} (hcyc : (writeStructure l s).cyc = [])
    (hlanes : [1, 3, 4, 5, 10, 7].any (sectionChanged s.prick.applied l) = true)
    (hstr : (writeStructure l s).str.safe = false ∧ (writeStructure l s).leads = true ∧ (writeStructure l s).native = true) :
    (applyWrite l s).glob.ready = (writeStructure l s).glob.ready ∧ ((applyWrite l s).lane 17).tx = .training := by
  obtain ⟨hsafe, hleads, hnative⟩ := hstr
  have hbase := (imageFfe_base (applyRegs l s)).trans (applyRegs_base l s)
  have hffe : (imageFfe (applyRegs l s)).str = (writeStructure l s).str := congrArg Prod.fst hbase
  rw [applyWrite_eq hcyc hlanes]
  refine ⟨congrArg Prod.snd ((lanesStart_base _).trans hbase), lanesStart_wakes ?_ ?_ ?_⟩
  · rw [hffe, hsafe]
  · rw [State.leads, hffe]; exact hleads
  · rw [State.native, hffe]; exact hnative

/-! ## The end of the fill -/

theorem applyResume_applied {s : State} {l : List Section} (hphase : s.prick.phase = .apply) (hflr : s.prick.thenFlr = false)
    (hwarm : s.prick.thenWarm = false) (hscan : scanImage s.glob.fuseEpochMin s.prick.avail s.prick.staged = .done l) :
    (applyResume s).glob = (applyWrite l s).glob ∧ (applyResume s).caril = (applyWrite l s).caril := by
  simp [applyResume, hphase, hscan, hflr, hwarm, applyDone, loadOk]

theorem State.resetSilent_false {s : State} (hready : s.glob.ready = false) {n : Fin 18} (h : (s.lane n).tx ≠ .sleep) :
    s.resetSilent = false := by
  have hn : s.lane n = s.caril.lanes[n] := by simp [State.lane]
  rw [hn] at h
  simp only [State.resetSilent, hready, Bool.false_or, List.all_eq_false]
  exact ⟨s.caril.lanes[n], by simp, by simpa [Lane.silent] using h⟩

/-- The device of `brownedOut` after the end of its fill. -/
def refilled : State := doFillDone 0 brownedOut

theorem refilled_applies : refilled.prick.phase = .apply ∧ refilled.prick.thenFlr = false ∧ refilled.prick.thenWarm = false ∧
    scanImage refilled.glob.fuseEpochMin refilled.prick.avail refilled.prick.staged = .done refillSections := by decide +kernel

theorem refilled_changes : (writeStructure refillSections refilled).cyc = [] ∧
    [1, 3, 4, 5, 10, 7].any (sectionChanged refilled.prick.applied refillSections) = true ∧
    (writeStructure refillSections refilled).glob.ready = false := by decide +kernel

theorem refilled_structure : (writeStructure refillSections refilled).str.safe = false ∧
    (writeStructure refillSections refilled).leads = true ∧ (writeStructure refillSections refilled).native = true := by decide +kernel

/-- The end of the fill takes the apply up again, whose step 7 wakes a lane of a device that is not READY. -/
theorem fillDone_wakes_lane : (applyResume refilled).resetSilent = false := by
  obtain ⟨hphase, hflr, hwarm, hscan⟩ := refilled_applies
  obtain ⟨hcyc, hlanes, hready⟩ := refilled_changes
  obtain ⟨hglob, hcaril⟩ := applyResume_applied hphase hflr hwarm hscan
  obtain ⟨hkept, htx⟩ := applyWrite_wakes hcyc hlanes refilled_structure
  refine State.resetSilent_false (n := 17) (by rw [hglob, hkept, hready]) ?_
  rw [State.lane_congr (congrArg CarilSt.lanes hcaril)]
  exact fun h => absurd (htx.symm.trans h) (by decide)

theorem exec_fillDone {s : State} (h : s.hbm.filling = true) (bad : BitVec 64) :
    exec (.fillDone bad) s = .next (applyResume (doFillDone bad.toNat s)) := by
  have hexec : exec (.fillDone bad) s = execFillDone bad s := rfl
  rw [hexec, execFillDone, if_pos h]

/-- Refutes O5: FILL_DONE is not held back before READY. A brown-out of the always-on regulator in APPLY silences every lane and
leaves the fill and the apply as they are, so the end of the fill resumes the apply, whose step 7 wakes lanes before READY. -/
theorem not_stepKeepsLanesSilentUntilReady : ¬ Obligations.StepKeepsLanesSilentUntilReady := by
  unfold Obligations.StepKeepsLanesSilentUntilReady
  intro h
  obtain ⟨hwaits, hfilling⟩ := brownedOut_waits
  have hfill : exec (.fillDone 0) brownedOut = .next (applyResume refilled) := exec_fillDone hfilling 0
  have hsilent := h _ _ ((State.resetSilent_pending _ _).trans hwaits) ((step_front _ _).trans hfill)
  rw [fillDone_wakes_lane] at hsilent
  exact Bool.noConfusion hsilent

end Sys2Proof.Machine

/-! PROOFS. Requests to DRAM (R426, R432, R433, R435, R437 to R439, R441, R444): a request is turned away, held, made to wait or served, and what
each class of read comes to. -/

namespace Sys2Proof.Machine

variable {s : State}

/-! ## What becomes of a request -/

theorem exec_dramWrite (h : s.up) (src : BitVec 8) (a : BitVec 36) (act : Bool) (l : List Byte) :
    exec (.dramWrite src a act l) s = .next (dramRequest (.write src.toNat a.toNat act l) s) :=
  congrArg Host.Outcome.next (State.whenReady_up h (dramRequest (.write src.toNat a.toNat act l)))

theorem exec_dramRead (h : s.up) (src : BitVec 8) (a b : BitVec 36) (act : Bool) (x : BitVec 128) (y : BitVec 16) (sram : Bool) :
    exec (.dramRead src a act b x y sram) s = .next (dramRequest (.read src.toNat a.toNat act b.toNat x.toNat y.toNat sram) s) :=
  congrArg Host.Outcome.next (State.whenReady_up h (dramRequest (.read src.toNat a.toNat act b.toNat x.toNat y.toNat sram)))

/-- A request that the controller takes in: a write of bytes inside DRAM, or a read of a codeword there, where DRAM is accessible. -/
def DramReq.Fits (r : DramReq) (s : State) : Prop :=
  s.hbm.accessible = true ∧ (match r with
    | .write _ a _ l => l ≠ [] ∧ a + l.length ≤ dramEnd
    | .read _ a _ _ _ _ _ => a < dramEnd
    | _ => False)

theorem DramReq.fits_write {a : Nat} {l : List Byte} (hacc : s.hbm.accessible = true) (hl : l ≠ []) (ha : a + l.length ≤ dramEnd) (src : Nat)
    (act : Bool) : (DramReq.write src a act l).Fits s := ⟨hacc, hl, ha⟩

theorem DramReq.fits_read {a : Nat} (hacc : s.hbm.accessible = true) (ha : a < dramEnd) (src b x y : Nat) (act sram : Bool) :
    (DramReq.read src a act b x y sram).Fits s := ⟨hacc, ha⟩

theorem dramRequest_held {r : DramReq} (h : r.Fits s) (hf : s.hbm.filling = true) : dramRequest r s = holdReq r s := by
  obtain ⟨hacc, hfit⟩ := h
  cases r with
  | write src a act l => simp [dramRequest, hfit, hacc, hf, Nat.not_lt.2 hfit.2]
  | read src a act b x y sram => simp [dramRequest, hacc, hf, Nat.not_le.2 hfit]
  | engine a l => exact hfit.elim
  | poison a n => exact hfit.elim

/-- The request's source is held back, or an earlier request of it waits (R433). -/
def DramReq.waits (r : DramReq) (s : State) : Bool :=
  match r.src? with
  | some src => s.throttled src || s.hbm.waiting.any (fun x => x.src? == some src)
  | none => false

theorem dramRequest_waits {r : DramReq} (h : r.Fits s) (hf : s.hbm.filling = false) (hw : r.waits s = true) :
    dramRequest r s = { s with hbm := { s.hbm with waiting := s.hbm.waiting ++ [r] } } := by
  obtain ⟨hacc, hfit⟩ := h
  cases r with
  | write src a act l =>
    simp only [DramReq.waits, DramReq.src?] at hw
    simp [dramRequest, DramReq.src?, hfit, hacc, hf, Nat.not_lt.2 hfit.2, hw]
  | read src a act b x y sram =>
    simp only [DramReq.waits, DramReq.src?] at hw
    simp [dramRequest, DramReq.src?, hacc, hf, Nat.not_le.2 hfit, hw]
  | engine a l => exact hfit.elim
  | poison a n => exact hfit.elim

theorem dramRequest_served {r : DramReq} (h : r.Fits s) (hf : s.hbm.filling = false) (hw : r.waits s = false) :
    dramRequest r s = serveReq r s := by
  obtain ⟨hacc, hfit⟩ := h
  cases r with
  | write src a act l =>
    simp only [DramReq.waits, DramReq.src?] at hw
    simp [dramRequest, DramReq.src?, hfit, hacc, hf, Nat.not_lt.2 hfit.2, hw]
  | read src a act b x y sram =>
    simp only [DramReq.waits, DramReq.src?] at hw
    simp [dramRequest, DramReq.src?, hacc, hf, Nat.not_le.2 hfit, hw]
  | engine a l => exact hfit.elim
  | poison a n => exact hfit.elim

theorem DramReq.waits_of_throttled {r : DramReq} {src : Nat} (hr : r.src? = some src) (h : s.throttled src = true) : r.waits s = true := by
  simp [DramReq.waits, hr, h]

theorem DramReq.not_waits {r : DramReq} {src : Nat} (hr : r.src? = some src) (h : s.throttled src = false) (hw : s.hbm.waiting = []) :
    r.waits s = false := by
  simp [DramReq.waits, hr, h, hw]

theorem dramRequest_write_outside {src a : Nat} {act : Bool} {l : List Byte} (hl : l ≠ []) (h : dramEnd < a + l.length) :
    dramRequest (.write src a act l) s = s.raise .MEM_ADDR_RANGE := by
  simp [dramRequest, dramWrite, hl, h]

theorem dramRequest_read_outside {src a b x y : Nat} {act : Bool} (hc : corrSource src = false) (h : dramEnd ≤ a) :
    dramRequest (.read src a act b x y false) s = s.raise .MEM_ADDR_RANGE := by
  simp [dramRequest, corrRead, hc, h]

/-! ## Bytes and check bits of a write -/

/-- The state without what a write performed in DRAM can touch: the bytes, the check bits and the armed injection. -/
def State.besidesStore (s : State) : State := { s with dram := [], dramMark := [], hbm := { s.hbm with inject := none } }

theorem writeMark_besidesStore (whole : Bool) (w : Nat) (s : State) : (writeMark whole w s).besidesStore = s.besidesStore := by
  have hplain : (writeMark.plain whole w s).besidesStore = s.besidesStore := by unfold writeMark.plain; split <;> rfl
  unfold writeMark
  split
  · split
    · rfl
    · exact hplain
  · exact hplain

theorem dramStore_eq (a : Nat) (l : List Byte) (s : State) :
    dramStore a l s = { s with
      dram := (dramStore a l s).dram, dramMark := (dramStore a l s).dramMark, hbm := { s.hbm with inject := (dramStore a l s).hbm.inject } } :=
  congrArg (fun t : State => { t with
      dram := (dramStore a l s).dram, dramMark := (dramStore a l s).dramMark, hbm := { t.hbm with inject := (dramStore a l s).hbm.inject } })
    (foldl_keeps State.besidesStore _ (fun t _ => writeMark_besidesStore _ _ t) _ (s.dramPut a l))

theorem writeMark_inject_none (whole : Bool) (w : Nat) (h : s.hbm.inject = none) : (writeMark whole w s).hbm.inject = none := by
  have hplain : (writeMark.plain whole w s).hbm = s.hbm := by unfold writeMark.plain; split <;> rfl
  unfold writeMark
  rw [h]
  exact (congrArg HbmSt.inject hplain).trans h

/-- A write arms no injection. -/
theorem dramStore_inject_none (a : Nat) (l : List Byte) (h : s.hbm.inject = none) : (dramStore a l s).hbm.inject = none :=
  List.foldlRecOn _ _ (motive := fun t : State => t.hbm.inject = none) h fun _ ht _ _ => writeMark_inject_none _ _ ht

/-- The bytes of a write that is performed, and those around it (R435). -/
theorem dramStore_bytes (a : Nat) (l : List Byte) (s : State) :
    (∀ k, k < l.length → Sparse.get 0 (dramStore a l s).dram (a + k) = (l[k]?).getD 0) ∧
      (∀ x, (x < a ∨ a + l.length ≤ x) → Sparse.get 0 (dramStore a l s).dram x = Sparse.get 0 s.dram x) := by
  rw [dramStore_dram]
  constructor
  · intro k hk
    simp [State.dramPut, Sparse.get_setRange, hk]
  · intro x hx
    rw [State.dramPut, Sparse.get_setRange, if_neg (by omega)]

/-! ## Writes that are served -/

theorem serveReq_write (src a : Nat) (l : List Byte) (s : State) (act : Bool) :
    serveReq (.write src a act l) s = dramWrite a l (serveSource src a act s) := rfl

/-- A write of a free source stores its bytes (R435). -/
theorem dramRequest_write {src a : Nat} {act : Bool} {l : List Byte} (ht : s.throttled src = false) (hw : s.hbm.waiting = []) (hl : l ≠ [])
    (ha : a + l.length ≤ dramEnd) (hf : s.hbm.filling = false) (hacc : s.hbm.accessible = true)
    (hsrc : (serveSource src a act s).hbm.filling = false ∧ (serveSource src a act s).hbm.accessible = true) :
    dramRequest (.write src a act l) s = dramStore a l (serveSource src a act s) := by
  rw [dramRequest_served (DramReq.fits_write hacc hl ha _ _) hf (DramReq.not_waits rfl ht hw), serveReq_write,
    dramWrite_performed hl ha hsrc.1 hsrc.2]

/-- The first activation of a row, counted by an empty tracker below the threshold (R432). -/
theorem activate_first {src a : Nat} (hh : s.hbm.hammers = []) (htr : s.hbm.trackers = []) (hth : 1 < s.fd F.HBM_RH_CFG_THRESHOLD) :
    activate src a s = { s with hbm := { s.hbm with trackers := [(s.bankOf a, [(rowOf a, 1)])] } } := by
  have hsample : sampleHammers (s.bankOf a) (rowOf a) src s = s := by
    simp only [sampleHammers, hh, List.map_nil, List.filter_nil, List.foldl_nil]
    exact congrArg (fun l => { s with hbm := { s.hbm with hammers := l } }) hh.symm
  have hbelow : ¬ 1 ≥ max 1 (s.fd F.HBM_RH_CFG_THRESHOLD) := by omega
  simp only [activate, hsample, htr]
  simp [trackRow, Sparse.get, Sparse.find?, Sparse.set, Sparse.put, hbelow]

/-! ## Reads that are served -/

/-- A read that activates no row, of a source that is no correction engine, is judged by its class (R438). -/
theorem dramRequest_read {src a b x y : Nat} (ht : s.throttled src = false) (hw : s.hbm.waiting = []) (hf : s.hbm.filling = false)
    (hacc : s.hbm.accessible = true) (hc : corrSource src = false) (ha : a < dramEnd) :
    dramRequest (.read src a false b x y false) s =
      (readClass src (a / 16 * 16) (s.syndrome (a / 16 * 16) (b / 16 * 16) x y) (admitted src s)).2 := by
  rw [dramRequest_served (DramReq.fits_read hacc ha _ _ _ _ _ _) hf (DramReq.not_waits rfl ht hw)]
  simp only [serveReq, corrRead, hc]
  rfl

/-- The class of a read from a pseudo-channel that has not failed. -/
theorem readClass_working {src a n : Nat} (h : s.pcFailed (s.pcOf a) = false) :
    (readClass src a n (admitted src s)).2 = (match classOf n with
      | .clean => admitted src s
      | .corrected => countCe a (admitted src s)
      | .addressFault => (errLog a n 2 src ((admitted src s).bump F.HBM_AF_COUNT_COUNT)).raise .MEM_ADDRESS_FAULT
      | .uncorrectable => (errLog a n 1 src ((admitted src s).bump F.HBM_UE_COUNT_COUNT)).raise .MEM_UNCORRECTABLE) := by
  have hok : (admitted src s).pcFailed ((admitted src s).pcOf a) = false := h
  rw [readClass, if_neg (by rw [hok]; decide)]
  cases classOf n <;> rfl

theorem State.fd_bump_same (s : State) (x : RegField) (n i : Nat) (hx : x.hi < 32) (h : s.fd x i + n < 2 ^ (x.hi + 1 - x.lo)) :
    (s.bump x n i).fd x i = s.fd x i + n := by
  rw [State.bump, State.fd_setFd_same _ _ _ _ hx, satInc, Nat.min_eq_right (by omega), Nat.mod_eq_of_lt h]

theorem State.fd_bump_ne (s : State) (x y : RegField) (n i j : Nat) (h : y.reg ≠ x.reg) : (s.bump x n i).fd y j = s.fd y j :=
  s.fd_setFd_ne x y _ i j h

/-- A corrected read raises where its count has come to a multiple of the threshold (R439). -/
theorem countCe_eq (a : Nat) (hroom : s.fd F.HBM_CE_COUNT_COUNT + 1 < 2 ^ 32) :
    countCe a s = if s.fd F.HBM_CE_THRESH_COUNT ≠ 0 ∧ (s.fd F.HBM_CE_COUNT_COUNT + 1) % s.fd F.HBM_CE_THRESH_COUNT = 0 then
        ((s.bump F.HBM_CE_COUNT_COUNT).bump F.HBM_PC_CE_COUNT_COUNT 1 (s.pcOf a)).raise .MEM_CE_THRESHOLD
      else (s.bump F.HBM_CE_COUNT_COUNT).bump F.HBM_PC_CE_COUNT_COUNT 1 (s.pcOf a) := by
  have hcount : ((s.bump F.HBM_CE_COUNT_COUNT).bump F.HBM_PC_CE_COUNT_COUNT 1 (s.pcOf a)).fd F.HBM_CE_COUNT_COUNT =
      s.fd F.HBM_CE_COUNT_COUNT + 1 := by
    rw [State.fd_bump_ne _ _ _ _ _ _ (by decide), State.fd_bump_same _ _ _ _ (by decide) hroom]
  have hthresh : ((s.bump F.HBM_CE_COUNT_COUNT).bump F.HBM_PC_CE_COUNT_COUNT 1 (s.pcOf a)).fd F.HBM_CE_THRESH_COUNT =
      s.fd F.HBM_CE_THRESH_COUNT := by
    rw [State.fd_bump_ne _ _ _ _ _ _ (by decide), State.fd_bump_ne _ _ _ _ _ _ (by decide)]
  simp only [countCe, hcount, hthresh]

/-! ## The statement -/

/-- Settles O40: a request by `dramRequest_held`, `dramRequest_waits` and `dramRequest_served`, a read by its class. -/
theorem dramReadsAndWrites : Obligations.DramReadsAndWrites := by
  unfold Obligations.DramReadsAndWrites
  refine ⟨?stores, ?outside, ?held, ?writeWaits, ?readWaits, ?activates, ?clean, ?corrected, ?threshold, ?addressFault, ?uncorrectable, ?readOutside⟩
  case stores =>
    intro s src a l hup ht hw hl ha hf hacc
    obtain ⟨hbytes, hrest⟩ := dramStore_bytes a.toNat l (admitted src.toNat s)
    rw [exec_dramWrite hup, dramRequest_write (act := false) ht hw hl ha hf hacc (by exact ⟨hf, hacc⟩)]
    exact ⟨_, rfl, hbytes, hrest, dramStore_eq _ _ (admitted src.toNat s), dramStore_inject_none (s := admitted src.toNat s) _ _⟩
  case outside =>
    intro s src a act l hup hl ha
    rw [exec_dramWrite hup, dramRequest_write_outside hl ha]
  case held =>
    intro s src a act l hup hl ha hacc hf
    rw [exec_dramWrite hup, dramRequest_held (DramReq.fits_write hacc hl ha _ _) hf, holdReq]
  case writeWaits =>
    intro s src a act l hup hl ha hacc hf ht
    rw [exec_dramWrite hup, dramRequest_waits (DramReq.fits_write hacc hl ha _ _) hf (DramReq.waits_of_throttled rfl ht)]
  case readWaits =>
    intro s src a b act x y sram hup ha hacc hf ht
    rw [exec_dramRead hup, dramRequest_waits (DramReq.fits_read hacc ha _ _ _ _ _ _) hf (DramReq.waits_of_throttled rfl ht)]
  case activates =>
    intro s src a l row bank hup ht hw hl ha hf hacc hh htr hth hrow hbank
    have hsrc : serveSource src.toNat a.toNat true s = admitted src.toNat (activate src.toNat a.toNat s) := rfl
    rw [activate_first hh htr hth] at hsrc
    have hserved := dramRequest_write (act := true) ht hw hl ha hf hacc (by rw [hsrc]; exact ⟨hf, hacc⟩)
    obtain ⟨hbytes, -⟩ := dramStore_bytes a.toNat l (serveSource src.toNat a.toNat true s)
    rw [exec_dramWrite hup, hserved, dramStore_eq]
    refine ⟨_, rfl, ?_, hbytes, ?_⟩
    · rw [hsrc, hrow, hbank]; rfl
    · rw [hsrc]; rfl
  case clean =>
    intro s src a b x y n hup ht hw hf hacc hc ha hpc hn hclass
    rw [exec_dramRead hup, dramRequest_read ht hw hf hacc hc ha, ← hn, readClass_working hpc, hclass]
  case corrected =>
    intro s src a b x y n q hup ht hw hf hacc hc ha hq hpc hn hclass hroom hth
    rw [exec_dramRead hup, dramRequest_read ht hw hf hacc hc ha, ← hn, readClass_working (hq ▸ hpc), hclass]
    have hnot : ¬ (s.fd F.HBM_CE_THRESH_COUNT ≠ 0 ∧ (s.fd F.HBM_CE_COUNT_COUNT + 1) % s.fd F.HBM_CE_THRESH_COUNT = 0) := by
      rintro ⟨h0, h1⟩
      exact hth.elim h0 fun h => h h1
    exact congrArg Host.Outcome.next ((countCe_eq (s := admitted src.toNat s) _ hroom).trans ((if_neg hnot).trans (by rw [hq]; rfl)))
  case threshold =>
    intro s src a b x y n q hup ht hw hf hacc hc ha hq hpc hn hclass hroom h0 h1
    rw [exec_dramRead hup, dramRequest_read ht hw hf hacc hc ha, ← hn, readClass_working (hq ▸ hpc), hclass]
    exact congrArg Host.Outcome.next ((countCe_eq (s := admitted src.toNat s) _ hroom).trans ((if_pos ⟨h0, h1⟩).trans (by rw [hq]; rfl)))
  case addressFault =>
    intro s src a b x y n hup ht hw hf hacc hc ha hpc hn hclass
    rw [exec_dramRead hup, dramRequest_read ht hw hf hacc hc ha, ← hn, readClass_working hpc, hclass]
  case uncorrectable =>
    intro s src a b x y n hup ht hw hf hacc hc ha hpc hn hclass
    rw [exec_dramRead hup, dramRequest_read ht hw hf hacc hc ha, ← hn, readClass_working hpc, hclass]
  case readOutside =>
    intro s src a b act x y hup hc ha
    rw [exec_dramRead hup, dramRequest_read_outside hc ha]

end Sys2Proof.Machine

/-! PROOFS. What a damp leaves alone (R36 to R39, R303, R304, R583). -/

namespace Sys2Proof.Machine

variable {s : State}

/-- Registers that a damp may write: the abort record, and the count of frames that it cuts. -/
def dampWrites : List Reg := [.PLAN_ABORT_STRIPE, .PLAN_ABORT_WHERE, .PLAN_ABORT_CAUSE, .CARIL_ABORTS]

/-- What of a state no damp touches: the other registers, and the state without the stripes, the stage, the lanes and what is sent. -/
def State.undamped (s : State) : (Reg → Nat → Word) × State :=
  (fun r i => if r ∈ dampWrites then 0 else s.rg r i,
   { s with
     regs := [], out := [], cyc := [], caril := CarilSt.reset, bob := BobSt.reset, corr := CorrSt.reset, plan := PlanSt.reset
     stage := StageSt.reset, track := TrackSt.reset, cad := CadSt.reset, tl := Vector.replicate 4 Pers.reset })

theorem State.undamped_of_eq {t : State} (hr : ∀ r i, r ∉ dampWrites → t.rg r i = s.rg r i) (h : t.undamped.2 = s.undamped.2) :
    t.undamped = s.undamped := by
  refine Prod.ext (funext fun r => funext fun i => ?_) h
  by_cases hm : r ∈ dampWrites
  · exact (if_pos hm).trans (if_pos hm).symm
  · exact (if_neg hm).trans ((hr r i hm).trans (if_neg hm).symm)

theorem State.undamped_of_regs {t : State} (hr : t.regs = s.regs) (h : t.undamped.2 = s.undamped.2) : t.undamped = s.undamped :=
  State.undamped_of_eq (fun _ _ _ => by rw [State.rg, hr, ← State.rg]) h

theorem State.rg_of_undamped {t : State} (h : t.undamped = s.undamped) {r : Reg} (i : Nat) (hr : r ∉ dampWrites) : t.rg r i = s.rg r i := by
  have hi := congrFun (congrFun (congrArg Prod.fst h) r) i
  exact (if_neg hr).symm.trans (hi.trans (if_neg hr))

theorem State.fd_of_undamped {t : State} (h : t.undamped = s.undamped) (x : RegField) (i : Nat) (hr : x.reg ∉ dampWrites) :
    t.fd x i = s.fd x i :=
  congrArg (fun w : Word => bits w.toNat x.hi x.lo) (State.rg_of_undamped h i hr)

/-! ## One lemma per operation of a damp -/

theorem State.setRg_undamped {r : Reg} (w : Word) (i : Nat) (h : r ∈ dampWrites) : (s.setRg r w i).undamped = s.undamped :=
  State.undamped_of_eq (fun _ _ hq => State.rg_setRg_ne _ _ _ _ _ _ fun e => hq (e ▸ h)) rfl

theorem State.setFd_undamped {x : RegField} (v i : Nat) (h : x.reg ∈ dampWrites) : (s.setFd x v i).undamped = s.undamped :=
  State.undamped_of_eq (fun _ _ hq => State.rg_setFd_ne _ _ _ _ _ _ fun e => hq (e ▸ h)) rfl

@[simp] theorem State.emit_undamped (o : Out) (s : State) : (s.emit o).undamped = s.undamped := by
  simp only [State.emit]
  split
  · rfl
  · exact State.undamped_of_regs rfl rfl

@[simp] theorem State.setLane_undamped (n : Nat) (l : Lane) (s : State) : (s.setLane n l).undamped = s.undamped :=
  State.undamped_of_regs rfl rfl
@[simp] theorem State.mark_undamped (e : CycleEvent) (s : State) : (s.mark e).undamped = s.undamped :=
  State.undamped_of_regs rfl rfl
@[simp] theorem State.setPers_undamped (j : Nat) (p : Pers) (s : State) : (s.setPers j p).undamped = s.undamped :=
  State.undamped_of_regs rfl rfl
@[simp] theorem State.stopTiles_undamped (j : Nat) (s : State) : (s.stopTiles j).undamped = s.undamped :=
  State.undamped_of_regs rfl rfl
@[simp] theorem State.stopJobs_undamped (s : State) : s.stopJobs.undamped = s.undamped :=
  State.undamped_of_regs rfl rfl
@[simp] theorem State.setAxis_undamped (i : Fin 2) (x : Axis) (s : State) : (s.setAxis i x).undamped = s.undamped :=
  State.undamped_of_regs rfl rfl

@[simp] theorem State.aim_undamped (i : Fin 2) (g : AxisGoal) (s : State) : (s.aim i g).undamped = s.undamped := State.setAxis_undamped _ _ _

@[simp] theorem State.stopAxes_undamped (s : State) : s.stopAxes.undamped = s.undamped := by
  have hstop : ∀ u : State, ({ u with stage := { u.stage with spStop := true } } : State).undamped = u.undamped :=
    fun _ => State.undamped_of_regs rfl rfl
  simp only [State.stopAxes, hstop, State.aim_undamped]

@[simp] theorem damplane_undamped (s : State) (n : Nat) : (damplane s n).undamped = s.undamped := by
  simp only [damplane]
  split
  · rfl
  · have hbump : ∀ u : State, (u.bump F.CARIL_ABORTS_COUNT).undamped = u.undamped := fun u => State.setFd_undamped _ _ (by decide)
    split <;> split <;> simp [hbump]

@[simp] theorem dampLanes_undamped (s : State) (l : List Nat) : (dampLanes s l).undamped = s.undamped :=
  foldl_keeps State.undamped damplane damplane_undamped l s

@[simp] theorem State.setLatch_undamped (c : Nat) (s : State) : (s.setLatch c).undamped = s.undamped := by
  simp only [State.setLatch]
  split
  · rfl
  · exact State.undamped_of_regs rfl rfl

@[simp] theorem State.cadDue_undamped (c : CadCmd) (s : State) : (s.cadDue c).undamped = s.undamped := by
  simp only [State.cadDue]
  split
  · exact State.undamped_of_regs rfl rfl
  · rfl

theorem State.abortRecord_undamped (w : Nat × Nat) (cause node : Nat) (s : State) : (s.abortRecord w cause node).undamped = s.undamped :=
  (State.setFd_undamped _ _ (by decide)).trans <| (State.setFd_undamped _ _ (by decide)).trans <| (State.setFd_undamped _ _ (by decide)).trans <|
    (State.setFd_undamped _ _ (by decide)).trans (State.setRg_undamped _ _ (by decide))

theorem State.stripeEnded_undamped (w : Nat × Nat) (cause node : Nat) (written : Bool) (s : State) :
    (s.stripeEnded w cause node written).undamped = s.undamped := by
  have hends : ∀ (u : State) (p : PlanSt) (x : StageSt) (k : TrackSt) (c : CadSt),
      ({ u with plan := p, stage := x, track := k, cad := c } : State).undamped = u.undamped :=
    fun _ _ _ _ _ => State.undamped_of_regs rfl rfl
  rw [State.stripeEnded, hends, State.stopJobs_undamped, State.abortRecord_undamped]

@[simp] theorem State.enterAborted_undamped (w : Nat × Nat) (cause node : Nat) (written : Bool) (s : State) :
    (s.enterAborted w cause node written).undamped = s.undamped := by
  have hstage : ∀ (u : State) (x : StageSt), ({ u with stage := x } : State).undamped = u.undamped := fun _ _ => State.undamped_of_regs rfl rfl
  rw [State.enterAborted_eq, hstage, State.stripeEnded_undamped]

@[simp] theorem sameInstant_undamped (cause node : Nat) (written : Bool) (at_ : Option (Nat × Nat)) (s : State) :
    (sameInstant cause node written at_ s).undamped = s.undamped := by
  have hset : ∀ (u : State) (x : RegField) (v : Nat), x.reg ∈ dampWrites → (u.setFd x v).undamped = u.undamped :=
    fun u x v h => State.setFd_undamped v 0 h
  have hplan : ∀ (u : State) (p : PlanSt), ({ u with plan := p } : State).undamped = u.undamped := fun _ _ => State.undamped_of_regs rfl rfl
  simp only [sameInstant]
  split <;> split <;> simp (disch := decide) only [hplan, hset]

@[simp] theorem dampStripe_undamped (cause node : Nat) (written final : Bool) (at_ : Option (Nat × Nat)) (s : State) :
    (dampStripe cause node written final at_ s).undamped = s.undamped := by
  simp only [dampStripe]
  split
  · split
    · exact State.undamped_of_regs rfl rfl
    · simp
  · split <;> simp

@[simp] theorem State.tlRc_undamped (j b : Nat) (s : State) : (s.tlRc j b).undamped = s.undamped := by
  simp only [State.tlRc]
  split
  · rfl
  · split <;> simp

@[simp] theorem tlAborted_undamped (j : Nat) (s : State) : (tlAborted j s).undamped = s.undamped := by
  simp [tlAborted]

@[simp] theorem dampPers_undamped (cause node : Nat) (s : State) (j : Nat) : (dampPers cause node s j).undamped = s.undamped := by
  simp only [dampPers]
  split
  · refine (State.setFd_undamped _ _ (by decide)).trans <| (State.setFd_undamped _ _ (by decide)).trans <|
      (State.setFd_undamped _ _ (by decide)).trans ?_
    simp
  · simp

/-- A damp touches the stripes, the stage, the lanes and what is sent, and writes the registers of `dampWrites` alone. -/
@[simp] theorem State.damp_undamped (s : State) (loc : Bool) (cause node : Nat) (written final : Bool) (at_ : Option (Nat × Nat)) :
    (s.damp loc cause node written final at_).undamped = s.undamped := by
  simp only [State.damp]
  refine (foldl_keeps State.undamped _ (fun u j => dampPers_undamped cause node u j) _ _).trans ?_
  split <;> split <;> simp

/-! ## Damps with a fault -/

theorem State.undamped_raise (s : State) (c : FaultCode) :
    (s.raise c).undamped = (s.undamped.1, { s.undamped.2 with fault := (s.raise c).fault }) := by
  rw [State.raise_eq]
  exact Prod.ext rfl rfl

/-- A damp that a fault of the running stripe brings touches the fault logic too (R45). -/
theorem State.runDamp_undamped (s : State) (c : FaultCode) :
    (s.runDamp c).undamped = (s.undamped.1, { s.undamped.2 with fault := (s.raise c).fault }) := by
  simp only [State.runDamp, State.localDamp]
  split
  · rw [State.damp_undamped, State.undamped_raise]
  · rw [State.undamped_raise]

theorem State.runDamp_hbm (s : State) (c : FaultCode) : (s.runDamp c).hbm = s.hbm :=
  congrArg (fun u : (Reg → Nat → Word) × State => u.2.hbm) (s.runDamp_undamped c)

theorem State.rg_runDamp (s : State) (c : FaultCode) {r : Reg} (i : Nat) (h : r ∉ dampWrites) : (s.runDamp c).rg r i = s.rg r i := by
  have hr := congrFun (congrFun (congrArg Prod.fst (s.runDamp_undamped c)) r) i
  exact (if_neg h).symm.trans (hr.trans (if_neg h))

theorem State.fd_runDamp (s : State) (c : FaultCode) (x : RegField) (i : Nat) (h : x.reg ∉ dampWrites) : (s.runDamp c).fd x i = s.fd x i :=
  congrArg (fun w : Word => bits w.toNat x.hi x.lo) (s.rg_runDamp c i h)

end Sys2Proof.Machine

/-! PROOFS. Rows, temperature, REMAP and the end of a fill (R428 to R434, R443 to R445). -/

namespace Sys2Proof.Machine

variable {s : State}

/-! ## The window of the trackers (R432) -/

theorem exec_rhWindow (s : State) : exec .rhWindow s = .next (rhWindow s) := rfl

theorem rhWindow_due (h : s.hbm.windowAt + 1000000000 * max 1 (s.fd F.HBM_RH_CFG_WINDOW_MS) ≤ s.now) :
    rhWindow s = { s with hbm := { s.hbm with trackers := [], windowAt := s.now } } := if_pos h

theorem rhWindow_early (h : s.now < s.hbm.windowAt + 1000000000 * max 1 (s.fd F.HBM_RH_CFG_WINDOW_MS)) : rhWindow s = s :=
  if_neg (Nat.not_le.2 h)

/-! ## Temperature readings (R430, R431) -/

theorem exec_stackTempRead_selfRefresh (h : s.up) (hs : s.hbm.selfRefresh = true) (x y : BitVec 8) : exec (.stackTempRead x y) s = .next s := by
  have hexec : exec (.stackTempRead x y) s = execStackTempRead x y s := rfl
  rw [hexec, execStackTempRead, State.whenReady_up h, hs]
  rfl

/-- Field of HBM_STATUS and of HBM_TEMP of a stack. -/
def rateField (k : Nat) : RegField := if k = 0 then F.HBM_STATUS_RATE0 else F.HBM_STATUS_RATE1
def tempField (k : Nat) : RegField := if k = 0 then F.HBM_TEMP_STACK0 else F.HBM_TEMP_STACK1

/-- The rate code that stack k had, 0 before its first reading. -/
def State.rateNow (s : State) (k : Nat) : Nat := if (s.hbm.tempSeen[k]?).getD false then s.fd (rateField k) else 0

/-- Stack k's reading is recorded, and whether it is hot. -/
def State.tempNoted (s : State) (k t : Nat) (hot : Bool) : State :=
  { s with
    regs := ((s.setFd (rateField k) (rateCode (s.rateNow k) t)).setFd (tempField k) t).regs
    hbm := { s.hbm with hot := s.hbm.hot.setIfInBounds k hot, tempSeen := s.hbm.tempSeen.setIfInBounds k true } }

/-- A reading damps where its stack becomes hot (R431). -/
theorem stackTemp_eq (k t : Nat) (s : State) :
    ∃ hot, (105 ≤ t → hot = true) ∧ (t < 105 → (s.hbm.hot[k]?).getD false = false → hot = false) ∧
      stackTemp k t s = (if hot && !((s.hbm.hot[k]?).getD false) then (s.tempNoted k t hot).runDamp .MEM_STACK_HOT else s.tempNoted k t hot) := by
  refine ⟨decide (t ≥ 105) || ((s.hbm.hot[k]?).getD false && decide (t > 100)), ?_, ?_, rfl⟩
  · intro h; simp [h]
  · intro h hc; simp [hc, Nat.not_le.2 h]

theorem stackTemp_cool {k t : Nat} (ht : t < 105) (hc : (s.hbm.hot[k]?).getD false = false) : stackTemp k t s = s.tempNoted k t false := by
  obtain ⟨hot, -, hcool, h⟩ := stackTemp_eq k t s
  rw [h, hcool ht hc]
  rfl

/-- A reading records rate and temperature, whether it damps or not. -/
theorem stackTemp_noted (k t : Nat) (s : State) : ∃ hot, (105 ≤ t → hot = true) ∧ (stackTemp k t s).hbm = (s.tempNoted k t hot).hbm ∧
    ∀ (x : RegField) (i : Nat), x.reg ∉ dampWrites → (stackTemp k t s).fd x i = (s.tempNoted k t hot).fd x i := by
  obtain ⟨hot, hhot, -, h⟩ := stackTemp_eq k t s
  refine ⟨hot, hhot, ?_, fun x i hx => ?_⟩
  · rw [h]; split
    · exact State.runDamp_hbm _ _
    · rfl
  · rw [h]; split
    · exact State.fd_runDamp _ _ _ _ hx
    · rfl

theorem State.tempNoted_hot (s : State) (k t : Nat) (hot : Bool) : (s.tempNoted k t hot).hbm.hot = s.hbm.hot.setIfInBounds k hot := rfl

theorem State.tempNoted_tempSeen (s : State) (k t : Nat) (hot : Bool) :
    (s.tempNoted k t hot).hbm.tempSeen = s.hbm.tempSeen.setIfInBounds k true := rfl

/-! ### What a recorded reading reads back as -/

theorem State.fd_tempNoted (s : State) (k t : Nat) (hot : Bool) (x : RegField) :
    (s.tempNoted k t hot).fd x = ((s.setFd (rateField k) (rateCode (s.rateNow k) t)).setFd (tempField k) t).fd x := rfl

theorem rateCode_lt (cur t : Nat) : rateCode cur t < 4 := by
  simp only [rateCode]
  split
  · decide
  · split <;> decide

theorem rateCode_first (t : Nat) : rateCode 0 t = if 95 ≤ t then 2 else if 85 ≤ t then 1 else 0 := by
  simp [rateCode]

theorem rateCode_hot {t : Nat} (h : 95 ≤ t) (cur : Nat) : rateCode cur t = 2 := if_pos (.inl h)

theorem State.tempNoted_reads0 (s : State) {t : Nat} (ht : t < 256) (hot : Bool) :
    (s.tempNoted 0 t hot).fd F.HBM_STATUS_RATE0 = rateCode (s.rateNow 0) t ∧ (s.tempNoted 0 t hot).fd F.HBM_TEMP_STACK0 = t := by
  rw [State.fd_tempNoted, State.fd_tempNoted]
  constructor
  · rw [State.fd_setFd_ne _ _ F.HBM_STATUS_RATE0 _ _ _ (by decide)]
    exact (State.fd_setFd_same _ F.HBM_STATUS_RATE0 _ _ (by decide)).trans (Nat.mod_eq_of_lt (rateCode_lt _ _))
  · exact (State.fd_setFd_same _ F.HBM_TEMP_STACK0 _ _ (by decide)).trans (Nat.mod_eq_of_lt ht)

theorem State.tempNoted_reads1 (s : State) {t : Nat} (ht : t < 256) (hot : Bool) :
    (s.tempNoted 1 t hot).fd F.HBM_STATUS_RATE1 = rateCode (s.rateNow 1) t ∧ (s.tempNoted 1 t hot).fd F.HBM_TEMP_STACK1 = t := by
  rw [State.fd_tempNoted, State.fd_tempNoted]
  constructor
  · rw [State.fd_setFd_ne _ _ F.HBM_STATUS_RATE1 _ _ _ (by decide)]
    exact (State.fd_setFd_same _ F.HBM_STATUS_RATE1 _ _ (by decide)).trans (Nat.mod_eq_of_lt (rateCode_lt _ _))
  · exact (State.fd_setFd_same _ F.HBM_TEMP_STACK1 _ _ (by decide)).trans (Nat.mod_eq_of_lt ht)

/-- A reading of stack 1 leaves what stack 0 showed. -/
theorem State.tempNoted_keeps0 (s : State) (t : Nat) (hot : Bool) :
    (s.tempNoted 1 t hot).fd F.HBM_STATUS_RATE0 = s.fd F.HBM_STATUS_RATE0 ∧ (s.tempNoted 1 t hot).fd F.HBM_TEMP_STACK0 = s.fd F.HBM_TEMP_STACK0 := by
  rw [State.fd_tempNoted, State.fd_tempNoted]
  constructor
  · rw [State.fd_setFd_ne _ _ F.HBM_STATUS_RATE0 _ _ _ (by decide)]
    exact State.fd_setFd_other _ F.HBM_STATUS_RATE1 F.HBM_STATUS_RATE0 _ _ (by decide) rfl (by decide)
  · refine (State.fd_setFd_other _ F.HBM_TEMP_STACK1 F.HBM_TEMP_STACK0 _ _ (by decide) rfl (by decide)).trans ?_
    exact State.fd_setFd_ne _ _ F.HBM_TEMP_STACK0 _ _ _ (by decide)

/-! ### Both stacks -/

theorem State.tempNoted_both (s : State) (t0 t1 : Nat) (h0 h1 : Bool) : (s.tempNoted 0 t0 h0).tempNoted 1 t1 h1 =
    { s with
      regs := ((s.tempNoted 0 t0 h0).tempNoted 1 t1 h1).regs
      hbm := { s.hbm with
        hot := ((s.tempNoted 0 t0 h0).tempNoted 1 t1 h1).hbm.hot
        tempSeen := (s.hbm.tempSeen.setIfInBounds 0 true).setIfInBounds 1 true } } := rfl

/-- Where no stack becomes hot, the readings alone count. -/
theorem stackTemps_noArm {t0 t1 : Nat} (h : (stackTemp 1 t1 (stackTemp 0 t0 s)).stackHot = false) :
    stackTemps t0 t1 s = stackTemp 1 t1 (stackTemp 0 t0 s) := by
  simp [stackTemps, h]

theorem toIdle_hbm (s : State) : (toIdle s).hbm = s.hbm := rfl
theorem toIdle_regs (s : State) : (toIdle s).regs = s.regs := rfl

/-- A refused ARM of the cycle changes neither the registers nor the DRAM controller (Table 12-8). -/
theorem stackTemps_reads (t0 t1 : Nat) (s : State) : (stackTemps t0 t1 s).hbm = (stackTemp 1 t1 (stackTemp 0 t0 s)).hbm ∧
    (stackTemps t0 t1 s).regs = (stackTemp 1 t1 (stackTemp 0 t0 s)).regs := by
  simp only [stackTemps]
  split
  · rw [State.raise_hbm, State.raise_regs]
    exact ⟨toIdle_hbm _, toIdle_regs _⟩
  · exact ⟨rfl, rfl⟩

theorem stackTemps_cool {t0 t1 : Nat} (h0 : t0 < 105) (h1 : t1 < 105) (hhot : s.hbm.hot = Vector.replicate 2 false) :
    stackTemps t0 t1 s = (s.tempNoted 0 t0 false).tempNoted 1 t1 false ∧
      ((s.tempNoted 0 t0 false).tempNoted 1 t1 false).hbm.hot = Vector.replicate 2 false := by
  have hc0 : (s.hbm.hot[0]?).getD false = false := by rw [hhot]; rfl
  have hc1 : ((s.tempNoted 0 t0 false).hbm.hot[1]?).getD false = false := by rw [State.tempNoted_hot, hhot]; decide
  have hend : ((s.tempNoted 0 t0 false).tempNoted 1 t1 false).hbm.hot = Vector.replicate 2 false := by
    rw [State.tempNoted_hot, State.tempNoted_hot, hhot]; decide
  have heq : stackTemp 1 t1 (stackTemp 0 t0 s) = (s.tempNoted 0 t0 false).tempNoted 1 t1 false := by
    rw [stackTemp_cool h0 hc0, stackTemp_cool h1 hc1]
  refine ⟨?_, hend⟩
  rw [stackTemps_noArm, heq]
  rw [heq, State.stackHot, hend]
  rfl

/-! ## REMAP (R428, R429) -/

/-- The staged mask of selector k becomes active. -/
def activateMask (s : State) (k : Nat) : State :=
  (s.setRg .HBM_HASH_MASK_LO (s.rg .HBM_HASH_MASK_LO k) (k + 16)).setRg .HBM_HASH_MASK_HI (s.rg .HBM_HASH_MASK_HI k) (k + 16)

theorem rg_activateMask (s : State) (k : Nat) {r : Reg} (hr : r = .HBM_HASH_MASK_LO ∨ r = .HBM_HASH_MASK_HI) {j : Nat} (hk : k < 11)
    (hj : j < 32) : (activateMask s k).rg r j = if j = k + 16 then s.rg r k else s.rg r j := by
  have hmod : j % 65536 = (k + 16) % 65536 ↔ j = k + 16 := by omega
  rcases hr with rfl | rfl <;> simp only [activateMask, State.rg_setRg, hmod] <;> split <;> simp_all

/-- Of the first n selectors the staged mask is active, and the staged ones stay. -/
theorem rg_foldl_activateMask (s : State) {r : Reg} (hr : r = .HBM_HASH_MASK_LO ∨ r = .HBM_HASH_MASK_HI) (n : Nat) (hn : n ≤ 11) :
    (∀ k, k < 16 → ((List.range n).foldl activateMask s).rg r k = s.rg r k) ∧
      (∀ k, k < n → ((List.range n).foldl activateMask s).rg r (k + 16) = s.rg r k) := by
  induction n with
  | zero => exact ⟨fun _ _ => rfl, fun k hk => absurd hk (Nat.not_lt_zero k)⟩
  | succ n ih =>
    obtain ⟨hstaged, hactive⟩ := ih (by omega)
    rw [List.range_succ, List.foldl_append]
    refine ⟨fun k hk => ?_, fun k hk => ?_⟩
    · rw [List.foldl_cons, List.foldl_nil, rg_activateMask _ n hr (by omega) (by omega), if_neg (by omega), hstaged k hk]
    · rw [List.foldl_cons, List.foldl_nil, rg_activateMask _ n hr (by omega) (by omega)]
      split
      · rw [hstaged n (by omega), show k = n by omega]
      · exact hactive k (by omega)

theorem hashMask_foldl_activateMask (s : State) {k : Nat} (hk : k < 11) :
    ((List.range 11).foldl activateMask s).hashMask true k = s.hashMask false k := by
  have hlo := (rg_foldl_activateMask s (.inl rfl) 11 (Nat.le_refl 11)).2 k hk
  have hhi := (rg_foldl_activateMask s (.inr rfl) 11 (Nat.le_refl 11)).2 k hk
  have hfd : ∀ (u : State) (x : RegField) (i : Nat), u.fd x i = bits (u.rg x.reg i).toNat x.hi x.lo := fun _ _ _ => rfl
  rw [State.hashMask, State.hashMask, hfd, hfd, hfd, hfd]
  exact congrArg₂ (fun a b : Word => bits a.toNat 31 0 + 2 ^ 32 * bits b.toNat 3 0) hlo hhi

theorem foldl_activateMask_eq (l : List Nat) (s : State) : l.foldl activateMask s = { s with regs := (l.foldl activateMask s).regs } := by
  induction l generalizing s with
  | nil => rfl
  | cons k l ih =>
    have hset : ∀ (u : State) (r : Reg) (w : Word) (i : Nat) (f : RegFile),
        ({ u.setRg r w i with regs := f } : State) = { u with regs := f } := fun _ _ _ _ _ => rfl
    rw [List.foldl_cons, ih (activateMask s k), activateMask, hset, hset]

/-- What the fill of a REMAP leaves of a state that has changed its registers alone: nothing in DRAM, no library and no record (R429). -/
theorem dropLibs_beginFill {r : RegFile} {c : List CycleEvent} (u : State) (hu : u = { s with regs := r, cyc := c }) :
    (dropLibs (beginFill u)).dram = [] ∧ (dropLibs (beginFill u)).dramMark = [] ∧
      (dropLibs (beginFill u)).hbm = { s.hbm with filling := true } ∧
      (dropLibs (beginFill u)).lace.libs = Vector.replicate 15 LibSlot.empty ∧ (dropLibs (beginFill u)).lace.reg = none ∧
      (dropLibs (beginFill u)).bob.cache = [] ∧
      dropLibs (beginFill u) = { s with
        regs := (dropLibs (beginFill u)).regs, dram := [], dramMark := [], hbm := (dropLibs (beginFill u)).hbm
        lace := (dropLibs (beginFill u)).lace, bob := { s.bob with cache := [] }, cyc := (dropLibs (beginFill u)).cyc } := by
  subst hu
  exact ⟨rfl, rfl, rfl, rfl, rfl, rfl, rfl⟩

theorem hashMask_dropLibs_beginFill (s : State) (k : Nat) : (dropLibs (beginFill s)).hashMask true k = s.hashMask true k := rfl

/-- A scope that has lost its records. -/
def LaceScope.loseRecs (c : LaceScope) : LaceScope := { c with chunks := c.chunks.map (fun k => { k with recs := [] }) }

theorem dropLibs_scopes (s : State) : (dropLibs s).lace.scopes = s.lace.scopes.map LaceScope.loseRecs := rfl

theorem dropLibs_chunks (s : State) (i : Nat) : ((dropLibs s).lace.scopes.toList.getD i LaceScope.closed).chunks =
    (s.lace.scopes.toList.getD i LaceScope.closed).chunks.map (fun c => { c with recs := [] }) := by
  have hclosed : LaceScope.closed = LaceScope.closed.loseRecs := rfl
  rw [dropLibs_scopes, Vector.toList_map, hclosed, List.getD_map, ← hclosed]
  rfl

theorem State.hashMask_cmdSeen (s : State) (k : Nat) : s.cmdSeen.hashMask false k = s.hashMask false k := by
  rw [State.hashMask, State.hashMask, State.fd_cmdSeen s _ (by decide), State.fd_cmdSeen s _ (by decide)]

theorem exec_remap (h : s.runs) : exec .remap s = .next (doRemap s.cmdSeen) :=
  congrArg Host.Outcome.next (State.hostCmd_wake h doRemap rfl rfl)

theorem doRemap_invalid {k : Nat} (hk : k < 11) (h : maskValid k (s.hashMask false k) = false) : doRemap s = s.raise .MEM_CONFIG_INVALID := by
  have hany : ((List.range 11).all fun k => maskValid k (s.hashMask false k)) = false :=
    List.all_eq_false.2 ⟨k, List.mem_range.2 hk, by rw [h]; decide⟩
  simp [doRemap, hany]

/-- No scrub of this cycle is refused where none has been noted. -/
theorem producers_nil {p : Nat → Nat → Bool} (h : ∀ e ∈ s.cyc, ∀ a b c d f, e ≠ .produced a b c d f) : s.producers p = [] := by
  refine List.filter_eq_nil_iff.2 fun e he => ?_
  cases e with
  | produced a b c d f => exact absurd rfl (h _ he a b c d f)
  | _ => simp

theorem cmdSeen_noProducer (hc : s.cyc = []) : ∀ e ∈ s.cmdSeen.cyc, ∀ a b c d f, e ≠ .produced a b c d f := by
  rw [State.cmdSeen_cyc, hc]
  simp

theorem doRemap_valid (hc : ∀ e ∈ s.cyc, ∀ a b c d f, e ≠ .produced a b c d f)
    (h : ∀ k, k < 11 → maskValid k (s.hashMask false k) = true) : doRemap s =
      if !s.allIdle || s.dma.ops != [] || s.hbm.scrub.isSome || s.hbm.filling then s.raise .MEM_CONFIG_BUSY
      else dropLibs (beginFill ((List.range 11).foldl activateMask s)) := by
  have hall : ((List.range 11).all fun k => maskValid k (s.hashMask false k)) = true :=
    List.all_eq_true.2 fun k hk => h k (List.mem_range.1 hk)
  simp only [doRemap, producers_nil hc, hall]
  rfl

/-! ## The end of a fill (R443, R445) -/

/-- Pseudo-channel q is marked as its read-back says. -/
def markPc (bad : Nat) (s : State) (q : Nat) : State :=
  if bit bad q = 1 then (s.setFd F.HBM_PC_STATUS_FAILED 1 q).raise .MEM_PC_FAILED else s.setFd F.HBM_PC_STATUS_FAILED 0 q

theorem fillEnd_eq (bad : Nat) (s : State) :
    fillEnd bad s = (List.range 64).foldl (markPc bad) { s with hbm := { s.hbm with filling := false } } := rfl

theorem markPc_frame (bad : Nat) (s : State) (q : Nat) :
    ({ markPc bad s q with regs := [], fault := FaultSt.reset } : State) = { s with regs := [], fault := FaultSt.reset } := by
  simp only [markPc]
  split
  · rw [State.raise_eq]; rfl
  · rfl

theorem fillEnd_frame (bad : Nat) (s : State) :
    fillEnd bad s = { s with hbm := { s.hbm with filling := false }, regs := (fillEnd bad s).regs, fault := (fillEnd bad s).fault } :=
  congrArg (fun u : State => { u with regs := (fillEnd bad s).regs, fault := (fillEnd bad s).fault })
    (foldl_keeps (fun u : State => ({ u with regs := [], fault := FaultSt.reset } : State)) (markPc bad) (markPc_frame bad) (List.range 64) _)

theorem bit_eq_one_iff (x i : Nat) : bit x i = 1 ↔ x.testBit i = true := by
  rw [bit, Nat.testBit_eq_decide_div_mod_eq, decide_eq_true_eq]

theorem markPc_pcFailed (bad : Nat) (s : State) {q p : Nat} (hq : q < 64) (hp : p < 64) :
    (markPc bad s q).pcFailed p = if p = q then bad.testBit q else s.pcFailed p := by
  have hset : ∀ v, v < 2 → (s.setFd F.HBM_PC_STATUS_FAILED v q).pcFailed p = if p = q then v != 0 else s.pcFailed p := by
    intro v hv
    simp only [State.pcFailed, State.fb_eq_fd]
    split
    · rename_i h
      rw [h, State.fd_setFd_same _ _ _ _ (by decide)]
      exact congrArg (· != 0) (Nat.mod_eq_of_lt hv)
    · rw [State.fd_setFd_reg _ _ _ _ _ _ (by omega)]
  have hraise : ∀ u : State, (u.raise .MEM_PC_FAILED).pcFailed p = u.pcFailed p := fun u => by
    rw [State.pcFailed, State.fb_eq_fd, State.fd_raise]; rfl
  simp only [markPc]
  by_cases hb : bad.testBit q = true
  · rw [if_pos ((bit_eq_one_iff _ _).2 hb), hraise, hset 1 (by decide), hb]; rfl
  · rw [if_neg fun h => hb ((bit_eq_one_iff _ _).1 h), hset 0 (by decide), Bool.not_eq_true _ |>.mp hb]; rfl

theorem foldl_markPc_pcFailed (bad : Nat) (s : State) (n : Nat) (hn : n ≤ 64) :
    ∀ p, p < n → ((List.range n).foldl (markPc bad) s).pcFailed p = bad.testBit p := by
  induction n with
  | zero => exact fun p hp => absurd hp (Nat.not_lt_zero p)
  | succ n ih =>
    intro p hp
    rw [List.range_succ, List.foldl_append, List.foldl_cons, List.foldl_nil, markPc_pcFailed _ _ (by omega) (by omega)]
    split
    · rename_i h; rw [h]
    · exact ih (by omega) p (by omega)

/-- A fill that reads back clean raises nothing. -/
theorem fillEnd_clean (s : State) : (fillEnd 0 s).fault = s.fault := by
  have hmark : ∀ (u : State) (q : Nat), (markPc 0 u q).fault = u.fault := fun u q => by
    rw [markPc, if_neg (by simp [bit])]; rfl
  rw [fillEnd_eq]
  exact foldl_keeps State.fault (markPc 0) hmark (List.range 64) _

theorem doFillDone_unheld (bad : Nat) (hf : s.hbm.filling = true) (hh : s.hbm.held = []) : doFillDone bad s = fillEnd bad s := by
  have hframe := fillEnd_frame bad s
  have hheld : (fillEnd bad s).hbm.held = [] := (congrArg (fun u : State => u.hbm.held) hframe).trans hh
  simp only [doFillDone, hf, hheld, Bool.not_true, Bool.false_eq_true, if_false, List.foldl_nil]
  exact congrArg (fun l => { fillEnd bad s with hbm := { (fillEnd bad s).hbm with held := l } }) hheld.symm

theorem applyResume_idle (h : s.prick.phase ≠ .apply) : applyResume s = s := by
  simp [applyResume, h]

/-! ## The statement -/

/-- Settles O41: readings by what they record (`tempNoted`), REMAP by the masks that become active one after another, the end of a fill by the
pseudo-channels that it marks one after another. -/
theorem rowsRemapAndFill : Obligations.RowsRemapAndFill := by
  unfold Obligations.RowsRemapAndFill
  refine ⟨⟨?due, ?early, ?expire, ?refresh, ?asleep, ?cool, ?hot⟩, ?remap, ?invalid, ?busy, ?noFill, ?filled⟩
  case due =>
    intro s h
    rw [exec_rhWindow, rhWindow_due h]
  case early =>
    intro s h
    rw [exec_rhWindow, rhWindow_early h]
  case expire => exact fun s => ⟨_, rfl, rfl, rfl⟩
  case refresh => exact fun s k b => rfl
  case asleep => exact fun s x y hup hs => exec_stackTempRead_selfRefresh hup hs x y
  case cool =>
    intro s x y hup hs hseen hhot hx hy
    obtain ⟨heq, hend⟩ := stackTemps_cool hx hy hhot
    obtain ⟨hrate0, htemp0⟩ := s.tempNoted_reads0 x.isLt false
    obtain ⟨hrate1, htemp1⟩ := (s.tempNoted 0 x.toNat false).tempNoted_reads1 y.isLt false
    obtain ⟨hkeep0, hkeept⟩ := (s.tempNoted 0 x.toNat false).tempNoted_keeps0 y.toNat false
    have hnow0 : s.rateNow 0 = 0 := by rw [State.rateNow, hseen]; exact if_neg (by decide)
    have hnow1 : (s.tempNoted 0 x.toNat false).rateNow 1 = 0 := by
      rw [State.rateNow, State.tempNoted_tempSeen, hseen]; exact if_neg (by decide)
    rw [exec_stackTempRead hup hs, heq]
    refine ⟨_, rfl, hkeept.trans htemp0, htemp1, ?_, ?_, hend, ?_⟩
    · rw [hkeep0, hrate0, hnow0, rateCode_first]
    · rw [hrate1, hnow1, rateCode_first]
    · have hboth : (s.hbm.tempSeen.setIfInBounds 0 true).setIfInBounds 1 true = Vector.replicate 2 true := by rw [hseen]; decide
      rw [← hboth]
      exact s.tempNoted_both x.toNat y.toNat false false
  case hot =>
    intro s x y hup hs hhot hx
    obtain ⟨hot0, hhot0, hhbm0, hfd0⟩ := stackTemp_noted 0 x.toNat s
    obtain ⟨hot1, -, hhbm1, hfd1⟩ := stackTemp_noted 1 y.toNat (stackTemp 0 x.toNat s)
    obtain ⟨hrate0, htemp0⟩ := s.tempNoted_reads0 x.isLt hot0
    obtain ⟨hkeep0, hkeept⟩ := (stackTemp 0 x.toNat s).tempNoted_keeps0 y.toNat hot1
    obtain ⟨hhbm, hregs⟩ := stackTemps_reads x.toNat y.toNat s
    have hfd : ∀ f : RegField, (stackTemps x.toNat y.toNat s).fd f = (stackTemp 1 y.toNat (stackTemp 0 x.toNat s)).fd f := fun f => by
      simp only [State.fd, hregs]
    rw [exec_stackTempRead hup hs]
    refine ⟨_, rfl, ?_, ?_, ?_⟩
    · have hlist : (stackTemps x.toNat y.toNat s).hbm.hot = (s.hbm.hot.setIfInBounds 0 hot0).setIfInBounds 1 hot1 := by
        rw [hhbm, hhbm1, State.tempNoted_hot, hhbm0, State.tempNoted_hot]
      rw [State.stackHot, hlist, hhot, hhot0 hx]
      cases hot1 <;> decide
    · rw [hfd, hfd1 _ _ (by decide), hkeep0, hfd0 _ _ (by decide), hrate0, rateCode_hot (by omega)]
    · rw [hfd, hfd1 _ _ (by decide), hkeept, hfd0 _ _ (by decide), htemp0]
  case remap =>
    intro s hruns hc hmasks hidle hops hscrub hfill
    have hfree : (!s.cmdSeen.allIdle || s.cmdSeen.dma.ops != [] || s.cmdSeen.hbm.scrub.isSome || s.cmdSeen.hbm.filling) = false := by
      have h1 : s.cmdSeen.allIdle = s.allIdle := rfl
      have h2 : s.cmdSeen.dma = s.dma := rfl
      have h3 : s.cmdSeen.hbm = s.hbm := rfl
      simp [h1, h2, h3, hidle, hops, hscrub, hfill]
    rw [exec_remap hruns, doRemap_valid (cmdSeen_noProducer hc) (fun k hk => by rw [State.hashMask_cmdSeen]; exact hmasks k hk),
      if_neg (by rw [hfree]; decide)]
    obtain ⟨hdram, hmark, hhbm, hlibs, hreg, hcache, hframe⟩ := dropLibs_beginFill _ (foldl_activateMask_eq (List.range 11) s.cmdSeen)
    have hactive : ∀ k, k < 11 → (dropLibs (beginFill ((List.range 11).foldl activateMask s.cmdSeen))).hashMask true k = s.hashMask false k :=
      fun k hk => (hashMask_dropLibs_beginFill _ k).trans ((hashMask_foldl_activateMask s.cmdSeen hk).trans (s.hashMask_cmdSeen k))
    exact ⟨_, rfl, hdram, hmark, hhbm, hactive, hlibs, hreg, fun i _ => dropLibs_chunks _ i, hcache, hframe⟩
  case invalid =>
    intro s k hruns hk hmask
    rw [exec_remap hruns, doRemap_invalid hk (by rw [State.hashMask_cmdSeen]; exact hmask)]
  case busy =>
    intro s hruns hc hmasks hbusy
    rw [exec_remap hruns, doRemap_valid (cmdSeen_noProducer hc) (fun k hk => by rw [State.hashMask_cmdSeen]; exact hmasks k hk), if_pos]
    have h1 : s.cmdSeen.allIdle = s.allIdle := rfl
    have h2 : s.cmdSeen.dma = s.dma := rfl
    have h3 : s.cmdSeen.hbm = s.hbm := rfl
    rw [h1, h2, h3]
    rcases hbusy with h | h | h | h
    · simp [h]
    · simp [h]
    · simp [Option.isSome_iff_ne_none.2 h]
    · simp [h]
  case noFill =>
    intro s bad h
    have hexec : exec (.fillDone bad) s = execFillDone bad s := rfl
    rw [hexec, execFillDone, h]
    rfl
  case filled =>
    intro s bad hready hf hh hphase
    have hframe := fillEnd_frame bad.toNat s
    have hphase' : (fillEnd bad.toNat s).prick.phase ≠ .apply := by rw [hframe]; exact hphase
    rw [exec_fillDone hf, doFillDone_unheld _ hf hh, applyResume_idle hphase']
    refine ⟨_, rfl, by rw [hframe], fun q hq => ?_, ?_, ?_⟩
    · rw [fillEnd_eq, foldl_markPc_pcFailed _ _ 64 (Nat.le_refl 64) q hq, BitVec.testBit_toNat]
    · exact hframe.trans (by rw [hframe])
    · rintro rfl
      exact fillEnd_clean s

end Sys2Proof.Machine

/-! PROOFS. Scrubs and injection (R446 to R449). -/

namespace Sys2Proof.Machine

variable {s : State}

/-! ## START of a scrub (R446) -/

/-- The span of a scrub: its base and its size. -/
abbrev State.scrubBase (s : State) : Nat := s.pair F.HBM_SCRUB_BASE_LO_ADDR F.HBM_SCRUB_BASE_HI_ADDR
abbrev State.scrubSize (s : State) : Nat := s.pair F.HBM_SCRUB_SIZE_LO_SIZE F.HBM_SCRUB_SIZE_HI_SIZE

theorem exec_scrubStart (h : s.runs) : exec .scrubStart s = .next (doScrubStart s) :=
  congrArg Host.Outcome.next (State.hostCmd_plain h doScrubStart rfl rfl)

theorem exec_scrubAbort (h : s.runs) : exec .scrubAbort s = .next (doScrubAbort s) :=
  congrArg Host.Outcome.next (State.hostCmd_plain h doScrubAbort rfl rfl)

theorem exec_scrubDone (h : s.up) : exec .scrubDone s = .next (doScrubDone s) :=
  congrArg Host.Outcome.next (State.whenReady_up h doScrubDone)

theorem doScrubStart_busy (h : s.hbm.scrub.isSome = true ∨ s.hbm.filling = true) : doScrubStart s = s.raise .MEM_SCRUB_BUSY :=
  if_pos (by simpa using h)

theorem doScrubStart_free (hs : s.hbm.scrub = none) (hf : s.hbm.filling = false) : doScrubStart s =
    if s.scrubBase % 32 ≠ 0 ∨ s.scrubSize % 32 ≠ 0 ∨ s.scrubSize = 0 ∨ s.scrubBase + s.scrubSize > dramEnd then s.raise .MEM_CONFIG_INVALID
    else if (s.slot (s.fd F.HBM_SCRUB_CFG_SLOT)).st != .free then s.raise .HST_SLOT_BUSY
    else (slotClaim (s.fd F.HBM_SCRUB_CFG_SLOT) 2 0 { s with hbm := { s.hbm with
        scrub := some ⟨s.scrubBase, s.scrubBase + s.scrubSize, s.fd F.HBM_SCRUB_CFG_SLOT, s.fb F.HBM_SCRUB_CFG_REPAIR, 0, 0, 0, none, 0, 0⟩ } }).mark
      (.produced 2 (s.fd F.HBM_SCRUB_CFG_SLOT) (s.slot (s.fd F.HBM_SCRUB_CFG_SLOT)) s.caril.measureReq s.caril.measureAbort) :=
  if_neg (by simp [hs, hf])

theorem scrubSpan_valid {base size : Nat} (hb : base % 32 = 0) (hz : size % 32 = 0) (hpos : 0 < size) (hend : base + size ≤ dramEnd) :
    ¬ (base % 32 ≠ 0 ∨ size % 32 ≠ 0 ∨ size = 0 ∨ base + size > dramEnd) := by omega

theorem slotClaim_slot {n : Nat} (h : n < 256) (source tag : Nat) (s : State) : (slotClaim n source tag s).slot n =
    { st := .busy, seq := ((s.slot n).seq + 1) % 65536, source := source, tag := tag, data := [] } :=
  State.slot_setSlot_same _ _ h

/-! ## The end of a scrub (R447, R448) -/

theorem failing_nil (hm : s.dramMark = []) (hp : s.anyPcFailed = false) (w n : Nat) : s.failing w n = [] := by
  simp [State.failing, hm, hp]

/-- The results of a scrub over n clean codewords. -/
def Scrub.clean (x : Scrub) (n : Nat) : Scrub := { x with ce := 0, ue := 0, af := 0, first := none, last := 0, count := n }

/-- A scrub over clean memory counts and repairs nothing. -/
theorem scrubOver_clean (hm : s.dramMark = []) (hp : s.anyPcFailed = false) (x : Scrub) (n : Nat) :
    scrubOver x n s = (x.clean n, { s with hbm := { s.hbm with scrub := none } }) := by
  simp only [scrubOver, failing_nil hm hp]
  simp [Scrub.clean]

theorem doScrubDone_none (h : s.hbm.scrub = none) : doScrubDone s = s := by
  simp [doScrubDone, h]

theorem doScrubAbort_none (h : s.hbm.scrub = none) : doScrubAbort s = s := by
  simp [doScrubAbort, h]

theorem doScrubDone_clean {x : Scrub} (hs : s.hbm.scrub = some x) (hm : s.dramMark = []) (hp : s.anyPcFailed = false) :
    doScrubDone s = slotFillProducer x.slot (scrubPayload (x.clean ((x.stop - x.addr) / 16)) false 0)
      { s with hbm := { s.hbm with scrub := none } } := by
  simp only [doScrubDone, hs, scrubOver_clean hm hp]

/-- An aborted scrub uses one free value for how far it came. -/
theorem doScrubAbort_clean {x : Scrub} (hs : s.hbm.scrub = some x) (hm : s.dramMark = []) (hp : s.anyPcFailed = false) :
    ∃ n, doScrubAbort s = slotFillProducer x.slot (scrubPayload (x.clean n) true 0)
      { s with hbm := { s.hbm with scrub := none }, freeCount := s.freeCount + 1 } := by
  have hover := fun n => scrubOver_clean (s := (s.free 36).2) hm hp x n
  exact ⟨(s.free 36).1 % ((x.stop - x.addr) / 16 + 1), by simp only [doScrubAbort, hs, hover]; rfl⟩

/-! ## Injection (R449) -/

theorem exec_inject (h : s.runs) (m : BitVec 2) : exec (.inject m) s = .next (doInject m.toNat s) :=
  congrArg Host.Outcome.next (State.hostCmd_plain h (doInject m.toNat) rfl rfl)

theorem exec_injectDisarm (h : s.runs) : exec .injectDisarm s = .next (doInject 0 s) :=
  congrArg Host.Outcome.next (State.hostCmd_plain h (doInject 0) rfl rfl)

theorem doInject_arms {m : Nat} (hm : m ≠ 0) (h : s.allIdle = true) : doInject m s =
    { s with hbm := { s.hbm with inject := some (m, s.pair F.HBM_INJECT_LO_ADDR F.HBM_INJECT_HI_ADDR / 16 * 16) } } := by
  simp [doInject, hm, h]

theorem doInject_busy {m : Nat} (hm : m ≠ 0) (h : s.allIdle = false) : doInject m s = s.raise .MEM_CONFIG_BUSY := by
  simp [doInject, hm, h]

/-- The check difference that an injection of a mode leaves. -/
def injectMark (m : Nat) : Nat := if m = 1 then colData 0 else if m = 2 then Nat.xor (colData 0) (colData 1) else colAddr 4

theorem writeMark_injects {whole : Bool} {m a : Nat} (h : s.hbm.inject = some (m, a)) :
    writeMark whole (a / 16) s = { s.setMark (a / 16) (injectMark m) with hbm := { s.hbm with inject := none } } := by
  simp only [writeMark, h, if_true]
  rfl

/-- A write of one whole codeword sets one check difference. -/
theorem dramStore_codeword {a : Nat} {l : List Byte} (hl : l.length = 16) (ha : a % 16 = 0) :
    ∃ whole, dramStore a l s = writeMark whole (a / 16) (s.dramPut a l) := by
  have hcount : (a + l.length + 15) / 16 - a / 16 = 1 := by omega
  refine ⟨decide (a ≤ a / 16 * 16) && decide (a / 16 * 16 + 16 ≤ a + l.length), ?_⟩
  rw [dramStore, hcount]
  rfl

/-! ## The statement -/

/-- Settles O42: a scrub by the span that it may run over (`doScrubStart_free`) and by what it finds in clean memory
(`scrubOver_clean`), an injection by the one check difference that the write of its codeword leaves. -/
theorem scrubsAndInjection : Obligations.ScrubsAndInjection := by
  unfold Obligations.ScrubsAndInjection
  refine ⟨⟨?starts, ?busy, ?empty, ?slotTaken, ?noneDone, ?done, ?noneAborted, ?aborted⟩, ?arms, ?refused, ?disarms, ?injects⟩
  case starts =>
    rintro s base size slot hruns - rfl rfl rfl hs hf hb hz hpos hend hfree
    rw [exec_scrubStart hruns, doScrubStart_free hs hf, if_neg (scrubSpan_valid hb hz hpos hend), if_neg (by simp [hfree])]
    refine ⟨_, rfl, rfl, ?_, ?_, rfl⟩
    · exact congrArg Slot.st (slotClaim_slot (s.fd_lt F.HBM_SCRUB_CFG_SLOT 0) 2 0 _)
    · exact congrArg Slot.seq (slotClaim_slot (s.fd_lt F.HBM_SCRUB_CFG_SLOT 0) 2 0 _)
  case busy =>
    intro s hruns h
    rw [exec_scrubStart hruns, doScrubStart_busy h]
  case empty =>
    intro s hruns hs hf hz
    rw [exec_scrubStart hruns, doScrubStart_free hs hf, if_pos (.inr (.inr (.inl hz)))]
  case slotTaken =>
    rintro s base size hruns rfl rfl hs hf hb hz hpos hend htaken
    rw [exec_scrubStart hruns, doScrubStart_free hs hf, if_neg (scrubSpan_valid hb hz hpos hend), if_pos (by simpa using htaken)]
  case noneDone =>
    intro s hup hs
    rw [exec_scrubDone hup, doScrubDone_none hs]
  case done =>
    intro s x hup hs hm hp hslot
    have hfilled := slotFillProducer_slot hslot (scrubPayload (x.clean ((x.stop - x.addr) / 16)) false 0) { s with hbm := { s.hbm with scrub := none } }
    rw [exec_scrubDone hup, doScrubDone_clean hs hm hp]
    refine ⟨_, rfl, ?_, by rw [hfilled], by rw [hfilled]; rfl, ?_⟩
    · rw [slotFillProducer_eq]
    · rw [slotFillProducer_eq]
  case noneAborted =>
    intro s hruns hs
    rw [exec_scrubAbort hruns, doScrubAbort_none hs]
  case aborted =>
    intro s x hruns hs hm hp hslot
    obtain ⟨n, hn⟩ := doScrubAbort_clean hs hm hp
    have hfilled := slotFillProducer_slot hslot (scrubPayload (x.clean n) true 0)
      { s with hbm := { s.hbm with scrub := none }, freeCount := s.freeCount + 1 }
    rw [exec_scrubAbort hruns, hn]
    refine ⟨_, rfl, ?_, by rw [hfilled], ?_⟩
    · rw [slotFillProducer_eq]
    · rw [slotFillProducer_eq]
  case arms =>
    intro s m hruns hm hidle
    rw [exec_inject hruns, doInject_arms (fun h => hm (BitVec.eq_of_toNat_eq h)) hidle]
  case refused =>
    intro s m hruns hm hidle
    rw [exec_inject hruns, doInject_busy (fun h => hm (BitVec.eq_of_toNat_eq h)) hidle]
  case disarms =>
    intro s c hc hruns
    rcases List.mem_pair.1 hc with rfl | rfl
    · exact exec_inject hruns 0
    · exact exec_injectDisarm hruns
  case injects =>
    intro s src a l m hup ht hw hl ha hend hf hacc hi
    have hne : l ≠ [] := by rintro rfl; simp at hl
    obtain ⟨whole, hstore⟩ := dramStore_codeword (s := admitted src.toNat s) hl ha
    have hmark := writeMark_injects (whole := whole) (s := (admitted src.toNat s).dramPut a.toNat l) hi
    rw [exec_dramWrite hup, dramRequest_write (act := false) ht hw hne (by omega) hf hacc (by exact ⟨hf, hacc⟩)]
    refine ⟨_, rfl, ?_, ?_⟩
    · exact (congrArg (fun u : State => u.hbm.inject) (hstore.trans hmark)).trans rfl
    · refine (congrArg (fun u : State => Sparse.get 0 u.dramMark (a.toNat / 16)) (hstore.trans hmark)).trans ?_
      exact (Sparse.get_set _ _ _ _ _).trans (if_pos rfl)

end Sys2Proof.Machine

/-! PROOFS. Ring commands and the release of result slots (R456, R459, R460, R462, R473, R475, R477). -/

namespace Sys2Proof.Machine

variable {s : State}

/-! ## How a ring is reached (R456) -/

/-- A command written in RUN through BAR0 with ring n selected, or through a granted page of ring n. -/
def RingReached (s : State) (page : Option (Fin 64)) (n : Fin 64) : Prop :=
  (page = none ∧ s.runs ∧ s.fd F.RING_SEL_RING = n.val) ∨ (page = some n ∧ 8 ≤ n.val ∧ s.up ∧ s.groupGranted (n.val / 8) = true)

theorem ringAccess_reached {page : Option (Fin 64)} {n : Fin 64} {r : Reg} {v : Nat} (h : RingReached s page n) (f : Nat → State → State)
    (hw : cmdWake r (BitVec.ofNat 32 v) = false) (ha : s.cmdAbsent r = false) : ringAccess page r v f s = f n.val s := by
  rcases h with ⟨rfl, hruns, hsel⟩ | ⟨rfl, hn, ⟨hready, hstate⟩, hgrant⟩
  · exact (State.hostCmd_plain hruns (fun s => f (s.fd F.RING_SEL_RING) s) hw ha).trans (by rw [hsel])
  · simp [ringAccess, hready, Nat.not_lt.2 hn, hstate, hgrant]

theorem ringAccess_ownPage {n : Fin 64} (hn : n.val < 8) (r : Reg) (v : Nat) (f : Nat → State → State) : ringAccess (some n) r v f s = s := by
  simp [ringAccess, hn]

theorem ringAccess_ungranted {n : Fin 64} (hn : 8 ≤ n.val) (hup : s.up) (hg : s.groupGranted (n.val / 8) = false) (r : Reg) (v : Nat)
    (f : Nat → State → State) : ringAccess (some n) r v f s = s.raise .HST_UNGRANTED := by
  simp [ringAccess, hup.1, hup.2, Nat.not_lt.2 hn, hg]

theorem exec_ringEnable {page : Option (Fin 64)} {n : Fin 64} (h : RingReached s page n) :
    exec (.ringEnable page) s = .next (doRingEnable n.val s) := congrArg Host.Outcome.next (ringAccess_reached h doRingEnable rfl rfl)

theorem exec_ringDisable {page : Option (Fin 64)} {n : Fin 64} (h : RingReached s page n) :
    exec (.ringDisable page) s = .next (doRingDisable n.val s) := congrArg Host.Outcome.next (ringAccess_reached h doRingDisable rfl rfl)

theorem exec_ringAbort {page : Option (Fin 64)} {n : Fin 64} (h : RingReached s page n) :
    exec (.ringAbort page) s = .next (doRingAbort n.val s) := congrArg Host.Outcome.next (ringAccess_reached h doRingAbort rfl rfl)

theorem exec_ringReset {page : Option (Fin 64)} {n : Fin 64} (h : RingReached s page n) :
    exec (.ringReset page) s = .next (doRingReset n.val s) := congrArg Host.Outcome.next (ringAccess_reached h doRingReset rfl rfl)

theorem exec_ringTailWrite {page : Option (Fin 64)} {n : Fin 64} (h : RingReached s page n) (v : BitVec 16) :
    exec (.ringTailWrite page v) s = .next (doRingTail n.val v.toNat s) :=
  congrArg Host.Outcome.next (ringAccess_reached h (fun n => doRingTail n v.toNat) rfl rfl)

/-! ## Rings -/

theorem State.ring_setRing (s : State) (n : Fin 64) (x : Ring) : (s.setRing n.val x).ring n.val = x := by
  simp [State.ring, State.setRing]

@[simp] theorem State.setRing_setRing (s : State) (n : Nat) (x y : Ring) : (s.setRing n x).setRing n y = s.setRing n y := by
  have hset : (s.dma.rings.setIfInBounds n x).setIfInBounds n y = s.dma.rings.setIfInBounds n y := by
    apply Vector.ext
    intro i hi
    simp only [Vector.getElem_setIfInBounds]
    split <;> rfl
  simp only [State.setRing, hset]

theorem State.raise_setRing (s : State) (n : Nat) (x : Ring) (c : FaultCode) : (s.setRing n x).raise c = (s.raise c).setRing n x := by
  rw [State.raise_eq (s := s.setRing n x), State.raise_eq (s := s), State.raise_fault_congr (t := s.setRing n x) (s := s) rfl]
  rfl

theorem ringSettle_inFlight {n : Nat} (h : (s.ring n).done ≠ (s.ring n).head) : ringSettle n s = s := if_neg h

/-! ## The commands (R460, R462, R473) -/

theorem doRingEnable_starts {n : Nat} (h : (s.ring n).st = .disabled ∨ (s.ring n).st = .stopped) :
    doRingEnable n s = s.setRing n { s.ring n with st := .running, stopCode := 0, disableReq := false } := by
  rcases h with h | h <;> simp [doRingEnable, h]

theorem doRingEnable_on {n : Nat} (h : (s.ring n).st = .running ∨ (s.ring n).st = .stopping) : doRingEnable n s = s := by
  rcases h with h | h <;> simp [doRingEnable, h]

/-- DISABLE of a ring that is not DISABLED asks it to stop fetching. -/
theorem doRingDisable_asks {n : Nat} (h : (s.ring n).st ≠ .disabled) :
    doRingDisable n s = ringSettle n (s.setRing n { s.ring n with st := .stopping, disableReq := true, waitSlot := false }) := by
  cases hst : (s.ring n).st with
  | disabled => exact absurd hst h
  | running => simp [doRingDisable, hst]
  | stopping => simp [doRingDisable, hst]
  | stopped => simp [doRingDisable, hst]

theorem doRingDisable_idle (n : Fin 64) (h : (s.ring n).st ≠ .disabled) (hd : (s.ring n).done = (s.ring n).head) :
    doRingDisable n s = s.setRing n { s.ring n with st := .disabled, disableReq := false, waitSlot := false } := by
  rw [doRingDisable_asks h]
  simp [ringSettle, State.ring_setRing, hd]

theorem doRingDisable_waits (n : Fin 64) (h : (s.ring n).st ≠ .disabled) (hd : (s.ring n).done ≠ (s.ring n).head) :
    doRingDisable n s = s.setRing n { s.ring n with st := .stopping, disableReq := true, waitSlot := false } := by
  rw [doRingDisable_asks h, ringSettle_inFlight (by rw [State.ring_setRing]; exact hd)]

theorem doRingReset_disabled {n : Nat} (h : (s.ring n).st = .disabled) :
    doRingReset n s = s.setRing n { s.ring n with tail := 0, head := 0, done := 0 } := by
  simp [doRingReset, h]

theorem doRingReset_busy {n : Nat} (h : (s.ring n).st ≠ .disabled) : doRingReset n s = s.raise .HST_RING_BUSY := by
  simp [doRingReset, h]

theorem State.inFlight_setRing (s : State) (n k : Nat) (x : Ring) : (s.setRing n x).inFlight k = s.inFlight k := rfl

theorem doRingAbort_idle (n : Fin 64) (h : (s.ring n).st ≠ .disabled) (hf : s.inFlight n = []) :
    doRingAbort n s = (s.setRing n { s.ring n with st := .stopped, disableReq := false, waitSlot := false }).irq n := by
  simp [doRingAbort, h, State.inFlight_setRing, hf, State.ring_setRing, ringIrq]

theorem doRingTail_fits (n : Fin 64) {v : Nat} (hv : v < 65536)
    (h : (s.ring n).st ≠ .running ∨ (v + 65536 - (s.ring n).done) % 65536 ≤ 2 ^ s.ringLog n) :
    doRingTail n v s = s.setRing n { s.ring n with tail := v } := by
  have hlog : ∀ x, (s.setRing n x).ringLog n = s.ringLog n := fun _ => rfl
  simp only [doRingTail, Nat.mod_eq_of_lt hv, hlog]
  rw [if_neg]
  rcases h with h | h
  · simp [h]
  · simp [Nat.not_lt.2 h]

theorem doRingTail_overruns (n : Fin 64) {v : Nat} (hv : v < 65536) (hst : (s.ring n).st = .running)
    (h : 2 ^ s.ringLog n < (v + 65536 - (s.ring n).done) % 65536) (hd : (s.ring n).done ≠ (s.ring n).head) :
    doRingTail n v s = (s.raise .HST_RING_OVERRUN).setRing n
      { s.ring n with tail := v, st := .stopping, stopCode := FaultCode.num .HST_RING_OVERRUN, waitSlot := false } := by
  have hlog : ∀ x, (s.setRing n x).ringLog n = s.ringLog n := fun _ => rfl
  simp only [doRingTail, Nat.mod_eq_of_lt hv, hlog]
  rw [if_pos (by simp [hst, h]), State.raise_setRing]
  simp only [ringStop, State.ring_setRing, hst]
  rw [ringSettle_inFlight (by simp only [beq_self_eq_true, if_true, State.ring_setRing]; exact hd)]
  simp

/-! ## The statement on rings -/

/-- Settles O43: each command reaches its ring (`ringAccess_reached`) and does there what R460 to R462 and R473 say. -/
theorem ringCommands : Obligations.RingCommands := by
  unfold Obligations.RingCommands
  refine ⟨?enable, ?on, ?off, ?reset, ?resetBusy, ?disable, ?disableWaits, ?abort, ?tail, ?overrun, ?ownPages, ?ungranted⟩
  case enable =>
    intro s page n h hst
    rw [exec_ringEnable h, doRingEnable_starts hst]
  case on =>
    intro s page n h hst
    rw [exec_ringEnable h, doRingEnable_on hst]
  case off =>
    intro s page n c hc h hst
    rcases List.mem_pair.1 hc with rfl | rfl
    · rw [exec_ringDisable h]; simp [doRingDisable, hst]
    · rw [exec_ringAbort h]; simp [doRingAbort, hst]
  case reset =>
    intro s page n h hst
    rw [exec_ringReset h, doRingReset_disabled hst]
  case resetBusy =>
    intro s page n h hst
    rw [exec_ringReset h, doRingReset_busy hst]
  case disable =>
    intro s page n h hst hd
    rw [exec_ringDisable h, doRingDisable_idle n hst hd]
  case disableWaits =>
    intro s page n h hst hd
    rw [exec_ringDisable h, doRingDisable_waits n hst hd]
  case abort =>
    intro s page n h hst hf
    rw [exec_ringAbort h, doRingAbort_idle n hst hf]
  case tail =>
    intro s page n v h hfit
    rw [exec_ringTailWrite h, doRingTail_fits n v.isLt hfit]
  case overrun =>
    intro s page n v h hst hover hd
    rw [exec_ringTailWrite h, doRingTail_overruns n v.isLt hst hover hd]
  case ownPages =>
    intro s n c hc hn
    have hown := fun r v f => ringAccess_ownPage (s := s) hn r v f
    simp only [List.mem_cons, List.not_mem_nil, or_false] at hc
    rcases hc with rfl | rfl | rfl | rfl <;> exact congrArg Host.Outcome.next (hown _ _ _)
  case ungranted =>
    intro s n c hc hn hup hg
    have hung := fun r v f => ringAccess_ungranted (s := s) hn hup hg r v f
    simp only [List.mem_cons, List.not_mem_nil, or_false] at hc
    rcases hc with rfl | rfl | rfl | rfl <;> exact congrArg Host.Outcome.next (hung _ _ _)

/-! ## The release of a slot (R477) -/

/-- A write to RELEASE in RUN through BAR0 with slot n selected, or through a granted page whose group holds slot n. -/
def SlotReached (s : State) (page : Option (Fin 64)) (k : Fin 32) (n : Nat) : Prop :=
  (page = none ∧ s.runs ∧ n = s.fd F.RING_SLOT_SEL_SLOT) ∨
    (∃ p : Fin 64, page = some p ∧ 8 ≤ p.val ∧ s.up ∧ s.groupGranted (p.val / 8) = true ∧ n = 32 * (p.val / 8) + k.val)

theorem exec_slotRelease {page : Option (Fin 64)} {k : Fin 32} {n : Nat} (h : SlotReached s page k n) (v : BitVec 32) :
    exec (.slotRelease page k v) s = .next (doSlotRelease n v.toNat s) := by
  have hexec : exec (.slotRelease page k v) s = .next (slotAccess page k v.toNat s) := rfl
  rw [hexec]
  rcases h with ⟨rfl, hruns, rfl⟩ | ⟨p, rfl, hp, ⟨hready, hstate⟩, hgrant, rfl⟩
  · exact congrArg Host.Outcome.next
      (State.hostCmd_plain (r := .RING_SLOT_RELEASE) (v := v.toNat) hruns (fun s => doSlotRelease (s.fd F.RING_SLOT_SEL_SLOT) v.toNat s) rfl rfl)
  · simp [slotAccess, hready, Nat.not_lt.2 hp, hstate, hgrant]

theorem doSlotRelease_frees {n v : Nat} (hst : (s.slot n).st = .ready) (hv : v = (s.slot n).seq) : doSlotRelease n v s = slotFree n s := by
  simp [doSlotRelease, hst, hv]

theorem doSlotRelease_refused {n v : Nat} (h : (s.slot n).st ≠ .ready ∨ v ≠ (s.slot n).seq) : doSlotRelease n v s = s.raise .HST_SLOT_RELEASE := by
  rcases h with h | h <;> simp [doSlotRelease, h]

theorem slotFree_slot {n : Nat} (h : n < 256) (s : State) :
    (slotFree n s).slot n = { s.slot n with st := .free, data := [], tag := 0, source := 0 } := State.slot_setSlot_same _ _ h

theorem State.slot_setSlot_ne (s : State) {n m : Nat} (x : Slot) (h : m ≠ n) : (s.setSlot n x).slot m = s.slot m := by
  simp only [State.slot, State.setSlot, Vector.getElem?_setIfInBounds, if_neg (Ne.symm h)]

/-- The words of a slot without data read 0 (Table 13-8). -/
theorem slotWord_empty {n : Nat} (h : (s.slot n).data = []) {off : Nat} (ho : 16 ≤ off) : s.slotWord n off = 0 := by
  simp [State.slotWord, show off ≠ 0 by omega, show off ≠ 4 by omega, ho, h]

/-- Settles O46: `doSlotRelease` frees the slot (`slotFree_slot`) or refuses. -/
theorem releaseFreesOnlyTheReadySlot : Obligations.ReleaseFreesOnlyTheReadySlot := by
  unfold Obligations.ReleaseFreesOnlyTheReadySlot
  refine ⟨?frees, ?refuses⟩
  case frees =>
    intro s page k v n h hn hst hv
    have hslot := slotFree_slot hn s
    rw [exec_slotRelease h, doSlotRelease_frees hst hv]
    refine ⟨_, rfl, by rw [hslot], by rw [hslot], fun w _ => ?_, fun m _ hm => State.slot_setSlot_ne s _ hm, rfl⟩
    exact slotWord_empty (by rw [hslot]) (by omega)
  case refuses =>
    intro s page k v n h hn hbad
    rw [exec_slotRelease h, doSlotRelease_refused hbad]

end Sys2Proof.Machine

/-! PROOFS. Ring operations: the channel a start takes, the bursts of a FILL, completions, grants and vectors (R457, R458, R463, R464, R467,
R474, R475, R478). -/

namespace Sys2Proof.Machine

variable {s : State}

/-! ## A start takes the lowest free channel (R463) -/

/-- A waiting NOTIFY of ring 0 to host address 8, whose channel field holds 1. -/
def strayNotify : DmaOp :=
  { ring := 0, count := 0, head := 5 :: List.replicate 15 0 ++ 8 :: List.replicate 47 0, elems := [], brk := none, started := false, chan := 1,
    off := 0, nDone := 0, mism := 0, firstMism := none, poison := false, stamp := (0, 0, 0), frame := 0, event := false, slot := none,
    result := none, completed := false }

/-- The device after reset with that operation alone. -/
def strayNotifyDev : State := { State.reset with dma := { State.reset.dma with ops := [strayNotify] } }

theorem exec_notify (n : Fin 64) (s : State) : exec (.notify n) s = .next (startOp n.val 5 s startNotify) := rfl

theorem strayNotifyDev_waiting : strayNotifyDev.waiting (0 : Fin 64).val = some strayNotify := by decide +kernel

/-- It starts on channel 0, the lowest that is free. -/
theorem strayNotifyDev_starts : (startOp 0 5 strayNotifyDev startNotify).dma.ops.map (·.chan) = [0] := by decide +kernel

/-- Refutes O44: the clause on NOTIFY leaves the operation's channel as it was, but its start puts it on the lowest free channel (R463). With
the one waiting operation's channel field at 1, the operation stands on channel 0 after the start. -/
theorem not_ringOperationsStart : ¬ Obligations.RingOperationsStart := by
  unfold Obligations.RingOperationsStart
  intro h
  obtain ⟨-, -, -, -, -, -, -, hnotify, -⟩ := h
  obtain ⟨t, hexec, -, hops, -⟩ := hnotify strayNotifyDev 0 strayNotify strayNotifyDev_waiting (by decide) rfl rfl rfl (by decide) (by decide)
  cases (exec_notify 0 strayNotifyDev).symm.trans hexec
  have hchan := strayNotifyDev_starts
  rw [show (startOp 0 5 strayNotifyDev startNotify).dma.ops = _ from hops] at hchan
  exact absurd hchan (by decide)

/-! ## Bursts of a FILL (R467, R515) -/

/-- Issuing work changes the power state alone. -/
theorem charge_eq (c u : Nat) (s : State) : charge c u s = { s with power := (charge c u s).power } := by
  unfold charge
  split <;> rfl

/-- The one operation of the host interface is o, of ring n with count c. -/
structure OnlyOp (s : State) (n : Fin 64) (c : BitVec 16) (o : DmaOp) : Prop where
  ops : s.dma.ops = [o]
  ring : o.ring = n.val
  count : o.count = c.toNat

/-- A started FILL whose current element is a good one that is not empty. -/
structure FillMoves (s : State) (n : Fin 64) (c : BitVec 16) (o : DmaOp) : Prop extends OnlyOp s n c o where
  started : o.started = true
  unended : o.result = none
  code : o.code = 2
  good : s.elemOk (n.val / 8) 2 (decide (o.nDone = 0)) o.cur = true
  some : lenOf o.cur ≠ 0
  mem : o.cur ∈ o.elems

theorem OnlyOp.setOp_ops {n : Fin 64} {c : BitVec 16} {o p : DmaOp} (h : OnlyOp s n c o) (hring : p.ring = o.ring) (hcount : p.count = o.count) :
    (s.setOp p).dma.ops = [p] := by
  simp [State.setOp, h.ops, hring, hcount]

/-- The end of an operation and a burst leave the ring and the count of the operation. -/
theorem DmaOp.finishOk_keeps (o : DmaOp) : o.finishOk.ring = o.ring ∧ o.finishOk.count = o.count := by
  unfold DmaOp.finishOk DmaOp.finish
  split <;> exact ⟨rfl, rfl⟩

theorem DmaOp.advance_keeps (o : DmaOp) (k : Nat) : (o.advance k).ring = o.ring ∧ (o.advance k).count = o.count := by
  have hend := DmaOp.finishOk_keeps { o with off := 0, elems := o.elems.drop 1, nDone := o.nDone + 1 }
  simp only [DmaOp.advance]
  split
  · exact ⟨rfl, rfl⟩
  · split
    · exact hend
    · exact ⟨rfl, rfl⟩

theorem exec_dmaBurst (n : Fin 64) (c : BitVec 16) (x y : List Byte) (r : HostReply) (s : State) :
    exec (.dmaBurst n c x y r) s = .next (doBurst n.val c.toNat x y r s) := rfl

section Fill
variable {n : Fin 64} {c : BitVec 16} {o : DmaOp} (h : FillMoves s n c o)
include h

theorem FillMoves.opcode : opcodeOf o.head = 2 := h.code

theorem FillMoves.doBurst (x y : List Byte) (r : HostReply) : doBurst n.val c.toNat x y r s = burst o x y r s := by
  simp [Machine.doBurst, h.ops, h.ring, h.count, h.started, h.unended, h.opcode, usesChain]

/-- A FILL reads nothing, so that its burst depends on the checks of what it writes and on its waits. -/
theorem FillMoves.burst (x y : List Byte) (r : HostReply) (hfault : s.burstFault o = none) :
    burst o x y r s = if s.burstWaits o then s else moveBurst o x y r (charge classDma o.chan s) := by
  have helems : o.elems ≠ [] := List.ne_nil_of_mem h.mem
  simp [Machine.burst, helems, h.ring, h.code, h.good, h.some, hfault, DmaOp.readsHost, DmaOp.readsSrc]

theorem FillMoves.burstFault_host (hhost : flagOf o.cur 3 = false) : s.burstFault o = none := by
  simp [State.burstFault, DmaOp.readsSrc, h.code, hhost]

theorem FillMoves.burstFault_dram (hdram : flagOf o.cur 3 = true) : s.burstFault o = s.burstFail (n.val / 8) o.dstAt o.burstLen true := by
  simp [State.burstFault, DmaOp.readsSrc, h.code, h.ring, hdram]

theorem FillMoves.burstWaits_host (hhost : flagOf o.cur 3 = false) (hissue : s.mayIssue classDma o.chan = true) : s.burstWaits o = false := by
  simp [State.burstWaits, DmaOp.dramReads, DmaOp.dramWrites, DmaOp.readsSrc, h.code, hhost, hissue]

theorem FillMoves.burstWaits_fill (hdram : flagOf o.cur 3 = true) (hfill : s.hbm.filling = true) : s.burstWaits o = true := by
  simp [State.burstWaits, DmaOp.dramWrites, h.code, hdram, hfill]

/-- A burst of a FILL into host memory goes to no DRAM. -/
theorem FillMoves.moveBurst_host (hhost : flagOf o.cur 3 = false) (x y : List Byte) (r : HostReply) (u : State) :
    moveBurst o x y r u = countBytes o.burstLen ((u.emit (.hostWrite o.dstAt o.constBytes)).setOp (o.advance o.burstLen)) := by
  simp [moveBurst, burstRequests, DmaOp.dramReads, DmaOp.dramWrites, DmaOp.readsSrc, h.code, hhost, putBurst]

end Fill

/-! ## Completions (R464, R475) -/

section Complete
variable {n : Fin 64} {c : BitVec 16} {o : DmaOp} {res fault : Nat} (h : OnlyOp s n c o)

theorem exec_opComplete (n : Fin 64) (c : BitVec 16) (s : State) :
    exec (.opComplete n c) s = .next (match s.inFlight n.val |>.find? (fun o => o.count == c.toNat) with
      | some o => completeOp o s
      | none => s) := rfl

include h

theorem OnlyOp.exec_opComplete (hc : o.completed = false) : exec (.opComplete n c) s = .next (completeOp o s) := by
  simp [Machine.exec_opComplete, State.inFlight, h.ops, h.ring, h.count, hc]

end Complete

/-- The device with no operation left and ring n as given. -/
def State.opsDone (s : State) (n : Nat) (x : Ring) : State :=
  { s with dma := { s.dma with ops := [], rings := s.dma.rings.setIfInBounds n x } }

theorem State.ring_opsDone (s : State) (n : Fin 64) (x : Ring) : (s.opsDone n.val x).ring n.val = x := by
  simp [State.ring, State.opsDone]

theorem State.opsDone_setRing (s : State) (n : Nat) (x y : Ring) : (s.opsDone n x).setRing n y = s.opsDone n y := by
  have hset := congrArg (·.dma.rings) (s.setRing_setRing n x y)
  simp only [State.setRing] at hset
  simp only [State.opsDone, State.setRing, hset]

/-- The result slot of an operation, if it has one, is filled. -/
def State.opFilled (s : State) (o : DmaOp) : State :=
  match o.slot with
  | some k => slotFill k (opPayload o) s
  | none => s

theorem State.opFilled_keeps (s : State) (o : DmaOp) :
    (s.opFilled o).dma.ops = s.dma.ops ∧ (s.opFilled o).dma.rings = s.dma.rings ∧ s.opFilled o = { s with dma := (s.opFilled o).dma } := by
  unfold State.opFilled
  split <;> exact ⟨rfl, rfl, rfl⟩

theorem State.ring_opFilled (s : State) (o : DmaOp) (n : Nat) : (s.opFilled o).ring n = s.ring n := by
  rw [State.ring, (s.opFilled_keeps o).2.1, State.ring]

theorem ringSettle_running {n : Nat} (hst : (s.ring n).st = .running) (hd : (s.ring n).disableReq = false) : ringSettle n s = s := by
  simp [ringSettle, hst, hd]

section Complete
variable {n : Fin 64} {c : BitVec 16} {o : DmaOp} {res fault : Nat} (h : OnlyOp s n c o)
include h

/-- The ring's one operation, completed, leaves it with DONE past it. -/
theorem OnlyOp.advanceDone (f : Nat) :
    advanceDone (f + 2) n.val (s.setOp { o with completed := true }) = s.opsDone n.val { s.ring n.val with done := (c.toNat + 1) % 65536 } := by
  have hops : (s.setOp { o with completed := true }).dma.ops = [{ o with completed := true }] := h.setOp_ops rfl rfl
  simp only [Machine.advanceDone, hops]
  simp only [List.find?_cons, List.filter_cons, h.ring, h.count, State.setRing, beq_self_eq_true, Bool.and_self, Bool.not_true,
    Bool.false_eq_true, if_true, if_false, List.filter_nil, List.find?_nil]
  rfl

theorem OnlyOp.opFilled : OnlyOp (s.opFilled o) n c o :=
  ⟨(s.opFilled_keeps o).1.trans h.ops, h.ring, h.count⟩

/-- What completion does without an interrupt: the ring stops for the results 2 to 6, and then settles. -/
theorem OnlyOp.completeOp (hres : o.result = some (res, fault)) (hirq : flagOf o.head 0 = false) :
    completeOp o s = ringSettle n.val
      (if 2 ≤ res ∧ res ≤ 6 then ringStop n.val fault ((s.opFilled o).opsDone n.val { s.ring n.val with done := (c.toNat + 1) % 65536 })
       else (s.opFilled o).opsDone n.val { s.ring n.val with done := (c.toNat + 1) % 65536 }) := by
  have hdone := h.opFilled.advanceDone 31
  rw [State.ring_opFilled] at hdone
  simp only [← hdone, Machine.completeOp, hres, hirq, h.ring]
  rfl

/-- A result that does not stop the ring lets a running ring run on. -/
theorem OnlyOp.completeOp_runs (hres : o.result = some (0, fault)) (hirq : flagOf o.head 0 = false) (hst : (s.ring n.val).st = .running)
    (hd : (s.ring n.val).disableReq = false) :
    Machine.completeOp o s = (s.opFilled o).opsDone n.val { s.ring n.val with done := (c.toNat + 1) % 65536 } := by
  rw [h.completeOp hres hirq, if_neg (by omega)]
  exact ringSettle_running (by rw [State.ring_opsDone]; exact hst) (by rw [State.ring_opsDone]; exact hd)

/-- One of the results 2 to 6 stops the ring, which rests once the rest of it has ended. -/
theorem OnlyOp.completeOp_stops (hres : o.result = some (res, fault)) (hlow : 2 ≤ res) (hhigh : res ≤ 6) (hirq : flagOf o.head 0 = false)
    (hst : (s.ring n.val).st = .running) (hmore : (c.toNat + 1) % 65536 ≠ (s.ring n.val).head) :
    Machine.completeOp o s = (s.opFilled o).opsDone n.val
      { s.ring n.val with done := (c.toNat + 1) % 65536, st := .stopping, stopCode := fault, waitSlot := false } := by
  rw [h.completeOp hres hirq, if_pos ⟨hlow, hhigh⟩]
  simp only [ringStop, State.ring_opsDone, hst, beq_self_eq_true, if_true, State.opsDone_setRing]
  exact ringSettle_inFlight (by rw [State.ring_opsDone]; exact hmore)

end Complete

/-! ## Grants and vectors (R457, R458, R478) -/

theorem exec_ringGrantWrite (h : s.runs) (v : BitVec 32) : exec (.ringGrantWrite v) s = .next (doRingGrant v.toNat s) := by
  have hplain := State.hostCmd_plain (r := .RING_GRANT) (v := v.toNat) h (doRingGrant v.toNat) rfl rfl
  rw [State.hostCmd, BitVec.ofNat_toNat, BitVec.setWidth_eq] at hplain
  exact congrArg Host.Outcome.next hplain

theorem doRingGrant_grants {v g : Nat} (hg : g = max 1 (s.fd F.RING_GRANT_SEL_GROUP)) (h : s.fb F.RING_GRANT_ENABLE g = false) :
    doRingGrant v s = (s.setFd F.RING_GRANT_ENABLE (bit v 0) g).setFd F.RING_GRANT_OPMASK (bits v 15 8) g := by
  simp [doRingGrant, ← hg, h]

theorem doRingGrant_busy {v g : Nat} (hg : g = max 1 (s.fd F.RING_GRANT_SEL_GROUP)) (h : s.fb F.RING_GRANT_ENABLE g = true)
    (hon : bit v 0 = 1) (hmask : bits v 15 8 ≠ s.fd F.RING_GRANT_OPMASK g) : doRingGrant v s = s.raise .HST_RING_BUSY := by
  simp [doRingGrant, ← hg, h, hon, hmask]

theorem exec_msixUnmask (h : s.up) (v : Fin 128) : exec (.msixUnmask v) s = .next (doUnmask v.val s) :=
  congrArg Host.Outcome.next (State.whenReady_up h (doUnmask v.val))

theorem setIfInBounds_eq_set {α : Type} {m i : Nat} (xs : Vector α m) (x : α) (hi : i < m) : xs.setIfInBounds i x = xs.set i x := by
  apply Vector.ext
  intro j hj
  simp only [Vector.getElem_setIfInBounds, Vector.getElem_set]

theorem doUnmask_pending {v : Fin 128} (h : s.dma.pend[v] = true) : doUnmask v.val s = (({ s with dma := { s.dma with
    masked := s.dma.masked.set v false, pend := s.dma.pend.set v false } } : State).emit (.msix 0 v.val)) := by
  have hp : s.dma.pend[v.val] = true := h
  simp [doUnmask, hp, setIfInBounds_eq_set]

theorem doUnmask_clear {v : Fin 128} (h : s.dma.pend[v] = false) :
    doUnmask v.val s = { s with dma := { s.dma with masked := s.dma.masked.set v false } } := by
  have hp : s.dma.pend[v.val] = false := h
  have hset : s.dma.pend.set v.val false = s.dma.pend := by rw [← hp, Vector.set_getElem_self]
  simp [doUnmask, hp, setIfInBounds_eq_set, hset]

/-- Settles O45: the burst of a FILL (`FillMoves`), the completion of the only operation (`OnlyOp`), RING_GRANT and the vectors, case by case. -/
theorem burstsCompletionsAndGrants : Obligations.BurstsCompletionsAndGrants := by
  unfold Obligations.BurstsCompletionsAndGrants
  refine ⟨?fillHost, ?fillWaits, ?noOp, ?endsOk, ?endsSlot, ?endsStop, ?grants, ?grantBusy, ?unmaskPending, ?unmaskClear⟩
  case fillHost =>
    intro s n c x y o hops hring hcount hstarted hres hcode hgood hlen hhost hmem hissue
    have h : FillMoves s n c o := ⟨⟨hops, hring, hcount⟩, hstarted, hres, hcode, hgood, hlen, hmem⟩
    obtain ⟨hr, hk⟩ := o.advance_keeps o.burstLen
    have hcharge : OnlyOp (charge classDma o.chan s) n c o := ⟨by rw [charge_eq]; exact hops, hring, hcount⟩
    rw [exec_dmaBurst, h.doBurst, h.burst _ _ _ (h.burstFault_host hhost), h.burstWaits_host hhost hissue, if_neg Bool.false_ne_true,
      h.moveBurst_host hhost, charge_eq, State.emit_hostWrite]
    exact ⟨_, rfl, rfl, h.setOp_ops hr hk, rfl, rfl⟩
  case fillWaits =>
    intro s n c x y o hops hring hcount hstarted hres hcode hgood hlen hdram hmem hfill hpass
    have h : FillMoves s n c o := ⟨⟨hops, hring, hcount⟩, hstarted, hres, hcode, hgood, hlen, hmem⟩
    rw [exec_dmaBurst, h.doBurst, h.burst _ _ _ ((h.burstFault_dram hdram).trans hpass), h.burstWaits_fill hdram hfill, if_pos rfl]
  case noOp =>
    intro s n c x y r i hi hops
    rcases List.mem_pair.1 hi with rfl | rfl
    · rw [exec_dmaBurst]; simp [doBurst, hops]
    · rw [exec_opComplete]; simp [State.inFlight, hops]
  case endsOk =>
    intro s n c o hops hring hcount hc hres hirq hst hd hslot
    have h : OnlyOp s n c o := ⟨hops, hring, hcount⟩
    have hnone : s.opFilled o = s := by rw [State.opFilled, hslot]
    rw [h.exec_opComplete hc, h.completeOp_runs hres hirq hst hd, hnone]
    exact ⟨_, rfl, rfl, State.ring_opsDone _ _ _, rfl⟩
  case endsSlot =>
    intro s n c o k hops hring hcount hc hres hirq hst hd hk hslot
    have h : OnlyOp s n c o := ⟨hops, hring, hcount⟩
    have hfill : s.opFilled o = slotFill k (opPayload o) s := by rw [State.opFilled, hslot]
    have hslotk : (slotFill k (opPayload o) s).slot k = { s.slot k with st := .ready, data := opPayload o } := State.slot_setSlot_same _ _ hk
    rw [h.exec_opComplete hc, h.completeOp_runs hres hirq hst hd, hfill]
    refine ⟨_, rfl, ?_, ?_, ?_, rfl, State.ring_opsDone _ _ _, rfl⟩
    · exact congrArg (·.st) hslotk
    · exact congrArg (·.data) hslotk
    · exact congrArg (·.seq) hslotk
  case endsStop =>
    intro s n c o r f hops hring hcount hc hres hlow hhigh hirq hst hd hslot hmore
    have h : OnlyOp s n c o := ⟨hops, hring, hcount⟩
    have hnone : s.opFilled o = s := by rw [State.opFilled, hslot]
    rw [h.exec_opComplete hc, h.completeOp_stops hres hlow hhigh hirq hst hmore, hnone]
    exact ⟨_, rfl, rfl, State.ring_opsDone _ _ _, rfl⟩
  case grants =>
    intro s v g hruns hg hen
    rw [exec_ringGrantWrite hruns, doRingGrant_grants hg hen]
  case grantBusy =>
    intro s v g hruns hg hen hon hmask
    rw [exec_ringGrantWrite hruns, doRingGrant_busy hg hen hon hmask]
  case unmaskPending =>
    intro s v hup hp
    rw [exec_msixUnmask hup, doUnmask_pending hp]
  case unmaskClear =>
    intro s v hup hp
    rw [exec_msixUnmask hup, doUnmask_clear hp]

end Sys2Proof.Machine

/-! PROOFS. The reset of a pillow whose bobbin runs a live job (R187, R486, R513). -/

namespace Sys2Proof.Machine

/-- A READY device without a stripe, its clocks running, with one pipeline on pillows 0 and 1: bobbin 0 and the reserved bobbin 8 run live
jobs, of a budget that grants the bobbins nothing, and the floor of live jobs is operating point 1. -/
def liveJobDev : State :=
  { State.reset with
    glob := { GlobalSt.reset with ready := true }
    regs := State.reset.regs.setFld F.BOB_LIVE_CFG_FLOOR_OP 0 1
    str := { Structure.safeStructure with pipes := [⟨3, 0, 0, 0⟩] }
    clock := { ClockSt.reset with islands := Vector.replicate 24 ⟨false, false, false, false, 0⟩ }
    bob := { BobSt.reset with
      units := (BobSt.reset.units.set 0 { BobUnit.empty with job := .live 0 0 }).set 8 { BobUnit.empty with job := .live 0 1, reserved := true } }
    power := { PowerSt.reset with windows := 1 } }

theorem exec_freqCheck {s : State} (h : s.up) (i : Fin 24) (khz : BitVec 21) :
    exec (.freqCheck i khz) s = .next (serviceWrap (doFreqCheck i.val khz.toNat) s) :=
  congrArg Host.Outcome.next (State.whenReady_up h _)

theorem liveJobDev_up : liveJobDev.up := by decide +kernel

/-- Every pillow is at point 0, and the clock of pillow 0 stands still. -/
theorem liveJobDev_pillow0 : liveJobDev.islandState 3 = 0 ∧
    liveJobDev.plannedKhz 3 < rabs ((((0 : BitVec 21).toNat : Nat) : Rat) - liveJobDev.plannedKhz 3) * 100 ∧ liveJobDev.point 1 = 0 := by
  decide +kernel

/-- No bobbin may take the live job that pillow 0 loses; pillow 1, which holds a reserved bobbin, rises to the floor of live jobs. -/
theorem liveJobDev_freqCheck_rises : (serviceWrap (doFreqCheck 3 0) liveJobDev).point 1 = 1 := by decide +kernel

/-- Refutes O52: the clause on a clock off its frequency lets no part of the power state change. The reset of pillow 0 of `liveJobDev` issues
its live job again (R187), which waits; while a live job is pending, a pillow with a reserved bobbin is stepped up to its floor (R513). -/
theorem not_clocksAndIslands : ¬ Obligations.ClocksAndIslands := by
  unfold Obligations.ClocksAndIslands
  intro h
  obtain ⟨-, -, -, -, -, hfreq, -⟩ := h
  obtain ⟨hon, hoff, hlow⟩ := liveJobDev_pillow0
  obtain ⟨t, hexec, -, -, -, hframe⟩ := hfreq liveJobDev 3 0 liveJobDev_up (by decide) (by decide) hon hoff
  rw [exec_freqCheck liveJobDev_up] at hexec
  cases hexec
  have hpoint := congrArg (fun t : State => t.point 1) hframe
  exact absurd (liveJobDev_freqCheck_rises.symm.trans (hpoint.trans hlow)) (by decide)

end Sys2Proof.Machine

/-! PROOFS. Power entries (R499 to R502): requests, the timers, and the ends of the entries. -/

namespace Sys2Proof.Machine

variable {s : State}

/-! ## Requests (R500, R501) -/

theorem State.startEntry_quiet (hc : s.cyc = []) (target : Nat) (t : Transit) : s.startEntry target t = (s.setTransit t).mark .hushAsked := by
  simp [State.startEntry, State.setTransit, hc]

theorem requestHush_starts (hrun : s.runs) (hc : s.cyc = []) (hok : lowestFail s.hushConds = none) (d : Bool) :
    requestHush d s = ({ s with power := { s.power with thenDormant := d, transit := .enterHush } } : State).mark .hushAsked := by
  obtain ⟨-, hstate, hnone⟩ := hrun
  have hrest : (s.power.state != .run || s.power.transit != .none) = false := by rw [hstate, hnone]; rfl
  rw [requestHush, hrest, if_neg Bool.false_ne_true, hok]
  exact State.startEntry_quiet (s := { s with power := { s.power with thenDormant := d } }) hc 1 .enterHush

theorem requestHush_refused (hrun : s.runs) {id : Nat} (hfail : lowestFail s.hushConds = some id) (d : Bool) :
    requestHush d s = entryRefused 1 id s := by
  obtain ⟨-, hstate, hnone⟩ := hrun
  simp [requestHush, hstate, hnone, hfail]

theorem requestHush_moving (h : s.power.transit ≠ .none) (d : Bool) : requestHush d s = s := by
  simp [requestHush, h]

theorem requestDormant_starts (hstate : s.power.state = .hush) (hnone : s.power.transit = .none) (hc : s.cyc = []) {smb : Bool}
    (hok : lowestFail (s.hushConds ++ s.dormantConds smb) = none) :
    requestDormant smb s = ({ s with power := { s.power with transit := .enterDormant } } : State).mark .hushAsked := by
  have hrest : (s.power.state != .hush || s.power.transit != .none) = false := by rw [hstate, hnone]; rfl
  rw [requestDormant, hrest, if_neg Bool.false_ne_true, hok]
  exact State.startEntry_quiet hc 2 .enterDormant

theorem requestDormant_refused (hstate : s.power.state = .hush) (hnone : s.power.transit = .none) {smb : Bool} {id : Nat}
    (hfail : lowestFail (s.hushConds ++ s.dormantConds smb) = some id) : requestDormant smb s = entryRefused 2 id s := by
  simp [requestDormant, hstate, hnone, hfail]

theorem requestDormant_moving (h : s.power.transit ≠ .none) (smb : Bool) : requestDormant smb s = s := by
  simp [requestDormant, h]

/-! ## The commands and the timers -/

/-- A command of POWER_CMD other than WAKE acts outside DORMANT at once. -/
theorem State.hostCmd_awake (h : s.up) {v : Nat} (f : State → State) (hw : cmdWake .POWER_CMD (BitVec.ofNat 32 v) = false) :
    s.hostCmd .POWER_CMD v f = f s := by
  obtain ⟨hready, hawake⟩ := h
  cases hstate : s.power.state with
  | run => simp [State.hostCmd, State.hostWrite, hready, hstate, hw, State.cmdAbsent]
  | hush => simp [State.hostCmd, State.hostWrite, hready, hstate, hw, State.cmdAbsent]
  | dormant => exact absurd hstate hawake

theorem exec_enterHush (h : s.up) : exec .enterHush s = .next (requestHush false s) :=
  congrArg Host.Outcome.next (State.hostCmd_awake h (doPowerCmd 1 false) rfl)

theorem exec_enterDormant (h : s.up) (smb : Bool) :
    exec (.enterDormant smb) s = .next (if s.power.state == .hush then requestDormant smb s else requestHush true s) :=
  congrArg Host.Outcome.next (State.hostCmd_awake h (doPowerCmd 2 smb) rfl)

theorem exec_hushIdleTimer (h : s.up) :
    exec .hushIdleTimer s = .next (if s.hushExpired && (lowestFail s.hushConds).isNone then requestHush false s else s) :=
  congrArg Host.Outcome.next (State.whenReady_up h _)

theorem exec_dormantIdleTimer (h : s.up) (smb : Bool) : exec (.dormantIdleTimer smb) s =
    .next (if s.dormantExpired && (lowestFail (s.hushConds ++ s.dormantConds false)).isNone then requestDormant smb s else s) :=
  congrArg Host.Outcome.next (State.whenReady_up h _)

theorem State.runs_up (h : s.runs) : s.up := ⟨h.1, by rw [h.2.1]; decide⟩

theorem State.up_of_hush (hready : s.glob.ready = true) (h : s.power.state = .hush) : s.up := ⟨hready, by rw [h]; decide⟩

/-- In RUN each request for HUSH asks for it, ENTER_DORMANT with DORMANT to follow. -/
theorem exec_asksHush (hrun : s.runs) {c : Instr} {d smb : Bool} (hc : (c = .enterHush ∧ d = false) ∨ (c = .enterDormant smb ∧ d = true)) :
    exec c s = .next (requestHush d s) := by
  have hup := State.runs_up hrun
  rcases hc with ⟨rfl, rfl⟩ | ⟨rfl, rfl⟩
  · exact exec_enterHush hup
  · rw [exec_enterDormant hup, hrun.2.1]; rfl

/-- In HUSH the command and the expired timer, while no condition fails without a sideband transaction, ask for DORMANT. -/
theorem exec_asksDormant (hready : s.glob.ready = true) (hstate : s.power.state = .hush) {c : Instr} {smb : Bool}
    (hc : c = .enterDormant smb ∨ (c = .dormantIdleTimer smb ∧ s.dormantExpired = true ∧
      lowestFail (s.hushConds ++ s.dormantConds false) = none)) :
    exec c s = .next (requestDormant smb s) := by
  have hup := State.up_of_hush hready hstate
  rcases hc with rfl | ⟨rfl, hexp, hok⟩
  · rw [exec_enterDormant hup, hstate]; rfl
  · rw [exec_dormantIdleTimer hup, hexp, hok]; rfl

/-! ## Staged values become active (R282, R299, R342, R646) -/

/-- The device with another power state and other notes of the cycle. -/
def State.withPower (s : State) (p : PowerSt) (c : List CycleEvent) : State := { s with power := p, cyc := c }

section
variable (s : State) (p : PowerSt) (c : List CycleEvent)

/-- A pass whose steps read neither the power state nor the notes of the cycle. -/
theorem foldl_withPower {α : Type} {f : State → α → State} (h : ∀ s p c a, f (s.withPower p c) a = (f s a).withPower p c) (l : List α) :
    l.foldl f (s.withPower p c) = (l.foldl f s).withPower p c :=
  List.foldl_hom (fun u : State => u.withPower p c) (fun u a => h u p c a)

theorem State.raiseN_withPower (e : FaultCode) (n : Nat) : (s.withPower p c).raiseN e n = (s.raiseN e n).withPower p c :=
  foldl_withPower s p c (fun u q d _ => by
    rw [State.raise_eq, State.raise_eq u, State.raise_fault_congr (t := u.withPower q d) (s := u) rfl]; rfl) _

/-- The copied defect map, and the copied seam tables. -/
def State.defectsCopied : State :=
  { s with plan := { s.plan with defActive := s.plan.defStaged.map (fun (e : Nat × Nat) => (e.1, judgeEntry e.2)) } }
def State.seamsCopied : State := { s with plan := { s.plan with seamActive := s.plan.seamStaged } }

theorem copyDefects_withPower : copyDefects (s.withPower p c) = (copyDefects s).withPower p c :=
  State.raiseN_withPower s.defectsCopied p c _ _

theorem copySeams_withPower : copySeams (s.withPower p c) = (copySeams s).withPower p c :=
  State.raiseN_withPower s.seamsCopied p c _ _

theorem copyTrims_withPower : copyTrims (s.withPower p c) = (copyTrims s).withPower p c := by
  simp only [copyTrims]
  rw [foldl_withPower s p c (fun _ _ _ _ => rfl)]
  rfl

theorem copyPhases_withPower : copyPhases (s.withPower p c) = (copyPhases s).withPower p c :=
  foldl_withPower s p c (fun _ _ _ _ => rfl) _

/-- Taking over what is staged reads neither the power state nor the notes of the cycle, and keeps both. -/
theorem applyStaged_withPower : applyStaged (s.withPower p c) = (applyStaged s).withPower p c := by
  simp only [applyStaged, copyDefects_withPower, copySeams_withPower, copyTrims_withPower, copyPhases_withPower]

theorem applyStaged_power : (applyStaged s).power = s.power := by
  have h := congrArg State.power (applyStaged_withPower s s.power s.cyc)
  exact h

theorem applyStaged_cyc : (applyStaged s).cyc = s.cyc := by
  have h := congrArg State.cyc (applyStaged_withPower s s.power s.cyc)
  exact h

end

/-- A lane replaced by one that sends the same. -/
theorem State.tx_setLane (s : State) (m : Nat) {l : Lane} (h : l.tx = (s.lane m).tx) (n : Nat) : ((s.setLane m l).lane n).tx = (s.lane n).tx := by
  by_cases hm : m < 18
  · rw [State.lane_setLane s l hm]
    split
    · subst n; exact h
    · rfl
  · rw [State.lane_congr (t := s.setLane m l) (s := s) (Vector.setIfInBounds_eq_of_size_le (Nat.not_lt.1 hm))]

/-- Copied trims leave what a lane sends as it was. -/
theorem copyTrims_tx (s : State) (n : Nat) : ((copyTrims s).lane n).tx = (s.lane n).tx := by
  have htaken : ∀ u : State, ({ u with caril := { u.caril with trimActive := u.caril.trimStaged } } : State).lane n = u.lane n := fun _ => rfl
  simp only [copyTrims, htaken]
  refine List.foldlRecOn (motive := fun t : State => (t.lane n).tx = (s.lane n).tx) _ _ rfl fun t ht m _ => ?_
  rw [State.tx_setLane t m]
  · exact ht
  · rfl

theorem State.raiseN_caril (s : State) (e : FaultCode) (n : Nat) : (s.raiseN e n).caril = s.caril :=
  foldl_keeps State.caril _ (fun u _ => State.raise_caril u e) _ s

theorem applyStaged_tx (s : State) (n : Nat) : ((applyStaged s).lane n).tx = (s.lane n).tx := by
  have hphases : ∀ u : State, (copyPhases u).caril = u.caril := fun u => foldl_keeps State.caril (fun v k => v.setChan k _) (fun _ _ => rfl) _ u
  have hseams : ∀ u : State, (copySeams u).caril = u.caril := fun u => State.raiseN_caril u.seamsCopied _ _
  have hdefects : ∀ u : State, (copyDefects u).caril = u.caril := fun u => State.raiseN_caril u.defectsCopied _ _
  rw [applyStaged, State.lane_congr (congrArg CarilSt.lanes (hphases _)), copyTrims_tx, State.lane_congr (congrArg CarilSt.lanes (hseams _)),
    State.lane_congr (congrArg CarilSt.lanes (hdefects _))]

/-! ## A pass over the lanes -/

/-- A pass over the lanes of the device, each step of which turns its own lane n into g of it and leaves the others, while P holds
throughout. -/
theorem lane_pass {P : State → Prop} {f : State → Nat → State} {g : Nat → Lane → Lane} (hP : ∀ u n, P u → P (f u n))
    (hf : ∀ u n m, n < 18 → P u → (f u n).lane m = if m = n then g n (u.lane n) else u.lane m) (hs : P s) {n : Nat} (hn : n < 18) :
    ((List.range 18).foldl f s).lane n = g n (s.lane n) := by
  have hpass : ∀ (l : List Nat) (u : State), l.Nodup → (∀ k ∈ l, k < 18) → P u →
      (l.foldl f u).lane n = if n ∈ l then g n (u.lane n) else u.lane n := by
    intro l
    induction l with
    | nil => intros; rfl
    | cons k l ih =>
      intro u hl hlt hu
      obtain ⟨hk, hl⟩ := List.nodup_cons.1 hl
      rw [List.foldl_cons, ih (f u k) hl (fun i hi => hlt i (List.mem_cons_of_mem _ hi)) (hP u k hu), hf u k n (hlt k List.mem_cons_self) hu]
      by_cases hnk : n = k
      · subst hnk; simp [hk]
      · simp [hnk]
  rw [hpass _ s List.nodup_range (fun _ hk => List.mem_range.1 hk) hs, if_pos (List.mem_range.2 hn)]

/-- A pass that turns each lane into g of it. -/
theorem lane_mapLanes_all (g : Lane → Lane) (s : State) {n : Nat} (hn : n < 18) :
    ((List.range 18).foldl (fun u k => u.setLane k (g (u.lane k))) s).lane n = g (s.lane n) :=
  lane_pass (P := fun _ => True) (g := fun _ => g) (fun _ _ _ => trivial) (fun u _ m hk _ => State.lane_setLane u _ hk m) trivial hn

/-- Such a pass changes nothing but lanes. -/
theorem mapLanes_eq (g : Lane → Lane) (l : List Nat) (s : State) :
    l.foldl (fun u k => u.setLane k (g (u.lane k))) s =
      { s with caril := (l.foldl (fun u k => u.setLane k (g (u.lane k))) s).caril } := by
  induction l generalizing s with
  | nil => rfl
  | cons k l ih => rw [List.foldl_cons, ih]; rfl

theorem State.laneMask_congr {t : State} {p : Lane → Bool} (h : ∀ n, p (t.lane n) = p (s.lane n)) : t.laneMask p = s.laneMask p := by
  simp only [State.laneMask, h]

/-! ## The end of the entry to HUSH (R502, Table 15-4) -/

/-- A lane whose TX sleeps. -/
def Lane.txSlept (l : Lane) : Lane := { l with tx := .sleep, wire := none }

/-- The power state in HUSH, with the mask of the lanes that sent data. -/
def PowerSt.hushed (p : PowerSt) (mask : Nat) : PowerSt :=
  { p with state := .hush, transit := .none, thenDormant := false, txData := mask, hushNs := 0, dormNs := 0 }

/-- The device as the entry to HUSH leaves it. -/
@[irreducible] def State.hushed (s : State) : State :=
  ((List.range 18).foldl (fun u k => u.setLane k (u.lane k).txSlept) (applyStaged s)).withPower
    (s.power.hushed ((applyStaged s).laneMask (fun l => l.tx == .data))) s.cyc

theorem hushEntered_eq (smb : Bool) (s : State) :
    hushEntered smb s = if s.power.thenDormant then requestDormant smb s.hushed else s.hushed := by
  have hkept : ((List.range 18).foldl (fun u k => u.setLane k (u.lane k).txSlept) (applyStaged s)).power = s.power ∧
      ((List.range 18).foldl (fun u k => u.setLane k (u.lane k).txSlept) (applyStaged s)).cyc = s.cyc := by
    rw [mapLanes_eq Lane.txSlept, applyStaged_power, applyStaged_cyc]
    exact ⟨rfl, rfl⟩
  unfold hushEntered State.hushed State.withPower PowerSt.hushed
  unfold Lane.txSlept at hkept ⊢
  simp only [hkept.1, ← hkept.2]

/-- Whether DORMANT follows makes no difference to HUSH itself. -/
theorem State.hushed_thenDormant (s : State) (d : Bool) : ({ s with power := { s.power with thenDormant := d } } : State).hushed = s.hushed := by
  have happ := applyStaged_withPower s { s.power with thenDormant := d } s.cyc
  have hmask : ∀ (u : State) p c f, (u.withPower p c).laneMask f = u.laneMask f := fun _ _ _ _ => rfl
  have htwice : ∀ (u : State) p c q e, (u.withPower p c).withPower q e = u.withPower q e := fun _ _ _ _ _ => rfl
  change applyStaged ({ s with power := { s.power with thenDormant := d } } : State) = _ at happ
  unfold State.hushed
  rw [happ, foldl_withPower _ _ _ (fun _ _ _ _ => rfl), htwice, hmask]
  rfl

theorem State.hushed_tx (s : State) {n : Nat} (hn : n < 18) : (s.hushed.lane n).tx = .sleep ∧ (s.hushed.lane n).wire = none := by
  have hpower : ∀ (u : State) p c, (u.withPower p c).lane n = u.lane n := fun _ _ _ => rfl
  rw [State.hushed, hpower, lane_mapLanes_all Lane.txSlept _ hn]
  exact ⟨rfl, rfl⟩

theorem State.hushed_txData (s : State) : s.hushed.power.txData = s.laneMask (fun l => l.tx == .data) := by
  have hmask : (applyStaged s).laneMask (fun l => l.tx == .data) = s.laneMask (fun l => l.tx == .data) :=
    State.laneMask_congr fun n => by rw [applyStaged_tx]
  have hpower : ∀ (u : State) (m : Nat) c, (u.withPower (s.power.hushed m) c).power.txData = m := fun _ _ _ => rfl
  rw [State.hushed, hpower, hmask]

theorem State.hushed_eq (s : State) :
    s.hushed = { applyStaged s with caril := s.hushed.caril, power := s.power.hushed s.hushed.power.txData } := by
  have hpower : ∀ (u : State) (x : CarilSt) p, ({ u with caril := x } : State).withPower p u.cyc = { u with caril := x, power := p } :=
    fun _ _ _ => rfl
  have hcaril : ∀ (u : State) p c, (u.withPower p c).caril = u.caril := fun _ _ _ => rfl
  have htx : ∀ (u : State) (m : Nat) c, (u.withPower (s.power.hushed m) c).power.txData = m := fun _ _ _ => rfl
  rw [State.hushed, hcaril, htx, ← hpower, ← mapLanes_eq, applyStaged_cyc]

section
variable (s)

theorem State.hushed_power : s.hushed.power = s.power.hushed s.hushed.power.txData := congrArg State.power s.hushed_eq
theorem State.hushed_state : s.hushed.power.state = .hush := congrArg PowerSt.state s.hushed_power
theorem State.hushed_transit : s.hushed.power.transit = .none := congrArg PowerSt.transit s.hushed_power
theorem State.hushed_ends : s.hushed.power.thenDormant = false := congrArg PowerSt.thenDormant s.hushed_power
theorem State.hushed_cyc : s.hushed.cyc = s.cyc := by rw [State.hushed]; rfl

end

theorem State.atNoReturn_quiet (hc : s.cyc = []) (t : Transit) : s.atNoReturn t = ([], s) := by
  simp [State.atNoReturn, hc]

theorem exec_hushEntryDone (hc : s.cyc = []) (smb : Bool) : exec (.hushEntryDone smb) s =
    .next (if s.power.transit != .enterHush || s.power.railSet.isSome then s else hushEntered smb s) := by
  have hexec : exec (.hushEntryDone smb) s = .next (doHushDone smb s) := rfl
  rw [hexec, doHushDone, State.atNoReturn_quiet hc]
  rfl

theorem exec_hushEntryDone_enters (hc : s.cyc = []) (htr : s.power.transit = .enterHush) (hrail : s.power.railSet = none) (smb : Bool) :
    exec (.hushEntryDone smb) s = .next (if s.power.thenDormant then requestDormant smb s.hushed else s.hushed) := by
  rw [exec_hushEntryDone hc, htr, hrail, ← hushEntered_eq]
  rfl

/-! ## Crossings that close (R493, R494) -/

/-- What neither the clock state nor a count of discarded words tells apart, a crossing's reset keeps. -/
theorem crossReset_keeps {β : Type} {g : State → β} (hclock : ∀ (u : State) c, g { u with clock := c } = g u)
    (hdiscard : ∀ (u : State) x n, g (u.discard x n) = g u) (i : Nat) (s0 : State) : g (crossReset i s0) = g s0 := by
  unfold crossReset
  extract_lets _ s _ drop s1 s2
  have hs : g s = g s0 := hclock s0 _
  have h1 : g s1 = g s0 := (hdiscard s _ _).trans hs
  have hdrop : ∀ u n, g (drop u n) = g u := fun u n => (hclock _ _).trans (hdiscard u _ _)
  have h2 : g s2 = g s0 := by
    simp only [s2]
    split
    · exact (hclock _ _).trans h1
    · split
      · exact (foldl_keeps g drop hdrop _ s).trans hs
      · exact h1
  split
  · exact (hclock _ _).trans ((hdiscard s2 _ _).trans h2)
  · split
    · exact (hclock _ _).trans ((hdiscard s2 _ _).trans h2)
    · exact h2

theorem State.rg_discard (s : State) (x : Fin 96) (n : Nat) {r : Reg} (hr : r ≠ .CLOCK_XING_DISCARD) (j : Nat) :
    (s.discard x n).rg r j = s.rg r j := by
  unfold State.discard
  split
  · rfl
  · exact State.rg_setFd_ne _ _ _ _ _ _ hr

theorem rg_crossReset (i : Nat) (s : State) {r : Reg} (hr : r ≠ .CLOCK_XING_DISCARD) (j : Nat) : (crossReset i s).rg r j = s.rg r j :=
  crossReset_keeps (g := fun u => u.rg r j) (fun _ _ => rfl) (fun u x n => u.rg_discard x n hr j) i s

/-- The device without its registers, its clock state and its device time. -/
def State.unclocked (s : State) : State := { s with regs := [], clock := ClockSt.reset, time := TimeSt.reset }

theorem crossReset_unclocked (i : Nat) (s : State) : (crossReset i s).unclocked = s.unclocked :=
  crossReset_keeps (g := State.unclocked) (fun _ _ => rfl) (fun u x n => by unfold State.discard; split <;> rfl) i s

/-! ## The end of the entry to DORMANT (R502, Table 15-5) -/

/-- The device as time becomes invalid and the OFF islands' crossings close. -/
@[irreducible] def State.offCrossed (s : State) : State := dormantOff.foldl (fun s i => crossReset i s) (invalidateTime s)


theorem State.rg_offCrossed (s : State) {r : Reg} (hr : r ≠ .CLOCK_XING_DISCARD) (j : Nat) : s.offCrossed.rg r j = (invalidateTime s).rg r j := by
  unfold State.offCrossed
  exact foldl_keeps (fun u : State => u.rg r j) _ (fun u i => rg_crossReset i u hr j) _ _

theorem invalidateTime_unarmed (h : s.Unarmed) : invalidateTime s = s.servoCleared.ppsLow := by
  rw [invalidateTime_eq, disarmAll_unarmed fun k hk => (s.servoCleared_armed k).trans (h k hk)]

theorem State.servoCleared_unclocked (s : State) : s.servoCleared.ppsLow.unclocked = s.unclocked := by
  have hlow : ∀ u : State, u.ppsLow.unclocked = u.unclocked := fun _ => rfl
  have hfd : ∀ (u : State) x v, (u.setFd x v).unclocked = u.unclocked := fun _ _ _ => rfl
  have hrg : ∀ (u : State) r w, (u.setRg r w).unclocked = u.unclocked := fun _ _ _ => rfl
  rw [hlow, State.servoCleared, hrg, hrg, hfd, hfd]

theorem State.offCrossed_unclocked (h : s.Unarmed) : s.offCrossed.unclocked = s.unclocked := by
  unfold State.offCrossed
  rw [foldl_keeps State.unclocked _ (fun u i => crossReset_unclocked i u), invalidateTime_unarmed h, State.servoCleared_unclocked]

/-- The raisings of CLK_PEER_RESET of the islands that lose power. -/
theorem foldl_raise_eq (l : List Nat) (c : FaultCode) (s : State) :
    l.foldl (fun u _ => u.raise c) s = { s with fault := (l.foldl (fun u _ => u.raise c) s).fault } := by
  induction l generalizing s with
  | nil => rfl
  | cons k l ih =>
    have hraise : ∀ x : FaultSt, ({ s.raise c with fault := x } : State) = { s with fault := x } := fun x => by rw [State.raise_eq]
    rw [List.foldl_cons, ih (s.raise c), hraise]

theorem foldl_raise_fault (l : List Nat) (c : FaultCode) {s t : State} (h : t.fault = s.fault) :
    (l.foldl (fun u _ => u.raise c) t).fault = (l.foldl (fun u _ => u.raise c) s).fault := by
  induction l generalizing s t with
  | nil => exact h
  | cons k l ih => exact ih (State.raise_fault_congr h c)

/-- The device with CLK_PEER_RESET raised for each of the islands that lose power. -/
@[irreducible] def State.powerLost (s : State) : State := s.losesPower.foldl (fun u _ => u.raise .CLK_PEER_RESET) s.offCrossed

/-- Without what lay in the OFF islands: motif cache, stage logic, cadence chain and links. -/
def State.offLost (s : State) : State :=
  { s with
    bob := { s.bob with cache := [] }
    stage := { StageSt.reset with met := s.stage.met.map MetCh.afterDormant, epoch := s.stage.epoch, spSeq := s.stage.spSeq }
    cad := CadSt.reset
    net := { s.net with link := 0 } }

/-- A lane that sleeps both ways. -/
def Lane.slept (l : Lane) : Lane := { l with tx := .sleep, rx := .sleep, echoOk := false, wire := none }

/-- The power state in DORMANT, with the mask of the RX lanes that were awake. -/
def PowerSt.slept (p : PowerSt) (mask : Nat) : PowerSt := { p with state := .dormant, transit := .none, rxAwake := mask, hushNs := 0, dormNs := 0 }

/-- Every lane sleeps, and DRAM refreshes itself. -/
@[irreducible] def State.slept (s : State) : State :=
  { (List.range 18).foldl (fun u k => u.setLane k (u.lane k).slept) s with
    hbm := { s.hbm with selfRefresh := true }, power := s.power.slept (s.laneMask (fun l => l.rx != .sleep)) }

theorem dormantLoss_eq (s : State) : dormantLoss s = s.powerLost.offLost := by
  unfold dormantLoss State.powerLost State.offCrossed State.offLost
  rfl

theorem exec_dormantEntryDone (hc : s.cyc = []) : exec .dormantEntryDone s =
    .next (if s.power.transit != .enterDormant then s else s.powerLost.offLost.slept) := by
  have hexec : exec .dormantEntryDone s = .next (doDormantDone s) := rfl
  have hkept : ∀ u : State, ((List.range 18).foldl (fun u k => u.setLane k (u.lane k).slept) u).hbm = u.hbm ∧
      ((List.range 18).foldl (fun u k => u.setLane k (u.lane k).slept) u).power = u.power := fun u => by
    rw [mapLanes_eq Lane.slept]; exact ⟨rfl, rfl⟩
  rw [hexec, doDormantDone, State.atNoReturn_quiet hc, ← dormantLoss_eq]
  unfold State.slept PowerSt.slept
  unfold Lane.slept at hkept ⊢
  simp only [(hkept _).1, (hkept _).2]
  rfl

theorem State.slept_eq (s : State) : s.slept = { s with
    caril := s.slept.caril, hbm := { s.hbm with selfRefresh := true }, power := s.power.slept (s.laneMask (fun l => l.rx != .sleep)) } := by
  have hset : ∀ (x : CarilSt) b p, ({ ({ s with caril := x } : State) with hbm := b, power := p } : State).caril = x := fun _ _ _ => rfl
  rw [State.slept, mapLanes_eq Lane.slept, hset]

theorem State.slept_lane (s : State) {n : Nat} (hn : n < 18) : s.slept.lane n = (s.lane n).slept := by
  have hrest : ∀ (u : State) b p, ({ u with hbm := b, power := p } : State).lane n = u.lane n := fun _ _ _ => rfl
  rw [State.slept, hrest, lane_mapLanes_all Lane.slept _ hn]

section
variable (h : s.Unarmed)
include h

/-- What the loss of power and of device time changes, the other islands apart. -/
theorem State.powerLost_eq : s.powerLost = { s with
    regs := s.powerLost.regs, clock := s.powerLost.clock, time := s.powerLost.time, fault := s.powerLost.fault } := by
  have hparts : ∀ o r : State, r = { o with fault := r.fault } → o.unclocked = s.unclocked →
      r = { s with regs := r.regs, clock := r.clock, time := r.time, fault := r.fault } := fun o r hr ho => by
    have hkept : r.unclocked = { o.unclocked with fault := r.fault } := by rw [hr]; rfl
    rw [ho] at hkept
    exact congrArg (fun u : State => ({ u with regs := r.regs, clock := r.clock, time := r.time } : State)) hkept
  exact hparts s.offCrossed s.powerLost (by unfold State.powerLost; exact foldl_raise_eq _ _ _) (State.offCrossed_unclocked h)

theorem State.powerLost_fault : s.powerLost.fault = (s.losesPower.foldl (fun u _ => u.raise .CLK_PEER_RESET) s).fault := by
  unfold State.powerLost
  have hkept : ∀ u : State, u.unclocked.fault = u.fault := fun _ => rfl
  have hoff := congrArg State.fault (State.offCrossed_unclocked h)
  rw [hkept, hkept] at hoff
  exact foldl_raise_fault _ _ hoff

theorem State.powerLost_timeValid : s.powerLost.timeValid = false := by
  have hraised : s.powerLost.rg .TIME_STATUS 0 = s.offCrossed.rg .TIME_STATUS 0 := by
    unfold State.powerLost
    exact foldl_keeps (fun u : State => u.rg .TIME_STATUS 0) _ (fun u _ => u.rg_raise _ _ _) _ _
  have hrg : s.powerLost.rg .TIME_STATUS 0 = s.servoCleared.rg .TIME_STATUS 0 := by
    rw [hraised, s.rg_offCrossed (by decide), invalidateTime_unarmed h, State.rg_ppsLow]
  have hfd : s.powerLost.fd F.TIME_STATUS_VALID = s.servoCleared.fd F.TIME_STATUS_VALID :=
    congrArg (fun w : Word => bits w.toNat F.TIME_STATUS_VALID.hi F.TIME_STATUS_VALID.lo) hrg
  rw [State.timeValid, State.fb_eq_fd, hfd, s.servoCleared_valid]
  rfl

end

/-- What the end of the entry to DORMANT leaves alone. -/
theorem State.dormant_frame {r t : State} {regs : RegFile} {clock : ClockSt} {time : TimeSt} {fault : FaultSt} {caril : CarilSt} {p : PowerSt}
    (hr : r = { s with regs := regs, clock := clock, time := time, fault := fault })
    (ht : t = { r.offLost with caril := caril, hbm := { r.offLost.hbm with selfRefresh := true }, power := p }) :
    t = { s with
      regs := t.regs, time := t.time, stage := t.stage, caril := t.caril, clock := t.clock, cad := CadSt.reset, fault := t.fault, power := p
      bob := { s.bob with cache := [] }, net := { s.net with link := 0 }, hbm := { s.hbm with selfRefresh := true } } := by
  subst hr ht
  rfl

/-! ## The statement on entries -/

/-- Settles O49: `requestHush` and `requestDormant` start an entry or refuse it, and `State.hushed` and `State.slept` are the ends of the
entries. -/
theorem powerEntries : Obligations.PowerEntries := by
  unfold Obligations.PowerEntries
  refine ⟨?startsHush, ?refusesHush, ?startsDormant, ?refusesDormant, ?moving, ?hushTimer, ?dormantTimer, ?noHush, ?hush, ?thenDormant, ?thenRefused,
    ?noDormant, ?dormant⟩
  case startsHush =>
    intro s c d smb hrun hcyc hok hc
    have hexec : exec c s = .next (requestHush d s) := by
      rcases hc with hc | hc | ⟨rfl, rfl, hexp⟩
      · exact exec_asksHush (smb := smb) hrun (.inl hc)
      · exact exec_asksHush hrun (.inr hc)
      · rw [exec_hushIdleTimer (State.runs_up hrun), hexp, hok]; rfl
    rw [hexec, requestHush_starts hrun hcyc hok]
    exact ⟨_, rfl, rfl⟩
  case refusesHush =>
    intro s id c smb hrun hfail hc
    have hask : ∃ d, exec c s = .next (requestHush d s) := by
      rcases hc with rfl | rfl
      · exact ⟨false, exec_asksHush (smb := smb) hrun (.inl ⟨rfl, rfl⟩)⟩
      · exact ⟨true, exec_asksHush hrun (.inr ⟨rfl, rfl⟩)⟩
    obtain ⟨d, hexec⟩ := hask
    rw [hexec, requestHush_refused hrun hfail, entryRefused]
  case startsDormant =>
    intro s smb c hready hstate hnone hcyc hok hc
    rw [exec_asksDormant hready hstate hc, requestDormant_starts hstate hnone hcyc hok]
    exact ⟨_, rfl, rfl⟩
  case refusesDormant =>
    intro s smb c id hready hstate hnone hfail hc
    rw [exec_asksDormant hready hstate hc, requestDormant_refused hstate hnone hfail, entryRefused]
  case moving =>
    intro s smb c hup htr hc
    rcases hc with rfl | rfl
    · rw [exec_enterHush hup, requestHush_moving htr]
    · rw [exec_enterDormant hup, requestDormant_moving htr, requestHush_moving htr, ite_self]
  case hushTimer =>
    intro s hup hoff
    rw [exec_hushIdleTimer hup]
    rcases hoff with hoff | hoff
    · rw [hoff]; rfl
    · rw [← Option.not_isSome, hoff, Bool.not_true, Bool.and_false, if_neg Bool.false_ne_true]
  case dormantTimer =>
    intro s smb hup hoff
    rw [exec_dormantIdleTimer hup]
    rcases hoff with hoff | hoff
    · rw [hoff]; rfl
    · rw [← Option.not_isSome, hoff, Bool.not_true, Bool.and_false, if_neg Bool.false_ne_true]
  case noHush =>
    intro s smb hcyc hoff
    rw [exec_hushEntryDone hcyc]
    rcases hoff with hoff | hoff
    · rw [(bne_iff_ne).2 hoff]; rfl
    · rw [hoff, Bool.or_true, if_pos rfl]
  case hush =>
    intro s smb hcyc htr hrail hthen
    rw [exec_hushEntryDone_enters hcyc htr hrail, hthen, if_neg Bool.false_ne_true]
    exact ⟨_, rfl, s.hushed_state, s.hushed_transit, s.hushed_ends, s.hushed_txData, fun n hn => s.hushed_tx hn, s.hushed_eq⟩
  case thenDormant =>
    intro s u smb hcyc htr hrail hthen hu hok
    have hreach := exec_hushEntryDone_enters (s := { s with power := { s.power with thenDormant := false } }) hcyc htr hrail smb
    rw [if_neg Bool.false_ne_true, State.hushed_thenDormant] at hreach
    cases hu.symm.trans hreach
    rw [exec_hushEntryDone_enters hcyc htr hrail, if_pos hthen,
      requestDormant_starts s.hushed_state s.hushed_transit (s.hushed_cyc.trans hcyc) hok]
    exact ⟨_, rfl, rfl⟩
  case thenRefused =>
    intro s u smb id hcyc htr hrail hthen hu hfail
    have hreach := exec_hushEntryDone_enters (s := { s with power := { s.power with thenDormant := false } }) hcyc htr hrail smb
    rw [if_neg Bool.false_ne_true, State.hushed_thenDormant] at hreach
    cases hu.symm.trans hreach
    rw [exec_hushEntryDone_enters hcyc htr hrail, if_pos hthen, requestDormant_refused s.hushed_state s.hushed_transit hfail, entryRefused]
  case noDormant =>
    intro s hcyc htr
    rw [exec_dormantEntryDone hcyc, (bne_iff_ne).2 htr]
    rfl
  case dormant =>
    intro s hcyc htr hunarmed
    have hlost := State.powerLost_eq hunarmed
    rw [exec_dormantEntryDone hcyc, htr, if_neg (by decide)]
    have hlane : ∀ n, s.powerLost.offLost.lane n = s.lane n := fun n => State.lane_congr (by rw [hlost]; rfl) n
    have hmask : s.powerLost.offLost.laneMask (fun l => l.rx != .sleep) = s.laneMask (fun l => l.rx != .sleep) :=
      State.laneMask_congr fun n => by rw [hlane n]
    have hpower : s.powerLost.offLost.power = s.power := by rw [hlost]; rfl
    have hslept := s.powerLost.offLost.slept_eq
    rw [hmask, hpower] at hslept
    have hstate : s.powerLost.offLost.slept.power = s.power.slept (s.laneMask fun l => l.rx != .sleep) := congrArg State.power hslept
    refine ⟨_, rfl, ?_, ?_, ?_, ?_, ?_, ?_, ?_, ?_⟩
    · rw [hstate]; rfl
    · rw [hstate]; rfl
    · rw [hslept]; exact State.powerLost_timeValid hunarmed
    · rw [hstate]; rfl
    · rw [hstate]; rfl
    · rw [hslept]; exact State.powerLost_fault hunarmed
    · intro n hn
      rw [State.slept_lane _ hn]
      exact ⟨rfl, rfl, rfl⟩
    · rw [hstate]
      exact State.dormant_frame hlost hslept

end Sys2Proof.Machine

/-! PROOFS. Wake events and the exit to RUN (R499, R503 to R506). -/

namespace Sys2Proof.Machine

variable {s : State}

/-! ## POWER_WAKE_STATUS (R503) -/

/-- Setting bits of the low byte of a word. -/
theorem setFld_lor (w : Word) {m : Nat} (h : m < 256) : setFld w 7 0 (Nat.lor (bits w.toNat 7 0) m) = w ||| BitVec.ofNat 32 m := by
  refine BitVec.eq_of_getLsbD_eq fun i hi => ?_
  have hm : ∀ j, 8 ≤ j → m.testBit j = false := fun j hj =>
    Nat.testBit_lt_two_pow (Nat.lt_of_lt_of_le (m := 2 ^ 8) h (Nat.pow_le_pow_right (n := 2) (by omega) hj))
  have hor : ∀ j, (Nat.lor (bits w.toNat 7 0) m).testBit j = ((bits w.toNat 7 0).testBit j || m.testBit j) := fun j => Nat.testBit_or _ _ _
  rw [getLsbD_setFld _ _ _ _ _ hi, hor, testBit_bits, BitVec.getLsbD_or, BitVec.getLsbD_ofNat, BitVec.testBit_toNat]
  by_cases h8 : i < 8
  · simp [h8, hi]
  · simp [h8, hm i (Nat.not_lt.1 h8)]

/-- A word put over another at the same index. -/
theorem Sparse.put_put {α : Type} (t : Sparse α) (k : Nat) (v w : α) : Sparse.put (Sparse.put t k v) k w = Sparse.put t k w := by
  induction t with
  | nil => simp [Sparse.put]
  | cons a t ih =>
    obtain ⟨i, x⟩ := a
    by_cases hlt : k < i
    · simp [Sparse.put, hlt]
    · by_cases heq : k = i
      · simp [Sparse.put, heq]
      · simp [Sparse.put, hlt, heq, ih]

/-- The wake events of the mask m are latched. -/
def State.latched (s : State) (m : Nat) : State := s.setRg .POWER_WAKE_STATUS (s.rg .POWER_WAKE_STATUS ||| BitVec.ofNat 32 m)

theorem State.setFlag_wake (s : State) {m : Nat} (h : m < 256) : s.setFlag F.POWER_WAKE_STATUS_SRC m =
    (s.latched m).mark (.bitsSet .POWER_WAKE_STATUS 0 (BitVec.ofNat 32 (m * 2 ^ 0))) := by
  have hset : s.setFd F.POWER_WAKE_STATUS_SRC (Nat.lor (s.fd F.POWER_WAKE_STATUS_SRC) m) = s.latched m :=
    congrArg (fun w : Word => s.setRg .POWER_WAKE_STATUS w) (setFld_lor _ h)
  rw [State.setFlag, hset]
  rfl

theorem setRg_wake_twice (s : State) {v w : Word} (hv : v ≠ 0) (hw : w ≠ 0) :
    (s.setRg .POWER_WAKE_STATUS v).setRg .POWER_WAKE_STATUS w = s.setRg .POWER_WAKE_STATUS w := by
  have hreset : Reg.reset .POWER_WAKE_STATUS (0 % 65536) = 0 := by decide
  simp only [State.setRg, RegFile.set, hreset, if_neg hv, if_neg hw, Sparse.put_put]

/-- Two masks latched one after the other. -/
theorem State.latched_latched (s : State) {m k : Nat} (hm : BitVec.ofNat 32 m ≠ 0) :
    (s.latched m).latched k = s.setRg .POWER_WAKE_STATUS (s.rg .POWER_WAKE_STATUS ||| BitVec.ofNat 32 m ||| BitVec.ofNat 32 k) := by
  have hor : s.rg .POWER_WAKE_STATUS ||| BitVec.ofNat 32 m ≠ 0 := fun e => hm (BitVec.or_eq_zero_iff.1 e).2
  rw [State.latched, State.latched, State.rg_setRg_same, setRg_wake_twice s hor fun e => hor (BitVec.or_eq_zero_iff.1 e).1]

/-! ## Wake events (R503 to R506) -/

/-- The state in which wake source src has been latched and noted. -/
def State.woken (s : State) (src : Nat) : State := (s.setFlag F.POWER_WAKE_STATUS_SRC (2 ^ src)).mark (.woke src)

theorem State.woken_eq (s : State) {src : Nat} (h : src < 8) :
    ∃ c, s.woken src = { s.latched (2 ^ src) with cyc := c } := by
  rw [State.woken, State.setFlag_wake s (Nat.pow_lt_pow_right (by decide) h)]
  exact ⟨_, rfl⟩

theorem State.wake_on (s : State) {src : Nat} (h : src < 8) (hon : s.wakeOn src = true) : s.wake src =
    (match s.power.state, s.power.transit with
    | _, .enterHush => if src == 0 || src == 2 then (s.woken src).abortEntry 1 src else s.woken src
    | _, .enterDormant =>
      if src == 0 || src == 2 then ((s.woken src).abortEntry 2 src).setTransit .exitHush else (s.woken src).abortEntry 2 src
    | .hush, .none => if src == 0 || src == 2 then (s.woken src).setTransit .exitHush else s.woken src
    | .dormant, .none => (s.woken src).setTransit .exitDormant
    | _, _ => s.woken src) := by
  have hgo : (!(s.wakeOn src) || decide (src > 7)) = false := by simp [hon]; omega
  rw [State.wake, hgo, if_neg Bool.false_ne_true]
  rfl

theorem State.wake_off (s : State) {src : Nat} (hoff : s.wakeOn src = false) : s.wake src = s := by
  simp [State.wake, hoff]

theorem exec_wakeEvent (src : Fin 8) (s : State) :
    exec (.wakeEvent src) s = .next (if src.val = 1 && s.power.state != .dormant then s else s.wake src.val) := rfl

/-- Outside DORMANT the PCIE source is no event. -/
theorem exec_wakeEvent_wakes {src : Fin 8} (h : src.val ≠ 1 ∨ s.power.state = .dormant) : exec (.wakeEvent src) s = .next (s.wake src.val) := by
  rw [exec_wakeEvent]
  rcases h with h | h <;> simp [h]

/-- An entry of target `target` that source src aborts. -/
theorem State.abortEntry_eq (s : State) (target src : Nat) : ∃ c, s.abortEntry target src =
    { (((s.bump F.POWER_ABORT_COUNT_COUNT).setFd F.POWER_LAST_REFUSAL_REFUSER 14).setFd F.POWER_LAST_REFUSAL_TARGET target).setFd
        F.POWER_LAST_REFUSAL_WAKE_SRC (2 ^ src) with power := { s.power with transit := .none, thenDormant := false }, cyc := c } := ⟨_, rfl⟩

/-! ## The command WAKE (R505) -/

theorem exec_wake (s : State) : exec .wake s = .next (s.hostWrite .POWER_CMD 0 3#32 (doPowerCmd 3 false)) := rfl

theorem doPowerCmd_wake (smb : Bool) (s : State) : doPowerCmd 3 smb s = s := rfl

/-- The device with a write to POWER_CMD held. -/
def State.holdsWake (s : State) : State := { s with power := { s.power with held := s.power.held ++ [(Reg.off .POWER_CMD, 3#32)] } }

theorem exec_wake_hush (hready : s.glob.ready = true) (h : s.power.state = .hush) : exec .wake s = .next (s.holdsWake.wake 0) := by
  rw [exec_wake, State.hostWrite, hready, h]
  rfl

theorem exec_wake_dormant (hready : s.glob.ready = true) (h : s.power.state = .dormant) :
    exec .wake s = .next ((s.holdsWake.wake 1).wake 0) := by
  rw [exec_wake, State.hostWrite, hready, h]
  rfl

/-! ## The exit to RUN (R505, Tables 15-7, 15-8) -/

theorem exec_exitDone (hready : s.glob.ready = true) : exec .exitDone s = .next (exitDone s) :=
  congrArg Host.Outcome.next (State.whenUp_ready hready exitDone)

theorem exitDone_hush (h : s.power.transit = .exitHush) : exitDone s = performHeld (hushExited s) := by
  rw [exitDone, h]

theorem exitDone_dormant (h : s.power.transit = .exitDormant) : exitDone s = performHeld (dormantExited s) := by
  rw [exitDone, h]

/-- The device with other held writes. -/
def State.withHeld (s : State) (l : List (Nat × Word)) : State := { s with power := { s.power with held := l } }

/-- Lane n is in DATA. -/
def State.dataLane (s : State) (n : Nat) : State := s.setLane n ((s.lane n).inData s.now)

theorem txData_eq (n : Nat) (s : State) : txData n s =
    if (s.dataLane n).generatorOn && (s.native || s.str.safe) then (s.dataLane n).emit (.hardDamp n) else s.dataLane n := by
  unfold txData State.dataLane Lane.inData
  rfl

theorem txData_withHeld (n : Nat) (s : State) (l : List (Nat × Word)) : txData n (s.withHeld l) = (txData n s).withHeld l := by
  have hemit : ∀ (u : State) o, (u.withHeld l).emit o = (u.emit o).withHeld l := fun u o => by
    have hdrives : (u.withHeld l).glob = u.glob := rfl
    simp only [State.emit, hdrives]
    split <;> rfl
  have hlane : (s.withHeld l).dataLane n = (s.dataLane n).withHeld l := rfl
  have hgen : ∀ u : State, (u.withHeld l).generatorOn = u.generatorOn := fun _ => rfl
  have huse : (s.withHeld l).native = s.native ∧ (s.withHeld l).str = s.str := ⟨rfl, rfl⟩
  rw [txData_eq, txData_eq, hlane, hgen, huse.1, huse.2, hemit]
  split <;> rfl

theorem txData_caril_out (n : Nat) (s : State) : txData n s = { s with caril := (txData n s).caril, out := (txData n s).out } := by
  rw [txData_eq]
  split
  · rw [State.emit_eq]; rfl
  · rfl

theorem lane_txData (s : State) {n : Nat} (hn : n < 18) (m : Nat) :
    (txData n s).lane m = if m = n then (s.lane n).inData s.now else s.lane m := by
  rw [← State.lane_setLane s _ hn, ← State.dataLane, txData_eq]
  split
  · exact State.lane_congr (by rw [State.emit_caril]) m
  · rfl

/-- The step of the exit from HUSH at lane n. -/
def dataAgain (s : State) (n : Nat) : State := if bit s.power.txData n = 1 then txData n s else s

theorem dataAgain_withHeld (s : State) (n : Nat) (l : List (Nat × Word)) : dataAgain (s.withHeld l) n = (dataAgain s n).withHeld l := by
  have hpower : (s.withHeld l).power.txData = s.power.txData := rfl
  rw [dataAgain, dataAgain, hpower, txData_withHeld]
  split <;> rfl

theorem dataAgain_caril_out (s : State) (n : Nat) : dataAgain s n = { s with caril := (dataAgain s n).caril, out := (dataAgain s n).out } := by
  unfold dataAgain
  split
  · exact txData_caril_out n s
  · rfl

/-- RUN again, from HUSH. -/
def State.runsAgain (s : State) : State := { s with power := { s.power with state := .run, transit := .none, hushNs := 0 } }

theorem hushExited_eq (s : State) : hushExited s = (List.range 18).foldl dataAgain s.runsAgain := rfl

theorem lane_hushExited (s : State) {n : Nat} (hn : n < 18) :
    (hushExited s).lane n = if bit s.power.txData n = 1 then (s.lane n).inData s.now else s.lane n := by
  have hkeeps : ∀ u k, (u.power = s.runsAgain.power ∧ u.now = s.now) → ((dataAgain u k).power = s.runsAgain.power ∧ (dataAgain u k).now = s.now) :=
    fun u k h => by rw [dataAgain_caril_out]; exact h
  have hstep : ∀ u k m, k < 18 → (u.power = s.runsAgain.power ∧ u.now = s.now) → (dataAgain u k).lane m =
      if m = k then (if bit s.power.txData k = 1 then (u.lane k).inData s.now else u.lane k) else u.lane m := by
    rintro u k m hk ⟨hpower, hnow⟩
    have htx : u.power.txData = s.power.txData := by rw [hpower]; rfl
    rw [dataAgain, htx]
    split
    · rw [lane_txData u hk, hnow]
    · split
      · subst m; rfl
      · rfl
  rw [hushExited_eq]
  exact lane_pass (g := fun k l => if bit s.power.txData k = 1 then l.inData s.now else l) hkeeps hstep ⟨rfl, rfl⟩ hn

theorem hushExited_frame (s : State) : hushExited s = { s.runsAgain with caril := (hushExited s).caril, out := (hushExited s).out } := by
  have hfold : ∀ (l : List Nat) (u : State),
      l.foldl dataAgain u = { u with caril := (l.foldl dataAgain u).caril, out := (l.foldl dataAgain u).out } := by
    intro l
    induction l with
    | nil => intro u; rfl
    | cons k l ih =>
      intro u
      have hk : ∀ c o, ({ dataAgain u k with caril := c, out := o } : State) = { u with caril := c, out := o } := fun c o => by
        rw [dataAgain_caril_out]
      rw [List.foldl_cons, ih (dataAgain u k), hk]
  exact hfold _ _

theorem hushExited_withHeld (s : State) (l : List (Nat × Word)) : hushExited (s.withHeld l) = (hushExited s).withHeld l := by
  have hruns : (s.withHeld l).runsAgain = s.runsAgain.withHeld l := rfl
  rw [hushExited_eq, hushExited_eq, hruns]
  exact List.foldl_hom (fun u : State => u.withHeld l) (fun u k => dataAgain_withHeld u k l)

/-- A sleeping TX wakes. -/
def Lane.txWoken (l : Lane) (now : Nat) : Lane := if l.tx == .sleep then { l with tx := .waking, txWakeAt := now } else l

/-- A sleeping RX wakes. -/
def Lane.rxWoken (l : Lane) (now : Nat) : Lane := if l.rx == .sleep then { l with rx := .acquire, echoFrom := now } else l

theorem wakeTx_eq (n : Nat) (s : State) : wakeTx n s = s.setLane n ((s.lane n).txWoken s.now) := by
  unfold wakeTx Lane.txWoken
  split
  · rfl
  · rw [State.setLane_lane]

theorem wakeRx_eq (n : Nat) (s : State) : wakeRx n s = s.setLane n ((s.lane n).rxWoken s.now) := by
  unfold wakeRx Lane.rxWoken
  split
  · rfl
  · rw [State.setLane_lane]

/-- Lane n as the exit from DORMANT wakes it. -/
def Lane.exited (l : Lane) (tx rx : Bool) (now : Nat) : Lane :=
  let l1 := if tx then l.txWoken now else l
  if rx then l1.rxWoken now else l1

theorem Lane.exited_tx {l : Lane} (h : l.tx = .sleep) (rx : Bool) (now : Nat) :
    (l.exited true rx now).tx = .waking ∧ (l.exited true rx now).txWakeAt = now := by
  have hrx : ∀ m : Lane, (m.rxWoken now).tx = m.tx ∧ (m.rxWoken now).txWakeAt = m.txWakeAt := fun m => by
    unfold Lane.rxWoken
    split <;> exact ⟨rfl, rfl⟩
  have htx : l.txWoken now = { l with tx := .waking, txWakeAt := now } := by rw [Lane.txWoken, h]; rfl
  cases rx
  · simp [Lane.exited, htx]
  · simp [Lane.exited, htx, hrx]

theorem Lane.exited_rx {l : Lane} (h : l.rx = .sleep) (tx : Bool) (now : Nat) : (l.exited tx true now).rx = .acquire := by
  have htx : ∀ m : Lane, (m.txWoken now).rx = m.rx := fun m => by
    unfold Lane.txWoken
    split <;> rfl
  cases tx <;> simp [Lane.exited, Lane.rxWoken, htx, h]

/-- The step of the exit from DORMANT at lane n: its TX, and its RX. -/
def txAgain (s : State) (n : Nat) : State := if bit s.power.txData n = 1 then wakeTx n s else s
def rxAgain (s : State) (n : Nat) : State := if bit s.power.rxAwake n = 1 then wakeRx n s else s

/-- RUN again, from DORMANT. -/
def State.leavesDormant (s : State) : State :=
  { (s.setFd F.HBM_STATUS_RATE0 2).setFd F.HBM_STATUS_RATE1 2 with
    hbm := { s.hbm with selfRefresh := false, tempSeen := Vector.replicate 2 false }
    stage := { s.stage with epoch := s.now }, power := { s.power with state := .run, transit := .none, hushNs := 0 } }

theorem dormantExited_eq (s : State) : dormantExited s = (List.range 18).foldl (fun u n => rxAgain (txAgain u n) n) s.leavesDormant := rfl

theorem txAgain_eq (s : State) (n : Nat) :
    txAgain s n = s.setLane n (if bit s.power.txData n = 1 then (s.lane n).txWoken s.now else s.lane n) := by
  rw [txAgain, wakeTx_eq]
  split
  · rfl
  · rw [State.setLane_lane]

theorem rxAgain_eq (s : State) (n : Nat) :
    rxAgain s n = s.setLane n (if bit s.power.rxAwake n = 1 then (s.lane n).rxWoken s.now else s.lane n) := by
  rw [rxAgain, wakeRx_eq]
  split
  · rfl
  · rw [State.setLane_lane]

theorem lane_dormantExited (s : State) {n : Nat} (hn : n < 18) :
    (dormantExited s).lane n = (s.lane n).exited (bit s.power.txData n == 1) (bit s.power.rxAwake n == 1) s.now := by
  have hkeeps : ∀ (u : State) k, (u.power = s.leavesDormant.power ∧ u.now = s.now) →
      ((rxAgain (txAgain u k) k).power = s.leavesDormant.power ∧ (rxAgain (txAgain u k) k).now = s.now) :=
    fun u k h => by rw [rxAgain_eq, txAgain_eq]; exact h
  have hstep : ∀ (u : State) k m, k < 18 → (u.power = s.leavesDormant.power ∧ u.now = s.now) → (rxAgain (txAgain u k) k).lane m =
      if m = k then (u.lane k).exited (bit s.power.txData k == 1) (bit s.power.rxAwake k == 1) s.now else u.lane m := by
    rintro u k m hk ⟨hpower, hnow⟩
    have htx : u.power.txData = s.power.txData := by rw [hpower]; rfl
    have hrx : (txAgain u k).power.rxAwake = s.power.rxAwake := by rw [txAgain_eq, State.setLane_power, hpower]; rfl
    have hnow' : (txAgain u k).now = s.now := by rw [txAgain_eq, State.setLane_now, hnow]
    rw [rxAgain_eq, State.lane_setLane _ _ hk, hrx, hnow', txAgain_eq, State.lane_setLane _ _ hk, State.lane_setLane _ _ hk, htx, hnow]
    by_cases hm : m = k
    · simp [hm, Lane.exited]
    · simp [hm]
  rw [dormantExited_eq]
  exact lane_pass (g := fun k l => l.exited (bit s.power.txData k == 1) (bit s.power.rxAwake k == 1) s.now) hkeeps hstep ⟨rfl, rfl⟩ hn

theorem dormantExited_frame (s : State) : dormantExited s = { s.leavesDormant with caril := (dormantExited s).caril } := by
  have hfold : ∀ (l : List Nat) (u : State), l.foldl (fun u n => rxAgain (txAgain u n) n) u =
      { u with caril := (l.foldl (fun u n => rxAgain (txAgain u n) n) u).caril } := by
    intro l
    induction l with
    | nil => intro u; rfl
    | cons k l ih =>
      intro u
      have hk : ∀ c, ({ rxAgain (txAgain u k) k with caril := c } : State) = { u with caril := c } := fun c => by
        rw [rxAgain_eq, txAgain_eq]; rfl
      rw [List.foldl_cons, ih, hk]
  exact hfold _ _

theorem dormantExited_withHeld (s : State) (l : List (Nat × Word)) : dormantExited (s.withHeld l) = (dormantExited s).withHeld l := by
  have hruns : (s.withHeld l).leavesDormant = s.leavesDormant.withHeld l := rfl
  have hstep : ∀ (u : State) k, rxAgain (txAgain (u.withHeld l) k) k = (rxAgain (txAgain u k) k).withHeld l := fun u k => by
    have htx : txAgain (u.withHeld l) k = (txAgain u k).withHeld l := by rw [txAgain_eq, txAgain_eq]; rfl
    rw [htx, rxAgain_eq, rxAgain_eq (s := txAgain u k)]
    rfl
  rw [dormantExited_eq, dormantExited_eq, hruns]
  exact List.foldl_hom (fun u : State => u.withHeld l) (fun u k => hstep u k)

/-! ## Held writes (R499) -/

theorem performHeld_eq (s : State) : performHeld s = s.power.held.foldl performOne (s.withHeld []) := rfl

theorem performHeld_none (h : s.power.held = []) : performHeld s = s := by
  have hsame : s.withHeld [] = s := by rw [← h]; rfl
  rw [performHeld_eq, h, hsame]
  rfl

/-- Every register stands below 32 MiB. -/
theorem Reg.at?_lt {off : Nat} {x : Reg × Nat} (h : Reg.at? off = some x) : off < bar2Mark := by
  have hend : ∀ r : Reg, r.offset + 4 * r.words ≤ bar2Mark := fun r => by cases r <;> decide
  unfold Reg.at? at h
  split at h
  · rename_i r hr
    have hin := List.find?_some hr
    have hlt : off < r.offset + 4 * r.words := by simp at hin; exact hin.2
    exact Nat.lt_of_lt_of_le hlt (hend r)
  · exact absurd h (by simp)

/-- A held write to a register is performed as that write. -/
theorem performOne_register (hready : s.glob.ready = true) {off w : Nat} {r : Reg} (hat : Reg.at? off = some (r, w)) (v : Word) :
    performOne s (off, v) = regWrite r w v s := by
  simp only [performOne, hready, Reg.at?_lt hat, if_true, Bool.not_true, Bool.false_eq_true, if_false, writeAt, hat]

/-- A write in RUN to a register that is present, and that starts no wake. -/
theorem bar0Write_run (hready : s.glob.ready = true) (hstate : s.power.state = .run) {off w : Nat} {r : Reg} {v : Word} (hal : off % 4 = 0)
    (hat : Reg.at? off = some (r, w)) (hw : cmdWake r v = false) (ha : s.cmdAbsent r = false) : bar0Write off v true s = regWrite r w v s := by
  rw [bar0Write_mapped hready v hal hat]
  simp [State.hostWrite, hready, hstate, hw, ha]

theorem State.cmdAbsent_congr {t : State} (hstr : t.str = s.str) (hsel : t.fd F.LANE_SEL_LANE = s.fd F.LANE_SEL_LANE) (r : Reg) :
    t.cmdAbsent r = s.cmdAbsent r := by
  simp only [State.cmdAbsent, State.leads, State.native, hstr, hsel]

/-- An exit: it keeps the held writes and does not read them, and leaves the device in RUN, as far as a write to a register sees. -/
structure ExitsToRun (e : State → State) (s : State) : Prop where
  withHeld : e (s.withHeld []) = (e s).withHeld []
  held : (e s).power.held = s.power.held
  state : (e s).power.state = .run
  glob : (e s).glob = s.glob
  str : (e s).str = s.str
  sel : (e s).fd F.LANE_SEL_LANE = s.fd F.LANE_SEL_LANE

theorem hushExited_exits (s : State) : ExitsToRun hushExited s := by
  have hkept : ∀ c o, let t : State := { s.runsAgain with caril := c, out := o }
      t.power.held = s.power.held ∧ t.power.state = .run ∧ t.glob = s.glob ∧ t.str = s.str ∧ t.fd F.LANE_SEL_LANE = s.fd F.LANE_SEL_LANE :=
    fun _ _ => ⟨rfl, rfl, rfl, rfl, rfl⟩
  obtain ⟨hheld, hstate, hglob, hstr, hsel⟩ := hkept (hushExited s).caril (hushExited s).out
  rw [← hushExited_frame] at hheld hstate hglob hstr hsel
  exact ⟨hushExited_withHeld s [], hheld, hstate, hglob, hstr, hsel⟩

theorem dormantExited_exits (s : State) : ExitsToRun dormantExited s := by
  have hkept : ∀ c, let t : State := { s.leavesDormant with caril := c }
      t.power.held = s.power.held ∧ t.power.state = .run ∧ t.glob = s.glob ∧ t.str = s.str ∧
        t.fd F.LANE_SEL_LANE = ((s.setFd F.HBM_STATUS_RATE0 2).setFd F.HBM_STATUS_RATE1 2).fd F.LANE_SEL_LANE :=
    fun _ => ⟨rfl, rfl, rfl, rfl, rfl⟩
  obtain ⟨hheld, hstate, hglob, hstr, hsel⟩ := hkept (dormantExited s).caril
  rw [← dormantExited_frame] at hheld hstate hglob hstr hsel
  rw [State.fd_setFd_ne _ _ _ _ _ _ (by decide), State.fd_setFd_ne _ _ _ _ _ _ (by decide)] at hsel
  exact ⟨dormantExited_withHeld s [], hheld, hstate, hglob, hstr, hsel⟩

/-- A held write is performed behind the exit as a write in RUN is. -/
theorem ExitsToRun.performs {e : State → State} (h : ExitsToRun e s) (hready : s.glob.ready = true) {off v : BitVec 32} {r : Reg} {w : Nat}
    (hheld : s.power.held = [(off.toNat, v)]) (hal : off.toNat % 4 = 0) (hat : Reg.at? off.toNat = some (r, w)) (hw : cmdWake r v = false)
    (ha : s.cmdAbsent r = false) :
    Host.Outcome.next (performHeld (e s)) = exec (.regWrite .bar0 off v true) (performHeld (e (s.withHeld []))) := by
  have hquiet : performHeld (e (s.withHeld [])) = (e s).withHeld [] := by rw [h.withHeld, performHeld_none rfl]
  have hready' : ((e s).withHeld []).glob.ready = true := (congrArg GlobalSt.ready h.glob).trans hready
  have ha' : ((e s).withHeld []).cmdAbsent r = false := (State.cmdAbsent_congr h.str h.sel r).trans ha
  rw [hquiet, exec_regWrite, performHeld_eq, h.held, hheld, List.foldl_cons, List.foldl_nil, performOne_register hready' hat]
  exact congrArg Host.Outcome.next (bar0Write_run hready' h.state hal hat hw ha').symm

/-! ## The statement on wakes -/

/-- In DORMANT the held write latches PCIE, which starts the exit, and then CMD (R503, R504). -/
theorem State.holdsWake_wakes (hstate : s.power.state = .dormant) (htr : s.power.transit = .none) : ∃ c, (s.holdsWake.wake 1).wake 0 =
    { s.setRg .POWER_WAKE_STATUS (s.rg .POWER_WAKE_STATUS ||| 3#32) with
      power := { s.power with held := s.power.held ++ [(Reg.off .POWER_CMD, 3#32)], transit := .exitDormant }, cyc := c } := by
  have hpower : s.holdsWake.power.state = .dormant ∧ s.holdsWake.power.transit = .none := ⟨hstate, htr⟩
  have hfirst : s.holdsWake.wake 1 = (s.holdsWake.woken 1).setTransit .exitDormant := by
    rw [State.wake_on _ (by decide) rfl, hpower.1, hpower.2]
  have hsecond : ((s.holdsWake.woken 1).setTransit .exitDormant).wake 0 = ((s.holdsWake.woken 1).setTransit .exitDormant).woken 0 := by
    have hp : ((s.holdsWake.woken 1).setTransit .exitDormant).power.state = .dormant ∧
        ((s.holdsWake.woken 1).setTransit .exitDormant).power.transit = .exitDormant := ⟨hstate, rfl⟩
    rw [State.wake_on _ (by decide) rfl, hp.1, hp.2]
  obtain ⟨c1, hc1⟩ := s.holdsWake.woken_eq (src := 1) (by decide)
  obtain ⟨c0, hc0⟩ := ((s.holdsWake.woken 1).setTransit .exitDormant).woken_eq (src := 0) (by decide)
  have hboth : ∀ p c, State.latched { s.latched 2 with power := p, cyc := c } 1 = { (s.latched 2).latched 1 with power := p, cyc := c } :=
    fun _ _ => rfl
  have hmask : (s.latched 2).latched 1 = s.setRg .POWER_WAKE_STATUS (s.rg .POWER_WAKE_STATUS ||| 3#32) := by
    rw [State.latched_latched s (by decide), BitVec.or_assoc]
    rfl
  refine ⟨c0, ?_⟩
  rw [hfirst, hsecond, hc0, hc1, ← hmask]
  rfl

/-- Settles O50: `State.wake_on` says what each state makes of a latched event, `hushExited` and `dormantExited` are the exits, and
`ExitsToRun` carries a held write over either. -/
theorem wakesAndExits : Obligations.WakesAndExits := by
  unfold Obligations.WakesAndExits
  refine ⟨?wakeRun, ?wakeHush, ?wakeDormant, ?off, ?latched, ?exitsHush, ?exitsDormant, ?entryGoes, ?abortsHush, ?abortsDormant, ?noExit, ?hush,
    ?dormant, ?held⟩
  case wakeRun =>
    intro s hruns
    exact congrArg Host.Outcome.next (State.hostCmd_wake hruns (doPowerCmd 3 false) rfl rfl)
  case wakeHush =>
    intro s hready htr hstate
    have hpower : s.holdsWake.power.state = .hush ∧ s.holdsWake.power.transit = .none := ⟨hstate, htr⟩
    rw [exec_wake_hush hready hstate, State.wake_on _ (by decide) rfl, hpower.1, hpower.2]
    exact ⟨_, rfl, rfl⟩
  case wakeDormant =>
    intro s hready htr hstate
    obtain ⟨c, hc⟩ := State.holdsWake_wakes hstate htr
    rw [exec_wake_dormant hready hstate, hc]
    exact ⟨_, rfl, rfl⟩
  case off =>
    intro s src h
    rw [exec_wakeEvent]
    rcases h with h | ⟨h1, h⟩
    · rw [State.wake_off s h, ite_self]
    · simp [h1, h]
  case latched =>
    intro s src hon hne htr hstate
    obtain ⟨c, hc⟩ := s.woken_eq src.isLt
    have hwake : s.wake src.val = s.woken src.val := by
      rw [State.wake_on s src.isLt hon, htr]
      rcases hstate with hstate | ⟨hstate, h0, h2⟩
      · rw [hstate]
      · simp [hstate, h0, h2]
    rw [exec_wakeEvent_wakes (.inl hne), hwake, hc]
    exact ⟨_, rfl, rfl⟩
  case exitsHush =>
    intro s src hon hsrc htr hstate
    obtain ⟨c, hc⟩ := s.woken_eq src.isLt
    have hwake : s.wake src.val = (s.woken src.val).setTransit .exitHush := by
      rw [State.wake_on s src.isLt hon, htr, hstate]
      rcases hsrc with h | h <;> simp [h]
    rw [exec_wakeEvent_wakes (.inl (by omega)), hwake, hc]
    exact ⟨_, rfl, rfl⟩
  case exitsDormant =>
    intro s src hon htr hstate
    obtain ⟨c, hc⟩ := s.woken_eq src.isLt
    rw [exec_wakeEvent_wakes (.inr hstate), State.wake_on s src.isLt hon, htr, hstate, hc]
    exact ⟨_, rfl, rfl⟩
  case entryGoes =>
    intro s src hon htr h0 h1 h2
    obtain ⟨c, hc⟩ := s.woken_eq src.isLt
    have hwake : s.wake src.val = s.woken src.val := by
      rw [State.wake_on s src.isLt hon, htr]
      simp [h0, h2]
    rw [exec_wakeEvent_wakes (.inl h1), hwake, hc]
    exact ⟨_, rfl, rfl⟩
  case abortsHush =>
    intro s l src hon htr hsrc hl
    obtain ⟨c, hc⟩ := s.woken_eq src.isLt
    have hwake : s.wake src.val = (s.woken src.val).abortEntry 1 src.val := by
      rw [State.wake_on s src.isLt hon, htr]
      rcases hsrc with h | h <;> simp [h]
    obtain ⟨c', hc'⟩ := (s.woken src.val).abortEntry_eq 1 src.val
    rw [exec_wakeEvent_wakes (.inl (by omega)), hwake, hc', hc]
    exact ⟨_, rfl, by rw [hl]; rfl⟩
  case abortsDormant =>
    intro s l src hon htr hne hl
    obtain ⟨c, hc⟩ := s.woken_eq src.isLt
    obtain ⟨c', hc'⟩ := (s.woken src.val).abortEntry_eq 2 src.val
    have hwake : s.wake src.val = ((s.woken src.val).abortEntry 2 src.val).setTransit
        (if src.val = 0 ∨ src.val = 2 then .exitHush else .none) := by
      have hnone : ((s.woken src.val).abortEntry 2 src.val).setTransit .none = (s.woken src.val).abortEntry 2 src.val := rfl
      rw [State.wake_on s src.isLt hon, htr]
      by_cases hsrc : src.val = 0 ∨ src.val = 2
      · rw [if_pos hsrc]
        rcases hsrc with h | h <;> simp [h]
      · rw [if_neg hsrc, hnone]
        rw [not_or] at hsrc
        simp [hsrc.1, hsrc.2]
    rw [exec_wakeEvent_wakes (.inl hne), hwake, hc', hc]
    exact ⟨_, rfl, by rw [hl]; rfl⟩
  case noExit =>
    intro s hhush hdormant
    have hexec : exec .exitDone s = .next (s.whenUp exitDone) := rfl
    have hstay : exitDone s = s := by
      unfold exitDone
      split
      · exact absurd ‹_› hhush
      · exact absurd ‹_› hdormant
      · rfl
    rw [hexec, State.whenUp, hstay, ite_self]
  case hush =>
    intro s hready hheld htr
    have hframe := hushExited_frame s
    rw [exec_exitDone hready, exitDone_hush htr, performHeld_none ((hushExited_exits s).held.trans hheld)]
    refine ⟨_, rfl, fun n hn hb => ?_, fun n hn hb => ?_, hframe⟩
    · rw [lane_hushExited s hn, if_pos hb]; rfl
    · rw [lane_hushExited s hn, if_neg hb]
  case dormant =>
    intro s hready hheld htr
    rw [exec_exitDone hready, exitDone_dormant htr, performHeld_none ((dormantExited_exits s).held.trans hheld)]
    refine ⟨_, rfl, fun n hn hb hs => ?_, fun n hn hb hs => ?_, dormantExited_frame s⟩
    · rw [lane_dormantExited s hn, hb]
      exact Lane.exited_tx hs _ _
    · rw [lane_dormantExited s hn, hb]
      exact Lane.exited_rx hs _ _
  case held =>
    intro s u off v r w hready htr hheld hal hat hw ha hu
    have hquiet : exec .exitDone (s.withHeld []) = .next (exitDone (s.withHeld [])) := exec_exitDone (s := s.withHeld []) hready
    cases hu.symm.trans hquiet
    rw [exec_exitDone hready]
    rcases htr with htr | htr
    · have htr' : (s.withHeld []).power.transit = .exitHush := htr
      rw [exitDone_hush htr, exitDone_hush htr']
      exact (hushExited_exits s).performs hready hheld hal hat hw ha
    · have htr' : (s.withHeld []).power.transit = .exitDormant := htr
      rw [exitDone_dormant htr, exitDone_dormant htr']
      exact (dormantExited_exits s).performs hready hheld hal hat hw ha

end Sys2Proof.Machine

/-! PROOFS. The budget arbiter (R513, R514) and the PMBus (R512). -/

namespace Sys2Proof.Machine

variable {s : State}

/-! ## Sums -/

theorem sumN_eq_sum (l : List Nat) : sumN l = l.sum := by
  rw [List.sum_eq_foldl]
  rfl

/-- Parts of L in proportion to the entries of a list with sum at most d come to L at most. -/
theorem sum_share_le {L d : Nat} (l : List Nat) (h : l.sum ≤ d) : (l.map (fun x => L * x / d)).sum ≤ L := by
  have hsum : (l.map (fun x => L * x / d)).sum ≤ L * l.sum / d := by
    induction l with
    | nil => simp
    | cons x l ih =>
      rw [List.sum_cons] at h
      rw [List.map_cons, List.sum_cons, List.sum_cons, Nat.mul_add]
      exact Nat.le_trans (Nat.add_le_add_left (ih (by omega)) _) Nat.div_add_div_le_add_div
  exact Nat.le_trans hsum (Nat.le_trans (Nat.div_le_div_right (Nat.mul_le_mul_left L h)) (Nat.div_le_of_le_mul (Nat.le_of_eq (Nat.mul_comm L d))))

/-- Where some entries are replaced, the sum is at most that of the old entries and of the new ones. -/
theorem sum_ite_le (l : List Nat) (p : Nat → Bool) (f g : Nat → Nat) :
    (l.map (fun k => if p k then f k else g k)).sum ≤ (l.map g).sum + ((l.filter p).map f).sum := by
  induction l with
  | nil => simp
  | cons k l ih =>
    by_cases hk : p k
    · simp only [List.map_cons, List.sum_cons, List.filter_cons, hk, if_true]
      omega
    · simp only [List.map_cons, List.sum_cons, List.filter_cons, hk, if_false, Bool.false_eq_true]
      omega

/-! ## One priority (R514) -/

/-- Entries of a list set one after the other. -/
theorem getD_foldl_set (f : Nat → Nat) {l : List Nat} (g : List Nat) (hlt : ∀ c ∈ l, c < g.length) (k : Nat) :
    (l.foldl (fun g c => g.set c (f c)) g).getD k 0 = if k ∈ l then f k else g.getD k 0 := by
  induction l generalizing g with
  | nil => rfl
  | cons c l ih =>
    have hc : c < g.length := hlt c List.mem_cons_self
    rw [List.foldl_cons, ih (g.set c (f c)) fun i hi => by rw [List.length_set]; exact hlt i (List.mem_cons_of_mem _ hi)]
    by_cases hk : k ∈ l
    · simp [hk]
    · by_cases hkc : k = c
      · subst hkc; simp [hk, List.getD, hc]
      · simp [hk, hkc, List.getD, List.getElem?_set_ne (Ne.symm hkc)]

theorem length_foldl_set (f : Nat → Nat) (l g : List Nat) : (l.foldl (fun g c => g.set c (f c)) g).length = g.length :=
  List.foldlRecOn (motive := fun t : List Nat => t.length = g.length) l _ rfl fun t ht c _ => by rw [List.length_set, ht]

/-- Grants within the demands and the budget: grants by class and what is left of B. -/
structure Grants (demand : List Nat) (B : Nat) (r : List Nat × Nat) : Prop where
  len : r.1.length = 4
  le : ∀ k, r.1.getD k 0 ≤ demand.getD k 0
  sum : ((List.range 4).map (fun k => r.1.getD k 0)).sum + r.2 ≤ B

/-- The classes of a priority. -/
def classesOf (prio : List Nat) (pr : Nat) : List Nat := (List.range 4).filter (fun c => prio.getD c 0 == pr)

/-- The demand of a priority. -/
def demandOf (prio demand : List Nat) (pr : Nat) : Nat := ((classesOf prio pr).map (fun c => demand.getD c 0)).sum

/-- What class c of the priority is granted while `left` is left. -/
def shareOf (prio demand : List Nat) (pr left c : Nat) : Nat :=
  if demandOf prio demand pr ≤ left then demand.getD c 0 else left * demand.getD c 0 / demandOf prio demand pr

theorem arbPrio_eq (prio demand : List Nat) (pr : Nat) (r : List Nat × Nat) : arbPrio prio demand pr r =
    ((classesOf prio pr).foldl (fun g c => g.set c (shareOf prio demand pr r.2 c)) r.1, r.2 - min (demandOf prio demand pr) r.2) := by
  simp only [arbPrio, sumN_eq_sum]
  rfl

theorem shareOf_le (prio demand : List Nat) (pr left c : Nat) : shareOf prio demand pr left c ≤ demand.getD c 0 := by
  unfold shareOf
  split
  · exact Nat.le_refl _
  · rename_i h
    exact Nat.div_le_of_le_mul (Nat.mul_le_mul_right _ (Nat.le_of_lt (Nat.not_le.1 h)))

theorem sum_shareOf_le (prio demand : List Nat) (pr left : Nat) :
    ((classesOf prio pr).map (shareOf prio demand pr left)).sum ≤ min (demandOf prio demand pr) left := by
  unfold shareOf
  split
  · rename_i h
    rw [Nat.min_eq_left h]
    exact Nat.le_refl _
  · rename_i h
    rw [Nat.min_eq_right (Nat.le_of_lt (Nat.not_le.1 h))]
    have hshare := sum_share_le (L := left) ((classesOf prio pr).map (fun c => demand.getD c 0)) (Nat.le_refl _)
    rw [List.map_map] at hshare
    exact hshare

theorem Grants.step {demand : List Nat} {B : Nat} {r : List Nat × Nat} (h : Grants demand B r) (prio : List Nat) (pr : Nat) :
    Grants demand B (arbPrio prio demand pr r) := by
  have hget : ∀ k, (arbPrio prio demand pr r).1.getD k 0 =
      if (k ∈ classesOf prio pr) then shareOf prio demand pr r.2 k else r.1.getD k 0 := fun k => by
    rw [arbPrio_eq]
    refine getD_foldl_set (shareOf prio demand pr r.2) r.1 (fun c hc => ?_) k
    rw [h.len]
    exact List.mem_range.1 (List.mem_filter.1 hc).1
  refine ⟨?_, fun k => ?_, ?_⟩
  · rw [arbPrio_eq]
    exact (length_foldl_set _ _ _).trans h.len
  · rw [hget]
    split
    · exact shareOf_le _ _ _ _ _
    · exact h.le k
  · have hmem : ∀ k ∈ List.range 4, (arbPrio prio demand pr r).1.getD k 0 =
        if prio.getD k 0 == pr then shareOf prio demand pr r.2 k else r.1.getD k 0 := fun k hk => by
      rw [hget]
      simp only [classesOf, List.mem_filter, hk, true_and]
    have hsum := sum_ite_le (List.range 4) (fun k => prio.getD k 0 == pr) (shareOf prio demand pr r.2) (fun k => r.1.getD k 0)
    have hshare := sum_shareOf_le prio demand pr r.2
    have hleft : (arbPrio prio demand pr r).2 = r.2 - min (demandOf prio demand pr) r.2 := by rw [arbPrio_eq]
    have hB := h.sum
    rw [List.map_congr_left hmem, hleft]
    unfold classesOf at hshare
    omega

/-- The grants stay within the demands, and all together within what the cap leaves after the fixed share. -/
theorem arbitrate_grants (cap fixed : Nat) (prio : List Nat) (d0 d1 d2 d3 : Nat) :
    ∃ left, Grants [d0, d1, d2, d3] (cap - fixed) (arbitrate cap fixed prio [d0, d1, d2, d3], left) := by
  have hstart : Grants [d0, d1, d2, d3] (cap - fixed) ([0, 0, 0, 0], cap - fixed) := by
    refine ⟨rfl, fun k => ?_, by simp [List.range_succ]⟩
    have hzero : ([0, 0, 0, 0] : List Nat).getD k 0 = 0 := by
      match k with
      | 0 | 1 | 2 | 3 => rfl
      | k + 4 => rfl
    rw [hzero]
    exact Nat.zero_le _
  have hend := List.foldlRecOn (motive := Grants [d0, d1, d2, d3] (cap - fixed)) [3, 2, 1, 0]
    (fun r pr => arbPrio prio [d0, d1, d2, d3] pr r) hstart fun r hr pr _ => hr.step prio pr
  exact ⟨_, hend⟩

/-! ## The window (R513 to R515) -/

/-- The counts of a window: the throttled classes, and both estimates. -/
def State.windowCounted (s : State) (fixed total : Nat) (lack : Nat → Bool) : State :=
  (((List.range 4).foldl (fun s c => if lack c then s.bump F.POWER_THROTTLE_COUNT_COUNT 1 c else s) s).setFd F.POWER_EST_FIXED
    (min 2047 fixed)).setFd F.POWER_EST_GRANTED (min 2047 total)

/-- What a window takes over: the grants g, the demands, and nothing spent. -/
def State.windowOpened (s : State) (g demand : List Nat) : State :=
  { s with power := { s.power with
    grants := #v[g.getD 0 0, g.getD 1 0, g.getD 2 0, g.getD 3 0]
    demand := #v[demand.getD 0 0, demand.getD 1 0, demand.getD 2 0, demand.getD 3 0]
    windows := s.power.windows + 1, spent := [] } }

/-- The window ends with the pillows' steps; a live job that waited may start. -/
theorem doArbiter_eq (fixed : Nat) (demand : List Nat) (s : State) : ∃ short met, doArbiter fixed demand s =
    assignLive ((List.range 4).foldl (pillowWindow short met)
      (((s.raiseIf (decide (s.capA < fixed)) .PWR_CAP_EXCEEDED).windowCounted fixed (sumN (arbitrate s.capA fixed s.str.prio demand))
        (fun c => decide ((arbitrate s.capA fixed s.str.prio demand).getD c 0 < demand.getD c 0))).windowOpened
          (arbitrate s.capA fixed s.str.prio demand) demand)) := by
  unfold doArbiter
  extract_lets cap s1 g lack s2 total s3 _ s4 spare
  refine ⟨lack 0, !lack 0 && spare, ?_⟩
  have hcounted : s1.windowCounted fixed (sumN g) lack = s3 := by unfold State.windowCounted; rfl
  have hopened : s3.windowOpened g demand = s4 := by unfold State.windowOpened; rfl
  rw [← hopened, ← hcounted]

/-- What a step of a pillow's operating point changes: the points, the window counts and the rail of the power state, and what is sent. -/
def State.unstepped (s : State) : State :=
  { s with out := [], power := { s.power with
    points := Vector.replicate 4 0, short := Vector.replicate 4 0, met := Vector.replicate 4 0, railSet := none } }

section
variable (s)

theorem State.emit_unstepped (o : Out) : (s.emit o).unstepped = s.unstepped := by rw [State.emit_eq]; rfl

theorem railStart_unstepped (mv : Nat) (p : Option Nat) : (railStart mv p s).unstepped = s.unstepped := by
  have hrail : ∀ (u : State) r, ({ u with power := { u.power with railSet := r } } : State).unstepped = u.unstepped := fun _ _ => rfl
  have hemit : ∀ (u : State) o r, ({ u.emit o with power := { u.power with railSet := r } } : State) =
      { u.emit o with power := { (u.emit o).power with railSet := r } } := fun u o r => by rw [State.emit_power]
  unfold railStart
  dsimp only
  rw [hemit, hrail, State.emit_unstepped]

theorem setPoint_unstepped (p k : Nat) : (setPoint p k s).unstepped = s.unstepped := rfl

theorem stepUp_unstepped (p : Nat) : (stepUp p s).unstepped = s.unstepped := by
  unfold stepUp
  extract_lets k
  split
  · rfl
  · split
    · split
      · exact railStart_unstepped s _ _
      · rfl
    · rfl

theorem stepDown_unstepped (p : Nat) : (stepDown p s).unstepped = s.unstepped := by
  unfold stepDown
  split
  · rfl
  · extract_lets s1 mv
    split
    · exact railStart_unstepped s1 _ _
    · rfl

theorem riseToFloor_unstepped (fuel p : Nat) : (riseToFloor fuel p s).unstepped = s.unstepped := by
  induction fuel generalizing s with
  | zero => rfl
  | succ fuel ih =>
    unfold riseToFloor
    split
    · rw [ih, stepUp_unstepped]
    · rfl

theorem pillowWindow_unstepped (short met : Bool) (p : Nat) : (pillowWindow short met s p).unstepped = s.unstepped := by
  unfold pillowWindow
  split
  · rfl
  · extract_lets a b _ s1 k
    have hcounts : s1.unstepped = s.unstepped := rfl
    split
    · rw [riseToFloor_unstepped, hcounts]
    · split
      · rw [stepDown_unstepped, hcounts]
      · split
        · rw [stepUp_unstepped, hcounts]
        · exact hcounts

end

/-- What such steps keep. -/
theorem State.unstepped_keeps {t : State} (h : t.unstepped = s.unstepped) :
    t.power.grants = s.power.grants ∧ t.power.demand = s.power.demand ∧ t.power.windows = s.power.windows ∧ t.power.spent = s.power.spent ∧
      t.regs = s.regs ∧ t.fault = s.fault ∧ t.bob = s.bob ∧ t = { s with out := t.out, power := t.power } := by
  have hgrants := congrArg (fun u : State => u.power.grants) h
  have hdemand := congrArg (fun u : State => u.power.demand) h
  have hwindows := congrArg (fun u : State => u.power.windows) h
  have hspent := congrArg (fun u : State => u.power.spent) h
  have hregs := congrArg State.regs h
  have hfault := congrArg State.fault h
  have hbob := congrArg State.bob h
  have hrest := congrArg (fun u : State => ({ u with out := t.out, power := t.power } : State)) h
  exact ⟨hgrants, hdemand, hwindows, hspent, hregs, hfault, hbob, hrest⟩

section
variable (s) (fixed total : Nat) (lack : Nat → Bool)

/-- The counts of the throttled classes. -/
def State.throttled0 (s : State) (lack : Nat → Bool) (l : List Nat) : State :=
  l.foldl (fun s c => if lack c then s.bump F.POWER_THROTTLE_COUNT_COUNT 1 c else s) s

theorem State.windowCounted_eq : s.windowCounted fixed total lack = { s with regs := (s.windowCounted fixed total lack).regs } := by
  have hfold : ∀ (l : List Nat) (u : State), ∃ r, u.throttled0 lack l = { u with regs := r } := by
    intro l
    induction l with
    | nil => exact fun u => ⟨u.regs, rfl⟩
    | cons c l ih =>
      intro u
      obtain ⟨r, hr⟩ := ih (if lack c then u.bump F.POWER_THROTTLE_COUNT_COUNT 1 c else u)
      refine ⟨r, (show u.throttled0 lack (c :: l) = _ from hr).trans ?_⟩
      split <;> rfl
  obtain ⟨r, hr⟩ := hfold (List.range 4) s
  have hcounted : s.windowCounted fixed total lack =
      ((s.throttled0 lack (List.range 4)).setFd F.POWER_EST_FIXED (min 2047 fixed)).setFd F.POWER_EST_GRANTED (min 2047 total) := rfl
  rw [hcounted, hr]
  rfl

theorem State.windowCounted_fixed : (s.windowCounted fixed total lack).fd F.POWER_EST_FIXED = min 2047 fixed := by
  rw [State.windowCounted, State.fd_setFd_other _ F.POWER_EST_GRANTED F.POWER_EST_FIXED _ _ (by decide) rfl (by decide), State.fd_setFd_same _ _ _ _ (by decide)]
  exact Nat.mod_eq_of_lt (Nat.lt_of_le_of_lt (Nat.min_le_left _ _) (by decide))

theorem State.windowCounted_granted : (s.windowCounted fixed total lack).fd F.POWER_EST_GRANTED = min 2047 total := by
  rw [State.windowCounted, State.fd_setFd_same _ _ _ _ (by decide)]
  exact Nat.mod_eq_of_lt (Nat.lt_of_le_of_lt (Nat.min_le_left _ _) (by decide))

/-- The first class's count. -/
theorem State.windowCounted_throttle : (s.windowCounted fixed total lack).fd F.POWER_THROTTLE_COUNT_COUNT 0 =
    (if lack 0 then s.bump F.POWER_THROTTLE_COUNT_COUNT 1 0 else s).fd F.POWER_THROTTLE_COUNT_COUNT 0 := by
  have hrange : List.range 4 = 0 :: [1, 2, 3] := rfl
  have hothers : ∀ u : State, (([1, 2, 3] : List Nat).foldl (fun s c => if lack c then s.bump F.POWER_THROTTLE_COUNT_COUNT 1 c else s) u).fd
      F.POWER_THROTTLE_COUNT_COUNT 0 = u.fd F.POWER_THROTTLE_COUNT_COUNT 0 := fun u => by
    refine List.foldlRecOn (motive := fun t : State => t.fd F.POWER_THROTTLE_COUNT_COUNT 0 = u.fd F.POWER_THROTTLE_COUNT_COUNT 0) _ _ rfl
      fun t ht c hc => ?_
    have hne : ¬ (0 % 65536 = c % 65536) := by
      simp only [List.mem_cons, List.not_mem_nil, or_false] at hc
      omega
    split
    · exact (State.fd_setFd_reg _ _ _ _ _ _ fun e => hne e.2).trans ht
    · exact ht
  rw [State.windowCounted, State.fd_setFd_ne _ _ _ _ _ _ (by decide), State.fd_setFd_ne _ _ _ _ _ _ (by decide), hrange, List.foldl_cons,
    hothers]

end

/-- The pillows' steps keep what the window has opened, and no live job waits. -/
theorem assignLive_pillowWindows (short met : Bool) {o : State} (hlive : o.bob.live = []) :
    (assignLive ((List.range 4).foldl (pillowWindow short met) o)).unstepped = o.unstepped := by
  have hfold : ((List.range 4).foldl (pillowWindow short met) o).unstepped = o.unstepped :=
    foldl_keeps State.unstepped _ (fun u p => pillowWindow_unstepped u short met p) _ _
  obtain ⟨-, -, -, -, -, -, hbob, -⟩ := State.unstepped_keeps hfold
  rw [assignLive_nil (by rw [hbob]; exact hlive), hfold]

theorem State.windowOpened_keeps {w t : State} {g demand : List Nat} (h : t.unstepped = (w.windowOpened g demand).unstepped) :
    t.power.grants = #v[g.getD 0 0, g.getD 1 0, g.getD 2 0, g.getD 3 0] ∧
      t.power.demand = #v[demand.getD 0 0, demand.getD 1 0, demand.getD 2 0, demand.getD 3 0] ∧ t.power.windows = w.power.windows + 1 ∧
      t.power.spent = [] ∧ t.regs = w.regs ∧ t.fault = w.fault ∧ t = { w with out := t.out, power := t.power } := by
  obtain ⟨hgrants, hdemand, hwindows, hspent, hregs, hfault, -, hrest⟩ := State.unstepped_keeps h
  exact ⟨hgrants, hdemand, hwindows, hspent, hregs, hfault, hrest⟩

theorem State.raiseIf_eq (s : State) (b : Bool) (c : FaultCode) : s.raiseIf b c = { s with fault := (s.raiseIf b c).fault } := by
  unfold State.raiseIf
  split
  · exact State.raise_eq s c
  · rfl

/-- What the end of a window leaves, from the grants g. -/
theorem doArbiter_window (hlive : s.bob.live = []) {fixed : Nat} {g demand : List Nat} {t u : State}
    (hg : arbitrate s.capA fixed s.str.prio demand = g) (ht : doArbiter fixed demand s = t)
    (hu : s.raiseIf (decide (s.capA < fixed)) .PWR_CAP_EXCEEDED = u) :
    ∃ w, w = u.windowCounted fixed (sumN g) (fun c => decide (g.getD c 0 < demand.getD c 0)) ∧
      t.unstepped = (w.windowOpened g demand).unstepped ∧ t = { s with regs := t.regs, fault := u.fault, power := t.power, out := t.out } := by
  obtain ⟨short, met, hexec⟩ := doArbiter_eq fixed demand s
  rw [hg, ht, hu] at hexec
  have hueq := s.raiseIf_eq (decide (s.capA < fixed)) .PWR_CAP_EXCEEDED
  rw [hu] at hueq
  refine ⟨_, rfl, ?_⟩
  have hw := u.windowCounted_eq fixed (sumN g) (fun c => decide (g.getD c 0 < demand.getD c 0))
  generalize u.windowCounted fixed (sumN g) (fun c => decide (g.getD c 0 < demand.getD c 0)) = w at hexec hw ⊢
  have hbob : (w.windowOpened g demand).bob = s.bob := by rw [hw, hueq]; rfl
  have hopened : t.unstepped = (w.windowOpened g demand).unstepped := by
    rw [hexec]
    exact assignLive_pillowWindows short met (by rw [hbob, hlive])
  obtain ⟨-, -, -, -, hregs, -, hrest⟩ := State.windowOpened_keeps hopened
  have hparts : ∀ o p, ({ w with out := o, power := p } : State) = { s with regs := w.regs, fault := u.fault, power := p, out := o } :=
    fun o p => by rw [hw, hueq]
  rw [hparts, ← hregs] at hrest
  exact ⟨hopened, hrest⟩

theorem exec_arbiterWindow (h : s.up) (f d0 d1 d2 d3 : BitVec 16) : exec (.arbiterWindow f d0 d1 d2 d3) s =
    .next (doArbiter f.toNat [d0.toNat, d1.toNat, d2.toNat, d3.toNat] s) := congrArg Host.Outcome.next (State.whenReady_up h _)

/-! ## Readings (R512) -/

theorem exec_pmbusReadback (h : s.up) (m : Option (BitVec 8)) (v : Option (BitVec 16)) :
    exec (.pmbusReadback m v) s = .next (doReadback (m.map BitVec.toNat) (v.map BitVec.toNat) s) :=
  congrArg Host.Outcome.next (State.whenReady_up h _)

theorem doReadback_first (hrail : s.power.railSet = none) (hmode : s.power.voutMode = none) (m v : Option Nat) :
    doReadback m v s = pmbusFirst m v s := by
  simp [doReadback, hrail, hmode]

theorem doReadback_early {r : RailSet} (hrail : s.power.railSet = some r)
    (h : s.now < r.since + 1000000 * max 1 (s.fd F.POWER_PMBUS_CFG_SETTLE_US)) (m v : Option Nat) : doReadback m v s = s := by
  simp only [doReadback, hrail]
  rw [if_neg (by omega)]

theorem doReadback_settled {r : RailSet} (hrail : s.power.railSet = some r)
    (h : r.since + 1000000 * max 1 (s.fd F.POWER_PMBUS_CFG_SETTLE_US) ≤ s.now) (m v : Option Nat) : doReadback m v s = pmbusRead r v s := by
  simp only [doReadback, hrail]
  rw [if_pos h]

/-- A failure raises its fault, sets its flag, and brings the points down to what the rail allows. -/
theorem pmbusFail_eq (s : State) : ∃ k c, pmbusFail s = { s.raise .PWR_PMBUS_FAIL with
    regs := (s.setFd F.POWER_STATE_PMBUS_FAIL 1).regs, cyc := c
    power := { s.power with railSet := none, points := s.power.points.map (fun p => min p k) } } := by
  have hflag := s.setFlag_bit F.POWER_STATE_PMBUS_FAIL 0 rfl
  have hraise := State.raise_regs_cyc (s := s) (t := s.setFlag F.POWER_STATE_PMBUS_FAIL) (by rw [hflag]; rfl) .PWR_PMBUS_FAIL
  have hset : (s.setFlag F.POWER_STATE_PMBUS_FAIL).regs = (s.setFd F.POWER_STATE_PMBUS_FAIL 1).regs := by rw [hflag]; rfl
  have hfail : ∀ (u : State) (k : Nat), u = { s.raise .PWR_PMBUS_FAIL with
      regs := (s.setFlag F.POWER_STATE_PMBUS_FAIL).regs, cyc := (s.setFlag F.POWER_STATE_PMBUS_FAIL).cyc } →
      ({ u with power := { u.power with railSet := none, points := u.power.points.map (fun p => min p k) } } : State) =
        { s.raise .PWR_PMBUS_FAIL with
          regs := (s.setFd F.POWER_STATE_PMBUS_FAIL 1).regs, cyc := (s.setFlag F.POWER_STATE_PMBUS_FAIL).cyc
          power := { s.power with railSet := none, points := s.power.points.map (fun p => min p k) } } := by
    rintro _ k rfl
    rw [← hset, ← State.raise_power s .PWR_PMBUS_FAIL]
  exact ⟨_, _, hfail _ _ hraise⟩

/-- What the failure of a reading leaves. -/
structure PmbusFailed (s t : State) : Prop where
  rail : t.power.railSet = none
  flag : t.fb F.POWER_STATE_PMBUS_FAIL = true
  fault : t.fault = (s.raise .PWR_PMBUS_FAIL).fault
  points : ∀ p, p < 4 → t.point p ≤ s.point p
  frame : t = { s.raise .PWR_PMBUS_FAIL with regs := t.regs, power := { s.power with railSet := none, points := t.power.points }, cyc := t.cyc }

theorem pmbusFail_failed (s : State) : PmbusFailed s (pmbusFail s) := by
  obtain ⟨k, c, h⟩ := pmbusFail_eq s
  have hflag : (s.setFd F.POWER_STATE_PMBUS_FAIL 1).fb F.POWER_STATE_PMBUS_FAIL = true := by
    rw [State.fb_eq_fd, State.fd_setFd_same _ _ _ _ (by decide)]
    rfl
  rw [h]
  refine ⟨rfl, hflag, rfl, fun p hp => ?_, rfl⟩
  simp only [State.point, Vector.getElem?_map]
  rw [Vector.getElem?_eq_getElem hp]
  exact Nat.min_le_left _ _

theorem risePillows_atFloor (h : ∀ p, p < 4 → s.pillowServes p = true → s.floorOp p ≤ s.point p) : risePillows s = s := by
  refine foldl_eq_self fun p hp => ?_
  unfold riseToFloor
  rw [if_neg]
  intro hrise
  rw [Bool.and_eq_true, decide_eq_true_eq] at hrise
  exact absurd hrise.2 (Nat.not_lt.2 (h p (List.mem_range.1 hp) hrise.1))

/-- A reading within 10 mV of the target ends the change of the rail. -/
theorem pmbusRead_reached {r : RailSet} {v : Nat} (hnear : rabs (linear16Mv (s.power.voutMode.getD 0) v - (r.mv : Rat)) ≤ 10)
    (hp : r.pillow = none) : pmbusRead r (some v) s = risePillows { s with power := { s.power with railSet := none, railMv := r.mv } } := by
  simp only [pmbusRead, if_pos hnear, hp]

theorem pmbusRead_again {r : RailSet} {v : Nat} (hfar : ¬ rabs (linear16Mv (s.power.voutMode.getD 0) v - (r.mv : Rat)) ≤ 10)
    (htries : r.tries < 4) :
    pmbusRead r (some v) s = { s with power := { s.power with railSet := some { r with tries := r.tries + 1, since := s.now } } } := by
  simp only [pmbusRead, if_neg hfar]
  rw [if_neg (by omega)]

theorem pmbusRead_fails {r : RailSet} {v : Nat} (hfar : ¬ rabs (linear16Mv (s.power.voutMode.getD 0) v - (r.mv : Rat)) ≤ 10)
    (htries : 4 ≤ r.tries) : pmbusRead r (some v) s = pmbusFail s := by
  simp only [pmbusRead, if_neg hfar]
  rw [if_pos (by omega)]

theorem exec_pmbusFailClear (h : s.runs) (hc : s.cyc = []) : exec .pmbusFailClear s = .next (s.setFd F.POWER_STATE_PMBUS_FAIL 0) := by
  have hnow : s.setNow .POWER_STATE 0 = 0 := by rw [State.setNow, hc]; rfl
  refine (congrArg Host.Outcome.next (State.hostCmd_plain h _ rfl rfl)).trans ?_
  rw [hnow]
  rfl

theorem list_of_length_four {α : Type} {l : List α} (h : l.length = 4) : ∃ a b c d, l = [a, b, c, d] :=
  match l, h with
  | [a, b, c, d], _ => ⟨a, b, c, d, rfl⟩

/-- A count reads the same whatever the fault logic holds. -/
theorem State.fd_bumpIf_faultless (b : Bool) (f : FaultSt) :
    (if b then ({ s with fault := f } : State).bump F.POWER_THROTTLE_COUNT_COUNT 1 0 else { s with fault := f }).fd F.POWER_THROTTLE_COUNT_COUNT 0 =
      (if b then s.bump F.POWER_THROTTLE_COUNT_COUNT 1 0 else s).fd F.POWER_THROTTLE_COUNT_COUNT 0 := by
  cases b <;> rfl

/-! ## The statement on the budget -/

/-- Settles O51: `arbitrate_grants` bounds the grants, a pillow's step keeps them (`State.unstepped_keeps`), and each reading is one case of
`pmbusFirst` or `pmbusRead`. -/
theorem budgetAndPmbus : Obligations.BudgetAndPmbus := by
  unfold Obligations.BudgetAndPmbus
  refine ⟨?window, ?firstGood, ?firstBad, ?early, ?reached, ?again, ?fails, fun _ => exec_pmbusFailClear⟩
  case window =>
    intro s f d0 d1 d2 d3 hup hlive
    obtain ⟨left, hlen, hle, hsum⟩ := arbitrate_grants s.capA f.toNat s.str.prio d0.toNat d1.toNat d2.toNat d3.toNat
    rw [exec_arbiterWindow hup]
    generalize hg : arbitrate s.capA f.toNat s.str.prio [d0.toNat, d1.toNat, d2.toNat, d3.toNat] = g at *
    obtain ⟨w, hw, hopened, hframe⟩ := doArbiter_window hlive hg rfl rfl
    obtain ⟨hgrants, hdemand, hwindows, hspent, hregs, -, -⟩ := State.windowOpened_keeps hopened
    generalize doArbiter f.toNat [d0.toNat, d1.toNat, d2.toNat, d3.toNat] s = t at *
    obtain ⟨g0, g1, g2, g3, rfl⟩ := list_of_length_four hlen
    have h0 := hle 0
    have h1 := hle 1
    have h2 := hle 2
    have h3 := hle 3
    have hfd : ∀ x i, t.fd x i = w.fd x i := fun x i => congrArg (fun r : RegFile => r.fld x i) hregs
    have htotal : sumN [g0, g1, g2, g3] = g0 + g1 + g2 + g3 := by simp [sumN]
    have hthrottle : t.fd F.POWER_THROTTLE_COUNT_COUNT 0 =
        (if decide (g0 < d0.toNat) then s.bump F.POWER_THROTTLE_COUNT_COUNT 1 0 else s).fd F.POWER_THROTTLE_COUNT_COUNT 0 := by
      rw [hfd, hw, State.windowCounted_throttle, State.raiseIf_eq]
      exact State.fd_bumpIf_faultless _ _
    have hfault' : t.fault = (s.raiseIf (decide (s.capA < f.toNat)) .PWR_CAP_EXCEEDED).fault := by
      have h := congrArg State.fault hframe
      exact h
    have hdma : t.dma = s.dma := by
      have h := congrArg State.dma hframe
      exact h
    refine ⟨t, rfl, ?_⟩
    rw [hgrants]
    refine ⟨h0, h1, h2, h3, by simpa [List.range_succ, Nat.add_assoc] using Nat.le_trans (Nat.le_add_right _ _) hsum, rfl, hdemand, ?_, hspent,
      ?_, ?_, ?_, ?_, ?_, ?_⟩
    · rw [hwindows, hw, State.windowCounted_eq, State.raiseIf_eq]
    · rw [hfd, hw, State.windowCounted_fixed]
    · rw [hfd, hw, State.windowCounted_granted, htotal]; rfl
    · intro hall
      have hall' : g0 = d0.toNat := hall
      rw [hthrottle, hall', decide_eq_false (Nat.lt_irrefl _), if_neg Bool.false_ne_true]
    · intro hless
      have hless' : g0 < d0.toNat := hless
      rw [hthrottle, decide_eq_true hless', if_pos rfl]
    · exact hfault'
    · rw [hdma, hfault']
      exact hframe
  case firstGood =>
    intro s m v hup hrail hmode hm
    rw [exec_pmbusReadback hup, doReadback_first hrail hmode]
    simp [pmbusFirst, hm]
  case firstBad =>
    intro s v hup hrail hmode
    have h := pmbusFail_failed s
    have hframe := h.frame
    rw [exec_pmbusReadback hup, doReadback_first hrail hmode]
    refine ⟨pmbusFail s, rfl, h.flag, h.fault, ?_⟩
    rw [← hrail] at hframe
    exact hframe
  case early =>
    intro s r m v hup hrail hnow
    rw [exec_pmbusReadback hup, doReadback_early hrail hnow]
  case reached =>
    intro s r m v hup hrail hnow hnear hp hfloor
    have hsame : ∀ p, p < 4 → State.pillowServes { s with power := { s.power with railSet := none, railMv := r.mv } } p = true →
        State.floorOp { s with power := { s.power with railSet := none, railMv := r.mv } } p ≤
          State.point { s with power := { s.power with railSet := none, railMv := r.mv } } p := hfloor
    rw [exec_pmbusReadback hup, doReadback_settled hrail hnow, Option.map_some, pmbusRead_reached hnear hp, risePillows_atFloor hsame]
  case again =>
    intro s r m v hup hrail hnow hfar htries
    rw [exec_pmbusReadback hup, doReadback_settled hrail hnow, Option.map_some, pmbusRead_again hfar htries]
  case fails =>
    intro s r m v hup hrail hnow hfar htries
    have h := pmbusFail_failed s
    rw [exec_pmbusReadback hup, doReadback_settled hrail hnow, Option.map_some, pmbusRead_fails hfar htries]
    exact ⟨_, rfl, h.rail, h.flag, h.fault, h.points, h.frame⟩

end Sys2Proof.Machine

/-! PROOFS. Power-on reset of a device that is still too hot for its cold reset (R537, R549). -/

namespace Sys2Proof.Machine

/-- A device that tripped at 115 °C, its stripe damped with LATCH, and whose junction is at 100 °C when power-on reset is released. -/
def hotDev : State :=
  { State.reset with
    fault := { FaultSt.reset with tripped := true, thermtripN := false, aonDamp := true }
    caril := { CarilSt.reset with latch := true }
    regs := State.reset.regs.setFld F.FAULT_TEMP_TJ 0 800 }

/-- The trip holds the cold reset back, so LATCH stays. -/
theorem hotDev_powerOn_latch : (powerOn 0 true true hotDev).caril.latch = true := by decide +kernel

/-- Refutes O56: the clause on power-on reset clears LATCH whatever the state, but a tripped device at 100 °C or more only records the cause
(R537), so the LATCH of `hotDev` outlasts the release of power-on reset. -/
theorem not_resetsStart : ¬ Obligations.ResetsStart := by
  unfold Obligations.ResetsStart
  intro h
  obtain ⟨-, -, -, -, hpower, -⟩ := h
  obtain ⟨t, hexec, -, -, -, -, -, hlatch, -⟩ := hpower hotDev 0 true true
  cases hexec
  exact absurd (hotDev_powerOn_latch.symm.trans hlatch) (by decide)

end Sys2Proof.Machine

/-! PROOFS. Check units: how a command starts, stops and ends (R519 to R524). -/

namespace Sys2Proof.Machine

variable {s : State}

/-! ## Commands at the host port -/

theorem exec_checkStarts (h : s.runs) {c : Instr} {k : Nat}
    (hc : (c, k) ∈ [(Instr.compute, 1), (.append, 2), (.strip, 3), (.checkCompare, 4)]) : exec c s = .next (doCheck k s) := by
  simp only [List.mem_cons, Prod.mk.injEq, List.not_mem_nil, or_false] at hc
  rcases hc with ⟨rfl, rfl⟩ | ⟨rfl, rfl⟩ | ⟨rfl, rfl⟩ | ⟨rfl, rfl⟩ <;>
    exact congrArg Host.Outcome.next (State.hostCmd_plain h _ (by decide) rfl)

theorem exec_checkAbort (h : s.runs) : exec .checkAbort s = .next (checkStop s.checkSel s) :=
  congrArg Host.Outcome.next (State.hostCmd_plain h doCheckAbort (by decide) rfl)

theorem exec_checkDone (h : s.up) (hf : s.hbm.filling = false) (u : Fin 10) : exec (.checkDone u) s = .next (doCheckDone u.val s) :=
  congrArg Host.Outcome.next (State.whenDram_up h hf _)

theorem State.checkSel_lt (s : State) : s.checkSel < 10 := Nat.lt_succ_of_le (Nat.min_le_left _ _)

theorem State.run_setRun (s : State) {u : Nat} (h : u < 10) (k : Option Nat) : (s.setRun u k).check.run[u] = k :=
  Vector.getElem_setIfInBounds_self _

theorem State.run_setRun? (s : State) {u : Nat} (h : u < 10) (k : Option Nat) : (s.setRun u k).check.run[u]? = some k :=
  (Vector.getElem?_eq_getElem h).trans (congrArg some (s.run_setRun h k))

theorem doCheck_starts {k : Nat} (hb : s.checkBusy s.checkSel = false) (hi : s.checkInvalid s.checkSel k = false) :
    doCheck k s = (s.setRun s.checkSel (some k)).mark (.checkStarted s.checkSel) := by
  simp [doCheck, hb, hi]

theorem doCheck_busy {k : Nat} (hb : s.checkBusy s.checkSel = true) : doCheck k s = s.raise .CHK_BUSY := by simp [doCheck, hb]

theorem doCheck_invalid {k : Nat} (hb : s.checkBusy s.checkSel = false) (hi : s.checkInvalid s.checkSel k = true) :
    doCheck k s = s.raise .CHK_CONFIG_INVALID := by
  simp [doCheck, hb, hi]

theorem checkStop_runs {u k : Nat} (h : s.check.run[u]? = some (some k)) :
    checkStop u s = (checkOutcome u 4 s).mark (.checkStopped u k) := by
  simp [checkStop, h]

/-! ## How a command ends -/

/-- What a command that ends changes: registers and the unit that ran it. -/
theorem checkOutcome_eq (u o : Nat) (s : State) :
    checkOutcome u o s = { s with regs := (s.setFd F.CHECK_STATUS_OUTCOME o u).regs, check := (s.setRun u none).check } := rfl

@[simp] theorem checkOutcome_cyc (u o : Nat) (s : State) : (checkOutcome u o s).cyc = s.cyc := rfl

@[simp] theorem checkOutcome_dram (u o : Nat) (s : State) : (checkOutcome u o s).dram = s.dram := rfl

theorem fd_checkOutcome (u o : Nat) (s : State) (x : RegField) (j : Nat) (h : x.reg ≠ .CHECK_STATUS) :
    (checkOutcome u o s).fd x j = s.fd x j := s.fd_setFd_ne F.CHECK_STATUS_OUTCOME x o u j h

theorem rg_checkOutcome (u o : Nat) (s : State) (r : Reg) (j : Nat) (h : r ≠ .CHECK_STATUS) :
    (checkOutcome u o s).rg r j = s.rg r j := s.rg_setFd_ne F.CHECK_STATUS_OUTCOME o u r j h

theorem outcome_checkOutcome (u : Nat) {o : Nat} (ho : o < 8) (s : State) : (checkOutcome u o s).fd F.CHECK_STATUS_OUTCOME u = o :=
  (s.fd_setFd_same F.CHECK_STATUS_OUTCOME o u (by decide)).trans (Nat.mod_eq_of_lt ho)

theorem run_checkOutcome (o : Nat) (s : State) (u : Fin 10) : (checkOutcome u o s).check.run[u] = none :=
  (s.setFd F.CHECK_STATUS_OUTCOME o u).run_setRun u.isLt none

/-- The count of mismatches lies beside the outcome. -/
theorem outcome_bump (u : Nat) (s : State) : (s.bump F.CHECK_STATUS_MISMATCHES 1 u).fd F.CHECK_STATUS_OUTCOME u = s.fd F.CHECK_STATUS_OUTCOME u :=
  s.fd_setFd_other F.CHECK_STATUS_MISMATCHES F.CHECK_STATUS_OUTCOME _ u (by decide) rfl (by decide)

theorem rg_bump_mismatches (u : Nat) (s : State) (r : Reg) (j : Nat) (h : r ≠ .CHECK_STATUS) :
    (s.bump F.CHECK_STATUS_MISMATCHES 1 u).rg r j = s.rg r j := s.rg_setFd_ne F.CHECK_STATUS_MISMATCHES _ u r j h

/-- CHECK_SEQ stays where AUTO_INC = 0 and no write of this cycle goes to it. -/
theorem checkSeqNext_off {u : Nat} (hcyc : s.cyc = []) (ha : s.fb F.CHECK_CFG_AUTO_INC u = false) : checkSeqNext u s = s := by
  have hw : s.seqWritten u = none := by simp [State.seqWritten, hcyc]
  simp [checkSeqNext, hw, ha]

/-- A command that runs over good DRAM: its result is the CRC of its range, and the rest goes by the command (R520, R522). -/
def checkGood (u cmd : Nat) (s : State) : State :=
  let p := s.checkFolded u
  let len := if cmd = 3 then s.checkSize u - p.bytes else s.checkSize u
  let v := crc p (s.dramBytes (s.checkBase u) len)
  let t := s.setRg .CHECK_RESULT (BitVec.ofNat 32 v) u
  if cmd = 1 then checkSeqNext u (checkOutcome u 1 t)
  else if cmd = 2 then
    if t.libraryProtects (s.checkBase u + s.checkSize u) p.bytes then (checkOutcome u 5 t).raise .LAC_LIB_PROTECT
    else if t.storeProtects (s.checkBase u + s.checkSize u) p.bytes then (checkOutcome u 5 t).raise .STO_PROTECT
    else noteWrite (s.checkBase u + s.checkSize u) p.bytes (.appended u (t.rg .CHECK_SEQ u)) t
      (checkSeqNext u (checkOutcome u 1 (dramWrite (s.checkBase u + s.checkSize u) (leBytes p.bytes v) t)))
  else if cmd = 3 then
    let ok := t.dramLe (s.checkBase u + len) p.bytes == v
    checkVerdict u ok (if ok then (t.setFd F.CHECK_LEN_LO_LEN len u).setFd F.CHECK_LEN_HI_LEN (len / 2 ^ 32) u else t)
  else checkVerdict u (t.fd F.CHECK_EXPECT_VALUE u % 2 ^ p.width == v) t

/-- The unit read poison: `checkOutcome` 3 over the state that the read leaves (R522). -/
def checkLost (u : Nat) (s : State) : State :=
  (((checkOutcome u 3 (engineRead (0x48 + u) (s.checkBase u) (s.checkSize u) s)).setRg .CHECK_RESULT 0 u).bump F.CHECK_STATUS_MISMATCHES 1 u)

section
variable {u : Fin 10} {cmd : Nat} (hcyc : s.cyc = []) (hrun : s.check.run[u] = some cmd)

include hrun in
theorem State.checkEnding_runs : s.checkEnding u = some cmd := by
  have hget : (s.check.run[u.val]?).getD none = some cmd := by rw [Vector.getElem?_eq_getElem u.isLt]; exact hrun
  rw [State.checkEnding, hget]

include hcyc in
theorem State.erase_stopped (e : CycleEvent) : ({ s with cyc := s.cyc.erase e } : State) = s := by
  rw [hcyc]
  cases s
  subst hcyc
  rfl

include hcyc hrun in
theorem doCheckDone_good (hm : s.dramMark = []) (hp : s.anyPcFailed = false)
    (hb : s.dramBad (s.checkBase u) (s.checkSize u) = false) : doCheckDone u.val s = checkGood u cmd s := by
  have hend : s.checkBase u + s.checkSize u ≤ dramEnd := by
    simp only [State.dramBad, Bool.or_eq_false_iff, decide_eq_false_iff_not, Nat.not_lt] at hb
    exact hb.1.1
  simp only [doCheckDone, State.checkEnding_runs hrun, State.erase_stopped hcyc, engineRead_clean _ hm hp hend, hb]
  rfl

include hcyc hrun in
theorem doCheckDone_lost (hcmd : cmd = 1) (hb : s.dramBad (s.checkBase u) (s.checkSize u) = true) :
    doCheckDone u.val s = checkLost u s := by
  subst hcmd
  simp only [doCheckDone, State.checkEnding_runs hrun, State.erase_stopped hcyc, hb]
  rfl

end

/-! ## What a read leaves of DRAM -/

theorem errLog_dram (a syn k src : Nat) (s : State) : (errLog a syn k src s).dram = s.dram := by
  simp only [errLog]
  split
  · rfl
  · simp only [State.setFlag_dram, State.setFd_dram]

theorem countCe_dram (a : Nat) (s : State) : (countCe a s).dram = s.dram := by
  simp only [countCe]
  split
  · exact State.raise_dram _ _
  · rfl

theorem readClass_dram (src a syn : Nat) (s : State) : (readClass src a syn s).2.dram = s.dram := by
  unfold readClass
  split
  · exact (State.raise_dram _ _).trans (errLog_dram _ _ _ _ _)
  · split
    · rfl
    · exact countCe_dram a s
    · exact (State.raise_dram _ _).trans (errLog_dram _ _ _ _ _)
    · exact (State.raise_dram _ _).trans (errLog_dram _ _ _ _ _)

theorem engineRead_dram (src a n : Nat) (s : State) : (engineRead src a n s).dram = s.dram := by
  unfold engineRead
  split
  · exact State.raise_dram _ _
  split
  · rfl
  split
  · exact foldl_keeps State.dram _ (fun u k => readClass_dram _ _ _ u) _ s
  · exact foldl_keeps State.dram _ (fun u e => readClass_dram _ _ _ u) _ s

/-! ## The verdicts -/

section
variable {u : Fin 10} (hcyc : s.cyc = []) (hinc : s.fb F.CHECK_CFG_AUTO_INC u = false)

/-- The state in which the CRC `v` stands in the result register of unit u. -/
def State.checkResult (s : State) (u v : Nat) : State := s.setRg .CHECK_RESULT (BitVec.ofNat 32 v) u

/-- The state in which unit u has ended with outcome o over the state t. -/
theorem checkSeqNext_outcome {t : State} (o : Nat) (ht : t.cyc = []) (hi : t.fb F.CHECK_CFG_AUTO_INC u = false) :
    checkSeqNext u (checkOutcome u o t) = checkOutcome u o t := by
  refine checkSeqNext_off ht ?_
  rw [State.fb_eq_fd, fd_checkOutcome _ _ _ _ _ (by decide)]
  exact hi

include hcyc hinc in
theorem checkGood_compute : checkGood u 1 s =
    checkOutcome u 1 (s.checkResult u (crc (s.checkFolded u) (s.dramBytes (s.checkBase u) (s.checkSize u)))) :=
  checkSeqNext_outcome 1 hcyc ((s.fb_setRg_reg _ _ F.CHECK_CFG_AUTO_INC u (by decide)).trans hinc)

theorem checkVerdict_ok {t : State} (ht : t.cyc = []) (hi : t.fb F.CHECK_CFG_AUTO_INC u = false) :
    checkVerdict u true t = checkOutcome u 1 t := checkSeqNext_outcome 1 ht hi

theorem checkVerdict_mismatch {t : State} (ht : t.cyc = []) (hi : t.fb F.CHECK_CFG_AUTO_INC u = false) :
    checkVerdict u false t = ((checkOutcome u 2 t).bump F.CHECK_STATUS_MISMATCHES 1 u).raise
      (if u.val < 8 then .CHK_MISMATCH else .CHK_PRIV_MISMATCH) := by
  have hoff : checkSeqNext u ((checkOutcome u 2 t).bump F.CHECK_STATUS_MISMATCHES 1 u) =
      (checkOutcome u 2 t).bump F.CHECK_STATUS_MISMATCHES 1 u := by
    refine checkSeqNext_off ht ?_
    rw [State.bump, State.fb_setFd_ne _ _ _ _ _ _ (by decide), State.fb_eq_fd, fd_checkOutcome _ _ _ _ _ (by decide)]
    exact hi
  rw [checkVerdict, if_neg (by decide), hoff]

end

/-! ## The write of APPEND -/

theorem hashMask_checkResult (s : State) (u v : Nat) (b : Bool) (k : Nat) : (s.checkResult u v).hashMask b k = s.hashMask b k := by
  unfold State.hashMask
  extract_lets i
  exact congrArg₂ (fun m n => m + 2 ^ 32 * n) (s.fd_setRg_reg _ _ F.HBM_HASH_MASK_LO_MASK i (by decide))
    (s.fd_setRg_reg _ _ F.HBM_HASH_MASK_HI_MASK i (by decide))

theorem pcFailed_checkResult (s : State) (u v a : Nat) :
    (s.checkResult u v).pcFailed ((s.checkResult u v).pcOf a) = s.pcFailed (s.pcOf a) := by
  have hpc : (s.checkResult u v).pcOf a = s.pcOf a := by simp only [State.pcOf, State.selBit, hashMask_checkResult]
  rw [hpc]
  exact s.fb_setRg_reg _ _ F.HBM_PC_STATUS_FAILED _ (by decide)

theorem codeBad_checkResult (s : State) (u v a : Nat) : (s.checkResult u v).codeBad a = s.codeBad a :=
  congrArg ((match classOf (Sparse.get 0 s.dramMark (a / 16)) with
    | .addressFault | .uncorrectable => true
    | _ => false) || ·) (pcFailed_checkResult s u v a)

theorem writeMark_checkResult (whole : Bool) (w u v : Nat) (s : State) :
    writeMark whole w (s.checkResult u v) = (writeMark whole w s).checkResult u v := by
  have hplain : writeMark.plain whole w (s.checkResult u v) = (writeMark.plain whole w s).checkResult u v := by
    simp only [writeMark.plain, codeBad_checkResult]
    split <;> rfl
  have hinj : (s.checkResult u v).hbm.inject = s.hbm.inject := rfl
  unfold writeMark
  rw [hinj]
  split
  · split
    · rfl
    · exact hplain
  · exact hplain

theorem dramStore_checkResult (a : Nat) (l : List Byte) (u v : Nat) (s : State) :
    dramStore a l (s.checkResult u v) = (dramStore a l s).checkResult u v :=
  List.foldl_hom (State.checkResult · u v) (l := List.range ((a + l.length + 15) / 16 - a / 16)) (init := s.dramPut a l)
    (g₁ := fun t k => writeMark (decide (a ≤ (a / 16 + k) * 16) && decide ((a / 16 + k) * 16 + 16 ≤ a + l.length)) (a / 16 + k) t)
    (g₂ := fun t k => writeMark (decide (a ≤ (a / 16 + k) * 16) && decide ((a / 16 + k) * 16 + 16 ≤ a + l.length)) (a / 16 + k) t)
    (fun t _ => writeMark_checkResult _ _ u v t)

/-- What a unit writes does not depend on its result register. -/
theorem dramWrite_checkResult (a : Nat) (l : List Byte) (u v : Nat) (s : State) :
    dramWrite a l (s.checkResult u v) = (dramWrite a l s).checkResult u v := by
  unfold dramWrite
  split
  · rfl
  split
  · rw [State.raise_regs_cyc (s := s) (t := s.checkResult u v) rfl, State.raise_eq s]; rfl
  change (if !s.hbm.accessible then _ else _) = _
  split
  · rfl
  change (if s.hbm.filling then _ else _) = _
  split
  · rfl
  · exact dramStore_checkResult a l u v s

theorem dramWrite_cyc (a : Nat) (l : List Byte) (s : State) : (dramWrite a l s).cyc = s.cyc := by rw [dramWrite_eq]

theorem fb_dramWrite (a : Nat) (l : List Byte) (s : State) (x : RegField) (i : Nat) : (dramWrite a l s).fb x i = s.fb x i := by
  have hregs : (dramWrite a l s).regs = s.regs := by rw [dramWrite_eq]
  simp only [State.fb, hregs]

theorem noteWrite_eq (a n : Nat) (e : SpanWrite → CycleEvent) (s t : State) : noteWrite a n e s t = { t with cyc := (noteWrite a n e s t).cyc } := by
  unfold noteWrite
  split <;> rfl

section
variable {u : Fin 10} (hcyc : s.cyc = []) (hinc : s.fb F.CHECK_CFG_AUTO_INC u = false)

/-- APPEND writes its CRC behind the range, where neither a library nor the store forbids it. -/
theorem checkGood_two {v : Nat} (hv : v = crc (s.checkFolded u) (s.dramBytes (s.checkBase u) (s.checkSize u))) :
    checkGood u 2 s =
      if (s.checkResult u v).libraryProtects (s.checkBase u + s.checkSize u) (s.checkFolded u).bytes then
        (checkOutcome u 5 (s.checkResult u v)).raise .LAC_LIB_PROTECT
      else if (s.checkResult u v).storeProtects (s.checkBase u + s.checkSize u) (s.checkFolded u).bytes then
        (checkOutcome u 5 (s.checkResult u v)).raise .STO_PROTECT
      else noteWrite (s.checkBase u + s.checkSize u) (s.checkFolded u).bytes (.appended u ((s.checkResult u v).rg .CHECK_SEQ u))
        (s.checkResult u v) (checkSeqNext u (checkOutcome u 1
          (dramWrite (s.checkBase u + s.checkSize u) (leBytes (s.checkFolded u).bytes v) (s.checkResult u v)))) := by
  subst hv; rfl

include hcyc hinc in
theorem checkGood_append (hlib : s.libraryProtects (s.checkBase u + s.checkSize u) (s.checkFolded u).bytes = false)
    (hsto : s.storeProtects (s.checkBase u + s.checkSize u) (s.checkFolded u).bytes = false) {v : Nat}
    (hv : v = crc (s.checkFolded u) (s.dramBytes (s.checkBase u) (s.checkSize u))) :
    ∃ c, checkGood u 2 s = { checkOutcome u 1
      ((dramWrite (s.checkBase u + s.checkSize u) (leBytes (s.checkFolded u).bytes v) s).checkResult u v) with cyc := c } := by
  have hl : (s.checkResult u v).libraryProtects (s.checkBase u + s.checkSize u) (s.checkFolded u).bytes = false := hlib
  have hs : (s.checkResult u v).storeProtects (s.checkBase u + s.checkSize u) (s.checkFolded u).bytes = false := by
    unfold State.storeProtects at hsto ⊢
    unfold State.checkResult
    rw [s.fd_setRg_reg _ _ F.STORE_BASE_BASE_MB _ (by decide), s.fd_setRg_reg _ _ F.STORE_SIZE_SIZE_MB _ (by decide)]
    exact hsto
  have hcyc' : (dramWrite (s.checkBase u + s.checkSize u) (leBytes (s.checkFolded u).bytes v) s).cyc = [] :=
    (dramWrite_cyc _ _ s).trans hcyc
  have hinc' := (fb_dramWrite (s.checkBase u + s.checkSize u) (leBytes (s.checkFolded u).bytes v) s F.CHECK_CFG_AUTO_INC u).trans hinc
  rw [checkGood_two hv, hl, hs, if_neg Bool.false_ne_true, if_neg Bool.false_ne_true, dramWrite_checkResult]
  generalize dramWrite (s.checkBase u + s.checkSize u) (leBytes (s.checkFolded u).bytes v) s = w at hcyc' hinc' ⊢
  have hi : (w.checkResult u v).fb F.CHECK_CFG_AUTO_INC u = false := (w.fb_setRg_reg _ _ F.CHECK_CFG_AUTO_INC u (by decide)).trans hinc'
  rw [checkSeqNext_outcome (t := w.checkResult u v) 1 hcyc' hi]
  exact ⟨_, noteWrite_eq _ _ _ _ _⟩

/-- The state after STRIP has found its range in order: the length without the check bytes (R522). -/
def State.checkStripped (s : State) (u len : Nat) : State := (s.setFd F.CHECK_LEN_LO_LEN len u).setFd F.CHECK_LEN_HI_LEN (len / 2 ^ 32) u

/-- STRIP compares the end of its range with the CRC of the rest. -/
theorem checkGood_three {k len v : Nat} (hk : k = (s.checkFolded u).bytes) (hlen : len = s.checkSize u - k)
    (hv : v = crc (s.checkFolded u) (s.dramBytes (s.checkBase u) len)) :
    checkGood u 3 s = checkVerdict u (s.dramLe (s.checkBase u + len) k == v)
      (if s.dramLe (s.checkBase u + len) k == v then (s.checkResult u v).checkStripped u len else s.checkResult u v) := by
  subst hk hlen hv; rfl

include hcyc hinc in
theorem checkGood_strip {k len v : Nat} (hk : k = (s.checkFolded u).bytes) (hlen : len = s.checkSize u - k)
    (hv : v = crc (s.checkFolded u) (s.dramBytes (s.checkBase u) len)) (hok : s.dramLe (s.checkBase u + len) k = v) :
    checkGood u 3 s = checkOutcome u 1 ((s.checkResult u v).checkStripped u len) := by
  rw [checkGood_three hk hlen hv, beq_iff_eq.2 hok, if_pos rfl]
  refine checkVerdict_ok hcyc ?_
  rw [State.checkStripped, State.fb_setFd_ne _ _ _ _ _ _ (by decide), State.fb_setFd_ne _ _ _ _ _ _ (by decide), State.checkResult,
    State.fb_setRg_reg _ _ _ _ _ (by decide)]
  exact hinc

/-- COMPARE goes by EXPECT. -/
theorem checkGood_four {v : Nat} (hv : v = crc (s.checkFolded u) (s.dramBytes (s.checkBase u) (s.checkSize u))) :
    checkGood u 4 s = checkVerdict u ((s.checkResult u v).fd F.CHECK_EXPECT_VALUE u % 2 ^ (s.checkFolded u).width == v) (s.checkResult u v) := by
  subst hv; rfl

theorem checkGood_compare {v : Nat} (hv : v = crc (s.checkFolded u) (s.dramBytes (s.checkBase u) (s.checkSize u))) :
    checkGood u 4 s = checkVerdict u (s.fd F.CHECK_EXPECT_VALUE u % 2 ^ (s.checkFolded u).width == v) (s.checkResult u v) := by
  rw [checkGood_four hv, State.checkResult, s.fd_setRg_reg _ _ F.CHECK_EXPECT_VALUE u (by decide)]

end

/-! ## The obligation -/

/-- The end of a command over a state that differs from `s` in registers. -/
theorem checkOutcome_frame {t : State} (u o : Nat) (h : t = { s with regs := t.regs }) :
    checkOutcome u o t = { s with regs := (checkOutcome u o t).regs, check := (checkOutcome u o t).check } := by
  obtain ⟨r, rfl⟩ : ∃ r, t = { s with regs := r } := ⟨_, h⟩
  rfl

theorem appended_frame (w : State) (u v : Nat) (c : List CycleEvent) :
    ({ checkOutcome u 1 (w.checkResult u v) with cyc := c } : State) =
      { w with regs := (checkOutcome u 1 (w.checkResult u v)).regs, check := (checkOutcome u 1 (w.checkResult u v)).check, cyc := c } := rfl

theorem checkStripped_frame (s : State) (u len : Nat) : s.checkStripped u len = { s with regs := (s.checkStripped u len).regs } := rfl

theorem stripped_frame (s : State) (u v len : Nat) :
    (s.checkResult u v).checkStripped u len = { s with regs := ((s.checkResult u v).checkStripped u len).regs } :=
  checkStripped_frame (s.checkResult u v) u len

/-- Whatever registers and check units hold, a raising goes to the fault logic. -/
theorem raise_regsCheck (s : State) (r : RegFile) (k : CheckSt) (c : FaultCode) :
    ({ s with regs := r, check := k } : State).raise c = { s.raise c with regs := r, check := k } := by
  have hfault := State.raise_fault_congr (s := s) (t := { s with regs := r, check := k }) rfl c
  rw [State.raise_eq, hfault, State.raise_eq s c]

theorem mismatched_frame (s : State) (u v : Nat) (c : FaultCode) :
    ((checkOutcome u 2 (s.checkResult u v)).bump F.CHECK_STATUS_MISMATCHES 1 u).raise c =
      { s.raise c with
        regs := (((checkOutcome u 2 (s.checkResult u v)).bump F.CHECK_STATUS_MISMATCHES 1 u).raise c).regs
        check := (((checkOutcome u 2 (s.checkResult u v)).bump F.CHECK_STATUS_MISMATCHES 1 u).raise c).check } := by
  have hframe : (checkOutcome u 2 (s.checkResult u v)).bump F.CHECK_STATUS_MISMATCHES 1 u =
      { s with regs := ((checkOutcome u 2 (s.checkResult u v)).bump F.CHECK_STATUS_MISMATCHES 1 u).regs
               check := (checkOutcome u 2 (s.checkResult u v)).check } := rfl
  rw [hframe, raise_regsCheck]

theorem fd_checkStripped (s : State) (u len : Nat) : (s.checkStripped u len).fd F.CHECK_LEN_LO_LEN u = len % 2 ^ 32 := by
  rw [State.checkStripped, State.fd_setFd_ne _ _ _ _ _ _ (by decide), State.fd_setFd_same _ _ _ _ (by decide)]
  rfl

theorem rg_checkResult (s : State) (u v : Nat) : (s.checkResult u v).rg .CHECK_RESULT u = BitVec.ofNat 32 v := s.rg_setRg_same _ _ _

/-- Settles O24: a command starts, is refused or stopped as `doCheck` and `checkStop` say; over good DRAM its end is `checkGood`, over poison
`checkLost`. -/
theorem checkUnits : Obligations.CheckUnits := by
  unfold Obligations.CheckUnits
  refine ⟨?start, ?busy, ?invalid, ?abort, ?compute, ?lost, ?append, ?strip, ?compare⟩
  case start =>
    intro s c k hc hruns hb hi
    exact ⟨_, (exec_checkStarts hruns hc).trans (congrArg _ (doCheck_starts hb hi)), State.run_setRun? s s.checkSel_lt (some k), rfl⟩
  case busy =>
    intro s c hc hruns hb
    obtain ⟨k, hk⟩ : ∃ k, (c, k) ∈ [(Instr.compute, 1), (.append, 2), (.strip, 3), (.checkCompare, 4)] := by
      simp only [List.mem_cons, List.not_mem_nil, or_false] at hc
      rcases hc with rfl | rfl | rfl | rfl <;> simp
    rw [exec_checkStarts hruns hk, doCheck_busy hb]
  case invalid =>
    intro s c k hc hruns hb hi
    rw [exec_checkStarts hruns hc, doCheck_invalid hb hi]
  case abort =>
    intro s k hruns hrun
    exact ⟨_, (exec_checkAbort hruns).trans (congrArg _ (checkStop_runs hrun)),
      State.run_setRun? (s.setFd F.CHECK_STATUS_OUTCOME 4 s.checkSel) s.checkSel_lt none, rfl⟩
  case compute =>
    intro s u hup hf hcyc hp hm hrun hb hinc
    refine ⟨_, (exec_checkDone hup hf u).trans (congrArg _ ((doCheckDone_good hcyc hrun hm hp hb).trans (checkGood_compute hcyc hinc))),
      ?_, outcome_checkOutcome u (by decide) _, run_checkOutcome 1 _ u, rfl⟩
    rw [rg_checkOutcome _ _ _ _ _ (by decide), rg_checkResult]
  case lost =>
    intro s u hup hf hcyc hrun hb
    refine ⟨_, (exec_checkDone hup hf u).trans (congrArg _ (doCheckDone_lost hcyc hrun rfl hb)), ?_, ?_, ?_, ?_⟩
    · rw [checkLost, rg_bump_mismatches _ _ _ _ (by decide), State.rg_setRg_same]
    · rw [checkLost, outcome_bump, State.fd_setRg_reg _ _ _ _ _ (by decide), outcome_checkOutcome _ (by decide)]
    · rw [checkLost, State.bump_check, State.setRg_check, run_checkOutcome]
    · rw [checkLost, State.bump_dram, State.setRg_dram, checkOutcome_dram, engineRead_dram]
  case append =>
    intro s u hup hf hcyc hp hm hrun hb hinc hlib hsto
    obtain ⟨c, hend⟩ := checkGood_append hcyc hinc hlib hsto rfl
    exact ⟨_, (exec_checkDone hup hf u).trans (congrArg _ ((doCheckDone_good hcyc hrun hm hp hb).trans hend)),
      outcome_checkOutcome u (by decide) _, run_checkOutcome 1 _ u, appended_frame _ _ _ _⟩
  case strip =>
    intro s u hup hf hcyc hp hm hrun hb hinc hok
    refine ⟨_, (exec_checkDone hup hf u).trans (congrArg _ ((doCheckDone_good hcyc hrun hm hp hb).trans
      (checkGood_strip hcyc hinc rfl rfl rfl hok))), outcome_checkOutcome u (by decide) _, run_checkOutcome 1 _ u, ?_, checkOutcome_frame _ _ (stripped_frame _ _ _ _)⟩
    exact (fd_checkOutcome _ _ _ _ _ (by decide)).trans (fd_checkStripped _ _ _)
  case compare =>
    intro s u hup hf hcyc hp hm hrun hb hinc
    have hexec := (exec_checkDone hup hf u).trans (congrArg _ ((doCheckDone_good hcyc hrun hm hp hb).trans (checkGood_compare rfl)))
    generalize hv : crc (s.checkFolded u) (s.dramBytes (s.checkBase u) (s.checkSize u)) = v at hexec
    have hi : (s.checkResult u v).fb F.CHECK_CFG_AUTO_INC u = false := (s.fb_setRg_reg _ _ F.CHECK_CFG_AUTO_INC u (by decide)).trans hinc
    by_cases hexp : s.fd F.CHECK_EXPECT_VALUE u % 2 ^ (s.checkFolded u).width = v
    · rw [beq_iff_eq.2 hexp, checkVerdict_ok (t := s.checkResult u v) hcyc hi] at hexec
      exact ⟨_, hexec, run_checkOutcome 1 _ u, fun _ => ⟨outcome_checkOutcome u (by decide) _, checkOutcome_frame _ _ rfl⟩, fun h => absurd hexp h⟩
    · rw [beq_false_of_ne hexp, checkVerdict_mismatch (t := s.checkResult u v) hcyc hi] at hexec
      refine ⟨_, hexec, ?_, fun h => absurd h hexp, fun _ => ⟨?_, ?_⟩⟩
      · rw [State.raise_check]
        exact run_checkOutcome 2 (s.checkResult u v) u
      · rw [State.fd_raise, outcome_bump, outcome_checkOutcome _ (by decide)]
      · exact mismatched_frame _ _ _ _

end Sys2Proof.Machine

/-! PROOFS. Rimshots and the snapshot (R538 to R541). -/

namespace Sys2Proof.Machine

variable {s : State}

theorem exec_snapRimshot (h : s.runs) : exec .snapRimshot s = .next (rimshot 0 0 s) :=
  congrArg Host.Outcome.next (State.hostCmd_plain h (doSnapCmd 1) (by decide) rfl)

theorem exec_snapRelease (h : s.runs) : exec .snapRelease s = .next (snapRelease s) :=
  congrArg Host.Outcome.next (State.hostCmd_plain h (doSnapCmd 2) (by decide) rfl)

theorem exec_rimshotInEdge (h : s.glob.aonReset = false) : exec .rimshotInEdge s = .next (rimEdge s) :=
  congrArg Host.Outcome.next (State.whenAon_up h _)

/-! ## What a rimshot comes to -/

/-- The capture of source src in the terms of the claims: SEQ rises, HELD is set, word 0 names both (R538, R540, Table 17-2). -/
def State.Snapped (s t : State) (src : Nat) : Prop :=
  t.snap.held = true ∧ t.snap.seq = (s.snap.seq + 1) % 65536 ∧ t.snap.capturing = some src ∧
    t.snap.words[0] = BitVec.ofNat 32 ((s.snap.seq + 1) % 65536 + 65536 * src + 2 ^ 31)

/-- AON always captures, so word 0 is SEQ, the source and the mark of a captured snapshot. -/
theorem snapWord_zero (s : State) (seq src code beat : Nat) : s.snapWord seq src code beat 0 = BitVec.ofNat 32 (seq % 65536 + 65536 * src + 2 ^ 31) := rfl

theorem snapCapture_snapped (src code : Nat) (i : Int) (s : State) : s.Snapped (snapCapture src code i s) src := by
  have hword (beat : Nat) : (s.snapWords ((s.snap.seq + 1) % 65536) src code beat)[0] =
      BitVec.ofNat 32 ((s.snap.seq + 1) % 65536 + 65536 * src + 2 ^ 31) := by
    simp [State.snapWords, snapWord_zero]
  unfold snapCapture
  extract_lets f seq
  exact ⟨rfl, rfl, rfl, hword f.1⟩

/-- A capture changes the snapshot, and may take a free value for the beat. -/
theorem snapCapture_eq (src code : Nat) (i : Int) (s : State) : snapCapture src code i s =
    { s with snap := (snapCapture src code i s).snap, freeCount := (snapCapture src code i s).freeCount, cyc := (snapCapture src code i s).cyc } := by
  unfold snapCapture
  split <;> rfl

theorem rimPulse_eq (s : State) : rimPulse s = { s with snap := (rimPulse s).snap } := by
  unfold rimPulse
  split <;> rfl

theorem rimPulse_off (h : s.fb F.SNAP_CFG_OUT_EN = false) : rimPulse s = s := by simp [rimPulse, h]

/-- The pulse is beside the snapshot. -/
theorem rimPulse_snap (s : State) : (rimPulse s).snap.capturing = s.snap.capturing ∧ (rimPulse s).snap.held = s.snap.held ∧
    (rimPulse s).snap.seq = s.snap.seq := by
  unfold rimPulse
  split <;> exact ⟨rfl, rfl, rfl⟩

/-- A rimshot of a source other than a fault is captured where nothing is held and nothing is being captured. -/
theorem rimTake_captures {src : Nat} (hsrc : src ≠ 4) (hcap : s.snap.capturing = none) (hheld : s.snap.held = false) (code : Nat) (i : Int) :
    s.Snapped (rimTake src code i s) src ∧ rimTake src code i s =
      { s with snap := (rimTake src code i s).snap, freeCount := (rimTake src code i s).freeCount, cyc := (rimTake src code i s).cyc } := by
  obtain ⟨hpc, hph, hps⟩ := rimPulse_snap s
  have htake : rimTake src code i s = snapCapture src code i (rimPulse s) := by simp [rimTake, hsrc, hpc, hcap, hph, hheld]
  have hsnapped := snapCapture_snapped src code i (rimPulse s)
  rw [State.Snapped, hps] at hsnapped
  rw [htake]
  refine ⟨hsnapped, ?_⟩
  have hcapture := snapCapture_eq src code i (rimPulse s)
  have hpulse := rimPulse_eq s
  generalize snapCapture src code i (rimPulse s) = t at hcapture ⊢
  rw [hpulse] at hcapture
  exact hcapture

/-- One that meets a held snapshot is missed. -/
theorem rimTake_missed {src : Nat} (hsrc : src ≠ 4) (hcap : s.snap.capturing = none) (hheld : s.snap.held = true)
    (hover : s.fb F.SNAP_CFG_OVERWRITE = false) (hout : s.fb F.SNAP_CFG_OUT_EN = false) (code : Nat) (i : Int) :
    rimTake src code i s = rimMissed src code i s := by
  simp [rimTake, hsrc, rimPulse_off hout, hcap, hheld, hover]

theorem rimshot_takes {src : Nat} (hon : s.rimOn src = true) (hcol : s.rimColumn = false) (code : Nat) :
    rimshot src code s = rimTake src code s.stageT s := by
  simp [rimshot, hon, hcol]

/-- A lead whose rimshots go to the column sends one. -/
theorem rimshot_column {src : Nat} (hsrc : src ≠ 3) (hon : s.rimOn src = true) (hcol : s.rimColumn = true) (hout : s.fb F.SNAP_CFG_OUT_EN = false)
    (code : Nat) : rimshot src code s = { s with cad := { s.cad with due := s.cad.due ++ [⟨7, 0, 0⟩] } } := by
  have hlead : (s.str.role == .lead && s.native) = true := by
    simp only [State.rimColumn, Bool.and_eq_true] at hcol
    simp [hcol.1]
  simp [rimshot, hon, hcol, hsrc, rimPulse_off hout, State.cadDue, hlead]

theorem snapRelease_quiet (hcyc : s.cyc = []) : snapRelease s = { s with snap := { s.snap with held := false } } := by
  simp [snapRelease, State.saw, hcyc]

/-! ## The obligation -/

/-- Settles O25: a rimshot is captured or missed (`rimTake_captures`, `rimTake_missed`) or goes to the column (`rimshot_column`). -/
theorem snapshots : Obligations.Snapshots := by
  unfold Obligations.Snapshots
  refine ⟨?command, ?missed, ?pin, ?cadence, ?column, ?release, ?done, ?fall⟩
  case command =>
    intro s hruns hon hcol hcap hheld
    obtain ⟨⟨h, hseq, hsrc, hword⟩, hframe⟩ := rimTake_captures (src := 0) (by decide) hcap hheld 0 s.stageT
    exact ⟨_, (exec_snapRimshot hruns).trans (congrArg _ (rimshot_takes hon hcol 0)), h, hseq, hsrc, hword, hframe⟩
  case missed =>
    intro s hruns hon hcol hcap hheld hover hout
    have hmiss := (rimshot_takes hon hcol 0).trans (rimTake_missed (by decide) hcap hheld hover hout 0 s.stageT)
    exact ⟨_, (exec_snapRimshot hruns).trans (congrArg _ hmiss), rfl⟩
  case pin =>
    intro s haon hready hwake hon hcol hcap hheld
    obtain ⟨⟨h, hseq, hsrc, hword⟩, hframe⟩ := rimTake_captures (src := 1) (by decide) hcap hheld 0 s.stageT
    have hedge : rimEdge s = rimshot 1 0 s := by rw [rimEdge, if_pos hready, State.wake_off s hwake]
    exact ⟨_, (exec_rimshotInEdge haon).trans (congrArg _ (hedge.trans (rimshot_takes hon hcol 0))), h, hseq, hsrc, hword, hframe⟩
  case cadence =>
    intro s s1 c hup hn ht hon hcap hheld
    have hexec : exec (.cadRimshot []) s = .next (rimCadence (s.dueAt 7) s1) :=
      congrArg Host.Outcome.next ((State.whenReady_up hup _).trans (cadRow_executes hn ht _))
    obtain ⟨q, rfl⟩ := takeScheduled_eq ht
    obtain ⟨⟨h, hseq, hsrc, hword⟩, hframe⟩ :=
      rimTake_captures (s := { s with cad := q }) (src := 3) (by decide) hcap hheld 0 (s.dueAt 7)
    exact ⟨_, hexec.trans (congrArg _ (if_pos hon)), h, hseq, hsrc, hword, hframe⟩
  case column =>
    intro s hruns hon hcol hout
    rw [exec_snapRimshot hruns, rimshot_column (by decide) hon hcol hout]
  case release =>
    intro s hruns hcyc
    rw [exec_snapRelease hruns, snapRelease_quiet hcyc]
  case done =>
    intro s haon
    exact congrArg Host.Outcome.next (State.whenAon_up haon captureDone)
  case fall =>
    intro s haon hhigh huntil
    have hfall : rimFall s = { s with snap := { s.snap with outHigh := false } } := by simp [rimFall, hhigh, huntil]
    exact congrArg Host.Outcome.next ((State.whenAon_up haon rimFall).trans hfall)

end Sys2Proof.Machine

/-! PROOFS. The reset of a stalled pillow whose bobbin runs a live job (R187, R513, R535). -/

namespace Sys2Proof.Machine

/-- `liveJobDev` 1 ms after pillow 0 has stalled, with resets of stalled islands enabled. -/
@[irreducible] def stalledDev : State :=
  { liveJobDev with
    now := 1000000000
    regs := liveJobDev.regs.setFld F.FAULT_STALL_CFG_RESET_EN 0 1
    fault := { FaultSt.reset with stallTimers := [(3, 0)] } }

theorem exec_safIslandReset {s : State} (h : s.up) (i : Fin 24) : exec (.safIslandReset i) s = .next (doStallReset i.val s) :=
  congrArg Host.Outcome.next (State.whenReady_up h _)

theorem stalledDev_up : stalledDev.up := by decide +kernel

theorem stalledDev_timer : Sparse.find? stalledDev.fault.stallTimers 3 = some 0 := by decide +kernel

/-- Pillow 0 runs and has been stalled for longer than the limit; pillow 1 is at point 0. -/
theorem stalledDev_pillow0 : stalledDev.fb F.FAULT_STALL_CFG_RESET_EN = true ∧ stalledDev.captures 3 = true ∧
    0 + stalledDev.stallLimit ≤ stalledDev.now ∧ stalledDev.point 1 = 0 := by
  decide +kernel

/-- No bobbin may take the live job that pillow 0 loses; pillow 1, which holds a reserved bobbin, rises to the floor of live jobs. -/
theorem stalledDev_reset_rises : (doStallReset (3 : Fin 24).val stalledDev).point 1 = 1 := by decide +kernel

/-- Refutes O53: the clause on the reset of a stalled island lets no part of the power state change. The reset of pillow 0 of `stalledDev`
issues its live job again (R187), which waits; while a live job is pending, a pillow with a reserved bobbin is stepped up to its floor
(R513). -/
theorem not_faultHandling : ¬ Obligations.FaultHandling := by
  unfold Obligations.FaultHandling
  intro h
  obtain ⟨-, -, -, -, -, -, -, -, -, hreset⟩ := h
  obtain ⟨hen, hcap, hlate, hlow⟩ := stalledDev_pillow0
  obtain ⟨t, hexec, -, -, hframe⟩ := hreset stalledDev 3 0 stalledDev_up stalledDev_timer hen hcap (by decide) (by decide) hlate
  rw [exec_safIslandReset stalledDev_up] at hexec
  cases hexec
  have hpoint := congrArg (fun t : State => t.point 1) hframe
  exact absurd (stalledDev_reset_rises.symm.trans (hpoint.trans hlow)) (by decide)

end Sys2Proof.Machine

/-! PROOFS. The sideband (R542, R533). -/

namespace Sys2Proof.Machine

variable {s : State}

/-- What the sideband sends is no lane frame, so JTAG does not hold it back. -/
theorem smbRead_eq (code : Nat) (l : List Byte) (s : State) : smbRead code l s =
    { s with out := .smbus ((leBytes 1 l.length ++ l) ++ leBytes 1 (crc crcPec (leBytes 1 s.smbAddr ++ leBytes 1 code ++
      leBytes 1 (s.smbAddr + 1) ++ (leBytes 1 l.length ++ l)))) :: s.out } := by
  simp [smbRead, State.emit, Out.onLane]

/-- The block reads of Table 17-8 and the words they answer with. -/
theorem exec_smbRead (h : s.glob.aonReset = false) {c : Instr} {code : Nat} {l : List Byte}
    (hc : (c, code, l) ∈ [(Instr.smbStatusRead, 0x01, wordBytes s.smbStatus), (.smbFaultCodeRead, 0x03, wordBytes s.smbCode),
      (.smbLogRead, 0x05, wordBytes s.smbLog), (.smbSnapRead, 0x07, wordBytes s.smbSnap), (.smbCauseRead, 0x08, wordBytes s.smbCause)]) :
    exec c s = .next (smbRead code l s) := by
  simp only [List.mem_cons, Prod.mk.injEq, List.not_mem_nil, or_false] at hc
  rcases hc with ⟨rfl, rfl, rfl⟩ | ⟨rfl, rfl, rfl⟩ | ⟨rfl, rfl, rfl⟩ | ⟨rfl, rfl, rfl⟩ | ⟨rfl, rfl, rfl⟩ <;>
    exact congrArg Host.Outcome.next (State.whenAon_up h _)

/-! ## Writes -/

theorem State.smbPec_lt (s : State) (code : Nat) (l : List Byte) : s.smbPec code l < 256 := Nat.mod_lt _ (by decide)

/-- A write without a PEC, or with the right one, is performed. -/
theorem smbWrite_good {code : Nat} {l : List Byte} {pec : Option (BitVec 8)}
    (h : pec = none ∨ pec = some (BitVec.ofNat 8 (s.smbPec code l))) (f : State → State) : smbWrite code l pec f s = f s := by
  rcases h with rfl | rfl
  · rfl
  · have hpec : (BitVec.ofNat 8 (s.smbPec code l)).toNat = s.smbPec code l :=
      (BitVec.toNat_ofNat _ _).trans (Nat.mod_eq_of_lt (s.smbPec_lt code l))
    exact if_pos hpec

theorem smbWrite_bad {code : Nat} {l : List Byte} {p : BitVec 8} (h : p.toNat ≠ s.smbPec code l) (f : State → State) :
    smbWrite code l (some p) f s = s.raise .SAF_SMBUS_PEC := if_neg h

theorem exec_smbWake (h : s.glob.aonReset = false) (pec : Option (BitVec 8)) :
    exec (.smbWake pec) s = .next (smbWrite 0x10 [] pec (fun s => s.wake 2) s) := congrArg Host.Outcome.next (State.whenAon_up h _)

theorem exec_smbRimshot (h : s.glob.aonReset = false) (pec : Option (BitVec 8)) :
    exec (.smbRimshot pec) s = .next (smbWrite 0x11 [] pec (rimshot 0 0) s) := congrArg Host.Outcome.next (State.whenAon_up h _)

theorem rimshot_off {src : Nat} (h : s.rimOn src = false) (code : Nat) : rimshot src code s = s := by simp [rimshot, h]

/-- Wake source 2 starts the exit from HUSH; in RUN it is only latched (R504, R505). -/
theorem wake_two_hush (hst : s.power.state = .hush) (htr : s.power.transit = .none) : s.wake 2 = (s.woken 2).setTransit .exitHush := by
  simp [State.wake_on s (src := 2) (by decide) rfl, hst, htr]

theorem wake_two_run (hst : s.power.state = .run) (htr : s.power.transit = .none) : s.wake 2 = s.woken 2 := by
  simp [State.wake_on s (src := 2) (by decide) rfl, hst, htr]

/-! ## The obligation -/

/-- Settles O55: reads by `smbRead_eq`, writes by their PEC (`smbWrite_good`, `smbWrite_bad`), the wake by `State.wake_on` and the rimshot by
`rimTake_captures`. -/
theorem sideband : Obligations.Sideband := by
  unfold Obligations.Sideband
  refine ⟨?read, ?words, ?badPec, ?code, ?log, ?group, ?wakeHush, ?wakeRun, ?rimshot, ?silent⟩
  case read =>
    rintro s c code _ l _ hc haon rfl rfl
    rw [exec_smbRead haon hc, smbRead_eq]
    rfl
  case words =>
    intro s
    exact ⟨rfl, rfl, rfl, by simp [State.smbSnap], rfl⟩
  case badPec =>
    intro s c code b p k l hc haon hp
    simp only [List.mem_cons, Prod.mk.injEq, List.not_mem_nil, or_false] at hc
    rcases hc with ⟨rfl, rfl, rfl⟩ | ⟨rfl, rfl, rfl⟩ | ⟨rfl, rfl, rfl⟩ | ⟨rfl, rfl, rfl⟩ | ⟨rfl, rfl, rfl⟩ <;>
      exact congrArg Host.Outcome.next ((State.whenAon_up haon _).trans (smbWrite_bad hp _))
  case code =>
    intro s code pec haon hpec
    exact congrArg Host.Outcome.next ((State.whenAon_up haon _).trans (smbWrite_good hpec _))
  case log =>
    intro s b pec haon hpec
    exact congrArg Host.Outcome.next ((State.whenAon_up haon _).trans (smbWrite_good hpec _))
  case group =>
    intro s b pec haon hpec
    exact congrArg Host.Outcome.next ((State.whenAon_up haon _).trans (smbWrite_good hpec _))
  case wakeHush =>
    intro s pec haon hpec hst htr
    obtain ⟨l, hl⟩ := s.woken_eq (src := 2) (by decide)
    rw [exec_smbWake haon, smbWrite_good hpec, wake_two_hush hst htr, hl]
    exact ⟨_, rfl, rfl⟩
  case wakeRun =>
    intro s pec haon hpec hst htr
    obtain ⟨l, hl⟩ := s.woken_eq (src := 2) (by decide)
    rw [exec_smbWake haon, smbWrite_good hpec, wake_two_run hst htr, hl]
    exact ⟨_, rfl, rfl⟩
  case rimshot =>
    intro s pec haon hpec hon hcol hcap hheld
    obtain ⟨⟨h, hseq, hsrc, -⟩, hframe⟩ := rimTake_captures (src := 0) (by decide) hcap hheld 0 s.stageT
    rw [exec_smbRimshot haon, smbWrite_good hpec, rimshot_takes hon hcol]
    exact ⟨_, rfl, h, hseq, hsrc, hframe⟩
  case silent =>
    intro s pec haon hpec hoff
    rw [exec_smbRimshot haon, smbWrite_good hpec, rimshot_off hoff]

end Sys2Proof.Machine

/-! PROOFS. A read of TL_STATUS (R565). -/

namespace Sys2Proof.Machine

/-- A READY device with one TL-40 personality, whose RC word holds a bit above the eight of Table 19-5. -/
def wideRcDev : State :=
  { State.reset with
    glob := { GlobalSt.reset with ready := true }
    str := { Structure.safeStructure with safe := false, mode := 1 }
    tl := Vector.replicate 4 { Pers.reset with rc := 256 } }

theorem wideRcDev_window : wideRcDev.up ∧ wideRcDev.hasPers 0 = true := by decide +kernel

theorem exec_tlStatusRead {s : State} (h : s.up) (j : Fin 4) (hj : s.hasPers j = true) : exec (.tlStatusRead j) s = .next (tlStatusRead j s) := by
  obtain ⟨hready, hdorm⟩ := h
  have hstate : (s.power.state == .dormant) = false := by simpa using hdorm
  refine congrArg Host.Outcome.next ?_
  simp [State.winAccess, hready, hj, hstate]

/-- The device answers with the eight RC bits, which are 0. -/
theorem wideRcDev_answer : (tlStatusRead 0 wideRcDev).out = [.windowRead 0 0] := by decide +kernel

theorem wideRcDev_status : (wideRcDev.pers 0).status = 256 := by decide +kernel

/-- Refutes O60: the clause on a read of TL_STATUS answers with the status as it stands, whatever RC holds, but the device answers with its
eight RC bits alone. RC of `wideRcDev` holds a bit above them, which spills into STATE of the claimed answer. -/
theorem not_tlWindow : ¬ Obligations.TlWindow := by
  unfold Obligations.TlWindow
  intro h
  obtain ⟨-, hread, -⟩ := h
  obtain ⟨hup, hpers⟩ := wideRcDev_window
  have hexec := hread wideRcDev 0 hup hpers rfl
  rw [exec_tlStatusRead hup 0 hpers] at hexec
  injection hexec with hstate
  have hout := congrArg (fun t : State => t.out.head?) hstate
  have hclaim : some (Out.windowRead 0 0) = some (.windowRead 0 (wideRcDev.pers 0).status) := by
    have hanswer : (tlStatusRead 0 wideRcDev).out.head? = some (.windowRead 0 0) := congrArg List.head? wideRcDev_answer
    exact hanswer.symm.trans hout
  rw [wideRcDev_status] at hclaim
  exact absurd hclaim (by decide)

end Sys2Proof.Machine

/-! PROOFS. TL-40 personalities: their events, their RC bits, and how their stripes are aborted (R564, R565, R583, R584). -/

namespace Sys2Proof.Machine

variable {s : State}

/-! ## One personality of four -/

theorem State.pers_setPers {j : Nat} (hj : j < 4) (p : Pers) (i : Nat) (s : State) : (s.setPers j p).pers i = if i = j then p else s.pers i := by
  simp only [State.pers, State.setPers]
  by_cases h : i = j
  · subst h; simp [hj]
  · rw [Vector.getElem?_setIfInBounds_ne (Ne.symm h), if_neg h]

theorem State.pers_setPers_same {j : Nat} (hj : j < 4) (p : Pers) (s : State) : (s.setPers j p).pers j = p := by
  rw [State.pers_setPers hj, if_pos rfl]

theorem State.pers_setPers_ne {i j : Nat} (h : i ≠ j) (p : Pers) (s : State) : (s.setPers j p).pers i = s.pers i := by
  simp only [State.pers, State.setPers]
  rw [Vector.getElem?_setIfInBounds_ne (Ne.symm h)]

theorem State.setPers_setPers (j : Nat) (p q : Pers) (s : State) : (s.setPers j p).setPers j q = s.setPers j q := by
  have hset : (s.tl.setIfInBounds j p).setIfInBounds j q = s.tl.setIfInBounds j q := by
    refine Vector.ext fun i hi => ?_
    simp only [Vector.getElem_setIfInBounds]
    split <;> rfl
  simp only [State.setPers, hset]

theorem State.pers_congr {t : State} (h : t.tl = s.tl) (i : Nat) : t.pers i = s.pers i := by rw [State.pers, h, ← State.pers]

/-- A personality that exists is one of the four, on a device that is not native. -/
theorem State.hasPers_iff (s : State) (j : Nat) : s.hasPers j = true ↔ s.native = false ∧ j < s.str.mode := by simp [State.hasPers]

/-! ## Events and accesses to a window -/

theorem State.whenPers_up (h : s.up) {j : Nat} (hj : s.hasPers j = true) (f : State → State) : s.whenPers j f = f s := by
  simp [State.whenPers, State.whenReady_up h, hj]

theorem State.winAccess_up (h : s.up) {j : Nat} (hj : s.hasPers j = true) (off : Nat) (v : Word) (f : State → State) :
    s.winAccess j off v f = f s := by
  obtain ⟨hready, hdorm⟩ := h
  simp [State.winAccess, hready, hj, hdorm]

section
variable (h : s.up) {j : Fin 4} (hj : s.hasPers j = true)
include h hj

theorem exec_tlCommitRunIn : exec (.tlCommitRunIn j) s = .next (tlRunIn j s) := congrArg Host.Outcome.next (State.whenPers_up h hj _)
theorem exec_tlDone : exec (.tlDone j) s = .next (tlDone j s) := congrArg Host.Outcome.next (State.whenPers_up h hj _)
theorem exec_tl40FrameStart : exec (.tl40FrameStart j) s = .next (tlFrame j s) := congrArg Host.Outcome.next (State.whenPers_up h hj _)
theorem exec_tlAbort : exec (.tlAbort j) s = .next (tlAbort j s) := congrArg Host.Outcome.next (State.winAccess_up h hj _ _ _)
theorem exec_fifoReset : exec (.fifoReset j) s = .next (tlFifoReset j s) := congrArg Host.Outcome.next (State.winAccess_up h hj _ _ _)

end

/-! ## RC bits (R565) -/

/-- RC bit b is set. -/
def Pers.flag (p : Pers) (b : Nat) : Pers := { p with rc := if bit p.rc b = 1 then p.rc else p.rc + 2 ^ b }

theorem State.tlRc_eq (s : State) (j b : Nat) : s.tlRc j b = { s with tl := (s.tlRc j b).tl, out := (s.tlRc j b).out, cyc := (s.tlRc j b).cyc } := by
  simp only [State.tlRc]
  split
  · rfl
  · split
    · rw [State.emit_eq]; rfl
    · rfl

theorem State.pers_tlRc_same {j : Nat} (hj : j < 4) (b : Nat) (s : State) : (s.tlRc j b).pers j = (s.pers j).flag b := by
  simp only [State.tlRc, Pers.flag]
  split
  · rfl
  · split
    · exact (State.pers_congr (State.emit_tl _ _) j).trans (State.pers_setPers_same hj _ _)
    · exact State.pers_setPers_same hj _ _

theorem State.pers_tlRc_ne {i j : Nat} (h : i ≠ j) (b : Nat) (s : State) : (s.tlRc j b).pers i = s.pers i := by
  simp only [State.tlRc]
  split
  · rfl
  · split
    · exact (State.pers_congr (State.emit_tl _ _) i).trans (State.pers_setPers_ne h _ _)
    · exact State.pers_setPers_ne h _ _

/-- The RC bits that R565 names: DONE 0, ABORTED 1, UNDERRUN 4. -/
theorem Pers.flag_zero (p : Pers) : bit (p.flag 0).rc 0 = 1 := by
  unfold Pers.flag bit; dsimp only; split <;> omega

theorem Pers.flag_one (p : Pers) : bit (p.flag 1).rc 1 = 1 ∧ (bit p.rc 4 = 1 → bit (p.flag 1).rc 4 = 1) := by
  unfold Pers.flag bit; dsimp only; split <;> omega

theorem Pers.flag_four (p : Pers) : bit (p.flag 4).rc 4 = 1 := by
  unfold Pers.flag bit; dsimp only; split <;> omega

theorem Pers.flag_seven (p : Pers) : (bit p.rc 1 = 1 → bit (p.flag 7).rc 1 = 1) ∧ (bit p.rc 4 = 1 → bit (p.flag 7).rc 4 = 1) := by
  unfold Pers.flag bit; dsimp only; split <;> omega

/-! ## Entry to ABORTED (R583) -/

theorem tlAborted_eq (j : Nat) (s : State) : tlAborted j s =
    { s with tl := (tlAborted j s).tl, bob := (s.stopTiles j).bob, out := (tlAborted j s).out, cyc := (tlAborted j s).cyc } := by
  unfold tlAborted
  extract_lets p
  rw [State.tlRc_eq]
  rfl

/-- The personality in ABORTED with its line and its RC bit. -/
def Pers.aborted (p : Pers) (line : Nat) : Pers := ({ p with state := .aborted, abortLine := line, startPending := false } : Pers).flag 1

theorem pers_tlAborted_same {j : Nat} (hj : j < 4) (s : State) : (tlAborted j s).pers j = (s.pers j).aborted (s.persWhere j) := by
  unfold tlAborted
  extract_lets p
  rw [State.pers_tlRc_same hj, State.pers_setPers_same hj]
  rfl

theorem pers_tlAborted_ne {i j : Nat} (h : i ≠ j) (s : State) : (tlAborted j s).pers i = s.pers i := by
  unfold tlAborted
  extract_lets p
  rw [State.pers_tlRc_ne h, State.pers_setPers_ne h]
  rfl

theorem tiles_stopTiles {j : Nat} (hj : j < 4) (s : State) : (s.stopTiles j).tiles j = (s.tiles j).drop := by
  have hsame : ((s.eachUnit j BobUnit.drop).setTiles j (s.tiles j).drop).tiles j = (s.tiles j).drop := by
    simp [State.tiles, State.setTiles, hj]
  exact hsame

/-! ## Levels of the lanes that waited (R330) -/

/-- A lane takes levels that waited. -/
theorem setTaps_setLane_eq (u : State) (n a b c : Nat) (l : Lane) :
    (u.setTaps n a b c).setLane n l = { u with regs := (u.setTaps n a b c).regs, caril := (u.setLane n l).caril } := rfl

theorem settleTaps_eq (j : Nat) (s : State) :
    settleTaps j s = { s with regs := (settleTaps j s).regs, caril := (settleTaps j s).caril } := by
  have hframe : ∃ r c, settleTaps j s = { s with regs := r, caril := c } := by
    unfold settleTaps
    refine List.foldlRecOn (motive := fun u : State => ∃ r c, u = { s with regs := r, caril := c }) _ _ ⟨s.regs, s.caril, rfl⟩ ?_
    rintro u ⟨r, c, rfl⟩ n -
    split
    · rw [setTaps_setLane_eq]
      exact ⟨_, _, rfl⟩
    · exact ⟨_, _, rfl⟩
  obtain ⟨r, c, h⟩ := hframe
  rw [h]

end Sys2Proof.Machine

/-! PROOFS. Stripes of the TL-40 personalities (R577, R578, R583, R584, R328). -/

namespace Sys2Proof.Machine

variable {s : State}

/-! ## RUN_IN and DONE -/

theorem tlRunIn_enters {j : Nat} (ha : (s.pers j).state = .armed) (hp : (s.pers j).startPending = true) (hc : (s.pers j).committed = true) :
    tlRunIn j s = (s.setPers j { s.pers j with state := .runIn, startPending := false, beat := 0, sent := 0, lastEdge := none }).mark
      (.persRunIn j) := by
  simp [tlRunIn, ha, hp, hc]

theorem tlRunIn_waits {j : Nat} (h : (s.pers j).state ≠ .armed ∨ (s.pers j).startPending = false ∨ (s.pers j).committed = false) :
    tlRunIn j s = s := by
  rcases h with h | h | h <;> simp [tlRunIn, h]

theorem tlDone_ends {j : Nat} (hr : (s.pers j).state = .runOut) (ht : (s.pers j).runOutAt + 2000000 ≤ s.now) :
    tlDone j s = (s.setPers j { s.pers j with state := .done }).tlRc j 0 := by
  simp [tlDone, hr, ht]

theorem tlDone_waits {j : Nat} (h : (s.pers j).state ≠ .runOut ∨ s.now < (s.pers j).runOutAt + 2000000) : tlDone j s = s := by
  rcases h with h | h
  · simp [tlDone, h]
  · simp [tlDone, Nat.not_le.2 h]

/-! ## Beats (R578) -/

/-- The edge at t executes the next beat of a personality, which is not its last. -/
def Pers.beaten (p : Pers) (t : Int) : Pers :=
  { p with state := .exposing, beat := p.beat + 1, beat24 := p.beat % 2 ^ 24, lastEdge := some t }

/-- An edge at which the only personality is in RUN_IN, its frame sent and its ring filled, executes a beat and does no more. -/
theorem tlEdge_beats {p : Pers} (t : Int) (hl : s.persList = [0]) (hcyc : s.cyc = []) (hp : p = s.pers 0) (hr : p.state = .runIn)
    (he : p.lastEdge = none) (hsent : p.beat < p.sent) (hlast : p.beat < p.lines + 1007) (hring : min p.lines (p.beat + 65) ≤ p.ring) :
    tlEdge t s = s.setPers 0 (p.beaten t) := by
  subst hp
  have hfast : (s.pers 0).tooFast t = false := by simp [Pers.tooFast, he]
  have hmiss : (s.pers 0).frameMissing = false := by simp [Pers.frameMissing, hr]; omega
  have hlate : tlStartLate s 0 = s := by simp [tlStartLate, hr, State.saw, hcyc]
  have hbeat : tlBeat t s 0 = s.setPers 0 ((s.pers 0).beaten t) := by
    have hne : ((s.pers 0).beat = (s.pers 0).lines + 1007) = False := eq_false (by omega)
    simp [tlBeat, hr, hne, Pers.beaten]
  have hunder : tlUnderrun (s.setPers 0 ((s.pers 0).beaten t)) 0 = s.setPers 0 ((s.pers 0).beaten t) := by
    have hin : ¬ (s.pers 0).ring < min (s.pers 0).lines ((s.pers 0).beat + 1 + 64) := by omega
    simp only [tlUnderrun, State.pers_setPers_same (by decide : 0 < 4)]
    simp [Pers.beaten, hin]
  have hlist : (s.setPers 0 ((s.pers 0).beaten t)).persList = [0] := hl
  simp [tlEdge, hl, hfast, hmiss, hlate, hbeat, hlist, hunder]

/-- Where an edge lies within the present 2 ns (R360): a free value. -/
def State.edgeOffset (s : State) : Nat := (s.free 5).1 % 20

/-- An edge that is counted: the pulse joins the transfer `x`, and its instant is noted (R360, R491). -/
def State.edgeCounted (s : State) (x : PulseXing) (t : Int) : State :=
  let u := ({ s with freeCount := s.freeCount + 1, clock := { s.clock with edges := x } } : State).bumpWrap F.STAGE_EXT_COUNT_COUNT
  { u with stage := { u.stage with extLast := some t } }

theorem countEdge_counts {x : PulseXing} (hfirst : s.stage.extLast = none) (hopen : s.clock.edges.isOpen = true)
    (hx : s.clock.edges.event = some x) (f : Int → State → State) :
    countEdge f s = f (s.stageT + s.edgeOffset) (s.edgeCounted x (s.stageT + s.edgeOffset)) := by
  simp only [countEdge, edgeAt, State.free, hfirst, hopen, hx]
  rfl

theorem State.edgeCounted_frame (s : State) (x : PulseXing) (t : Int) : s.edgeCounted x t =
    { s with regs := (s.edgeCounted x t).regs, stage := { s.stage with extLast := some t }, clock := { s.clock with edges := x },
             freeCount := s.freeCount + 1 } := rfl

theorem exec_beatExtEdge (h : s.up) (hn : s.native = false) : exec .beatExtEdge s = .next (countEdge tlEdge s) := by
  refine congrArg Host.Outcome.next ((State.whenReady_up h _).trans ?_)
  simp [hn]

/-! ## Damps of a personality (R583) -/

theorem State.pers_setFd (s : State) (x : RegField) (v i k : Nat) : (s.setFd x v i).pers k = s.pers k := rfl

theorem pers_dampPers_ne {i k : Nat} (h : i ≠ k) (cause node : Nat) (s : State) : (dampPers cause node s k).pers i = s.pers i := by
  simp only [dampPers]
  split
  · rw [State.pers_setFd, State.pers_setFd, State.pers_setFd, pers_tlAborted_ne h, State.pers_tlRc_ne h]
  · exact State.pers_tlRc_ne h 7 s

/-- A stripe that a damp has aborted: its RC bits, and the cause in the abort record. -/
def State.Damped (s : State) (j cause : Nat) : Prop :=
  (s.pers j).state = .aborted ∧ bit (s.pers j).rc 4 = 1 ∧ bit (s.pers j).rc 1 = 1 ∧ s.fd F.PLAN_ABORT_CAUSE_FAULT = cause

/-- The abort record of a personality (R583). -/
theorem fault_abortRecord (u : State) {cause : Nat} (hc : cause < 65536) (node line : Nat) :
    (((u.setFd F.PLAN_ABORT_CAUSE_FAULT cause).setFd F.PLAN_ABORT_CAUSE_NODE node).setFd F.PLAN_ABORT_WHERE_LINE line).fd
      F.PLAN_ABORT_CAUSE_FAULT = cause := by
  have hsame := u.fd_setFd_same F.PLAN_ABORT_CAUSE_FAULT cause 0 (by decide)
  rw [State.fd_setFd_ne _ _ _ _ _ _ (by decide),
    State.fd_setFd_other _ F.PLAN_ABORT_CAUSE_NODE F.PLAN_ABORT_CAUSE_FAULT _ _ (by decide) rfl (by decide), hsame]
  exact Nat.mod_eq_of_lt hc

theorem State.fd_tlRc (s : State) (j b : Nat) (x : RegField) (i : Nat) : (s.tlRc j b).fd x i = s.fd x i := by rw [State.tlRc_eq]; rfl

theorem dampPers_damps {j cause : Nat} (hj : j < 4) (hc : cause < 65536) (node : Nat) (hr : (s.pers j).state = .runIn ∨ (s.pers j).state = .exposing)
    (hu : bit (s.pers j).rc 4 = 1) : (dampPers cause node s j).Damped j cause := by
  have hst : ((s.pers j).state == .runIn || (s.pers j).state == .exposing || s.persLast j) = true := by rcases hr with h | h <;> simp [h]
  have hpers : (dampPers cause node s j).pers j = ((s.pers j).flag 7).aborted ((s.tlRc j 7).persWhere j) := by
    simp only [dampPers, hst, if_true]
    rw [State.pers_setFd, State.pers_setFd, State.pers_setFd, pers_tlAborted_same hj, State.pers_tlRc_same hj]
  refine ⟨?_, ?_, ?_, ?_⟩
  · rw [hpers]; rfl
  · rw [hpers]
    exact (Pers.flag_one _).2 ((Pers.flag_seven _).2 hu)
  · rw [hpers]
    exact (Pers.flag_one _).1
  · simp only [dampPers, hst, if_true]
    exact fault_abortRecord _ hc _ _

/-- A damp that meets an aborted stripe, or another personality, leaves the abort. -/
theorem dampPers_keeps {j k cause : Nat} (hc : cause < 65536) (node : Nat) (hj : j < 4) (h : s.Damped j cause) :
    (dampPers cause node s k).Damped j cause := by
  obtain ⟨hst, h4, h1, hf⟩ := h
  have hfd : (dampPers cause node s k).fd F.PLAN_ABORT_CAUSE_FAULT = cause := by
    simp only [dampPers]
    split
    · exact fault_abortRecord _ hc _ _
    · rw [State.fd_tlRc]; exact hf
  by_cases hjk : j = k
  · subst hjk
    have hno : ((s.pers j).state == .runIn || (s.pers j).state == .exposing || s.persLast j) = false := by simp [State.persLast, hst]
    have hpers : (dampPers cause node s j).pers j = (s.pers j).flag 7 := by
      simp only [dampPers, hno]
      exact State.pers_tlRc_same hj 7 s
    refine ⟨?_, ?_, ?_, hfd⟩
    · rw [hpers]; exact hst
    · rw [hpers]; exact (Pers.flag_seven _).2 h4
    · rw [hpers]; exact (Pers.flag_seven _).1 h1
  · refine ⟨?_, ?_, ?_, hfd⟩ <;> rw [pers_dampPers_ne hjk]
    · exact hst
    · exact h4
    · exact h1

/-- A damp that reaches every personality of a list aborts the running stripe of each. -/
theorem dampPers_foldl {j cause : Nat} (hj : j < 4) (hc : cause < 65536) (node : Nat) {l : List Nat} (hl : j ∈ l)
    (hr : (s.pers j).state = .runIn ∨ (s.pers j).state = .exposing) (hu : bit (s.pers j).rc 4 = 1) :
    (l.foldl (dampPers cause node) s).Damped j cause := by
  have hkeeps : ∀ (l : List Nat) (u : State), u.Damped j cause → (l.foldl (dampPers cause node) u).Damped j cause := fun l u h =>
    List.foldlRecOn (motive := fun u => State.Damped u j cause) l _ h fun u hu k _ => dampPers_keeps hc node hj hu
  induction l generalizing s with
  | nil => exact absurd hl List.not_mem_nil
  | cons k l ih =>
    rw [List.foldl_cons]
    by_cases hk : k = j
    · subst hk
      exact hkeeps l _ (dampPers_damps hj hc node hr hu)
    · have hmem : j ∈ l := (List.mem_cons.1 hl).resolve_left (Ne.symm hk)
      have hp := pers_dampPers_ne (i := j) (Ne.symm hk) cause node s
      exact ih hmem (by rwa [hp]) (by rwa [hp])

/-- On a device that is not native a damp takes the lanes, and then reaches each personality. -/
theorem State.damp_foreign (hn : s.native = false) (loc : Bool) (cause node : Nat) : s.damp loc cause node =
    s.persList.foldl (dampPers cause node) (s.damped loc cause node) := by
  have hdamp : s.damp loc cause node =
      (if (s.damped loc cause node).native then dampStripe cause node false false none (s.damped loc cause node)
        else s.damped loc cause node).persList.foldl (dampPers cause node)
      (if (s.damped loc cause node).native then dampStripe cause node false false none (s.damped loc cause node)
        else s.damped loc cause node) := by unfold State.damped State.lanesTaken; rfl
  have hnative : (s.damped loc cause node).native = false := (State.native_congr (State.damped_str _)).trans hn
  have hlist : (s.damped loc cause node).persList = s.persList := by
    rw [State.persList, State.persList, hnative, hn, State.damped_str]
  rw [hdamp, hnative, if_neg Bool.false_ne_true, hlist]

theorem State.damped_tl (s : State) (loc : Bool) (cause node : Nat) : (s.damped loc cause node).tl = s.tl := by
  rw [State.damped, State.sourced_eq, State.lanesTaken_eq]

theorem dampPers_caril (cause node : Nat) (s : State) (j : Nat) : (dampPers cause node s j).caril = s.caril := by
  simp only [dampPers]
  split
  · rw [State.setFd_caril, State.setFd_caril, State.setFd_caril, tlAborted_eq, State.tlRc_eq]
  · rw [State.tlRc_eq]

theorem State.fault_of_undamped {t : State} (h : t.undamped = s.undamped) : t.fault = s.fault :=
  congrArg (fun u : (Reg → Nat → Word) × State => u.2.fault) h

/-- A local damp source of a personality whose stripe runs aborts it with UNDERRUN (R583). -/
theorem tlDamp_aborts {j : Nat} (hj : j < 4) (hp : s.hasPers j = true) (hr : (s.pers j).state = .runIn ∨ (s.pers j).state = .exposing)
    {c : FaultCode} (hc : c.num < 65536) : (tlDamp j 4 c s).Damped j c.num ∧ (tlDamp j 4 c s).caril.latch = true ∧
      (tlDamp j 4 c s).fault = (s.raise c).fault := by
  obtain ⟨hn, hmode⟩ := (s.hasPers_iff j).1 hp
  generalize hu : (s.tlRc j 4).raise c = u
  have hstr : u.str = s.str := by rw [← hu, State.raise_str, State.tlRc_eq]
  have hpers : u.pers j = (s.pers j).flag 4 := by
    rw [← hu, State.pers_congr (State.raise_tl _ _), State.pers_tlRc_same hj]
  have hfault : u.fault = (s.raise c).fault := by
    rw [← hu, State.raise_fault_congr (s := s) (by rw [State.tlRc_eq])]
  have hnative : u.native = false := (State.native_congr hstr).trans hn
  have hlist : j ∈ u.persList := by
    rw [State.persList, hnative, if_neg Bool.false_ne_true, hstr, List.mem_range]
    exact hmode
  have hdamp : tlDamp j 4 c s = u.persList.foldl (dampPers c.num (s.tlRc j 4).node) (u.damped true c.num (s.tlRc j 4).node) := by
    rw [← State.damp_foreign hnative, ← hu]; rfl
  have hdpers : (u.damped true c.num (s.tlRc j 4).node).pers j = (s.pers j).flag 4 :=
    (State.pers_congr (State.damped_tl _ _ _ _) j).trans hpers
  refine ⟨?_, ?_, ?_⟩
  · rw [hdamp]
    exact dampPers_foldl hj hc _ hlist (by rw [hdpers]; exact hr) (by rw [hdpers]; exact Pers.flag_four _)
  · rw [hdamp, foldl_keeps State.caril _ (fun v k => dampPers_caril _ _ v k), State.damped_latch, Bool.or_true]
  · rw [← hfault]
    refine State.fault_of_undamped ?_
    rw [← State.damp_undamped u true c.num (s.tlRc j 4).node, State.damp_foreign hnative, hdamp]

/-! ## Frames (R328, R568) -/

theorem tlFrame_quiet {j : Nat} (h : ((s.pers j).state ≠ .runIn ∧ (s.pers j).state ≠ .exposing) ∨ (s.pers j).sent ≠ (s.pers j).beat) :
    tlFrame j s = s := by
  rcases h with ⟨h1, h2⟩ | h <;> simp [tlFrame, *]

section
variable {j : Nat} {p : Pers} (hp : p = s.pers j) (hr : p.state = .runIn ∨ p.state = .exposing) (hsent : p.sent = p.beat)
  (hgen : s.generatorOn = false) (hd : p.damping = false)
include hp hr hsent hgen hd

theorem tlFrame_late (hring : p.ring < min p.lines (p.beat + 1)) :
    tlFrame j s = tlDamp j 4 .CAR_LATE_PEAL (s.setPers j { p with sent := p.beat + 1 }) := by
  subst hp
  have hst : ((s.pers j).state == .runIn || (s.pers j).state == .exposing) = true := by rcases hr with h | h <;> simp [h]
  simp only [tlFrame, hst, hsent, hgen, hd, hring]
  simp

theorem tlFrame_sends (hring : min p.lines (p.beat + 1) ≤ p.ring) (hpoison : s.tlPoison j p.beat = false) :
    tlFrame j s = tlSend j p.beat false (s.setPers j { p with sent := p.beat + 1 }) := by
  subst hp
  have hst : ((s.pers j).state == .runIn || (s.pers j).state == .exposing) = true := by rcases hr with h | h <;> simp [h]
  simp only [tlFrame, hst, hsent, hgen, hd, Nat.not_lt.2 hring, hpoison]
  simp

end

/-- What lane n of personality j sends at beat k (R568, Table 8-12). -/
def State.laneFrame (s : State) (j k n : Nat) : Out :=
  .tlFrame (4 * j + n) (tlFrameBytes k (if k = (s.pers j).lines + 1007 then 2 else 0) ((List.range 1024).map (s.tlCode j k n)))

/-- Lane n of personality j sends its part of the frame of beat k. -/
def sendLane (j k flags : Nat) (s : State) (n : Nat) : State :=
  let l := s.lane (4 * j + n)
  if l.tx == .data then
    (s.setLane (4 * j + n) { l with wire := some (s.now + 422400) }).emit
      (.tlFrame (4 * j + n) (tlFrameBytes k flags ((List.range 1024).map (s.tlCode j k n))))
  else s

theorem tlSend_eq (j k : Nat) (s : State) :
    tlSend j k false s = (List.range 4).foldl (sendLane j k (b2n false + 2 * b2n (decide (k = (s.pers j).lines + 1007)))) s := rfl

theorem flags_eq (k l : Nat) : b2n false + 2 * b2n (decide (k = l + 1007)) = if k = l + 1007 then 2 else 0 := by
  by_cases h : k = l + 1007 <;> simp [h, b2n]

/-- Where JTAG does not drive the lanes, what the device sends leaves. -/
theorem State.emit_free (h : s.glob.jtag.drives = false) (o : Out) : s.emit o = { s with out := o :: s.out } := by simp [State.emit, h]

theorem sendLane_data {j n : Nat} (k flags : Nat) (hd : (s.lane (4 * j + n)).tx = .data) (hjtag : s.glob.jtag.drives = false) :
    sendLane j k flags s n = { s.setLane (4 * j + n) { s.lane (4 * j + n) with wire := some (s.now + 422400) } with
      out := .tlFrame (4 * j + n) (tlFrameBytes k flags ((List.range 1024).map (s.tlCode j k n))) :: s.out } := by
  have hgo : ((s.lane (4 * j + n)).tx == .data) = true := beq_iff_eq.2 hd
  exact (if_pos hgo).trans (State.emit_free (s := s.setLane (4 * j + n) _) hjtag _)

/-- Where the first m lanes of a personality have sent. -/
theorem sendLane_foldl {j : Nat} (hj : j < 4) (k : Nat) (hjtag : s.glob.jtag.drives = false)
    (hd : ∀ n, n < 4 → (s.lane (4 * j + n)).tx = .data) {m : Nat} (hm : m ≤ 4) :
    ∃ c, (List.range m).foldl (sendLane j k (if k = (s.pers j).lines + 1007 then 2 else 0)) s =
        { s with caril := c, out := (List.range m).reverse.map (s.laneFrame j k) ++ s.out } ∧
      ∀ n, n < 4 → ({ s with caril := c } : State).lane (4 * j + n) =
        if n < m then { s.lane (4 * j + n) with wire := some (s.now + 422400) } else s.lane (4 * j + n) := by
  induction m with
  | zero => exact ⟨s.caril, rfl, fun n _ => rfl⟩
  | succ m ih =>
    obtain ⟨c, hfold, hlane⟩ := ih (by omega)
    generalize hu : ({ s with caril := c, out := (List.range m).reverse.map (s.laneFrame j k) ++ s.out } : State) = u at hfold
    have hlane' : ∀ i, u.lane i = ({ s with caril := c } : State).lane i := fun i => by rw [← hu]; rfl
    have hdata : (u.lane (4 * j + m)).tx = .data := by
      rw [hlane', hlane m (by omega), if_neg (Nat.lt_irrefl m)]
      exact hd m (by omega)
    have hstep := sendLane_data (s := u) k (if k = (s.pers j).lines + 1007 then 2 else 0) hdata (by rw [← hu]; exact hjtag)
    refine ⟨(u.setLane (4 * j + m) { u.lane (4 * j + m) with wire := some (u.now + 422400) }).caril, ?_, fun n hn => ?_⟩
    · rw [List.range_succ, List.foldl_append, List.foldl_cons, List.foldl_nil, hfold, hstep, List.reverse_append, ← hu]
      rfl
    · have hset := State.lane_setLane u { u.lane (4 * j + m) with wire := some (u.now + 422400) } (by omega : 4 * j + m < 18) (4 * j + n)
      refine (State.lane_congr rfl (4 * j + n)).trans (hset.trans ?_)
      have hnow : u.now = s.now := by rw [← hu]
      by_cases hnm : n = m
      · subst hnm
        rw [if_pos rfl, if_pos (Nat.lt_succ_self n), hlane', hlane n hn, if_neg (Nat.lt_irrefl n), hnow]
      · rw [if_neg (by omega), hlane', hlane n hn]
        simp only [Nat.lt_succ_iff_lt_or_eq, hnm, or_false]

end Sys2Proof.Machine

/-! PROOFS. ABORT and FIFO_RESET of a personality (R579, R584), and the stripes of R577 to R584. -/

namespace Sys2Proof.Machine

variable {s : State}

/-! ## ABORT (R584) -/

/-- No tile was delivered in a cycle without notes. -/
theorem untile_quiet (hcyc : s.cyc = []) (j : Nat) : untile j s = s := by simp [untile, hcyc]

/-- The stripe of a personality that ABORT ends: its lanes are damped, and it is ABORTED. -/
def State.tlStopped (s : State) (j : Nat) : State := tlAborted j (dampLanes s (List.range' (4 * j) 4))

/-- The stripe of a personality that ABORT ends in ARMED, as DISARM does. -/
def State.tlDisarmed (s : State) (j : Nat) : State :=
  settleTaps j ((s.stopTiles j).setPers j { s.pers j with state := .idle, startPending := false })

theorem tlAbort_running (hcyc : s.cyc = []) {j : Nat} (hj : j < 4) (hr : (s.pers j).state.running = true) :
    ∃ b, tlAbort j s = (s.tlStopped j).setPers j { (s.tlStopped j).pers j with damping := true, beat24 := b, halted := false } := by
  refine ⟨if s.persLast j then ((s.pers j).beat - 2) % 2 ^ 24 else (s.pers j).beat24, ?_⟩
  simp only [tlAbort, untile_quiet hcyc, ite_self, hr, if_true]
  rw [State.pers_setPers_same hj, State.setPers_setPers]
  rfl

theorem tlAbort_armed (hcyc : s.cyc = []) {j : Nat} (ha : (s.pers j).state = .armed) :
    tlAbort j s = (s.tlDisarmed j).setPers j { (s.tlDisarmed j).pers j with halted := false } := by
  have hnot : (StripeState.armed.running) = false := rfl
  simp only [tlAbort, untile_quiet hcyc, ite_self, ha, hnot]
  rfl

theorem tlAbort_inactive {j : Nat} (hi : (s.pers j).state.active = false) : tlAbort j s = s.setPers j { s.pers j with halted := false } := by
  have hrun : (s.pers j).state.running = false := by revert hi; cases (s.pers j).state <;> decide
  have harm : ((s.pers j).state == .armed) = false := by revert hi; cases (s.pers j).state <;> decide
  simp only [tlAbort, hi, Bool.false_eq_true, if_false, hrun, harm]

/-! ### What it changes -/

theorem tlStopped_frame (s : State) (j : Nat) : s.tlStopped j =
    { s with tl := (s.tlStopped j).tl, bob := (s.tlStopped j).bob, regs := (s.tlStopped j).regs, caril := (s.tlStopped j).caril
             out := (s.tlStopped j).out, cyc := (s.tlStopped j).cyc } := by
  unfold State.tlStopped
  rw [tlAborted_eq, dampLanes_eq]

theorem pers_dampLanes (s : State) (l : List Nat) (i : Nat) : (dampLanes s l).pers i = s.pers i := by
  refine State.pers_congr ?_ i
  rw [dampLanes_eq]

theorem pers_tlStopped_same {j : Nat} (hj : j < 4) (s : State) : ∃ l, (s.tlStopped j).pers j = (s.pers j).aborted l :=
  ⟨_, (pers_tlAborted_same hj _).trans (by rw [pers_dampLanes])⟩

theorem pers_tlStopped_ne {i j : Nat} (h : i ≠ j) (s : State) : (s.tlStopped j).pers i = s.pers i :=
  (pers_tlAborted_ne h _).trans (pers_dampLanes s _ i)

theorem tiles_congr {t : State} (h : t.bob = s.bob) (j : Nat) : t.tiles j = s.tiles j := by rw [State.tiles, h, ← State.tiles]

theorem runs_stopTiles {j : Nat} (hj : j < 4) (s : State) : ((s.stopTiles j).tiles j).runs = [] := by rw [tiles_stopTiles hj]; rfl

theorem runs_tlStopped {j : Nat} (hj : j < 4) (s : State) : ((s.tlStopped j).tiles j).runs = [] := by
  have hbob : (s.tlStopped j).bob = ((dampLanes s (List.range' (4 * j) 4)).stopTiles j).bob := by
    unfold State.tlStopped
    rw [tlAborted_eq]
  rw [tiles_congr hbob, runs_stopTiles hj]

theorem tlDisarmed_frame (s : State) (j : Nat) : s.tlDisarmed j =
    { s with tl := ((s.stopTiles j).setPers j { s.pers j with state := .idle, startPending := false }).tl, bob := (s.stopTiles j).bob
             regs := (s.tlDisarmed j).regs, caril := (s.tlDisarmed j).caril } := by
  unfold State.tlDisarmed
  rw [settleTaps_eq]
  rfl

theorem pers_tlDisarmed (s : State) (j i : Nat) : (s.tlDisarmed j).pers i =
    ((s.stopTiles j).setPers j { s.pers j with state := .idle, startPending := false }).pers i := by
  refine State.pers_congr ?_ i
  rw [tlDisarmed_frame]

theorem runs_tlDisarmed {j : Nat} (hj : j < 4) (s : State) : ((s.tlDisarmed j).tiles j).runs = [] := by
  have hbob : (s.tlDisarmed j).bob = (s.stopTiles j).bob := by rw [tlDisarmed_frame]
  rw [tiles_congr hbob, runs_stopTiles hj]

/-! ## FIFO_RESET (R584) -/

/-- A personality whose FIFO is emptied and whose halt has ended. -/
def Pers.emptied (p : Pers) : Pers :=
  { p with fifo := p.fifo.drop 1024, part := [], half := if p.fifo.length ≤ 1024 then none else p.half, halted := false, haltAfter := false
           array := none }

theorem Pers.emptied_eq (p : Pers) (h : p.halted = false) : p.emptied = { p with
    fifo := p.emptied.fifo, part := p.emptied.part, half := p.emptied.half, haltAfter := p.emptied.haltAfter, array := p.emptied.array } := by
  cases p
  cases h
  rfl

theorem tlFifoReset_eq (j : Nat) (s : State) :
    ∃ c, tlFifoReset j s = ({ tlAbort j s with cyc := c } : State).setPers j ((tlAbort j s).pers j).emptied := by
  unfold tlFifoReset
  extract_lets t p
  split <;> exact ⟨_, rfl⟩

/-- Both commands of TL_CMD: what they leave of the personality that ABORT leaves, without its halt. -/
theorem exec_tlStop (h : s.up) {j : Fin 4} (hj : s.hasPers j = true) {c : Instr} (hc : c = .tlAbort j ∨ c = .fifoReset j)
    (hhalt : ((tlAbort j s).pers j).halted = false) :
    ∃ t q, exec c s = .next t ∧ t.pers j = q ∧ (∀ i : Fin 4, i ≠ j → t.pers i = (tlAbort j s).pers i) ∧
      t = { tlAbort j s with tl := t.tl, cyc := t.cyc } ∧ q.halted = false ∧ q = { (tlAbort j s).pers j with
        fifo := q.fifo, part := q.part, half := q.half, haltAfter := q.haltAfter, array := q.array } ∧
      (c = .fifoReset j → q.fifo = ((tlAbort j s).pers j).fifo.drop 1024 ∧ q.part = []) := by
  rcases hc with rfl | rfl
  · exact ⟨_, _, exec_tlAbort h hj, rfl, fun _ _ => rfl, rfl, hhalt, rfl, fun e => nomatch e⟩
  · obtain ⟨c, hreset⟩ := tlFifoReset_eq j s
    refine ⟨_, _, (exec_fifoReset h hj).trans (congrArg _ hreset), State.pers_setPers_same j.isLt _ _, fun i hi => ?_, rfl, rfl, ?_, fun _ => ⟨rfl, rfl⟩⟩
    · exact (State.pers_setPers_ne (fun e => hi (Fin.ext e)) _ _).trans (State.pers_congr rfl _)
    · exact Pers.emptied_eq _ hhalt

/-! ## The obligation -/

theorem Fin.val_ne_of_ne' {i j : Fin 4} (h : i ≠ j) : i.val ≠ j.val := fun e => h (Fin.ext e)

/-- Settles O59: each event by the branch of its definition that the stripe selects; the edge by `tlEdge_beats`, a frame by what the four
lanes send one after another (`sendLane_foldl`), a late one by the damp of R583 (`tlDamp_aborts`), ABORT and FIFO_RESET by the state that
`State.tlStopped` and `State.tlDisarmed` leave. -/
theorem tlStripes : Obligations.TlStripes := by
  unfold Obligations.TlStripes
  refine ⟨?runIn, ?noRunIn, ?done, ?notDone, ?edge, ?noFrame, ?late, ?sends, ?abort, ?disarm, ?abortIdle, ?resetIdle⟩
  case runIn =>
    rintro s j p hup hj rfl ha hp hc
    exact ⟨_, (exec_tlCommitRunIn hup hj).trans (congrArg _ (tlRunIn_enters ha hp hc)), State.pers_setPers_same j.isLt _ _,
      fun i hi => State.pers_setPers_ne (Fin.val_ne_of_ne' hi) _ _, rfl⟩
  case noRunIn =>
    rintro s j p hup hj rfl h
    rw [exec_tlCommitRunIn hup hj, tlRunIn_waits h]
  case done =>
    rintro s j p hup hj rfl hr ht
    have hpers : ((s.setPers j { s.pers j with state := .done }).tlRc j 0).pers j = ({ s.pers j with state := .done } : Pers).flag 0 := by
      rw [State.pers_tlRc_same j.isLt, State.pers_setPers_same j.isLt]
    refine ⟨_, (exec_tlDone hup hj).trans (congrArg _ (tlDone_ends hr ht)), ?_, ?_, fun i hi => ?_, ?_⟩
    · rw [hpers]; rfl
    · rw [hpers, Pers.flag_zero]
    · rw [State.pers_tlRc_ne (Fin.val_ne_of_ne' hi), State.pers_setPers_ne (Fin.val_ne_of_ne' hi)]
    · have hframe := State.tlRc_eq (s.setPers j { s.pers j with state := .done }) j 0
      exact hframe
  case notDone =>
    rintro s j p hup hj rfl h
    rw [exec_tlDone hup hj, tlDone_waits h]
  case edge =>
    rintro s p hup hj hmode hcyc rfl hr he hsent hfirst hopen hevent hlast hring
    obtain ⟨hn, -⟩ := (s.hasPers_iff 0).1 hj
    obtain ⟨x, hx⟩ := Option.ne_none_iff_exists'.1 hevent
    have hlist : (s.edgeCounted x (s.stageT + s.edgeOffset)).persList = [0] := by
      have hown : s.persList = [0] := by rw [State.persList, hn, hmode]; rfl
      exact hown
    have hbeat := tlEdge_beats (s := s.edgeCounted x (s.stageT + s.edgeOffset)) (p := s.pers 0) (s.stageT + s.edgeOffset) hlist hcyc rfl hr he
      hsent hlast hring
    refine ⟨_, (exec_beatExtEdge hup hn).trans (congrArg _ ((countEdge_counts hfirst hopen hx tlEdge).trans hbeat)), ?_, ?_, ?_, ?_, ?_, rfl, rfl⟩
    all_goals rw [State.pers_setPers_same (by decide)]; rfl
  case noFrame =>
    rintro s j p hup hj rfl h
    rw [exec_tl40FrameStart hup hj, tlFrame_quiet h]
  case late =>
    rintro s j p hup hj rfl hr hsent hgen hd hring
    have hpers : (s.setPers j { s.pers j with sent := (s.pers j).beat + 1 }).pers j = { s.pers j with sent := (s.pers j).beat + 1 } :=
      State.pers_setPers_same j.isLt _ _
    obtain ⟨⟨hst, h4, h1, hcause⟩, hlatch, hfault⟩ := tlDamp_aborts (s := s.setPers j { s.pers j with sent := (s.pers j).beat + 1 })
      (c := .CAR_LATE_PEAL) j.isLt hj (by rw [hpers]; exact hr) (by decide)
    rw [exec_tl40FrameStart hup hj, tlFrame_late rfl hr hsent hgen hd hring]
    generalize tlDamp j 4 .CAR_LATE_PEAL (s.setPers j { s.pers j with sent := (s.pers j).beat + 1 }) = t at hst hlatch hfault h4 h1 hcause ⊢
    exact ⟨t, rfl, hst, hlatch, hfault.trans (State.raise_fault_congr (s.setPers_fault _ _) _), h4, h1, hcause⟩
  case sends =>
    rintro s j p hup hj rfl hr hsent hgen hd hring hpoison hjtag hdata
    have hpers : (s.setPers j { s.pers j with sent := (s.pers j).beat + 1 }).pers j = { s.pers j with sent := (s.pers j).beat + 1 } :=
      State.pers_setPers_same j.isLt _ _
    have hcode : (s.setPers j { s.pers j with sent := (s.pers j).beat + 1 }).tlCode j = s.tlCode j := by
      funext k n b
      simp only [State.tlCode, hpers]
      rfl
    have hframes : (s.setPers j { s.pers j with sent := (s.pers j).beat + 1 }).laneFrame j (s.pers j).beat = s.laneFrame j (s.pers j).beat := by
      funext n
      simp only [State.laneFrame, hcode, hpers]
    obtain ⟨c, hfold, hlane⟩ := sendLane_foldl (s := s.setPers j { s.pers j with sent := (s.pers j).beat + 1 }) j.isLt (s.pers j).beat hjtag hdata
      (Nat.le_refl 4)
    rw [← flags_eq, ← tlSend_eq, hframes] at hfold
    rw [exec_tl40FrameStart hup hj, tlFrame_sends rfl hr hsent hgen hd hring hpoison, hfold]
    exact ⟨_, rfl, hpers, fun n hn => congrArg Lane.wire ((hlane n hn).trans (if_pos hn)), rfl, rfl⟩
  case abort =>
    rintro s j p c hup hj hcyc rfl hc hr
    obtain ⟨b, habort⟩ := tlAbort_running hcyc j.isLt hr
    obtain ⟨l, hpers⟩ := pers_tlStopped_same j.isLt s
    have hq : (tlAbort j s).pers j = { (s.pers j).aborted l with damping := true, beat24 := b, halted := false } := by
      rw [habort, State.pers_setPers_same j.isLt, hpers]
    obtain ⟨t, q, hexec, ht, hother, hframe, hhalt, hkeep, hreset⟩ := exec_tlStop hup hj hc (by rw [hq])
    rw [hq] at hkeep hreset
    refine ⟨t, hexec, ?_, ?_, ?_, ?_, ?_, ?_, ?_, ?_, ?_⟩
    · rw [ht, hkeep]; rfl
    · rw [ht, hhalt]
    · rw [ht, hkeep]
    · rw [ht, hkeep]; rfl
    · rw [ht, hkeep]; exact (Pers.flag_one _).1
    · have hbob : t.bob = (s.tlStopped j).bob := by rw [hframe, habort]; rfl
      rw [tiles_congr hbob, runs_tlStopped j.isLt]
    · intro e
      rw [ht]
      exact hreset e
    · intro i hi
      rw [hother i hi, habort, State.pers_setPers_ne (Fin.val_ne_of_ne' hi), pers_tlStopped_ne (Fin.val_ne_of_ne' hi)]
    · rw [hframe, habort, tlStopped_frame]
      rfl
  case disarm =>
    rintro s j p c hup hj hcyc rfl hc ha
    have habort := tlAbort_armed hcyc ha
    have hpers : (s.tlDisarmed j).pers j = { s.pers j with state := .idle, startPending := false } :=
      (pers_tlDisarmed s j j).trans (State.pers_setPers_same j.isLt _ _)
    have hq : (tlAbort j s).pers j = { s.pers j with state := .idle, startPending := false, halted := false } := by
      rw [habort, State.pers_setPers_same j.isLt, hpers]
    obtain ⟨t, q, hexec, ht, hother, hframe, hhalt, hkeep, hreset⟩ := exec_tlStop hup hj hc (by rw [hq])
    rw [hq] at hkeep hreset
    refine ⟨t, hexec, ?_, ?_, ?_, ?_, ?_, ?_, ?_⟩
    · rw [ht, hkeep]
    · rw [ht, hkeep]
    · rw [ht, hhalt]
    · have hbob : t.bob = (s.tlDisarmed j).bob := by rw [hframe, habort]; rfl
      rw [tiles_congr hbob, runs_tlDisarmed j.isLt]
    · intro e
      rw [ht]
      exact hreset e
    · intro i hi
      rw [hother i hi, habort, State.pers_setPers_ne (Fin.val_ne_of_ne' hi), pers_tlDisarmed, State.pers_setPers_ne (Fin.val_ne_of_ne' hi)]
      rfl
    · rw [hframe, habort, tlDisarmed_frame]
      rfl
  case abortIdle =>
    rintro s j p hup hj rfl hi
    rw [exec_tlAbort hup hj, tlAbort_inactive hi]
  case resetIdle =>
    rintro s j p hup hj rfl hi
    obtain ⟨c, hreset⟩ := tlFifoReset_eq j s
    rw [tlAbort_inactive hi, State.pers_setPers_same j.isLt] at hreset
    refine ⟨_, (exec_fifoReset hup hj).trans (congrArg _ hreset), State.pers_setPers_same j.isLt _ _, fun i hi => ?_, rfl⟩
    refine (State.pers_setPers_ne (Fin.val_ne_of_ne' hi) _ _).trans ?_
    exact State.pers_setPers_ne (Fin.val_ne_of_ne' hi) _ s

end Sys2Proof.Machine

/-! PROOFS. A flash READ over a table that is not canonical (R619). -/

namespace Sys2Proof.Machine

/-- A device that reads the flash from address 0, its flash table listing byte 1 before byte 0. -/
def unsortedDev : State :=
  { State.reset with
    glob := { GlobalSt.reset with flash := { GlobalSt.reset.flash with running := some (.read, 0), bytes := [(1, 0), (0, 0)] } } }

theorem exec_flashDone (s : State) (x y : Bool) : exec (.flashDone x y) s = .next (doFlashDone x y s) := rfl

/-- The page buffer takes the flash in one walk up the table, which has passed byte 0 when it comes to it. -/
theorem unsortedDev_reads : bits ((doFlashDone false false unsortedDev).rg .GLOBAL_FLASH_DATA (0 / 4)).toNat (8 * (0 % 4) + 7) (8 * (0 % 4)) = 255 := by
  decide +kernel

theorem unsortedDev_byte : (Sparse.get 0xFF#8 unsortedDev.glob.flash.bytes (0 + 0)).toNat = 0 ∧ unsortedDev.glob.flash.isUndef (0 + 0) = false := by
  decide +kernel

/-- Refutes O35: the clause on READ asks for no canonical flash table. The page buffer is filled by one walk up the table, so the byte 0 that
`unsortedDev` lists behind byte 1 is read as erased. -/
theorem not_flashCommands : ¬ Obligations.FlashCommands := by
  unfold Obligations.FlashCommands
  intro h
  obtain ⟨-, -, -, -, -, -, -, -, -, -, hread⟩ := h
  obtain ⟨hbyte, hdef⟩ := unsortedDev_byte
  obtain ⟨t, hexec, -, hdata, -⟩ := hread unsortedDev 0 false rfl rfl
  rw [exec_flashDone] at hexec
  cases hexec
  have hclaim := hdata 0 (by decide) hdef
  rw [unsortedDev_reads] at hclaim
  exact absurd (hclaim.trans hbyte) (by decide)

end Sys2Proof.Machine

/-! PROOFS. What no command may change but by its own rules: the waiting commands, the fuses and the memories (R426, R435, R557, R618). -/

namespace Sys2Proof.Machine

/-! ## The part of a state that is kept -/

/-- The waiting commands, what the fuses hold (R557), DRAM with its check bits, and the flash. -/
structure Kept where
  pending : List Instr
  fuseSerial : Nat
  fuseKeyDigest : Option Nat
  fuseSigRequired : Bool
  fuseEpochMin : Nat
  dram : Sparse Byte
  dramMark : Sparse Nat
  flash : Sparse Byte

/-- What a state holds of this. -/
def State.kept (s : State) : Kept :=
  ⟨s.pending, s.glob.fuseSerial, s.glob.fuseKeyDigest, s.glob.fuseSigRequired, s.glob.fuseEpochMin, s.dram, s.dramMark, s.glob.flash.bytes⟩

/-- Written `(rfl)`, as many lemmas below are, so that `simp` rewrites by it: the kernel then need not unfold a state. -/
@[simp] theorem State.kept_eta (s : State) : Kept.mk s.pending s.glob.fuseSerial s.glob.fuseKeyDigest s.glob.fuseSigRequired
    s.glob.fuseEpochMin s.dram s.dramMark s.glob.flash.bytes = s.kept := (rfl)

@[simp] theorem State.kept_mk (pending now cyc freeCount regs out str glob prick fault snap smbus lace bob corr store plan caril stage cad track net
    time hbm check dma clock power tl dram dramMark) :
    (State.mk pending now cyc freeCount regs out str glob prick fault snap smbus lace bob corr store plan caril stage cad track net time hbm check
      dma clock power tl dram dramMark).kept =
    ⟨pending, glob.fuseSerial, glob.fuseKeyDigest, glob.fuseSigRequired, glob.fuseEpochMin, dram, dramMark, glob.flash.bytes⟩ := (rfl)

@[simp] theorem State.kept_ite (p : Prop) [Decidable p] (s t : State) : (if p then s else t).kept = if p then s.kept else t.kept :=
  apply_ite State.kept p s t

@[simp] theorem State.kept_foldl {α : Type} (f : State → α → State) (h : ∀ u a, (f u a).kept = u.kept) (l : List α) (s : State) :
    (l.foldl f s).kept = s.kept := foldl_keeps State.kept f h l s

/-! ## The operations every family shares -/

@[simp] theorem State.setFd_kept (s : State) (x : RegField) (v i : Nat) : (s.setFd x v i).kept = s.kept := (rfl)

@[simp] theorem State.setRg_kept (s : State) (r : Reg) (w : Word) (i : Nat) : (s.setRg r w i).kept = s.kept := (rfl)

@[simp] theorem State.bump_kept (s : State) (x : RegField) (n i : Nat) : (s.bump x n i).kept = s.kept := (rfl)

@[simp] theorem State.bumpWrap_kept (s : State) (x : RegField) (n i : Nat) : (s.bumpWrap x n i).kept = s.kept := (rfl)

@[simp] theorem State.raise_kept (s : State) (c : FaultCode) : (s.raise c).kept = s.kept := by simp [State.raise]

@[simp] theorem State.raiseIf_kept (s : State) (b : Bool) (c : FaultCode) : (s.raiseIf b c).kept = s.kept := by simp [State.raiseIf]

@[simp] theorem State.emit_kept (s : State) (o : Out) : (s.emit o).kept = s.kept := by simp [State.emit]

@[simp] theorem State.irq_kept (s : State) (v : Nat) : (s.irq v).kept = s.kept := by simp [State.irq]

@[simp] theorem State.mark_kept (s : State) (e : CycleEvent) : (s.mark e).kept = s.kept := (rfl)

@[simp] theorem State.setBits_kept (s : State) (r : Reg) (mask : Word) (i : Nat) : (s.setBits r mask i).kept = s.kept := (rfl)

@[simp] theorem State.setFlag_kept (s : State) (x : RegField) (mask i : Nat) : (s.setFlag x mask i).kept = s.kept := (rfl)

@[simp] theorem State.free_kept (s : State) (w : Nat) : (s.free w).2.kept = s.kept := (rfl)

@[simp] theorem State.setLane_kept (s : State) (n : Nat) (l : Lane) : (s.setLane n l).kept = s.kept := (rfl)

@[simp] theorem State.setChan_kept (s : State) (c : Nat) (m : MetCh) : (s.setChan c m).kept = s.kept := (rfl)

@[simp] theorem State.setPers_kept (s : State) (j : Nat) (p : Pers) : (s.setPers j p).kept = s.kept := (rfl)

@[simp] theorem State.setIsland_kept (s : State) (i : Nat) (x : Island) : (s.setIsland i x).kept = s.kept := (rfl)

@[simp] theorem State.setAxis_kept (s : State) (i : Fin 2) (x : Axis) : (s.setAxis i x).kept = s.kept := (rfl)

@[simp] theorem State.aim_kept (s : State) (i : Fin 2) (g : AxisGoal) : (s.aim i g).kept = s.kept := (rfl)

@[simp] theorem State.stopAxes_kept (s : State) : s.stopAxes.kept = s.kept := (rfl)

@[simp] theorem State.whenAon_kept (s : State) (f : State → State) (hf : ∀ u, (f u).kept = u.kept) : (s.whenAon f).kept = s.kept := by
  simp [State.whenAon, hf]

@[simp] theorem State.whenUp_kept (s : State) (f : State → State) (hf : ∀ u, (f u).kept = u.kept) : (s.whenUp f).kept = s.kept := by
  simp [State.whenUp, hf]

@[simp] theorem State.whenReady_kept (s : State) (f : State → State) (hf : ∀ u, (f u).kept = u.kept) : (s.whenReady f).kept = s.kept := by
  simp [State.whenReady, hf]

@[simp] theorem State.whenDram_kept (s : State) (f : State → State) (hf : ∀ u, (f u).kept = u.kept) : (s.whenDram f).kept = s.kept := by
  simp [State.whenDram, hf]

@[simp] theorem State.setTiles_kept (s : State) (j : Nat) (q : TileQueue) : (s.setTiles j q).kept = s.kept := (rfl)

@[simp] theorem State.eachUnit_kept (s : State) (j : Nat) (f : BobUnit → BobUnit) : (s.eachUnit j f).kept = s.kept := (rfl)

@[simp] theorem State.stopTiles_kept (s : State) (j : Nat) : (s.stopTiles j).kept = s.kept := (rfl)

@[simp] theorem untile_kept (j : Nat) (s : State) : (untile j s).kept = s.kept :=
  State.kept_foldl _ (fun u e => by
    split
    · split
      · split <;> simp
      · rfl
    · rfl) _ _

/-! ## The power budget of a window -/

@[simp] theorem charge_kept (c u : Nat) (s : State) : (charge c u s).kept = s.kept := by simp [charge]

@[simp] theorem issueWork_kept (c : Nat) (us : List Nat) (f : State → State) (s : State) (hf : ∀ u, (f u).kept = u.kept) :
    (issueWork c us f s).kept = s.kept := by
  simp [issueWork, hf]

/-! ## Damping -/

@[simp] theorem damplane_kept (s : State) (n : Nat) : (damplane s n).kept = s.kept := by simp [damplane]

@[simp] theorem dampLanes_kept (s : State) (l : List Nat) : (dampLanes s l).kept = s.kept := by simp [dampLanes]

@[simp] theorem State.stopJobs_kept (s : State) : s.stopJobs.kept = s.kept := (rfl)

@[simp] theorem State.enterAborted_kept (s : State) (w : Nat × Nat) (cause node : Nat) (written : Bool) :
    (s.enterAborted w cause node written).kept = s.kept := by simp [State.enterAborted]

@[simp] theorem sameInstant_kept (cause node : Nat) (written : Bool) (at_ : Option (Nat × Nat)) (s : State) :
    (sameInstant cause node written at_ s).kept = s.kept := by
  unfold sameInstant
  split <;> simp

@[simp] theorem dampStripe_kept (cause node : Nat) (written final : Bool) (at_ : Option (Nat × Nat)) (s : State) :
    (dampStripe cause node written final at_ s).kept = s.kept := by simp [dampStripe]

@[simp] theorem State.tlRc_kept (s : State) (j b : Nat) : (s.tlRc j b).kept = s.kept := by simp [State.tlRc]

@[simp] theorem tlAborted_kept (j : Nat) (s : State) : (tlAborted j s).kept = s.kept := by simp [tlAborted]

@[simp] theorem dampPers_kept (cause node : Nat) (s : State) (j : Nat) : (dampPers cause node s j).kept = s.kept := by simp [dampPers]

@[simp] theorem State.setLatch_kept (s : State) (cause : Nat) : (s.setLatch cause).kept = s.kept := by simp [State.setLatch]

@[simp] theorem State.cadDue_kept (s : State) (c : CadCmd) : (s.cadDue c).kept = s.kept := by simp [State.cadDue]

@[simp] theorem State.damp_kept (s : State) (loc : Bool) (cause node : Nat) (written final : Bool) (at_ : Option (Nat × Nat)) :
    (s.damp loc cause node written final at_).kept = s.kept := by simp [State.damp]

@[simp] theorem State.localDamp_kept (s : State) (c : FaultCode) : (s.localDamp c).kept = s.kept := by simp [State.localDamp]

@[simp] theorem State.runDamp_kept (s : State) (c : FaultCode) : (s.runDamp c).kept = s.kept := by simp [State.runDamp]

@[simp] theorem State.underrunDamp_kept (s : State) : s.underrunDamp.kept = s.kept := by simp [State.underrunDamp]

@[simp] theorem State.underrun_kept (s : State) (c : FaultCode) (p n : Nat) (fromBeat : Option Nat) :
    (s.underrun c p n fromBeat).kept = s.kept := by simp [State.underrun]

/-! ## The host's side of every write to BAR0 -/

@[simp] theorem State.logRefused_kept (s : State) (off kind : Nat) : (s.logRefused off kind).kept = s.kept := (rfl)

@[simp] theorem State.refused_kept (s : State) (off kind : Nat) : (s.refused off kind).kept = s.kept := by simp [State.refused]

@[simp] theorem relog_kept (s : State) : (relog s).kept = s.kept := by
  simp only [relog]
  split
  · simp
  · split <;> simp

@[simp] theorem State.setTransit_kept (s : State) (t : Transit) : (s.setTransit t).kept = s.kept := (rfl)

@[simp] theorem State.abortEntry_kept (s : State) (target src : Nat) : (s.abortEntry target src).kept = s.kept := (rfl)

@[simp] theorem State.wake_kept (s : State) (src : Nat) : (s.wake src).kept = s.kept := by
  simp only [State.wake]
  split
  · simp
  · split <;> simp

@[simp] theorem State.startEntry_kept (s : State) (target : Nat) (t : Transit) : (s.startEntry target t).kept = s.kept := by
  simp only [State.startEntry]
  split <;> simp

@[simp] theorem State.atNoReturn_kept (s : State) (t : Transit) : (s.atNoReturn t).2.kept = s.kept := by
  simp only [State.atNoReturn]
  split
  · exact State.kept_foldl _ (fun u (w : Reg × Word) => State.setRg_kept u w.1 w.2 0) _ _
  · rfl

@[simp] theorem entryRefused_kept (target id : Nat) (s : State) : (entryRefused target id s).kept = s.kept := (rfl)

@[simp] theorem hushYields_kept (id : Nat) (s : State) : (hushYields id s).kept = s.kept := by simp [hushYields]

@[simp] theorem State.wakeBy_kept (s : State) (r : Reg) : (s.wakeBy r).kept = s.kept := by simp [State.wakeBy]

@[simp] theorem State.hostWrite_kept (s : State) (r : Reg) (w : Nat) (v : Word) (f : State → State) (hf : ∀ u, (f u).kept = u.kept) :
    (s.hostWrite r w v f).kept = s.kept := by
  simp [State.hostWrite]
  (repeat' split) <;> simp [hf]

@[simp] theorem State.hostCmd_kept (s : State) (r : Reg) (v : Nat) (f : State → State) (hf : ∀ u, (f u).kept = u.kept) :
    (s.hostCmd r v f).kept = s.kept := by
  simp [State.hostCmd, hf]

/-! ## Bobbin units -/

@[simp] theorem State.setUnit_kept (s : State) (b : Nat) (u : BobUnit) : (s.setUnit b u).kept = s.kept := (rfl)

@[simp] theorem formReserve_kept (s : State) : (formReserve s).kept = s.kept := by simp [formReserve]

/-! ## Operating points of the pillows and the steps between them -/

@[simp] theorem railStart_kept (mv : Nat) (p : Option Nat) (s : State) : (railStart mv p s).kept = s.kept := by simp [railStart]

@[simp] theorem setPoint_kept (p k : Nat) (s : State) : (setPoint p k s).kept = s.kept := (rfl)

@[simp] theorem stepUp_kept (p : Nat) (s : State) : (stepUp p s).kept = s.kept := by simp [stepUp]

@[simp] theorem stepDown_kept (p : Nat) (s : State) : (stepDown p s).kept = s.kept := by simp [stepDown]

@[simp] theorem riseToFloor_kept (fuel p : Nat) (s : State) : (riseToFloor fuel p s).kept = s.kept := by
  induction fuel generalizing s with
  | zero => rfl
  | succ n ih =>
    simp only [riseToFloor]
    split
    · simp [ih]
    · rfl

@[simp] theorem risePillows_kept (s : State) : (risePillows s).kept = s.kept := by simp [risePillows]

/-! ## Work of the bobbin units -/

@[simp] theorem chargeLive_kept (b : Nat) (s : State) : (chargeLive b s).kept = s.kept := by simp [chargeLive]

@[simp] theorem assignLive_kept (s : State) : (assignLive s).kept = s.kept :=
  State.kept_foldl _ (fun u j => by split <;> simp) _ _

@[simp] theorem queueLive_kept (l : List LiveWait) (s : State) : (queueLive l s).kept = s.kept := by
  simp only [queueLive]
  split <;> simp

@[simp] theorem liveNext_kept (b : Nat) (s : State) : (liveNext b s).kept = s.kept := by
  simp only [liveNext]
  split
  · simp
  · split <;> simp

@[simp] theorem tileAgain_kept (j t : Nat) (not_ : List Nat) (s : State) : (tileAgain j t not_ s).kept = s.kept := (rfl)

@[simp] theorem loseUnit_kept (b : Nat) (s : State) : (loseUnit b s).kept = s.kept := by
  simp only [loseUnit]
  generalize s.unit b = u
  cases u.job <;> cases u.suspended <;> cases u.held <;> simp

@[simp] theorem strike_kept (b : Nat) (s : State) : (strike b s).kept = s.kept := by simp [strike]

/-! ## Result slots -/

@[simp] theorem State.setSlot_kept (s : State) (n : Nat) (x : Slot) : (s.setSlot n x).kept = s.kept := (rfl)

@[simp] theorem slotClaim_kept (n source tag : Nat) (s : State) : (slotClaim n source tag s).kept = s.kept := (rfl)

@[simp] theorem slotFill_kept (n : Nat) (data : List Word) (s : State) : (slotFill n data s).kept = s.kept := (rfl)

@[simp] theorem slotFillProducer_kept (n : Nat) (data : List Word) (s : State) :
    (slotFillProducer n data s).kept = s.kept := by simp [slotFillProducer]

@[simp] theorem slotFree_kept (n : Nat) (s : State) : (slotFree n s).kept = s.kept := (rfl)

@[simp] theorem doSlotRelease_kept (n v : Nat) (s : State) : (doSlotRelease n v s).kept = s.kept := by simp [doSlotRelease]

/-! ## The DRAM controller -/

@[simp] theorem holdReq_kept (r : DramReq) (s : State) : (holdReq r s).kept = s.kept := (rfl)

@[simp] theorem noteWrite_kept (a n : Nat) (e : SpanWrite → CycleEvent) (s t : State) : (noteWrite a n e s t).kept = t.kept := by
  simp [noteWrite]

@[simp] theorem hammerDone_kept (h : Hammer) (s : State) : (hammerDone h s).kept = s.kept := by
  simp only [hammerDone]
  split <;> simp

@[simp] theorem sampleHammers_kept (bank row src : Nat) (s : State) : (sampleHammers bank row src s).kept = s.kept := by simp [sampleHammers]

@[simp] theorem activate_kept (src a : Nat) (s : State) : (activate src a s).kept = s.kept := by simp [activate]

@[simp] theorem admitted_kept (src : Nat) (s : State) : (admitted src s).kept = s.kept := (rfl)

@[simp] theorem errLog_kept (a syn : Nat) (cls src : Nat) (s : State) : (errLog a syn cls src s).kept = s.kept := by simp [errLog]

@[simp] theorem countCe_kept (a : Nat) (s : State) : (countCe a s).kept = s.kept := by simp [countCe]

@[simp] theorem readClass_kept (src a syn : Nat) (s : State) : (readClass src a syn s).2.kept = s.kept := by
  simp only [readClass]
  split
  · simp
  · split <;> simp

@[simp] theorem engineRead_kept (src a n : Nat) (s : State) : (engineRead src a n s).kept = s.kept := by simp [engineRead]

@[simp] theorem spanRows_kept (src a n : Nat) (s : State) : (spanRows src a n s).kept = s.kept := by simp [spanRows]

@[simp] theorem stackTemp_kept (k t : Nat) (s : State) : (stackTemp k t s).kept = s.kept := by simp [stackTemp]

@[simp] theorem dropLibs_kept (s : State) : (dropLibs s).kept = s.kept := (rfl)

@[simp] theorem unproduce_kept (c : FaultCode) (s : State) (e : CycleEvent) : (unproduce c s e).kept = s.kept := by
  unfold unproduce
  split <;> simp

@[simp] theorem fillEnd_kept (bad : Nat) (s : State) : (fillEnd bad s).kept = s.kept := by simp [fillEnd]

@[simp] theorem doScrubStart_kept (s : State) : (doScrubStart s).kept = s.kept := by simp [doScrubStart]

@[simp] theorem doInject_kept (mode : Nat) (s : State) : (doInject mode s).kept = s.kept := by simp [doInject]

@[simp] theorem rhWindow_kept (s : State) : (rhWindow s).kept = s.kept := by simp [rhWindow]

@[simp] theorem refreshBank_kept (b : Fin 2) (k : Fin 1024) (s : State) : (refreshBank b k s).kept = s.kept := rfl

/-! ## Lace intake and libraries -/

@[simp] theorem State.setScope_kept (s : State) (i : Fin 2) (sc : LaceScope) : (s.setScope i sc).kept = s.kept := (rfl)

@[simp] theorem laceReject_kept (i : Fin 2) (c : FaultCode) (off : Nat) (s : State) : (laceReject i c off s).kept = s.kept := by simp [laceReject]

@[simp] theorem State.chunkPlace_kept (s : State) (sc : LaceScope) (n : Nat) : (s.chunkPlace sc n).2.kept = s.kept := (rfl)

@[simp] theorem acceptChunk_kept (i : Fin 2) (at_ : Nat) (l : List Nat) (recs : List LaceRec) (s : State) :
    (acceptChunk i at_ l recs s).kept = s.kept := (rfl)

@[simp] theorem chunkJudge_kept (i : Fin 2) (s : State) : (chunkJudge i s).kept = s.kept := by
  simp only [chunkJudge]
  split
  · simp
  · split <;> simp

@[simp] theorem State.dropCache_kept (s : State) (lo hi : Nat) : (s.dropCache lo hi).kept = s.kept := (rfl)

@[simp] theorem laceOpen_kept (s : State) : (laceOpen s).kept = s.kept := by simp [laceOpen]

@[simp] theorem laceClose_kept (s : State) : (laceClose s).kept = s.kept := by simp [laceClose]

@[simp] theorem libRegister_kept (s : State) : (libRegister s).kept = s.kept := by
  simp only [libRegister]
  split <;> simp

@[simp] theorem libRegisterDone_kept (s : State) : (libRegisterDone s).kept = s.kept := by
  simp only [libRegisterDone]
  split
  · simp
  · split <;> simp

@[simp] theorem libUnregister_kept (s : State) : (libUnregister s).kept = s.kept := by
  simp only [libUnregister]
  split <;> simp

/-! ## Dose correction -/

@[simp] theorem satFlag_kept (b : Nat) (s : State) : (satFlag b s).kept = s.kept := by simp [satFlag]

@[simp] theorem State.rewait_kept (s : State) : s.rewait.kept = s.kept := (rfl)

@[simp] theorem doseClamps_kept (n : Nat) (s : State) : (doseClamps n s).kept = s.kept := by simp [doseClamps]

@[simp] theorem corrDataLost_kept (s : State) : (corrDataLost s).kept = s.kept := by simp [corrDataLost]

/-! ## Ethernet frames -/

@[simp] theorem sendTo_kept (e : Nat) (bytes : List Byte) (s : State) : (sendTo e bytes s).kept = s.kept := by simp [sendTo]

/-! ## The planner's arithmetic -/

@[simp] theorem capacityCheck_kept (dose : Nat → Int → Nat) (br : Nat) (s : State) : (capacityCheck dose br s).kept = s.kept := by
  unfold capacityCheck
  split <;> simp

/-! ## Edging and seam records -/

@[simp] theorem sendRecord_kept (d : Nat) (rec : List Byte) (s : State) : (sendRecord d rec s).kept = s.kept := by simp [sendRecord]

@[simp] theorem keepRecord_kept (r : KeptRecord) (s : State) : (keepRecord r s).kept = s.kept := by simp [keepRecord]

@[simp] theorem sendNear_kept (h : LaceHeader) (fuel : Nat) (s : State) : (sendNear h fuel s).kept = s.kept := by
  induction fuel generalizing s with
  | zero => rfl
  | succ n ih =>
    simp only [sendNear]
    split
    · simp [ih]
    · rfl

@[simp] theorem sendFog_kept (h : LaceHeader) (fuel : Nat) (s : State) : (sendFog h fuel s).kept = s.kept := by
  induction fuel generalizing s with
  | zero => rfl
  | succ n ih =>
    simp only [sendFog]
    split
    · simp [ih]
    · rfl

@[simp] theorem sendEdging_kept (s : State) : (sendEdging s).kept = s.kept := by
  simp only [sendEdging]
  split
  · split <;> split <;> simp
  · rfl

@[simp] theorem judgeDensity_kept (s : State) : (judgeDensity s).kept = s.kept := by simp [judgeDensity]

@[simp] theorem bindScope_kept (s : State) : (bindScope s).kept = s.kept := by
  unfold bindScope
  split <;> simp

@[simp] theorem bindLate_kept (s : State) : (bindLate s).kept = s.kept := by simp [bindLate]

@[simp] theorem sendEdgeRecords_kept (s : State) : (sendEdgeRecords s).kept = s.kept := by simp [sendEdgeRecords]

@[simp] theorem sendSeam_kept (br : Nat) (s : State) : (sendSeam br s).kept = s.kept := by simp [sendSeam]

@[simp] theorem runCapacity_kept (s : State) : (runCapacity s).kept = s.kept := by simp [runCapacity]

@[simp] theorem State.reseam_kept (s : State) : s.reseam.kept = s.kept := (rfl)

@[simp] theorem State.seamRenew_kept (s : State) (d : Nat) : (s.seamRenew d).kept = s.kept := (rfl)

@[simp] theorem doSeamLost_kept (d : Nat) (s : State) : (doSeamLost d s).kept = s.kept := by
  simp only [doSeamLost]
  split <;> simp

@[simp] theorem doEdgingLost.lostBit_kept (d : Nat) (s : State) : (doEdgingLost.lostBit d s).kept = s.kept := by simp [doEdgingLost.lostBit]

@[simp] theorem doEdgingLost_kept (d : Nat) (s : State) : (doEdgingLost d s).kept = s.kept := by
  simp only [doEdgingLost]
  split
  · split <;> simp
  · simp

@[simp] theorem lostForStripe_kept (d : Nat) (s : State) : (lostForStripe d s).kept = s.kept := by simp [lostForStripe]

@[simp] theorem sendReply_kept (l : List Byte) (d code : Nat) (s : State) : (sendReply l d code s).kept = s.kept := by simp [sendReply]

@[simp] theorem storeEdging_kept (l : List Byte) (d : Nat) (s : State) : (storeEdging l d s).kept = s.kept := by simp [storeEdging]

@[simp] theorem State.renewWait_kept (s : State) (d : Nat) : (s.renewWait d).kept = s.kept := (rfl)

@[simp] theorem edgingBad_kept (s : State) : (edgingBad s).kept = s.kept := by simp [edgingBad]

@[simp] theorem edgingRecord_kept (l : List Byte) (s : State) : (edgingRecord l s).kept = s.kept := by
  unfold edgingRecord
  split <;> simp

@[simp] theorem seamBad_kept (s : State) : (seamBad s).kept = s.kept := by simp [seamBad]

@[simp] theorem compareSeam_kept (l : List Byte) (s : State) : (compareSeam l s).kept = s.kept := by simp [compareSeam]

@[simp] theorem edgingReply_kept (l : List Byte) (s : State) : (edgingReply l s).kept = s.kept := by
  unfold edgingReply
  split <;> simp

@[simp] theorem edgingRetry_kept (s : State) : (edgingRetry s).kept = s.kept := by simp [edgingRetry]

@[simp] theorem State.edgeOpen_kept (s : State) (f : State → State) (hf : ∀ u, (f u).kept = u.kept) : (s.edgeOpen f).kept = s.kept := by
  simp [State.edgeOpen, hf]

@[simp] theorem State.edgeDram_kept (s : State) (f : State → State) (hf : ∀ u, (f u).kept = u.kept) : (s.edgeDram f).kept = s.kept := by
  simp [State.edgeDram, hf]

/-! ## Check units -/

@[simp] theorem State.setRun_kept (s : State) (u : Nat) (cmd : Option Nat) : (s.setRun u cmd).kept = s.kept := (rfl)

@[simp] theorem doCheck_kept (cmd : Nat) (s : State) : (doCheck cmd s).kept = s.kept := by simp [doCheck]

@[simp] theorem checkOutcome_kept (u o : Nat) (s : State) : (checkOutcome u o s).kept = s.kept := (rfl)

@[simp] theorem checkStop_kept (u : Nat) (s : State) : (checkStop u s).kept = s.kept := by
  unfold checkStop
  split <;> simp

@[simp] theorem doCheckAbort_kept (s : State) : (doCheckAbort s).kept = s.kept := by simp [doCheckAbort]

@[simp] theorem checkClaim_kept (u : Nat) (s : State) : (checkClaim u s).kept = s.kept := by simp [checkClaim]

@[simp] theorem checkUnclaim_kept (u : Nat) (s : State) : (checkUnclaim u s).kept = s.kept := (rfl)

@[simp] theorem checkSeqNext_kept (u : Nat) (s : State) : (checkSeqNext u s).kept = s.kept := by
  unfold checkSeqNext
  split <;> simp

@[simp] theorem checkVerdict_kept (u : Nat) (ok : Bool) (s : State) : (checkVerdict u ok s).kept = s.kept := by simp [checkVerdict]

/-! ## Rings, descriptors and DMA operations -/

@[simp] theorem State.setRing_kept (s : State) (n : Nat) (x : Machine.Ring) : (s.setRing n x).kept = s.kept := (rfl)

@[simp] theorem ringIrq_kept (n : Nat) (s : State) : (ringIrq n s).kept = s.kept := by simp [ringIrq]

@[simp] theorem ringSettle_kept (n : Nat) (s : State) : (ringSettle n s).kept = s.kept := by simp [ringSettle]

@[simp] theorem ringStop_kept (n code : Nat) (s : State) : (ringStop n code s).kept = s.kept := by simp [ringStop]

@[simp] theorem doRingEnable_kept (n : Nat) (s : State) : (doRingEnable n s).kept = s.kept := by
  simp only [doRingEnable]
  split <;> simp

@[simp] theorem doRingDisable_kept (n : Nat) (s : State) : (doRingDisable n s).kept = s.kept := by
  simp only [doRingDisable]
  split <;> simp

@[simp] theorem doRingReset_kept (n : Nat) (s : State) : (doRingReset n s).kept = s.kept := by simp [doRingReset]

@[simp] theorem doRingTail_kept (n v : Nat) (s : State) : (doRingTail n v s).kept = s.kept := by simp [doRingTail]

@[simp] theorem State.setOp_kept (s : State) (o : DmaOp) : (s.setOp o).kept = s.kept := (rfl)

@[simp] theorem endOp_kept (o : DmaOp) (res : Nat) (c : FaultCode) (s : State) : (endOp o res c s).kept = s.kept := by simp [endOp]

@[simp] theorem doDescFetch_kept (n : Nat) (host : List (List Byte)) (s : State) : (doDescFetch n host s).kept = s.kept := by
  simp [doDescFetch]
  (repeat' split) <;> simp

@[simp] theorem startOp_kept (n op : Nat) (s : State) (f : DmaOp → State → State) (hf : ∀ a0 u, (f a0 u).kept = u.kept) :
    (startOp n op s f).kept = s.kept := by
  simp [startOp]
  (repeat' split) <;> simp [hf]

@[simp] theorem countBytes_kept (n : Nat) (s : State) : (countBytes n s).kept = s.kept := (rfl)

@[simp] theorem tlStitch_kept (j : Nat) (s : State) (w : Stitch) : (tlStitch j s w).kept = s.kept := by
  simp only [tlStitch]
  split <;> simp

@[simp] theorem burstRequests_kept (o : DmaOp) (s : State) : (burstRequests o s).kept = s.kept := by simp [burstRequests]

@[simp] theorem startPush_kept (o : DmaOp) (s : State) : (startPush o s).kept = s.kept := by
  simp only [startPush]
  split
  · simp
  · split <;> simp

@[simp] theorem startFence_kept (n : Nat) (s : State) : (startFence n s).kept = s.kept := by
  unfold startFence
  split <;> simp

@[simp] theorem advanceDone_kept (fuel n : Nat) (s : State) : (advanceDone fuel n s).kept = s.kept := by
  induction fuel generalizing s with
  | zero => rfl
  | succ f ih =>
    simp only [advanceDone]
    split
    · split <;> simp [ih]
    · rfl

@[simp] theorem completeOp_kept (o : DmaOp) (s : State) : (completeOp o s).kept = s.kept := by
  simp only [completeOp]
  split
  · rfl
  · split <;> split <;> split <;> simp

@[simp] theorem doRingAbort_kept (n : Nat) (s : State) : (doRingAbort n s).kept = s.kept := by
  simp [doRingAbort]

@[simp] theorem unfetch_kept (g : Nat) (s : State) (e : CycleEvent) : (unfetch g s e).kept = s.kept := by
  simp only [unfetch]
  (repeat' split) <;> simp

@[simp] theorem revoke_kept (g : Nat) (s : State) : (revoke g s).kept = s.kept := by
  rw [revoke, State.setFd_kept _ _ _ g, State.kept_foldl _ (fun u k => slotFree_kept k u), State.kept_foldl _ (fun u n => by simp),
    State.kept_foldl _ (fun u e => unfetch_kept g u e)]

@[simp] theorem doRingGrant_kept (v : Nat) (s : State) : (doRingGrant v s).kept = s.kept := by
  simp only [doRingGrant]
  split
  · split
    · simp
    · simp
  · simp

@[simp] theorem doUnmask_kept (v : Nat) (s : State) : (doUnmask v s).kept = s.kept := by simp [doUnmask]

@[simp] theorem ringAccess_kept (page : Option (Fin 64)) (r : Reg) (v : Nat) (f : Nat → State → State) (s : State)
    (hf : ∀ a0 u, (f a0 u).kept = u.kept) : (ringAccess page r v f s).kept = s.kept := by
  simp [ringAccess]
  (repeat' split) <;> simp [hf]

@[simp] theorem slotAccess_kept (page : Option (Fin 64)) (k : Fin 32) (v : Nat) (s : State) : (slotAccess page k v s).kept = s.kept := by
  unfold slotAccess
  split <;> simp

/-! ## The local clock, its servo, triggers and pulses -/

@[simp] theorem clockTick_kept (s : State) : (clockTick s).kept = s.kept := (rfl)

@[simp] theorem steppedOver_kept (old new : Nat) (s : State) (t : Nat) : (steppedOver old new s t).kept = s.kept := by simp [steppedOver]

@[simp] theorem stepClock_kept (c : TimeSt) (s : State) : (stepClock c s).kept = s.kept := by simp [stepClock]

@[simp] theorem servo_kept (force : Bool) (s : State) : (servo force s).kept = s.kept := by simp [servo]

@[simp] theorem doServo_kept (force : Bool) (s : State) : (doServo force s).kept = s.kept := by simp [doServo]

@[simp] theorem disarmAll_kept (s : State) : (disarmAll s).kept = s.kept := by simp [disarmAll]

@[simp] theorem invalidateTime_kept (s : State) : (invalidateTime s).kept = s.kept := by simp [invalidateTime]

@[simp] theorem undoServo_kept (s : State) : (undoServo s).kept = s.kept :=
  State.kept_foldl _ (fun u e => by
    split
    · exact State.kept_foldl _ (fun v (w : Reg × Nat × Word) => State.setRg_kept v w.1 w.2.2 w.2.1) _ _
    · rfl) _ _

@[simp] theorem doTimeSet_kept (s : State) : (doTimeSet s).kept = s.kept := by simp [doTimeSet]

@[simp] theorem doTimeLatch_kept (s : State) : (doTimeLatch s).kept = s.kept := by simp [doTimeLatch]

@[simp] theorem doTrigArm_kept (s : State) : (doTrigArm s).kept = s.kept := by simp [doTrigArm]

@[simp] theorem doTrigDisarm_kept (s : State) : (doTrigDisarm s).kept = s.kept := (rfl)

@[simp] theorem ppsPulse_kept (s : State) : (ppsPulse s).kept = s.kept := (rfl)

@[simp] theorem doPpsRise_kept (s : State) : (doPpsRise s).kept = s.kept := by simp [doPpsRise]

@[simp] theorem doPpsFall_kept (s : State) : (doPpsFall s).kept = s.kept := by simp [doPpsFall]

@[simp] theorem doPpsIn.capture_kept (s : State) : (doPpsIn.capture s).kept = s.kept := by simp [doPpsIn.capture]

@[simp] theorem doPpsIn_kept (s : State) : (doPpsIn s).kept = s.kept := by
  simp only [doPpsIn]
  split
  · split <;> simp
  · simp

/-! ## Network ports, the transport and PTP frames -/

@[simp] theorem State.setFlow_kept (s : State) (f : Nat) (x : Machine.Flow) : (s.setFlow f x).kept = s.kept := (rfl)

@[simp] theorem sendCtrl_kept (f : Nat) (nak closed : Bool) (dst : Nat) (s : State) : (sendCtrl f nak closed dst s).kept = s.kept := by
  simp only [sendCtrl]
  split <;> simp

@[simp] theorem unsendCtrl_kept (f : Nat) (s : State) : (unsendCtrl f s).kept = s.kept :=
  State.kept_foldl _ (fun u e => by
    split
    · split <;> simp
    · rfl) _ _

@[simp] theorem flowOpen_kept (f : Nat) (s : State) : (flowOpen f s).kept = s.kept := by simp [flowOpen]

@[simp] theorem flowNak_kept (f src : Nat) (s : State) : (flowNak f src s).kept = s.kept := by
  simp only [flowNak]
  split
  · split <;> simp
  · simp

@[simp] theorem ctrlRise_kept (s : State) : (ctrlRise s).kept = s.kept := by simp [ctrlRise]

@[simp] theorem transportDrop_kept (s : State) : (transportDrop s).kept = s.kept := by simp [transportDrop]

@[simp] theorem unaccept_kept (f i : Nat) (s : State) (e : CycleEvent) : (unaccept f i s e).kept = s.kept := by
  unfold unaccept
  split <;> simp

@[simp] theorem doLaceClose_kept (s : State) : (doLaceClose s).kept = s.kept := by simp [doLaceClose]

@[simp] theorem sendPtp_kept (mac : Nat) (l : List Byte) (s : State) : (sendPtp mac l s).kept = s.kept := (rfl)

@[simp] theorem startPtpSend_kept (host : List Byte) (reply : HostReply) (o : DmaOp) (s : State) :
    (startPtpSend host reply o s).kept = s.kept := by simp [startPtpSend]

@[simp] theorem ptpRx.done_kept (o : DmaOp) (cut : Bool) (s : State) : (ptpRx.done o cut s).kept = s.kept := (rfl)

@[simp] theorem doLibRegister_kept (s : State) : (doLibRegister s).kept = s.kept := by simp [doLibRegister]

/-! ## The dose store -/

@[simp] theorem State.underrunNow_kept (s : State) (c : FaultCode) : (s.underrunNow c).kept = s.kept := by simp [State.underrunNow]

@[simp] theorem feasFail_kept (a row : Nat) (slack : Int) (s : State) : (feasFail a row slack s).kept = s.kept := by simp [feasFail]

@[simp] theorem takeFeas_kept (r : FeasResult) (s : State) : (takeFeas r s).kept = s.kept := by
  unfold takeFeas
  split <;> simp

@[simp] theorem evalFeas_kept (s : State) : (evalFeas s).kept = s.kept := by simp [evalFeas]

@[simp] theorem serviceWrap_kept (f : State → State) (s : State) (hf : ∀ u, (f u).kept = u.kept) : (serviceWrap f s).kept = s.kept := by
  simp only [serviceWrap]
  split
  · exact hf s
  · split <;> simp [hf]

@[simp] theorem capWrap_kept (f : State → State) (s : State) (hf : ∀ u, (f u).kept = u.kept) : (capWrap f s).kept = s.kept := by
  simp [capWrap, hf]

@[simp] theorem queueRow_kept (br : Nat) (s : State) : (queueRow br s).kept = s.kept := by simp [queueRow]

@[simp] theorem freeCoded_kept (s : State) : (freeCoded s).kept = s.kept := by
  unfold freeCoded
  split <;> simp

@[simp] theorem placeBlock_kept (i : Nat) (p : Option (List Nat)) (acc : Bool × State) : (placeBlock i p acc).2.kept = acc.2.kept := by
  cases p <;> simp [placeBlock]

@[simp] theorem decodeStep_kept (acc : Bool × State) (i : Nat) : (decodeStep acc i).2.kept = acc.2.kept := by simp [decodeStep]

@[simp] theorem decodeRow_kept (br : Nat) (s : State) : (decodeRow br s).2.kept = s.kept :=
  foldl_keeps (fun a : Bool × State => a.2.kept) decodeStep decodeStep_kept _ _

@[simp] theorem releaseRows_kept (fuel : Nat) (s : State) : (releaseRows fuel s).kept = s.kept := by
  induction fuel generalizing s with
  | zero => rfl
  | succ n ih =>
    simp only [releaseRows]
    split
    · split
      · simp [ih]
      · split <;> simp [ih]
    · rfl

@[simp] theorem deliveryMoved_kept (s : State) : (deliveryMoved s).kept = s.kept := by
  simp only [deliveryMoved]
  split <;> split <;> (try split) <;> simp

@[simp] theorem leaveBuffer_kept (br : Nat) (s : State) : (leaveBuffer br s).kept = s.kept := by simp [leaveBuffer]

@[simp] theorem deliverLine_kept (s : State) : (deliverLine s).kept = s.kept := by
  simp only [deliverLine]
  split
  · rfl
  · split <;> simp

@[simp] theorem deliverLines_kept (fuel : Nat) (s : State) : (deliverLines fuel s).kept = s.kept := by
  induction fuel generalizing s with
  | zero => rfl
  | succ n ih => simp [deliverLines, ih]

@[simp] theorem storePass_kept (s : State) : (storePass s).kept = s.kept := by simp [storePass]

@[simp] theorem loadBlocks_kept (n i : Nat) (s : State) : (loadBlocks n i s).kept = s.kept := by
  induction n generalizing i s with
  | zero => rfl
  | succ n ih =>
    simp only [loadBlocks, ih]
    split <;> simp

/-! ## DRAM requests as the controller sees them -/

@[simp] theorem corrRead_kept (src : Nat) (poison sram : Bool) (s : State) : (corrRead src poison sram s).kept = s.kept := by simp [corrRead]

@[simp] theorem serveSource_kept (src a : Nat) (act : Bool) (s : State) : (serveSource src a act s).kept = s.kept := by simp [serveSource]

/-! ## Tiles and live jobs -/

@[simp] theorem cacheAccess_kept (s : State) (line : Nat) : (cacheAccess s line).kept = s.kept := by simp [cacheAccess]

@[simp] theorem countCrossings_kept (j n : Nat) (s : State) : (countCrossings j n s).kept = s.kept := (rfl)

@[simp] theorem startTile_kept (j b t : Nat) (s : State) : (startTile j b t s).kept = s.kept := by simp [startTile]

@[simp] theorem tileIssue_kept (b : Nat) (s : State) : (tileIssue b s).kept = s.kept := by
  simp only [tileIssue]
  split
  · rfl
  split
  · simp
  split
  · rfl
  split
  · simp
  split
  · split <;> simp
  · rfl

@[simp] theorem tileStuck_kept (j t : Nat) (s : State) : (tileStuck j t s).kept = s.kept := (rfl)

@[simp] theorem jobPoisoned_kept (b : Nat) (s : State) : (jobPoisoned b s).kept = s.kept := by
  simp only [jobPoisoned]
  split <;> simp

@[simp] theorem dualFinish_kept (j : Nat) (r : TileRun) (s : State) : (dualFinish j r s).kept = s.kept := by
  simp only [dualFinish]
  split <;> simp

@[simp] theorem cacheError_kept (refetch : Bool) (s : State) : (cacheError refetch s).kept = s.kept := by simp [cacheError]

@[simp] theorem tileFinish_kept (j b t : Nat) (w : Sparse Nat) (n : Nat) (s : State) : (tileFinish j b t w n s).kept = s.kept := by
  simp only [tileFinish]
  split <;> simp

@[simp] theorem tileComplete_kept (b : Nat) (wrong : List (Nat × Nat)) (refetch : Bool) (s : State) :
    (tileComplete b wrong refetch s).kept = s.kept := by
  simp only [tileComplete]
  split
  · split
    · simp
    · split <;> split <;> simp
  · rfl

@[simp] theorem dropHeld_kept (j t : Nat) (s : State) : (dropHeld j t s).kept = s.kept := (rfl)

@[simp] theorem tileToCorr_kept (t : Nat) (words : Sparse Nat) (s : State) : (tileToCorr t words s).kept = s.kept := by
  simp [tileToCorr]

@[simp] theorem abandon_kept (b : Nat) (c : FaultCode) (s : State) : (abandon b c s).kept = s.kept := by
  simp only [abandon]
  generalize s.unit b = u
  cases u.job <;> cases u.suspended <;> simp

@[simp] theorem bobWatchdog_kept (b : Nat) (s : State) : (bobWatchdog b s).kept = s.kept := by
  simp [bobWatchdog]

@[simp] theorem bobSram_kept (b : Nat) (s : State) : (bobSram b s).kept = s.kept := by
  simp [bobSram]

@[simp] theorem failMaskClear_kept (v : Word) (s : State) : (failMaskClear v s).kept = s.kept := by simp [failMaskClear]

/-! ## The carillon and the lanes -/

@[simp] theorem sendPeal_kept (n beat : Nat) (fireDelay flags cmd : Nat) (codes : List Byte) (live : Bool) (at_ : Nat) (s : State) :
    (sendPeal n beat fireDelay flags cmd codes live at_ s).kept = s.kept := by simp [sendPeal]

@[simp] theorem sendBeatPeals_kept (b : IssuedBeat) (at_ : Nat) (s : State) : (sendBeatPeals b at_ s).kept = s.kept := by simp [sendBeatPeals]

@[simp] theorem markPeals_kept (b : IssuedBeat) (s : State) : (markPeals b s).kept = s.kept := (rfl)

@[simp] theorem doPealStart_kept (s : State) : (doPealStart s).kept = s.kept := by
  unfold doPealStart
  split <;> simp

@[simp] theorem doKeepAlive_kept (n : Nat) (s : State) : (doKeepAlive n s).kept = s.kept := by simp [doKeepAlive]

@[simp] theorem sendDefl_kept (n : Nat) (word : Int) (stale shift : Bool) (s : State) :
    (sendDefl n word stale shift s).kept = s.kept := by simp [sendDefl]

@[simp] theorem sendSample_kept (x y : Int) (stale shift : Bool) (s : State) : (sendSample x y stale shift s).kept = s.kept := by simp [sendSample]

@[simp] theorem State.raiseN_kept (s : State) (c : FaultCode) (n : Nat) : (s.raiseN c n).kept = s.kept := by simp [State.raiseN]

@[simp] theorem copyDefects_kept (s : State) : (copyDefects s).kept = s.kept := by simp [copyDefects]

@[simp] theorem copySeams_kept (s : State) : (copySeams s).kept = s.kept := by simp [copySeams]

@[simp] theorem copyTrims_kept (s : State) : (copyTrims s).kept = s.kept := by
  simp only [copyTrims, State.kept_mk]
  exact State.kept_foldl _ (fun _ _ => State.setLane_kept ..) _ _

@[simp] theorem copyPhases_kept (s : State) : (copyPhases s).kept = s.kept :=
  State.kept_foldl _ (fun _ _ => State.setChan_kept ..) _ _

@[simp] theorem applyStaged_kept (s : State) : (applyStaged s).kept = s.kept := by simp [applyStaged]

@[simp] theorem txData_kept (n : Nat) (s : State) : (txData n s).kept = s.kept := by simp [txData]

@[simp] theorem startTraining_kept (n : Nat) (s : State) : (startTraining n s).kept = s.kept := (rfl)

@[simp] theorem startPipelineLane_kept (n : Nat) (s : State) : (startPipelineLane n s).kept = s.kept := (rfl)

@[simp] theorem doRetrain_kept (s : State) : (doRetrain s).kept = s.kept := by simp [doRetrain]

@[simp] theorem laneCommand_kept (cmd n : Nat) (s : State) : (laneCommand cmd n s).kept = s.kept := by simp [laneCommand]

@[simp] theorem doEyeCal_kept (s : State) : (doEyeCal s).kept = s.kept := by simp [doEyeCal]

@[simp] theorem doTxSleep_kept (s : State) : (doTxSleep s).kept = s.kept := by simp [doTxSleep]

@[simp] theorem doRxSleep_kept (s : State) : (doRxSleep s).kept = s.kept := by simp [doRxSleep]

@[simp] theorem wakeTx_kept (n : Nat) (s : State) : (wakeTx n s).kept = s.kept := by simp [wakeTx]

@[simp] theorem wakeRx_kept (n : Nat) (s : State) : (wakeRx n s).kept = s.kept := by simp [wakeRx]

@[simp] theorem doTxWake_kept (s : State) : (doTxWake s).kept = s.kept := by simp [doTxWake]

@[simp] theorem doRxWake_kept (s : State) : (doRxWake s).kept = s.kept := by simp [doRxWake]

@[simp] theorem doWakeDone_kept (n : Nat) (tx : Bool) (s : State) : (doWakeDone n tx s).kept = s.kept := by simp [doWakeDone]

@[simp] theorem longestRun_kept (m : Nat) (s : State) : (longestRun m s).2.kept = s.kept := by
  simp only [longestRun]
  split <;> simp

@[simp] theorem doEyeDone_kept (n clear : Nat) (s : State) : (doEyeDone n clear s).kept = s.kept := by
  simp only [doEyeDone]
  split
  · simp
  · split <;> simp

@[simp] theorem State.setTaps_kept (s : State) (n pre : Nat) (main post : Nat) : (s.setTaps n pre main post).kept = s.kept := (rfl)

@[simp] theorem settleTaps_kept (j : Nat) (s : State) : (settleTaps j s).kept = s.kept :=
  State.kept_foldl _ (fun u n => by split <;> simp) _ _

@[simp] theorem applyTaps_kept (n req ctrl : Nat) (s : State) : (applyTaps n req ctrl s).kept = s.kept := by simp [applyTaps]

@[simp] theorem trainEcho_kept (n : Nat) (l : List Byte) (s : State) : (trainEcho n l s).kept = s.kept := by
  simp only [trainEcho]
  split <;> simp

@[simp] theorem adaptRx_kept (n : Nat) (s : State) : (adaptRx n s).kept = s.kept := (rfl)

@[simp] theorem doTrainFrame_kept (n : Nat) (adapted : Bool) (s : State) : (doTrainFrame n adapted s).kept = s.kept := by simp [doTrainFrame]

@[simp] theorem doTrainTimeout_kept (n : Nat) (s : State) : (doTrainTimeout n s).kept = s.kept := by simp [doTrainTimeout]

@[simp] theorem beatLost_kept (n : Nat) (l : Lane) (lost first last : Nat) (s : State) : (beatLost n l lost first last s).kept = s.kept := by
  simp only [beatLost]
  split
  · split <;> simp
  · simp

@[simp] theorem statusEcho_kept (n : Nat) (b : List Byte) (s : State) : (statusEcho n b s).kept = s.kept := by simp [statusEcho]

@[simp] theorem measureEcho_kept (n : Nat) (b : List Byte) (s : State) : (measureEcho n b s).kept = s.kept := by
  unfold measureEcho
  split <;> simp

@[simp] theorem doEcho_kept (n : Nat) (complete : Bool) (l : List Byte) (s : State) : (doEcho n complete l s).kept = s.kept := by simp [doEcho]

@[simp] theorem doEchoTimeout_kept (n : Nat) (s : State) : (doEchoTimeout n s).kept = s.kept := by
  simp only [doEchoTimeout]
  (repeat' split) <;> simp

@[simp] theorem doDampSource_kept (loc : Bool) (code node : Nat) (s : State) :
    (doDampSource loc code node s).kept = s.kept := by simp [doDampSource]

@[simp] theorem doDampN_kept (s : State) : (doDampN s).kept = s.kept := by simp [doDampN]

@[simp] theorem clearLatch_kept (s : State) : (clearLatch s).kept = s.kept := by simp [clearLatch]

/-! ## The tracking engine -/

@[simp] theorem satFlags_kept (a mask : Nat) (s : State) : (satFlags a mask s).kept = s.kept := by simp [satFlags]

@[simp] theorem cycleAxis_kept (a : Nat) (r other : Int) (s : State) : (cycleAxis a r other s).2.kept = s.kept := by simp [cycleAxis]

@[simp] theorem setWords_kept (x y : Int) (s : State) : (setWords x y s).kept = s.kept := (rfl)

@[simp] theorem applySwap_kept (s : State) : (applySwap s).kept = s.kept := by simp [applySwap]

@[simp] theorem doSwap_kept (s : State) : (doSwap s).kept = s.kept := by simp [doSwap]

@[simp] theorem clearLearning_kept (a : Nat) (s : State) : (clearLearning a s).kept = s.kept := (rfl)

@[simp] theorem doTrackClear_kept (s : State) : (doTrackClear s).kept = s.kept := by simp [doTrackClear]

@[simp] theorem doMapWrite_kept (v : Word) (s : State) : (doMapWrite v s).kept = s.kept := by simp [doMapWrite]

@[simp] theorem doRepCfgWrite_kept (v : Word) (s : State) : (doRepCfgWrite v s).kept = s.kept := by simp [doRepCfgWrite]

@[simp] theorem decideShift_kept (step : Int) (s : State) : (decideShift step s).kept = s.kept := (rfl)

@[simp] theorem shiftDecision_kept (r : Int) (s : State) : (shiftDecision r s).kept = s.kept := by simp [shiftDecision]

@[simp] theorem recentreDue_kept (s : State) : (recentreDue s).1.kept = s.kept := by
  simp only [recentreDue]
  split <;> simp

@[simp] theorem cycleLatency_kept (t : Int) (exposing : Bool) (s : State) : (cycleLatency t exposing s).kept = s.kept := by
  simp only [cycleLatency]
  split <;> simp

@[simp] theorem heldCycle_kept (t : Int) (s : State) : (heldCycle t s).kept = s.kept := by simp [heldCycle]

@[simp] theorem goodCycle_kept (x tx : Int) (y ty : Int) (s : State) : (goodCycle x tx y ty s).kept = s.kept := by simp [goodCycle]

@[simp] theorem trackEdge_kept (x y : EdgeSample) (s : State) : (trackEdge x y s).kept = s.kept := by
  simp only [trackEdge]
  (repeat' split) <;> simp

@[simp] theorem runEdge_kept (s : State) : (runEdge s).kept = s.kept := by
  unfold runEdge
  split <;> simp

@[simp] theorem loneEdge_kept (y : EdgeSample) (s : State) : (loneEdge y s).kept = s.kept := by simp [loneEdge]

@[simp] theorem noteEdge_kept (c : Nat) (e : EdgeSample) (s : State) : (noteEdge c e s).kept = s.kept := by
  simp only [noteEdge]
  split <;> (try split) <;> simp

@[simp] theorem doRecentre_kept (s : State) : (doRecentre s).kept = s.kept := by simp [doRecentre]

/-! ## Stage metrology, position compare, the profile generator and the set-point port -/

@[simp] theorem derateY_kept (s : State) : (derateY s).kept = s.kept := by simp [derateY]

@[simp] theorem derate_kept (s : State) : (derate s).kept = s.kept := by simp [derate]

@[simp] theorem tempCfgWrite_kept (v : Word) (s : State) : (tempCfgWrite v s).kept = s.kept := by simp [tempCfgWrite]

@[simp] theorem setColumnTemp_kept (level dev head : Nat) (s : State) : (setColumnTemp level dev head s).kept = s.kept := by simp [setColumnTemp]

@[simp] theorem badSample_kept (c w : Nat) (s : State) : (badSample c w s).kept = s.kept := by simp [badSample]

@[simp] theorem compareFire_kept (c : Nat) (p : Int) (s : State) : (compareFire c p s).kept = s.kept := by simp [compareFire]

@[simp] theorem innerFire_kept (p : Int) (s : State) : (innerFire p s).kept = s.kept := by
  unfold innerFire
  split <;> simp

@[simp] theorem yawTest_kept (s : State) : (yawTest s).kept = s.kept := by
  unfold yawTest
  split <;> simp

@[simp] theorem yawCheck_kept (c tref : Nat) (p : Int) (s : State) : (yawCheck c tref p s).kept = s.kept := by
  unfold yawCheck
  split <;> simp

@[simp] theorem gateReading_kept (w : Nat) (s : State) : (gateReading w s).kept = s.kept := by
  simp only [gateReading]
  split
  · split <;> simp
  · simp

@[simp] theorem goodSample_kept (c w tref : Nat) (s : State) : (goodSample c w tref s).kept = s.kept := by simp [goodSample]

@[simp] theorem badEdge_kept (c w : Nat) (s : State) : (badEdge c w s).kept = s.kept := by simp [badEdge]

@[simp] theorem doMetSample_kept (c w tref : Nat) (s : State) : (doMetSample c w tref s).kept = s.kept := by simp [doMetSample]

@[simp] theorem undoStart_kept (c : Nat) (s : State) : (undoStart c s).kept = s.kept :=
  State.kept_foldl _ (fun u e => by
    split
    · split <;> simp
    · rfl) _ _

@[simp] theorem doMetCal_kept (s : State) : (doMetCal s).kept = s.kept := by
  simp [doMetCal]

@[simp] theorem doMetCalDone_kept (c clear good : Nat) (s : State) : (doMetCalDone c clear good s).kept = s.kept := by
  simp only [doMetCalDone]
  split
  · simp
  · split <;> simp

@[simp] theorem doCmpArm_kept (s : State) : (doCmpArm s).kept = s.kept := by
  simp only [doCmpArm]
  split
  · split <;> simp
  · simp

@[simp] theorem doCmpDisarm_kept (s : State) : (doCmpDisarm s).kept = s.kept := (rfl)

@[simp] theorem doProfile_kept (s : State) : (doProfile s).kept = s.kept := by simp [doProfile]

@[simp] theorem doMove_kept (s : State) : (doMove s).kept = s.kept := by simp [doMove]

@[simp] theorem doStop_kept (s : State) : (doStop s).kept = s.kept := by simp [doStop]

@[simp] theorem doSetPoint_kept (s : State) : (doSetPoint s).kept = s.kept := by simp [doSetPoint]

@[simp] theorem doBeatStall_kept (s : State) : (doBeatStall s).kept = s.kept := by
  simp only [doBeatStall]
  (repeat' split) <;> simp

@[simp] theorem doProjection_kept (s : State) : (doProjection s).kept = s.kept := by simp [doProjection]

@[simp] theorem doTempHold_kept (s : State) : (doTempHold s).kept = s.kept := by
  unfold doTempHold
  split <;> simp

@[simp] theorem nativeEdge_kept (t : Int) (s : State) : (nativeEdge t s).kept = s.kept := by simp [nativeEdge]

/-! ## Beam scans -/

@[simp] theorem doScanStart_kept (k : ScanKind) (s : State) : (doScanStart k s).kept = s.kept := by simp [doScanStart]

@[simp] theorem applyScan_kept (sc : ScanSt) (s : State) : (applyScan sc s).kept = s.kept :=
  State.kept_foldl _ (fun u e => by simp) _ _

@[simp] theorem doScanAbort_kept (s : State) : (doScanAbort s).kept = s.kept := by
  unfold doScanAbort
  split <;> simp

@[simp] theorem State.queueCmd_kept (s : State) (c : CadCmd) : (s.queueCmd c).kept = s.kept := by simp [State.queueCmd]

@[simp] theorem gateNext_kept (sc : ScanSt) (s : State) : (gateNext sc s).kept = s.kept := by simp [gateNext]

@[simp] theorem gateWindowEnd_kept (sc : ScanSt) (s : State) : (gateWindowEnd sc s).kept = s.kept := by
  unfold gateWindowEnd
  split <;> simp

@[simp] theorem gateAdvance_kept (s : State) : (gateAdvance s).kept = s.kept := by
  simp only [gateAdvance]
  split
  · split <;> simp
  · simp

@[simp] theorem beamTick_kept (s : State) : (beamTick s).kept = s.kept := by
  unfold beamTick
  split <;> simp

@[simp] theorem beamCheck_kept (c : CadCmd) (s : State) : (beamCheck c s).kept = s.kept := by
  simp only [beamCheck]
  split <;> simp

/-! ## The stripe life cycle -/

@[simp] theorem State.raiseAll_kept (s : State) (l : List FaultCode) : (s.raiseAll l).kept = s.kept := by simp [State.raiseAll]

@[simp] theorem State.zeroAll_kept (s : State) (l : List RegField) : (s.zeroAll l).kept = s.kept :=
  State.kept_foldl _ (fun u f => State.setFd_kept u f 0 0) _ _

@[simp] theorem armClear_kept (s : State) : (armClear s).kept = s.kept := by
  have hcount : ∀ u : State, ((List.range 8).foldl (fun s m => s.setFd F.STORE_MODE_COUNT_COUNT 0 m) u).kept = u.kept :=
    State.kept_foldl _ (fun u m => State.setFd_kept u _ 0 m) _
  have hset : ((List.range 8).foldl (fun s m => s.setFd F.STORE_MODE_COUNT_COUNT 0 m) (s.zeroAll armCleared)).kept = s.kept :=
    (hcount _).trans (State.zeroAll_kept s armCleared)
  unfold armClear
  generalize (List.range 8).foldl (fun s m => s.setFd F.STORE_MODE_COUNT_COUNT 0 m) (s.zeroAll armCleared) = u at hset
  dsimp only
  rw [State.kept_mk]
  generalize hv : u.setFd F.STAGE_BEAT_PERIOD_MIN 0xFFFF 0 = v
  rw [State.kept_eta, ← hv, State.setFd_kept u F.STAGE_BEAT_PERIOD_MIN 0xFFFF 0, hset]

@[simp] theorem armBind_kept (s : State) : (armBind s).kept = s.kept := by
  simp only [armBind]
  split <;> simp

@[simp] theorem armReplay_kept (s : State) : (armReplay s).kept = s.kept := by simp [armReplay]

@[simp] theorem State.putStaged_kept (s : State) (t : StagedTable) (k v : Nat) : (s.putStaged t k v).kept = s.kept := by
  unfold State.putStaged
  split <;> simp

@[simp] theorem stageEntry_kept (t : StagedTable) (k v : Nat) (s : State) : (stageEntry t k v s).kept = s.kept := by simp [stageEntry]

@[simp] theorem protectBurst_kept (o : DmaOp) (n : Nat) (s : State) : (protectBurst o n s).kept = s.kept := by simp [protectBurst]

@[simp] theorem protectAppend_kept (u : Nat) (seq : Word) (s : State) : (protectAppend u seq s).kept = s.kept := by simp [protectAppend]

@[simp] theorem unbind_kept (s : State) : (unbind s).kept = s.kept := (rfl)

@[simp] theorem toIdle_kept (s : State) : (toIdle s).kept = s.kept := (rfl)

@[simp] theorem doDisarm_kept (s : State) : (doDisarm s).kept = s.kept := by simp [doDisarm]

@[simp] theorem stackTemps_kept (t0 t1 : Nat) (s : State) : (stackTemps t0 t1 s).kept = s.kept := by simp [stackTemps]

@[simp] theorem doRelease_kept (s : State) : (doRelease s).kept = s.kept := by simp [doRelease]

@[simp] theorem doneStripe_kept (s : State) : (doneStripe s).kept = s.kept := (rfl)

@[simp] theorem moveToPass_kept (p : Nat) (w : StageWait) (s : State) : (moveToPass p w s).kept = s.kept := (rfl)

@[simp] theorem acceptStart_kept (s : State) : (acceptStart s).kept = s.kept := (rfl)

@[simp] theorem refuseStart_kept (chain mismatch : Bool) (s : State) : (refuseStart chain mismatch s).kept = s.kept := by simp [refuseStart]

@[simp] theorem doStart_kept (s : State) : (doStart s).kept = s.kept := by simp [doStart]

@[simp] theorem doVerifyTimeout_kept (s : State) : (doVerifyTimeout s).kept = s.kept := by
  unfold doVerifyTimeout
  split <;> simp

@[simp] theorem doAbort_kept (s : State) : (doAbort s).kept = s.kept := by simp [doAbort]

@[simp] theorem runInSources_kept (s : State) : (runInSources s).kept = s.kept := by simp [runInSources]

@[simp] theorem runInStage_kept (p : Nat) (s : State) : (runInStage p s).kept = s.kept := by simp [runInStage]

@[simp] theorem enterRunIn_kept (p : Nat) (s : State) : (enterRunIn p s).kept = s.kept := by simp [enterRunIn]

@[simp] theorem enterRunOut_kept (tb : Int) (s : State) : (enterRunOut tb s).kept = s.kept := by
  simp only [enterRunOut]
  split
  · simp
  · split <;> simp

@[simp] theorem doSettled_kept (s : State) : (doSettled s).kept = s.kept := by
  simp only [doSettled]
  (repeat' split) <;> simp

/-! ## Beats and the cadence link -/

@[simp] theorem issueBeat_kept (tb : Int) (s : State) : (issueBeat tb s).kept = s.kept := by
  unfold issueBeat
  split <;> simp

@[simp] theorem sendFrame_kept (typ : Nat) (payload : List Byte) (start : Bool) (s : State) :
    (sendFrame typ payload start s).kept = s.kept := by simp [sendFrame]

@[simp] theorem sendCmd_kept (c : CadCmd) (s : State) : (sendCmd c s).kept = s.kept := by simp [sendCmd]

theorem takeDamp_kept {s t : State} {c : CadCmd} (h : takeDamp s = some (c, t)) : t.kept = s.kept := by
  simp only [takeDamp] at h
  split at h
  · obtain ⟨-, rfl⟩ := h
    rfl
  · cases h

@[simp] theorem dropCmd_kept (c : CadCmd) (s : State) : (dropCmd c s).kept = s.kept := by simp [dropCmd]

@[simp] theorem offerDue_kept (kept l : List CadCmd) (s : State) : (offerDue kept l s).2.kept = s.kept := by
  induction l generalizing kept s with
  | nil => rfl
  | cons c t ih =>
    simp only [offerDue]
    split
    · simp [ih]
    · split <;> simp [ih]

@[simp] theorem sendOther_kept (c : CadCmd) (s : State) : (sendOther c s).kept = s.kept := by simp [sendOther]

@[simp] theorem sendVerify_kept (s : State) : (sendVerify s).kept = s.kept := by simp [sendVerify]

@[simp] theorem sendTick_kept (s : State) : (sendTick s).kept = s.kept := by simp [sendTick]

@[simp] theorem slotFrame_kept (s : State) : (slotFrame s).kept = s.kept := by
  simp only [slotFrame]
  split
  · rename_i h
    simp [takeDamp_kept h]
  split
  · simp
  split <;> rename_i h
  · have := offerDue_kept [] s.cad.due s
    simpa [h] using this
  · have := offerDue_kept [] s.cad.due s
    split <;> simpa [h] using this

@[simp] theorem doSlot_kept (s : State) : (doSlot s).kept = s.kept := by
  simp only [doSlot]
  split
  · rfl
  · split <;> simp

@[simp] theorem memberLost_kept (s : State) : (memberLost s).kept = s.kept := by simp [memberLost]

@[simp] theorem seenFrame_kept (l : List Byte) (s : State) : (seenFrame l s).kept = s.kept := (rfl)

@[simp] theorem forward_kept (l : List Byte) (ok : Bool) (s : State) : (forward l ok s).kept = s.kept := by simp [forward]

@[simp] theorem takeBeat_kept (l : List Byte) (issue : Int) (s : State) : (takeBeat l issue s).kept = s.kept := by simp [takeBeat]

@[simp] theorem takeCmd_kept (l : List Byte) (issue : Int) (s : State) : (takeCmd l issue s).kept = s.kept := (rfl)

@[simp] theorem takeVerify_kept (l : List Byte) (s : State) : (takeVerify l s).kept = s.kept := (rfl)

@[simp] theorem takeFrame_kept (l : List Byte) (s : State) : (takeFrame l s).kept = s.kept := by
  unfold takeFrame
  split <;> simp

@[simp] theorem arrive_kept (l : List Byte) (s : State) : (arrive l s).kept = s.kept := by simp [arrive]

@[simp] theorem ringFail_kept (s : State) : (ringFail s).kept = s.kept := by simp [ringFail]

@[simp] theorem startVerdict_kept (chain mismatch nc : Bool) (s : State) :
    (startVerdict chain mismatch nc s).kept = s.kept := by simp [startVerdict]

@[simp] theorem verifyBack_kept (f : SentFrame) (l : List Byte) (s : State) : (verifyBack f l s).kept = s.kept := by simp [verifyBack]

@[simp] theorem verifyBroken_kept (f : SentFrame) (s : State) : (verifyBroken f s).kept = s.kept := by simp [verifyBroken]

@[simp] theorem seenReturn_kept (f : SentFrame) (l : List Byte) (s : State) : (seenReturn f l s).kept = s.kept := by simp [seenReturn]

@[simp] theorem tickBack_kept (l : List Byte) (s : State) : (tickBack l s).kept = s.kept := by simp [tickBack]

@[simp] theorem frameReturn_kept (l : List Byte) (s : State) : (frameReturn l s).kept = s.kept := by
  simp only [frameReturn]
  split
  · simp
  · split <;> simp

theorem takeScheduled_kept {code : Nat} {s t : State} {c : CadCmd} (h : takeScheduled code s = some (c, t)) : t.kept = s.kept := by
  simp only [takeScheduled] at h
  split at h
  · obtain ⟨-, rfl⟩ := h
    rfl
  · cases h

@[simp] theorem cadRow_kept (code : Nat) (l : List Byte) (f : CadCmd → State → State) (s : State) (hf : ∀ c u, (f c u).kept = u.kept) :
    (cadRow code l f s).kept = s.kept := by
  simp only [cadRow]
  split
  · rfl
  split
  · simp
  split
  · rename_i h
    simp [hf, takeScheduled_kept h]
  · rfl

@[simp] theorem runStripeStart_kept (s : State) : (runStripeStart s).kept = s.kept := by simp [runStripeStart]

@[simp] theorem runPassStart_kept (c : CadCmd) (s : State) : (runPassStart c s).kept = s.kept := by simp [runPassStart]

@[simp] theorem runDone_kept (s : State) : (runDone s).kept = s.kept := by simp [runDone]

@[simp] theorem runShift_kept (c : CadCmd) (s0 : State) : (runShift c s0).kept = s0.kept := by simp [runShift]

@[simp] theorem runAbort_kept (s : State) : (runAbort s).kept = s.kept := by simp [runAbort]

@[simp] theorem absorbShifts_kept (k : Nat) (s : State) : (absorbShifts k s).kept = s.kept := (rfl)

@[simp] theorem underrunCheck_kept (s : State) : (underrunCheck s).kept = s.kept := by simp [underrunCheck]

@[simp] theorem runBeat_kept (b : IssuedBeat) (s : State) : (runBeat b s).kept = s.kept := by simp [runBeat]

@[simp] theorem doBeat_kept (s : State) : (doBeat s).kept = s.kept := by
  unfold doBeat
  split <;> simp

@[simp] theorem doUnderrun_kept (s : State) : (doUnderrun s).kept = s.kept := by simp [doUnderrun]

@[simp] theorem doLock_kept (s : State) : (doLock s).kept = s.kept := by simp [doLock]

@[simp] theorem doCadenceLost_kept (kind : Nat) (s : State) : (doCadenceLost kind s).kept = s.kept := by
  simp only [doCadenceLost]
  (repeat' split) <;> simp

@[simp] theorem runDampCmd_kept (c : CadCmd) (s : State) : (runDampCmd c s).kept = s.kept := by simp [runDampCmd]

/-! ## Crossings between islands -/

@[simp] theorem State.setWordXing_kept (s : State) (i : Nat) (x : HeldXing) : (s.setWordXing i x).kept = s.kept := (rfl)

@[simp] theorem State.discard_kept (s : State) (x : Fin 96) (n : Nat) : (s.discard x n).kept = s.kept := by simp [State.discard]

@[simp] theorem crossWords_kept (b : Nat) (s : State) : (crossWords b s).kept = s.kept := by simp [crossWords]

@[simp] theorem State.putEdges_kept (s : State) (x : PulseXing) : (s.putEdges x).kept = s.kept := (rfl)

@[simp] theorem edgeBurst_kept (s : State) : (edgeBurst s).kept = s.kept := by simp [edgeBurst]

@[simp] theorem edgeLost_kept (s : State) : (edgeLost s).kept = s.kept := by simp [edgeLost]

@[simp] theorem edgeAt_kept (sub : Nat) (f : Int → State → State) (s : State) (hf : ∀ a0 u, (f a0 u).kept = u.kept) :
    (edgeAt sub f s).kept = s.kept := by
  simp [edgeAt]
  (repeat' split) <;> simp [hf]

@[simp] theorem countEdge_kept (f : Int → State → State) (s : State) (hf : ∀ a0 u, (f a0 u).kept = u.kept) : (countEdge f s).kept = s.kept := by
  simp [countEdge, hf]

@[simp] theorem crossStep_kept (runs : Nat → Bool) (s : State) : (crossStep runs s).kept = s.kept := (rfl)

@[simp] theorem crossReset_kept (i : Nat) (s0 : State) : (crossReset i s0).kept = s0.kept := by simp [crossReset]

@[simp] theorem crossReopen_kept (x : Nat) (s : State) : (crossReopen x s).kept = s.kept := (rfl)

/-! ## Power -/

@[simp] theorem requestHush_kept (thenDorm : Bool) (s : State) : (requestHush thenDorm s).kept = s.kept := by
  simp only [requestHush]
  split
  · simp
  · split <;> simp

@[simp] theorem requestDormant_kept (smb : Bool) (s : State) : (requestDormant smb s).kept = s.kept := by
  simp only [requestDormant]
  split
  · simp
  · split <;> simp

@[simp] theorem doPowerCmd_kept (c : Nat) (smb : Bool) (s : State) : (doPowerCmd c smb s).kept = s.kept := by
  unfold doPowerCmd
  split <;> simp

@[simp] theorem idleTick_kept (ns : Nat) (s : State) : (idleTick ns s).kept = s.kept := (rfl)

@[simp] theorem hushEntered_kept (smb : Bool) (s : State) : (hushEntered smb s).kept = s.kept := by
  have hsleep : ∀ u : State, ((List.range 18).foldl (fun s n => s.setLane n { s.lane n with tx := .sleep, wire := none }) u).kept = u.kept :=
    State.kept_foldl _ (fun _ _ => State.setLane_kept ..) _
  simp only [hushEntered]
  split <;> simp [hsleep]

@[simp] theorem exitFor_kept (sources : List Nat) (s : State) : (exitFor sources s).kept = s.kept := by simp [exitFor]

@[simp] theorem doHushDone_kept (smb : Bool) (s : State) : (doHushDone smb s).kept = s.kept := by
  simp only [doHushDone]
  split <;> simp

@[simp] theorem dormantLoss_kept (s0 : State) : (dormantLoss s0).kept = s0.kept := by simp [dormantLoss]

@[simp] theorem doDormantDone_kept (s : State) : (doDormantDone s).kept = s.kept := by
  have hsleep : ∀ u : State, ((List.range 18).foldl (fun s n =>
      s.setLane n { s.lane n with tx := .sleep, rx := .sleep, echoOk := false, wire := none }) u).kept = u.kept :=
    State.kept_foldl _ (fun _ _ => State.setLane_kept ..) _
  simp only [doDormantDone]
  split <;> simp [hsleep]

@[simp] theorem hushExited_kept (s : State) : (hushExited s).kept = s.kept := by simp [hushExited]

@[simp] theorem dormantExited_kept (s0 : State) : (dormantExited s0).kept = s0.kept := by simp [dormantExited]

@[simp] theorem pillowWindow_kept (short met : Bool) (s : State) (p : Nat) : (pillowWindow short met s p).kept = s.kept := by
  simp only [pillowWindow]
  split
  · rfl
  split
  · simp
  split
  · simp
  split <;> simp

@[simp] theorem doArbiter_kept (fixed : Nat) (demand : List Nat) (s : State) : (doArbiter fixed demand s).kept = s.kept := by
  have hwindow : ∀ (a b : Bool) (u : State), ((List.range 4).foldl (pillowWindow a b) u).kept = u.kept := fun a b u =>
    State.kept_foldl _ (fun v p => pillowWindow_kept a b v p) _ u
  simp [doArbiter, hwindow]

@[simp] theorem pmbusFail_kept (s : State) : (pmbusFail s).kept = s.kept := by simp [pmbusFail]

@[simp] theorem pmbusFirst_kept (mode vout : Option Nat) (s : State) : (pmbusFirst mode vout s).kept = s.kept := by
  unfold pmbusFirst
  split <;> simp

@[simp] theorem pmbusRead_kept (r : RailSet) (vout : Option Nat) (s : State) : (pmbusRead r vout s).kept = s.kept := by
  simp only [pmbusRead]
  split
  · simp
  split
  · split <;> simp
  split <;> simp

@[simp] theorem doReadback_kept (mode vout : Option Nat) (s : State) : (doReadback mode vout s).kept = s.kept := by
  simp only [doReadback]
  split
  · split <;> simp
  · split <;> simp

/-! ## Clock islands and crossings -/

@[simp] theorem islandReset_kept (i : Nat) (s : State) : (islandReset i s).kept = s.kept := by
  have hlanes : ∀ (l : List Nat) (u : State), (l.foldl (fun s n =>
      s.setLane n { s.lane n with tx := .sleep, rx := .sleep, echoOk := false, wire := none }) u).kept = u.kept := fun l u =>
    State.kept_foldl _ (fun _ _ => State.setLane_kept ..) l u
  have hunits : ∀ u : State, ((List.range 8).foldl (fun s n => loseUnit (8 * (i - 3) + n) s) u).kept = u.kept :=
    State.kept_foldl _ (fun v n => loseUnit_kept _ v) _
  simp only [islandReset]
  split
  · simp [hunits]
  split
  · simp
  split
  · simp [hlanes]
  split
  · simp [hlanes]
  split <;> simp [hlanes]

@[simp] theorem islandRelease_kept (i : Nat) (s : State) : (islandRelease i s).kept = s.kept := by simp [islandRelease]

@[simp] theorem doPllUnlock_kept (p : Nat) (s : State) : (doPllUnlock p s).kept = s.kept := by
  have hisl : ∀ (l : List Nat) (u : State), (l.foldl (fun s i =>
      if (s.island i).inReset then s.setIsland i { s.island i with pllReset := true }
      else islandReset i (s.setIsland i { s.island i with pllReset := true })) u).kept = u.kept := fun l u =>
    State.kept_foldl _ (fun _ _ => by split <;> simp) l u
  simp only [doPllUnlock]
  split
  · rfl
  split <;> simp [hisl]

@[simp] theorem doFreqCheck_kept (i khz : Nat) (s : State) : (doFreqCheck i khz s).kept = s.kept := by
  simp only [doFreqCheck]
  split
  · simp
  split
  · split <;> split <;> simp
  split <;> simp

@[simp] theorem doClockRecovered_kept (isPll : Bool) (n : Nat) (s : State) :
    (doClockRecovered isPll n s).kept = s.kept := by simp [doClockRecovered]

@[simp] theorem doXingReopen_kept (x : Nat) (s : State) : (doXingReopen x s).kept = s.kept := by simp [doXingReopen]

/-! ## The QSPI flash -/

@[simp] theorem flashSend_kept (o : FlashOp) (a n : Nat) (s : State) : (flashSend o a n s).kept = s.kept := by simp [flashSend]

@[simp] theorem flashRead_kept (a n : Nat) (s : State) : (flashRead a n s).2.kept = s.kept := by
  simp only [flashRead]
  split <;> simp

theorem FlashSt.lost_bytes (f : FlashSt) (a n : Nat) : (f.lost a n).bytes = f.bytes := by
  unfold FlashSt.lost
  split <;> rfl

@[simp] theorem FlashSt.abandon_bytes (f : FlashSt) : f.abandon.bytes = f.bytes := by
  unfold FlashSt.abandon
  split
  · rfl
  · exact FlashSt.lost_bytes ..

@[simp] theorem flashResult_kept (r : Nat) (s : State) : (flashResult r s).kept = s.kept := (rfl)

/-! ## TL-40 mode -/

@[simp] theorem State.whenPers_kept (s : State) (j : Nat) (f : State → State) (hf : ∀ u, (f u).kept = u.kept) : (s.whenPers j f).kept = s.kept := by
  simp [State.whenPers, hf]

@[simp] theorem State.winAccess_kept (s : State) (j off : Nat) (v : Word) (f : State → State) (hf : ∀ u, (f u).kept = u.kept) :
    (s.winAccess j off v f).kept = s.kept := by
  simp [State.winAccess, hf]

@[simp] theorem tlHalt_kept (j : Nat) (c : FaultCode) (s : State) : (tlHalt j c s).kept = s.kept := by simp [tlHalt]

@[simp] theorem tlTakeShape_kept (j e : Nat) (s : State) : (tlTakeShape j e s).kept = s.kept := (rfl)

@[simp] theorem tlTakeArray_kept (j e : Nat) (s : State) : (tlTakeArray j e s).kept = s.kept := (rfl)

@[simp] theorem startTiles_kept (j : Nat) (s : State) : (startTiles j s).kept = s.kept := by simp [startTiles]

@[simp] theorem tlTakeStripe_kept (j e : Nat) (s : State) : (tlTakeStripe j e s).kept = s.kept := by
  simp only [tlTakeStripe]
  split <;> simp

@[simp] theorem tlTakeStart_kept (j : Nat) (s : State) : (tlTakeStart j s).kept = s.kept := (rfl)

@[simp] theorem tlTakeEnd_kept (j : Nat) (s : State) : (tlTakeEnd j s).kept = s.kept := (rfl)

@[simp] theorem tlTake_kept (j e : Nat) (s : State) : (tlTake j e s).kept = s.kept := by
  simp only [tlTake]
  split <;> simp

@[simp] theorem tlConsume_kept (j op : Nat) (l : List Nat) (s : State) : (tlConsume j op l s).kept = s.kept := by
  induction l generalizing s with
  | nil => rfl
  | cons e t ih =>
    simp only [tlConsume]
    split
    · rfl
    split
    · split <;> simp [ih]
    split
    · split <;> simp
    · rfl

@[simp] theorem tlEntry_kept (j op : Nat) (s : State) : (tlEntry j op s).kept = s.kept := by simp [tlEntry]

@[simp] theorem tlFifoWord_kept (j : Nat) (v : Word) (s : State) : (tlFifoWord j v s).kept = s.kept := by simp [tlFifoWord]

@[simp] theorem tlClose_kept (j : Nat) (s : State) : (tlClose j s).kept = s.kept := by
  simp only [tlClose]
  split <;> simp

@[simp] theorem tlOpen_kept (j : Nat) (s : State) : (tlOpen j s).kept = s.kept := by simp [tlOpen]

@[simp] theorem tlFlow_kept (j : Nat) (v : Word) (s : State) : (tlFlow j v s).kept = s.kept := by simp [tlFlow]

@[simp] theorem tlRunIn_kept (j : Nat) (s : State) : (tlRunIn j s).kept = s.kept := by simp [tlRunIn]

@[simp] theorem tlDone_kept (j : Nat) (s : State) : (tlDone j s).kept = s.kept := by simp [tlDone]

@[simp] theorem tlAbort_kept (j : Nat) (s : State) : (tlAbort j s).kept = s.kept := by
  simp only [tlAbort, State.setPers_kept]
  split
  · split <;> simp
  split
  · split <;> simp
  split <;> simp

@[simp] theorem tlFifoReset_kept (j : Nat) (s : State) : (tlFifoReset j s).kept = s.kept := by
  simp only [tlFifoReset]
  split <;> simp

@[simp] theorem tlCmd_kept (j c : Nat) (s : State) : (tlCmd j c s).kept = s.kept := by
  simp only [tlCmd]
  split <;> simp

@[simp] theorem tlFlr_kept (j : Nat) (s : State) : (tlFlr j s).kept = s.kept := by simp [tlFlr]

@[simp] theorem tlStartLate_kept (s : State) (j : Nat) : (tlStartLate s j).kept = s.kept := by simp [tlStartLate]

@[simp] theorem tlDamp_kept (j b : Nat) (c : FaultCode) (s : State) : (tlDamp j b c s).kept = s.kept := by simp [tlDamp]

@[simp] theorem tlBeat_kept (t : Int) (s : State) (j : Nat) : (tlBeat t s j).kept = s.kept := by
  simp only [tlBeat]
  split <;> simp

@[simp] theorem tlUnderrun_kept (s : State) (j : Nat) : (tlUnderrun s j).kept = s.kept := by simp [tlUnderrun]

@[simp] theorem tlEdge_kept (t : Int) (s1 : State) : (tlEdge t s1).kept = s1.kept := by simp [tlEdge]

@[simp] theorem tlSend_kept (j k : Nat) (blank : Bool) (s : State) : (tlSend j k blank s).kept = s.kept := by simp [tlSend]

@[simp] theorem tlFrame_kept (j : Nat) (s : State) : (tlFrame j s).kept = s.kept := by simp [tlFrame]

@[simp] theorem tlWindowWrite_kept (j off : Nat) (v : Word) (s : State) : (tlWindowWrite j off v s).kept = s.kept := by
  simp [tlWindowWrite]

@[simp] theorem tlStatusRead_kept (j : Nat) (s : State) : (tlStatusRead j s).kept = s.kept := by simp [tlStatusRead]

@[simp] theorem tlHeld_kept (j off : Nat) (v : Word) (s : State) : (tlHeld j off v s).kept = s.kept := by simp [tlHeld]

/-! ## The apply of an image with its pricking reset -/

@[simp] theorem resetRegs_kept (b : Nat) (keep : Reg → Nat → Bool) (s : State) : (resetRegs b keep s).kept = s.kept := (rfl)

@[simp] theorem imageCap_kept (s : State) : (imageCap s).kept = s.kept := (rfl)

@[simp] theorem imageHorizon_kept (s : State) : (imageHorizon s).kept = s.kept := (rfl)

@[simp] theorem imageFfe_kept (s : State) : (imageFfe s).kept = s.kept :=
  State.kept_foldl _ (fun _ _ => State.setTaps_kept ..) _ _

@[simp] theorem imageRegs_kept (s : State) : (imageRegs s).kept = s.kept := by simp [imageRegs]

@[simp] theorem lanesStart_kept (s : State) : (lanesStart s).kept = s.kept := by simp [lanesStart]

@[simp] theorem resetCaril_kept (s : State) : (resetCaril s).kept = s.kept := by simp [resetCaril]

@[simp] theorem resetStage_kept (s : State) : (resetStage s).kept = s.kept := (rfl)

@[simp] theorem resetPlan_kept (s : State) : (resetPlan s).kept = s.kept := (rfl)

@[simp] theorem resetStore_kept (s : State) : (resetStore s).kept = s.kept := (rfl)

@[simp] theorem resetCorr_kept (s : State) : (resetCorr s).kept = s.kept := (rfl)

@[simp] theorem resetBob_kept (s : State) : (resetBob s).kept = s.kept := (rfl)

@[simp] theorem resetNet_kept (s : State) : (resetNet s).kept = s.kept := (rfl)

@[simp] theorem resetHbm_kept (s : State) : (resetHbm s).kept = s.kept := (rfl)

@[simp] theorem resetClock_kept (s : State) : (resetClock s).kept = s.kept := (rfl)

@[simp] theorem prickingReset_kept (old new : List Section) (s : State) : (prickingReset old new s).kept = s.kept := by simp [prickingReset]

@[simp] theorem writeStructure_kept (l : List Section) (s : State) : (writeStructure l s).kept = s.kept :=
  State.kept_foldl _ (fun u n => by simp) _ _

@[simp] theorem rejudgeWrites_kept (old : List (Nat × Word)) (s : State) : (rejudgeWrites old s).kept = s.kept :=
  State.kept_foldl _ (fun u e => by
    split
    · dsimp only
      split <;> simp
    · rfl) _ _

@[simp] theorem applyWrite_kept (l : List Section) (s : State) : (applyWrite l s).kept = s.kept := by
  simp only [applyWrite]
  split <;> split <;> split <;> simp

@[simp] theorem recordCause_kept (c : ResetCause) (s : State) : (recordCause c s).kept = s.kept := (rfl)

@[simp] theorem resetIslands_kept (s : State) : (resetIslands s).kept = s.kept := by
  unfold resetIslands
  rw [State.kept_mk]
  dsimp only
  rw [FlashSt.abandon_bytes, State.kept_eta]

@[simp] theorem warmState_kept (s : State) : (warmState s).kept = s.kept := by
  unfold warmState
  dsimp only
  rw [State.kept_mk]
  dsimp only
  rw [State.kept_eta, resetIslands_kept, State.kept_mk]
  rw [State.kept_eta, imageRegs_kept, State.kept_mk, State.kept_eta]

@[simp] theorem flashSlot_kept (base : Nat) (timeout : Bool) (s : State) : (flashSlot base timeout s).2.kept = s.kept := by
  simp only [flashSlot]
  (repeat' split) <;> simp

@[simp] theorem loadRejected_kept (v : Verdict) (s : State) : (loadRejected v s).kept = s.kept := by simp [loadRejected]

@[simp] theorem flashApply_kept (n : Nat) (img : List Byte) (l : List Section) (s : State) : (flashApply n img l s).kept = s.kept := by
  simp [flashApply]

@[simp] theorem safeApply_kept (s : State) : (safeApply s).kept = s.kept := by simp [safeApply]

@[simp] theorem coldBoot_kept (ta tb : Bool) (s : State) : (coldBoot ta tb s).kept = s.kept := by
  simp only [coldBoot]
  split
  · simp
  · split <;> simp

@[simp] theorem relatch_kept (s : State) (e : CycleEvent) : (relatch s e).kept = s.kept := by
  unfold relatch
  split <;> simp

@[simp] theorem warmReset_kept (c : ResetCause) (s : State) : (warmReset c s).kept = s.kept := by
  have hrel : ∀ (l : List CycleEvent) (u : State), (l.foldl relatch u).kept = u.kept := fun l u =>
    State.kept_foldl relatch (fun v e => relatch_kept v e) l u
  simp only [warmReset]
  split <;> simp [hrel]

@[simp] theorem bootReady_kept (s : State) : (bootReady s).kept = s.kept := by simp [bootReady]

@[simp] theorem doPrick_kept (isLoad : Bool) (s : State) : (doPrick isLoad s).kept = s.kept := by simp [doPrick]

@[simp] theorem doPrickCmd_kept (c : Nat) (s : State) : (doPrickCmd c s).kept = s.kept := by
  unfold doPrickCmd
  split <;> simp

@[simp] theorem imageArrives_kept (bytes : List Byte) (reply : HostReply) (s : State) : (imageArrives bytes reply s).kept = s.kept := by
  simp only [imageArrives]
  (repeat' split) <;> simp

@[simp] theorem loadOk_kept (s : State) : (loadOk s).kept = s.kept := by simp [loadOk]

@[simp] theorem applyDone_kept (l : List Section) (s : State) : (applyDone l s).kept = s.kept := by simp [applyDone]

@[simp] theorem flrStripes_kept (s : State) : (flrStripes s).kept = s.kept := by
  have hpers : ∀ u : State, ((List.range 4).foldl (fun s j => match (s.pers j).state with
      | .armed => settleTaps j (s.setPers j { s.pers j with state := .idle, startPending := false })
      | .runOut => tlAborted j s
      | _ => s) u).kept = u.kept :=
    State.kept_foldl _ (fun v j => by split <;> simp) _
  simp only [flrStripes]
  refine (hpers _).trans ?_
  split <;> split <;> simp

@[simp] theorem flrHost_kept (s : State) : (flrHost s).kept = s.kept := by
  have haborts : ∀ u : State, ((List.range 64).foldl (fun s n => doRingAbort n s) u).kept = u.kept :=
    State.kept_foldl _ (fun v n => doRingAbort_kept n v) _
  have hrevokes : ∀ u : State, ((List.range' 1 7).foldl (fun s g => revoke g s) u).kept = u.kept :=
    State.kept_foldl _ (fun v g => revoke_kept g v) _
  have hslots : ∀ u : State, ((List.range 256).foldl (fun s k => slotFree k s) u).kept = u.kept :=
    State.kept_foldl _ (fun v k => slotFree_kept k v) _
  unfold flrHost
  dsimp only
  rw [State.kept_mk, State.kept_eta, resetRegs_kept, resetRegs_kept, hslots, hrevokes, haborts]

/-! ## Rimshots and the snapshot -/

@[simp] theorem rimPulse_kept (s : State) : (rimPulse s).kept = s.kept := by simp [rimPulse]

@[simp] theorem rimMissed_kept (src code : Nat) (t : Int) (s : State) : (rimMissed src code t s).kept = s.kept := by simp [rimMissed]

@[simp] theorem snapCapture_kept (src code : Nat) (t : Int) (s : State) : (snapCapture src code t s).kept = s.kept := by
  unfold snapCapture
  split <;> simp

@[simp] theorem rimTake_kept (src code : Nat) (t : Int) (s : State) : (rimTake src code t s).kept = s.kept := by simp [rimTake]

@[simp] theorem rimshot_kept (src code : Nat) (s : State) : (rimshot src code s).kept = s.kept := by simp [rimshot]

@[simp] theorem rimCadence_kept (t : Int) (s : State) : (rimCadence t s).kept = s.kept := by simp [rimCadence]

@[simp] theorem rimRetake_kept (s : State) (e : CycleEvent) : (rimRetake s e).kept = s.kept := by
  unfold rimRetake
  split <;> simp

@[simp] theorem snapRelease_kept (s : State) : (snapRelease s).kept = s.kept := by
  have hre : ∀ (l : List CycleEvent) (u : State), (l.foldl rimRetake u).kept = u.kept := fun l u =>
    State.kept_foldl rimRetake (fun v e => rimRetake_kept v e) l u
  simp only [snapRelease]
  split
  · rfl
  split
  · simp
  · exact (hre _ _).trans (by simp)

@[simp] theorem doSnapCmd_kept (c : Nat) (s : State) : (doSnapCmd c s).kept = s.kept := by
  simp only [doSnapCmd]
  split <;> simp

@[simp] theorem rimEdge_kept (s : State) : (rimEdge s).kept = s.kept := by simp [rimEdge]

@[simp] theorem captureDone_kept (s : State) : (captureDone s).kept = s.kept := (rfl)

@[simp] theorem rimFall_kept (s : State) : (rimFall s).kept = s.kept := by simp [rimFall]

/-! ## AON's handling of a raising -/

@[simp] theorem noteRaised_kept (c n : Nat) (s : State) : (noteRaised c n s).kept = s.kept := by simp [noteRaised]

@[simp] theorem State.stageStamp_kept (s : State) : s.stageStamp.2.kept = s.kept := by
  unfold State.stageStamp
  split <;> simp

@[simp] theorem logRaised_kept (c n : Nat) (s : State) : (logRaised c n s).kept = s.kept := by simp [logRaised]

@[simp] theorem actIrq_kept (c : Nat) (s : State) : (actIrq c s).kept = s.kept := by simp [actIrq]

@[simp] theorem actDamp_kept (c : Nat) (s : State) : (actDamp c s).kept = s.kept := by simp [actDamp]

@[simp] theorem actRimshot_kept (c : Nat) (s : State) : (actRimshot c s).kept = s.kept := by simp [actRimshot]

@[simp] theorem handleFault_kept (s : State) : (handleFault s).kept = s.kept := by
  unfold handleFault
  split <;> simp

@[simp] theorem doStall_kept (i : Nat) (s : State) : (doStall i s).kept = s.kept := by simp [doStall]

@[simp] theorem doStallReset_kept (i : Nat) (s : State) : (doStallReset i s).kept = s.kept := by
  simp only [doStallReset]
  split
  · rfl
  split <;> simp

@[simp] theorem junctionReads_kept (tj : BitVec 12) (s : State) : (junctionReads tj s).kept = s.kept := by simp [junctionReads]

@[simp] theorem islandsOff_kept (s : State) : (islandsOff s).kept = s.kept := (rfl)

@[simp] theorem thermalTrip_kept (s : State) : (thermalTrip s).kept = s.kept := by simp [thermalTrip]

@[simp] theorem junctionMoves_kept (tj : BitVec 12) (s : State) : (junctionMoves tj s).kept = s.kept := by simp [junctionMoves]

/-! ## The commands of start-up and reset -/

@[simp] theorem brownOut_kept (s : State) : (brownOut s).kept = s.kept := (rfl)

@[simp] theorem perstAssert_kept (s : State) : (perstAssert s).kept = s.kept := by
  simp only [perstAssert]
  split
  · rfl
  split
  · simp
  split <;> simp

@[simp] theorem perstDeassert_kept (s : State) : (perstDeassert s).kept = s.kept := (rfl)

@[simp] theorem bootHalt_kept (ph : Nat) (s : State) : (bootHalt ph s).kept = s.kept := by simp [bootHalt]

@[simp] theorem cfgWrite_kept (f : Nat) (r : CfgReg) (v : Word) (s : State) : (cfgWrite f r v s).kept = s.kept := by
  unfold cfgWrite
  split <;> simp

@[simp] theorem doConfig_kept (f : Nat) (r : CfgReg) (wr : Option Word) (s : State) : (doConfig f r wr s).kept = s.kept := by
  simp only [doConfig]
  (repeat' split) <;> simp

/-! ## Register writes -/

theorem pickCmd_kept (c : Nat) (l : List (State → State)) (hl : ∀ f ∈ l, ∀ u, (f u).kept = u.kept) (s : State) :
    (pickCmd c l s).kept = s.kept := by
  cases c with
  | zero => rfl
  | succ n =>
    simp only [pickCmd]
    split
    · rename_i f hf
      exact hl f (List.mem_of_getElem? hf) s
    · rfl

@[simp] theorem laneCmd_kept (c : Nat) (s : State) : (laneCmd c s).kept = s.kept :=
  pickCmd_kept c _ (by simp) s

@[simp] theorem ringCmd_kept (c n : Nat) (s : State) : (ringCmd c n s).kept = s.kept :=
  pickCmd_kept c _ (by simp) s

@[simp] theorem checkCmd_kept (c : Nat) (s : State) : (checkCmd c s).kept = s.kept := by simp [checkCmd]

@[simp] theorem servoCmd_kept (v : Word) (s : State) : (servoCmd v s).kept = s.kept := by simp [servoCmd]

@[simp] theorem timeCmd_kept (v : Word) (s : State) : (timeCmd v s).kept = s.kept := by
  simp only [timeCmd]
  split <;> split <;> simp

@[simp] theorem storeReg_kept (r : Reg) (i : Nat) (v : Word) (s : State) : (storeReg r i v s).kept = s.kept := (rfl)

@[simp] theorem storeKeeping_kept (r : Reg) (keep : Word) (c : FaultCode) (v : Word) (s : State) :
    (storeKeeping r keep c v s).kept = s.kept := by simp [storeKeeping]

@[simp] theorem dropLink_kept (s : State) (mac : Nat) : (dropLink s mac).kept = s.kept := by simp [dropLink]

@[simp] theorem portWrite_kept (p : Nat) (v : Word) (s : State) : (portWrite p v s).kept = s.kept := by
  simp [portWrite]

@[simp] theorem ffeWrite_kept (n : Nat) (v : Word) (s : State) : (ffeWrite n v s).kept = s.kept := by simp [ffeWrite]

@[simp] theorem ringCfgWrite_kept (r : Reg) (n : Nat) (v : Word) (s : State) : (ringCfgWrite r n v s).kept = s.kept := by simp [ringCfgWrite]

theorem effectOf_kept {r : Reg} {i : Nat} {v : Word} {f : State → State} (h : effectOf r i v = some f) (s : State) : (f s).kept = s.kept := by
  have hall : ∀ g ∈ effectOf r i v, (g s).kept = s.kept := by
    unfold effectOf
    split <;> simp
  exact hall f h

@[simp] theorem msixWord_kept (k n : Nat) (v : Word) (s : State) : (msixWord k n v s).kept = s.kept := by
  simp only [msixWord]
  split
  · simp
  · simp
  · simp
  split
  · simp
  split <;> simp

@[simp] theorem msixWrite_kept (off : Nat) (v : Word) (s : State) : (msixWrite off v s).kept = s.kept := by
  simp only [msixWrite]
  split <;> simp

@[simp] theorem pageWrite_kept (n off : Nat) (v : Word) (s : State) : (pageWrite n off v s).kept = s.kept := by
  simp only [pageWrite]
  split
  · rfl
  split
  · simp
  split
  · split <;> simp
  split <;> simp

@[simp] theorem bar2Write_kept (off : Nat) (v : Word) (whole : Bool) (s : State) : (bar2Write off v whole s).kept = s.kept := by
  simp [bar2Write]

@[simp] theorem windowWrite_kept (j off : Nat) (v : Word) (whole : Bool) (s : State) : (windowWrite j off v whole s).kept = s.kept := by
  simp [windowWrite]

@[simp] theorem alignRefs_kept (s : State) : (alignRefs s).kept = s.kept := by simp [alignRefs]

@[simp] theorem fireTrigger_kept (t : Nat) (s : State) : (fireTrigger t s).kept = s.kept := by
  simp only [fireTrigger]
  split
  · simp
  · split <;> simp

/-! ## The SMBus sideband -/

@[simp] theorem smbWrite_kept (code : Nat) (data : List Byte) (pec : Option (BitVec 8)) (f : State → State) (s : State)
    (hf : ∀ u, (f u).kept = u.kept) : (smbWrite code data pec f s).kept = s.kept := by
  simp [smbWrite]
  (repeat' split) <;> simp [hf]

@[simp] theorem smbRead_kept (code : Nat) (data : List Byte) (s : State) : (smbRead code data s).kept = s.kept := by simp [smbRead]

end Sys2Proof.Machine

/-! PROOFS. The rows that write a memory (R426, R435, R446, R520, R618), and what every command keeps. -/

namespace Sys2Proof.Machine

variable {k : Kept} {s : State}

/-! ## What a command may make of it -/

/-- The memories are in their canonical form. -/
def Kept.canonical (k : Kept) : Bool := Memory.wf k.dram && Sparse.wf 0 k.dramMark && Sparse.wf 0xFF#8 k.flash

/-- l may follow k: the queue and the fuses stand, and canonical memories stay canonical. -/
structure Kept.Allows (k l : Kept) : Prop where
  pending : l.pending = k.pending
  fuseSerial : l.fuseSerial = k.fuseSerial
  fuseKeyDigest : l.fuseKeyDigest = k.fuseKeyDigest
  fuseSigRequired : l.fuseSigRequired = k.fuseSigRequired
  fuseEpochMin : l.fuseEpochMin = k.fuseEpochMin
  canonical : k.canonical = true → l.canonical = true

@[simp] theorem Kept.allows_refl (k : Kept) : k.Allows k := ⟨rfl, rfl, rfl, rfl, rfl, id⟩

@[simp] theorem Kept.allows_ite (p : Prop) [Decidable p] (l m : Kept) : k.Allows (if p then l else m) ↔ (p → k.Allows l) ∧ (¬p → k.Allows m) := by
  split <;> simp [*]

theorem Kept.canonical_iff : k.canonical = true ↔
    Memory.wf k.dram = true ∧ Sparse.wf 0 k.dramMark = true ∧ Sparse.wf 0xFF#8 k.flash = true := by
  simp [Kept.canonical, and_assoc]

/-- Other memories, canonical where the ones before were. -/
theorem Kept.Allows.memories (h : k.Allows s.kept) {d : Sparse Byte} {m : Sparse Nat} {f : Sparse Byte} (hd : Memory.wf s.dram = true → Memory.wf d = true)
    (hm : Sparse.wf 0 s.dramMark = true → Sparse.wf 0 m = true)
    (hf : Sparse.wf 0xFF#8 s.glob.flash.bytes = true → Sparse.wf 0xFF#8 f = true) :
    k.Allows ⟨s.pending, s.glob.fuseSerial, s.glob.fuseKeyDigest, s.glob.fuseSigRequired, s.glob.fuseEpochMin, d, m, f⟩ :=
  ⟨h.pending, h.fuseSerial, h.fuseKeyDigest, h.fuseSigRequired, h.fuseEpochMin, fun hk => by
    obtain ⟨h1, h2, h3⟩ := Kept.canonical_iff.mp (h.canonical hk)
    exact Kept.canonical_iff.mpr ⟨hd h1, hm h2, hf h3⟩⟩

theorem State.allows_foldl {α : Type} {f : State → α → State} (h : ∀ u a, k.Allows u.kept → k.Allows (f u a).kept) (l : List α) (s : State)
    (hs : k.Allows s.kept) : k.Allows (l.foldl f s).kept :=
  List.foldlRecOn (motive := fun u => k.Allows u.kept) l f hs (fun u hu a _ => h u a hu)

/-! ## Commands that wait for a state of the device -/

section
variable {f : State → State} (hf : ∀ u, k.Allows u.kept → k.Allows (f u).kept) (h : k.Allows s.kept)
include hf h

theorem State.whenAon_allows : k.Allows (s.whenAon f).kept := by simp [State.whenAon, h, hf s h]

theorem State.whenUp_allows : k.Allows (s.whenUp f).kept := by simp [State.whenUp, h, hf s h]

theorem State.whenReady_allows : k.Allows (s.whenReady f).kept := by simp [State.whenReady, h, hf s h]

theorem State.whenDram_allows : k.Allows (s.whenDram f).kept :=
  State.whenReady_allows (fun u hu => by simp [hu, hf u hu]) h

theorem State.edgeOpen_allows : k.Allows (s.edgeOpen f).kept :=
  State.whenReady_allows (fun u hu => by simp [hu, hf u hu]) h

theorem State.edgeDram_allows : k.Allows (s.edgeDram f).kept :=
  State.edgeOpen_allows (fun u hu => by simp [hu, hf u hu]) h

theorem issueWork_allows (c : Nat) (us : List Nat) : k.Allows (issueWork c us f s).kept := by
  simp only [issueWork, State.kept_ite, Kept.allows_ite]
  exact ⟨fun _ => hf _ (by simp [h]), fun _ => h⟩

theorem State.hostWrite_allows (r : Reg) (w : Nat) (v : Word) : k.Allows (s.hostWrite r w v f).kept := by
  have hstand : ∀ u : State, k.Allows u.kept → k.Allows (if u.cmdAbsent r then u else f u).kept := fun u hu => by simp [hu, hf u hu]
  simp only [State.hostWrite]
  split
  · simp [h]
  split
  · split <;> simp [h]
  · split
    · simp [h]
    · exact hstand s h
  · split
    · exact hstand _ (by simp [h])
    · exact hstand s h

theorem State.hostCmd_allows (r : Reg) (v : Nat) : k.Allows (s.hostCmd r v f).kept := State.hostWrite_allows hf h r 0 _

end

theorem startOp_allows {f : DmaOp → State → State} (hf : ∀ o u, k.Allows u.kept → k.Allows (f o u).kept) (h : k.Allows s.kept) (n op : Nat) :
    k.Allows (startOp n op s f).kept := by
  simp only [startOp]
  split
  · split
    · exact h
    split
    · exact hf _ _ (by simp [h])
    split
    · exact hf _ _ (by simp [h])
    · exact h
  · exact h

@[simp] theorem pickCmd_allows {l : List (State → State)} (hl : ∀ f ∈ l, k.Allows (f s).kept) (h : k.Allows s.kept) (c : Nat) :
    k.Allows (pickCmd c l s).kept := by
  cases c with
  | zero => exact h
  | succ n =>
    simp only [pickCmd]
    split
    · rename_i f hf
      exact hl f (List.mem_of_getElem? hf)
    · exact h

/-! ## DRAM -/

@[simp] theorem State.dramPut_allows (h : k.Allows s.kept) (a : Nat) (l : List Byte) : k.Allows (s.dramPut a l).kept := by
  rw [State.dramPut, State.kept_mk]
  exact h.memories (Sparse.wf_setRange a l) id id

@[simp] theorem State.setMark_allows (h : k.Allows s.kept) (w m : Nat) : k.Allows (s.setMark w m).kept := by
  rw [State.setMark, State.kept_mk]
  exact h.memories id (Sparse.wf_set w m) id

theorem writeMark.plain_allows (h : k.Allows s.kept) (whole : Bool) (w : Nat) : k.Allows (writeMark.plain whole w s).kept := by
  simp [writeMark.plain, h]

@[simp] theorem writeMark_allows (h : k.Allows s.kept) (whole : Bool) (w : Nat) : k.Allows (writeMark whole w s).kept := by
  simp only [writeMark]
  split
  · split
    · have hm := fun m => State.setMark_allows h w m
      simp only [State.kept_mk]
      exact hm _
    · exact writeMark.plain_allows h whole w
  · exact writeMark.plain_allows h whole w

@[simp] theorem dramStore_allows (h : k.Allows s.kept) (a : Nat) (l : List Byte) : k.Allows (dramStore a l s).kept :=
  State.allows_foldl (fun _ _ hu => writeMark_allows hu _ _) _ _ (State.dramPut_allows h a l)

@[simp] theorem dramWrite_allows (h : k.Allows s.kept) (a : Nat) (l : List Byte) : k.Allows (dramWrite a l s).kept := by
  simp [dramWrite, h]

@[simp] theorem dramPoison_allows (h : k.Allows s.kept) (a n : Nat) : k.Allows (dramPoison a n s).kept := by
  have hmarks : ∀ l : List Nat, k.Allows (l.foldl (fun s k => s.setMark (a / 16 + k) poisonMark) s).kept := fun l =>
    State.allows_foldl (fun _ _ hu => State.setMark_allows hu _ _) l s h
  simp [dramPoison, h, hmarks]

@[simp] theorem putSpan_allows (h : k.Allows s.kept) (a : Nat) (l : List Byte) (marks : List (Nat × Nat)) : k.Allows (putSpan a l marks s).kept :=
  State.allows_foldl (fun _ _ hu => State.setMark_allows hu _ _) _ _ (State.dramPut_allows h a l)

@[simp] theorem beginFill_allows (h : k.Allows s.kept) : k.Allows (beginFill s).kept := by
  rw [beginFill, State.kept_mk]
  exact h.memories (fun _ => Sparse.wf_nil _) (fun _ => Sparse.wf_nil _) id

@[simp] theorem doRemap_allows (h : k.Allows s.kept) : k.Allows (doRemap s).kept := by
  simp only [doRemap]
  split
  · simp [h]
  split
  · simp [h]
  · rw [dropLibs_kept]
    apply beginFill_allows
    simp [h]

theorem scrubOver_allows (h : k.Allows s.kept) (x : Scrub) (n : Nat) : k.Allows (scrubOver x n s).2.kept := by
  have hread : ∀ l : List (Nat × Nat), k.Allows (l.foldl (fun s e => (readClass 0x58 (e.1 * 16) e.2 s).2)
      { s with hbm := { s.hbm with scrub := none } }).kept := fun l =>
    State.allows_foldl (fun _ _ hu => by simp [hu]) l _ (by simp [h])
  simp only [scrubOver, State.kept_ite, Kept.allows_ite]
  exact ⟨fun _ => State.allows_foldl (fun _ _ hu => writeMark_allows hu _ _) _ _ (hread _), fun _ => hread _⟩

@[simp] theorem doScrubDone_allows (h : k.Allows s.kept) : k.Allows (doScrubDone s).kept := by
  simp only [doScrubDone]
  split
  · exact h
  · rw [slotFillProducer_kept]
    exact scrubOver_allows h _ _

@[simp] theorem doScrubAbort_allows (h : k.Allows s.kept) : k.Allows (doScrubAbort s).kept := by
  simp only [doScrubAbort]
  split
  · exact h
  · rw [slotFillProducer_kept]
    exact scrubOver_allows (by simp [h]) _ _

/-! ## Lace intake and the correction fields -/

@[simp] theorem stitchStore_allows (h : k.Allows s.kept) (a : Nat) (w : Stitch) : k.Allows (stitchStore a w s).kept := by
  have ht := dramWrite_allows h a (leBytes 8 w.toNat)
  simp only [stitchStore, State.kept_mk]
  refine ⟨h.pending, h.fuseSerial, h.fuseKeyDigest, h.fuseSigRequired, h.fuseEpochMin, fun hk => ?_⟩
  obtain ⟨-, -, hflash⟩ := Kept.canonical_iff.mp (h.canonical hk)
  obtain ⟨hdram, hmark, -⟩ := Kept.canonical_iff.mp (ht.canonical hk)
  exact Kept.canonical_iff.mpr ⟨hdram, hmark, hflash⟩

@[simp] theorem laceStitch_allows (h : k.Allows s.kept) (i : Fin 2) (w : Stitch) : k.Allows (laceStitch i w s).kept := by
  simp only [laceStitch]
  split
  · simp [h]
  split
  · simp [h]
  split
  · split
    · simp [h]
    · split <;> simp [h]
  · split <;> simp [h]

@[simp] theorem laceIntake_allows (h : k.Allows s.kept) (i : Fin 2) (l : List Stitch) : k.Allows (laceIntake i l s).kept :=
  State.allows_foldl (fun _ _ hu => laceStitch_allows hu i _) l s h

@[simp] theorem fmapRow_allows (h : k.Allows s.kept) (hd : LaceHeader) (y : Int) : k.Allows (fmapRow hd y s).kept := by
  simp only [fmapRow]
  exact dramWrite_allows (by rw [State.kept_foldl _ (fun u b => satFlag_kept b u)]; exact h) _ _

@[simp] theorem finalRows_allows (h : k.Allows s.kept) (hd : LaceHeader) (fuel : Nat) : k.Allows (finalRows hd fuel s).kept := by
  induction fuel generalizing s with
  | zero => exact h
  | succ n ih =>
    have hrow : ∀ y : Nat, k.Allows (fmapRow hd y (if y = 0 then fmapRow hd (-1) s else s)).kept := fun y =>
      fmapRow_allows (by simp [h]) hd y
    simp only [finalRows]
    split
    · exact h
    · split <;> exact ih (by simp [hrow])

/-! ## Seam records -/

@[simp] theorem storeSeam_allows (h : k.Allows s.kept) (l : List Byte) : k.Allows (storeSeam l s).kept := by
  simp only [storeSeam]
  split
  · exact h
  · split <;> simp [h]

@[simp] theorem seamRecord_allows (h : k.Allows s.kept) (l : List Byte) : k.Allows (seamRecord l s).kept := by
  simp only [seamRecord]
  split
  · simp [h]
  split
  · simp [h]
  split
  · split <;> simp [h]
  split <;> simp [h]

@[simp] theorem anyRecord_allows (h : k.Allows s.kept) (l : List Byte) : k.Allows (anyRecord l s).kept := by
  simp [anyRecord, h]

/-! ## Check units and bursts -/

@[simp] theorem doCheckDone_allows (h : k.Allows s.kept) (u : Nat) : k.Allows (doCheckDone u s).kept := by
  simp only [doCheckDone]
  split
  · exact h
  split
  · split <;> simp [h]
  split
  · simp [h]
  split
  · split
    · simp [h]
    split <;> simp [h]
  split
  · split <;> simp [h]
  · simp [h]

@[simp] theorem putBurst_allows (h : k.Allows s.kept) (dram : Bool) (a : Nat) (l : List Byte) (bad : List (Nat × Nat)) :
    k.Allows (putBurst dram a l bad s).kept := by
  simp only [putBurst]
  split
  · exact State.allows_foldl (fun _ _ hu => dramPoison_allows hu _ _) bad _ (dramWrite_allows h a l)
  · split <;> simp [h]

@[simp] theorem pushable_allows (h : k.Allows s.kept) (i : Fin 2) (ws : List Stitch) : k.Allows (pushable s i ws).kept := by
  induction ws generalizing s with
  | nil => exact h
  | cons w t ih =>
    rw [pushable, State.kept_ite, Kept.allows_ite]
    exact ⟨fun _ => h, fun _ => ih (laceStitch_allows h i w)⟩

theorem pushBurst_allows (h : k.Allows s.kept) {o : DmaOp} {ws : List Stitch} {n : Nat} {t : State} (ht : pushBurst o ws s = some (n, t)) :
    k.Allows t.kept := by
  have hall : ∀ r ∈ pushBurst o ws s, k.Allows r.2.kept := by
    simp only [pushBurst]
    split
    · split <;> simp [h]
    · split <;> simp [h]
  exact hall (n, t) ht

@[simp] theorem laceBurst_allows (h : k.Allows s.kept) (o : DmaOp) (bytes : List Byte) (poisoned : Bool) :
    k.Allows (laceBurst o bytes poisoned s).kept := by
  simp only [laceBurst]
  split
  · simp [h]
  · rename_i r hr
    split
    · simp [h]
    · simpa using pushBurst_allows h hr

@[simp] theorem moveBurst_allows (h : k.Allows s.kept) (o : DmaOp) (src dst : List Byte) (reply : HostReply) :
    k.Allows (moveBurst o src dst reply s).kept := by
  have hnoted : ∀ (e : SpanWrite → CycleEvent) (u : State), k.Allows u.kept →
      k.Allows (if o.dramWrites = [] then u else noteWrite o.dstAt o.burstLen e (burstRequests o s) u).kept := fun e u hu => by simp [hu]
  simp only [moveBurst]
  split
  · exact hnoted _ _ (by simp [h])
  split
  · exact hnoted _ _ (by simp [h])
  split <;> simp [h]

@[simp] theorem burst_allows (h : k.Allows s.kept) (o : DmaOp) (src dst : List Byte) (reply : HostReply) :
    k.Allows (burst o src dst reply s).kept := by
  simp only [burst]
  split
  · split <;> simp [h]
  split
  · simp [h]
  split
  · simp [h]
  split
  · simp [h]
  split
  · simp [h]
  split <;> simp [h]

@[simp] theorem doBurst_allows (h : k.Allows s.kept) (n c : Nat) (src dst : List Byte) (reply : HostReply) :
    k.Allows (doBurst n c src dst reply s).kept := by
  simp only [doBurst]
  split
  · simp [h]
  · exact h

@[simp] theorem startNotify_allows (h : k.Allows s.kept) (o : DmaOp) : k.Allows (startNotify o s).kept := by
  simp only [startNotify]
  split
  · simp [h]
  split
  · split <;> simp [h]
  · simp [h]

/-! ## Datagrams and frames -/

@[simp] theorem flowDeliver_allows (h : k.Allows s.kept) (o : FlowOwner) (l : List Stitch) : k.Allows (flowDeliver o l s).kept := by
  cases o with
  | native i => exact laceIntake_allows h i l
  | pers j =>
    rw [flowDeliver, State.kept_foldl _ (fun u w => tlStitch_kept j u w)]
    exact h

@[simp] theorem dataDatagram_allows (h : k.Allows s.kept) (l : List Byte) : k.Allows (dataDatagram l s).kept := by
  simp only [dataDatagram]
  split
  · simp [h]
  split
  · simp [h]
  split
  · split <;> simp [h]
  split <;> simp [h]

@[simp] theorem rejudge_allows (h : k.Allows s.kept) (f : Nat) (e : CycleEvent) : k.Allows (rejudge f s e).kept := by
  simp only [rejudge]
  split
  · split <;> simp [h]
  · exact h

@[simp] theorem doLaceOpen_allows (h : k.Allows s.kept) : k.Allows (doLaceOpen s).kept := by
  simp only [doLaceOpen]
  split
  · simp [h]
  split
  · exact State.allows_foldl (fun _ e hu => rejudge_allows hu _ e) _ _ (by simp [h])
  · simp [h]

@[simp] theorem ptpRx_allows (h : k.Allows s.kept) (mac : Nat) (l : List Byte) : k.Allows (ptpRx mac l s).kept := by
  simp only [ptpRx]
  split
  · simp [h]
  split
  · split <;> simp [ptpRx.done, h]
  · simp [ptpRx.done, h]

@[simp] theorem undrop_allows (h : k.Allows s.kept) (e : CycleEvent) : k.Allows (undrop s e).kept := by
  simp only [undrop]
  split
  · split <;> simp [h]
  · exact h

@[simp] theorem fetchNext_allows (h : k.Allows s.kept) (n : Nat) (host : List (List Byte)) : k.Allows (fetchNext n host s).kept :=
  State.allows_foldl (fun _ e hu => undrop_allows hu e) _ _ (by simp [h])

@[simp] theorem transportIn_allows (h : k.Allows s.kept) (l : List Byte) : k.Allows (transportIn l s).kept := by
  simp only [transportIn]
  split
  · simp [h]
  · split <;> simp [h]

@[simp] theorem netFrame_allows (h : k.Allows s.kept) (mac : Nat) (l : List Byte) : k.Allows (netFrame mac l s).kept := by
  simp only [netFrame]
  split
  · exact h
  · split <;> simp [h]

/-! ## The dose store -/

@[simp] theorem writeHeader_allows (h : k.Allows s.kept) : k.Allows (writeHeader s).kept := dramWrite_allows h _ _

@[simp] theorem makeLive_allows (h : k.Allows s.kept) (i : Nat) (pix : List Nat) : k.Allows (makeLive i pix s).kept := by
  simp only [makeLive]
  split
  · exact h
  · exact dramWrite_allows (by simp [h]) _ _

@[simp] theorem codeBlock_allows (h : k.Allows s.kept) (br : Nat) (z : List Nat × Nat) : k.Allows (codeBlock br s z).kept := by
  simp only [codeBlock]
  split <;> simp [h]

@[simp] theorem codeRow_allows (h : k.Allows s.kept) (blocks : List (List Nat)) : k.Allows (codeRow blocks s).kept := by
  have hblocks : ∀ (br : Nat) (l : List (List Nat × Nat)), k.Allows (l.foldl (codeBlock br) s).kept := fun br l =>
    State.allows_foldl (fun _ z hu => codeBlock_allows hu br z) l s h
  simp [codeRow, hblocks]

@[simp] theorem deliverRows_allows (h : k.Allows s.kept) (fuel : Nat) : k.Allows (deliverRows fuel s).kept := by
  induction fuel generalizing s with
  | zero => exact h
  | succ n ih =>
    simp only [deliverRows]
    split
    · split
      · simp [h]
      · exact ih (codeRow_allows (by simp [h]) _)
    · exact h

@[simp] theorem corrRowFinal_allows (h : k.Allows s.kept) : k.Allows (corrRowFinal s).kept := by
  simp only [corrRowFinal]
  split
  · exact h
  · rw [State.rewait_kept]
    exact deliverRows_allows (issueWork_allows (fun u hu => finalRows_allows hu _ _) (by simp [h]) _ _) _

theorem verifyBlock_allows {acc : Bool × State} (h : k.Allows acc.2.kept) (i : Nat) : k.Allows (verifyBlock acc i).2.kept := by
  simp only [verifyBlock]
  split
  · exact h
  · exact makeLive_allows (by simp [h]) _ _

@[simp] theorem costRow_allows (h : k.Allows s.kept) (br : Nat) : k.Allows (costRow br s).kept := by
  simp only [costRow]
  split
  · exact h
  · simp [h]

@[simp] theorem rowVerified_allows (h : k.Allows s.kept) (br : Nat) : k.Allows (rowVerified br s).kept := by
  simp only [rowVerified, State.reseam_kept]
  split
  · rw [State.underrunNow_kept]
    split
    · simp [h]
    split <;> simp [h]
  · split
    · simp [h]
    split <;> simp [h]

@[simp] theorem storeRowVerify_allows (h : k.Allows s.kept) : k.Allows (storeRowVerify s).kept := by
  have hrow : ∀ l : List Nat, k.Allows (l.foldl verifyBlock (true, charge classStore verifierUnit s)).2.kept := fun l =>
    List.foldlRecOn (motive := fun a : Bool × State => k.Allows a.2.kept) l verifyBlock (by simp [h]) (fun _ ha i _ => verifyBlock_allows ha i)
  simp only [storeRowVerify]
  split
  · exact h
  split
  · exact rowVerified_allows (hrow _) _
  · simp [hrow]

@[simp] theorem liveResult_allows (h : k.Allows s.kept) (br bc : Nat) (words : Sparse Nat) : k.Allows (liveResult br bc words s).kept := by
  simp only [liveResult]
  split
  · simp [h]
  split <;> simp [h]

/-! ## Requests to DRAM -/

@[simp] theorem serveReq_allows (h : k.Allows s.kept) (r : DramReq) : k.Allows (serveReq r s).kept := by
  cases r <;> simp [serveReq, h]

@[simp] theorem dramRequest_allows (h : k.Allows s.kept) (r : DramReq) : k.Allows (dramRequest r s).kept := by
  simp only [dramRequest]
  split
  · split
    · simp [h]
    split
    · simp [h]
    split <;> simp [h]
  · split
    · simp [h]
    split
    · simp [h]
    split
    · simp [h]
    split <;> simp [h]
  · split
    · simp [h]
    split <;> simp [h]

@[simp] theorem serveWaiting_allows (h : k.Allows s.kept) : k.Allows (serveWaiting s).kept := by
  simp only [serveWaiting]
  split
  · exact h
  · exact State.allows_foldl (fun _ r hu => dramRequest_allows hu r) _ _ (by simp [h])

@[simp] theorem doFillDone_allows (h : k.Allows s.kept) (bad : Nat) : k.Allows (doFillDone bad s).kept := by
  simp only [doFillDone]
  split
  · exact h
  · exact State.allows_foldl (fun _ r hu => dramRequest_allows hu r) _ _ (by simp [h])

/-! ## Tiles -/

@[simp] theorem ringTile_allows (h : k.Allows s.kept) (j t : Nat) (words : Sparse Nat) : k.Allows (ringTile j t words s).kept := by
  have hlines : ∀ l : List Nat, k.Allows (l.foldl (ringWrite j t words) s).kept := fun l =>
    State.allows_foldl (fun _ _ hu => dramWrite_allows hu _ _) l s h
  simp [ringTile, hlines]

@[simp] theorem deliverNext_allows (h : k.Allows s.kept) (j : Nat) : k.Allows (deliverNext j s).kept := by
  simp only [deliverNext]
  split
  · exact h
  split
  · exact h
  · split <;> simp [h]

@[simp] theorem tileDeliver_allows (h : k.Allows s.kept) : k.Allows (tileDeliver s).kept :=
  State.allows_foldl (fun _ j hu => deliverNext_allows hu j) _ s h

@[simp] theorem liveComplete_allows (h : k.Allows s.kept) (b : Nat) (wrong : List (Nat × Nat)) (refetch : Bool) :
    k.Allows (liveComplete b wrong refetch s).kept := by
  simp only [liveComplete]
  split
  · split
    · exact h
    split <;> simp [h]
  · exact h

/-! ## Scans and ARM -/

@[simp] theorem doScanDone_allows (h : k.Allows s.kept) : k.Allows (doScanDone s).kept := by
  simp only [doScanDone]
  split
  · exact h
  rw [State.kept_ite, Kept.allows_ite]
  refine ⟨fun _ => h, fun _ => ?_⟩
  simp [h]

@[simp] theorem armLive_allows (h : k.Allows s.kept) : k.Allows (armLive s).kept := by
  unfold armLive
  dsimp only
  rw [State.kept_mk, State.kept_eta]
  exact dramWrite_allows (dramWrite_allows (dramWrite_allows (dramWrite_allows h _ _) _ _) _ _) _ _

@[simp] theorem armAccept_allows (h : k.Allows s.kept) : k.Allows (armAccept s).kept := by
  simp only [armAccept]
  split <;> simp [h]

@[simp] theorem judgeArm_allows (h : k.Allows s.kept) : k.Allows (judgeArm s).kept := by
  simp only [judgeArm]
  split
  · simp [h]
  split <;> simp [h]

@[simp] theorem undoEvent_allows (h : k.Allows s.kept) (e : CycleEvent) : k.Allows (undoEvent s e).kept := by
  simp only [undoEvent]
  split <;> simp [h]

theorem rewrite_allows {f : State → State} (h : k.Allows s.kept) (hf : k.Allows (f s).kept) (w : SpanWrite) : k.Allows (rewrite w f s).kept := by
  simp [rewrite, h, hf]

@[simp] theorem redoEvent_allows (h : k.Allows s.kept) (armed : Bool) (e : CycleEvent) : k.Allows (redoEvent armed s e).kept := by
  simp only [redoEvent]
  split
  · split <;> simp [h]
  · simp [h]
  · simp [h]
  · simp [h]
  · exact rewrite_allows h (by simp [h]) _
  · exact rewrite_allows h (by simp [h]) _
  · exact h

@[simp] theorem doArm_allows (h : k.Allows s.kept) : k.Allows (doArm s).kept := by
  have hundo : ∀ l : List CycleEvent, k.Allows (l.foldl undoEvent s).kept := fun l =>
    State.allows_foldl (fun _ e hu => undoEvent_allows hu e) l s h
  have hredo : ∀ (a : Bool) (l : List CycleEvent) (u : State), k.Allows u.kept → k.Allows (l.foldl (redoEvent a) u).kept := fun a l u hu =>
    State.allows_foldl (fun _ e hv => redoEvent_allows hv a e) l u hu
  simp only [doArm]
  split
  · exact h
  split <;> split <;> simp [-List.foldl_reverse, hundo, hredo]

@[simp] theorem scanEnd_allows {f : State → State} (hf : k.Allows (f s).kept) : k.Allows (scanEnd f s).kept := by
  simp [scanEnd, hf]

/-! ## The flash -/

theorem State.setFlash_allows (h : k.Allows s.kept) {f : FlashSt} (hf : Sparse.wf 0xFF#8 s.glob.flash.bytes = true → Sparse.wf 0xFF#8 f.bytes = true) :
    k.Allows (s.setFlash f).kept := by
  rw [State.setFlash, State.kept_mk]
  exact h.memories id id hf

theorem flashResult_bytes (r : Nat) (s : State) : (flashResult r s).glob.flash.bytes = s.glob.flash.bytes :=
  congrArg Kept.flash (flashResult_kept r s)

theorem flashSend_bytes (o : FlashOp) (a n : Nat) (s : State) : (flashSend o a n s).glob.flash.bytes = s.glob.flash.bytes :=
  congrArg Kept.flash (flashSend_kept o a n s)

@[simp] theorem doFlash_allows (h : k.Allows s.kept) (o : FlashOp) : k.Allows (doFlash o s).kept := by
  simp only [doFlash]
  split
  · simp [h]
  split
  · simp [h]
  split
  · simp [h]
  split
  · simp [h]
  · exact State.setFlash_allows (by simp [h]) (by rw [flashSend_bytes]; exact id)

@[simp] theorem doFlashCmd_allows (h : k.Allows s.kept) (c : Nat) : k.Allows (doFlashCmd c s).kept := by
  simp only [doFlashCmd]
  split <;> simp [h]

@[simp] theorem flashEnd_allows (h : k.Allows s.kept) (timeout differs : Bool) : k.Allows (flashEnd timeout differs s).kept := by
  have hresult : ∀ r, k.Allows (flashResult r s).kept := fun r => by simp [h]
  have hset : ∀ (r : Nat) (f : FlashSt), (Sparse.wf 0xFF#8 s.glob.flash.bytes = true → Sparse.wf 0xFF#8 f.bytes = true) →
      k.Allows ((flashResult r s).setFlash f).kept := fun r f hf =>
    State.setFlash_allows (hresult r) (by rw [flashResult_bytes]; exact hf)
  have hlost : ∀ (r a n : Nat) (f : FlashSt), f.bytes = s.glob.flash.bytes → k.Allows ((flashResult r s).setFlash (f.lost a n)).kept :=
    fun r a n f hf => hset r _ (by rw [FlashSt.lost_bytes, hf]; exact id)
  have hwords : ∀ (l : List Byte) (u : State), k.Allows u.kept → k.Allows ((List.range 64).foldl
      (fun s n => s.setRg .GLOBAL_FLASH_DATA (BitVec.ofNat 32 (leAt l (4 * n) 4)) n) u).kept := fun l u hu =>
    State.allows_foldl (fun _ _ hv => by simp [hv]) _ u hu
  simp only [flashEnd]
  split
  · exact h
  split
  · rw [State.raise_kept]
    exact hlost _ _ _ _ rfl
  split
  · rw [flashResult_kept]
    apply hwords
    rw [flashRead_kept]
    exact State.setFlash_allows h id
  · split
    · rw [State.raise_kept]
      exact hlost _ _ _ _ rfl
    · exact hset _ _ (Sparse.wf_setRange _ _)
  · exact hset _ _ (Sparse.wf_clear _ _)
  · exact hset _ _ (Sparse.wf_clear _ _)

@[simp] theorem doFlashDone_allows (h : k.Allows s.kept) (timeout differs : Bool) : k.Allows (doFlashDone timeout differs s).kept := by
  simp only [doFlashDone]
  split
  · simp [h]
  · split <;> simp [h]

/-! ## Re-pricks and resets -/

@[simp] theorem applyReset_allows (h : k.Allows s.kept) (l : List Section) : k.Allows (applyReset l s).kept := by
  simp [applyReset, h]

@[simp] theorem coldState_allows (h : k.Allows s.kept) : k.Allows (coldState s).kept := by
  have hi : k.Allows (resetIslands { s with regs := s.regs.only keepCold }).kept := by simp [h]
  unfold coldState
  generalize resetIslands { s with regs := s.regs.only keepCold } = t at hi
  dsimp only
  rw [State.kept_mk]
  exact hi.memories (fun _ => Sparse.wf_nil _) (fun _ => Sparse.wf_nil _) id

@[simp] theorem coldReset_allows (h : k.Allows s.kept) (c : ResetCause) (ta tb : Bool) : k.Allows (coldReset c ta tb s).kept := by
  simp only [coldReset]
  split <;> simp [h]

@[simp] theorem loadPassed_allows (h : k.Allows s.kept) (l : List Section) : k.Allows (loadPassed l s).kept := by
  simp only [loadPassed]
  split
  · simp [h]
  split <;> simp [h]

@[simp] theorem loadEnd_allows (h : k.Allows s.kept) : k.Allows (loadEnd s).kept := by
  simp only [loadEnd]
  split
  · exact h
  · exact h
  · simp [h]
  · split
    · split <;> simp [h]
    · simp [h]
    · exact h

@[simp] theorem doFlr0_allows (h : k.Allows s.kept) : k.Allows (doFlr0 s).kept := by
  have hslots : ∀ u : State, ((List.range 256).foldl (fun s k => slotFree k s) u).kept = u.kept :=
    State.kept_foldl _ (fun v n => slotFree_kept n v) _
  simp only [doFlr0]
  split
  · simp [h]
  · split <;> simp [h, hslots]

@[simp] theorem applyResume_allows (h : k.Allows s.kept) : k.Allows (applyResume s).kept := by
  simp only [applyResume]
  split
  · exact h
  split
  · split <;> split <;> simp [h]
  · exact h

@[simp] theorem doTripRecovery_allows (h : k.Allows s.kept) (tj : BitVec 12) (ta tb : Bool) : k.Allows (doTripRecovery tj ta tb s).kept := by
  simp [doTripRecovery, h]

@[simp] theorem powerOn_allows (h : k.Allows s.kept) (smb : Nat) (ta tb : Bool) : k.Allows (powerOn smb ta tb s).kept := by
  simp [powerOn, h]

@[simp] theorem doResetCmd_allows (h : k.Allows s.kept) (v : Nat) (ta tb : Bool) : k.Allows (doResetCmd v ta tb s).kept := by
  simp only [doResetCmd]
  split
  · simp [h]
  split
  · split <;> simp [h]
  · simp [h]
  · exact h

/-! ## Register writes -/

theorem commandOf_allows (h : k.Allows s.kept) {r : Reg} {v : Word} {f : State → State} (hf : commandOf r v = some f) : k.Allows (f s).kept := by
  have hall : ∀ g ∈ commandOf r v, k.Allows (g s).kept := by
    unfold commandOf
    split <;> simp [h]
  exact hall f hf

@[simp] theorem writeThrough_allows (h : k.Allows s.kept) (r : Reg) (w : Nat) (v : Word) : k.Allows (writeThrough r w v s).kept := by
  have heffect : ∀ i, k.Allows (match effectOf r i v with
      | some f => f s
      | none => storeReg r i v s).kept := fun i => by
    split
    · rename_i hf
      rw [effectOf_kept hf]
      exact h
    · simp [h]
  simp only [writeThrough]
  split
  · rename_i hf
    exact commandOf_allows h hf
  split
  · simp [h]
  split
  · exact h
  · rw [crossWords_kept]
    split
    · rw [State.mark_kept]
      exact heffect _
    · exact heffect _

@[simp] theorem regWrite_allows (h : k.Allows s.kept) (r : Reg) (w : Nat) (v : Word) : k.Allows (regWrite r w v s).kept := by
  simp only [regWrite]
  split
  · exact h
  · split <;> exact writeThrough_allows (by simp [h]) _ _ _

@[simp] theorem writeAt_allows (h : k.Allows s.kept) (off : Nat) (v : Word) : k.Allows (writeAt off v s).kept := by
  simp only [writeAt]
  split
  · simp [h]
  · simp [h]

@[simp] theorem bar0Write_allows (h : k.Allows s.kept) (off : Nat) (v : Word) (whole : Bool) : k.Allows (bar0Write off v whole s).kept := by
  simp only [bar0Write]
  split
  · simp [h]
  split
  · simp [h]
  split
  · exact State.hostWrite_allows (fun _ hu => regWrite_allows hu _ _ _) h _ _ _
  · split <;> simp [h]

@[simp] theorem hostStore_allows (h : k.Allows s.kept) (sp : Space) (off : Nat) (v : Word) (whole : Bool) :
    k.Allows (hostStore sp off v whole s).kept := by
  cases sp <;> simp [hostStore, h]

theorem performOne_allows (h : k.Allows s.kept) (e : Nat × Word) : k.Allows (performOne s e).kept := by
  simp [performOne, h]

@[simp] theorem performHeld_allows (h : k.Allows s.kept) : k.Allows (performHeld s).kept :=
  State.allows_foldl (fun _ e hu => performOne_allows hu e) _ _ (by simp [h])

@[simp] theorem exitDone_allows (h : k.Allows s.kept) : k.Allows (exitDone s).kept := by
  simp only [exitDone]
  split <;> simp [h]

@[simp] theorem fabricTick_allows (h : k.Allows s.kept) : k.Allows (fabricTick s).kept := by
  simp [fabricTick, h]

/-! ## Every command -/

theorem serviceWrap_allows {f : State → State} (hf : ∀ u, k.Allows u.kept → k.Allows (f u).kept) (h : k.Allows s.kept) :
    k.Allows (serviceWrap f s).kept := by
  simp only [serviceWrap]
  split
  · exact hf s h
  · split <;> simp [hf s h]

theorem exec_allows (c : Instr) (s : State) : ∃ t, exec c s = .next t ∧ s.kept.Allows t.kept := by
  have hs := Kept.allows_refl s.kept
  cases c <;> refine ⟨_, rfl, ?_⟩
  case arm => exact State.hostCmd_allows (fun _ hu => doArm_allows hu) hs _ _
  case verifyReturn => exact State.whenReady_allows (fun _ hu => by split <;> (try split) <;> simp [hu]) hs
  case tileDeliver => exact State.whenReady_allows (fun _ hu => tileDeliver_allows hu) hs
  case liveJobComplete =>
    exact State.edgeDram_allows (fun _ hu => serviceWrap_allows (fun _ hv => liveComplete_allows hv _ _ _) hu) hs
  case corrRowFinal => exact State.edgeDram_allows (fun _ hu => corrRowFinal_allows hu) hs
  case storeRowVerify => exact State.edgeDram_allows (fun _ hu => storeRowVerify_allows hu) hs
  case seamRecord => exact State.edgeOpen_allows (fun _ hu => seamRecord_allows hu _) hs
  case scanAbort => exact State.hostCmd_allows (fun _ hu => scanEnd_allows (by simp [hu])) hs _ _
  case scanDone => exact State.whenReady_allows (fun _ hu => scanEnd_allows (by simp [hu])) hs
  case laceOpen => exact State.hostCmd_allows (fun _ hu => doLaceOpen_allows hu) hs _ _
  case chunkOpenArrives => exact State.whenReady_allows (fun _ hu => laceStitch_allows hu _ _) hs
  case chunk => exact State.whenReady_allows (fun _ hu => by simp [hu]) hs
  case loadEnd => exact State.whenReady_allows (fun _ hu => loadEnd_allows hu) hs
  case clockStep =>
    exact State.whenUp_allows (fun _ hu => by simp [hu]) (State.whenReady_allows (fun _ hu => fabricTick_allows hu) (by simp))
  case dramRead => exact State.whenReady_allows (fun _ hu => dramRequest_allows hu _) hs
  case dramWrite => exact State.whenReady_allows (fun _ hu => dramRequest_allows hu _) hs
  case remap => exact State.hostCmd_allows (fun _ hu => doRemap_allows hu) hs _ _
  case scrubAbort => exact State.hostCmd_allows (fun _ hu => doScrubAbort_allows hu) hs _ _
  case scrubDone => exact State.whenReady_allows (fun _ hu => doScrubDone_allows hu) hs
  case descFetch => exact State.whenReady_allows (fun _ hu => fetchNext_allows hu _ _) hs
  case notify => exact startOp_allows (fun _ _ hu => startNotify_allows hu _) hs _ _
  case opComplete => split <;> simp
  case flrFunction0 => exact State.whenUp_allows (fun _ hu => doFlr0_allows (by simp [hu])) hs
  case exitDone => exact State.whenUp_allows (fun _ hu => exitDone_allows hu) hs
  case checkDone => exact State.whenDram_allows (fun _ hu => doCheckDone_allows hu _) hs
  case sysRst => exact State.whenAon_allows (fun _ hu => coldReset_allows hu _ _ _) hs
  case warm => exact State.hostCmd_allows (fun _ hu => doResetCmd_allows hu _ _ _) hs _ _
  case cold => exact State.hostCmd_allows (fun _ hu => doResetCmd_allows hu _ _ _) hs _ _
  case read => exact State.hostCmd_allows (fun _ hu => doFlash_allows hu _) hs _ _
  case program => exact State.hostCmd_allows (fun _ hu => doFlash_allows hu _) hs _ _
  case erase4k => exact State.hostCmd_allows (fun _ hu => doFlash_allows hu _) hs _ _
  case erase64k => exact State.hostCmd_allows (fun _ hu => doFlash_allows hu _) hs _ _
  case tripRecovery => exact State.whenAon_allows (fun _ hu => doTripRecovery_allows hu _ _ _) hs
  all_goals simp

theorem State.wf_kept (s : State) : s.wf = s.kept.canonical := rfl

/-- Settles O3: no command writes the queue or the fuses, since the state after each is one that `Kept.Allows`. -/
theorem commandsKeepQueueAndFuses : Obligations.CommandsKeepQueueAndFuses := by
  intro c s
  obtain ⟨t, ht, h⟩ := exec_allows c s
  exact ⟨t, ht, h.pending, h.fuseSerial, h.fuseKeyDigest, h.fuseSigRequired, h.fuseEpochMin⟩

/-- Settles O4: every write of a table goes through `Sparse.set`, `Sparse.setRange` or `Sparse.clear`, which keep it canonical, or empties it. -/
theorem stepKeepsMemoryCanonical : Obligations.StepKeepsMemoryCanonical := by
  intro s t hs ht
  cases hq : s.pending with
  | nil =>
    rw [step_nil hq] at ht
    cases ht
    exact hs
  | cons c rest =>
    rw [step_cons hq] at ht
    obtain ⟨u, hu, h⟩ := exec_allows c { s with pending := rest }
    obtain rfl : u = t := Host.Outcome.next.inj (hu.symm.trans ht)
    exact h.canonical hs

end Sys2Proof.Machine

/-! PROOFS. The notes of host writes among the notes of a cycle: no command of a command register reads them (R606).
So each of them commutes with taking these notes away, and so does each function it calls. -/

namespace Sys2Proof.Machine

/-! ## A state without its notes of host writes -/

/-- The note that `regWrite` leaves. -/
def CycleEvent.isWrite (e : CycleEvent) : Bool :=
  match e with
  | .hostWrote .. => true
  | _ => false

theorem CycleEvent.eq_of_isWrite {e : CycleEvent} (he : e.isWrite = true) : ∃ r i a v, e = .hostWrote r i a v := by
  cases e <;> simp [CycleEvent.isWrite] at he ⊢

/-- Every other note. -/
@[simp] theorem CycleEvent.isWrite_other :
    CycleEvent.lastBeat.isWrite = false ∧ CycleEvent.localSource.isWrite = false ∧
    (∀ a, (CycleEvent.raised a).isWrite = false) ∧ (∀ a b c d, (CycleEvent.stored a b c d).isWrite = false) ∧
    (∀ a b, (CycleEvent.refusedWrite a b).isWrite = false) ∧ (∀ a, (CycleEvent.flashAsked a).isWrite = false) ∧
    (∀ a, (CycleEvent.checkStarted a).isWrite = false) ∧ (∀ a b, (CycleEvent.checkStopped a b).isWrite = false) ∧
    (∀ a b c d, (CycleEvent.staged a b c d).isWrite = false) ∧ (∀ a b c, (CycleEvent.bitsSet a b c).isWrite = false) ∧
    CycleEvent.profileTick.isWrite = false ∧ (∀ a b c, (CycleEvent.goodSample a b c).isWrite = false) ∧
    CycleEvent.swap.isWrite = false ∧ (∀ a b, (CycleEvent.servo a b).isWrite = false) ∧
    CycleEvent.timeSet.isWrite = false ∧ (∀ a b, (CycleEvent.ctrl a b).isWrite = false) ∧
    (∀ a b c d, (CycleEvent.dataIn a b c d).isWrite = false) ∧ (∀ a b c, (CycleEvent.dataLost a b c).isWrite = false) ∧
    (∀ a, (CycleEvent.metCal a).isWrite = false) ∧ (∀ a, (CycleEvent.woke a).isWrite = false) ∧
    CycleEvent.hushAsked.isWrite = false ∧ (∀ a b c d, (CycleEvent.entryAborted a b c d).isWrite = false) ∧
    (∀ a b c, (CycleEvent.fetched a b c).isWrite = false) ∧ (∀ a b c, (CycleEvent.ptpDropped a b c).isWrite = false) ∧
    CycleEvent.captured.isWrite = false ∧ (∀ a b c d, (CycleEvent.missed a b c d).isWrite = false) ∧
    (∀ a b c, (CycleEvent.laneCmd a b c).isWrite = false) ∧ (∀ a b, (CycleEvent.linesReady a b).isWrite = false) ∧
    (∀ a b c, (CycleEvent.rcSet a b c).isWrite = false) ∧ (∀ a, (CycleEvent.persRunIn a).isWrite = false) ∧
    (∀ a, (CycleEvent.persLastBeat a).isWrite = false) ∧ (∀ a, (CycleEvent.fifoReset a).isWrite = false) ∧
    (∀ a b, (CycleEvent.doseWas a b).isWrite = false) ∧ (∀ a b c, (CycleEvent.started a b c).isWrite = false) ∧
    CycleEvent.armInScan.isWrite = false ∧ CycleEvent.armed.isWrite = false ∧
    (∀ a b c d e, (CycleEvent.produced a b c d e).isWrite = false) ∧ (∀ a b, (CycleEvent.burstWrote a b).isWrite = false) ∧
    (∀ a b c, (CycleEvent.appended a b c).isWrite = false) ∧ (∀ a b c, (CycleEvent.tileDelivered a b c).isWrite = false) := by
  simp [CycleEvent.isWrite]

/-- Notes without those. -/
def bareNotes (l : List CycleEvent) : List CycleEvent := l.filter (fun e => !e.isWrite)

/-- The state without the notes that `regWrite` has left. -/
def State.bare (s : State) : State := { s with cyc := bareNotes s.cyc }

@[simp] theorem State.bare_pending (s : State) : s.bare.pending = s.pending := (rfl)

@[simp] theorem State.bare_now (s : State) : s.bare.now = s.now := (rfl)

@[simp] theorem State.bare_cyc (s : State) : s.bare.cyc = bareNotes s.cyc := (rfl)

@[simp] theorem State.bare_freeCount (s : State) : s.bare.freeCount = s.freeCount := (rfl)

@[simp] theorem State.bare_regs (s : State) : s.bare.regs = s.regs := (rfl)

@[simp] theorem State.bare_out (s : State) : s.bare.out = s.out := (rfl)

@[simp] theorem State.bare_str (s : State) : s.bare.str = s.str := (rfl)

@[simp] theorem State.bare_glob (s : State) : s.bare.glob = s.glob := (rfl)

@[simp] theorem State.bare_prick (s : State) : s.bare.prick = s.prick := (rfl)

@[simp] theorem State.bare_fault (s : State) : s.bare.fault = s.fault := (rfl)

@[simp] theorem State.bare_snap (s : State) : s.bare.snap = s.snap := (rfl)

@[simp] theorem State.bare_smbus (s : State) : s.bare.smbus = s.smbus := (rfl)

@[simp] theorem State.bare_lace (s : State) : s.bare.lace = s.lace := (rfl)

@[simp] theorem State.bare_bob (s : State) : s.bare.bob = s.bob := (rfl)

@[simp] theorem State.bare_corr (s : State) : s.bare.corr = s.corr := (rfl)

@[simp] theorem State.bare_store (s : State) : s.bare.store = s.store := (rfl)

@[simp] theorem State.bare_plan (s : State) : s.bare.plan = s.plan := (rfl)

@[simp] theorem State.bare_caril (s : State) : s.bare.caril = s.caril := (rfl)

@[simp] theorem State.bare_stage (s : State) : s.bare.stage = s.stage := (rfl)

@[simp] theorem State.bare_cad (s : State) : s.bare.cad = s.cad := (rfl)

@[simp] theorem State.bare_track (s : State) : s.bare.track = s.track := (rfl)

@[simp] theorem State.bare_net (s : State) : s.bare.net = s.net := (rfl)

@[simp] theorem State.bare_time (s : State) : s.bare.time = s.time := (rfl)

@[simp] theorem State.bare_hbm (s : State) : s.bare.hbm = s.hbm := (rfl)

@[simp] theorem State.bare_check (s : State) : s.bare.check = s.check := (rfl)

@[simp] theorem State.bare_dma (s : State) : s.bare.dma = s.dma := (rfl)

@[simp] theorem State.bare_clock (s : State) : s.bare.clock = s.clock := (rfl)

@[simp] theorem State.bare_power (s : State) : s.bare.power = s.power := (rfl)

@[simp] theorem State.bare_tl (s : State) : s.bare.tl = s.tl := (rfl)

@[simp] theorem State.bare_dram (s : State) : s.bare.dram = s.dram := (rfl)

@[simp] theorem State.bare_dramMark (s : State) : s.bare.dramMark = s.dramMark := (rfl)

@[simp] theorem State.bare_mk (pending now cyc freeCount regs out str glob prick fault snap smbus lace bob
    corr store plan caril stage cad track net time hbm check dma clock power tl dram dramMark) :
    State.mk pending now (bareNotes cyc) freeCount regs out str glob prick fault snap smbus lace bob
      corr store plan caril stage cad track net time hbm check dma clock power tl dram dramMark =
    (State.mk pending now cyc freeCount regs out str glob prick fault snap smbus lace bob
      corr store plan caril stage cad track net time hbm check dma clock power tl dram dramMark).bare := (rfl)

/-! ## Notes -/

@[simp] theorem bareNotes_contains (l : List CycleEvent) {e : CycleEvent} (he : e.isWrite = false) : (bareNotes l).contains e = l.contains e := by
  rw [Bool.eq_iff_iff, List.contains_iff_mem, List.contains_iff_mem]
  simp [bareNotes, he]

theorem bareNotes_foldl {β : Type} (f : β → CycleEvent → β) (hf : ∀ b r i a v, f b (.hostWrote r i a v) = b) (l : List CycleEvent) (b : β) :
    (bareNotes l).foldl f b = l.foldl f b := by
  induction l generalizing b with
  | nil => rfl
  | cons e t ih =>
    cases he : e.isWrite with
    | true =>
      obtain ⟨r, i, a, v, rfl⟩ := CycleEvent.eq_of_isWrite he
      rw [bareNotes, List.filter_cons_of_neg (by simp [he]), List.foldl_cons, hf]
      exact ih b
    | false =>
      rw [bareNotes, List.filter_cons_of_pos (by simp [he]), List.foldl_cons, List.foldl_cons]
      exact ih _

theorem bareNotes_filterMap {β : Type} (f : CycleEvent → Option β) (hf : ∀ r i a v, f (.hostWrote r i a v) = none) (l : List CycleEvent) :
    (bareNotes l).filterMap f = l.filterMap f := by
  induction l with
  | nil => rfl
  | cons e t ih =>
    cases he : e.isWrite with
    | true =>
      obtain ⟨r, i, a, v, rfl⟩ := CycleEvent.eq_of_isWrite he
      rw [bareNotes, List.filter_cons_of_neg (by simp [he]), List.filterMap_cons, hf]
      exact ih
    | false =>
      rw [bareNotes, List.filter_cons_of_pos (by simp [he]), List.filterMap_cons, List.filterMap_cons]
      exact congrArg (fun m => match f e with | none => m | some b => b :: m) ih

theorem bareNotes_filter (p : CycleEvent → Bool) (hp : ∀ r i a v, p (.hostWrote r i a v) = false) (l : List CycleEvent) :
    (bareNotes l).filter p = l.filter p := by
  rw [bareNotes, List.filter_filter]
  refine List.filter_congr fun e _ => ?_
  cases he : e.isWrite with
  | true =>
    obtain ⟨r, i, a, v, rfl⟩ := CycleEvent.eq_of_isWrite he
    simp [hp]
  | false => simp

theorem bareNotes_find? (p : CycleEvent → Bool) (hp : ∀ r i a v, p (.hostWrote r i a v) = false) (l : List CycleEvent) :
    (bareNotes l).find? p = l.find? p := by
  rw [← List.head?_filter, ← List.head?_filter, bareNotes_filter p hp]

theorem bareNotes_findSome? {β : Type} (f : CycleEvent → Option β) (hf : ∀ r i a v, f (.hostWrote r i a v) = none) (l : List CycleEvent) :
    (bareNotes l).findSome? f = l.findSome? f := by
  rw [← List.head?_filterMap, ← List.head?_filterMap, bareNotes_filterMap f hf]

@[simp] theorem bareNotes_reverse (l : List CycleEvent) : (bareNotes l).reverse = bareNotes l.reverse := by
  simp [bareNotes]

@[simp] theorem bareNotes_erase (l : List CycleEvent) {e : CycleEvent} (he : e.isWrite = false) : (bareNotes l).erase e = bareNotes (l.erase e) := by
  induction l with
  | nil => rfl
  | cons a t ih =>
    by_cases hae : a = e
    · subst hae
      rw [bareNotes, List.filter_cons_of_pos (by simp [he]), List.erase_cons_head, List.erase_cons_head]
      rfl
    · cases ha : a.isWrite with
      | true =>
        rw [List.erase_cons_tail (by simpa using hae), bareNotes, bareNotes, List.filter_cons_of_neg (by simp [ha]),
          List.filter_cons_of_neg (by simp [ha])]
        exact ih
      | false =>
        rw [List.erase_cons_tail (by simpa using hae), bareNotes, bareNotes, List.filter_cons_of_pos (by simp [ha]),
          List.filter_cons_of_pos (by simp [ha]), List.erase_cons_tail (by simpa using hae)]
        exact congrArg (a :: ·) ih

@[simp] theorem State.saw_bare (s : State) {e : CycleEvent} (he : e.isWrite = false) : s.bare.saw e = s.saw e :=
  bareNotes_contains s.cyc he

@[simp] theorem State.mark_bare (s : State) {e : CycleEvent} (he : e.isWrite = false) : s.bare.mark e = (s.mark e).bare := by
  simp [State.mark, State.bare, bareNotes, he]

theorem State.mark_write_bare (s : State) {e : CycleEvent} (he : e.isWrite = true) : (s.mark e).bare = s.bare := by
  simp [State.mark, State.bare, bareNotes, he]

theorem bareNotes_foldl_state (f : State → CycleEvent → State) (hf : ∀ u e, f u.bare e = (f u e).bare)
    (hw : ∀ u r i a v, f u (.hostWrote r i a v) = u) (l : List CycleEvent) (s : State) : (bareNotes l).foldl f s.bare = (l.foldl f s).bare := by
  rw [bareNotes_foldl f hw]
  induction l generalizing s with
  | nil => rfl
  | cons e t ih => rw [List.foldl_cons, List.foldl_cons, hf, ih]

/-! ## The registers -/

@[simp] theorem State.fd_bare (s : State) (x : RegField) (i : Nat) : s.bare.fd x i = s.fd x i := (rfl)

@[simp] theorem State.fb_bare (s : State) (x : RegField) (i : Nat) : s.bare.fb x i = s.fb x i := (rfl)

@[simp] theorem State.rg_bare (s : State) (r : Reg) (i : Nat) : s.bare.rg r i = s.rg r i := (rfl)

@[simp] theorem State.pair_bare (s : State) (lo hi : RegField) (i : Nat) : s.bare.pair lo hi i = s.pair lo hi i := (rfl)

@[simp] theorem State.setNow_bare (s : State) (r : Reg) (i : Nat) : s.bare.setNow r i = s.setNow r i :=
  bareNotes_foldl _ (fun _ _ _ _ _ => rfl) _ _

@[simp] theorem State.ite_bare (p : Prop) [Decidable p] (s t : State) : (if p then s.bare else t.bare) = (if p then s else t).bare :=
  (apply_ite State.bare p s t).symm

@[simp] theorem State.foldl_bare {α : Type} (f : State → α → State) (h : ∀ u a, f u.bare a = (f u a).bare) (l : List α) (s : State) :
    l.foldl f s.bare = (l.foldl f s).bare := by
  induction l generalizing s with
  | nil => rfl
  | cons a t ih => rw [List.foldl_cons, List.foldl_cons, h, ih]

/-! ## The operations every family shares -/

@[simp] theorem State.setFd_bare (s : State) (x : RegField) (v i : Nat) : s.bare.setFd x v i = (s.setFd x v i).bare := by simp [State.setFd]

@[simp] theorem State.setRg_bare (s : State) (r : Reg) (w : Word) (i : Nat) :
    s.bare.setRg r w i = (s.setRg r w i).bare := by simp [State.setRg]

@[simp] theorem State.bump_bare (s : State) (x : RegField) (n i : Nat) : s.bare.bump x n i = (s.bump x n i).bare := by simp [State.bump]

@[simp] theorem State.bumpWrap_bare (s : State) (x : RegField) (n i : Nat) :
    s.bare.bumpWrap x n i = (s.bumpWrap x n i).bare := by simp [State.bumpWrap]

@[simp] theorem State.raise_bare (s : State) (c : FaultCode) : s.bare.raise c = (s.raise c).bare := by simp [State.raise]

@[simp] theorem State.raiseIf_bare (s : State) (b : Bool) (c : FaultCode) :
    s.bare.raiseIf b c = (s.raiseIf b c).bare := by simp [State.raiseIf]

@[simp] theorem State.emit_bare (s : State) (o : Out) : s.bare.emit o = (s.emit o).bare := by simp [State.emit]

@[simp] theorem State.irq_bare (s : State) (v : Nat) : s.bare.irq v = (s.irq v).bare := by simp [State.irq]

@[simp] theorem State.setBits_bare (s : State) (r : Reg) (mask : Word) (i : Nat) :
    s.bare.setBits r mask i = (s.setBits r mask i).bare := by simp [State.setBits]

@[simp] theorem State.setFlag_bare (s : State) (x : RegField) (mask i : Nat) :
    s.bare.setFlag x mask i = (s.setFlag x mask i).bare := by simp [State.setFlag]

@[simp] theorem State.free_bare (s : State) (w : Nat) : s.bare.free w = ((s.free w).1, (s.free w).2.bare) := by simp [State.free]

@[simp] theorem State.nodeOf_bare (s : State) : s.bare.nodeOf = s.nodeOf := (rfl)

@[simp] theorem State.node_bare (s : State) : s.bare.node = s.node := (rfl)

@[simp] theorem State.geoR_bare (s : State) : s.bare.geoR = s.geoR := (rfl)

@[simp] theorem State.geoC_bare (s : State) : s.bare.geoC = s.geoC := (rfl)

@[simp] theorem State.geoB_bare (s : State) : s.bare.geoB = s.geoB := (rfl)

@[simp] theorem State.geoM_bare (s : State) : s.bare.geoM = s.geoM := (rfl)

@[simp] theorem State.geoW_bare (s : State) : s.bare.geoW = s.geoW := (rfl)

@[simp] theorem State.geoN_bare (s : State) : s.bare.geoN = s.geoN := (rfl)

@[simp] theorem State.pixel_bare (s : State) : s.bare.pixel = s.pixel := (rfl)

@[simp] theorem State.lines_bare (s : State) : s.bare.lines = s.lines := (rfl)

@[simp] theorem State.stripeId_bare (s : State) : s.bare.stripeId = s.stripeId := (rfl)

@[simp] theorem State.passes_bare (s : State) : s.bare.passes = s.passes := (rfl)

@[simp] theorem State.fromStore_bare (s : State) : s.bare.fromStore = s.fromStore := (rfl)

@[simp] theorem State.native_bare (s : State) : s.bare.native = s.native := (rfl)

@[simp] theorem State.leads_bare (s : State) : s.bare.leads = s.leads := (rfl)

@[simp] theorem State.hasNeighbour_bare (s : State) : s.bare.hasNeighbour = s.hasNeighbour := (rfl)

@[simp] theorem State.neighbour_bare (s : State) : s.bare.neighbour = s.neighbour := (rfl)

@[simp] theorem State.lane_bare (s : State) : s.bare.lane = s.lane := (rfl)

@[simp] theorem State.setLane_bare (s : State) (n : Nat) (l : Lane) : s.bare.setLane n l = (s.setLane n l).bare := by simp [State.setLane]

@[simp] theorem State.chan_bare (s : State) : s.bare.chan = s.chan := (rfl)

@[simp] theorem State.setChan_bare (s : State) (c : Nat) (m : MetCh) : s.bare.setChan c m = (s.setChan c m).bare := by simp [State.setChan]

@[simp] theorem State.pers_bare (s : State) : s.bare.pers = s.pers := (rfl)

@[simp] theorem State.setPers_bare (s : State) (j : Nat) (p : Pers) : s.bare.setPers j p = (s.setPers j p).bare := by simp [State.setPers]

@[simp] theorem State.stackHot_bare (s : State) : s.bare.stackHot = s.stackHot := (rfl)

@[simp] theorem State.island_bare (s : State) : s.bare.island = s.island := (rfl)

@[simp] theorem State.tlQuiet_bare (s : State) : s.bare.tlQuiet = s.tlQuiet := (rfl)

@[simp] theorem State.anyActive_bare (s : State) : s.bare.anyActive = s.anyActive := (rfl)

@[simp] theorem State.allIdle_bare (s : State) : s.bare.allIdle = s.allIdle := (rfl)

@[simp] theorem State.timeValid_bare (s : State) : s.bare.timeValid = s.timeValid := (rfl)

@[simp] theorem State.timeN_bare (s : State) : s.bare.timeN = s.timeN := (rfl)

@[simp] theorem State.stampN_bare (s : State) : s.bare.stampN = s.stampN := (rfl)

@[simp] theorem State.horizon_bare (s : State) : s.bare.horizon = s.horizon := (rfl)

@[simp] theorem State.leadNs_bare (s : State) : s.bare.leadNs = s.leadNs := (rfl)

@[simp] theorem State.scanDir_bare (s : State) : s.bare.scanDir = s.scanDir := (rfl)

@[simp] theorem State.limits_bare (s : State) : s.bare.limits = s.limits := (rfl)

@[simp] theorem State.axis_bare (s : State) : s.bare.axis = s.axis := (rfl)

@[simp] theorem State.setAxis_bare (s : State) (i : Fin 2) (x : Axis) : s.bare.setAxis i x = (s.setAxis i x).bare := by simp [State.setAxis]

@[simp] theorem State.vmaxK_bare (s : State) : s.bare.vmaxK = s.vmaxK := (rfl)

@[simp] theorem State.aim_bare (s : State) (i : Fin 2) (g : AxisGoal) : s.bare.aim i g = (s.aim i g).bare := by simp [State.aim]

@[simp] theorem State.stopAxes_bare (s : State) : s.bare.stopAxes = s.stopAxes.bare := by simp [State.stopAxes]

@[simp] theorem State.stageT_bare (s : State) : s.bare.stageT = s.stageT := (rfl)

@[simp] theorem State.dramBytes_bare (s : State) : s.bare.dramBytes = s.dramBytes := (rfl)

@[simp] theorem State.dramLe_bare (s : State) : s.bare.dramLe = s.dramLe := (rfl)

@[simp] theorem State.dramPut_bare (s : State) (a : Nat) (l : List Byte) :
    s.bare.dramPut a l = (s.dramPut a l).bare := by simp [State.dramPut]

@[simp] theorem State.partBase_bare (s : State) : s.bare.partBase = s.partBase := (rfl)

@[simp] theorem State.partSize_bare (s : State) : s.bare.partSize = s.partSize := (rfl)

@[simp] theorem State.pipeOfPillow_bare (s : State) : s.bare.pipeOfPillow = s.pipeOfPillow := (rfl)

@[simp] theorem State.pipeOf_bare (s : State) : s.bare.pipeOf = s.pipeOf := (rfl)

@[simp] theorem State.tiles_bare (s : State) : s.bare.tiles = s.tiles := (rfl)

@[simp] theorem State.setTiles_bare (s : State) (j : Nat) (q : TileQueue) :
    s.bare.setTiles j q = (s.setTiles j q).bare := by simp [State.setTiles]

@[simp] theorem State.eachUnit_bare (s : State) (j : Nat) (f : BobUnit → BobUnit) :
    s.bare.eachUnit j f = (s.eachUnit j f).bare := by simp [State.eachUnit]

@[simp] theorem State.stopTiles_bare (s : State) (j : Nat) : s.bare.stopTiles j = (s.stopTiles j).bare := by simp [State.stopTiles]

@[simp] theorem untile_bare (j : Nat) (s : State) : untile j s.bare = (untile j s).bare := by
  refine bareNotes_foldl_state _ (fun u e => ?_) (fun _ _ _ _ _ => rfl) _ _
  dsimp only
  split
  · split
    · simp
    · rfl
  · rfl

/-! ## The power budget of a window -/

@[simp] theorem State.spent_bare (s : State) : s.bare.spent = s.spent := (rfl)

@[simp] theorem State.workPower_bare (s : State) : s.bare.workPower = s.workPower := (rfl)

@[simp] theorem State.unitShare_bare (s : State) : s.bare.unitShare = s.unitShare := (rfl)

@[simp] theorem State.mayIssue_bare (s : State) : s.bare.mayIssue = s.mayIssue := (rfl)

@[simp] theorem charge_bare (c u : Nat) (s : State) : charge c u s.bare = (charge c u s).bare := by simp [charge]

/-! ## Damping -/

@[simp] theorem State.laneInUse_bare (s : State) : s.bare.laneInUse = s.laneInUse := (rfl)

@[simp] theorem State.localPersists_bare (s : State) : s.bare.localPersists = s.localPersists := (rfl)

@[simp] theorem State.generatorOn_bare (s : State) : s.bare.generatorOn = s.generatorOn := (rfl)

@[simp] theorem damplane_bare (s : State) (n : Nat) : damplane s.bare n = (damplane s n).bare := by simp [damplane]

@[simp] theorem dampLanes_bare (s : State) (l : List Nat) : dampLanes s.bare l = (dampLanes s l).bare := by simp [dampLanes]

@[simp] theorem State.stopJobs_bare (s : State) : s.bare.stopJobs = s.stopJobs.bare := by simp [State.stopJobs]

@[simp] theorem State.onLastBeat_bare (s : State) : s.bare.onLastBeat = s.onLastBeat := by simp [State.onLastBeat]

@[simp] theorem State.abortWhere_bare (s : State) : s.bare.abortWhere = s.abortWhere := by simp [State.abortWhere]

@[simp] theorem State.enterAborted_bare (s : State) (w : Nat × Nat) (cause node : Nat) (written : Bool) :
    s.bare.enterAborted w cause node written = (s.enterAborted w cause node written).bare := by simp [State.enterAborted]

@[simp] theorem sameInstant_bare (cause node : Nat) (written : Bool) (at_ : Option (Nat × Nat)) (s : State) :
    sameInstant cause node written at_ s.bare = (sameInstant cause node written at_ s).bare := by
  cases at_ with
  | none => simp [sameInstant]
  | some a =>
    unfold sameInstant
    simp -zeta only [State.fd_bare, State.setFd_bare]
    generalize (s.setFd F.PLAN_ABORT_WHERE_LINE (min (s.fd F.PLAN_ABORT_WHERE_LINE) a.1)).setFd F.PLAN_ABORT_WHERE_PASS a.2 = u
    simp

@[simp] theorem dampStripe_bare (cause node : Nat) (written final : Bool) (at_ : Option (Nat × Nat)) (s : State) :
    dampStripe cause node written final at_ s.bare = (dampStripe cause node written final at_ s).bare := by
  simp [dampStripe]

@[simp] theorem State.tlRc_bare (s : State) (j b : Nat) : s.bare.tlRc j b = (s.tlRc j b).bare := by simp [State.tlRc]

@[simp] theorem State.persLast_bare (s : State) : s.bare.persLast = s.persLast := by
  unfold State.persLast
  simp

@[simp] theorem State.persWhere_bare (s : State) : s.bare.persWhere = s.persWhere := by
  unfold State.persWhere
  simp

@[simp] theorem tlAborted_bare (j : Nat) (s : State) : tlAborted j s.bare = (tlAborted j s).bare := by simp [tlAborted]

@[simp] theorem dampPers_bare (cause node : Nat) (s : State) (j : Nat) :
    dampPers cause node s.bare j = (dampPers cause node s j).bare := by simp [dampPers]

@[simp] theorem State.persList_bare (s : State) : s.bare.persList = s.persList := (rfl)

@[simp] theorem State.setLatch_bare (s : State) (cause : Nat) : s.bare.setLatch cause = (s.setLatch cause).bare := by simp [State.setLatch]

@[simp] theorem State.cadDue_bare (s : State) (c : CadCmd) : s.bare.cadDue c = (s.cadDue c).bare := by simp [State.cadDue]

@[simp] theorem State.damp_bare (s : State) (loc : Bool) (cause node : Nat) (written final : Bool) (at_ : Option (Nat × Nat)) :
    s.bare.damp loc cause node written final at_ = (s.damp loc cause node written final at_).bare := by
  cases loc <;> simp [State.damp]

@[simp] theorem State.localDamp_bare (s : State) (c : FaultCode) : s.bare.localDamp c = (s.localDamp c).bare := by simp [State.localDamp]

@[simp] theorem State.underrunDue_bare (s : State) : s.bare.underrunDue = s.underrunDue := (rfl)

@[simp] theorem State.underrunDamp_bare (s : State) : s.bare.underrunDamp = s.underrunDamp.bare := by simp [State.underrunDamp]

@[simp] theorem State.underrun_bare (s : State) (c : FaultCode) (p n : Nat) (b : Option Nat) : s.bare.underrun c p n b = (s.underrun c p n b).bare := by
  simp [State.underrun]

@[simp] theorem State.firstLine_bare (s : State) : s.bare.firstLine = s.firstLine := (rfl)

/-! ## The host's side of every write to BAR0 -/

@[simp] theorem State.setTransit_bare (s : State) (t : Transit) : s.bare.setTransit t = (s.setTransit t).bare := by simp [State.setTransit]

@[simp] theorem State.abortEntry_bare (s : State) (target src : Nat) :
    s.bare.abortEntry target src = (s.abortEntry target src).bare := by simp [State.abortEntry]

@[simp] theorem State.startEntry_bare (s : State) (target : Nat) (t : Transit) : s.bare.startEntry target t = (s.startEntry target t).bare := by
  simp only [State.startEntry, State.setTransit_bare, State.bare_cyc]
  rw [bareNotes_find? _ (fun _ _ _ _ => rfl)]
  split <;> simp

@[simp] theorem entryRefused_bare (target id : Nat) (s : State) :
    entryRefused target id s.bare = (entryRefused target id s).bare := by simp [entryRefused]

@[simp] theorem hushYields_bare (id : Nat) (s : State) : hushYields id s.bare = (hushYields id s).bare := by simp [hushYields]

/-! ## Bobbin units -/

@[simp] theorem State.unit_bare (s : State) : s.bare.unit = s.unit := (rfl)

@[simp] theorem State.setUnit_bare (s : State) (b : Nat) (u : BobUnit) : s.bare.setUnit b u = (s.setUnit b u).bare := by simp [State.setUnit]

@[simp] theorem State.pillowOn_bare (s : State) : s.bare.pillowOn = s.pillowOn := (rfl)

@[simp] theorem State.unitDisabled_bare (s : State) : s.bare.unitDisabled = s.unitDisabled := (rfl)

@[simp] theorem State.inService_bare (s : State) : s.bare.inService = s.inService := (rfl)

@[simp] theorem State.takesJobs_bare (s : State) : s.bare.takesJobs = s.takesJobs := (rfl)

@[simp] theorem State.serviceMask_bare (s : State) : s.bare.serviceMask = s.serviceMask := (rfl)

@[simp] theorem State.busyMask_bare (s : State) : s.bare.busyMask = s.busyMask := (rfl)

@[simp] theorem State.reserveOrder_bare (s : State) : s.bare.reserveOrder = s.reserveOrder := (rfl)

@[simp] theorem formReserve_bare (s : State) : formReserve s.bare = (formReserve s).bare := by simp [formReserve]

@[simp] theorem State.livePending_bare (s : State) : s.bare.livePending = s.livePending := (rfl)

/-! ## Planned frequencies of islands and pillows -/

@[simp] theorem State.opPoint_bare (s : State) : s.bare.opPoint = s.opPoint := (rfl)

/-! ## Operating points of the pillows and the steps between them -/

@[simp] theorem State.point_bare (s : State) : s.bare.point = s.point := (rfl)

@[simp] theorem State.pillowServes_bare (s : State) : s.bare.pillowServes = s.pillowServes := (rfl)

@[simp] theorem State.floorOp_bare (s : State) : s.bare.floorOp = s.floorOp := (rfl)

@[simp] theorem State.needMv_bare (s : State) : s.bare.needMv = s.needMv := (rfl)

@[simp] theorem railStart_bare (mv : Nat) (p : Option Nat) (s : State) : railStart mv p s.bare = (railStart mv p s).bare := by simp [railStart]

@[simp] theorem State.railFree_bare (s : State) : s.bare.railFree = s.railFree := (rfl)

@[simp] theorem setPoint_bare (p k : Nat) (s : State) : setPoint p k s.bare = (setPoint p k s).bare := by simp [setPoint]

@[simp] theorem stepUp_bare (p : Nat) (s : State) : stepUp p s.bare = (stepUp p s).bare := by simp [stepUp]

@[simp] theorem riseToFloor_bare (fuel p : Nat) (s : State) : riseToFloor fuel p s.bare = (riseToFloor fuel p s).bare := by
  induction fuel generalizing s with
  | zero => rfl
  | succ n ih => simp [riseToFloor, ih]

@[simp] theorem risePillows_bare (s : State) : risePillows s.bare = (risePillows s).bare := by simp [risePillows]

/-! ## Work of the bobbin units -/

@[simp] theorem State.mayLive_bare (s : State) : s.bare.mayLive = s.mayLive := (rfl)

@[simp] theorem chargeLive_bare (b : Nat) (s : State) : chargeLive b s.bare = (chargeLive b s).bare := by simp [chargeLive]

@[simp] theorem State.liveTaker_bare (s : State) : s.bare.liveTaker = s.liveTaker := (rfl)

@[simp] theorem assignLive_bare (s : State) : assignLive s.bare = (assignLive s).bare := by
  simp only [assignLive]
  exact State.foldl_bare _ (fun u j => by simp only [State.liveTaker_bare]; split <;> simp) _ { s with bob := { s.bob with live := [] } }

@[simp] theorem queueLive_bare (l : List LiveWait) (s : State) : queueLive l s.bare = (queueLive l s).bare := by
  simp [queueLive]

/-! ## Result slots -/

@[simp] theorem State.slot_bare (s : State) : s.bare.slot = s.slot := (rfl)

@[simp] theorem State.setSlot_bare (s : State) (n : Nat) (x : Slot) : s.bare.setSlot n x = (s.setSlot n x).bare := by simp [State.setSlot]

@[simp] theorem slotClaim_bare (n source tag : Nat) (s : State) :
    slotClaim n source tag s.bare = (slotClaim n source tag s).bare := by simp [slotClaim]

@[simp] theorem slotFill_bare (n : Nat) (data : List Word) (s : State) : slotFill n data s.bare = (slotFill n data s).bare := by simp [slotFill]

@[simp] theorem slotFillProducer_bare (n : Nat) (data : List Word) (s : State) :
    slotFillProducer n data s.bare = (slotFillProducer n data s).bare := by simp [slotFillProducer]

@[simp] theorem State.slotStatus_bare (s : State) : s.bare.slotStatus = s.slotStatus := (rfl)

/-! ## The DRAM controller -/

@[simp] theorem State.hashMask_bare (s : State) : s.bare.hashMask = s.hashMask := (rfl)

@[simp] theorem State.selBit_bare (s : State) : s.bare.selBit = s.selBit := (rfl)

@[simp] theorem State.pcOf_bare (s : State) : s.bare.pcOf = s.pcOf := (rfl)

@[simp] theorem State.pcFailed_bare (s : State) : s.bare.pcFailed = s.pcFailed := (rfl)

@[simp] theorem State.anyPcFailed_bare (s : State) : s.bare.anyPcFailed = s.anyPcFailed := (rfl)

@[simp] theorem State.codeBad_bare (s : State) : s.bare.codeBad = s.codeBad := (rfl)

@[simp] theorem State.dramBad_bare (s : State) : s.bare.dramBad = s.dramBad := (rfl)

@[simp] theorem State.setMark_bare (s : State) (w m : Nat) : s.bare.setMark w m = (s.setMark w m).bare := by simp [State.setMark]

@[simp] theorem writeMark.plain_bare (whole : Bool) (w : Nat) (s : State) :
    writeMark.plain whole w s.bare = (writeMark.plain whole w s).bare := by simp [writeMark.plain]

@[simp] theorem writeMark_bare (whole : Bool) (w : Nat) (s : State) : writeMark whole w s.bare = (writeMark whole w s).bare := by
  simp only [writeMark, State.bare_hbm]
  split
  · split <;> simp
  · simp

@[simp] theorem dramStore_bare (a : Nat) (l : List Byte) (s : State) : dramStore a l s.bare = (dramStore a l s).bare := by
  simp [dramStore]

@[simp] theorem holdReq_bare (r : DramReq) (s : State) : holdReq r s.bare = (holdReq r s).bare := by simp [holdReq]

@[simp] theorem dramWrite_bare (a : Nat) (l : List Byte) (s : State) : dramWrite a l s.bare = (dramWrite a l s).bare := by
  simp [dramWrite]

@[simp] theorem putSpan_bare (a : Nat) (l : List Byte) (marks : List (Nat × Nat)) (s : State) :
    putSpan a l marks s.bare = (putSpan a l marks s).bare := by simp [putSpan]

@[simp] theorem errLog_bare (a syn : Nat) (cls src : Nat) (s : State) :
    errLog a syn cls src s.bare = (errLog a syn cls src s).bare := by simp [errLog]

@[simp] theorem countCe_bare (a : Nat) (s : State) : countCe a s.bare = (countCe a s).bare := by simp [countCe]

@[simp] theorem readClass_bare (src a syn : Nat) (s : State) :
    readClass src a syn s.bare = ((readClass src a syn s).1, (readClass src a syn s).2.bare) := by
  simp [readClass]
  (repeat' split) <;> simp_all

@[simp] theorem beginFill_bare (s : State) : beginFill s.bare = (beginFill s).bare := by simp [beginFill]

@[simp] theorem dropLibs_bare (s : State) : dropLibs s.bare = (dropLibs s).bare := by simp [dropLibs]

@[simp] theorem unproduce_bare (c : FaultCode) (s : State) (e : CycleEvent) : unproduce c s.bare e = (unproduce c s e).bare := by
  simp only [unproduce]
  split <;> simp

@[simp] theorem State.producers_bare (p : Nat → Nat → Bool) (s : State) : State.producers p s.bare = State.producers p s :=
  bareNotes_filter _ (fun _ _ _ _ => rfl) _

@[simp] theorem doRemap_bare (s : State) : doRemap s.bare = (doRemap s).bare := by
  simp [doRemap]

@[simp] theorem doScrubStart_bare (s : State) : doScrubStart s.bare = (doScrubStart s).bare := by simp [doScrubStart]

@[simp] theorem State.failing_bare (s : State) : s.bare.failing = s.failing := (rfl)

@[simp] theorem scrubOver_bare (x : Scrub) (n : Nat) (s : State) : scrubOver x n s.bare = ((scrubOver x n s).1, (scrubOver x n s).2.bare) := by
  simp [scrubOver]

@[simp] theorem doScrubAbort_bare (s : State) : doScrubAbort s.bare = (doScrubAbort s).bare := by
  simp only [doScrubAbort, State.bare_hbm]
  split <;> simp

@[simp] theorem doInject_bare (mode : Nat) (s : State) : doInject mode s.bare = (doInject mode s).bare := by simp [doInject]

/-! ## Lace intake and libraries -/

@[simp] theorem State.scope_bare (s : State) : s.bare.scope = s.scope := (rfl)

@[simp] theorem State.setScope_bare (s : State) (i : Fin 2) (sc : LaceScope) :
    s.bare.setScope i sc = (s.setScope i sc).bare := by simp [State.setScope]

@[simp] theorem State.scopeSel_bare (s : State) : s.bare.scopeSel = s.scopeSel := (rfl)

@[simp] theorem State.libMotifs_bare (s : State) : s.bare.libMotifs = s.libMotifs := (rfl)

@[simp] theorem State.header_bare (s : State) : s.bare.header = s.header := (rfl)

@[simp] theorem State.headerFits_bare (s : State) : s.bare.headerFits = s.headerFits := (rfl)

@[simp] theorem State.boundScope_bare (s : State) : s.bare.boundScope = s.boundScope := (rfl)

@[simp] theorem laceReject_bare (i : Fin 2) (c : FaultCode) (off : Nat) (s : State) :
    laceReject i c off s.bare = (laceReject i c off s).bare := by simp [laceReject]

@[simp] theorem State.chunkPlace_bare (s : State) (sc : LaceScope) (n : Nat) :
    s.bare.chunkPlace sc n = ((s.chunkPlace sc n).1, (s.chunkPlace sc n).2.bare) := by simp [State.chunkPlace]

@[simp] theorem stitchStore_bare (a : Nat) (w : Stitch) (s : State) : stitchStore a w s.bare = (stitchStore a w s).bare := by
  simp [stitchStore]

@[simp] theorem laceStitch_bare (i : Fin 2) (w : Stitch) (s : State) : laceStitch i w s.bare = (laceStitch i w s).bare := by
  simp [laceStitch]

@[simp] theorem laceIntake_bare (i : Fin 2) (l : List Stitch) (s : State) : laceIntake i l s.bare = (laceIntake i l s).bare := by
  simp [laceIntake]

@[simp] theorem State.dropCache_bare (s : State) (lo hi : Nat) :
    s.bare.dropCache lo hi = (s.dropCache lo hi).bare := by simp [State.dropCache]

@[simp] theorem laceOpen_bare (s : State) : laceOpen s.bare = (laceOpen s).bare := by simp [laceOpen]

@[simp] theorem laceClose_bare (s : State) : laceClose s.bare = (laceClose s).bare := by simp [laceClose]

@[simp] theorem State.libSel_bare (s : State) : s.bare.libSel = s.libSel := (rfl)

@[simp] theorem State.anyScopeOpen_bare (s : State) : s.bare.anyScopeOpen = s.anyScopeOpen := (rfl)

@[simp] theorem libRegister_bare (s : State) : libRegister s.bare = (libRegister s).bare := by
  simp [libRegister]
  split <;> simp

@[simp] theorem libUnregister_bare (s : State) : libUnregister s.bare = (libUnregister s).bare := by
  simp [libUnregister]
  split <;> simp

/-! ## Expansion and exact coverage -/

@[simp] theorem State.libBase_bare (s : State) : s.bare.libBase = s.libBase := (rfl)

@[simp] theorem State.jobShapes_bare (s : State) : s.bare.jobShapes = s.jobShapes := (rfl)

@[simp] theorem State.coverWords_bare (s : State) : s.bare.coverWords = s.coverWords := (rfl)

/-! ## Dose correction -/

@[simp] theorem State.term_bare (s : State) : s.bare.term = s.term := (rfl)

@[simp] theorem State.corrOn_bare (s : State) : s.bare.corrOn = s.corrOn := (rfl)

@[simp] theorem State.termOn_bare (s : State) : s.bare.termOn = s.termOn := (rfl)

@[simp] theorem State.gaussians_bare (s : State) : s.bare.gaussians = s.gaussians := (rfl)

@[simp] theorem State.reachG_bare (s : State) : s.bare.reachG = s.reachG := (rfl)

@[simp] theorem State.reachF_bare (s : State) : s.bare.reachF = s.reachF := (rfl)

@[simp] theorem State.reachQ_bare (s : State) : s.bare.reachQ = s.reachQ := (rfl)

@[simp] theorem State.partnersP_bare (s : State) : s.bare.partnersP = s.partnersP := (rfl)

@[simp] theorem State.paramsOk_bare (s : State) : s.bare.paramsOk = s.paramsOk := (rfl)

@[simp] theorem State.paramCrc_bare (s : State) : s.bare.paramCrc = s.paramCrc := (rfl)

@[simp] theorem State.cellRows_bare (s : State) : s.bare.cellRows = s.cellRows := (rfl)

@[simp] theorem State.cellCols_bare (s : State) : s.bare.cellCols = s.cellCols := (rfl)

@[simp] theorem State.cellCol0_bare (s : State) : s.bare.cellCol0 = s.cellCol0 := (rfl)

@[simp] theorem State.outsideV_bare (s : State) : s.bare.outsideV = s.outsideV := (rfl)

@[simp] theorem State.boundHeader_bare (s : State) : s.bare.boundHeader = s.boundHeader := (rfl)

@[simp] theorem State.tileCols_bare (s : State) : s.bare.tileCols = s.tileCols := (rfl)

@[simp] theorem State.covLines_bare (s : State) : s.bare.covLines = s.covLines := (rfl)

@[simp] theorem State.nearPartner_bare (s : State) : s.bare.nearPartner = s.nearPartner := (rfl)

@[simp] theorem State.doseRaw_bare (s : State) : s.bare.doseRaw = s.doseRaw := (rfl)

@[simp] theorem State.needDevices_bare (s : State) : s.bare.needDevices = s.needDevices := (rfl)

@[simp] theorem State.ownRows_bare (s : State) : s.bare.ownRows = s.ownRows := (rfl)

@[simp] theorem State.nearHeld_bare (s : State) : s.bare.nearHeld = s.nearHeld := (rfl)

@[simp] theorem State.recordsHeld_bare (s : State) : s.bare.recordsHeld = s.recordsHeld := (rfl)

@[simp] theorem State.needRow_bare (s : State) : s.bare.needRow = s.needRow := (rfl)

@[simp] theorem State.waitsOn_bare (s : State) : s.bare.waitsOn = s.waitsOn := (rfl)

@[simp] theorem State.edgingTimeout_bare (s : State) : s.bare.edgingTimeout = s.edgingTimeout := (rfl)

@[simp] theorem State.rewait_bare (s : State) : s.bare.rewait = s.rewait.bare := by simp [State.rewait]

@[simp] theorem State.waitMask_bare (s : State) : s.bare.waitMask = s.waitMask := (rfl)

@[simp] theorem State.densityComplete_bare (s : State) : s.bare.densityComplete = s.densityComplete := (rfl)

@[simp] theorem State.fmapBase_bare (s : State) : s.bare.fmapBase = s.fmapBase := (rfl)

@[simp] theorem State.fmapCols_bare (s : State) : s.bare.fmapCols = s.fmapCols := (rfl)

@[simp] theorem State.fmapRows_bare (s : State) : s.bare.fmapRows = s.fmapRows := (rfl)

@[simp] theorem State.fmapAddr_bare (s : State) : s.bare.fmapAddr = s.fmapAddr := (rfl)

@[simp] theorem State.fmapPhi_bare (s : State) : s.bare.fmapPhi = s.fmapPhi := (rfl)

@[simp] theorem State.fmapHeader_bare (s : State) : s.bare.fmapHeader = s.fmapHeader := (rfl)

@[simp] theorem State.fmapBodyCrc_bare (s : State) : s.bare.fmapBodyCrc = s.fmapBodyCrc := (rfl)

@[simp] theorem State.fmapOk_bare (s : State) : s.bare.fmapOk = s.fmapOk := (rfl)

@[simp] theorem State.blockDoses_bare (s : State) : s.bare.blockDoses = s.blockDoses := (rfl)

/-! ## Ethernet frames -/

@[simp] theorem State.macAddr_bare (s : State) : s.bare.macAddr = s.macAddr := (rfl)

@[simp] theorem State.ip4_bare (s : State) : s.bare.ip4 = s.ip4 := (rfl)

@[simp] theorem State.ip6_bare (s : State) : s.bare.ip6 = s.ip6 := (rfl)

@[simp] theorem State.vlan_bare (s : State) : s.bare.vlan = s.vlan := (rfl)

@[simp] theorem State.linked_bare (s : State) : s.bare.linked = s.linked := (rfl)

@[simp] theorem State.entryIp_bare (s : State) : s.bare.entryIp = s.entryIp := (rfl)

@[simp] theorem State.netHeader_bare (s : State) : s.bare.netHeader = s.netHeader := (rfl)

@[simp] theorem sendTo_bare (e : Nat) (bytes : List Byte) (s : State) : sendTo e bytes s.bare = (sendTo e bytes s).bare := by simp [sendTo]

/-! ## The planner's arithmetic -/

@[simp] theorem State.xi_bare (s : State) : s.bare.xi = s.xi := (rfl)

@[simp] theorem State.yf_bare (s : State) : s.bare.yf = s.yf := (rfl)

@[simp] theorem State.feed_bare (s : State) : s.bare.feed = s.feed := (rfl)

@[simp] theorem State.share_bare (s : State) : s.bare.share = s.share := (rfl)

@[simp] theorem State.sc_bare (s : State) : s.bare.sc = s.sc := (rfl)

@[simp] theorem State.gain_bare (s : State) : s.bare.gain = s.gain := (rfl)

@[simp] theorem State.cols_bare (s : State) : s.bare.cols = s.cols := (rfl)

@[simp] theorem State.shiftMax_bare (s : State) : s.bare.shiftMax = s.shiftMax := (rfl)

@[simp] theorem State.passTableOk_bare (s : State) : s.bare.passTableOk = s.passTableOk := (rfl)

@[simp] theorem State.defEntry_bare (s : State) : s.bare.defEntry = s.defEntry := (rfl)

@[simp] theorem State.seamEntry_bare (s : State) : s.bare.seamEntry = s.seamEntry := (rfl)

@[simp] theorem State.beamRow_bare (s : State) : s.bare.beamRow = s.beamRow := (rfl)

@[simp] theorem State.remapEntry_bare (s : State) : s.bare.remapEntry = s.remapEntry := (rfl)

@[simp] theorem State.candidate_bare (s : State) : s.bare.candidate = s.candidate := (rfl)

@[simp] theorem State.candidates_bare (s : State) : s.bare.candidates = s.candidates := (rfl)

@[simp] theorem State.slotFactor_bare (s : State) : s.bare.slotFactor = s.slotFactor := (rfl)

@[simp] theorem State.slotFactors_bare (s : State) : s.bare.slotFactors = s.slotFactors := (rfl)

@[simp] theorem State.capacity_bare (s : State) : s.bare.capacity = s.capacity := (rfl)

@[simp] theorem State.passAmount_bare (s : State) : s.bare.passAmount = s.passAmount := (rfl)

@[simp] theorem State.inStripe_bare (s : State) : s.bare.inStripe = s.inStripe := (rfl)

@[simp] theorem State.seamAddr_bare (s : State) : s.bare.seamAddr = s.seamAddr := (rfl)

@[simp] theorem State.doseAt_bare (s : State) : s.bare.doseAt = s.doseAt := (rfl)

@[simp] theorem State.seamRowHeld_bare (s : State) : s.bare.seamRowHeld = s.seamRowHeld := (rfl)

@[simp] theorem State.seamFrom_bare (s : State) : s.bare.seamFrom = s.seamFrom := (rfl)

@[simp] theorem State.pixelFail_bare (s : State) : s.bare.pixelFail = s.pixelFail := (rfl)

@[simp] theorem State.checkCols_bare (s : State) : s.bare.checkCols = s.checkCols := (rfl)

@[simp] theorem State.rowFails_bare (s : State) : s.bare.rowFails = s.rowFails := (rfl)

@[simp] theorem State.seamRowsHeld_bare (s : State) : s.bare.seamRowsHeld = s.seamRowsHeld := (rfl)

@[simp] theorem State.compFail_bare (s : State) : s.bare.compFail = s.compFail := (rfl)

@[simp] theorem State.compLines_bare (s : State) : s.bare.compLines = s.compLines := (rfl)

@[simp] theorem capacityCheck_bare (dose : Nat → Int → Nat) (br : Nat) (s : State) :
    capacityCheck dose br s.bare = (capacityCheck dose br s).bare := by
  simp only [capacityCheck, State.rowFails_bare]
  split <;> simp

@[simp] theorem State.edgeBytes_bare (s : State) : s.bare.edgeBytes = s.edgeBytes := (rfl)

@[simp] theorem State.edgeCrc_bare (s : State) : s.bare.edgeCrc = s.edgeCrc := (rfl)

@[simp] theorem State.planCrc_bare (s : State) : s.bare.planCrc = s.planCrc := (rfl)

/-! ## Edging and seam records -/

@[simp] theorem State.edgeDatagram_bare (s : State) : s.bare.edgeDatagram = s.edgeDatagram := (rfl)

@[simp] theorem sendRecord_bare (d : Nat) (rec : List Byte) (s : State) :
    sendRecord d rec s.bare = (sendRecord d rec s).bare := by simp [sendRecord]

@[simp] theorem State.retryPeriod_bare (s : State) : s.bare.retryPeriod = s.retryPeriod := (rfl)

@[simp] theorem keepRecord_bare (r : KeptRecord) (s : State) : keepRecord r s.bare = (keepRecord r s).bare := by simp [keepRecord]

@[simp] theorem State.seamHead_bare (s : State) : s.bare.seamHead = s.seamHead := (rfl)

@[simp] theorem sendEdgeRecords_bare (s : State) : sendEdgeRecords s.bare = (sendEdgeRecords s).bare := by simp [sendEdgeRecords]

@[simp] theorem State.seamBase_bare (s : State) : s.bare.seamBase = s.seamBase := (rfl)

@[simp] theorem State.seamHeader_bare (s : State) : s.bare.seamHeader = s.seamHeader := (rfl)

@[simp] theorem State.blockRows_bare (s : State) : s.bare.blockRows = s.blockRows := (rfl)

@[simp] theorem State.seamComplete_bare (s : State) : s.bare.seamComplete = s.seamComplete := (rfl)

@[simp] theorem State.codedDose_bare (s : State) : s.bare.codedDose = s.codedDose := (rfl)

@[simp] theorem State.rowsToCheck_bare (s : State) : s.bare.rowsToCheck = s.rowsToCheck := (rfl)

@[simp] theorem runCapacity_bare (s : State) : runCapacity s.bare = (runCapacity s).bare := by simp [runCapacity]

@[simp] theorem State.seamWaits_bare (s : State) : s.bare.seamWaits = s.seamWaits := (rfl)

@[simp] theorem State.reseam_bare (s : State) : s.bare.reseam = s.reseam.bare := by simp [State.reseam]

/-! ## Check units -/

@[simp] theorem State.storeProtects_bare (s : State) : s.bare.storeProtects = s.storeProtects := (rfl)

@[simp] theorem State.checkSel_bare (s : State) : s.bare.checkSel = s.checkSel := (rfl)

@[simp] theorem State.checkParams_bare (s : State) : s.bare.checkParams = s.checkParams := (rfl)

@[simp] theorem State.checkBase_bare (s : State) : s.bare.checkBase = s.checkBase := (rfl)

@[simp] theorem State.checkSize_bare (s : State) : s.bare.checkSize = s.checkSize := (rfl)

@[simp] theorem State.checkInvalid_bare (s : State) : s.bare.checkInvalid = s.checkInvalid := (rfl)

@[simp] theorem State.checkBusy_bare (s : State) : s.bare.checkBusy = s.checkBusy := (rfl)

@[simp] theorem State.setRun_bare (s : State) (u : Nat) (cmd : Option Nat) :
    s.bare.setRun u cmd = (s.setRun u cmd).bare := by simp [State.setRun]

@[simp] theorem doCheck_bare (cmd : Nat) (s : State) : doCheck cmd s.bare = (doCheck cmd s).bare := by simp [doCheck]

@[simp] theorem checkOutcome_bare (u o : Nat) (s : State) : checkOutcome u o s.bare = (checkOutcome u o s).bare := by simp [checkOutcome]

@[simp] theorem checkStop_bare (u : Nat) (s : State) : checkStop u s.bare = (checkStop u s).bare := by
  simp [checkStop]
  split <;> simp

@[simp] theorem doCheckAbort_bare (s : State) : doCheckAbort s.bare = (doCheckAbort s).bare := by simp [doCheckAbort]

@[simp] theorem checkClaim_bare (u : Nat) (s : State) : checkClaim u s.bare = (checkClaim u s).bare := by simp [checkClaim]

/-! ## Rings, descriptors and DMA operations -/

@[simp] theorem State.ring_bare (s : State) : s.bare.ring = s.ring := (rfl)

@[simp] theorem State.setRing_bare (s : State) (n : Nat) (x : Machine.Ring) :
    s.bare.setRing n x = (s.setRing n x).bare := by simp [State.setRing]

@[simp] theorem State.inFlight_bare (s : State) : s.bare.inFlight = s.inFlight := (rfl)

@[simp] theorem ringIrq_bare (n : Nat) (s : State) : ringIrq n s.bare = (ringIrq n s).bare := by simp [ringIrq]

@[simp] theorem ringSettle_bare (n : Nat) (s : State) : ringSettle n s.bare = (ringSettle n s).bare := by simp [ringSettle]

@[simp] theorem ringStop_bare (n code : Nat) (s : State) : ringStop n code s.bare = (ringStop n code s).bare := by simp [ringStop]

@[simp] theorem doRingEnable_bare (n : Nat) (s : State) : doRingEnable n s.bare = (doRingEnable n s).bare := by
  simp [doRingEnable]
  split <;> simp

@[simp] theorem doRingDisable_bare (n : Nat) (s : State) : doRingDisable n s.bare = (doRingDisable n s).bare := by
  simp [doRingDisable]
  split <;> simp

@[simp] theorem doRingReset_bare (n : Nat) (s : State) : doRingReset n s.bare = (doRingReset n s).bare := by simp [doRingReset]

@[simp] theorem State.setOp_bare (s : State) (o : DmaOp) : s.bare.setOp o = (s.setOp o).bare := by simp [State.setOp]

@[simp] theorem endOp_bare (o : DmaOp) (res : Nat) (c : FaultCode) (s : State) : endOp o res c s.bare = (endOp o res c s).bare := by simp [endOp]

@[simp] theorem State.moving_bare (s : State) : s.bare.moving = s.moving := (rfl)

@[simp] theorem countBytes_bare (n : Nat) (s : State) : countBytes n s.bare = (countBytes n s).bare := by simp [countBytes]

@[simp] theorem tlStitch_bare (j : Nat) (s : State) (w : Stitch) : tlStitch j s.bare w = (tlStitch j s w).bare := by
  simp [tlStitch]
  split <;> simp

@[simp] theorem advanceDone_bare (fuel n : Nat) (s : State) : advanceDone fuel n s.bare = (advanceDone fuel n s).bare := by
  induction fuel generalizing s with
  | zero => rfl
  | succ f ih =>
    simp only [advanceDone, State.bare_dma]
    split <;> simp [ih]

@[simp] theorem completeOp_bare (o : DmaOp) (s : State) : completeOp o s.bare = (completeOp o s).bare := by
  simp only [completeOp]
  cases o.slot <;> split <;> simp

@[simp] theorem doRingAbort_bare (n : Nat) (s : State) : doRingAbort n s.bare = (doRingAbort n s).bare := by
  simp [doRingAbort]

/-! ## The local clock, its servo, triggers and pulses -/

@[simp] theorem State.prevN_bare (s : State) : s.bare.prevN = s.prevN := (rfl)

@[simp] theorem State.trigN_bare (s : State) : s.bare.trigN = s.trigN := (rfl)

@[simp] theorem steppedOver_bare (old new : Nat) (s : State) (t : Nat) :
    steppedOver old new s.bare t = (steppedOver old new s t).bare := by simp [steppedOver]

@[simp] theorem stepClock_bare (c : TimeSt) (s : State) : stepClock c s.bare = (stepClock c s).bare := by simp [stepClock]

@[simp] theorem State.servoOffset_bare (s : State) : s.bare.servoOffset = s.servoOffset := (rfl)

@[simp] theorem State.servoWords_bare (s : State) : s.bare.servoWords = s.servoWords := (rfl)

@[simp] theorem servo_bare (force : Bool) (s : State) : servo force s.bare = (servo force s).bare := by simp [servo]

@[simp] theorem doServo_bare (force : Bool) (s : State) : doServo force s.bare = (doServo force s).bare := by simp [doServo]

@[simp] theorem disarmAll_bare (s : State) : disarmAll s.bare = (disarmAll s).bare := by simp [disarmAll]

@[simp] theorem invalidateTime_bare (s : State) : invalidateTime s.bare = (invalidateTime s).bare := by simp [invalidateTime]

@[simp] theorem undoServo_bare (s : State) : undoServo s.bare = (undoServo s).bare := by
  refine bareNotes_foldl_state _ (fun u e => ?_) (fun _ _ _ _ _ => rfl) _ _
  split
  · rename_i time words
    exact State.foldl_bare _ (fun v (w : Reg × Nat × Word) => State.setRg_bare v w.1 w.2.2 w.2.1) words { u with time := time }
  · rfl

@[simp] theorem doTimeSet_bare (s : State) : doTimeSet s.bare = (doTimeSet s).bare := by simp [doTimeSet]

@[simp] theorem doTimeLatch_bare (s : State) : doTimeLatch s.bare = (doTimeLatch s).bare := by simp [doTimeLatch]

@[simp] theorem State.trigAction_bare (s : State) : s.bare.trigAction = s.trigAction := (rfl)

@[simp] theorem State.actionAllowed_bare (s : State) : s.bare.actionAllowed = s.actionAllowed := (rfl)

@[simp] theorem doTrigArm_bare (s : State) : doTrigArm s.bare = (doTrigArm s).bare := by simp [doTrigArm]

@[simp] theorem doTrigDisarm_bare (s : State) : doTrigDisarm s.bare = (doTrigDisarm s).bare := by simp [doTrigDisarm]

/-! ## Network ports, the transport and PTP frames -/

@[simp] theorem State.flow_bare (s : State) : s.bare.flow = s.flow := (rfl)

@[simp] theorem State.setFlow_bare (s : State) (f : Nat) (x : Machine.Flow) :
    s.bare.setFlow f x = (s.setFlow f x).bare := by simp [State.setFlow]

@[simp] theorem State.flowOwner_bare (s : State) : s.bare.flowOwner = s.flowOwner := (rfl)

@[simp] theorem State.ownerStream_bare (s : State) : s.bare.ownerStream = s.ownerStream := (rfl)

@[simp] theorem State.ownerFree_bare (s : State) : s.bare.ownerFree = s.ownerFree := (rfl)

@[simp] theorem State.flowLimit_bare (s : State) : s.bare.flowLimit = s.flowLimit := (rfl)

@[simp] theorem ctrlBytes_bare (s : State) : ctrlBytes s.bare = ctrlBytes s := (rfl)

@[simp] theorem sendCtrl_bare (f : Nat) (nak closed : Bool) (dst : Nat) (s : State) :
    sendCtrl f nak closed dst s.bare = (sendCtrl f nak closed dst s).bare := by
  simp [sendCtrl]
  split <;> simp

@[simp] theorem unsendCtrl_bare (f : Nat) (s : State) : unsendCtrl f s.bare = (unsendCtrl f s).bare := by
  refine bareNotes_foldl_state _ (fun u e => ?_) (fun _ _ _ _ _ => rfl) _ _
  split
  · simp
  · rfl

@[simp] theorem flowOpen_bare (f : Nat) (s : State) : flowOpen f s.bare = (flowOpen f s).bare := by simp [flowOpen]

@[simp] theorem State.holdoffPs_bare (s : State) : s.bare.holdoffPs = s.holdoffPs := (rfl)

@[simp] theorem flowNak_bare (f src : Nat) (s : State) : flowNak f src s.bare = (flowNak f src s).bare := by
  simp only [flowNak, State.flow_bare]
  split <;> simp

@[simp] theorem flowDeliver_bare (o : FlowOwner) (l : List Stitch) (s : State) : flowDeliver o l s.bare = (flowDeliver o l s).bare := by
  cases o <;> simp [flowDeliver]

@[simp] theorem State.dropScope_bare (s : State) : s.bare.dropScope = s.dropScope := (rfl)

@[simp] theorem dataDatagram_bare (l : List Byte) (s : State) : dataDatagram l s.bare = (dataDatagram l s).bare := by
  simp only [dataDatagram, State.flowOwner_bare]
  split
  · simp
  rw [State.flow_bare, State.ownerStream_bare, State.flowLimit_bare]
  generalize s.flow (byteAt l 2) = x
  split
  · simp
  split
  · split <;> simp
  · split <;> simp

@[simp] theorem rejudge_bare (f : Nat) (s : State) (e : CycleEvent) : rejudge f s.bare e = (rejudge f s e).bare := by
  simp only [rejudge]
  split <;> simp

@[simp] theorem doLaceOpen_bare (s : State) : doLaceOpen s.bare = (doLaceOpen s).bare := by
  have hre : ∀ (f : Nat) (l : List CycleEvent) (u : State), (bareNotes l).foldl (rejudge f) u.bare = (l.foldl (rejudge f) u).bare := fun f =>
    bareNotes_foldl_state (rejudge f) (rejudge_bare f) (fun _ _ _ _ _ => rfl)
  simp [doLaceOpen, -List.foldl_reverse, hre]

@[simp] theorem unaccept_bare (f i : Nat) (s : State) (e : CycleEvent) : unaccept f i s.bare e = (unaccept f i s e).bare := by
  simp only [unaccept]
  split <;> simp

@[simp] theorem doLaceClose_bare (s : State) : doLaceClose s.bare = (doLaceClose s).bare := by
  have hun : ∀ (f i : Nat) (l : List CycleEvent) (u : State), (bareNotes l).foldl (unaccept f i) u.bare = (l.foldl (unaccept f i) u).bare := fun f i =>
    bareNotes_foldl_state (unaccept f i) (unaccept_bare f i) (fun _ _ _ _ _ => rfl)
  simp [doLaceClose, hun]

@[simp] theorem doLibRegister_bare (s : State) : doLibRegister s.bare = (doLibRegister s).bare := by simp [doLibRegister]

/-! ## The dose store -/

@[simp] theorem State.blockCols_bare (s : State) : s.bare.blockCols = s.blockCols := (rfl)

@[simp] theorem State.slotSize_bare (s : State) : s.bare.slotSize = s.slotSize := (rfl)

@[simp] theorem State.effort_bare (s : State) : s.bare.effort = s.effort := (rfl)

@[simp] theorem State.lead_bare (s : State) : s.bare.lead = s.lead := (rfl)

@[simp] theorem State.storeBase_bare (s : State) : s.bare.storeBase = s.storeBase := (rfl)

@[simp] theorem State.costBytes_bare (s : State) : s.bare.costBytes = s.costBytes := (rfl)

@[simp] theorem State.slotBase_bare (s : State) : s.bare.slotBase = s.slotBase := (rfl)

@[simp] theorem State.storeBytes_bare (s : State) : s.bare.storeBytes = s.storeBytes := (rfl)

@[simp] theorem State.slotAddr_bare (s : State) : s.bare.slotAddr = s.slotAddr := (rfl)

@[simp] theorem State.costAddr_bare (s : State) : s.bare.costAddr = s.costAddr := (rfl)

@[simp] theorem State.boundStream_bare (s : State) : s.bare.boundStream = s.boundStream := (rfl)

@[simp] theorem State.storeHeader_bare (s : State) : s.bare.storeHeader = s.storeHeader := (rfl)

@[simp] theorem State.codedBlock_bare (s : State) : s.bare.codedBlock = s.codedBlock := (rfl)

@[simp] theorem State.prefixOf_bare (s : State) : s.bare.prefixOf = s.prefixOf := (rfl)

@[simp] theorem State.floorMhz_bare (s : State) : s.bare.floorMhz = s.floorMhz := (rfl)

@[simp] theorem State.reservedUnits_bare (s : State) : s.bare.reservedUnits = s.reservedUnits := (rfl)

@[simp] theorem State.capK_bare (s : State) : s.bare.capK = s.capK := (rfl)

@[simp] theorem State.capN_bare (s : State) : s.bare.capN = s.capN := (rfl)

@[simp] theorem State.capF_bare (s : State) : s.bare.capF = s.capF := (rfl)

@[simp] theorem State.fbeat_bare (s : State) : s.bare.fbeat = s.fbeat := (rfl)

@[simp] theorem State.underrunNow_bare (s : State) (c : FaultCode) : s.bare.underrunNow c = (s.underrunNow c).bare := by
  simp [State.underrunNow]

@[simp] theorem State.costRows_bare (s : State) : s.bare.costRows = s.costRows := (rfl)

@[simp] theorem State.feasResult_bare (s : State) : s.bare.feasResult = s.feasResult := (rfl)

@[simp] theorem State.maxCostRow_bare (s : State) : s.bare.maxCostRow = s.maxCostRow := (rfl)

@[simp] theorem feasFail_bare (a row : Nat) (slack : Int) (s : State) : feasFail a row slack s.bare = (feasFail a row slack s).bare := by
  simp [feasFail]

@[simp] theorem takeFeas_bare (r : FeasResult) (s : State) : takeFeas r s.bare = (takeFeas r s).bare := by
  cases r <;> simp [takeFeas]

@[simp] theorem evalFeas_bare (s : State) : evalFeas s.bare = (evalFeas s).bare := by simp [evalFeas]

@[simp] theorem State.headRows_bare (s : State) : s.bare.headRows = s.headRows := (rfl)

@[simp] theorem State.liveOf_bare (s : State) : s.bare.liveOf = s.liveOf := (rfl)

@[simp] theorem State.inLiveBuffer_bare (s : State) : s.bare.inLiveBuffer = s.inLiveBuffer := (rfl)

@[simp] theorem State.headReady_bare (s : State) : s.bare.headReady = s.headReady := (rfl)

@[simp] theorem State.codedLines_bare (s : State) : s.bare.codedLines = s.codedLines := (rfl)

@[simp] theorem State.lookaheadOk_bare (s : State) : s.bare.lookaheadOk = s.lookaheadOk := (rfl)

@[simp] theorem State.liveOk_bare (s : State) : s.bare.liveOk = s.liveOk := (rfl)

@[simp] theorem State.compOk_bare (s : State) : s.bare.compOk = s.compOk := (rfl)

@[simp] theorem State.dataLost_bare (s : State) : s.bare.dataLost = s.dataLost := (rfl)

@[simp] theorem State.committedSelf_bare (s : State) : s.bare.committedSelf = s.committedSelf := (rfl)

@[simp] theorem State.committed_bare (s : State) : s.bare.committed = s.committed := (rfl)

@[simp] theorem queueRow_bare (br : Nat) (s : State) : queueRow br s.bare = (queueRow br s).bare := by simp [queueRow]

@[simp] theorem State.liveDoses_bare (s : State) : s.bare.liveDoses = s.liveDoses := (rfl)

@[simp] theorem State.storeHeaderOk_bare (s : State) : s.bare.storeHeaderOk = s.storeHeaderOk := (rfl)

@[simp] theorem State.blockWords_bare (s : State) : s.bare.blockWords = s.blockWords := (rfl)

@[simp] theorem loadBlocks_bare (n i : Nat) (s : State) : loadBlocks n i s.bare = (loadBlocks n i s).bare := by
  induction n generalizing i s with
  | zero => rfl
  | succ n ih =>
    simp only [loadBlocks, State.slotAddr_bare, State.dramBytes_bare, State.storeBase_bare, State.slotSize_bare]
    rw [← ih]
    congr 1
    simp
    split <;> simp

/-! ## The carillon and the lanes -/

@[simp] theorem State.raiseN_bare (s : State) (c : FaultCode) (n : Nat) : s.bare.raiseN c n = (s.raiseN c n).bare := by simp [State.raiseN]

@[simp] theorem copyDefects_bare (s : State) : copyDefects s.bare = (copyDefects s).bare := by simp [copyDefects]

@[simp] theorem copySeams_bare (s : State) : copySeams s.bare = (copySeams s).bare := by simp [copySeams]

@[simp] theorem copyTrims_bare (s : State) : copyTrims s.bare = (copyTrims s).bare := by simp [copyTrims]

@[simp] theorem copyPhases_bare (s : State) : copyPhases s.bare = (copyPhases s).bare := by simp [copyPhases]

@[simp] theorem applyStaged_bare (s : State) : applyStaged s.bare = (applyStaged s).bare := by simp [applyStaged]

@[simp] theorem State.laneBusy_bare (s : State) : s.bare.laneBusy = s.laneBusy := (rfl)

@[simp] theorem State.tlLane_bare (s : State) : s.bare.tlLane = s.tlLane := (rfl)

@[simp] theorem startTraining_bare (n : Nat) (s : State) : startTraining n s.bare = (startTraining n s).bare := by simp [startTraining]

@[simp] theorem State.laneSel_bare (s : State) : s.bare.laneSel = s.laneSel := (rfl)

@[simp] theorem doRetrain_bare (s : State) : doRetrain s.bare = (doRetrain s).bare := by simp [doRetrain]

@[simp] theorem laneCommand_bare (cmd n : Nat) (s : State) : laneCommand cmd n s.bare = (laneCommand cmd n s).bare := by simp [laneCommand]

@[simp] theorem doEyeCal_bare (s : State) : doEyeCal s.bare = (doEyeCal s).bare := by simp [doEyeCal]

@[simp] theorem doTxSleep_bare (s : State) : doTxSleep s.bare = (doTxSleep s).bare := by simp [doTxSleep]

@[simp] theorem doRxSleep_bare (s : State) : doRxSleep s.bare = (doRxSleep s).bare := by simp [doRxSleep]

@[simp] theorem wakeTx_bare (n : Nat) (s : State) : wakeTx n s.bare = (wakeTx n s).bare := by simp [wakeTx]

@[simp] theorem wakeRx_bare (n : Nat) (s : State) : wakeRx n s.bare = (wakeRx n s).bare := by simp [wakeRx]

@[simp] theorem State.mayWake_bare (s : State) : s.bare.mayWake = s.mayWake := (rfl)

@[simp] theorem doTxWake_bare (s : State) : doTxWake s.bare = (doTxWake s).bare := by simp [doTxWake]

@[simp] theorem doRxWake_bare (s : State) : doRxWake s.bare = (doRxWake s).bare := by simp [doRxWake]

@[simp] theorem State.imageTaps_bare (s : State) : s.bare.imageTaps = s.imageTaps := (rfl)

@[simp] theorem State.setTaps_bare (s : State) (n pre : Nat) (main post : Nat) :
    s.bare.setTaps n pre main post = (s.setTaps n pre main post).bare := by simp [State.setTaps]

@[simp] theorem clearLatch_bare (s : State) : clearLatch s.bare = (clearLatch s).bare := by simp [clearLatch]

/-! ## The tracking engine -/

@[simp] theorem State.trackOn_bare (s : State) : s.bare.trackOn = s.trackOn := (rfl)

@[simp] theorem satFlags_bare (a mask : Nat) (s : State) : satFlags a mask s.bare = (satFlags a mask s).bare := by simp [satFlags]

@[simp] theorem State.ulim_bare (s : State) : s.bare.ulim = s.ulim := (rfl)

@[simp] theorem applySwap_bare (s : State) : applySwap s.bare = (applySwap s).bare := by simp [applySwap]

@[simp] theorem State.ulimOk_bare (s : State) : s.bare.ulimOk = s.ulimOk := (rfl)

@[simp] theorem doSwap_bare (s : State) : doSwap s.bare = (doSwap s).bare := by simp [doSwap]

@[simp] theorem clearLearning_bare (a : Nat) (s : State) : clearLearning a s.bare = (clearLearning a s).bare := by simp [clearLearning]

@[simp] theorem doTrackClear_bare (s : State) : doTrackClear s.bare = (doTrackClear s).bare := by simp [doTrackClear]

@[simp] theorem State.beatY_bare (s : State) : s.bare.beatY = s.beatY := (rfl)

@[simp] theorem State.tBeat_bare (s : State) : s.bare.tBeat = s.tBeat := (rfl)

@[simp] theorem State.shiftPending_bare (s : State) : s.bare.shiftPending = s.shiftPending := (rfl)

/-! ## Stage metrology, position compare, the profile generator and the set-point port -/

@[simp] theorem State.carilLevel_bare (s : State) : s.bare.carilLevel = s.carilLevel := (rfl)

@[simp] theorem State.deviceLevel_bare (s : State) : s.bare.deviceLevel = s.deviceLevel := (rfl)

@[simp] theorem State.deviceHeadroom_bare (s : State) : s.bare.deviceHeadroom = s.deviceHeadroom := (rfl)

@[simp] theorem State.scanVel_bare (s : State) : s.bare.scanVel = s.scanVel := (rfl)

@[simp] theorem State.metPort_bare (s : State) : s.bare.metPort = s.metPort := (rfl)

@[simp] theorem compareFire_bare (c : Nat) (p : Int) (s : State) : compareFire c p s.bare = (compareFire c p s).bare := by simp [compareFire]

@[simp] theorem State.metSel_bare (s : State) : s.bare.metSel = s.metSel := (rfl)

@[simp] theorem undoStart_bare (c : Nat) (s : State) : undoStart c s.bare = (undoStart c s).bare := by
  refine bareNotes_foldl_state _ (fun u e => ?_) (fun _ _ _ _ _ => rfl) _ _
  split
  · simp
  · rfl

@[simp] theorem doMetCal_bare (s : State) : doMetCal s.bare = (doMetCal s).bare := by simp [doMetCal]

@[simp] theorem State.sampleNow_bare (s : State) (c : Nat) : s.bare.sampleNow c = s.sampleNow c :=
  bareNotes_findSome? _ (fun _ _ _ _ => rfl) _

@[simp] theorem State.posBefore_bare (s : State) (c : Nat) : s.bare.posBefore c = s.posBefore c := by
  simp [State.posBefore]

@[simp] theorem State.targetAhead_bare (s : State) : s.bare.targetAhead = s.targetAhead := (rfl)

@[simp] theorem doCmpArm_bare (s : State) : doCmpArm s.bare = (doCmpArm s).bare := by
  simp only [doCmpArm, State.fd_bare, State.posBefore_bare, State.targetAhead_bare, State.sampleNow_bare]
  split
  · split <;> simp
  · simp

@[simp] theorem doCmpDisarm_bare (s : State) : doCmpDisarm s.bare = (doCmpDisarm s).bare := by simp [doCmpDisarm]

@[simp] theorem State.motionOn_bare (s : State) : s.bare.motionOn = s.motionOn := (rfl)

@[simp] theorem doMove_bare (s : State) : doMove s.bare = (doMove s).bare := by simp [doMove]

@[simp] theorem doStop_bare (s : State) : doStop s.bare = (doStop s).bare := by simp [doStop]

/-! ## Beam scans -/

@[simp] theorem State.dwell_bare (s : State) : s.bare.dwell = s.dwell := (rfl)

@[simp] theorem State.windowLen_bare (s : State) : s.bare.windowLen = s.windowLen := (rfl)

@[simp] theorem State.scanTarget_bare (s : State) : s.bare.scanTarget = s.scanTarget := (rfl)

@[simp] theorem State.scanOk_bare (s : State) : s.bare.scanOk = s.scanOk := (rfl)

@[simp] theorem doScanStart_bare (k : ScanKind) (s : State) : doScanStart k s.bare = (doScanStart k s).bare := by simp [doScanStart]

@[simp] theorem State.scanEntry_bare (s : State) : s.bare.scanEntry = s.scanEntry := (rfl)

@[simp] theorem State.scanPayload_bare (s : State) : s.bare.scanPayload = s.scanPayload := (rfl)

@[simp] theorem doScanAbort_bare (s : State) : doScanAbort s.bare = (doScanAbort s).bare := by
  simp [doScanAbort]
  split <;> simp

@[simp] theorem State.queueCmd_bare (s : State) (c : CadCmd) : s.bare.queueCmd c = (s.queueCmd c).bare := by simp [State.queueCmd]

/-! ## The stripe life cycle -/

@[simp] theorem State.stripeBad_bare (s : State) : s.bare.stripeBad = s.stripeBad := (rfl)

@[simp] theorem State.seamAreaOk_bare (s : State) : s.bare.seamAreaOk = s.seamAreaOk := (rfl)

@[simp] theorem State.passBad_bare (s : State) : s.bare.passBad = s.passBad := (rfl)

@[simp] theorem State.hotBad_bare (s : State) : s.bare.hotBad = s.hotBad := (rfl)

@[simp] theorem State.laceExtent_bare (s : State) : s.bare.laceExtent = s.laceExtent := (rfl)

@[simp] theorem State.pendExtent_bare (s : State) : s.bare.pendExtent = s.pendExtent := (rfl)

@[simp] theorem State.fmapExtent_bare (s : State) : s.bare.fmapExtent = s.fmapExtent := (rfl)

@[simp] theorem State.storeExtent_bare (s : State) : s.bare.storeExtent = s.storeExtent := (rfl)

@[simp] theorem State.extentFits_bare (s : State) : s.bare.extentFits = s.extentFits := (rfl)

@[simp] theorem State.workBad_bare (s : State) : s.bare.workBad = s.workBad := (rfl)

@[simp] theorem State.corrBad_bare (s : State) : s.bare.corrBad = s.corrBad := (rfl)

@[simp] theorem State.densityBad_bare (s : State) : s.bare.densityBad = s.densityBad := (rfl)

@[simp] theorem State.storeBad_bare (s : State) : s.bare.storeBad = s.storeBad := (rfl)

@[simp] theorem State.replayScope_bare (s : State) : s.bare.replayScope = s.replayScope := (rfl)

@[simp] theorem State.liveSourceBad_bare (s : State) : s.bare.liveSourceBad = s.liveSourceBad := (rfl)

@[simp] theorem State.usedLanes_bare (s : State) : s.bare.usedLanes = s.usedLanes := (rfl)

@[simp] theorem State.lanesBad_bare (s : State) : s.bare.lanesBad = s.lanesBad := (rfl)

@[simp] theorem State.metroBad_bare (s : State) : s.bare.metroBad = s.metroBad := (rfl)

@[simp] theorem State.settleNs_bare (s : State) : s.bare.settleNs = s.settleNs := (rfl)

@[simp] theorem State.openTime_bare (s : State) : s.bare.openTime = s.openTime := (rfl)

@[simp] theorem State.motionBad_bare (s : State) : s.bare.motionBad = s.motionBad := (rfl)

@[simp] theorem State.stageBad_bare (s : State) : s.bare.stageBad = s.stageBad := (rfl)

@[simp] theorem State.trackBad_bare (s : State) : s.bare.trackBad = s.trackBad := (rfl)

@[simp] theorem State.armRefusals_bare (s : State) : s.bare.armRefusals = s.armRefusals := (rfl)

@[simp] theorem State.armBarred_bare (s : State) : s.bare.armBarred = s.armBarred := (rfl)

@[simp] theorem State.raiseAll_bare (s : State) (l : List FaultCode) : s.bare.raiseAll l = (s.raiseAll l).bare := by simp [State.raiseAll]

@[simp] theorem State.zeroAll_bare (s : State) (l : List RegField) : s.bare.zeroAll l = (s.zeroAll l).bare := by simp [State.zeroAll]

@[simp] theorem armClear_bare (s : State) : armClear s.bare = (armClear s).bare := by
  have hcount : ∀ u : State, (List.range 8).foldl (fun s m => s.setFd F.STORE_MODE_COUNT_COUNT 0 m) u.bare =
      ((List.range 8).foldl (fun s m => s.setFd F.STORE_MODE_COUNT_COUNT 0 m) u).bare :=
    State.foldl_bare _ (fun u m => State.setFd_bare u _ 0 m) _
  unfold armClear
  rw [State.zeroAll_bare, hcount]
  generalize (List.range 8).foldl (fun s m => s.setFd F.STORE_MODE_COUNT_COUNT 0 m) (s.zeroAll armCleared) = u
  dsimp only
  rw [State.setFd_bare]
  generalize u.setFd F.STAGE_BEAT_PERIOD_MIN 0xFFFF = v
  simp

@[simp] theorem armBind_bare (s : State) : armBind s.bare = (armBind s).bare := by
  simp [armBind]
  split <;> simp

@[simp] theorem armLive_bare (s : State) : armLive s.bare = (armLive s).bare := by
  unfold armLive
  simp [-List.reduceReplicate]

@[simp] theorem armReplay_bare (s : State) : armReplay s.bare = (armReplay s).bare := by simp [armReplay]

@[simp] theorem armAccept_bare (s : State) : armAccept s.bare = (armAccept s).bare := by simp [armAccept]

@[simp] theorem judgeArm_bare (s : State) : judgeArm s.bare = (judgeArm s).bare := by simp [judgeArm]

@[simp] theorem State.putStaged_bare (s : State) (t : StagedTable) (k v : Nat) : s.bare.putStaged t k v = (s.putStaged t k v).bare := by
  simp only [State.putStaged]
  split <;> simp

@[simp] theorem undoEvent_bare (s : State) (e : CycleEvent) : undoEvent s.bare e = (undoEvent s e).bare := by
  simp only [undoEvent]
  split <;> simp

@[simp] theorem protectBurst_bare (o : DmaOp) (n : Nat) (s : State) : protectBurst o n s.bare = (protectBurst o n s).bare := by simp [protectBurst]

@[simp] theorem protectAppend_bare (u : Nat) (seq : Word) (s : State) :
    protectAppend u seq s.bare = (protectAppend u seq s).bare := by simp [protectAppend]

@[simp] theorem rewrite_bare (w : SpanWrite) (f : State → State) (s : State) (hf : ∀ u, f u.bare = (f u).bare) :
    rewrite w f s.bare = (rewrite w f s).bare := by
  simp [rewrite]
  split <;> simp_all

@[simp] theorem redoEvent_bare (armed : Bool) (s : State) (e : CycleEvent) : redoEvent armed s.bare e = (redoEvent armed s e).bare := by
  simp [redoEvent]
  (repeat' split) <;> simp_all

@[simp] theorem doArm_bare (s : State) : doArm s.bare = (doArm s).bare := by
  have hundo : ∀ (l : List CycleEvent) (u : State), (bareNotes l).foldl undoEvent u.bare = (l.foldl undoEvent u).bare :=
    bareNotes_foldl_state undoEvent undoEvent_bare (fun _ _ _ _ _ => rfl)
  have hredo : ∀ (a : Bool) (l : List CycleEvent) (u : State), (bareNotes l).foldl (redoEvent a) u.bare = (l.foldl (redoEvent a) u).bare := fun a =>
    bareNotes_foldl_state (redoEvent a) (fun u e => redoEvent_bare a u e) (fun _ _ _ _ _ => rfl)
  simp [doArm, -List.foldl_reverse, hundo, hredo]

@[simp] theorem scanEnd_bare (f : State → State) (s : State) (hf : ∀ u, f u.bare = (f u).bare) : scanEnd f s.bare = (scanEnd f s).bare := by
  simp [scanEnd, hf]

@[simp] theorem unbind_bare (s : State) : unbind s.bare = (unbind s).bare := by simp [unbind]

@[simp] theorem toIdle_bare (s : State) : toIdle s.bare = (toIdle s).bare := by simp [toIdle]

@[simp] theorem doDisarm_bare (s : State) : doDisarm s.bare = (doDisarm s).bare := by simp [doDisarm]

@[simp] theorem doRelease_bare (s : State) : doRelease s.bare = (doRelease s).bare := by simp [doRelease]

@[simp] theorem State.xTarget_bare (s : State) : s.bare.xTarget = s.xTarget := (rfl)

@[simp] theorem State.runInStart_bare (s : State) : s.bare.runInStart = s.runInStart := (rfl)

@[simp] theorem moveToPass_bare (p : Nat) (w : StageWait) (s : State) : moveToPass p w s.bare = (moveToPass p w s).bare := by simp [moveToPass]

@[simp] theorem acceptStart_bare (s : State) : acceptStart s.bare = (acceptStart s).bare := by simp [acceptStart]

@[simp] theorem refuseStart_bare (chain mismatch : Bool) (s : State) :
    refuseStart chain mismatch s.bare = (refuseStart chain mismatch s).bare := by simp [refuseStart]

@[simp] theorem doStart_bare (s : State) : doStart s.bare = (doStart s).bare := by simp [doStart]

@[simp] theorem doAbort_bare (s : State) : doAbort s.bare = (doAbort s).bare := by simp [doAbort]

/-! ## Power -/

@[simp] theorem State.aonLoad_bare (s : State) : s.bare.aonLoad = s.aonLoad := (rfl)

@[simp] theorem State.hushConds_bare (s : State) : s.bare.hushConds = s.hushConds := (rfl)

@[simp] theorem State.dormantConds_bare (s : State) : s.bare.dormantConds = s.dormantConds := (rfl)

@[simp] theorem requestHush_bare (d : Bool) (s : State) : requestHush d s.bare = (requestHush d s).bare := by
  simp only [requestHush, State.hushConds_bare, State.bare_power]
  split
  · rfl
  · split <;> simp

@[simp] theorem requestDormant_bare (smb : Bool) (s : State) : requestDormant smb s.bare = (requestDormant smb s).bare := by
  simp only [requestDormant, State.hushConds_bare, State.dormantConds_bare, State.bare_power]
  split
  · rfl
  · split <;> simp

@[simp] theorem doPowerCmd_bare (c : Nat) (smb : Bool) (s : State) : doPowerCmd c smb s.bare = (doPowerCmd c smb s).bare := by
  simp only [doPowerCmd]
  split <;> simp

@[simp] theorem State.islandUsed_bare (s : State) : s.bare.islandUsed = s.islandUsed := (rfl)

@[simp] theorem State.powerState_bare (s : State) : s.bare.powerState = s.powerState := (rfl)

@[simp] theorem State.opStatus_bare (s : State) : s.bare.opStatus = s.opStatus := (rfl)

@[simp] theorem State.islandState_bare (s : State) : s.bare.islandState = s.islandState := (rfl)

/-! ## The QSPI flash -/

@[simp] theorem flashSend_bare (o : FlashOp) (a n : Nat) (s : State) : flashSend o a n s.bare = (flashSend o a n s).bare := by simp [flashSend]

@[simp] theorem flashRead_bare (a n : Nat) (s : State) : flashRead a n s.bare = ((flashRead a n s).1, (flashRead a n s).2.bare) := by
  simp [flashRead]
  (repeat' split) <;> simp_all

@[simp] theorem State.setFlash_bare (s : State) (f : FlashSt) : s.bare.setFlash f = (s.setFlash f).bare := by simp [State.setFlash]

@[simp] theorem flashResult_bare (r : Nat) (s : State) : flashResult r s.bare = (flashResult r s).bare := by simp [flashResult]

@[simp] theorem doFlash_bare (o : FlashOp) (s : State) : doFlash o s.bare = (doFlash o s).bare := by simp [doFlash]

@[simp] theorem doFlashCmd_bare (c : Nat) (s : State) : doFlashCmd c s.bare = (doFlashCmd c s).bare := by
  simp only [doFlashCmd]
  split <;> simp

/-! ## The pricking image -/

@[simp] theorem signatureFault_bare (s : State) : signatureFault s.bare = signatureFault s := (rfl)

@[simp] theorem verifyFault_bare (s : State) : verifyFault s.bare = verifyFault s := (rfl)

/-! ## The apply of an image with its pricking reset -/

@[simp] theorem imageCap_bare (s : State) : imageCap s.bare = (imageCap s).bare := by simp [imageCap]

@[simp] theorem imageHorizon_bare (s : State) : imageHorizon s.bare = (imageHorizon s).bare := by simp [imageHorizon]

@[simp] theorem imageFfe_bare (s : State) : imageFfe s.bare = (imageFfe s).bare := by simp [imageFfe]

@[simp] theorem imageRegs_bare (s : State) : imageRegs s.bare = (imageRegs s).bare := by simp [imageRegs]

@[simp] theorem writeStructure_bare (l : List Section) (s : State) : writeStructure l s.bare = (writeStructure l s).bare := by simp [writeStructure]

@[simp] theorem recordCause_bare (c : ResetCause) (s : State) : recordCause c s.bare = (recordCause c s).bare := by simp [recordCause]

@[simp] theorem resetIslands_bare (s : State) : resetIslands s.bare = (resetIslands s).bare := by simp [resetIslands]

@[simp] theorem coldState_bare (s : State) : coldState s.bare = (coldState s).bare := by simp [coldState]

@[simp] theorem warmState_bare (s : State) : warmState s.bare = (warmState s).bare := by simp [warmState]

@[simp] theorem flashSlot_bare (base : Nat) (timeout : Bool) (s : State) :
    flashSlot base timeout s.bare = ((flashSlot base timeout s).1, (flashSlot base timeout s).2.bare) := by
  simp only [flashSlot, flashRead_bare, State.bare_glob, State.emit_bare]
  split
  · rfl
  split
  · rfl
  · rfl
  · simp only [verifyFault_bare]
    split <;> simp

@[simp] theorem loadRejected_bare (v : Verdict) (s : State) : loadRejected v s.bare = (loadRejected v s).bare := by simp [loadRejected]

@[simp] theorem flashApply_bare (n : Nat) (img : List Byte) (l : List Section) (s : State) :
    flashApply n img l s.bare = (flashApply n img l s).bare := by simp [flashApply]

@[simp] theorem safeApply_bare (s : State) : safeApply s.bare = (safeApply s).bare := by simp [safeApply]

@[simp] theorem coldBoot_bare (ta tb : Bool) (s : State) : coldBoot ta tb s.bare = (coldBoot ta tb s).bare := by
  simp only [coldBoot, State.emit_bare, flashSlot_bare, loadRejected_bare]
  split
  · simp
  · split <;> simp

@[simp] theorem State.junction_bare (s : State) : s.bare.junction = s.junction := (rfl)

@[simp] theorem coldReset_bare (c : ResetCause) (ta tb : Bool) (s : State) : coldReset c ta tb s.bare = (coldReset c ta tb s).bare := by
  simp [coldReset]

@[simp] theorem relatch_bare (s : State) (e : CycleEvent) : relatch s.bare e = (relatch s e).bare := by
  simp only [relatch]
  split <;> simp

@[simp] theorem warmReset_bare (c : ResetCause) (s : State) : warmReset c s.bare = (warmReset c s).bare := by
  have hrel : ∀ (l : List CycleEvent) (u : State), (bareNotes l).foldl relatch u.bare = (l.foldl relatch u).bare :=
    bareNotes_foldl_state relatch relatch_bare (fun _ _ _ _ _ => rfl)
  simp [warmReset, hrel]

@[simp] theorem doPrick_bare (isLoad : Bool) (s : State) : doPrick isLoad s.bare = (doPrick isLoad s).bare := by simp [doPrick]

@[simp] theorem doPrickCmd_bare (c : Nat) (s : State) : doPrickCmd c s.bare = (doPrickCmd c s).bare := by
  simp only [doPrickCmd]
  split <;> simp

/-! ## What a read of a register returns -/

@[simp] theorem State.bobPipe_bare (s : State) : s.bare.bobPipe = s.bobPipe := (rfl)

@[simp] theorem State.coefInst_bare (s : State) : s.bare.coefInst = s.coefInst := (rfl)

@[simp] theorem State.hashInst_bare (s : State) : s.bare.hashInst = s.hashInst := (rfl)

@[simp] theorem State.termSel_bare (s : State) : s.bare.termSel = s.termSel := (rfl)

@[simp] theorem State.inst_bare (s : State) : s.bare.inst = s.inst := (rfl)

@[simp] theorem State.globalStatus_bare (s : State) : s.bare.globalStatus = s.globalStatus := (rfl)

@[simp] theorem State.libSlot_bare (s : State) : s.bare.libSlot = s.libSlot := (rfl)

@[simp] theorem State.unitStatus_bare (s : State) : s.bare.unitStatus = s.unitStatus := (rfl)

@[simp] theorem State.laceStatus_bare (s : State) : s.bare.laceStatus = s.laceStatus := (rfl)

@[simp] theorem State.doseStatus_bare (s : State) : s.bare.doseStatus = s.doseStatus := (rfl)

@[simp] theorem State.columnCommitted_bare (s : State) : s.bare.columnCommitted = s.columnCommitted := (rfl)

@[simp] theorem State.planStatus_bare (s : State) : s.bare.planStatus = s.planStatus := (rfl)

@[simp] theorem State.laneStatus_bare (s : State) : s.bare.laneStatus = s.laneStatus := (rfl)

@[simp] theorem State.carilStatus_bare (s : State) : s.bare.carilStatus = s.carilStatus := (rfl)

@[simp] theorem State.stageStatus_bare (s : State) : s.bare.stageStatus = s.stageStatus := (rfl)

@[simp] theorem State.stageWord_bare (s : State) : s.bare.stageWord = s.stageWord := (rfl)

@[simp] theorem State.fecLock_bare (s : State) : s.bare.fecLock = s.fecLock := (rfl)

@[simp] theorem State.delayWord_bare (s : State) : s.bare.delayWord = s.delayWord := (rfl)

@[simp] theorem State.netStatus_bare (s : State) : s.bare.netStatus = s.netStatus := (rfl)

@[simp] theorem State.ringHead_bare (s : State) : s.bare.ringHead = s.ringHead := (rfl)

@[simp] theorem State.ringStatus_bare (s : State) : s.bare.ringStatus = s.ringStatus := (rfl)

@[simp] theorem State.ringWord_bare (s : State) : s.bare.ringWord = s.ringWord := (rfl)

@[simp] theorem State.slotWord_bare (s : State) : s.bare.slotWord = s.slotWord := (rfl)

@[simp] theorem State.unitFields_bare (s : State) : s.bare.unitFields = s.unitFields := (rfl)

@[simp] theorem State.logEntry_bare (s : State) : s.bare.logEntry = s.logEntry := (rfl)

@[simp] theorem State.logHead_bare (s : State) : s.bare.logHead = s.logHead := (rfl)

@[simp] theorem State.snapStatus_bare (s : State) : s.bare.snapStatus = s.snapStatus := (rfl)

@[simp] theorem State.wholeWord_bare (s : State) : s.bare.wholeWord = s.wholeWord := (rfl)

@[simp] theorem State.regOff_bare (s : State) : s.bare.regOff = s.regOff := (rfl)

@[simp] theorem State.regAbsent_bare (s : State) : s.bare.regAbsent = s.regAbsent := (rfl)

@[simp] theorem State.statusFields_bare (s : State) : s.bare.statusFields = s.statusFields := (rfl)

@[simp] theorem State.readReg_bare (s : State) (r : Reg) (w : Nat) : s.bare.readReg r w = s.readReg r w := by simp [State.readReg]

/-! ## Rimshots and the snapshot -/

@[simp] theorem State.captures_bare (s : State) : s.bare.captures = s.captures := (rfl)

@[simp] theorem State.notCaptured_bare (s : State) : s.bare.notCaptured = s.notCaptured := (rfl)

@[simp] theorem State.lastBeat_bare (s : State) : s.bare.lastBeat = s.lastBeat := (rfl)

@[simp] theorem State.laneStatusWord_bare (s : State) : s.bare.laneStatusWord = s.laneStatusWord := (rfl)

@[simp] theorem State.snapWord_bare (s : State) : s.bare.snapWord = s.snapWord := (rfl)

@[simp] theorem State.snapWords_bare (s : State) : s.bare.snapWords = s.snapWords := (rfl)

@[simp] theorem State.rimOn_bare (s : State) : s.bare.rimOn = s.rimOn := (rfl)

@[simp] theorem rimPulse_bare (s : State) : rimPulse s.bare = (rimPulse s).bare := by simp [rimPulse]

@[simp] theorem rimMissed_bare (src code : Nat) (t : Int) (s : State) :
    rimMissed src code t s.bare = (rimMissed src code t s).bare := by simp [rimMissed]

@[simp] theorem snapCapture_bare (src code : Nat) (t : Int) (s : State) : snapCapture src code t s.bare = (snapCapture src code t s).bare := by
  simp [snapCapture]
  split <;> simp

@[simp] theorem rimTake_bare (src code : Nat) (t : Int) (s : State) : rimTake src code t s.bare = (rimTake src code t s).bare := by simp [rimTake]

@[simp] theorem State.rimColumn_bare (s : State) : s.bare.rimColumn = s.rimColumn := (rfl)

@[simp] theorem rimshot_bare (src code : Nat) (s : State) : rimshot src code s.bare = (rimshot src code s).bare := by simp [rimshot]

@[simp] theorem rimRetake_bare (s : State) (e : CycleEvent) : rimRetake s.bare e = (rimRetake s e).bare := by
  simp only [rimRetake]
  split <;> simp

@[simp] theorem snapRelease_bare (s : State) : snapRelease s.bare = (snapRelease s).bare := by
  have hre : ∀ (l : List CycleEvent) (u : State), (bareNotes l).foldl rimRetake u.bare = (l.foldl rimRetake u).bare :=
    bareNotes_foldl_state rimRetake rimRetake_bare (fun _ _ _ _ _ => rfl)
  simp [snapRelease, -List.foldl_reverse, hre]

@[simp] theorem doSnapCmd_bare (c : Nat) (s : State) : doSnapCmd c s.bare = (doSnapCmd c s).bare := by
  simp only [doSnapCmd]
  split <;> simp

/-! ## The commands of start-up and reset -/

@[simp] theorem doResetCmd_bare (v : Nat) (ta tb : Bool) (s : State) : doResetCmd v ta tb s.bare = (doResetCmd v ta tb s).bare := by
  simp only [doResetCmd]
  split
  · simp
  · split <;> simp

/-! ## Register writes -/

theorem pickCmd_bare (c : Nat) (l : List (State → State)) (hl : ∀ f ∈ l, ∀ u, f u.bare = (f u).bare) (s : State) :
    pickCmd c l s.bare = (pickCmd c l s).bare := by
  cases c with
  | zero => rfl
  | succ n =>
    simp only [pickCmd]
    split
    · rename_i f hf
      exact hl f (List.mem_of_getElem? hf) s
    · rfl

@[simp] theorem laneCmd_bare (c : Nat) (s : State) : laneCmd c s.bare = (laneCmd c s).bare := pickCmd_bare c _ (by simp) s

@[simp] theorem ringCmd_bare (c n : Nat) (s : State) : ringCmd c n s.bare = (ringCmd c n s).bare := pickCmd_bare c _ (by simp) s

@[simp] theorem checkCmd_bare (c : Nat) (s : State) : checkCmd c s.bare = (checkCmd c s).bare := by simp [checkCmd]

@[simp] theorem servoCmd_bare (v : Word) (s : State) : servoCmd v s.bare = (servoCmd v s).bare := by simp [servoCmd]

@[simp] theorem timeCmd_bare (v : Word) (s : State) : timeCmd v s.bare = (timeCmd v s).bare := by
  simp only [timeCmd]
  split <;> split <;> simp

end Sys2Proof.Machine

/-! PROOFS. A write of a command's value to its command register is that command (R606). -/
namespace Sys2Proof.Machine

variable {s : State} {r : Reg}

/-! ## A command register -/

theorem State.eq_of_bare {t u : State} (h : t.bare = u.bare) : t = { u with cyc := t.cyc } :=
  calc t = { t.bare with cyc := t.cyc } := rfl
    _ = { u.bare with cyc := t.cyc } := by rw [h]

/-- What says which registers are absent: the structure, and the lane that LANE_SEL names. -/
def State.seat (s : State) : Structure × Nat := (s.str, s.fd F.LANE_SEL_LANE)

theorem State.regAbsent_congr {t : State} (h : t.seat = s.seat) (r : Reg) : t.regAbsent r = s.regAbsent r := by
  obtain ⟨hstr, hsel⟩ : t.str = s.str ∧ t.fd F.LANE_SEL_LANE = s.fd F.LANE_SEL_LANE := Prod.mk.inj h
  have hpipe : t.pipeOfPillow = s.pipeOfPillow := by
    funext p
    rw [State.pipeOfPillow, State.pipeOfPillow, hstr]
  have hnative : t.native = s.native := by rw [State.native, State.native, hstr]
  have hleads : t.leads = s.leads := by rw [State.leads, State.leads, hstr]
  have hused : t.islandUsed = s.islandUsed := by
    funext i
    rw [State.islandUsed, State.islandUsed, hpipe, hnative, hleads, hstr]
  have hlane : t.laneSel = s.laneSel := by rw [State.laneSel, State.laneSel, hsel]
  unfold State.regAbsent State.regOff
  rw [hpipe, hused, hnative, hleads, hlane, hstr]

theorem State.setFd_seat (s : State) (x : RegField) (v i : Nat) (h : Reg.LANE_SEL ≠ x.reg) : (s.setFd x v i).seat = s.seat :=
  congrArg (Prod.mk s.str) (State.fd_setFd_ne s x F.LANE_SEL_LANE v i 0 h)

theorem State.bump_seat (s : State) (x : RegField) (n i : Nat) (h : Reg.LANE_SEL ≠ x.reg) : (s.bump x n i).seat = s.seat :=
  State.setFd_seat s x _ i h

theorem State.mark_seat (s : State) (e : CycleEvent) : (s.mark e).seat = s.seat := rfl

theorem State.power_seat (s : State) (p : PowerSt) : ({ s with power := p } : State).seat = s.seat := rfl

theorem State.setTransit_seat (s : State) (t : Transit) : (s.setTransit t).seat = s.seat := rfl

theorem State.woken_seat (s : State) (src : Nat) : (s.woken src).seat = s.seat := by
  rw [State.woken, State.mark_seat, State.setFlag, State.mark_seat, State.setFd_seat _ _ _ _ (by decide)]

theorem State.abortEntry_seat (s : State) (target src : Nat) : (s.abortEntry target src).seat = s.seat := by
  let u := s.mark (.entryAborted s.power.transit s.power.thenDormant [src] (abortRegs.map (fun r => (r, s.rg r))))
  let v := (((u.bump F.POWER_ABORT_COUNT_COUNT).setFd F.POWER_LAST_REFUSAL_REFUSER 14).setFd F.POWER_LAST_REFUSAL_TARGET target).setFd
    F.POWER_LAST_REFUSAL_WAKE_SRC (2 ^ src)
  calc (s.abortEntry target src).seat = v.seat := State.power_seat v _
    _ = u.seat := by
      rw [State.setFd_seat _ _ _ _ (by decide), State.setFd_seat _ _ _ _ (by decide), State.setFd_seat _ _ _ _ (by decide),
        State.bump_seat _ _ _ _ (by decide)]
    _ = s.seat := State.mark_seat s _

theorem State.wake_seat (s : State) {src : Nat} (h : src < 8) : (s.wake src).seat = s.seat := by
  cases hon : s.wakeOn src with
  | false => rw [State.wake_off s hon]
  | true =>
    rw [State.wake_on s h hon, ← State.woken_seat s src]
    split
    · split
      · exact State.abortEntry_seat ..
      · rfl
    · split
      · exact State.abortEntry_seat ..
      · exact State.abortEntry_seat ..
    · split <;> rfl
    · rfl
    · rfl

theorem State.wakeBy_seat (s : State) (r : Reg) : (s.wakeBy r).seat = s.seat := by
  have hyields : (hushYields 1 s).seat = s.seat := by
    unfold hushYields
    split
    · rw [entryRefused, State.setFd_seat _ _ _ _ (by decide), State.setFd_seat _ _ _ _ (by decide), State.bump_seat _ _ _ _ (by decide),
        State.power_seat]
    · rfl
  rw [State.wakeBy, State.wake_seat _ (by decide)]
  split
  · exact hyields
  · rfl

/-- Two writes that wait for the same state of the device and do the same but for notes of writes. -/
theorem State.hostWrite_bare_congr {w : Nat} {v : Word} {f g : State → State} (h : (f s).bare = (g s).bare)
    (hw : (f (s.wakeBy r)).bare = (g (s.wakeBy r)).bare) : (s.hostWrite r w v f).bare = (s.hostWrite r w v g).bare := by
  have hstand : ∀ u : State, (f u).bare = (g u).bare → (if u.cmdAbsent r then u else f u).bare = (if u.cmdAbsent r then u else g u).bare := by
    intro u hu
    split
    · rfl
    · exact hu
  simp only [State.hostWrite]
  split
  · rfl
  split
  · rfl
  · split
    · rfl
    · exact hstand s h
  · split
    · exact hstand _ hw
    · exact hstand s h

/-- A write of a command's value is that command, but for its note. -/
theorem regWrite_bare {v : Word} {f : State → State} (habs : s.regAbsent r = false) (hlock : lockMask s.str.locks r = 0)
    (hcmd : commandOf r v = some f) (hf : ∀ u, f u.bare = (f u).bare) : (regWrite r 0 v s).bare = (f s).bare := by
  rw [regWrite_noLock habs hlock]
  simp only [writeThrough, hcmd]
  rw [← hf, State.mark_write_bare s rfl, hf]

theorem Reg.offset_word (r : Reg) : r.offset % 4 = 0 ∧ r.offset < 2 ^ 32 := by
  cases r <;> decide

theorem bar0Write_offset (s : State) (r : Reg) (v : Word) : bar0Write r.offset v true s = s.hostWrite r 0 v (regWrite r 0 v) := by
  cases hready : s.glob.ready with
  | false => simp [bar0Write_notReady hready, State.hostWrite, hready, Reg.off]
  | true => exact bar0Write_mapped hready v (Reg.offset_word r).1 (Reg.at?_offset r)

/-- A row whose effect is a command: a write of its value to the command register has that effect. -/
theorem write_acts {v : Nat} {c : Instr} {f g : State → State} (hrow : exec c s = .next (s.hostCmd r v g))
    (hcmd : commandOf r (BitVec.ofNat 32 v) = some f) (hfg : ∀ u, f u = g u) (hg : ∀ u, g u.bare = (g u).bare)
    (habs : s.regAbsent r = false) (hlock : lockMask s.str.locks r = 0) :
    ∃ t u, exec (.regWrite .bar0 (BitVec.ofNat 32 r.offset) (BitVec.ofNat 32 v) true) s = .next t ∧ exec c s = .next u ∧ t = { u with cyc := t.cyc } := by
  obtain rfl : f = g := funext hfg
  have hseat := State.wakeBy_seat s r
  have hstr : (s.wakeBy r).str = s.str := congrArg Prod.fst hseat
  refine ⟨_, _, rfl, hrow, State.eq_of_bare ?_⟩
  rw [hostStore, BitVec.toNat_ofNat, Nat.mod_eq_of_lt (Reg.offset_word r).2, bar0Write_offset]
  refine State.hostWrite_bare_congr (regWrite_bare habs hlock hcmd hg) (regWrite_bare ?_ ?_ hcmd hg)
  · rw [State.regAbsent_congr hseat, habs]
  · rw [hstr, hlock]

/-- Settles O48: `write_acts` for each row; the command does not read the note that its write leaves, which the lemmas `_bare` say. -/
theorem commandRegistersAct : Obligations.CommandRegistersAct := by
  unfold Obligations.CommandRegistersAct
  have hkey : ∀ (n : Nat) (key : BitVec 8), n < 3 → (BitVec.ofNat 32 (n + 256 * key.toNat)).toNat = n + 256 * key.toNat := fun n key hn => by
    have := key.isLt
    rw [BitVec.toNat_ofNat, Nat.mod_eq_of_lt (by omega)]
  refine ⟨?_, fun s key habs hlock => ?_, fun s key habs hlock => ?_⟩
  · intro r v c s hmem
    simp only [List.mem_cons, List.not_mem_nil, or_false, Prod.mk.injEq] at hmem
    repeat' refine Or.elim hmem ?_ ?_ <;> clear hmem <;> intro hmem
    all_goals
      obtain ⟨rfl, rfl, rfl⟩ := hmem
      exact fun habs hlock => write_acts rfl rfl (fun _ => rfl) (fun _ => by simp) habs hlock
  · exact write_acts rfl rfl (fun u => by rw [hkey 1 key (by decide)]) (fun _ => by simp) habs hlock
  · exact write_acts rfl rfl (fun u => by rw [hkey 2 key (by decide)]) (fun _ => by simp) habs hlock
end Sys2Proof.Machine
